-- ==== Sys2Proof/Kinds.lean ====
section
/-! DEFINITION. The kinds of operand that the commands of the table carry. -/

namespace Sys2Proof

/-- The two lanes (spec/01 "Active and shadow"). -/
inductive LaneId where
  | a | b
  deriving DecidableEq, Repr, Inhabited

/-- The other lane. -/
def LaneId.other : LaneId → LaneId
  | .a => .b
  | .b => .a

/-- The number of a lane: 0 Lane A, 1 Lane B (R41). -/
def LaneId.num : LaneId → Nat
  | .a => 0
  | .b => 1

/-- The lane of a number. -/
def LaneId.ofNum (n : Nat) : LaneId := if n = 0 then .a else .b

/-- Where an instruction issues: the lane, the core, and the guard field of the word (R53). -/
structure Issue where
  lane : LaneId
  core : Fin 8
  g : Fin 8
  n : Bool
  deriving DecidableEq, Repr, Inhabited

/-- A value register number. -/
abbrev VReg := Fin 32

/-- A predicate number. -/
abbrev PReg := Fin 8

/-- The condition of a compare (R62). -/
inductive Cond where
  | eq | ne | lt | ge | ltu | geu | bs | bc
  deriving DecidableEq, Repr, Inhabited

/-- The operation of PLOG (R63). -/
inductive Pop where
  | and | or | xor | andn | orn | xnor | set | clr
  deriving DecidableEq, Repr, Inhabited

/-- The shift kinds of SHI (R60). -/
inductive ShKind where
  | shl | shr | sar | ror
  deriving DecidableEq, Repr, Inhabited

/-- How a transmitted CAN frame ends (R383). -/
inductive TxEnd where
  | sent | lost | error
  deriving DecidableEq, Repr, Inhabited

/-- The halyard registers under the OFF-state rule of R125. -/
inductive HalReg where
  | cfg | wheel | offset | ratio | unit
  deriving DecidableEq, Repr, Inhabited

/-- The shared engines (R47). -/
inductive Engine where
  | hsi | pcl | cam | fus | can | lin | snt | ser | eth | tim | fab | recd | pnl | cfg | sec | pwr
  deriving DecidableEq, Repr, Inhabited

/-- Who reads the beat of an uncorrectable error (R22, R466): a lane from its own memories, a lane from the DRAM, a shared
engine with the fault code that it defines, the mirror of a rejoin. -/
inductive EccReader where
  | laneMemory (l : LaneId)
  | laneDram (l : LaneId) (beat : BitVec 26)
  | engine (e : Engine) (code : BitVec 32) (beat : BitVec 26)
  | mirror (beat : BitVec 26)
  deriving DecidableEq, Repr, Inhabited

/-- What the tests of a start find (R527–R531): a lane that fails, DRAM training that fails its check, SEC or CFG that fails
its own check. -/
structure StartTests where
  laneA : Bool
  laneB : Bool
  training : Bool
  sec : Bool
  cfg : Bool
  deriving DecidableEq, Repr, Inhabited

end Sys2Proof
end

