-- ==== Sys2Proof/Machine/RegTypes.lean ====
section
/-! DEFINITION. The vocabulary of the register map: blocks (R47), access codes (R9), fields with their reset
values and classes (R10), register descriptions. -/

namespace Sys2Proof.Machine

/-- The register blocks of R47. -/
inductive Block where
  | sys | hal | evt | lpe | ddv | pvc | lsw | hsi | pcl | cam | fus | can | lin | snt | ser | eth | tim | hst
  | fab | recd | pnl | cfg | sec | pwr
  deriving DecidableEq, Repr, Inhabited

/-- The access codes of R9. -/
inductive Access where
  | rw | ro | wo | w1c | w1s | rc | rwl
  deriving DecidableEq, Repr

/-- A field of a register: bits [hi:lo], access code (R9), cold reset value, whether a warm start keeps it (R10),
and the closed ranges of values a write may carry (empty: every value). -/
structure FieldDesc where
  name : String
  hi : Nat
  lo : Nat
  acc : Access
  reset : Nat
  kept : Bool
  ranges : List (Nat × Nat)
  deriving DecidableEq, Repr

/-- A register of a block: its offset, the repetitions of it (stride and count, outermost first), its fields. -/
structure RegDesc where
  name : String
  off : Nat
  dims : List (Nat × Nat)
  fields : List FieldDesc
  deriving DecidableEq, Repr

/-- A field of the map, resetting to the same value at a warm start. -/
def F (name : String) (hi lo : Nat) (acc : Access) (reset : Nat := 0) (ranges : List (Nat × Nat) := []) : FieldDesc :=
  ⟨name, hi, lo, acc, reset, false, ranges⟩

/-- A field of the map that a warm start keeps. -/
def K (name : String) (hi lo : Nat) (acc : Access) (reset : Nat := 0) (ranges : List (Nat × Nat) := []) : FieldDesc :=
  ⟨name, hi, lo, acc, reset, true, ranges⟩

/-- A register without repetitions. -/
def R (name : String) (off : Nat) (fields : List FieldDesc) : RegDesc := ⟨name, off, [], fields⟩

/-- A register repeated along the given strides. -/
def RA (name : String) (off : Nat) (dims : List (Nat × Nat)) (fields : List FieldDesc) : RegDesc := ⟨name, off, dims, fields⟩

end Sys2Proof.Machine
end

