-- ==== Sys2Proof/Syntax.lean ====
section
/-! DEFINITION. The commands of the module: one constructor per row of the table. -/

namespace Sys2Proof

/-- A command. Its docstrings quote the row of the table and its rule. -/
inductive Instr where
  /-- GENERIC_REGISTER_WRITE (R12): A write to a register field without a row of its own, applying access codes, LOCK, ownership and range rules. -/
  | genericRegisterWrite (l : LaneId) (c : Fin 8) (a : BitVec 24) (v : Word)
  /-- READ_CLEAR (R9): A read of an RC register returns its value and clears it, including through a narrow load. -/
  | readClear (l : LaneId) (c : Fin 8) (a : BitVec 24)
  /-- BLOCK_LOCK (R12): Writing 1 to a block's LOCK bit makes its RWL fields read only. -/
  | blockLock (l : LaneId) (b : Machine.Block)
  /-- LATCHED_PAIR_READ (R496): Reading a LO register of a 64-bit pair latches the matching HI register. -/
  | latchedPairRead (l : LaneId) (c : Fin 8) (a : BitVec 24)
  /-- FAIL_SELF (R49): A write of FAIL_SELF declares the writing lane failed with cause COMMANDED. -/
  | failSelf (l : LaneId)
  /-- REJOIN_PEER (R40): A write of REJOIN_PEER in the surviving lane starts the rejoin of the failed lane. -/
  | rejoinPeer (l : LaneId)
  /-- REJOIN_CATCH_UP (R537): When the mirror copy is done, the surviving lane stalls, the remaining state is copied and the rejoined lane becomes shadow-ready. -/
  | rejoinCatchUp 
  /-- REJOIN_TIMEOUT (R538): A rejoin whose catch-up has not begun within 1 s fails and the lane mode returns to single. -/
  | rejoinTimeout 
  /-- LOCKSTEP_MISMATCH (R22): A mismatch between the halves of a core pair makes the lane declare itself failed. -/
  | lockstepMismatch (l : LaneId)
  /-- ECC_UNCORRECTABLE (R466): An uncorrectable DRAM or memory error fails the reading lane, hard-faults the reading engine or fails a rejoin. -/
  | eccUncorrectable (r : EccReader)
  /-- JOURNAL_WRITE_FAIL (R22): A failed read-back of an MRAM journal write makes the lane declare itself failed. -/
  | journalWriteFail (l : LaneId)
  /-- LANE_SUPPLY_FAIL (R22): The lane's supply monitor leaving its window makes the lane declare itself failed. -/
  | laneSupplyFail (l : LaneId)
  /-- WATCHDOG_KICK (R24): A write to WDKICK forms or discards a half of the service key pair and restarts the count on a complete pair. -/
  | watchdogKick (l : LaneId) (c : Fin 8) (v : Word)
  /-- WATCHDOG_EXPIRY (R24): The lane watchdog count reaches 0 and the lane declares itself failed with cause WATCHDOG. -/
  | watchdogExpiry (l : LaneId)
  /-- MIRROR_HEARTBEAT (R23): Each lane sends a mirror heartbeat to its peer every 20 µs. -/
  | mirrorHeartbeat (l : LaneId)
  /-- PEER_SILENT (R23): A peer heartbeat absent for 100 µs records SILENT and starts takeover if the peer was active. -/
  | peerSilent (l : LaneId)
  /-- TAKEOVER (R33): The surviving lane raises the lane epoch, moves ownership of sequencers and engines, refreshes levels and posts TAKEOVER. -/
  | takeover 
  /-- LANE_STRIKE (R37): A lane that finds a higher lane epoch stops commands and ticks and records FENCED. -/
  | laneStrike (l : LaneId)
  /-- OWNERSHIP_CHANGE (R35): An ownership change with a new epoch reaches a sequencer or shared engine. -/
  | ownershipChange (l : LaneId) (t : Option (Fin 62))
  /-- OWNER_TICK (R30): An owner tick reaches a sequencer and restarts its hold timer. -/
  | ownerTick (l : LaneId) (n : Fin 62)
  /-- SEQUENCER_COMMAND (R28): A lane command reaches a sequencer, which executes it from the owner and compares the other lane's copy. -/
  | sequencerCommand (l : LaneId) (n : Fin 62)
  /-- MISSING_COPY_TIMEOUT (R26): One lane's copy of a command still missing 20 µs after the other counts as a mismatch with WORD 0xFF. -/
  | missingCopyTimeout (l : LaneId) (n : Fin 62)
  /-- HOLD_TIMER_EXPIRY (R31): A sequencer's hold timer expires and its channel takes its reset class. -/
  | holdTimerExpiry (n : Fin 62)
  /-- ENGINE_HARD_FAULT (R27): A shared engine hard-faults, sets its fault status, records it and posts HARDFAULT to both lanes. -/
  | engineHardFault (e : Engine) (code : BitVec 32)
  /-- ILL (R57): ILL with a true guard raises the ILLEGAL trap. -/
  | ill (i : Issue) (w : BitVec 22)
  /-- ADD (R58): Adds two registers modulo 2^32. -/
  | add (i : Issue) (d a b : VReg)
  /-- SUB (R58): Subtracts two registers modulo 2^32. -/
  | sub (i : Issue) (d a b : VReg)
  /-- AND (R58): Bitwise AND of two registers. -/
  | and (i : Issue) (d a b : VReg)
  /-- OR (R58): Bitwise OR of two registers. -/
  | or (i : Issue) (d a b : VReg)
  /-- XOR (R58): Bitwise XOR of two registers. -/
  | xor (i : Issue) (d a b : VReg)
  /-- ANDN (R58): a AND NOT b. -/
  | andn (i : Issue) (d a b : VReg)
  /-- SHL (R58): Shift left by b[4:0] with zero fill. -/
  | shl (i : Issue) (d a b : VReg)
  /-- SHR (R58): Logical shift right by b[4:0]. -/
  | shr (i : Issue) (d a b : VReg)
  /-- SAR (R58): Arithmetic shift right by b[4:0]. -/
  | sar (i : Issue) (d a b : VReg)
  /-- ROR (R58): Rotate right by b[4:0]. -/
  | ror (i : Issue) (d a b : VReg)
  /-- MIN (R58): Signed minimum. -/
  | min (i : Issue) (d a b : VReg)
  /-- MAX (R58): Signed maximum. -/
  | max (i : Issue) (d a b : VReg)
  /-- MINU (R58): Unsigned minimum. -/
  | minu (i : Issue) (d a b : VReg)
  /-- MAXU (R58): Unsigned maximum. -/
  | maxu (i : Issue) (d a b : VReg)
  /-- ADDS (R58): Saturating signed add, setting ST.SAT on clamping. -/
  | adds (i : Issue) (d a b : VReg)
  /-- SUBS (R58): Saturating signed subtract, setting ST.SAT on clamping. -/
  | subs (i : Issue) (d a b : VReg)
  /-- MUL (R58): Low 32 bits of the product. -/
  | mul (i : Issue) (d a b : VReg)
  /-- MULH (R58): High 32 bits of the signed product. -/
  | mulh (i : Issue) (d a b : VReg)
  /-- MULHU (R58): High 32 bits of the unsigned product. -/
  | mulhu (i : Issue) (d a b : VReg)
  /-- DIV (R59): Signed division truncated toward zero, never trapping. -/
  | div (i : Issue) (d a b : VReg)
  /-- DIVU (R59): Unsigned division, never trapping. -/
  | divu (i : Issue) (d a b : VReg)
  /-- REM (R59): Signed remainder with the sign of the dividend. -/
  | rem (i : Issue) (d a b : VReg)
  /-- REMU (R59): Unsigned remainder. -/
  | remu (i : Issue) (d a b : VReg)
  /-- CLZ (R58): Counts leading zeros. -/
  | clz (i : Issue) (d a : VReg)
  /-- ABS (R58): Saturating absolute value. -/
  | abs (i : Issue) (d a : VReg)
  /-- SEXTB (R58): Sign-extends the low byte. -/
  | sextb (i : Issue) (d a : VReg)
  /-- SEXTH (R58): Sign-extends the low halfword. -/
  | sexth (i : Issue) (d a : VReg)
  /-- ADDI (R60): Adds a sign-extended immediate. -/
  | addi (i : Issue) (d a : VReg) (k : BitVec 12)
  /-- ANDI (R60): ANDs a zero-extended immediate. -/
  | andi (i : Issue) (d a : VReg) (k : BitVec 12)
  /-- ORI (R60): ORs a zero-extended immediate. -/
  | ori (i : Issue) (d a : VReg) (k : BitVec 12)
  /-- XORI (R60): XORs a zero-extended immediate. -/
  | xori (i : Issue) (d a : VReg) (k : BitVec 12)
  /-- SHI (R60): Immediate shift or rotate selected by K[11:10]. -/
  | shi (i : Issue) (d a : VReg) (k : ShKind) (n : Fin 32)
  /-- MOVL (R61): Loads a zero-extended 16-bit constant. -/
  | movl (i : Issue) (d : VReg) (k : BitVec 16)
  /-- MOVH (R61): Writes the upper halfword, keeping the lower. -/
  | movh (i : Issue) (d : VReg) (k : BitVec 16)
  /-- MOVW (R61): Writes its 32-bit extension word to vD. -/
  | movw (i : Issue) (d : VReg) (w : Word)
  /-- CMP (R62): Register compare writing a predicate. -/
  | cmp (i : Issue) (p : PReg) (k : Cond) (a b : VReg)
  /-- CMPI (R62): Immediate compare writing a predicate. -/
  | cmpi (i : Issue) (p : PReg) (k : Cond) (a : VReg) (imm : BitVec 11)
  /-- PLOG (R63): Predicate logic operation. -/
  | plog (i : Issue) (p pa pb : PReg) (k : Pop)
  /-- PADD (R67): Packed saturating Q15 add. -/
  | padd (i : Issue) (d a b : VReg)
  /-- PSUB (R67): Packed saturating Q15 subtract. -/
  | psub (i : Issue) (d a b : VReg)
  /-- PMULR (R67): Packed rounded Q15 multiply. -/
  | pmulr (i : Issue) (d a b : VReg)
  /-- PABS (R67): Packed saturating absolute value. -/
  | pabs (i : Issue) (d a : VReg)
  /-- PNEG (R67): Packed saturating negation. -/
  | pneg (i : Issue) (d a : VReg)
  /-- PMIN (R67): Packed signed minimum. -/
  | pmin (i : Issue) (d a b : VReg)
  /-- PMAX (R67): Packed signed maximum. -/
  | pmax (i : Issue) (d a b : VReg)
  /-- PSHRA (R67): Packed arithmetic shift right. -/
  | pshra (i : Issue) (d a b : VReg)
  /-- PSHLS (R67): Packed saturating shift left. -/
  | pshls (i : Issue) (d a b : VReg)
  /-- PACKLL (R67): Packs the two low halves. -/
  | packll (i : Issue) (d a b : VReg)
  /-- PACKHH (R67): Packs the two high halves. -/
  | packhh (i : Issue) (d a b : VReg)
  /-- PACKHL (R67): Packs a high and a low half. -/
  | packhl (i : Issue) (d a b : VReg)
  /-- PSWAP (R67): Swaps the halves. -/
  | pswap (i : Issue) (d a : VReg)
  /-- MAC_LL (R68): Accumulates the low-low product. -/
  | macLl (i : Issue) (ac : Fin 4) (a b : VReg)
  /-- MAC_LH (R68): Accumulates the low-high product. -/
  | macLh (i : Issue) (ac : Fin 4) (a b : VReg)
  /-- MAC_HL (R68): Accumulates the high-low product. -/
  | macHl (i : Issue) (ac : Fin 4) (a b : VReg)
  /-- MAC_HH (R68): Accumulates the high-high product. -/
  | macHh (i : Issue) (ac : Fin 4) (a b : VReg)
  /-- MSU_LL (R68): Subtracts the low-low product. -/
  | msuLl (i : Issue) (ac : Fin 4) (a b : VReg)
  /-- MSU_LH (R68): Subtracts the low-high product. -/
  | msuLh (i : Issue) (ac : Fin 4) (a b : VReg)
  /-- MSU_HL (R68): Subtracts the high-low product. -/
  | msuHl (i : Issue) (ac : Fin 4) (a b : VReg)
  /-- MSU_HH (R68): Subtracts the high-high product. -/
  | msuHh (i : Issue) (ac : Fin 4) (a b : VReg)
  /-- MAC2 (R68): Accumulates pLL plus pHH. -/
  | mac2 (i : Issue) (ac : Fin 4) (a b : VReg)
  /-- MAC2X (R68): Accumulates pLH plus pHL. -/
  | mac2x (i : Issue) (ac : Fin 4) (a b : VReg)
  /-- MSU2 (R68): Subtracts pLL and pHH. -/
  | msu2 (i : Issue) (ac : Fin 4) (a b : VReg)
  /-- MUL_LL (R68): Sets the accumulator to pLL. -/
  | mulLl (i : Issue) (ac : Fin 4) (a b : VReg)
  /-- MUL2 (R68): Sets the accumulator to pLL plus pHH. -/
  | mul2 (i : Issue) (ac : Fin 4) (a b : VReg)
  /-- ACLR (R68): Clears an accumulator. -/
  | aclr (i : Issue) (ac : Fin 4)
  /-- ACLDQ (R68): Loads a Q15 value exactly into Q9.30. -/
  | acldq (i : Issue) (ac : Fin 4) (a : VReg)
  /-- ACSET (R68): Sets all 40 accumulator bits from two registers. -/
  | acset (i : Issue) (ac : Fin 4) (a b : VReg)
  /-- EXT (R65): Extracts an accumulator to Q15 with shift, rounding and saturation. -/
  | ext (i : Issue) (d : VReg) (ac : Fin 4) (sh : Fin 8)
  /-- ACRD (R68): Reads accumulator bits [31:0]. -/
  | acrd (i : Issue) (d : VReg) (ac : Fin 4)
  /-- ACRH (R68): Reads accumulator bits [39:32] sign-extended. -/
  | acrh (i : Issue) (d : VReg) (ac : Fin 4)
  /-- ACSAR (R68): Arithmetic shift right of an accumulator. -/
  | acsar (i : Issue) (ac : Fin 4) (b : VReg)
  /-- MFS (R79): Reads a special register, latching CYCLEH on a CYCLE read. -/
  | mfs (i : Issue) (d : VReg) (sn : Fin 128)
  /-- MTS (R80): Writes a special register after earlier instructions complete. -/
  | mts (i : Issue) (a : VReg) (sn : Fin 128)
  /-- LDB (R72): Signed byte load. -/
  | ldb (i : Issue) (d a : VReg) (k : BitVec 12)
  /-- LDBU (R72): Unsigned byte load. -/
  | ldbu (i : Issue) (d a : VReg) (k : BitVec 12)
  /-- LDH (R72): Signed halfword load. -/
  | ldh (i : Issue) (d a : VReg) (k : BitVec 12)
  /-- LDHU (R72): Unsigned halfword load. -/
  | ldhu (i : Issue) (d a : VReg) (k : BitVec 12)
  /-- LDW (R72): Word load. -/
  | ldw (i : Issue) (d a : VReg) (k : BitVec 12)
  /-- STB (R72): Byte store. -/
  | stb (i : Issue) (v a : VReg) (k : BitVec 12)
  /-- STH (R72): Halfword store. -/
  | sth (i : Issue) (v a : VReg) (k : BitVec 12)
  /-- STW (R72): Word store. -/
  | stw (i : Issue) (v a : VReg) (k : BitVec 12)
  /-- LOAD_RETURN (R77): An outstanding load's data returns and is written to its register. -/
  | loadReturn (l : LaneId) (c : Fin 8) (d : VReg)
  /-- STORE_DRAIN (R109): A buffered store leaves the store buffer and takes effect in memory or a register block. -/
  | storeDrain (l : LaneId) (c : Fin 8) (k : Fin 8)
  /-- B (R69): Relative branch. -/
  | b (i : Issue) (k : BitVec 22)
  /-- BL (R69): Relative branch writing the link to v31. -/
  | bl (i : Issue) (k : BitVec 22)
  /-- JR (R70): Jump to a register address. -/
  | jr (i : Issue) (a : VReg)
  /-- JLR (R70): Jump to a register address with link. -/
  | jlr (i : Issue) (a : VReg)
  /-- RTT (R82): Returns to TPC and clears ST.TRAP. -/
  | rtt (i : Issue)
  /-- WAITE (R97): Suspends the core until its event queue is non-empty. -/
  | waite (i : Issue) (d : VReg)
  /-- WAITA (R97): Suspends the core until a halyard reaches a position. -/
  | waita (i : Issue) (d a b : VReg)
  /-- WAITAE (R97): Suspends the core until a position is reached or an event arrives. -/
  | waitae (i : Issue) (d a b : VReg)
  /-- WAIT_END (R101): The ending condition of a wait occurs and the core resumes with the outcome in vD. -/
  | waitEnd (l : LaneId) (c : Fin 8)
  /-- WAIT_TIMEOUT (R100): WAITTMO elapses and the wait ends with TIMEOUT. -/
  | waitTimeout (l : LaneId) (c : Fin 8)
  /-- TAKE (R94): Removes the oldest event-queue entry into vD and v(D+1). -/
  | take (i : Issue) (d : VReg)
  /-- POST (R95): Posts a CORE entry to a core of the same lane after a lane fence. -/
  | post (i : Issue) (d a b : VReg)
  /-- POST_VISIBLE (R95): A delivered POST entry becomes visible to the target core. -/
  | postVisible (l : LaneId) (c : Fin 8)
  /-- EVENT_POSTING (R93): A hardware posting reaches a core's event queue or is dropped when full. -/
  | eventPosting (l : LaneId) (c : Fin 8) (src : Fin 7) (code : BitVec 8) (arg : BitVec 16) (data : Word)
  /-- EVQ_CLEAR (R96): Writing EVQCTL.CLR clears LOST and OVF. -/
  | evqClear (l : LaneId) (c : Fin 8)
  /-- JPUT (R102): Submits a job to a send stream. -/
  | jput (i : Issue) (d a : VReg)
  /-- JTAKE (R103): Copies the oldest untaken accepted job to a buffer. -/
  | jtake (i : Issue) (d a b : VReg)
  /-- JDONE (R104): Completes the oldest taken job of a stream. -/
  | jdone (i : Issue) (d a b : VReg)
  /-- LCSWAP (R106): Writes a loop context image into the shadow half. -/
  | lcswap (i : Issue) (d a b : VReg)
  /-- FENCE_L (R110): Lane fence. -/
  | fenceL (i : Issue)
  /-- FENCE_E (R110): Engine fence. -/
  | fenceE (i : Issue)
  /-- FENCE_COMPLETE (R110): The accesses a fence waits for have taken effect and issue resumes. -/
  | fenceComplete (l : LaneId) (c : Fin 8)
  /-- WIN (R112): Moves the DRAM window after an engine fence. -/
  | win (i : Issue) (d a : VReg)
  /-- RESERVED_ENCODING (R120): A core executes a reserved encoding with a true guard, with undefined effect confined under R121. -/
  | reservedEncoding (i : Issue × Bool)
  /-- CORE_START (R118): Started cores begin at their ENTRY with table values. -/
  | coreStart 
  /-- ANG_EDGE (R136): A timestamped edge reaches the halyard units and updates position, speed and synchronisation. -/
  | angEdge (ch : Fin 16) (rise : Bool)
  /-- HALYARD_STALL (R128): No edge or sample for STALLTMO costs synchronisation. -/
  | halyardStall (l : LaneId) (n : Fin 16)
  /-- HALYARD_CONFIG (R125): A write to a halyard's CFG, WHEEL, OFFSET, RATIO or UNIT under the OFF-state rule. -/
  | halyardConfig (l : LaneId) (n : Fin 16) (r : HalReg) (v : Word)
  /-- FEED_INCREMENT (R134): A write to FEEDD stages a distance increment. -/
  | feedIncrement (l : LaneId) (n : Fin 16) (v : Word)
  /-- FEED_COMMIT (R134): A write to FEEDT commits a feed sample. -/
  | feedCommit (l : LaneId) (n : Fin 16) (v : Word)
  /-- ENTRY_ARM (R143): The arming scan visits an entry and arms it with a snapshot when it qualifies. -/
  | entryArm (l : LaneId) (e : Fin 4096)
  /-- ENTRY_FIRE (R144): A halyard reaches an armed entry's position and its action is dispatched. -/
  | entryFire (l : LaneId) (e : Fin 4096)
  /-- OCCURRENCE_COMPLETE (R145): The target accepts the action and the entry advances or is disabled. -/
  | occurrenceComplete (l : LaneId) (e : Fin 4096)
  /-- ENTRY_COMMIT (R146): WCMD COMMIT copies a core's staging words into an entry and raises GEN. -/
  | entryCommit (l : LaneId) (c : Fin 8) (e : Fin 4096)
  /-- ENTRY_CANCEL (R149): WCMD CANCEL disarms an armed entry that is not yet firing. -/
  | entryCancel (l : LaneId) (c : Fin 8) (e : Fin 4096)
  /-- FIRE_EN (R154): A write of EVT.CTRL.FIRE_EN stops or resumes arming and firing. -/
  | fireEn (l : LaneId) (on : Bool)
  /-- PERIODIC_REQUEST (R164): A periodic sample request for a context arrives at its HTB instant. -/
  | periodicRequest (l : LaneId) (c : Fin 512)
  /-- SAMPLE_STEP (R166): The loop engine executes one sample of the next queued context. -/
  | sampleStep (l : LaneId)
  /-- LPE_ENABLE (R171): ENABLE puts an OFF context in RAMP with seeding. -/
  | lpeEnable (l : LaneId) (c : Fin 512)
  /-- LPE_DISABLE (R171): DISABLE puts a context in OFF. -/
  | lpeDisable (l : LaneId) (c : Fin 512)
  /-- LPE_HOLD (R171): HOLD freezes a context's output and integrator. -/
  | lpeHold (l : LaneId) (c : Fin 512)
  /-- LPE_RESUME (R171): RESUME ends a HOLD according to its cause. -/
  | lpeResume (l : LaneId) (c : Fin 512)
  /-- INJ_START (R178): START puts the target context in INJECT. -/
  | injStart (l : LaneId) (n : Fin 4)
  /-- INJ_STOP (R179): STOP aborts an injection. -/
  | injStop (l : LaneId) (n : Fin 4)
  /-- CAP_ARM (R182): ARM starts a capture channel recording. -/
  | capArm (l : LaneId) (n : Fin 4)
  /-- CAP_TRIGNOW (R182): TRIGNOW makes the next sample the capture trigger. -/
  | capTrignow (l : LaneId) (n : Fin 4)
  /-- CAP_ABORT (R183): ABORT stops recording and keeps the buffer. -/
  | capAbort (l : LaneId) (n : Fin 4)
  /-- DDV_START (R195): DDV.CMD START sends a profile start for a channel. -/
  | ddvStart (l : LaneId) (c : BitVec 6) (p : BitVec 4) (sel : Bool) (e : BitVec 16)
  /-- DDV_STOP (R202): DDV.CMD STOP ends or shortens a channel's hold or removes its request. -/
  | ddvStop (l : LaneId) (c : BitVec 6)
  /-- DDV_CLR (R208): DDV.CMD CLR lifts the IDLE action of a channel. -/
  | ddvClr (l : LaneId) (c : BitVec 6)
  /-- DDV_ENABLE (R208): DDV.CMD ENABLE re-enables a disabled channel. -/
  | ddvEnable (l : LaneId) (c : BitVec 6)
  /-- DDV_DISABLE (R208): DDV.CMD DISABLE disables a channel. -/
  | ddvDisable (l : LaneId) (c : BitVec 6)
  /-- BANK_REQUEST (R198): A profile start reaches the bank sequencer and is admitted, merged or queued. -/
  | bankRequest (l : LaneId) (b : Fin 6)
  /-- PEAK_END (R190): A channel's P0 ends at IPEAK or TTPMAX and the next queued request may be admitted. -/
  | peakEnd (c : Fin 48) (hit : Bool) (vbst : BitVec 16)
  /-- TRANSITION_END (R190): P1 ends when the current reaches IHOLD or at P1MAX. -/
  | transitionEnd (c : Fin 48) (fell : Bool) (dip : Option (BitVec 16))
  /-- HOLD_END (R195): P2 ends at its hold end or HOLDMAX and the release begins. -/
  | holdEnd (c : Fin 48) (vbst : BitVec 16)
  /-- RELEASE_END (R190): P3 ends and the channel becomes IDLE. -/
  | releaseEnd (c : Fin 48) (fell : Bool)
  /-- REQUEST_DEADLINE (R200): A waiting request reaches its DEFER_MAX deadline and is dropped. -/
  | requestDeadline (c : Fin 48)
  /-- HOLD_END_REVISION (R196): The owner's front-end sends a revised hold-end instant to a sequencer. -/
  | holdEndRevision (l : LaneId) (c : Fin 48)
  /-- PROFILE_WRITE (R193): A write of a profile word, checked whole when word 0 is written. -/
  | profileWrite (l : LaneId) (b : Fin 6) (p : Fin 16) (w : Fin 8) (v : Word)
  /-- DDM_FRAC (R203): A write of a DDM's displacement fraction. -/
  | ddmFrac (l : LaneId) (m : Fin 4) (v : Word)
  /-- HOLDLOSS (R207): Hold current below its threshold for 20 µs raises HOLDLOSS. -/
  | holdloss (c : Fin 48)
  /-- VALVE_SHORT (R209): A low-side short switches the channel off and disables it. -/
  | valveShort (c : Fin 48)
  /-- BHS_OVERCURRENT (R209): A BHS overcurrent switches the bank off and latches BHSFLT. -/
  | bhsOvercurrent (b : Fin 6)
  /-- BHSFLT_CLEAR (R209): Writing 1 to a bank's BHSFLT bit clears the latch. -/
  | bhsfltClear (l : LaneId) (b : Fin 6)
  /-- BOOST_LIMIT (R210): The boost energy bucket empties and input power is limited to 40 W. -/
  | boostLimit 
  /-- VBST_LOW (R211): VBST falls below VBSTMIN and VBST peaks are not admitted. -/
  | vbstLow 
  /-- PV_ENABLE (R224): PVC.CMD ENABLE enables a channel within the supply budget. -/
  | pvEnable (l : LaneId) (n : BitVec 5)
  /-- PV_DISABLE (R227): PVC.CMD DISABLE turns a channel off and keeps DUTY. -/
  | pvDisable (l : LaneId) (n : BitVec 5)
  /-- PV_CLR (R227): PVC.CMD CLR removes LATCHED and the sticky flags. -/
  | pvClr (l : LaneId) (n : BitVec 5)
  /-- PV_DUTY_WRITE (R227): A duty write from a context or program sets a channel's duty. -/
  | pvDutyWrite (l : LaneId) (n : Fin 24) (v : Word)
  /-- PV_CONVERSION (R221): Every CONVDIV-th period the channel updates MEAS and sends a conversion request. -/
  | pvConversion (n : Fin 24) (j : Nat)
  /-- PV_SHORT (R225): Current above the short threshold switches the channel off and latches it. -/
  | pvShort (n : Fin 24)
  /-- PV_SHORTBAT (R225): Current above 100 mA at duty 0 for 1 ms reports SHORTBAT. -/
  | pvShortbat (n : Fin 24) (holds : Bool)
  /-- PV_OPEN (R225): Current below 20 mA at duty 0.1 or more for 10 ms reports OPEN. -/
  | pvOpen (n : Fin 24) (holds : Bool)
  /-- PV_OVER (R225): MEAS above IMAX for 1 ms reports OVER. -/
  | pvOver (n : Fin 24)
  /-- LS_ON (R239): LSW.CMD ON commands a load switch on. -/
  | lsOn (l : LaneId) (n : Fin 32)
  /-- LS_OFF (R239): LSW.CMD OFF commands a load switch off. -/
  | lsOff (l : LaneId) (n : Fin 32)
  /-- LS_CLR (R239): LSW.CMD CLR removes LATCHED, SHED and the sticky flags. -/
  | lsClr (l : LaneId) (n : Fin 32)
  /-- LS_LIMIT_TIMEOUT (R234): A channel in current limit for TLIM switches off and is classified SHORT, INRUSH or OVERLOAD. -/
  | lsLimitTimeout (n : Fin 32) (low : Bool)
  /-- LS_RETRY (R234): The 2 ms retry off-time ends and the channel switches on again. -/
  | lsRetry (n : Fin 32)
  /-- INRUSH_WINDOW_END (R235): The inrush window ends and the channel runs under its steady limit. -/
  | inrushWindowEnd (n : Fin 32)
  /-- LS_OVERTEMP (R236): The junction reaches T_RESTART or T_ABS and the channel switches off or latches. -/
  | lsOvertemp (n : Fin 32) (abs : Bool)
  /-- LS_THERMAL_RESTART (R236): A thermally tripped channel has cooled by the hysteresis and switches on again. -/
  | lsThermalRestart (n : Fin 32)
  /-- LS_OPENLOAD (R244): Current below 50 mA while on for 100 ms, or an open test while off, sets OPENLOAD. -/
  | lsOpenload (n : Fin 32)
  /-- GROUP_TRIP (R237): A group's filtered or instantaneous current exceeds its limit and every channel switches off. -/
  | groupTrip (k : Fin 4 × Bool)
  /-- GROUP_DIE_TRIP (R237): A sense group's die reaches T_GRP and its eight channels switch off. -/
  | groupDieTrip (g : Fin 4)
  /-- GROUP_RESTART (R237): A tripped group recovers and its commanded channels restart. -/
  | groupRestart (die : Bool) (g : Fin 4)
  /-- MODULE_SHED (R231): Every 1 ms while the group sum exceeds MODLIM one channel is shed. -/
  | moduleShed (ovr : Bool)
  /-- LS_UNDERVOLTAGE (R238): VBAT_Pk below threshold for 100 µs switches group k off. -/
  | lsUndervoltage (k : Fin 4)
  /-- LS_UV_RESTART (R238): The supply stands 0.5 V above threshold for 5 ms and commanded channels restart. -/
  | lsUvRestart (k : Fin 4)
  /-- DIRECTED_CONVERSION (R232): A write to SGn.SEL requests a directed conversion of one channel. -/
  | directedConversion (l : LaneId) (g : Fin 4) (v : Word)
  /-- DIRECTED_CONVERSION_DONE (R232): The directed conversion completes and SGn.DIR is written. -/
  | directedConversionDone (g : Fin 4) (raw : BitVec 16)
  /-- LOSS_IMPACT (R248): The detector finds a new impact on a loss channel. -/
  | lossImpact (n : Fin 16) (xs : List (BitVec 14))
  /-- LOSS_WINDOW_OPEN (R251): An LWOPEN action opens or chains a counting window. -/
  | lossWindowOpen (l : LaneId) (mask : BitVec 16) (sector : BitVec 6)
  /-- LOSS_WINDOW_CLOSE (R251): An LWCLOSE action closes the matching window. -/
  | lossWindowClose (l : LaneId) (mask : BitVec 16) (sector : BitVec 6)
  /-- WINDOW_TIMEOUT (R252): A window open for WMAX ms closes with TIMEOUT. -/
  | windowTimeout (n : Fin 16)
  /-- LOSS_RECORD_WRITE (R253): After its last impact finishes, a window's record is written to the loss ring. -/
  | lossRecordWrite (n : Fin 16)
  /-- INPUT_FAULT (R258): An analog or bridge input condition persists for 10 ms and the input becomes faulty. -/
  | inputFault (i : Fin 36)
  /-- INPUT_FAULT_CLEAR (R258): The fault condition has been absent for 100 ms and the fault clears. -/
  | inputFaultClear (i : Fin 36)
  /-- ADC_SNAPSHOT (R259): An ADCTRIG action writes a snapshot record. -/
  | adcSnapshot (g : Fin 32)
  /-- FN_TICK (R261): Every 1 ms each function slot moves TGT towards CTGT. -/
  | fnTick 
  /-- FN_CTGT_WRITE (R262): A program-port target write, subject to OWNER. -/
  | fnCtgtWrite (l : LaneId) (n : Fin 48) (v : Word)
  /-- FN_TTGT_WRITE (R262): A terminal-port target write, subject to OWNER. -/
  | fnTtgtWrite (l : LaneId) (n : Fin 48) (v : Word)
  /-- FN_LIM_WRITE (R263): A limits write that clamps CTGT. -/
  | fnLimWrite (l : LaneId) (n : Fin 48) (v : Word)
  /-- FN_RATE_WRITE (R261): A slot RATE write. -/
  | fnRateWrite (l : LaneId) (n : Fin 48) (v : Word)
  /-- FN_CTL_WRITE (R262): A write of a slot's owner and crop-profile reference. -/
  | fnCtlWrite (l : LaneId) (n : Fin 48) (v : Word)
  /-- FN_BIND_WRITE (R267): A write of a slot's bound contexts. -/
  | fnBindWrite (l : LaneId) (n : Fin 48) (hi : Bool) (v : Word)
  /-- LOADCP (R266): CMD LOADCP loads a crop profile into the selected slots. -/
  | loadcp (l : LaneId) (p : Fin 16)
  /-- BOUND_CONTEXT_REPORT (R267): The active lane's loop engine reports a swap or command to HSI. -/
  | boundContextReport (l : LaneId) (c : Fin 512)
  /-- PARCEL_CREATE (R278): A PARCEL action with CREATE creates a parcel at a stage entry. -/
  | parcelCreate (l : LaneId) (stage : Fin 16) (tag : BitVec 11)
  /-- PARCEL_STEP (R277): A PARCEL step action passes, transfers and releases pieces of a stage. -/
  | parcelStep (l : LaneId) (stage : Fin 16)
  /-- FIX_COMMIT (R280): A write to POSTICK commits a position fix. -/
  | fixCommit (l : LaneId) (v : Word)
  /-- QUAL_SUBMIT (R288): A write to QCMD submits a quality measurement. -/
  | qualSubmit (l : LaneId) (v : Word)
  /-- MEASUREMENT_ATTRIBUTE (R290): PCL takes a measurement from its queue and shares it among parcels. -/
  | measurementAttribute 
  /-- CLOSING_GRACE_END (R294): A closing parcel's 300 ms grace ends and its record is written. -/
  | closingGraceEnd (c : Fin 1024)
  /-- PARCEL_EXPIRE (R294): A parcel's age reaches MAXLIFE and it closes with EXPIRED. -/
  | parcelExpire (c : Fin 1024)
  /-- PCL_FLUSH (R294): CMD FLUSH ends every live parcel with FLUSHED. -/
  | pclFlush (l : LaneId)
  /-- PCL_RUN (R275): A write of RUN starts the tracker after checks, or flushes it. -/
  | pclRun (l : LaneId) (on : Bool)
  /-- YIELD_STORED (R296): A parcel record's flash write completes and it takes a YIDX. -/
  | yieldStored 
  /-- YIELD_BATCH_SEND (R297): A batch of stored records leaves as a job when full or 100 ms old. -/
  | yieldBatchSend 
  /-- YREAD (R298): CMD YREAD copies stored parcel records to GiB 0. -/
  | yread (l : LaneId)
  /-- YREAD_DONE (R298): The YREAD copy completes and YREAD_DONE is posted. -/
  | yreadDone 
  /-- LINK_DOWN (R306): A camera link goes from UP to DOWN and retrains. -/
  | linkDown (n : Fin 8)
  /-- LINK_TRAINED (R306): A camera link completes training and is UP. -/
  | linkTrained (n : Fin 8) (gear : Fin 4)
  /-- I2C_TRANSACTION (R308): A write to I2CCMD starts a tunnelled I2C transaction. -/
  | i2cTransaction (l : LaneId) (n : Fin 8) (v : Word)
  /-- I2C_DONE (R308): The I2C transaction ends with DONE or NACK. -/
  | i2cDone (n : Fin 8) (ack : Bool) (cnt : Fin 16) (data : BitVec 64)
  /-- CAM_TRIG (R310): CMD TRIG triggers a camera. -/
  | camTrig (l : LaneId) (n : Fin 8)
  /-- CAMERA_TRIGGER (R310): A CAMTRIG action reaches CAM, drives the trigger and opens expected slots. -/
  | cameraTrigger (l : LaneId) (n : Fin 8)
  /-- TRIGGER_PULSE_END (R310): TRIGW µs elapse and the trigger output returns inactive. -/
  | triggerPulseEnd (n : Fin 8)
  /-- PWRON (R311): CMD PWRON turns a camera supply on. -/
  | pwron (l : LaneId) (n : Fin 8)
  /-- PWROFF (R311): CMD PWROFF turns a camera supply off. -/
  | pwroff (l : LaneId) (n : Fin 8)
  /-- CAMERA_POWER_FAULT (R311): Camera current above the limit for 1 ms latches the supply off. -/
  | cameraPowerFault (n : Fin 8)
  /-- VP_BIND (R312): A write to VPn.BIND binds or unbinds a pipeline. -/
  | vpBind (l : LaneId) (n : Fin 8) (v : Word)
  /-- FRAME_START (R313): A frame-start packet on a bound channel claims a slot and is stamped. -/
  | frameStart (n : Fin 8) (vc : Fin 32)
  /-- LINE_PACKET (R313): A long packet is taken as one line and checked. -/
  | linePacket (n : Fin 8) (vc : Fin 32) (dt : BitVec 6) (px : List (BitVec 16)) (crc ovr : Bool)
  /-- FRAME_END (R313): A frame-end packet completes the frame, padding missing lines. -/
  | frameEnd (n : Fin 8) (vc : Fin 32)
  /-- FRAME_STATUS_WRITE (R327): After processing, the status word is written, WP advances and FRAME is posted. -/
  | frameStatusWrite (n : Fin 8) (drops : List (Nat × Nat))
  /-- MISSING_FRAME (R329): An expected start passes its timeout and a missing-frame record is written. -/
  | missingFrame (n : Fin 8)
  /-- CAM_COMMIT (R332): CMD COMMIT copies the shadow parameters to live at the next frame start. -/
  | camCommit (l : LaneId) (n : Fin 8)
  /-- VP_RUN (R333): A write of RUN starts or stops a pipeline. -/
  | vpRun (l : LaneId) (n : Fin 8) (on : Bool)
  /-- FUSION_UNIT (R344): An object-list unit arrives, is checked and completes its list. -/
  | fusionUnit (n : Fin 16) (b : List (BitVec 8))
  /-- FUS_INJECT (R343): CMD INJECT reads a unit from GiB 0 as a program source. -/
  | fusInject (l : LaneId) (n : Fin 16)
  /-- LIST_INCOMPLETE (R344): A list still incomplete one PERIOD after its first unit is discarded. -/
  | listIncomplete (n : Fin 16)
  /-- SOURCE_STALE (R346): No complete list for 3 PERIOD puts a source in STALE. -/
  | sourceStale (n : Fin 16)
  /-- LIST_PROCESS (R348): At TV plus HOLDWIN a list is transformed, associated, updates tracks and refits ego-motion. -/
  | listProcess 
  /-- TRACK_AGE_OUT (R351): A track's AGE reaches DROPAGE and it is deleted. -/
  | trackAgeOut (k : Fin 256)
  /-- FUSION_OUTPUT (R357): An output falls due and writes a slot of the output ring. -/
  | fusionOutput 
  /-- OUTNOW (R357): CMD OUTNOW requests an output. -/
  | outnow (l : LaneId)
  /-- FUS_TEST (R359): CMD TEST enters TEST and clears tracks. -/
  | fusTest (l : LaneId)
  /-- FUS_ENDTEST (R359): CMD ENDTEST enters RECOVERY. -/
  | fusEndtest (l : LaneId)
  /-- FUS_REINIT (R359): CMD REINIT enters RECOVERY with tracks cleared. -/
  | fusReinit (l : LaneId)
  /-- FUS_RUN (R362): A write of RUN starts fusion in START or discards its tracks. -/
  | fusRun (l : LaneId) (on : Bool)
  /-- CAN_RECEIVE (R379): A CAN frame ends without error and is written to the ring. -/
  | canReceive (n : Fin 16) (id : BitVec 29) (ide rtr fdf brs esi : Bool) (len : Fin 65) (b : List (BitVec 8)) (age : Nat)
  /-- CAN_ERROR (R379): A CAN error is detected, updating counters and autorate trial. -/
  | canError (n : Fin 16) (code : BitVec 8) (tx heavy : Bool)
  /-- PROTOCOL_EXCEPTION (R369): An FD frame with recessive res makes the channel wait for 11 recessive bits. -/
  | protocolException (n : Fin 16)
  /-- CAN_BUS_OFF (R377): The transmit error count passes 255 and the channel goes bus-off. -/
  | canBusOff (n : Fin 16)
  /-- BUSOFF_RECOVERED (R377): 128 occurrences of 11 recessive bits end bus-off recovery. -/
  | busoffRecovered (n : Fin 16)
  /-- RECOVER (R377): CMD RECOVER starts bus-off recovery. -/
  | recover (l : LaneId) (n : Fin 16)
  /-- CAN_MODE (R376): CMD MODE requests a channel mode. -/
  | canMode (l : LaneId) (n : Fin 16) (m : Fin 8)
  /-- CAN_MODE_CHANGE (R376): At bus idle the requested mode takes effect. -/
  | canModeChange (n : Fin 16)
  /-- TXREQ (R384): CMD TXREQ makes a transmit buffer pending. -/
  | txreq (l : LaneId) (n : Fin 16) (b : Fin 32)
  /-- TXCANCEL (R384): CMD TXCANCEL cancels a pending buffer. -/
  | txcancel (l : LaneId) (n : Fin 16) (b : Fin 32)
  /-- CAN_FRAME_START (R382): At arbitration the most urgent pending buffer starts on the bus. -/
  | canFrameStart (n : Fin 16)
  /-- CAN_TX_END (R383): A transmitted frame ends as sent, lost, failed or cancelled. -/
  | canTxEnd (n : Fin 16) (r : TxEnd)
  /-- TIME_REFERENCE (R385): Every TMPER ms the time reference message falls due. -/
  | timeReference (n : Fin 16)
  /-- CAN_WAKE (R373): The wake-up pattern is detected on a channel with WAKEEN. -/
  | canWake (n : Fin 16)
  /-- LIN_START (R387): CMD START runs a schedule table. -/
  | linStart (l : LaneId) (n : Fin 6) (t : Fin 4)
  /-- LIN_SWITCH (R387): CMD SWITCH changes table at the end of the slot. -/
  | linSwitch (l : LaneId) (n : Fin 6) (t : Fin 4)
  /-- LIN_STOP (R387): CMD STOP stops the channel at the end of the slot. -/
  | linStop (l : LaneId) (n : Fin 6)
  /-- LIN_SLEEP (R389): CMD SLEEP sends go-to-sleep and enters SLEEP. -/
  | linSleep (l : LaneId) (n : Fin 6)
  /-- LIN_WAKEUP (R389): CMD WAKEUP sends a 1 ms dominant pulse. -/
  | linWakeup (l : LaneId) (n : Fin 6)
  /-- LIN_SLOT (R387): A slot time elapses and the next header is sent. -/
  | linSlot (n : Fin 6)
  /-- LIN_RESPONSE (R388): A LIN response ends and is written to the ring with its status. -/
  | linResponse (n : Fin 6) (b : List (BitVec 8)) (framing : Bool)
  /-- LIN_WAKE (R389): A dominant level of 150 µs to 5 ms in SLEEP is a wake-up. -/
  | linWake (n : Fin 6) (len : Nat)
  /-- SENT_FRAME (R392): A SENT frame ends and is checked, latched and written. -/
  | sentFrame (n : Fin 24) (cal : Nat) (status : BitVec 4) (nib : List (BitVec 4)) (crc : BitVec 4) (bad : Bool) (flen age : Nat)
  /-- SER_BYTE (R396): A serial byte is received into the current ring entry. -/
  | serByte (n : Fin 4) (b : BitVec 8) (framing parity brk : Bool) (age : Nat)
  /-- SER_IDLE (R396): IDLEGAP character times of idle close the open entry. -/
  | serIdle (n : Fin 4)
  /-- SER_TXD (R397): A write to TXD appends a byte to the transmit FIFO. -/
  | serTxd (l : LaneId) (n : Fin 4) (v : Word)
  /-- PPS_EDGE (R398): A selected PPS edge is stamped, and a PPS tracker measures. -/
  | ppsEdge (k : Fin 2) (rise : Bool)
  /-- PPS_STAMP_READ (R398): Reading PPSk.NS latches SEC, HTBLO and HTBHI. -/
  | ppsStampRead (l : LaneId) (k : Fin 2)
  /-- ETH_RECEIVE (R407): A frame received on a port is checked, learned and forwarded or steered. -/
  | ethReceive (p : Fin 10) (b : List (BitVec 8)) (fcs : Bool) (age : Nat)
  /-- ETH_LINK_DOWN (R406): A link goes down and LINKLOST is set. -/
  | ethLinkDown (p : Fin 10)
  /-- TX_RING_DOORBELL (R413): A write to TWP hands transmit slots to ETH. -/
  | txRingDoorbell (l : LaneId) (q : Fin 4) (v : Word)
  /-- ETH_TX_DONE (R413): A slot is sent or dropped and its result written. -/
  | ethTxDone (q : Fin 4) (age : Nat)
  /-- FDB_AGEING (R407): A learned address ages out after AGE seconds. -/
  | fdbAgeing 
  /-- FLUSHFDB (R431): CMD FLUSHFDB clears the learned table. -/
  | flushfdb (l : LaneId)
  /-- FRER_RESET (R415): No frame passed for RESETMS resets recovery to take-any. -/
  | frerReset (k : Fin 32)
  /-- PATHDOWN (R416): A member port delivers nothing for RESETMS and PATHDOWN is set. -/
  | pathdown (k : Fin 32) (p : Fin 10)
  /-- TRACKER_COMMIT (R421): A write to OFFHI commits a tracker measurement and runs the servo. -/
  | trackerCommit (l : LaneId) (i : Fin 2) (v : Word)
  /-- TRACKER_TIMEOUT (R423): TMO ms without a measurement clear VALID and may switch or hold over. -/
  | trackerTimeout (i : Fin 2)
  /-- TIM_SWITCH (R425): CMD SWITCH makes a tracker active. -/
  | timSwitch (l : LaneId) (j : Fin 2)
  /-- FORCEFREE (R424): CMD FORCEFREE puts the clock in FREE. -/
  | forcefree (l : LaneId)
  /-- REVERT_SWITCH (R425): PREF VALID for REVDLY seconds switches back to it. -/
  | revertSwitch 
  /-- TIM_NOW_READ (R427): Reading NOWLO latches the local clock and HTB. -/
  | timNowRead (l : LaneId)
  /-- JOB_RECEIVE (R444): A JOB message is checked for epoch, sequence and state and journaled or answered. -/
  | jobReceive (b : List (BitVec 8))
  /-- JOB_ACCEPT (R447): Confirmation of both journal places accepts a job and the ACK follows. -/
  | jobAccept (n : Fin 1024)
  /-- ACK_RECEIVE (R450): An ACK releases sent jobs up to its SEQ. -/
  | ackReceive (b : List (BitVec 8))
  /-- GAP_RECEIVE (R450): A GAP resends every job from its SEQ. -/
  | gapReceive (b : List (BitVec 8))
  /-- STATE_RECEIVE (R450): A STATE refusal starts resending the job every BACKOFF. -/
  | stateReceive (b : List (BitVec 8))
  /-- COMPLETE_RECEIVE (R450): A COMPLETE message posts COMPLETED. -/
  | completeReceive (b : List (BitVec 8))
  /-- JREP_RECEIVE (R449): The standby module journals a JREP copy and answers JREPACK. -/
  | jrepReceive (b : List (BitVec 8))
  /-- JREPACK_RECEIVE (R446): The ensign receives the standby's journal confirmation. -/
  | jrepackReceive (b : List (BitVec 8))
  /-- JSYNC_RECEIVE (R457): A resynchronising module takes one journal record. -/
  | jsyncReceive (b : List (BitVec 8))
  /-- JSYNCEND_RECEIVE (R457): JSYNCEND with a matching count ends resynchronisation. -/
  | jsyncendReceive (b : List (BitVec 8))
  /-- HEARTBEAT_RECEIVE (R451): A hoist heartbeat marks its sender live and is checked for epoch and RESIGN. -/
  | heartbeatReceive (b : List (BitVec 8))
  /-- HEARTBEAT_SEND (R451): Every HBPER a live member sends a heartbeat. -/
  | heartbeatSend (k : Fin 6)
  /-- MEMBER_LOST (R452): No heartbeat for MISSN x HBPER marks a member lost. -/
  | memberLost (k : Fin 6) (r : Fin 32)
  /-- JOB_RETRANSMIT (R450): RTO without an ACK resends unacknowledged jobs, ending in STALLED. -/
  | jobRetransmit (n : Fin 1024)
  /-- JOB_BACKOFF (R450): BACKOFF ms elapse and a refused job is sent again. -/
  | jobBackoff (n : Fin 1024)
  /-- STREAM_OPEN (R442): CMD OPEN opens a stream with a new session. -/
  | streamOpen (l : LaneId) (n : Fin 1024)
  /-- STREAM_CLOSE (R443): CMD CLOSE closes a stream with no open work. -/
  | streamClose (l : LaneId) (n : Fin 1024)
  /-- STREAM_PAUSE (R443): CMD PAUSE stops acceptance on a receive stream. -/
  | streamPause (l : LaneId) (n : Fin 1024)
  /-- STREAM_RESUME (R443): CMD RESUME returns a paused or stalled stream to OPEN. -/
  | streamResume (l : LaneId) (n : Fin 1024)
  /-- RESIGN (R452): CMD RESIGN makes the ensign send RESIGN heartbeats. -/
  | resign (l : LaneId)
  /-- HOIST_LISTEN (R461): After listening MISSN x HBPER at start, the module joins or forms the hoist. -/
  | hoistListen (k : Fin 6)
  /-- CREDIT_REFILL (R468): Every 4,096 fabric cycles every credit counter is set to its weight. -/
  | creditRefill 
  /-- BURST_GRANT (R469): When the fabric can start a burst the arbiter grants one waiting request. -/
  | burstGrant (ws : List (Fin 16 × Fin 16 × BitVec 24)) (ce : Fin 17)
  /-- WEIGHT_WRITE (R475): A weight write, effective at a later refill. -/
  | weightWrite (l : LaneId) (n : Fin 16) (v : Word)
  /-- WEIGHT_HOLD (R475): A write of WHOLD holds or releases stored weights. -/
  | weightHold (l : LaneId) (on : Bool)
  /-- FABRIC_FREEZE (R476): A write of FREEZE stops or resumes grants to masked requesters. -/
  | fabricFreeze (l : LaneId) (on : Bool)
  /-- SCRUB_READ (R465): The background scrub reads a beat in an idle cycle and corrects it. -/
  | scrubRead (beat : BitVec 26) (err : Option Bool)
  /-- RECORD_ENTER (R481): A hardware record reaches the recorder, taking SEQ and SIDX or being tallied. -/
  | recordEnter (l : LaneId) (code : BitVec 16) (origin : BitVec 12) (data : BitVec 320)
  /-- PWCMD (R483): A write of a code to PWCMD submits a program record. -/
  | pwcmd (l : LaneId) (c : Fin 8) (v : Word)
  /-- REC_FLUSH (R485): CMD FLUSH starts a flush. -/
  | recFlush (l : LaneId)
  /-- FLUSH_DONE (R485): A flush completes and FLUSHED advances. -/
  | flushDone 
  /-- REC_FREEZE (R490): CMD FREEZE stops recording and flushing. -/
  | recFreeze (l : LaneId)
  /-- THAW (R488): CMD THAW ends a freeze with a GAP record. -/
  | thaw (l : LaneId)
  /-- FREEZE_TIMEOUT (R488): FRZTMO seconds end a freeze. -/
  | freezeTimeout 
  /-- REC_READ (R491): CMD READ copies records to GiB 0. -/
  | recRead (l : LaneId)
  /-- READ_DONE (R491): The READ copy completes. -/
  | readDone 
  /-- REC_NONCE (R492): CMD NONCE makes a recorder-clear nonce. -/
  | recNonce (l : LaneId)
  /-- REC_CLEAR (R493): CMD CLEAR with a valid token discards every record. -/
  | recClear (l : LaneId)
  /-- NONCE_EXPIRY (R570): A nonce expires 300 s after it is made. -/
  | nonceExpiry (p : Fin 4)
  /-- OPHRS_TICK (R481): Every 36 s of powered time OPHRS advances. -/
  | ophrsTick 
  /-- PANEL_UPDATE (R504): CMD UPDATE takes a slot and reads the image. -/
  | panelUpdate (l : LaneId) (full : Bool) (first last : BitVec 9)
  /-- UPDATE_LOADED (R504): The dirty lines have been copied and the update becomes pending. -/
  | updateLoaded 
  /-- PANEL_FRAME (R505): A panel frame boundary starts eligible updates and finishes lines. -/
  | panelFrame 
  /-- PANEL_LINE_SEND (R500): With PBSY low, a line is clocked out to the glass. -/
  | panelLineSend 
  /-- PBSY_TIMEOUT (R500): A line waits more than 1 ms for PBSY. -/
  | pbsyTimeout 
  /-- PANEL_POWERED (R507): The panel supplies reach regulation and the first frame begins. -/
  | panelPowered 
  /-- PANEL_POWER_HOLD (R507): PWRHOLD ms after the last line, the discharge begins. -/
  | panelPowerHold 
  /-- PANEL_DISCHARGE (R508): CMD DISCHARGE starts the discharge sequence. -/
  | panelDischarge (l : LaneId)
  /-- DISCHARGE_DONE (R509): The discharge completes and the panel-dirty marker may be cleared. -/
  | dischargeDone 
  /-- CRACK_CHECK (R512): The crack loop is measured every 10 s and a crack removes the high voltages. -/
  | crackCheck (r : BitVec 20)
  /-- RECHECK (R513): CMD RECHECK measures the crack loop again. -/
  | recheck (l : LaneId)
  /-- TEMP_STALE (R502): TEMPW not written for 60 s switches to the sensor. -/
  | tempStale 
  /-- POWER_ON (R527): The logic supply reaches an off module and the cold start runs. -/
  | powerOn (t : StartTests)
  /-- RSTCMD_COLD (R518): The cold key written to RSTCMD performs a cold start. -/
  | rstcmdCold (l : LaneId) (t : StartTests)
  /-- RSTCMD_WARM (R518): The warm key written to RSTCMD performs a warm start. -/
  | rstcmdWarm (l : LaneId) (t : StartTests)
  /-- WARM_START (R529): Both lanes stop and restart with kept memories and reset classes. -/
  | warmStart (t : StartTests)
  /-- OUTPUT_ENABLE (R527): With HUREADY set, ownership goes to a lane and the cores start. -/
  | outputEnable (energy : BitVec 16)
  /-- WARM_START_ESCALATE (R532): A warm start not at output enable within 1 s becomes a cold start. -/
  | warmStartEscalate (t : StartTests)
  /-- CFG_WRITE (R523): CMD WRITE writes a configuration copy with a power-safe commit. -/
  | cfgWrite (l : LaneId)
  /-- CFG_WRITE_DONE (R523): The configuration write ends and WRDONE is posted. -/
  | cfgWriteDone (ok : Bool)
  /-- JOURNAL_CHECKPOINT (R536): Every 100 ms a checkpoint is written to both MRAM journals. -/
  | journalCheckpoint 
  /-- LOW_SUPPLY_ENTRY (R539): One VLOG input below VHU for 2 ms enters LOW-SUPPLY. -/
  | lowSupplyEntry 
  /-- LOW_SUPPLY_EXIT (R539): Both inputs above VRET for 5 ms leave LOW-SUPPLY. -/
  | lowSupplyExit 
  /-- HOLD_UP_ENTRY (R539): Both VLOG inputs below VHU for 2 ms start the hold-up sequence. -/
  | holdUpEntry (v1 v2 : BitVec 16)
  /-- SUPPLY_RETURN (R542): Supply returns for 5 ms during hold-up and a warm start follows step 3. -/
  | supplyReturn 
  /-- HOLD_UP_SWITCH_OFF (R539): When finalisation and panel are done, or at 250 ms, the module switches off. -/
  | holdUpSwitchOff 
  /-- HOLD_UP_ENERGY_OUT (R541): The hold-up energy runs out and the module stops where it stands. -/
  | holdUpEnergyOut 
  /-- MODE_RUN (R547): MODECMD to RUN. -/
  | modeRun (l : LaneId)
  /-- MODE_SERVICE (R548): MODECMD to SERVICE switches every output off. -/
  | modeService (l : LaneId)
  /-- MODE_BENCH (R549): MODECMD to BENCH isolates the power stages. -/
  | modeBench (l : LaneId)
  /-- MODE_PARK (R550): MODECMD to PARK starts the parking sequence. -/
  | modePark (l : LaneId)
  /-- PARK_SHUTDOWN (R550): After finalisation and panel discharge, cameras, PHYs and lanes stop. -/
  | parkShutdown 
  /-- WAKE_INPUT (R551): A rising edge on an enabled WAKE input wakes the parked module. -/
  | wakeInput (k : Fin 2)
  /-- WAKE_TIMER (R551): WAKECFG.TIMER minutes after parking wake the module. -/
  | wakeTimer 
  /-- PARK_POWER_LOSS (R552): Supply loss while parked switches off without a sequence. -/
  | parkPowerLoss 
  /-- SEC_NONCE (R570): CMD NONCE makes a nonce for a purpose. -/
  | secNonce (l : LaneId) (p : Fin 4)
  /-- SESSION_OPEN (R571): CMD OPEN checks a SERVICE token and opens a session. -/
  | sessionOpen (l : LaneId)
  /-- ENDSESSION (R571): CMD ENDSESSION ends the service session. -/
  | endsession (l : LaneId)
  /-- DBGUNLOCK (R572): CMD DBGUNLOCK checks a DEBUG token and opens the debug port. -/
  | dbgunlock (l : LaneId)
  /-- DBGLOCK (R571): CMD DBGLOCK locks the debug port. -/
  | dbglock (l : LaneId)
  /-- SESSION_EXPIRY (R571): A session reaches its LIFE and ends. -/
  | sessionExpiry (dbg : Bool)
  /-- IMGWRITE (R565): CMD IMGWRITE writes an image to the other slot. -/
  | imgwrite (l : LaneId)
  /-- IMAGE_WRITE_DONE (R565): The image write ends and IMGDONE is posted. -/
  | imageWriteDone (ok : Bool)
  /-- ACTIVATE (R566): CMD ACTIVATE selects the boot slot. -/
  | activate (l : LaneId) (t : Fin 2)
  /-- RAISEMIN (R566): CMD RAISEMIN raises MINVER to the running image's SECVER. -/
  | raisemin (l : LaneId)
  /-- KEYWRITE (R560): CMD KEYWRITE loads an empty key slot. -/
  | keywrite (l : LaneId) (k : Fin 4)
  /-- KEYREVOKE (R560): CMD KEYREVOKE revokes a key slot. -/
  | keyrevoke (l : LaneId) (k : Fin 4)
  /-- CAMERA_BROWNOUT (R586): VLOG below 7.0 V for 1 ms switches camera power off. -/
  | cameraBrownout 
  /-- BROWNOUT_RELEASE (R586): VLOG above 7.5 V for 10 ms restores camera power. -/
  | brownoutRelease 
  /-- VALVE_SUPPLY_UV (R588): A valve supply below threshold for 100 µs sets VSUV and moves the boost. -/
  | valveSupplyUv (k : Fin 2)
  /-- VALVE_SUPPLY_OVER (R588): A valve supply's 1 s mean above 30 A sets VSOVER. -/
  | valveSupplyOver (k : Fin 2) (mean : BitVec 16)
  /-- SENSOR_SUPPLY_FAULT (R590): A sensor supply over its limit for 10 ms latches off. -/
  | sensorSupplyFault (n : Fin 12)
  /-- SENSOR_SUPPLY_RESTART (R590): Writing 1 to an SSFLT bit switches the supply on again. -/
  | sensorSupplyRestart (l : LaneId) (m : BitVec 12)
  /-- DISS_ESTIMATE (R595): Every 1 ms PWR refreshes DISSNOW and the budget. -/
  | dissEstimate (cpu cam boost ls pv bk : BitVec 16) (bank : BitVec 16)
  /-- DISS_SHED (R596): DISSNOW above BUDNOW for DTRIP sheds one load every 1 ms. -/
  | dissShed 
  /-- OWNER_TICKS_ABSENT (R30): An owner tick falls due at a sequencer and does not arrive, so HOLDING becomes 1 while the hold timer runs. -/
  | ownerTicksAbsent (n : Fin 62)
  /-- BOOST_LIMIT_END (R210): The boost energy bucket refills above empty, and BSTSTAT.LIMIT returns to 0 and lifts the 40 W limit. -/
  | boostLimitEnd 
  /-- VBST_RECOVERED (R211): VBST rises to VBSTMIN, BSTSTAT.LOW clears, and a waiting VBST-driven request may be admitted. -/
  | vbstRecovered 
  /-- OWN_FAULT_END (R234): A load switch has conducted for 10 ms without current limit or thermal trip, and its SHORT or OT own fault ends. -/
  | ownFaultEnd (n : Fin 32)
  /-- LOSS_SENSOR_FAULT (R271): A loss sensor is found open or shorted, or recovers, and LSNn.STAT.FAULT changes and INFAULT is posted with input 48–63. -/
  | lossSensorFault (n : Fin 16) (fault : Bool)
  /-- POSITION_HISTORY_SAMPLE (R276): Every 4,096 HTB ticks PCL samples the published position of each stage halyard into its history, releasing actions waiting for that sample. -/
  | positionHistorySample 
  /-- SER_BYTE_SENT (R397): A serial port finishes sending a byte from its transmit FIFO, and the FIFO level falls. -/
  | serByteSent (n : Fin 4)
  /-- ETH_LINK_UP (R406): An Ethernet port's link comes up, STAT.LINK and FDB traffic resume, and LINK is posted with the up bit. -/
  | ethLinkUp (p : Fin 10) (role : Bool) (sqi : Fin 8)
  /-- EGRESS_FRAME_SENT (R409): A switched frame finishes leaving an egress port queue, freeing its place among the 64. -/
  | egressFrameSent (p : Fin 10)
  /-- SLEW_COMPLETE (R424): The residual offset q reaches 0 and STAT.SLEWING returns to 0. -/
  | slewComplete 
  /-- REJOIN_TEST_FAULT (R538): The memory test of a rejoining lane finds a fault, and the rejoin fails with REJOIN_FAILED. -/
  | rejoinTestFault 
  /-- VALVE_SUPPLY_RETURN (R588): A valve supply returns above its under-voltage threshold, and VSUVk clears so that the boost draws from both supplies again. -/
  | valveSupplyReturn (k : Fin 2)
  /-- BANK_WEAK (R592): With the bank fully charged, the usable energy estimate is below 9.5 J, so BANKWEAK is set and posted. -/
  | bankWeak (e : BitVec 16)
  /-- TAMB_STALE (R594): TAMBW has not been written for 60 s, so TAMBSTALE is set and TBASE is used as the reference temperature. -/
  | tambStale 
  deriving DecidableEq, Repr

end Sys2Proof
end

