-- ==== Sys2Proof/Decode.lean ====
section
/-! DEFINITION. Words and commands. The words of Ranly (spec/02 "The instruction word", R55 to R79; spec/03 R87): which instruction
a word of a core spells. Words of the command table: no row of spec/opcode_table.json gives bits (its "fields" are empty in every
row), so no word spells a command there. -/

namespace Sys2Proof

/-- Bits [hi:lo] of a word. -/
def wordBits (w : Word) (hi lo : Nat) : Nat := w.toNat / 2 ^ lo % 2 ^ (hi + 1 - lo)

/-- A register field at a bit place. -/
def regAt (w : Word) (lo : Nat) : VReg := Fin.ofNat 32 (wordBits w (lo + 4) lo)

/-- A predicate field at a bit place. -/
def predAt (w : Word) (lo : Nat) : PReg := Fin.ofNat 8 (wordBits w (lo + 2) lo)

/-- The guard of a word (R53), at a core. -/
def guardOf (l : LaneId) (c : Fin 8) (w : Word) : Issue := ⟨l, c, predAt w 29, wordBits w 28 28 == 1⟩

/-- ALU, by its function code (R58); B must be 0 for CLZ, ABS, SEXTB and SEXTH (R55). -/
def decodeAlu (i : Issue) (d a b : VReg) (f : Nat) : Option Instr :=
  match f with
  | 0x00 => some (.add i d a b) | 0x01 => some (.sub i d a b) | 0x02 => some (.and i d a b) | 0x03 => some (.or i d a b)
  | 0x04 => some (.xor i d a b) | 0x05 => some (.andn i d a b) | 0x06 => some (.shl i d a b) | 0x07 => some (.shr i d a b)
  | 0x08 => some (.sar i d a b) | 0x09 => some (.ror i d a b) | 0x0A => some (.min i d a b) | 0x0B => some (.max i d a b)
  | 0x0C => some (.minu i d a b) | 0x0D => some (.maxu i d a b) | 0x0E => some (.adds i d a b)
  | 0x0F => some (.subs i d a b) | 0x10 => some (.mul i d a b) | 0x11 => some (.mulh i d a b)
  | 0x12 => some (.mulhu i d a b) | 0x13 => some (.div i d a b) | 0x14 => some (.divu i d a b)
  | 0x15 => some (.rem i d a b) | 0x16 => some (.remu i d a b)
  | 0x17 => if b = 0 then some (.clz i d a) else none
  | 0x18 => if b = 0 then some (.abs i d a) else none
  | 0x19 => if b = 0 then some (.sextb i d a) else none
  | 0x1A => if b = 0 then some (.sexth i d a) else none
  | _ => none

/-- SHI: the kind in K[11:10], the count in K[4:0]; K[9:5] must be 0 (R60). -/
def decodeShi (i : Issue) (d a : VReg) (k : Nat) : Option Instr :=
  if k / 32 % 32 ≠ 0 then none
  else
    let n : Fin 32 := Fin.ofNat 32 k
    match k / 1024 with
    | 0 => some (.shi i d a .shl n)
    | 1 => some (.shi i d a .shr n)
    | 2 => some (.shi i d a .sar n)
    | _ => some (.shi i d a .ror n)

/-- The condition of a COND code (R62). -/
def condOf (k : Nat) : Cond :=
  match k with
  | 0 => .eq | 1 => .ne | 2 => .lt | 3 => .ge | 4 => .ltu | 5 => .geu | 6 => .bs | _ => .bc

/-- The operation of a POP code (R63). -/
def popOf (k : Nat) : Pop :=
  match k with
  | 0 => .and | 1 => .or | 2 => .xor | 3 => .andn | 4 => .orn | 5 => .xnor | 6 => .set | _ => .clr

/-- Packed Q15, by its function code (R67); B must be 0 for PABS, PNEG and PSWAP (R55). -/
def decodePq (i : Issue) (d a b : VReg) (f : Nat) : Option Instr :=
  match f with
  | 0x00 => some (.padd i d a b) | 0x01 => some (.psub i d a b) | 0x02 => some (.pmulr i d a b)
  | 0x03 => if b = 0 then some (.pabs i d a) else none
  | 0x04 => if b = 0 then some (.pneg i d a) else none
  | 0x05 => some (.pmin i d a b) | 0x06 => some (.pmax i d a b) | 0x07 => some (.pshra i d a b)
  | 0x08 => some (.pshls i d a b) | 0x09 => some (.packll i d a b) | 0x0A => some (.packhh i d a b)
  | 0x0B => some (.packhl i d a b)
  | 0x0C => if b = 0 then some (.pswap i d a) else none
  | _ => none

/-- Accumulator operations, by their function code (R68), with the fields that must be 0 (R55). D is 0 in every one but EXT, ACRD
and ACRH. -/
def decodeAcc (i : Issue) (d a b : VReg) (ac : Fin 4) (f : Nat) : Option Instr :=
  let d0 (x : Instr) : Option Instr := if d = 0 then some x else none
  match f with
  | 0x00 => d0 (.macLl i ac a b) | 0x01 => d0 (.macLh i ac a b) | 0x02 => d0 (.macHl i ac a b) | 0x03 => d0 (.macHh i ac a b)
  | 0x04 => d0 (.msuLl i ac a b) | 0x05 => d0 (.msuLh i ac a b) | 0x06 => d0 (.msuHl i ac a b) | 0x07 => d0 (.msuHh i ac a b)
  | 0x08 => d0 (.mac2 i ac a b) | 0x09 => d0 (.mac2x i ac a b) | 0x0A => d0 (.msu2 i ac a b)
  | 0x0B => d0 (.mulLl i ac a b) | 0x0C => d0 (.mul2 i ac a b)
  | 0x0D => if a = 0 ∧ b = 0 then d0 (.aclr i ac) else none
  | 0x0E => if b = 0 then d0 (.acldq i ac a) else none
  | 0x0F => d0 (.acset i ac a b)
  | 0x18 => if a = 0 ∧ b = 0 then some (.acrd i d ac) else none
  | 0x19 => if a = 0 ∧ b = 0 then some (.acrh i d ac) else none
  | 0x1A => if a = 0 then d0 (.acsar i ac b) else none
  | _ => if 0x10 ≤ f ∧ f < 0x18 ∧ a = 0 ∧ b = 0 then some (.ext i d ac (Fin.ofNat 8 f)) else none

/-- JMP, by its function code (R70): D and B must be 0, and A for RTT. -/
def decodeJmp (i : Issue) (d a b : VReg) (f : Nat) : Option Instr :=
  if d ≠ 0 ∨ b ≠ 0 then none
  else match f with
    | 0 => some (.jr i a)
    | 1 => some (.jlr i a)
    | 2 => if a = 0 then some (.rtt i) else none
    | _ => none

/-- The system instructions (R87). -/
def decodeSystem (i : Issue) (op : Nat) (d a b : VReg) (f : Nat) : Option Instr :=
  match op, f with
  | 0x30, 0 => if a = 0 ∧ b = 0 then some (.waite i d) else none
  | 0x30, 1 => some (.waita i d a b)
  | 0x30, 2 => some (.waitae i d a b)
  | 0x31, 0 => if a = 0 ∧ b = 0 then some (.take i d) else none
  | 0x31, 1 => some (.post i d a b)
  | 0x32, 0 => if b = 0 then some (.jput i d a) else none
  | 0x32, 1 => some (.jtake i d a b)
  | 0x32, 2 => some (.jdone i d a b)
  | 0x33, 0 => some (.lcswap i d a b)
  | 0x34, 0 => if d = 0 ∧ a = 0 ∧ b = 0 then some (.fenceL i) else none
  | 0x34, 1 => if d = 0 ∧ a = 0 ∧ b = 0 then some (.fenceE i) else none
  | 0x35, 0 => if b = 0 then some (.win i d a) else none
  | _, _ => none

/-- The instruction that a word `w`, followed by the word `x`, spells at a core, by its major opcode (R57, R87); `none`: the
encoding is reserved (R55). -/
def decodeRanly (l : LaneId) (c : Fin 8) (w x : Word) : Option Instr :=
  let i := guardOf l c w
  let d := regAt w 17
  let a := regAt w 12
  let b := regAt w 7
  let f := wordBits w 6 0
  let k := BitVec.ofNat 12 w.toNat
  let p := predAt w 19
  match wordBits w 27 22 with
  | 0x00 => some (.ill i (BitVec.ofNat 22 w.toNat))
  | 0x01 => decodeAlu i d a b f
  | 0x02 => some (.addi i d a k)
  | 0x03 => some (.andi i d a k)
  | 0x04 => some (.ori i d a k)
  | 0x05 => some (.xori i d a k)
  | 0x06 => decodeShi i d a (wordBits w 11 0)
  | 0x07 => some (if wordBits w 16 16 = 0 then .movl i d (BitVec.ofNat 16 w.toNat) else .movh i d (BitVec.ofNat 16 w.toNat))
  | 0x08 => if wordBits w 16 0 = 0 then some (.movw i d x) else none
  | 0x09 => if wordBits w 5 0 = 0 then some (.cmp i p (condOf (wordBits w 18 16)) (regAt w 11) (regAt w 6)) else none
  | 0x0A => some (.cmpi i p (condOf (wordBits w 18 16)) (regAt w 11) (BitVec.ofNat 11 w.toNat))
  | 0x0B => if wordBits w 9 0 = 0 then some (.plog i p (predAt w 16) (predAt w 13) (popOf (wordBits w 12 10))) else none
  | 0x0C => decodePq i d a b f
  | 0x0D => decodeAcc i d a b (Fin.ofNat 4 (wordBits w 6 5)) (wordBits w 4 0)
  | 0x0E =>
    let sn : Fin 128 := Fin.ofNat 128 (wordBits w 16 10)
    if wordBits w 9 0 = 0 then some (.mfs i d sn) else if wordBits w 9 0 = 1 then some (.mts i d sn) else none
  | 0x10 => some (.ldb i d a k)
  | 0x11 => some (.ldbu i d a k)
  | 0x12 => some (.ldh i d a k)
  | 0x13 => some (.ldhu i d a k)
  | 0x14 => some (.ldw i d a k)
  | 0x15 => some (.stb i d a k)
  | 0x16 => some (.sth i d a k)
  | 0x17 => some (.stw i d a k)
  | 0x20 => some (.b i (BitVec.ofNat 22 w.toNat))
  | 0x21 => some (.bl i (BitVec.ofNat 22 w.toNat))
  | 0x22 => decodeJmp i d a b f
  | op => decodeSystem i op d a b f

/-- Whether a word's opcode has an extension word (R56): MOVW alone, reserved or not. -/
def hasExtension (w : Word) : Bool := wordBits w 27 22 == 8

/-- The command that a core's instruction word is: a reserved encoding is the command RESERVED_ENCODING (R55). -/
def ranlyCommand (l : LaneId) (c : Fin 8) (w x : Word) : Instr :=
  (decodeRanly l c w x).getD (.reservedEncoding (guardOf l c w, hasExtension w))

/-- The command that a word spells by the table's bits: none, for want of rows with bits. -/
def decodeTableWord (_nbits _w : Nat) : Option Instr := none

end Sys2Proof
end

