-- ==== Sys2Proof/Machine/Bits.lean ====
section
/-! DEFINITION. Bit fields, signed readings, saturation and byte order, used by every family. -/

namespace Sys2Proof.Machine

/-- Bits [hi:lo] of a word, as a number. -/
def fld (w : Word) (hi lo : Nat) : Nat := (w.toNat / 2 ^ lo) % 2 ^ (hi + 1 - lo)

/-- One bit of a word. -/
def bit (w : Word) (i : Nat) : Bool := fld w i i == 1

/-- A word with bits [hi:lo] replaced by the low bits of `v`. -/
def setFld (w : Word) (hi lo v : Nat) : Word :=
  let m := 2 ^ (hi + 1 - lo)
  BitVec.ofNat 32 (w.toNat % 2 ^ lo + (v % m) * 2 ^ lo + (w.toNat / 2 ^ (hi + 1)) * 2 ^ (hi + 1))

/-- A word with one bit set to `b`. -/
def setBit (w : Word) (i : Nat) (b : Bool) : Word := setFld w i i (if b then 1 else 0)

/-- A number as a word, modulo 2^32. -/
def u32 (n : Nat) : Word := BitVec.ofNat 32 n

/-- An integer as a word, modulo 2^32. -/
def i32 (i : Int) : Word := BitVec.ofInt 32 i

/-- The `n`-bit number `v` read as two's complement. -/
def signed (n v : Nat) : Int :=
  let x := v % 2 ^ n
  if x < 2 ^ (n - 1) then (x : Int) else (x : Int) - (2 ^ n : Nat)

/-- An integer as an `n`-bit two's complement pattern. -/
def pattern (n : Nat) (i : Int) : Nat := (i % ((2 ^ n : Nat) : Int)).toNat

/-- Clamp to a closed range (R58 and the limits of R166). -/
def clampI (lo hi x : Int) : Int := if x > hi then hi else if x < lo then lo else x

/-- Saturation to a signed width (R58): `sat x width`. -/
def satI (width : Nat) (x : Int) : Int := clampI (-(2 ^ (width - 1) : Nat)) ((2 ^ (width - 1) : Nat) - 1) x

/-- Whether a saturation to that width clamps. -/
def clampsI (width : Nat) (x : Int) : Bool := satI width x != x

/-- `sat16` of R58. -/
def sat16 (x : Int) : Int := satI 16 x

/-- A saturating count of `width` bits after `n` more events. -/
def satAdd (width a n : Nat) : Nat := min (a + n) (2 ^ width - 1)

/-- Clamp a natural number. -/
def clampN (lo hi x : Nat) : Nat := max lo (min hi x)

/-- The extraction of R65 without its flag: round half up at bit 15 after a left shift, then sat16. -/
def extRaw (x : Int) (s : Nat) : Int := (x * (2 ^ s : Nat) + 2 ^ 14) / 2 ^ 15

/-- The extraction of R65. -/
def ext (x : Int) (s : Nat) : Int := sat16 (extRaw x s)

/-- The bytes of a number, least significant first (R2). -/
def leBytes : Nat → Nat → List Byte
  | 0, _ => []
  | k + 1, n => BitVec.ofNat 8 n :: leBytes k (n / 256)

/-- The number whose bytes are given, least significant first (R2). -/
def ofLE : List Byte → Nat
  | [] => 0
  | b :: bs => b.toNat + 256 * ofLE bs

/-- The bytes of a number, most significant first (the signatures of chapter 20 only). -/
def beBytes (k n : Nat) : List Byte := (leBytes k n).reverse

/-- The number whose bytes are given, most significant first. -/
def ofBE (bs : List Byte) : Nat := ofLE bs.reverse

/-- `n` bytes of a list from an offset; bytes past its end read 0. -/
def sliceB (bs : List Byte) (off n : Nat) : List Byte :=
  let t := (bs.drop off).take n
  t ++ List.replicate (n - t.length) 0

/-- The little-endian number of `n` bytes at an offset of a byte list. -/
def leAt (bs : List Byte) (off n : Nat) : Nat := ofLE (sliceB bs off n)

/-- A Boolean as a bit. -/
def b2n (b : Bool) : Nat := if b then 1 else 0

/-- Signum. -/
def sgn (i : Int) : Int := if i < 0 then -1 else if i = 0 then 0 else 1

/-- Truncation toward zero of a quotient (R136: each held quantity is truncated toward zero). -/
def truncDiv (a b : Int) : Int := Int.tdiv a b

/-- The latest 64-bit count that has `low` as its low 32 bits and is not after `now` (R134, R280, R427). -/
def extend32 (now low : Nat) : Nat := now - ((now + 2 ^ 32 - low % 2 ^ 32) % 2 ^ 32)

end Sys2Proof.Machine
end

