-- ==== Sys2Proof/Machine/Tab.lean ====
section
/-! DEFINITION. Tables keyed by a number and byte memories, as sorted lists; the default of a table is the
entry's reset value (the field defaults of its structure). -/

namespace Sys2Proof.Machine

/-- A table: pairs of a number and an entry, numbers strictly rising. A number that is not listed holds the
entry type's default. -/
abbrev Tab (α : Type) := List (Nat × α)

/-- The entry of a number, if it is listed. -/
def tfind {α : Type} : Tab α → Nat → Option α
  | [], _ => none
  | (k, v) :: t, n => if k = n then some v else tfind t n

/-- The entry of a number; the default when it is not listed. -/
def tget {α : Type} [Inhabited α] (t : Tab α) (n : Nat) : α := (tfind t n).getD default

/-- Store an entry, keeping the numbers rising. -/
def tset {α : Type} : Tab α → Nat → α → Tab α
  | [], n, v => [(n, v)]
  | (k, w) :: t, n, v =>
    if n < k then (n, v) :: (k, w) :: t
    else if n = k then (n, v) :: t
    else (k, w) :: tset t n v

/-- Remove an entry. -/
def tdel {α : Type} : Tab α → Nat → Tab α
  | [], _ => []
  | (k, w) :: t, n => if k = n then t else (k, w) :: tdel t n

/-- Change an entry. -/
def tmod {α : Type} [Inhabited α] (t : Tab α) (n : Nat) (f : α → α) : Tab α := tset t n (f (tget t n))

/-- Change every listed entry. -/
def tmap {α : Type} (t : Tab α) (f : Nat → α → α) : Tab α := t.map fun p => (p.1, f p.1 p.2)

/-- The numbers of a table rise strictly. -/
def Tab.wf {α : Type} : Tab α → Bool
  | [] => true
  | [_] => true
  | (a, _) :: (b, w) :: t => decide (a < b) && Tab.wf ((b, w) :: t)

/-- A byte memory: (address, byte) pairs, addresses strictly rising, no byte equal to what an unlisted address
reads as. An unlisted address reads 0: R118 gives that for core-local memory and lane SRAM; for DRAM and the
managed NAND the spec gives no contents and 0 is the model's choice (assumption 3). -/
abbrev Memory := List Host.Cell

/-- What an unlisted address reads as. -/
def unlisted : Byte := 0

/-- The byte at an address. -/
def mread : Memory → Nat → Byte
  | [], _ => unlisted
  | (k, v) :: t, a => if k = a then v else mread t a

/-- Remove an address: it then reads as unlisted. -/
def mdel : Memory → Nat → Memory
  | [], _ => []
  | (k, v) :: t, a => if k = a then t else (k, v) :: mdel t a

/-- List an address with a byte. -/
def mput : Memory → Nat → Byte → Memory
  | [], a, b => [(a, b)]
  | (k, v) :: t, a, b =>
    if a < k then (a, b) :: (k, v) :: t
    else if a = k then (a, b) :: t
    else (k, v) :: mput t a b

/-- Write one byte, keeping the canonical form. -/
def mwrite (m : Memory) (a : Nat) (b : Byte) : Memory := if b = unlisted then mdel m a else mput m a b

/-- The canonical form of a memory. -/
def Memory.wf : Memory → Bool
  | [] => true
  | [(_, v)] => decide (v ≠ unlisted)
  | (a, v) :: (b, w) :: t => decide (v ≠ unlisted) && decide (a < b) && Memory.wf ((b, w) :: t)

/-- Read `n` bytes upward from an address. -/
def mreadN (m : Memory) (a : Nat) : Nat → List Byte
  | 0 => []
  | n + 1 => mread m a :: mreadN m (a + 1) n

/-- Write bytes upward from an address. -/
def mwriteN (m : Memory) (a : Nat) : List Byte → Memory
  | [] => m
  | b :: bs => mwriteN (mwrite m a b) (a + 1) bs

/-- The number of `n` little-endian bytes at an address (R2). -/
def mreadLE (m : Memory) (a : Nat) : Nat → Nat
  | 0 => 0
  | n + 1 => (mread m a).toNat + 256 * mreadLE m (a + 1) n

/-- Store a number as `n` little-endian bytes (R2). -/
def mwriteLE (m : Memory) (a : Nat) : Nat → Nat → Memory
  | 0, _ => m
  | n + 1, v => mwriteLE (mwrite m a (BitVec.ofNat 8 v)) (a + 1) n (v / 256)

end Sys2Proof.Machine
end

