-- ==== Sys2Proof/Machine/Parts/Fus.lean ====
section
/-! DEFINITION. The fusion engine (spec/11), beyond its registers. Times are local-clock ns, positions and variances
binary64 patterns. -/

namespace Sys2Proof.Machine

/-- An object of a list, as its 64 bytes say (R342). -/
structure FObj where
  free : Bool := false
  cls : Nat := 0
  conf : Nat := 0
  stationary : Bool := false
  x : Int := 0
  y : Int := 0
  z : Int := 0
  vx : Int := 0
  vy : Int := 0
  len : Nat := 0
  wid : Nat := 0
  hgt : Nat := 0
  yaw : Nat := 0
  varx : Nat := 0
  vary : Nat := 0
  varv : Nat := 0
  deriving DecidableEq, Repr, Inhabited

/-- A complete list (R344, R347). -/
structure FList where
  src : Nat := 0
  tv : Int := 0
  frame : Nat := 0
  objs : List FObj := []
  deriving DecidableEq, Repr, Inhabited

/-- A list being assembled (R344): its header, the objects so far by index, the HTB instant of its first unit. -/
structure FAsm where
  lseq : Nat := 0
  nobj : Nat := 0
  frame : Nat := 0
  tsrc : Nat := 0
  period : Nat := 0
  first : Nat := 0
  objs : Tab FObj := []
  deriving DecidableEq, Repr, Inhabited

/-- The clock states of a source (R346, R364 codes). -/
inductive FClk where
  | off | acq | sync | unsync | stale
  deriving DecidableEq, Repr, Inhabited

/-- The code of a clock state (R364). -/
def FClk.code : FClk → Nat
  | .off => 0
  | .acq => 1
  | .sync => 2
  | .unsync => 3
  | .stale => 4

/-- A source (R343–R346): its clock estimate, whether the estimator starts afresh, the last complete list, the list being
assembled, the unit whose CAN frames are coming in with its arrival. -/
structure FSrc where
  clk : FClk := .off
  fresh : Bool := true
  off : Int := 0
  rate : Int := 0
  tref : Int := 0
  tprev : Int := 0
  good : Nat := 0
  lseq : Option Nat := none
  last : Option Nat := none
  period : Nat := 0
  asm : Option FAsm := none
  can : Option (Nat × List Byte) := none
  deriving DecidableEq, Repr, Inhabited

/-- A track (R348–R354). `at_` is the time its state holds for; `det` and `fre` give by source the TV of the last strong
detection and of the last strong free-space assertion; `assoc` and `last` the TV of the last association, `agedAt` the
local-clock instant at which it was processed. -/
structure Track where
  tid : Nat := 0
  at_ : Int := 0
  x : BitVec 64 := 0
  y : BitVec 64 := 0
  z : BitVec 64 := 0
  vx : BitVec 64 := 0
  vy : BitVec 64 := 0
  yaw : BitVec 64 := 0
  varx : BitVec 64 := 0
  vary : BitVec 64 := 0
  varv : BitVec 64 := 0
  measured : Bool := false
  len : Nat := 0
  wid : Nat := 0
  hgt : Nat := 0
  p : Nat := 0
  classes : List Nat := []
  stationary : Bool := false
  confirmed : Bool := false
  disputed : Bool := false
  isNew : Bool := true
  contra : Int := 0
  last : Int := 0
  agedAt : Int := 0
  count : Nat := 0
  assoc : Tab Int := []
  det : Tab Int := []
  fre : Tab Int := []
  deriving DecidableEq, Repr, Inhabited

/-- A stationary feature (R355): machine position and velocity relative to the machine. -/
structure FFeat where
  x : BitVec 64 := 0
  y : BitVec 64 := 0
  ux : BitVec 64 := 0
  uy : BitVec 64 := 0
  deriving DecidableEq, Repr, Inhabited

/-- The fusion states of R359. -/
inductive FState where
  | start | normal | test | recovery
  deriving DecidableEq, Repr, Inhabited

/-- The code of a fusion state (R358). -/
def FState.code : FState → Nat
  | .start => 0
  | .normal => 1
  | .test => 2
  | .recovery => 3

/-- FUS: sources, reorder buffer, tracks by slot, ego-motion, fusion state, outputs, and the count of TRKOVF, which no register
shows (R351). -/
structure FusSt where
  srcs : Tab FSrc := []
  buf : List FList := []
  lastTv : Option Int := none
  tracks : Tab Track := []
  tid : Nat := 0
  evx : BitVec 64 := 0
  evy : BitVec 64 := 0
  w : BitVec 64 := 0
  evar : Option (BitVec 64) := none
  coast : Bool := false
  feats : List (Int × List FFeat) := []
  state : FState := .start
  entered : Nat := 0
  runAt : Nat := 0
  outIdx : Nat := 0
  lastOut : Option Nat := none
  outPend : Bool := false
  oseq : Nat := 0
  mask : Nat := 0
  degraded : Bool := false
  ovf : Bool := false
  ovfCount : Nat := 0
  late : Bool := false
  deriving DecidableEq, Repr, Inhabited

end Sys2Proof.Machine
end

