-- ==== Sys2Proof/Config.lean ====
section
/-! DEFINITION. The values the spec leaves open: constants without a body, applied to the model's own counter
(State.freeCtr) or to the operands. Nothing can evaluate them. -/

namespace Sys2Proof.Config

/-- A byte that the spec leaves open. -/
opaque freeByte : Nat → BitVec 8

/-- A 32-bit value that the spec leaves open. -/
opaque freeWord : Nat → BitVec 32

/-- A 128-bit nonce of the security unit's random source (R492, R570). -/
opaque freeNonce : Nat → BitVec 128

/-- What the world gives a measuring point (a register address) after a count of cold starts at an HTB instant: currents,
voltages, temperatures and raw codes that no rule of the spec computes. -/
opaque sensed : Nat → Nat → Nat → BitVec 32

/-- The last place of the sine of a binary64 angle in radians, as FUS computes it (R349 names no algorithm): the nearest
number or one of its neighbours. -/
opaque fusSin : BitVec 64 → Fin 3

/-- The last place of the cosine of a binary64 angle in radians, as FUS computes it. -/
opaque fusCos : BitVec 64 → Fin 3

/-- The last place of the angle of a vector (y, x), as FUS computes it (R352 names no algorithm). -/
opaque fusAtan2 : BitVec 64 → BitVec 64 → Fin 3

/-- A sine, a cosine or an angle whose argument has none: a pattern that is not finite, a vector of length 0. -/
opaque fusTrig : BitVec 64 → BitVec 64

/-- The rate of a source's clock after a list whose TSRC is the previous list's (R345 divides by 0 there). -/
opaque fusRate : Int → Nat

/-- The height of a track after an association, from the track's and the object's: R351 gives no variance for Z. -/
opaque fusHeight : BitVec 64 → BitVec 64 → BitVec 64

/-- The velocity variance that a track holds while no object has measured it. -/
opaque fusVelVar : BitVec 64

/-- Half the angular width of a track seen from a source, in 2^-16 turn, from its extents LEN and WID, its heading relative
to the line of sight and its distance (R352 gives no formula). -/
opaque fusHalfWidth : Nat → Nat → BitVec 64 → BitVec 64 → Nat

/-- The field value of a binary64 number that the field cannot hold (R340 states none). -/
opaque fusField : BitVec 64 → Nat

/-- Whether a record of a lane's recorder buffer (lane number, store index) holds an uncorrectable error at an HTB instant after a
count of cold starts (R485). -/
opaque recordBad : Nat → Nat → Nat → Nat → Bool

/-- Octevenu's calibration of a port's stamps in ps (R417), by port, speed, and 0 ingress or 1 egress. -/
opaque ethCal : Nat → Nat → Nat → BitVec 20

/-- The serial number of the module (SEC.SERIALHI:SERIALLO, R573 "factory"). -/
opaque serial : BitVec 64

end Sys2Proof.Config
end

