-- ==== Sys2Proof/Machine/F64.lean ====
section
/-! DEFINITION. IEEE 754 binary64 on bit patterns: each operation is exact, then rounded to nearest, ties to even
(R340). -/

namespace Sys2Proof.Machine

/-- A binary64 pattern. -/
abbrev F64 := BitVec 64

/-- The exponent field. -/
def F64.ex (x : F64) : Nat := x.toNat / 2 ^ 52 % 2048
/-- The fraction field. -/
def F64.fr (x : F64) : Nat := x.toNat % 2 ^ 52
/-- The sign. -/
def F64.sg (x : F64) : Bool := x.toNat / 2 ^ 63 % 2 == 1
/-- Whether a pattern is not a number. -/
def F64.isNan (x : F64) : Bool := x.ex == 2047 && x.fr != 0
/-- Whether a pattern is an infinity. -/
def F64.isInf (x : F64) : Bool := x.ex == 2047 && x.fr == 0
/-- Whether a pattern is a zero. -/
def F64.isZero (x : F64) : Bool := x.ex == 0 && x.fr == 0
/-- Not a number, as the model writes it. -/
def fNan : F64 := 0x7FF8000000000000
/-- An infinity. -/
def fInf (s : Bool) : F64 := if s then 0xFFF0000000000000 else 0x7FF0000000000000
/-- A zero. -/
def fZero (s : Bool) : F64 := if s then 0x8000000000000000 else 0

/-- The magnitude of a finite pattern is `mant * 2^qexp`. -/
def F64.mant (x : F64) : Nat := if x.ex = 0 then x.fr else x.fr + 2 ^ 52
/-- The exponent of the mantissa's last bit. -/
def F64.qexp (x : F64) : Int := if x.ex = 0 then -1074 else (x.ex : Int) - 1075
/-- The signed mantissa. -/
def F64.sm (x : F64) : Int := if x.sg then -(x.mant : Int) else x.mant

/-- A quotient rounded to the nearest integer, ties to even. -/
def divRne (n d : Nat) : Nat :=
  let q := n / d
  let r := n % d
  if 2 * r < d then q else if d < 2 * r then q + 1 else if q % 2 = 0 then q else q + 1

/-- The pattern nearest to ±(num/den) · 2^q. -/
def fRound (s : Bool) (num den : Nat) (q : Int) : F64 :=
  if num = 0 then fZero s
  else
    let t : Int := (num.log2 : Int) - den.log2
    let atLeast := if 0 ≤ t then decide (den * 2 ^ t.toNat ≤ num) else decide (den ≤ num * 2 ^ (-t).toNat)
    let top := (if atLeast then t else t - 1) + q
    let e := max (top - 52) (-1074)
    let sh := q - e
    let m := if 0 ≤ sh then divRne (num * 2 ^ sh.toNat) den else divRne num (den * 2 ^ (-sh).toNat)
    let r : Nat × Int := if m = 2 ^ 53 then (2 ^ 52, e + 1) else (m, e)
    let sign := if s then 2 ^ 63 else 0
    if r.1 < 2 ^ 52 then BitVec.ofNat 64 (sign + r.1)
    else
      let f := (r.2 + 1075).toNat
      if 2047 ≤ f then fInf s else BitVec.ofNat 64 (sign + f * 2 ^ 52 + (r.1 - 2 ^ 52))

/-- The pattern nearest to m · 2^q. -/
def fOf (m q : Int) : F64 := fRound (decide (m < 0)) m.natAbs 1 q

/-- An integer as a binary64 number. -/
def fInt (m : Int) : F64 := fOf m 0

/-- The opposite. -/
def fNeg (x : F64) : F64 := x ^^^ 0x8000000000000000
/-- The absolute value. -/
def fAbs (x : F64) : F64 := x &&& 0x7FFFFFFFFFFFFFFF

/-- The sum. -/
def fAdd (x y : F64) : F64 :=
  if x.isNan || y.isNan then fNan
  else if x.isInf then (if y.isInf && x.sg != y.sg then fNan else x)
  else if y.isInf then y
  else
    let q := min x.qexp y.qexp
    let m := x.sm * 2 ^ (x.qexp - q).toNat + y.sm * 2 ^ (y.qexp - q).toNat
    if m = 0 then fZero (x.isZero && y.isZero && x.sg && y.sg) else fOf m q

/-- The difference. -/
def fSub (x y : F64) : F64 := fAdd x (fNeg y)

/-- The product. -/
def fMul (x y : F64) : F64 :=
  let s := x.sg != y.sg
  if x.isNan || y.isNan then fNan
  else if x.isInf || y.isInf then (if x.isZero || y.isZero then fNan else fInf s)
  else fRound s (x.mant * y.mant) 1 (x.qexp + y.qexp)

/-- The quotient. -/
def fDiv (x y : F64) : F64 :=
  let s := x.sg != y.sg
  if x.isNan || y.isNan then fNan
  else if x.isInf then (if y.isInf then fNan else fInf s)
  else if y.isInf then fZero s
  else if y.isZero then (if x.isZero then fNan else fInf s)
  else fRound s x.mant y.mant (x.qexp - y.qexp)

/-- Less than; false when an operand is not a number. -/
def fLt (x y : F64) : Bool :=
  if x.isNan || y.isNan then false
  else if x.isInf then x.sg && !(y.isInf && y.sg)
  else if y.isInf then !y.sg
  else
    let q := min x.qexp y.qexp
    decide (x.sm * 2 ^ (x.qexp - q).toNat < y.sm * 2 ^ (y.qexp - q).toNat)

/-- Less than or equal; false when an operand is not a number. -/
def fLe (x y : F64) : Bool := !x.isNan && !y.isNan && !fLt y x

/-- The nearest integer of a finite number, ties to even; `none` for the others. -/
def fNearest (x : F64) : Option Int :=
  if x.ex = 2047 then none
  else
    let m := if 0 ≤ x.qexp then x.mant * 2 ^ x.qexp.toNat else divRne x.mant (2 ^ (-x.qexp).toNat)
    some (if x.sg then -(m : Int) else m)

/-- The integer below a finite number; `none` for the others. -/
def fFloor (x : F64) : Option Int :=
  if x.ex = 2047 then none
  else some (if 0 ≤ x.qexp then x.sm * 2 ^ x.qexp.toNat else x.sm / 2 ^ (-x.qexp).toNat)

/-- The binary64 number nearest to π (PRESUMED: the manual names no constant). -/
def fPi : F64 := 0x400921FB54442D18

end Sys2Proof.Machine
end

