-- ==== Sys2Proof/Machine/Trig.lean ====
section
/-! DEFINITION. Sine, cosine and the angle of a vector in binary64 (R349, R352): the exact value, in fixed point with 256
fraction bits, rounded to the nearest binary64 number. The manual names no algorithm, so the last place is open: the result is
that number or a neighbour of it. -/

namespace Sys2Proof.Machine

/-- 2^256. -/
def fixOne : Nat := 2 ^ 256
/-- π in fixed point. -/
def fixPi : Nat := 0x3243F6A8885A308D313198A2E03707344A4093822299F31D0082EFA98EC4E6C89

/-- The Taylor terms of sine or cosine in fixed point: from `term`, the term of power `k`, on; `sq` is the angle squared. -/
def fixTerms (sq : Nat) : Nat → Nat → Nat → Bool → Int → Int
  | 0, _, _, _, acc => acc
  | n + 1, k, term, neg, acc =>
    fixTerms sq n (k + 2) (term * sq / fixOne / ((k + 1) * (k + 2))) (!neg) (if neg then acc - term else acc + term)

/-- The sine of a fixed-point angle of less than 2π. -/
def fixSin (a : Nat) : Int := fixTerms (a * a / fixOne) 56 1 a false 0
/-- The cosine of a fixed-point angle of less than 2π. -/
def fixCos (a : Nat) : Int := fixTerms (a * a / fixOne) 56 0 fixOne false 0

/-- A finite binary64 angle in fixed point, modulo 2π. -/
def fixAngle (x : F64) : Nat :=
  let q := x.qexp + 256
  let v : Int := if 0 ≤ q then x.sm * 2 ^ q.toNat else x.sm / 2 ^ (-q).toNat
  (v % (2 * fixPi : Nat)).toNat

/-- The terms of atan r = Σ 4^n (n!)² / (2n+1)! · r^(2n+1) / (1 + r²)^(n+1) from `term` on; `num / den` is r² / (1 + r²). -/
def fixAtanTerms (num den : Nat) : Nat → Nat → Nat → Nat → Nat
  | 0, _, _, acc => acc
  | m + 1, n, term, acc => fixAtanTerms num den m (n + 1) (term * num * (2 * n + 2) / (den * (2 * n + 3))) (acc + term)

/-- The angle of the vector (b, a) with 0 ≤ a ≤ b, 0 < b, in fixed point. -/
def fixAtan (a b : Nat) : Nat := fixAtanTerms (a * a) (a * a + b * b) 256 0 (a * b * fixOne / (a * a + b * b)) 0

/-- The angle of a finite vector that is not 0, in fixed point, from −π to π. -/
def fixAtan2 (y x : F64) : Int :=
  let q := min x.qexp y.qexp
  let a := y.mant * 2 ^ (y.qexp - q).toNat
  let b := x.mant * 2 ^ (x.qexp - q).toNat
  let t := if a ≤ b then fixAtan a b else fixPi / 2 - fixAtan b a
  let t := if x.sg then fixPi - t else t
  if y.sg then -(t : Int) else t

/-- A number, or with an open last place `e` a neighbour of it: 0 the number itself, 1 the next greater in magnitude, 2 the next
smaller. -/
def fPlace (x : F64) (e : Fin 3) : F64 :=
  if x.isZero then x else match e with
    | 0 => x
    | 1 => x + 1
    | 2 => x - 1

/-- The sine of an angle in radians. An angle that is no number, or not finite, has none that the manual states. -/
def fSin (x : F64) : F64 :=
  if x.ex = 2047 then Config.fusTrig x
  else if x.ex < 983 then fPlace x (if x.isZero then 0 else Config.fusSin x)
  else fPlace (fOf (fixSin (fixAngle x)) (-256)) (Config.fusSin x)

/-- The cosine of an angle in radians. -/
def fCos (x : F64) : F64 :=
  if x.ex = 2047 then Config.fusTrig x
  else if x.isZero then fInt 1
  else fPlace (fOf (fixCos (fixAngle x)) (-256)) (Config.fusCos x)

/-- The angle in radians of a vector (y, x). The vector 0, and one that is not finite, have none that the manual states; an
angle below 2^-256 counts as 0. -/
def fAtan2 (y x : F64) : F64 :=
  if x.ex = 2047 ∨ y.ex = 2047 ∨ (x.isZero ∧ y.isZero) then Config.fusTrig (x ^^^ y)
  else fPlace (fOf (fixAtan2 y x) (-256)) (Config.fusAtan2 y x)

end Sys2Proof.Machine
end

