-- ==== Sys2Proof/Machine/FusGeo.lean ====
section
/-! DEFINITION. The geometry of fusion: frames, prediction, association, ego-motion (R348–R355). Every operation is one
binary64 operation, in the order the manual writes it. -/

namespace Sys2Proof.Machine

/-- 2π. -/
def f2Pi : F64 := fMul (fInt 2) fPi
/-- A heading in 2^-16 turn as radians (R339). -/
def fAngle (h : Nat) : F64 := fDiv (fMul (fInt h) f2Pi) (fInt 65536)
/-- Radians as a heading in 2^-16 turn (R339, R340). -/
def fHeading (a : F64) : Nat :=
  match fNearest (fDiv (fMul a (fInt 65536)) f2Pi) with
  | some n => (n % 65536).toNat
  | none => Config.fusField a % 65536

/-- A vector turned by an angle; an angle of 0 leaves it as it is. -/
def rotate (x y th : F64) : F64 × F64 :=
  let c := fCos th
  let n := fSin th
  (fSub (fMul x c) (fMul y n), fAdd (fMul x n) (fMul y c))

/-- The pose of a source (R365). -/
structure Mount where
  x : Int
  y : Int
  z : Int
  yaw : Nat

/-- An object in the machine frame, with the velocity relative to the machine in `ux`, `uy` (R348, R355). -/
structure MObj where
  o : FObj
  x : F64
  y : F64
  z : F64
  vx : F64
  vy : F64
  ux : F64
  uy : F64
  yaw : F64

/-- An object in the machine frame (R348 step 1, R349). -/
def toMachine (m : Mount) (frame : Nat) (evx evy w : F64) (o : FObj) : MObj :=
  if frame = 1 then
    { o := o, x := fInt o.x, y := fInt o.y, z := fInt o.z, vx := fInt o.vx, vy := fInt o.vy, ux := fInt o.vx, uy := fInt o.vy,
      yaw := fAngle o.yaw }
  else
    let a := fAngle m.yaw
    let p := rotate (fInt o.x) (fInt o.y) a
    let u := rotate (fInt o.vx) (fInt o.vy) a
    let x := fAdd p.1 (fInt m.x)
    let y := fAdd p.2 (fInt m.y)
    { o := o, x := x, y := y, z := fAdd (fInt o.z) (fInt m.z), vx := fSub (fAdd u.1 evx) (fMul w y),
      vy := fAdd (fAdd u.2 evy) (fMul w x), ux := u.1, uy := u.2, yaw := fAdd (fAngle o.yaw) a }

/-- A number of ns as seconds. -/
def fSeconds (ns : Int) : F64 := fDiv (fInt ns) (fInt 1000000000)

/-- A track predicted to a time (R349). -/
def Track.predict (t : Track) (evx evy w : F64) (qpos qvel : Nat) (tv : Int) : Track :=
  let dt := fSeconds (tv - t.at_)
  let x1 := fAdd t.x (fMul (fAdd (fSub t.vx evx) (fMul w t.y)) dt)
  let y1 := fAdd t.y (fMul (fSub (fSub t.vy evy) (fMul w t.x)) dt)
  let th := fMul (fNeg w) dt
  let p := rotate x1 y1 th
  let v := rotate t.vx t.vy th
  let dt2 := fMul dt dt
  let q := fMul (fInt qpos) (fAbs dt)
  { t with
    at_ := tv, x := p.1, y := p.2, vx := v.1, vy := v.2, yaw := fAdd t.yaw th,
    varx := fAdd (fAdd t.varx (fMul t.varv dt2)) q, vary := fAdd (fAdd t.vary (fMul t.varv dt2)) q,
    varv := fAdd t.varv (fMul (fInt qvel) (fAbs dt)) }

/-- Not measured (R339). -/
def notMeasured : Nat := 0xFFFFFFFF

/-- The class of a track (R353). -/
def Track.cls (t : Track) : Nat :=
  ((List.range 8).foldl (fun (b : Nat × Nat) k =>
    let c := t.classes.getD k 0
    if b.2 < c ∨ (b.2 = c ∧ b.1 = 0) then (k, c) else b) (0, t.classes.getD 0 0)).1

/-- The distance d² of a pair as Q16.16 (R350); `none` when it is no finite number. -/
def pairDist (t : Track) (o : MObj) : Option Nat :=
  let dx := fSub o.x t.x
  let dy := fSub o.y t.y
  let d := fAdd (fDiv (fMul dx dx) (fAdd t.varx (fInt o.o.varx))) (fDiv (fMul dy dy) (fAdd t.vary (fInt o.o.vary)))
  (fFloor (fMul d (fInt 65536))).map (·.toNat)

/-- The gain GATE − d² of a gated pair (R350). -/
def pairGain (gate : Nat) (clsGate : Bool) (t : Track) (o : MObj) : Option Nat :=
  if o.o.varx = notMeasured ∨ o.o.vary = notMeasured then none
  else if clsGate && !(t.cls == o.o.cls || o.o.cls == 0 || t.cls == 0) then none
  else match pairDist t o with
    | some d => if d ≤ gate then some (gate - d) else none
    | none => none

/-- Whether a list of pairs comes before another in lexicographic order. -/
def pairsBefore : List (Nat × Nat) → List (Nat × Nat) → Bool
  | [], _ => true
  | _ :: _, [] => false
  | a :: as, b :: bs =>
    if a.1 < b.1 ∨ (a.1 = b.1 ∧ a.2 < b.2) then true else if a = b then pairsBefore as bs else false

/-- The better of two assignments: the greater sum, then the earlier list (R350). -/
def betterOf (a b : Nat × List (Nat × Nat)) : Nat × List (Nat × Nat) :=
  if b.1 < a.1 then a else if a.1 < b.1 then b else if pairsBefore a.2 b.2 then a else b

/-- The best assignment of the rows (a track slot with its gated objects and gains), objects in `used` being taken. -/
def bestAssign : List (Nat × List (Nat × Nat)) → List Nat → Nat × List (Nat × Nat)
  | [], _ => (0, [])
  | (slot, os) :: rows, used =>
    os.foldl (fun best og =>
      if used.contains og.1 then best
      else
        let r := bestAssign rows (og.1 :: used)
        betterOf best (og.2 + r.1, (slot, og.1) :: r.2)) (bestAssign rows used)

/-- Whether a FREE entry holds a point (R342). -/
def freeHolds (f : MObj) (x y : F64) : Bool :=
  let p := rotate (fSub x f.x) (fSub y f.y) (fNeg f.yaw)
  fLe (fAbs p.1) (fDiv (fInt f.o.len) (fInt 2)) && fLe (fAbs p.2) (fDiv (fInt f.o.wid) (fInt 2))

/-- The bearing in 2^-16 turn and the squared distance of a point from a mounting point. -/
def bearing (m : Mount) (x y : F64) : Nat × F64 :=
  let dx := fSub x (fInt m.x)
  let dy := fSub y (fInt m.y)
  (fHeading (fAtan2 dy dx), fAdd (fMul dx dx) (fMul dy dy))

/-- The angle between two headings. -/
def headingGap (a b : Nat) : Nat := let d := (a + 65536 - b % 65536) % 65536; min d (65536 - d)

/-- Whether a track centre lies in the field of view of a source (R352). -/
def inFov (m : Mount) (fmin fmax rng : Nat) (t : Track) : Bool :=
  let b := bearing m t.x t.y
  decide (rng ≠ 0) && decide ((b.1 + 65536 - fmin) % 65536 ≤ (fmax + 65536 - fmin) % 65536) &&
    fLe b.2 (fMul (fInt rng) (fInt rng))

/-- Whether an associated track hides another (R352): it is nearer, and the other's bearing lies within its angular
width. -/
def hides (m : Mount) (a t : Track) : Bool :=
  let ba := bearing m a.x a.y
  let bt := bearing m t.x t.y
  fLt ba.2 bt.2 && decide (headingGap ba.1 bt.1 ≤ Config.fusHalfWidth a.len a.wid (fSub a.yaw (fAngle ba.1)) ba.2)

/-! ### Ego-motion -/

/-- A sum in order. -/
def fSum (l : List F64) : F64 := l.foldl fAdd 0

/-- The fit of R355 over features: evx, evy, ω, sxy and the number. -/
def egoFit (fs : List FFeat) : F64 × F64 × F64 × F64 :=
  let n := fInt fs.length
  let mean (g : FFeat → F64) : F64 := fDiv (fSum (fs.map g)) n
  let xm := mean (·.x)
  let ym := mean (·.y)
  let uxm := mean (·.ux)
  let uym := mean (·.uy)
  let sq (a : F64) : F64 := fMul a a
  let sxy := fSum (fs.map fun f => fAdd (sq (fSub f.x xm)) (sq (fSub f.y ym)))
  let a := fSum (fs.map fun f => fMul (fSub f.y ym) (fSub f.ux uxm))
  let b := fSum (fs.map fun f => fMul (fSub f.x xm) (fSub f.uy uym))
  let w := fDiv (fSub a b) sxy
  (fAdd (fNeg uxm) (fMul w ym), fSub (fNeg uym) (fMul w xm), w, sxy)

/-- The squared residual of a feature under a fit. -/
def egoRes (evx evy w : F64) (f : FFeat) : F64 :=
  let a := fSub (fAdd f.ux evx) (fMul w f.y)
  let b := fAdd (fAdd f.uy evy) (fMul w f.x)
  fAdd (fMul a a) (fMul b b)

/-- The result of an accepted fit: evx, evy, ω, EVAR and the number of features. -/
structure EgoFit where
  evx : F64
  evy : F64
  w : F64
  evar : F64
  n : Nat

/-- The fit with one rejection pass, and whether it is accepted (R355, R356). -/
def egoSolve (fs : List FFeat) (rej spread : Nat) : Option EgoFit :=
  if fs.length < 6 then none
  else
    let a := egoFit fs
    let kept := fs.filter fun f => !fLt (fInt rej) (egoRes a.1 a.2.1 a.2.2.1 f)
    let n := kept.length
    if n < 6 then none
    else
      let b := egoFit kept
      let evx := b.1
      let evy := b.2.1
      let w := b.2.2.1
      let sxy := b.2.2.2
      if !fLe (fInt (spread * 1000000)) (fDiv sxy (fInt n)) then none
      else
        let r := fSum (kept.map (egoRes evx evy w))
        some { evx := evx, evy := evy, w := w, evar := fDiv (fDiv r (fInt (2 * n - 3))) (fInt n), n := n }

/-- A value written to a field of `bits` bits, signed or not (R340); a value the field cannot hold is open. -/
def fieldOf (bits : Nat) (sgn : Bool) (x : F64) : Nat :=
  match fNearest x with
  | some n =>
    let ok := if sgn then decide (-(2 ^ (bits - 1) : Nat) ≤ n ∧ n < (2 ^ (bits - 1) : Nat)) else decide (0 ≤ n ∧ n < (2 ^ bits : Nat))
    if ok then pattern bits n else Config.fusField x % 2 ^ bits
  | none => Config.fusField x % 2 ^ bits

end Sys2Proof.Machine
end

