-- ==== Sys2Proof/Machine/RegsNet.lean ====
section
/-! DEFINITION. Register maps of TIM (R432), ETH (R431) and REC (R496). -/

namespace Sys2Proof.Machine

/-- TIM (R432). -/
def regsTim : List RegDesc := [
  R "CTRL" 0x000 [F "LOCK" 31 31 .w1s, K "EVCORE" 10 8 .rw, K "REVERT" 6 6 .rw, K "AUTO" 5 5 .rw 1, K "STEPEN" 4 4 .rw,
    K "PREF" 1 1 .rw, K "EVEN" 0 0 .rw],
  R "STAT" 0x004 [F "CSTATE" 17 16 .ro 3, F "HARDFLT" 8 8 .ro, F "SLEWING" 2 2 .ro, F "STEPPED" 1 1 .w1c,
    F "SWITCHED" 0 0 .w1c],
  R "CMD" 0x008 [F "V" 31 0 .wo],
  R "NOWLO" 0x010 [F "V" 31 0 .ro], R "NOWHI" 0x014 [K "V" 31 0 .ro], R "NOWF" 0x018 [K "V" 31 0 .ro],
  R "SECLO" 0x01C [K "V" 31 0 .ro], R "SECHI" 0x020 [K "V" 31 0 .ro], R "NS" 0x024 [K "V" 31 0 .ro],
  R "HTBLO" 0x028 [K "V" 31 0 .ro], R "HTBHI" 0x02C [K "V" 31 0 .ro],
  R "ADDLO" 0x030 [F "V" 31 0 .ro], R "ADDHI" 0x034 [F "V" 7 0 .ro 4],
  R "FREEADJ" 0x038 [K "PPB" 31 0 .rwl 0 [(0, 500000), (0xFFF85EE0, 0xFFFFFFFF)]],
  R "Q" 0x03C [F "V" 31 0 .ro],
  R "SLEW" 0x040 [K "SLEWPPB" 15 0 .rwl 50000 [(1, 50000)]],
  R "QMAX" 0x044 [K "NS" 31 0 .rwl 10000000 [(0, 1000000000)]],
  R "STEPTHR" 0x048 [K "NS" 31 0 .rwl 100000], R "REVDLY" 0x04C [K "S" 15 0 .rwl 10],
  R "STEPCNT" 0x050 [K "N" 31 0 .ro], R "SWCNT" 0x054 [K "N" 31 0 .ro],
  RA "CFG" 0x100 [(0x40, 2)] [K "EN" 31 31 .rwl, K "SRC" 29 28 .rwl 0 [(0, 2)], K "DOMAIN" 23 16 .rwl,
    K "TMO" 15 0 .rwl 0x3E8 [(10, 65535)]],
  RA "KP" 0x104 [(0x40, 2)] [K "V" 31 0 .rwl 0x8000], RA "KI" 0x108 [(0x40, 2)] [K "V" 31 0 .rwl 0xCCD],
  RA "MAXPPB" 0x10C [(0x40, 2)] [K "V" 19 0 .rwl 200000],
  RA "OFFLO" 0x110 [(0x40, 2)] [F "V" 31 0 .wo], RA "OFFHI" 0x114 [(0x40, 2)] [F "V" 31 0 .wo],
  RA "MTIME" 0x118 [(0x40, 2)] [F "V" 31 0 .wo], RA "SECOFF" 0x11C [(0x40, 2)] [K "V" 31 0 .rw],
  RA "STAT" 0x120 [(0x40, 2)] [F "VALID" 31 31 .ro, F "N" 15 0 .ro], RA "ERR" 0x124 [(0x40, 2)] [F "V" 31 0 .ro],
  RA "FREQ" 0x128 [(0x40, 2)] [F "V" 31 0 .ro], RA "D" 0x12C [(0x40, 2)] [F "V" 31 0 .ro],
  RA "LOCKTHR" 0x130 [(0x40, 2)] [K "NS" 31 0 .rwl 1000], RA "LOCKN" 0x134 [(0x40, 2)] [K "N" 7 0 .rwl 4 [(1, 255)]]]

/-- The ring registers LRBASE–LRDROP of R271, which every ring repeats (R255). -/
def ringRegs (off : Nat) (dims : List (Nat × Nat)) (sizes : List (Nat × Nat)) : List RegDesc := [
  RA "BASE" off dims [K "V" 31 0 .rwl], RA "SIZE" (off + 4) dims [K "V" 16 0 .rwl 0 sizes],
  RA "WP" (off + 8) dims [K "V" 15 0 .ro], RA "RP" (off + 0xC) dims [K "V" 15 0 .rw],
  RA "NOTIFY" (off + 0x10) dims [K "V" 16 0 .rw], RA "DROP" (off + 0x14) dims [F "V" 31 0 .rc]]

/-- ETH (R431). -/
def regsEth : List RegDesc := [
  R "CTRL" 0x000 [F "LOCK" 31 31 .w1s, F "EVCORE" 10 8 .rw, F "EVEN" 0 0 .rw],
  R "STAT" 0x004 [F "HARDFLT" 16 16 .ro, F "UP" 9 0 .ro], R "CMD" 0x008 [F "V" 31 0 .wo],
  R "MACLO" 0x010 [K "V" 31 0 .rwl], R "MACHI" 0x014 [K "V" 15 0 .rwl],
  R "AGE" 0x018 [K "S" 15 0 .rwl 300 [(10, 65535)]], R "FDBCNT" 0x01C [F "N" 12 0 .ro],
  RA "CFG1" 0x100 [(0x40, 8)] [K "EN" 31 31 .rwl, K "ROLE" 30 30 .rwl, K "ANEG" 29 29 .rwl, K "SPEED" 27 24 .rwl 0 [(0, 1)],
    K "PCP" 22 20 .rwl 1, K "TAGGEDONLY" 19 19 .rwl, K "PVID" 11 0 .rwl 1],
  RA "CFG10" 0x300 [(0x40, 2)] [K "EN" 31 31 .rwl, K "ROLE" 30 30 .rwl, K "ANEG" 29 29 .rwl, K "SPEED" 27 24 .rwl 4 [(0, 4)],
    K "PCP" 22 20 .rwl 1, K "TAGGEDONLY" 19 19 .rwl, K "PVID" 11 0 .rwl 1],
  RA "STAT" 0x104 [(0x40, 10)] [F "LINK" 31 31 .ro, F "SPEED" 27 24 .ro, F "SQI" 22 20 .ro, F "ROLE" 19 19 .ro,
    F "LINKLOST" 0 0 .w1c],
  RA "INLAT" 0x108 [(0x40, 10)] [K "PS" 19 0 .rwl], RA "EGLAT" 0x10C [(0x40, 10)] [K "PS" 19 0 .rwl],
  RA "ASYM" 0x110 [(0x40, 10)] [K "PS" 31 0 .rwl],
  RA "RXFRM" 0x114 [(0x40, 10)] [F "N" 31 0 .rc], RA "TXFRM" 0x118 [(0x40, 10)] [F "N" 31 0 .rc],
  RA "RXERR" 0x11C [(0x40, 10)] [F "N" 31 0 .rc], RA "DROP" 0x120 [(0x40, 10)] [F "N" 31 0 .rc],
  RA "VLAN" 0x400 [(8, 64)] [K "V" 31 31 .rwl, K "VID" 11 0 .rwl],
  RA "VLANM" 0x404 [(8, 64)] [K "UNTAG" 26 16 .rwl, K "MEMBER" 10 0 .rwl]] ++
  ringRegs 0x800 [(0x20, 8)] [(0, 0), (16, 4096)] ++ [
  RA "TBASE" 0x900 [(0x10, 4)] [K "V" 31 0 .rwl], RA "TSIZE" 0x904 [(0x10, 4)] [K "V" 15 0 .rwl 0 [(0, 0), (16, 4096)]],
  RA "TWP" 0x908 [(0x10, 4)] [K "V" 15 0 .rw], RA "TRP" 0x90C [(0x10, 4)] [K "V" 15 0 .ro],
  RA "RULE" 0xA00 [(8, 16)] [K "V" 31 31 .rwl, K "DROP" 30 30 .rwl, K "RING" 26 24 .rwl, K "ETYPE" 15 0 .rwl],
  RA "RULE1" 0xA04 [(8, 16)] [K "PORT" 31 16 .rwl, K "VID" 11 0 .rwl],
  RA "ID0" 0xC00 [(0x20, 32)] [K "DA" 31 0 .rwl],
  RA "ID1" 0xC04 [(0x20, 32)] [K "GEN" 31 31 .rwl, K "REC" 30 30 .rwl, K "VID" 27 16 .rwl, K "DA" 15 0 .rwl],
  RA "PORTS" 0xC08 [(0x20, 32)] [K "GPORTS" 25 16 .rwl, K "RPORTS" 9 0 .rwl],
  RA "RCFG" 0xC0C [(0x20, 32)] [K "HIST" 21 16 .rwl 0x10 [(2, 32)], K "RESETMS" 15 0 .rwl 0x3E8 [(1, 65535)]],
  RA "STAT" 0xC10 [(0x20, 32)] [F "SEQ" 31 16 .ro, F "PATHDOWN" 9 0 .w1c],
  RA "PASSED" 0xC14 [(0x20, 32)] [F "N" 31 0 .rc], RA "DISCARD" 0xC18 [(0x20, 32)] [F "ROGUE" 31 16 .rc, F "DUP" 15 0 .rc],
  RA "RESETS" 0xC1C [(0x20, 32)] [F "N" 31 0 .rc]]

/-- REC (R496). PWBUF is banked per core and held with the core. -/
def regsRec : List RegDesc := [
  R "CTRL" 0x000 [F "LOCK" 31 31 .w1s, K "EVCORE" 10 8 .rw, K "LEGACY" 1 1 .rw, K "EVEN" 0 0 .rw],
  R "STAT" 0x004 [F "HARDFLT" 16 16 .ro, F "FLUSHPEND" 9 9 .ro, F "FULL" 8 8 .ro, F "STATE" 1 0 .ro],
  R "CMD" 0x008 [F "V" 31 0 .wo],
  R "SEQLO" 0x010 [K "V" 31 0 .ro], R "SEQHI" 0x014 [K "V" 15 0 .ro], R "OLDLO" 0x018 [K "V" 31 0 .ro],
  R "OLDHI" 0x01C [K "V" 31 0 .ro], R "FLULO" 0x020 [K "V" 31 0 .ro], R "FLUHI" 0x024 [K "V" 31 0 .ro],
  R "NEXTLO" 0x028 [K "V" 31 0 .ro], R "NEXTHI" 0x02C [K "V" 31 0 .ro], R "BUFCNT" 0x030 [K "N" 13 0 .ro],
  R "OPHRS" 0x034 [K "V" 31 0 .ro], R "PCYC" 0x038 [K "V" 23 0 .ro], R "FRZTMO" 0x03C [K "S" 15 0 .rw 60 [(1, 65535)]],
  R "RDIDXLO" 0x040 [F "V" 31 0 .rw], R "RDIDXHI" 0x044 [F "V" 31 0 .rw], R "RDBUF" 0x048 [F "V" 31 0 .rw],
  R "RDCNT" 0x04C [F "N" 8 0 .rw 0 [(1, 256)]], R "TOKADDR" 0x050 [F "V" 31 0 .rw], R "TOKLEN" 0x054 [F "N" 9 0 .rw],
  RA "NONCE" 0x060 [(4, 4)] [F "V" 31 0 .ro], R "DROPCNT" 0x070 [F "N" 31 0 .rc], R "FLUSHCNT" 0x074 [K "N" 31 0 .ro],
  R "FLUSHTIME" 0x078 [F "US" 15 0 .ro], RA "PWBUF" 0x100 [(4, 10)] [F "V" 31 0 .rw], R "PWCMD" 0x128 [F "V" 31 0 .wo]]

end Sys2Proof.Machine
end

