-- ==== Sys2Proof/Machine/RegsHsi.lean ====
section
/-! DEFINITION. The register map of HSI (R271). -/

namespace Sys2Proof.Machine

/-- Powers of two from 2^a to 2^b as ranges, and 0. -/
def pow2Ranges (a b : Nat) : List (Nat × Nat) := (0, 0) :: (List.range (b + 1 - a)).map fun i => (2 ^ (a + i), 2 ^ (a + i))

/-- The registers of AINn and, without RANGE, BRGk (R271). -/
def inputRegs (off n : Nat) (range : Bool) : List RegDesc := [
  RA "CFG" off [(0x20, n)] (K "AVGSH" 6 4 .rw :: if range then [K "RANGE" 1 0 .rw] else []),
  RA "ZERO" (off + 4) [(0x20, n)] [K "V" 31 0 .rw],
  RA "GAIN" (off + 8) [(0x20, n)] [K "GSH" 18 16 .rw, K "GAIN" 15 0 .rw 0x7FFF],
  RA "RAW" (off + 0xC) [(0x20, n)] [F "V" 31 0 .ro], RA "VAL" (off + 0x10) [(0x20, n)] [F "V" 15 0 .ro],
  RA "STAT" (off + 0x14) [(0x20, n)] [F "SAT" 2 2 .w1c, F "FAULT" 1 1 .ro, F "FAULTF" 0 0 .w1c]]

/-- HSI (R271). -/
def regsHsi : List RegDesc := [
  R "CTRL" 0x000 [F "LOCK" 31 31 .w1s, F "EVCORE" 10 8 .rw, F "EVEN" 0 0 .rw],
  R "STAT" 0x004 [F "HARDFLT" 2 2 .ro, F "SRFULL" 1 1 .w1c, F "LRFULL" 0 0 .w1c], R "CMD" 0x008 [F "V" 31 0 .wo],
  R "FNGEN" 0x010 [K "N" 31 0 .ro], R "LCPMASKLO" 0x014 [F "V" 31 0 .rw], R "LCPMASKHI" 0x018 [F "V" 15 0 .rw]] ++
  ringRegs 0x020 [] (pow2Ranges 6 16) ++ ringRegs 0x040 [] (pow2Ranges 6 16) ++ [
  RA "HEDGE" 0x104 [(0x40, 4), (4, 15)] [K "E" 23 0 .rw],
  RA "LCFG" 0x400 [(0x20, 16)] [K "PGRP" 31 28 .rw 15 [(0, 7), (15, 15)], K "GRAINBIN" 27 24 .rw,
    K "WMAX" 23 16 .rw 0xF0 [(1, 255)], K "DEAD" 15 8 .rw 0 [(10, 250)], K "HSET" 7 6 .rw, K "DSH" 5 2 .rw 0 [(1, 8)],
    K "RTEN" 1 1 .rw, K "EN" 0 0 .rw],
  RA "THR" 0x404 [(0x20, 16)] [K "V" 12 0 .rw 0 [(1, 8191)]],
  RA "LSTAT" 0x408 [(0x20, 16)] [F "CLSMIS" 3 3 .w1c, F "CLIP" 2 2 .w1c, F "FAULT" 1 1 .ro, F "FAULTF" 0 0 .w1c],
  RA "TOTAL" 0x40C [(0x20, 16)] [F "N" 31 0 .rc], RA "PILEUP" 0x410 [(0x20, 16)] [F "N" 31 0 .rc],
  RA "WIN" 0x414 [(0x20, 16)] [F "V" 8 0 .ro],
  RA "MASK" 0x800 [(0x10, 32)] [K "V" 31 0 .rw], RA "BMASK" 0x804 [(0x10, 32)] [K "V" 3 0 .rw]] ++
  inputRegs 0xA00 32 true ++ inputRegs 0xE00 4 false ++ [
  RA "CTGT" 0x1000 [(0x40, 48)] [K "V" 15 0 .rw], RA "TTGT" 0x1004 [(0x40, 48)] [F "V" 31 0 .wo],
  RA "LIM" 0x1008 [(0x40, 48)] [K "MAX" 31 16 .rw, K "MIN" 15 0 .rw], RA "RATE" 0x100C [(0x40, 48)] [K "V" 15 0 .rw],
  RA "TGT" 0x1010 [(0x40, 48)] [K "V" 23 0 .ro], RA "PV" 0x1014 [(0x40, 48)] [K "V" 15 0 .rw],
  RA "CTL" 0x1018 [(0x40, 48)] [K "CPVALID" 8 8 .ro, K "CPREF" 7 4 .rw, K "OWNER" 1 0 .rw],
  RA "BIND" 0x101C [(0x40, 48), (4, 2)] [K "V1" 31 31 .rw, K "LC1" 24 16 .rw, K "V0" 15 15 .rw, K "LC0" 8 0 .rw],
  RA "FSTAT" 0x1024 [(0x40, 48)] [F "CPSKIP" 2 2 .w1c, F "TCLAMP" 1 1 .w1c, F "ARRIVED" 0 0 .ro],
  RA "SGEN" 0x1028 [(0x40, 48)] [K "N" 31 0 .ro],
  RA "CP" 0x2000 [(0x200, 16), (8, 48), (4, 2)] [K "V" 31 0 .rw]]

end Sys2Proof.Machine
end

