-- ==== Sys2Proof/Machine/RegsBus.lean ====
section
/-! DEFINITION. The register maps of CAN (R402), LIN, SNT and SER (R403). -/

namespace Sys2Proof.Machine

/-- The sizes of a ring of this chapter (R402). -/
def busSizes : List (Nat × Nat) := [(0, 0), (64, 65536)]
/-- CTRL of a bus block. -/
def busCtrl : RegDesc := R "CTRL" 0x000 [F "LOCK" 31 31 .w1s, F "EVCORE" 10 8 .rw, F "EVEN" 0 0 .rw]
/-- A register of each CAN channel. -/
def CN (name : String) (off : Nat) (fields : List FieldDesc) : RegDesc := RA name (0x1000 + off) [(0x1000, 16)] fields
/-- A register of each transmit buffer. -/
def TX (name : String) (off : Nat) (fields : List FieldDesc) : RegDesc :=
  RA name (0x1400 + off) [(0x1000, 16), (0x60, 32)] fields
/-- The fields of NBT. -/
def nbtFields (b t1 t2 j : Nat) (z : List (Nat × Nat)) : List FieldDesc := [
  K "BRP" 31 26 .rwl b (z ++ [(1, 32)]), K "TSEG1" 25 17 .rwl t1 (z ++ [(2, 256)]), K "TSEG2" 16 9 .rwl t2 (z ++ [(1, 128)]),
  K "SJW" 7 0 .rwl j (z ++ [(1, 128)])]
/-- The fields of DBT. -/
def dbtFields (b t1 t2 j : Nat) (z : List (Nat × Nat)) : List FieldDesc := [
  K "BRP" 29 24 .rwl b (z ++ [(1, 32)]), K "TSEG1" 21 16 .rwl t1 (z ++ [(1, 32)]), K "TSEG2" 12 8 .rwl t2 (z ++ [(1, 16)]),
  K "SJW" 4 0 .rwl j (z ++ [(1, 16)])]

/-- CAN (R402). -/
def regsCan : List RegDesc := [
  busCtrl, R "STAT" 0x004 [F "V" 31 0 .ro], R "CMD" 0x008 [F "V" 31 0 .wo],
  CN "CFG" 0x000 [K "EN" 31 31 .rwl, K "TERM" 30 30 .rwl, K "PHY" 29 29 .rwl, K "FDEN" 28 28 .rwl, K "AUTOREC" 27 27 .rwl 1,
    K "TXECHO" 26 26 .rwl, K "WAKEEN" 25 25 .rwl, K "TDCEN" 24 24 .rwl, K "ERRLOG" 23 23 .rwl,
    K "INITMODE" 22 20 .rwl 0 [(0, 3)], K "TDCO" 19 14 .rwl, K "LOCKN" 13 8 .rwl 8 [(1, 63)]],
  CN "NBT" 0x004 (nbtFields 1 127 32 32 []), CN "DBT" 0x008 (dbtFields 1 31 8 8 []),
  CN "MODE" 0x00C [F "V" 31 0 .ro 7], CN "ERR" 0x010 [F "V" 31 0 .ro],
  CN "ARCFG" 0x014 [K "NEXT" 10 8 .rwl 0 [(0, 1), (3, 3)], K "COUNT" 3 0 .rwl 0 [(0, 8)]],
  CN "TMCFG" 0x018 [K "TM" 31 31 .rwl, K "IDE" 30 30 .rwl, K "TMID" 28 0 .rwl],
  CN "TMPER" 0x01C [K "MS" 15 0 .rwl 100 [(10, 10000)]], CN "TMLASTS" 0x020 [F "V" 31 0 .ro], CN "TMLASTN" 0x024 [F "V" 31 0 .ro],
  CN "PAIR" 0x028 [K "EN" 31 31 .rwl, K "PARTNER" 19 16 .rwl, K "PAIRWIN" 9 0 .rwl 0 [(1, 1000)]],
  CN "STAT" 0x02C [F "TDCV" 7 0 .ro]] ++ ringRegs 0x1030 [(0x1000, 16)] busSizes ++ [
  CN "ERRCNT" 0x048 [F "N" 31 0 .rc], CN "BUSOFFCNT" 0x04C [F "N" 31 0 .rc],
  CN "DUPCNT" 0x050 [F "MISS" 31 16 .rc, F "DUP" 15 0 .rc], CN "PEXCNT" 0x054 [F "N" 31 0 .rc],
  CN "TMSKIP" 0x058 [F "N" 31 0 .rc], CN "TXPEND" 0x05C [F "V" 31 0 .ro],
  RA "ARNOM" 0x1080 [(0x1000, 16), (8, 8)] (nbtFields 0 0 0 0 []),
  RA "ARDAT" 0x1084 [(0x1000, 16), (8, 8)] (dbtFields 0 0 0 0 [(0, 0)]),
  TX "ID" 0x00 [F "IDE" 31 31 .rw, F "RTR" 30 30 .rw, F "ID" 28 0 .rw],
  TX "FMT" 0x04 [F "NOTIFY" 12 12 .rw, F "ONESHOT" 11 11 .rw, F "BRS" 9 9 .rw, F "FDF" 8 8 .rw, F "LEN" 6 0 .rw],
  TX "STAT" 0x08 [F "RESULT" 2 0 .ro], TX "SENTID" 0x0C [F "V" 31 0 .ro],
  RA "DATA" 0x1410 [(0x1000, 16), (0x60, 32), (4, 16)] [F "V" 31 0 .rw]]

/-- LIN (R403). -/
def regsLin : List RegDesc := [
  busCtrl, R "STAT" 0x004 [F "HARDFLT" 16 16 .ro], R "CMD" 0x008 [F "V" 31 0 .wo]] ++ ringRegs 0x020 [] busSizes ++ [
  RA "CFG" 0x100 [(0x40, 6)] [K "EN" 31 31 .rwl, K "PULLUP" 17 17 .rwl 1, K "RATE" 14 0 .rwl 0x4B00 [(1000, 20000)]],
  RA "STAT" 0x104 [(0x40, 6)] [F "V" 31 0 .ro], RA "ERRCNT" 0x108 [(0x40, 6)] [F "N" 31 0 .rc],
  RA "SLOT" 0x1000 [(0x200, 6), (0x80, 4), (4, 32)] [K "V" 31 31 .rw, K "SUBSCRIBE" 29 29 .rw, K "CLASSIC" 28 28 .rw,
    K "LEN" 27 24 .rw 0 [(1, 8)], K "ID" 21 16 .rw, K "MS" 7 0 .rw 0 [(1, 255)]],
  RA "DATA" 0x4000 [(0x200, 6), (8, 64), (4, 2)] [K "V" 31 0 .rw]]

/-- SNT (R403). -/
def regsSnt : List RegDesc := [
  busCtrl, R "STAT" 0x004 [F "HARDFLT" 16 16 .ro]] ++ ringRegs 0x020 [] busSizes ++ [
  RA "CFG" 0x100 [(0x20, 24)] [K "EN" 31 31 .rwl, K "RINGFAST" 30 30 .rwl, K "SLOW" 29 28 .rwl 0 [(0, 2)],
    K "PAUSE" 27 26 .rwl 0 [(0, 2)], K "CRCMODE" 25 25 .rwl, K "NNIB" 22 20 .rwl 0 [(1, 6)], K "TICK" 16 0 .rwl 0 [(3000, 90000)]],
  RA "LASTFAST" 0x104 [(0x20, 24)] [F "V" 31 0 .ro], RA "LASTHTB" 0x108 [(0x20, 24)] [F "V" 31 0 .ro],
  RA "LASTSLOW" 0x10C [(0x20, 24)] [F "V" 23 0 .ro], RA "ERRCNT" 0x110 [(0x20, 24)] [F "SLOW" 31 16 .rc, F "FAST" 15 0 .rc]]

/-- SER (R403). -/
def regsSer : List RegDesc := [
  busCtrl, R "STAT" 0x004 [F "HARDFLT" 16 16 .ro],
  RA "CFG" 0x100 [(0x40, 4)] [K "EN" 31 31 .rwl, K "STD" 30 30 .rwl, K "TERM" 29 29 .rwl, K "RTSCTS" 28 28 .rwl,
    K "IDLEGAP" 27 24 .rwl 2 [(1, 15)], K "PARITY" 21 20 .rwl 0 [(0, 2)], K "STOP2" 19 19 .rwl, K "DATA7" 18 18 .rwl,
    K "DIV" 9 0 .rwl 8 [(1, 768)]],
  RA "STAT" 0x104 [(0x40, 4)] [F "OVERRUN" 19 19 .w1c, F "FRAMING" 18 18 .w1c, F "PARITY" 17 17 .w1c, F "BREAK" 16 16 .w1c,
    F "LEVEL" 8 0 .ro],
  RA "TXD" 0x108 [(0x40, 4)] [F "V" 7 0 .wo]] ++ ringRegs 0x110 [(0x40, 4)] busSizes ++ [
  RA "PPSCFG" 0x400 [(0x20, 2)] [K "EN" 31 31 .rwl, K "EDGE" 1 0 .rwl 0 [(1, 3)]],
  RA "SEC" 0x404 [(0x20, 2)] [F "V" 31 0 .ro], RA "NS" 0x408 [(0x20, 2)] [F "V" 29 0 .ro],
  RA "HTBLO" 0x40C [(0x20, 2)] [F "V" 31 0 .ro], RA "HTBHI" 0x410 [(0x20, 2)] [F "V" 31 0 .ro],
  RA "PPSSTAT" 0x414 [(0x20, 2)] [F "N" 31 16 .ro, F "OVR" 0 0 .w1c]]

end Sys2Proof.Machine
end

