-- ==== Sys2Proof/Machine/RegsCam.lean ====
section
/-! DEFINITION. The register map of CAM (R337). -/

namespace Sys2Proof.Machine

/-- A register of each pipeline. -/
def VP (name : String) (off : Nat) (fields : List FieldDesc) : RegDesc := RA name (0x1000 + off) [(0x200, 8)] fields

/-- A register of each link. -/
def CL (name : String) (off : Nat) (fields : List FieldDesc) : RegDesc := RA name (0x100 + off) [(0x40, 8)] fields

/-- An output's configuration: FORMAT, FY, FX (R322). -/
def outFields : List FieldDesc := [K "FORMAT" 9 8 .rw, K "FY" 7 4 .rw 0 [(1, 8)], K "FX" 3 0 .rw 0 [(1, 8)]]

/-- CAM (R337). -/
def regsCam : List RegDesc := [
  R "CTRL" 0x000 [F "LOCK" 31 31 .w1s, F "EVCORE" 10 8 .rw, F "EVEN" 0 0 .rw], R "STAT" 0x004 [F "V" 31 0 .ro],
  R "CMD" 0x008 [F "V" 31 0 .wo],
  CL "LCFG" 0x00 [K "PWRBOOT" 25 25 .rwl, K "TRIGPOL" 24 24 .rwl, K "TRIGW" 23 16 .rwl 0 [(1, 255)],
    K "I2CSPD" 13 12 .rwl 0 [(0, 2)], K "TRIGGPIO" 10 9 .rwl, K "TRIGEN" 8 8 .rwl, K "GEARMAX" 1 0 .rwl 3 [(1, 3)]],
  CL "LSTAT" 0x04 [F "CUR" 31 24 .ro, F "LINKLOST" 9 9 .w1c, F "PWRFLT" 8 8 .w1c, F "PWRON" 4 4 .ro, F "STATE" 3 2 .ro,
    F "GEAR" 1 0 .ro],
  CL "VCDISC" 0x08 [F "N" 31 0 .rc], CL "DTDISC" 0x0C [F "N" 31 0 .rc], CL "I2CCMD" 0x10 [F "V" 31 0 .wo],
  CL "I2CWD0" 0x14 [F "V" 31 0 .rw], CL "I2CWD1" 0x18 [F "V" 31 0 .rw], CL "I2CRD0" 0x1C [F "V" 31 0 .ro],
  CL "I2CRD1" 0x20 [F "V" 31 0 .ro], CL "I2CSTAT" 0x24 [F "N" 11 8 .ro, F "STATE" 1 0 .ro],
  CL "GPIO" 0x28 [F "IN" 9 8 .ro, F "OUT" 3 0 .rw], CL "TRIGCNT" 0x2C [K "N" 31 0 .ro],
  VP "CTRL" 0x00 [K "RUN" 0 0 .rw], VP "STAT" 0x04 [F "V" 31 0 .ro],
  VP "BIND" 0x08 [K "EN" 31 31 .rwl, K "CAM" 10 8 .rwl, K "VC" 4 0 .rwl],
  VP "GEOM" 0x0C [K "HEIGHT" 27 16 .rwl 0 [(2, 4095)], K "WIDTH" 12 0 .rwl 0 [(16, 4096)]],
  VP "FMT" 0x10 [K "PADMODE" 12 12 .rwl, K "OBROWS" 11 8 .rwl, K "MONO" 6 6 .rwl, K "CFA" 5 4 .rwl, K "RAW" 2 0 .rwl 0 [(0, 4)]],
  VP "PADVAL" 0x14 [K "V" 15 0 .rwl], VP "TMODE" 0x18 [K "V" 0 0 .rwl], VP "PERIOD" 0x1C [K "US" 23 0 .rwl],
  VP "TRIGLAT" 0x20 [K "US" 23 0 .rwl], VP "TOL" 0x24 [K "US" 23 0 .rwl], VP "TIMEOUT" 0x28 [K "US" 23 0 .rwl],
  VP "SBASE" 0x30 [K "V" 31 0 .rwl], VP "SSIZE" 0x34 [K "V" 31 0 .rwl], VP "NSLOT" 0x38 [K "N" 6 0 .rwl 0 [(2, 64)]],
  VP "WP" 0x3C [K "V" 6 0 .ro], VP "RP" 0x40 [K "V" 6 0 .rw], VP "SLOTDROP" 0x44 [K "N" 31 0 .rc],
  VP "BLOBOFF" 0x48 [K "V" 31 0 .rwl], VP "AOFF" 0x4C [K "V" 31 0 .rwl], VP "BOFF" 0x50 [K "V" 31 0 .rwl],
  RA "BLK" 0x1080 [(0x200, 8), (4, 4)] [K "V" 15 0 .rw], VP "BLKMODE" 0x90 [K "OBADJ" 31 16 .rw, K "OB" 0 0 .rw],
  VP "DPC" 0x94 [K "DPCN" 28 16 .rw 0 [(0, 4096)], K "DPCTHR" 15 4 .rw, K "DYN" 1 1 .rw, K "STATIC" 0 0 .rw],
  VP "LSCEN" 0x98 [K "V" 0 0 .rw], VP "WB01" 0x9C [K "V" 31 0 .rw 0x10001000], VP "WB23" 0xA0 [K "V" 31 0 .rw 0x10001000],
  RA "CCM" 0x10A4 [(0x200, 8), (4, 4)] [K "V" 31 0 .rw], VP "CCM4" 0xB4 [K "V" 15 0 .rw], VP "CCM5" 0xB8 [K "V" 31 0 .rw],
  VP "CCM6" 0xBC [K "V" 15 0 .rw], VP "TONEEN" 0xC0 [K "V" 0 0 .rw],
  VP "ACROP0" 0xC4 [K "Y0" 28 16 .rw, K "X0" 12 0 .rw], VP "ACROP1" 0xC8 [K "CHT" 28 16 .rw, K "CWD" 12 0 .rw],
  VP "ACFG" 0xCC outFields, VP "BCROP0" 0xD0 [K "Y0" 28 16 .rw, K "X0" 12 0 .rw],
  VP "BCROP1" 0xD4 [K "CHT" 28 16 .rw, K "CWD" 12 0 .rw], VP "BCFG" 0xD8 outFields,
  VP "FLO" 0xE0 [K "V" 23 0 .rw], VP "FHI" 0xE4 [K "V" 23 0 .rw],
  VP "FCFG" 0xE8 [K "AMIN" 31 16 .rw 0 [(1, 65535)], K "EN" 0 0 .rw],
  RA "DPCMAP" 0x40000 [(0x4000, 8), (4, 4096)] [K "V" 31 31 .rw, K "ROW" 27 16 .rw, K "COL" 11 0 .rw],
  RA "LSC" 0x60000 [(0x2000, 8), (4, 1650)] [K "V" 31 0 .rw], RA "TONE" 0x70000 [(0x800, 8), (4, 512)] [K "V" 31 0 .rw]]

end Sys2Proof.Machine
end

