-- ==== Sys2Proof/Machine/RegsEnd.lean ====
section
/-! DEFINITION. The register maps of FAB (R478), PNL (R515), SEC (R573), PWR (R544, R598). -/

namespace Sys2Proof.Machine

/-- FAB (R478). WEIGHT resets per requester: `fabReset`. -/
def regsFab : List RegDesc := [
  R "CTRL" 0x000 [F "LOCK" 31 31 .w1s, F "WHOLD" 2 2 .rw, F "FREEZE" 1 1 .rw], R "STAT" 0x004 [F "V" 31 0 .ro],
  R "FRZMASK" 0x010 [K "M" 15 0 .rw 0xFFFF], R "ECCCE" 0x014 [F "N" 31 0 .rc], R "ECCUE" 0x018 [F "N" 31 0 .rc],
  R "ECCADDR" 0x01C [K "A" 31 6 .ro], R "DBW" 0x020 [F "N" 12 0 .rc],
  RA "WEIGHT" 0x100 [(0x20, 4)] [K "W" 7 0 .rw 80], RA "WEIGHT" 0x180 [(0x20, 2)] [K "W" 7 0 .rw 16],
  R "WEIGHT" 0x1C0 [K "W" 7 0 .rw 255], R "WEIGHT" 0x1E0 [K "W" 7 0 .rw 8], RA "WEIGHT" 0x200 [(0x20, 2)] [K "W" 7 0 .rw 96],
  R "WEIGHT" 0x240 [K "W" 7 0 .rw 32], RA "WEIGHT" 0x260 [(0x20, 2)] [K "W" 7 0 .rw 8], R "WEIGHT" 0x2A0 [K "W" 7 0 .rw 32],
  RA "WEIGHT" 0x2C0 [(0x20, 2)] [K "W" 7 0 .rw 4],
  RA "CREDIT" 0x104 [(0x20, 16)] [K "C" 7 0 .ro], RA "WAITNOW" 0x108 [(0x20, 16)] [F "N" 23 0 .ro],
  RA "MAXWAIT" 0x10C [(0x20, 16)] [K "N" 23 0 .rc], RA "BEATS" 0x110 [(0x20, 16)] [K "N" 31 0 .ro],
  RA "ZGRANT" 0x114 [(0x20, 16)] [K "N" 31 0 .rc]]

/-- PNL (R515). -/
def regsPnl : List RegDesc := [
  R "CTRL" 0x000 [F "LOCK" 31 31 .w1s, F "EVCORE" 10 8 .rw, F "EVEN" 0 0 .rw],
  R "STAT" 0x004 [F "TEMPRANGE" 10 10 .w1c, F "BSYTMO" 9 9 .w1c, F "HUABORT" 8 8 .w1c, F "V" 7 0 .ro],
  R "CMD" 0x008 [F "V" 31 0 .wo], R "GEOM" 0x010 [K "HEIGHT" 24 16 .rwl 384 [(16, 384)], K "WIDTH" 9 0 .rwl 640 [(64, 640)]],
  R "IMGADDR" 0x014 [F "A" 31 0 .rw], R "SUPCFG" 0x018 [K "PWRHOLD" 31 16 .rwl 2000, K "VCOMSET" 8 0 .rwl 150 [(0, 300)]],
  R "HUBUDGET" 0x01C [K "MS" 7 0 .rwl 100 [(20, 200)]], R "TCFG" 0x020 [K "TSRC" 0 0 .rwl], R "TEMPW" 0x024 [F "T" 15 0 .rw],
  R "TEMP" 0x028 [F "T" 15 0 .ro], R "TLIM0" 0x02C [K "L" 31 0 .rwl 0x0F0A0500], R "TLIM1" 0x030 [K "L" 23 0 .rwl 0x281E14],
  R "LASTUID" 0x034 [F "UID" 15 0 .ro], R "CRKRES" 0x038 [F "R" 15 0 .ro], R "BSYCNT" 0x03C [F "N" 31 0 .rc],
  RA "USTAT" 0x040 [(4, 8)] [F "V" 31 0 .ro], RA "FPER" 0x060 [(4, 8)] [K "MS" 5 0 .rwl 20 [(10, 50)]],
  RA "WAVE" 0x10000 [(0x800, 8), (0x20, 33)] [K "LEN" 31 0 .rwl 0 [(0, 64)]],
  RA "WAVE" 0x10004 [(0x800, 8), (0x20, 33), (4, 4)] [K "K" 31 0 .rwl], RA "DISP" 0x20000 [(4, 15360)] [K "V" 31 0 .ro]]

/-- SEC (R573). -/
def regsSec : List RegDesc := [
  R "CTRL" 0x000 [F "LOCK" 31 31 .w1s, F "EVCORE" 10 8 .rw, F "EVEN" 0 0 .rw], R "STAT" 0x004 [F "V" 31 0 .ro],
  R "CMD" 0x008 [F "V" 31 0 .wo], R "SERIALLO" 0x010 [K "V" 31 0 .ro], R "SERIALHI" 0x014 [K "V" 31 0 .ro],
  R "MINVER" 0x018 [K "V" 31 0 .ro], R "SESSLEFT" 0x01C [F "S" 11 0 .ro], R "SRCADDR" 0x020 [F "A" 31 0 .rw],
  R "SRCLEN" 0x024 [F "N" 31 0 .rw 0 [(0, 67108864)]], R "TOKADDR" 0x028 [F "A" 31 0 .rw], R "TOKLEN" 0x02C [F "N" 9 0 .rw],
  RA "NONCE" 0x030 [(4, 4)] [F "V" 31 0 .ro], R "KEYSTAT" 0x040 [K "V" 31 0 .ro], RA "KEY" 0x100 [(0x60, 4), (4, 17)] [K "V" 31 0 .ro]]

/-- PWR (R544, R598). -/
def regsPwr : List RegDesc := [
  R "CTRL" 0x000 [F "LOCK" 31 31 .w1s, K "EVCORE" 10 8 .rw, K "SHEDEN" 1 1 .rw 1, K "EVEN" 0 0 .rw],
  R "STAT" 0x004 [F "V" 31 6 .ro, F "VSOVER1" 5 5 .w1c, F "VSOVER0" 4 4 .w1c, F "V" 3 0 .ro],
  R "COOLCFG" 0x010 [K "MODE" 0 0 .rwl], R "BUDGET" 0x014 [K "DISSBUDGET" 15 0 .rwl 950 [(100, 950)]],
  R "SHEDCFG" 0x018 [K "DTRIP" 23 16 .rwl 5 [(1, 60)], K "DISSHYS" 15 0 .rwl 10 [(5, 100)]], R "TAMBW" 0x01C [F "T" 15 0 .rw],
  R "TBASE" 0x020 [F "T" 15 0 .ro], R "DISSNOW" 0x024 [F "P" 15 0 .ro], R "BUDNOW" 0x028 [F "P" 15 0 .ro 950],
  R "CAMSHED" 0x02C [K "P" 31 0 .rwl], R "VLOG" 0x030 [F "V" 31 0 .ro], R "VBATP01" 0x034 [F "V" 31 0 .ro],
  R "VBATP23" 0x038 [F "V" 31 0 .ro], R "VBATV" 0x03C [F "V" 31 0 .ro], R "HUSTAT" 0x040 [F "V" 31 0 .ro],
  R "HULAST" 0x044 [K "MS" 31 16 .ro, K "RET" 0 0 .ro], R "HUCOUNT" 0x048 [K "N" 31 0 .ro], R "HUBANK" 0x04C [F "V" 31 0 .ro],
  R "VSUPI" 0x050 [F "V" 31 0 .ro], R "LOGI" 0x054 [F "V" 31 0 .ro], R "SSCTRL" 0x058 [K "ON" 11 0 .rwl 0xFFF],
  R "SSSTAT" 0x05C [F "ON" 27 16 .ro, F "SSFLT" 11 0 .w1c], R "DISSPART0" 0x060 [F "V" 31 0 .ro],
  R "DISSPART1" 0x064 [F "V" 31 0 .ro], R "DISSPART2" 0x068 [F "V" 31 0 .ro], R "SHEDCNT" 0x06C [F "N" 31 0 .rc],
  R "CAMSHEDST" 0x070 [F "L" 7 0 .ro]]

end Sys2Proof.Machine
end

