-- ==== Sys2Proof/Machine/RegsFus.lean ====
section
/-! DEFINITION. The register map of FUS (R365). -/

namespace Sys2Proof.Machine

/-- A register of each source. -/
def FS (name : String) (off : Nat) (fields : List FieldDesc) : RegDesc := RA name (0x100 + off) [(0x40, 16)] fields

/-- FUS (R365). -/
def regsFus : List RegDesc := [
  R "CTRL" 0x000 [F "LOCK" 31 31 .w1s, F "EVCORE" 10 8 .rw, F "RUN" 1 1 .rw, F "EVEN" 0 0 .rw],
  R "STAT" 0x004 [F "STATE" 25 24 .ro, F "HARDFLT" 16 16 .ro, F "COAST" 2 2 .ro, F "TRKOVF" 1 1 .w1c, F "REORDOVF" 0 0 .w1c],
  R "CMD" 0x008 [F "V" 31 0 .wo],
  R "OUTCFG" 0x010 [K "OUTMODE" 29 28 .rwl 0 [(0, 2)], K "OUTSRC" 27 24 .rwl, K "PERIOD" 15 0 .rwl 0x32 [(20, 100)]],
  R "ASSOC" 0x014 [K "CLSGATE" 31 31 .rwl, K "GATE" 30 0 .rwl 0x935C3],
  R "EXIST0" 0x018 [K "DELTHR" 31 16 .rwl 0xCCD, K "NEWTHR" 15 0 .rwl 0x6666],
  R "EXIST1" 0x01C [K "OUTTHR" 31 16 .rwl 0x3333, K "CONFTHR" 15 0 .rwl 0x4CCD],
  R "EXIST2" 0x020 [K "INITW" 15 0 .rwl 0x4000],
  R "DISP" 0x024 [K "DISPHOLD" 31 16 .rwl 0x1F4, K "DISPTHR" 15 0 .rwl 0x4CCD],
  R "TIMING" 0x028 [K "DISPWIN" 31 16 .rwl 0xC8, K "HOLDWIN" 6 0 .rwl 0x14 [(0, 100)]],
  R "AGECFG" 0x02C [K "DROPAGE" 31 16 .rwl 0x3E8, K "RECMIN" 15 0 .rwl 0x1F4],
  R "QPOS" 0x030 [K "V" 31 0 .rwl 10000], R "QVEL" 0x034 [K "V" 31 0 .rwl 250000],
  R "EGOCFG" 0x038 [K "EGOWIN" 31 16 .rwl 0x32, K "EGOSPREAD" 15 0 .rwl], R "EGOREJ" 0x03C [K "V" 31 0 .rwl 250000],
  R "EGOQ" 0x040 [K "V" 31 0 .rwl 2500],
  R "OBASE" 0x050 [K "V" 31 0 .rwl], R "NSLOT" 0x054 [K "N" 6 0 .rwl 0 [(0, 0), (2, 64)]], R "OWP" 0x058 [K "V" 6 0 .ro],
  R "ORP" 0x05C [K "V" 6 0 .rw], R "ONOTIFY" 0x060 [K "V" 6 0 .rw], R "ODROP" 0x064 [F "N" 31 0 .rc],
  R "INJADDR" 0x068 [F "V" 31 0 .rw], R "EGOVX" 0x070 [F "V" 31 0 .ro], R "EGOVY" 0x074 [F "V" 31 0 .ro],
  R "EGOW" 0x078 [F "V" 31 0 .ro], R "EGOVAR" 0x07C [F "V" 31 0 .ro 0xFFFFFFFF], R "EGOSEQ" 0x080 [F "V" 31 0 .ro],
  R "EGONFEAT" 0x084 [F "N" 15 0 .ro], R "LATECNT" 0x088 [F "N" 31 0 .rc], R "REORDCNT" 0x08C [F "N" 31 0 .rc],
  R "TESTDISC" 0x090 [F "N" 31 0 .rc], R "TRKUSED" 0x094 [F "N" 8 0 .ro],
  FS "CFG" 0x00 [K "EN" 31 31 .rw, K "TEST" 30 30 .rw, K "XPORT" 29 28 .rw 0 [(0, 2)], K "CANCH" 27 24 .rw, K "SRCID" 23 16 .rw,
    K "PORT" 15 0 .rw],
  FS "CANID" 0x04 [K "IDE" 31 31 .rw, K "ID" 28 0 .rw], FS "MNTX" 0x08 [K "V" 31 0 .rw], FS "MNTY" 0x0C [K "V" 31 0 .rw],
  FS "MNTZ" 0x10 [K "V" 31 0 .rw], FS "MNTYAW" 0x14 [K "V" 15 0 .rw], FS "FOV" 0x18 [K "FOVMAX" 31 16 .rw, K "FOVMIN" 15 0 .rw],
  FS "FOVRNG" 0x1C [K "V" 31 0 .rw], FS "WEIGHT" 0x20 [K "MISSW" 31 16 .rw 0x1000, K "DETW" 15 0 .rw 0x4000],
  FS "LAT" 0x24 [K "US" 23 0 .rw], FS "STAT" 0x28 [F "V" 2 0 .ro], FS "OFFLO" 0x2C [F "V" 31 0 .ro],
  FS "OFFHI" 0x30 [F "V" 31 0 .ro], FS "RATE" 0x34 [F "V" 31 0 .ro],
  FS "BADCNT" 0x38 [F "BAD" 31 16 .rc, F "INCOMP" 15 0 .rc], FS "GAPCNT" 0x3C [F "N" 31 0 .rc]]

end Sys2Proof.Machine
end

