-- ==== Sys2Proof/Machine/RegsHst.lean ====
section
/-! DEFINITION. The register map of HST (R463). -/

namespace Sys2Proof.Machine

/-- HST (R463). -/
def regsHst : List RegDesc := [
  R "CTRL" 0x000 [F "LOCK" 31 31 .w1s, F "EVCORE" 10 8 .rw, F "EVEN" 0 0 .rw],
  R "STAT" 0x004 [F "V" 31 0 .ro], R "CMD" 0x008 [F "V" 31 0 .wo], R "MODNUM" 0x010 [K "N" 13 0 .rwl],
  R "NETCFG" 0x014 [K "V6" 31 31 .rwl, K "PORT" 15 0 .rwl 0xB7A1], R "PFX4" 0x018 [K "V" 31 0 .rwl],
  R "MC4" 0x01C [K "V" 31 0 .rwl], RA "PFX6" 0x020 [(4, 4)] [K "V" 31 0 .rwl], RA "MC6" 0x030 [(4, 4)] [K "V" 31 0 .rwl],
  R "JUSE" 0x040 [K "KIB" 13 0 .ro], R "JCNT" 0x044 [K "N" 31 0 .ro], RA "CNT" 0x048 [(4, 5)] [F "N" 31 0 .rc],
  R "FOCOUNT" 0x05C [K "N" 31 0 .ro], R "FOTIME" 0x060 [K "NS" 23 0 .ro],
  RA "HCFG" 0x100 [(0x40, 6)] [K "V" 31 31 .rwl, K "SOLO" 30 30 .rwl, K "RANK" 28 24 .rwl, K "MEMBERS" 20 16 .rwl,
    K "HOIST" 15 0 .rwl],
  RA "HB" 0x104 [(0x40, 6)] [K "MISSN" 31 28 .rwl 3 [(3, 15)], K "HBPER" 23 0 .rwl 100 [(100, 16777215)]],
  RA "STAT" 0x108 [(0x40, 6)] [K "V" 31 0 .ro], RA "LIVE" 0x10C [(0x40, 6)] [F "V" 31 0 .ro],
  RA "ENSIGN" 0x110 [(0x40, 6)] [F "V" 31 0 .ro], RA "STANDBY" 0x114 [(0x40, 6)] [F "V" 31 0 .ro],
  RA "MEM" 0x1000 [(0x80, 6), (4, 32)] [K "V" 31 0 .rwl],
  RA "CFG" 0x10000 [(0x20, 1024)] [K "DIR" 31 31 .rwl, K "XPORT" 30 29 .rwl 0 [(0, 2)], K "TAKER" 28 26 .rwl, K "CMPL" 25 25 .rwl,
    K "WIN" 23 16 .rwl 0 [(1, 32)], K "SESSION" 15 0 .rwl],
  RA "LOCAL" 0x10004 [(0x20, 1024)] [K "V" 31 0 .rwl], RA "PEER" 0x10008 [(0x20, 1024)] [K "V" 31 0 .rwl],
  RA "TCFG" 0x1000C [(0x20, 1024)] [K "RTO" 31 16 .rwl 0x64 [(5, 65535)], K "RETRY" 15 12 .rwl 3 [(1, 15)], K "CANCH" 11 8 .rwl,
    K "BACKOFF" 7 0 .rwl 0x14 [(1, 255)]],
  RA "CANID" 0x10010 [(0x20, 1024)] [K "ID" 28 0 .rwl], RA "STAT" 0x10014 [(0x20, 1024)] [K "V" 31 0 .ro],
  RA "SEQA" 0x10018 [(0x20, 1024)] [K "V" 31 0 .ro], RA "SEQB" 0x1001C [(0x20, 1024)] [K "V" 31 0 .ro]]

end Sys2Proof.Machine
end

