-- ==== Sys2Proof/Machine/RegsLane.lean ====
section
/-! DEFINITION. Register maps of HAL (R153) and EVT (R154). -/

namespace Sys2Proof.Machine

/-- HAL (R153). Published and computed values (TBLO, SYNCMAP, POSF, SPEED …) are listed with their access; the
read handler of the block answers them. -/
def regsHal : List RegDesc := [
  R "CTRL" 0x000 [F "LOCK" 31 31 .w1s],
  R "TBLO" 0x004 [F "V" 31 0 .ro], R "TBHI" 0x008 [F "V" 31 0 .ro],
  R "SYNCMAP" 0x010 [F "MAP" 15 0 .ro],
  R "ANGMODE" 0x014 [K "MODE" 31 0 .rwl],
  RA "CFG" 0x100 [(0x40, 16)] [K "CONFIRM" 25 24 .rwl, K "PATTERN" 23 22 .rwl, K "EDGE" 21 20 .rwl 1,
    K "REVMODE" 19 19 .rwl, K "SENTW" 17 16 .rwl, K "INPUT" 12 8 .rwl, K "SRC" 3 0 .rwl],
  RA "WHEEL" 0x104 [(0x40, 16)] [K "GAPAT" 25 16 .rwl, K "GAPN" 14 12 .rwl, K "N" 10 0 .rwl],
  RA "OFFSET" 0x108 [(0x40, 16)] [K "OFFSET" 23 0 .rwl],
  RA "RATIO" 0x10C [(0x40, 16)] [K "NUM" 31 16 .rwl 1, K "DEN" 15 0 .rwl 1],
  RA "UNIT" 0x110 [(0x40, 16)] [K "UNIT" 31 0 .rwl 250000],
  RA "TRACK" 0x114 [(0x40, 16)] [K "CORRMAX" 31 8 .rw 0x4000, K "JUMP" 4 4 .rw, K "SLEW" 3 0 .rw 2 [(1, 15)]],
  RA "LOOKAHEAD" 0x118 [(0x40, 16)] [K "AU" 23 0 .rw 0x200000 [(1, 0x7FFFFF)]],
  RA "STALLTMO" 0x11C [(0x40, 16)] [K "US" 19 0 .rw 50000 [(100, 1000000)]],
  RA "POSF" 0x120 [(0x40, 16)] [F "V" 31 0 .ro], RA "POST" 0x124 [(0x40, 16)] [K "V" 31 0 .ro],
  RA "SPEED" 0x128 [(0x40, 16)] [F "V" 31 0 .ro],
  RA "STAT" 0x12C [(0x40, 16)] [F "RATE" 9 9 .w1c, F "PATERR" 8 8 .w1c, F "CORR" 7 7 .w1c, F "STALL" 6 6 .ro,
    F "REV" 5 5 .ro, F "CAP" 4 4 .ro, F "SYNC" 1 0 .ro],
  RA "CORRCNT" 0x130 [(0x40, 16)] [F "N" 31 0 .rc], RA "LASTCORR" 0x134 [(0x40, 16)] [F "V" 23 0 .ro],
  RA "FEEDD" 0x138 [(0x40, 16)] [F "V" 31 0 .wo], RA "FEEDT" 0x13C [(0x40, 16)] [F "V" 31 0 .wo]]

/-- EVT (R154). WSTAT, WBUF and WCMD are banked per core and held with the core. -/
def regsEvt : List RegDesc := [
  R "CTRL" 0x000 [F "LOCK" 31 31 .w1s, F "FIRE_EN" 0 0 .rw 1],
  R "STAT" 0x004 [F "NSDROP" 19 19 .w1c, F "LATE" 18 18 .w1c, F "MISSED" 17 17 .w1c, F "ARMFULL" 16 16 .w1c,
    F "ARMED" 10 0 .ro],
  R "WSTAT" 0x008 [F "V" 31 0 .ro], RA "WBUF" 0x010 [(4, 4)] [F "V" 31 0 .rw], R "WCMD" 0x020 [F "V" 31 0 .wo],
  R "MISSCNT" 0x024 [F "N" 31 0 .rc], R "LATECNT" 0x028 [F "N" 31 0 .rc], R "NSDROPCNT" 0x02C [F "N" 31 0 .rc],
  R "ARMFULLCNT" 0x030 [F "N" 31 0 .rc], R "FIRECNT" 0x034 [K "N" 31 0 .ro],
  RA "ENTRY" 0x10000 [(4, 16384)] [K "V" 31 0 .ro], RA "FSTATE" 0x20000 [(4, 4096)] [F "V" 31 0 .ro]]

end Sys2Proof.Machine
end

