-- ==== Sys2Proof/Machine/RegsLpe.lean ====
section
/-! DEFINITION. The register map of LPE (R185). -/

namespace Sys2Proof.Machine

/-- LPE (R185). INJ and CAP status, QDEPTH and LOAD are answered from the engine's state; CAPBUF is held there too. -/
def regsLpe : List RegDesc := [
  R "CTRL" 0x000 [F "LOCK" 31 31 .w1s],
  R "STAT" 0x004 [F "QFULL" 17 17 .w1c, F "OVR" 16 16 .w1c, F "QDEPTH" 6 0 .ro],
  R "CMD" 0x008 [F "V" 31 0 .wo], R "OVRCNT" 0x010 [F "N" 31 0 .rc], R "QFULLCNT" 0x014 [F "N" 31 0 .rc],
  R "LOAD" 0x018 [F "N" 31 0 .ro], R "STEPCNT" 0x01C [K "N" 31 0 .ro],
  RA "CSTAT" 0x1000 [(4, 512)] [F "INJ" 17 16 .ro, K "TKSOFT" 15 15 .w1c, K "CFGERR" 14 14 .w1c, K "OVR" 13 13 .w1c,
    K "SPSTALE" 12 12 .w1c, K "MFAULT" 11 11 .w1c, K "SAT" 10 10 .w1c, K "OSAT" 9 9 .w1c, K "RAMP_DONE" 8 8 .w1c,
    K "PEND" 5 5 .ro, K "HCAUSE" 4 3 .ro, K "STATE" 2 0 .ro],
  RA "CFG" 0x2000 [(0x100, 4)] [F "HOLDN" 27 20 .rw, F "N" 19 16 .rw, F "WAVE" 14 12 .rw, F "POINT" 10 9 .rw,
    F "CTX" 8 0 .rw],
  RA "CTRL" 0x2004 [(0x100, 4)] [F "STOP" 1 1 .w1s, F "START" 0 0 .w1s],
  RA "STAT" 0x2008 [(0x100, 4)] [F "ABORT" 2 2 .w1c, F "DONE" 1 1 .w1c, F "BUSY" 0 0 .ro],
  RA "AMP" 0x200C [(0x100, 4)] [F "A" 15 0 .rw 0 [(0, 32767)]],
  RA "LEN" 0x2010 [(0x100, 4)] [F "LEN" 23 0 .rw 0 [(1, 16777215)]], RA "SEED" 0x2014 [(0x100, 4)] [F "V" 23 0 .rw],
  RA "F0" 0x2018 [(0x100, 4)] [F "V" 31 0 .rw], RA "F1" 0x201C [(0x100, 4)] [F "V" 31 0 .rw],
  RA "COUNT" 0x2020 [(0x100, 4)] [F "K" 31 0 .ro],
  RA "FRQ" 0x2040 [(0x100, 4), (0x10, 8)] [F "V" 31 0 .rw], RA "PH" 0x2044 [(0x100, 4), (0x10, 8)] [F "V" 31 0 .rw],
  RA "A" 0x2048 [(0x100, 4), (0x10, 8)] [F "V" 15 0 .rw 0 [(0, 32767)]],
  RA "CFG" 0x3000 [(0x40, 4)] [F "INJ" 14 13 .rw, F "TRIG" 12 12 .rw, F "SIG" 11 9 .rw 0 [(0, 5)], F "CTX" 8 0 .rw],
  RA "PRE" 0x3004 [(0x40, 4)] [F "N" 15 0 .rw],
  RA "CTRL" 0x3008 [(0x40, 4)] [F "TRIGNOW" 2 2 .w1s, F "ABORT" 1 1 .w1s, F "ARM" 0 0 .w1s],
  RA "STAT" 0x300C [(0x40, 4)] [F "START" 31 16 .ro, F "ABORTED" 4 4 .w1c, F "STATE" 1 0 .ro],
  RA "POS" 0x3010 [(0x40, 4)] [F "N" 16 0 .ro], RA "PREVALID" 0x3014 [(0x40, 4)] [F "N" 16 0 .ro],
  RA "LIVE" 0x40000 [(0x100, 512), (4, 64)] [K "V" 31 0 .rw], RA "SHADOW" 0x60000 [(0x100, 512), (4, 64)] [K "V" 31 0 .ro],
  RA "CAPBUF" 0x80000 [(4, 131072)] [K "V" 31 0 .ro]]

end Sys2Proof.Machine
end

