-- ==== Sys2Proof/Machine/RegsOut.lean ====
section
/-! DEFINITION. Register maps of DDV (R217), PVC (R243), LSW (R244). -/

namespace Sys2Proof.Machine

/-- DDV (R217). BSTSTAT, BSTAT and the phases are answered by the read handler. -/
def regsDdv : List RegDesc := [
  R "CTRL" 0x000 [F "LOCK" 31 31 .w1s, F "EVCORE" 10 8 .rw, F "EVEN" 0 0 .rw],
  R "STAT" 0x004 [F "BHSFLT" 21 16 .w1c, F "VBSTLOW" 9 9 .ro, F "BSTLIM" 8 8 .ro],
  R "CMD" 0x008 [F "V" 31 0 .wo],
  R "BSTCFG" 0x010 [K "EN" 16 16 .rwl 1, K "VBSTMIN" 14 8 .rwl 0x28 [(20, 64)], K "VBSTSET" 6 0 .rwl 0x30 [(24, 65)]],
  R "BSTSTAT" 0x014 [F "V" 31 0 .ro], R "REGENFB" 0x018 [F "N" 31 0 .rc],
  R "VSUPCFG" 0x01C [K "V1" 15 8 .rwl 0xF0 [(0, 250)], K "V0" 7 0 .rwl 0xF0 [(0, 250)]],
  RA "BCFG" 0x100 [(0x20, 6)] [K "DEFER" 31 16 .rwl, K "HOLDLIM" 15 8 .rwl 0x78 [(5, 120)], K "RAIL" 1 0 .rwl],
  RA "BSTAT" 0x104 [(0x20, 6)] [F "V" 31 0 .ro], RA "BDROP" 0x108 [(0x20, 6)] [F "N" 31 0 .rc],
  RA "BDEFCNT" 0x10C [(0x20, 6)] [F "N" 31 0 .rc], RA "BDEFMAX" 0x110 [(0x20, 6)] [F "V" 23 0 .rc],
  RA "DCFG" 0x200 [(0x20, 4)] [K "MINIDLE" 15 12 .rwl 1 [(1, 8)], K "MINRUN" 11 8 .rwl 1 [(1, 8)], K "DEFUNIT" 6 6 .rwl,
    K "REFUND" 5 5 .rwl, K "SELEN" 4 4 .rwl, K "HY" 3 0 .rwl],
  RA "DEFER" 0x204 [(0x20, 4)] [K "V" 23 0 .rwl], RA "FRAC" 0x208 [(0x20, 4)] [F "D" 16 0 .rw 0 [(0, 32768)]],
  RA "ACC" 0x20C [(0x20, 4)] [F "V" 31 0 .ro 0x4000], RA "OPP" 0x210 [(0x20, 4)] [K "N" 31 0 .ro],
  RA "ENCNT" 0x214 [(0x20, 4)] [K "N" 31 0 .ro], RA "DROP" 0x218 [(0x20, 4)] [K "N" 31 0 .ro],
  RA "FORCED" 0x21C [(0x20, 4)] [K "V" 31 0 .ro],
  RA "CFG" 0x400 [(0x20, 48)] [K "NOARR" 15 14 .rwl 0 [(0, 2)], K "HOLDLOSS" 13 12 .rwl 0 [(0, 2)],
    K "TTPHIGH" 11 10 .rwl 0 [(0, 2)], K "TTPLOW" 9 8 .rwl 0 [(0, 2)], K "DDM" 2 0 .rwl 7 [(0, 3), (7, 7)]],
  RA "CSTAT" 0x404 [(0x20, 48)] [K "FLAGS" 14 8 .w1c, K "DISABLED" 5 5 .ro, K "IDLED" 4 4 .ro],
  RA "TTP" 0x408 [(0x20, 48)] [F "V" 15 0 .ro], RA "ARR" 0x40C [(0x20, 48)] [F "V" 16 0 .ro],
  RA "STARTS" 0x410 [(0x20, 48)] [K "N" 31 0 .ro], RA "DROPS" 0x414 [(0x20, 48)] [F "N" 31 0 .rc],
  RA "PROF" 0x2000 [(0x200, 6), (0x20, 16)] [K "VALID" 31 31 .rwl, K "W0" 19 0 .rwl],
  RA "PROF" 0x2004 [(0x200, 6), (0x20, 16)] [K "TTP" 31 0 .rwl], RA "PROF" 0x2008 [(0x200, 6), (0x20, 16)] [K "W2" 23 0 .rwl],
  RA "PROF" 0x200C [(0x200, 6), (0x20, 16)] [K "HOLD" 31 0 .rwl],
  RA "PROF" 0x2010 [(0x200, 6), (0x20, 16)] [K "HLOSS" 15 8 .rwl, K "PWMF" 5 0 .rwl],
  RA "PROF" 0x2014 [(0x200, 6), (0x20, 16)] [K "W5" 31 0 .rwl], RA "PROF" 0x2018 [(0x200, 6), (0x20, 16), (4, 2)] []]

/-- PVC (R243). STAT and SUPSUM are answered by the read handler. -/
def regsPvc : List RegDesc := [
  R "CTRL" 0x000 [F "LOCK" 31 31 .w1s, F "EVCORE" 10 8 .rw, F "EVEN" 0 0 .rw], R "STAT" 0x004 [F "V" 23 0 .ro],
  R "CMD" 0x008 [F "V" 31 0 .wo],
  R "SUPCFG" 0x010 [K "V1" 15 8 .rwl 0xC8 [(0, 200)], K "V0" 7 0 .rwl 0xC8 [(0, 200)]],
  R "SUPSUM" 0x014 [F "V" 31 0 .ro],
  RA "CFG" 0x100 [(0x20, 24)] [K "IMAX" 31 24 .rwl 0x64 [(0, 200)], K "PWMF" 20 16 .rwl 4 [(1, 20)],
    K "CONVDIV" 15 12 .rwl 2 [(1, 15)], K "RCLASS" 9 8 .rwl 1 [(0, 2)]],
  RA "DUTY" 0x104 [(0x20, 24)] [F "D" 15 0 .rw],
  RA "DITHER" 0x108 [(0x20, 24)] [K "SHAPE" 24 24 .rwl, K "DAMP" 23 16 .rwl 0 [(0, 250)],
    K "DFREQ" 8 0 .rwl 0 [(0, 0), (50, 400)]],
  RA "SAFE" 0x10C [(0x20, 24)] [K "D" 15 0 .rwl 0 [(0, 32767)]],
  RA "MEAS" 0x110 [(0x20, 24)] [F "V" 15 0 .ro],
  RA "PSTAT" 0x114 [(0x20, 24)] [K "SHORTBAT" 11 11 .w1c, K "SHORT" 10 10 .w1c, K "OPEN" 9 9 .w1c, K "OVER" 8 8 .w1c,
    F "SBNOW" 4 4 .ro, F "OPENNOW" 3 3 .ro, K "LATCHED" 2 2 .ro, K "ENABLED" 1 1 .ro]]

/-- LSW (R244). Currents and the sense codes are answered by the read handler. -/
def regsLsw : List RegDesc := [
  R "CTRL" 0x000 [F "LOCK" 31 31 .w1s, F "EVCORE" 10 8 .rw, F "SYSV" 1 1 .rwl, F "EVEN" 0 0 .rw],
  R "STAT" 0x004 [F "V" 8 0 .ro], R "CMD" 0x008 [F "V" 31 0 .wo],
  R "MODCFG" 0x010 [K "MODLIM" 7 0 .rwl 0xA0 [(40, 160)]], R "MODCUR" 0x014 [F "V" 15 0 .ro],
  RA "GCFG" 0x040 [(0x10, 4)] [K "GMINOFF" 31 24 .rwl 0x0A [(1, 255)], K "GTAU" 23 16 .rwl 0x0A [(1, 100)],
    K "GREST" 15 8 .rwl 0x50 [(50, 95)], K "GLIM" 7 0 .rwl 0x32 [(10, 50)]],
  RA "GSTAT" 0x044 [(0x10, 4)] [F "F" 31 16 .ro, F "UV" 2 2 .ro, F "GTRIP" 1 1 .ro, F "TRIPPED" 0 0 .w1c],
  RA "GTRIPCNT" 0x048 [(0x10, 4)] [F "N" 31 0 .rc],
  RA "SEL" 0x080 [(0x10, 4)] [F "CH" 2 0 .rw], RA "DIR" 0x084 [(0x10, 4)] [F "V" 31 0 .ro],
  RA "SSTAT" 0x088 [(0x10, 4)] [F "GRPTEMP" 1 1 .ro, F "GRPTEMPF" 0 0 .w1c],
  RA "CFG" 0x200 [(0x20, 32)] [K "SHED" 31 28 .rwl, K "WINDOW" 27 20 .rwl, K "RETRIES" 19 16 .rwl, K "KEEP" 15 15 .rwl,
    K "SAFEON" 14 14 .rwl, K "RCLASS" 13 12 .rwl 1 [(0, 2)], K "LATCH" 11 11 .rwl, K "OLOFF" 10 10 .rwl, K "TYPE" 9 8 .rwl],
  RA "LSTAT" 0x204 [(0x20, 32)] [K "FLAGS" 10 7 .w1c, F "INRUSH" 6 6 .ro, K "SHED" 5 5 .ro, K "LATCHED" 4 4 .ro,
    F "GROUPOFF" 3 3 .ro, K "CMDON" 2 2 .ro, F "ON" 0 0 .ro],
  RA "SENSE" 0x208 [(0x20, 32)] [F "V" 15 0 .ro], RA "INRUSH" 0x20C [(0x20, 32)] [F "V" 31 0 .ro],
  RA "TRIPS" 0x210 [(0x20, 32)] [F "N" 31 0 .rc]]

end Sys2Proof.Machine
end

