-- ==== Sys2Proof/Machine/RegsPcl.lean ====
section
/-! DEFINITION. The register map of PCL (R303). -/

namespace Sys2Proof.Machine

/-- PCL (R303). YIDX, YEXP, LIVE and the contexts are answered by the read handler. -/
def regsPcl : List RegDesc := [
  R "CTRL" 0x000 [F "LOCK" 31 31 .w1s, F "EVCORE" 10 8 .rw, F "RUN" 1 1 .rw, F "EVEN" 0 0 .rw],
  R "STAT" 0x004 [F "HARDFLT" 3 3 .ro, F "YBUSY" 2 2 .ro, F "EVICT" 1 1 .w1c, F "MQFULL" 0 0 .w1c],
  R "CMD" 0x008 [F "V" 31 0 .wo], R "LIVE" 0x010 [F "N" 10 0 .ro], R "NEXTPID" 0x014 [K "N" 31 0 .ro],
  R "WIDTH" 0x018 [K "V" 16 0 .rw 32768 [(0, 32768)]],
  R "DCFG" 0x01C [K "DHY" 31 28 .rwl, K "DUNIT" 15 0 .rwl 0 [(1, 65535)]],
  RA "POS" 0x020 [(4, 4)] [K "V" 31 0 .rw], R "POSTICK" 0x030 [F "V" 31 0 .wo],
  R "POSMAX" 0x034 [K "MS" 15 0 .rwl 1000], R "MAXLIFE" 0x038 [K "S" 9 0 .rwl 120 [(1, 600)]],
  R "LOSSMAP" 0x03C [K "V" 31 0 .rwl 0xFFFFFFFF],
  R "MSCFG" 0x040 [K "EN" 31 31 .rwl, K "STAGE" 27 24 .rwl 0 [(0, 11)], K "GRP" 20 16 .rwl, K "MOEN" 15 15 .rwl,
    K "MOIN" 13 8 .rwl 0 [(0, 35)], K "MSIN" 5 0 .rwl 0 [(0, 35)]],
  R "MSCALE" 0x044 [K "V" 31 0 .rwl], R "QIDX01" 0x048 [F "V" 31 0 .rw], R "QIDX23" 0x04C [F "V" 31 0 .rw],
  R "QSTART" 0x050 [F "V" 31 0 .rw], R "QEND" 0x054 [F "V" 31 0 .rw], R "QCMD" 0x058 [F "V" 31 0 .wo],
  R "STEPERR" 0x060 [F "N" 31 0 .rc], R "OLDCNT" 0x064 [F "N" 31 0 .rc], R "MQDROP" 0x068 [F "N" 31 0 .rc],
  R "UNATTR" 0x06C [F "N" 31 0 .rc], R "EVICTCNT" 0x070 [F "N" 31 0 .rc], R "CRSOON" 0x074 [F "N" 31 0 .rc]] ++
  ringRegs 0x080 [] (pow2Ranges 6 16) ++ [
  R "YIDXLO" 0x0A0 [K "V" 31 0 .ro], R "YIDXHI" 0x0A4 [K "V" 31 0 .ro], R "YEXPLO" 0x0A8 [K "V" 31 0 .ro],
  R "YEXPHI" 0x0AC [K "V" 31 0 .ro],
  R "YSTREAM" 0x0B0 [K "EN" 31 31 .rwl, K "BATCH" 19 16 .rwl 0 [(1, 11)], K "STREAM" 9 0 .rwl],
  R "YLOST" 0x0B4 [F "N" 31 0 .rc], R "YRDIDXLO" 0x0C0 [F "V" 31 0 .rw], R "YRDIDXHI" 0x0C4 [F "V" 31 0 .rw],
  R "YRDBUF" 0x0C8 [F "V" 31 0 .rw], R "YRDCNT" 0x0CC [F "N" 6 0 .rw 0 [(1, 64)]],
  RA "SCFG" 0x200 [(0x40, 12)] [K "EN" 31 31 .rwl, K "HY" 27 24 .rwl, K "NEXT" 23 20 .rwl 15 [(0, 11), (15, 15)],
    K "RET" 19 16 .rwl 15 [(0, 11), (15, 15)], K "RR" 15 0 .rwl 0 [(0, 32767)]],
  RA "DLYT" 0x204 [(0x40, 12)] [K "V" 15 0 .rwl], RA "DLYF" 0x208 [(0x40, 12)] [K "V" 23 0 .rwl],
  RA "TAPW" 0x20C [(0x40, 12)] [K "V" 31 0 .rwl 0 [(1, 0xFFFFFFFF)]],
  RA "COFFLO" 0x210 [(0x40, 12)] [F "V" 31 0 .ro], RA "SSTAT" 0x214 [(0x40, 12)] [F "SYNCLOST" 16 16 .w1c, F "N" 10 0 .ro],
  RA "COFFHI" 0x218 [(0x40, 12)] [F "V" 23 0 .ro],
  RA "KERN" 0x220 [(0x40, 12), (4, 8)] [K "H1" 31 16 .rwl 0 [(0, 32767)], K "H0" 15 0 .rwl 0 [(0, 32767)]],
  RA "PCTX" 0x10000 [(4, 32768)] [F "V" 31 0 .ro]]

end Sys2Proof.Machine
end

