-- ==== Sys2Proof/Machine/RegsSys.lean ====
section
/-! DEFINITION. Register maps of SYS (R48, R543, R557), CFG (R525). -/

namespace Sys2Proof.Machine

/-- SYS. LANESTAT, SEQn, MODEWORD and the other status registers are answered from the state by the read handler. -/
def regsSys : List RegDesc := [
  R "ID" 0x000 [K "ID" 31 0 .ro 0x26010001], R "LANESTAT" 0x004 [K "V" 15 0 .ro],
  R "LANECTRL" 0x008 [F "REJOIN_PEER" 1 1 .w1s, F "FAIL_SELF" 0 0 .w1s],
  R "EPOCH" 0x010 [K "E" 15 0 .ro], R "MISCNT" 0x014 [K "N" 31 0 .ro], R "MISLAST" 0x018 [K "V" 15 0 .ro],
  R "TKTIME" 0x01C [K "DUR" 23 0 .ro], R "TKCOUNT" 0x020 [K "N" 31 0 .ro], R "SHDROP" 0x024 [F "N" 31 0 .ro],
  R "RSTCMD" 0x028 [F "KEY" 31 0 .wo], R "RSTCAUSE" 0x02C [K "V" 31 0 .ro], R "STARTTIME" 0x030 [K "US" 23 0 .ro],
  R "MODECMD" 0x034 [F "V" 31 0 .wo], R "MODEWORD" 0x038 [K "V" 31 0 .ro],
  R "WAKECFG" 0x03C [K "WAKE2EN" 17 17 .rwl, K "WAKE1EN" 16 16 .rwl, K "TIMER" 15 0 .rwl],
  R "WAKESRC" 0x040 [K "V" 31 0 .ro], R "BENCHCFG" 0x044 [K "BENCHK" 15 0 .rwl 16384],
  R "WDCFG" 0x048 [K "EN" 31 31 .rwl, K "TMO" 19 0 .rwl 0x2710 [(100, 1000000)]],
  R "WDKICK" 0x04C [F "KEY" 31 0 .wo], R "WDLEFT" 0x050 [F "US" 19 0 .ro], R "SYSLOCK" 0x054 [F "LOCK" 31 31 .w1s],
  RA "SEQ" 0x100 [(4, 62)] [K "HOLD" 31 16 .rwl 100 [(50, 5000)], K "OWN_EPOCH" 15 8 .ro, F "MISMATCH" 4 4 .w1c,
    F "INFLIGHT" 3 3 .ro, F "EXPIRED" 2 2 .w1c, F "HOLDING" 1 1 .ro, K "OWNER" 0 0 .ro]]

/-- CFG (R525). -/
def regsCfg : List RegDesc := [
  R "CTRL" 0x000 [F "LOCK" 31 31 .w1s, F "EVCORE" 10 8 .rw, F "EVEN" 0 0 .rw], R "STAT" 0x004 [K "V" 31 0 .ro],
  R "CMD" 0x008 [F "V" 31 0 .wo], R "SRCADDR" 0x010 [F "V" 31 0 .rw], R "SRCLEN" 0x014 [F "V" 31 0 .rw],
  R "LSEQLO" 0x018 [K "V" 31 0 .ro], R "LSEQHI" 0x01C [K "V" 31 0 .ro], R "ASEQLO" 0x020 [K "V" 31 0 .ro],
  R "ASEQHI" 0x024 [K "V" 31 0 .ro], R "BSEQLO" 0x028 [K "V" 31 0 .ro], R "BSEQHI" 0x02C [K "V" 31 0 .ro],
  R "CFGREJ" 0x030 [F "N" 31 0 .rc], R "WRCNT" 0x034 [K "N" 31 0 .ro]]

end Sys2Proof.Machine
end

