-- ==== Sys2Proof/Machine/RegTable.lean ====
section
/-! DEFINITION. The whole register map: bases of R47, lookup of an address, reset values. -/

namespace Sys2Proof.Machine

/-- The base of a block (R47). -/
def Block.base : Block → Nat
  | .sys => 0xF0000000 | .hal => 0xF0100000 | .evt => 0xF0140000 | .lpe => 0xF0200000
  | .ddv => 0xF0300000 | .pvc => 0xF0340000 | .lsw => 0xF0380000 | .hsi => 0xF0400000
  | .pcl => 0xF0480000 | .cam => 0xF0500000 | .fus => 0xF0580000 | .can => 0xF0600000
  | .lin => 0xF0640000 | .snt => 0xF0660000 | .ser => 0xF0680000 | .eth => 0xF0700000
  | .tim => 0xF0780000 | .hst => 0xF0800000 | .fab => 0xF0880000 | .recd => 0xF0900000
  | .pnl => 0xF0980000 | .cfg => 0xF0A00000 | .sec => 0xF0A80000 | .pwr => 0xF0B00000

/-- The blocks of R47, highest base first. -/
def allBlocks : List Block :=
  [.pwr, .sec, .cfg, .pnl, .recd, .fab, .hst, .tim, .eth, .ser, .snt, .lin, .can, .fus, .cam, .pcl, .hsi, .lsw, .pvc,
   .ddv, .lpe, .evt, .hal, .sys]

/-- The block whose range holds a register address (R4). -/
def blockOf (a : Nat) : Block := (allBlocks.find? fun b => b.base ≤ a).getD .sys

/-- Whether each lane has an instance of the block of its own (R47). -/
def Block.perLane : Block → Bool
  | .sys | .hal | .evt | .lpe | .ddv | .pvc | .lsw | .hst => true
  | _ => false

/-- The registers of a block. -/
def Block.regs : Block → List RegDesc
  | .sys => regsSys | .hal => regsHal | .evt => regsEvt | .tim => regsTim | .eth => regsEth | .recd => regsRec
  | .cfg => regsCfg | .lpe => regsLpe | .ddv => regsDdv | .pvc => regsPvc | .lsw => regsLsw
  | .hsi => regsHsi
  | .pcl => regsPcl | .cam => regsCam | .fus => regsFus
  | .hst => regsHst
  | .can => regsCan | .lin => regsLin | .snt => regsSnt | .ser => regsSer
  | .fab => regsFab | .pnl => regsPnl | .sec => regsSec | .pwr => regsPwr

/-- Whether a distance from a register's first place is one of its repetitions. -/
def dimHit : List (Nat × Nat) → Nat → Bool
  | [], r => r == 0
  | (st, n) :: ds, r => decide (r / st < n) && dimHit ds (r % st)

/-- The description of the register at a block offset. -/
def Block.descAt (b : Block) (off : Nat) : Option RegDesc :=
  b.regs.find? fun d => decide (d.off ≤ off) && dimHit d.dims (off - d.off)

/-- The word of a register's reset values. -/
def RegDesc.resetVal (d : RegDesc) : Nat := d.fields.foldl (fun n f => n + f.reset * 2 ^ f.lo) 0

/-- The reset value of a register address; 0 outside the map (R6). -/
def resetAt (a : Nat) : Nat :=
  let b := blockOf a
  match b.descAt (a - b.base) with
  | some d => d.resetVal
  | none => 0

/-- The value of a register after a warm start (R10): fields that are not kept return to their reset value. -/
def RegDesc.warmVal (d : RegDesc) (w : Nat) : Nat :=
  d.fields.foldl (fun n f => if f.kept then n + (w / 2 ^ f.lo % 2 ^ (f.hi + 1 - f.lo)) * 2 ^ f.lo
    else n + f.reset * 2 ^ f.lo) 0

end Sys2Proof.Machine
end

