-- ==== Sys2Proof/Machine/Parts/Bus.lean ====
section
/-! DEFINITION. Field buses (spec/12), beyond their registers. -/

namespace Sys2Proof.Machine

/-- What a channel has on the bus: a transmit buffer (`none` for the time reference), the identifier as it was sent, a
cancel that waits, or that the time reference belongs to a TM that has been cleared, the start-of-frame instant as local-clock count and HTB, the clock state then. -/
structure CanOn where
  buf : Option Nat := none
  id : Nat := 0
  cancel : Bool := false
  lc : Nat := 0
  htb : Nat := 0
  dom : Nat := 0
  deriving DecidableEq, Repr, Inhabited

/-- A received frame that waits for its copy on the paired channel (R381): when and where it came, what a match compares,
the address of its ring entry, when it was written, and the entry's bytes. -/
structure PairEnt where
  at_ : Nat := 0
  ch : Nat := 0
  key : List Nat := []
  addr : Option Nat := none
  ent : List Byte := []
  deriving DecidableEq, Repr, Inhabited

/-- A CAN channel: its mode (R375 codes, 7 OFF), the mode requested and the one before bus-off, the error counts, the
autorate trial (R378), the frame on the bus, the time master (R385), the pairing (R381). -/
structure CanCh where
  mode : Nat := 7
  req : Option Nat := none
  before : Nat := 0
  busOff : Bool := false
  tec : Nat := 0
  rec_ : Nat := 0
  code : Nat := 0
  cand : Nat := 0
  good : Nat := 0
  brs : Bool := false
  locked : Bool := false
  untested : Bool := false
  on : Option CanOn := none
  tmNext : Nat := 0
  tmPend : Option (Nat × Nat) := none
  tmLast : Option Nat := none
  tmSkip : Bool := false
  pairs : List PairEnt := []
  deriving DecidableEq, Repr, Inhabited

/-- The states of a LIN channel (R387, R389). -/
inductive LinState where
  | stopped | running | sleep
  deriving DecidableEq, Repr, Inhabited

/-- The code of a LIN state (R403). -/
def LinState.code : LinState → Nat
  | .stopped => 0
  | .running => 1
  | .sleep => 2

/-- A LIN channel: table and slot, the slot's start and end, the stamp of the last break, the protected identifier of the last
header, the bytes that the module sends after it, whether the response has come; the commands that wait for the end of the slot;
the end of the wake-up pulse. -/
structure LinCh where
  st : LinState := .stopped
  table : Nat := 0
  slot : Nat := 0
  slotEnd : Nat := 0
  lc : Nat := 0
  htb : Nat := 0
  pid : Nat := 0
  data : List Nat := []
  answered : Bool := false
  switchTo : Option (Nat × Nat) := none
  stop : Bool := false
  sleep : Bool := false
  pulse : Option Nat := none
  deriving DecidableEq, Repr, Inhabited

/-- A SENT channel (R392, R393): the previous calibration pulse and frame length in ns, the serial bits of the latest
frames (bit 3, bit 2), oldest first, the latest fast frame and its HTB. -/
structure SentCh where
  cal : Option Nat := none
  flen : Option Nat := none
  bits : List (Bool × Bool) := []
  lastHtb : Nat := 0
  deriving DecidableEq, Repr, Inhabited

/-- A serial port (R396, R397): the open entry, the end of the last byte, the transmit FIFO. -/
structure SerPort where
  bytes : List Byte := []
  lc : Nat := 0
  htb : Nat := 0
  idleBefore : Bool := false
  lastEnd : Option Nat := none
  fifo : List Byte := []
  deriving DecidableEq, Repr, Inhabited

/-- A pulse input (R398): the stamp of its last edge, whether it is unread. -/
structure Pps where
  sec : Nat := 0
  ns : Nat := 0
  htb : Nat := 0
  unread : Bool := false
  deriving DecidableEq, Repr, Inhabited

/-- The field buses. -/
structure BusSt where
  can : Tab CanCh := []
  lin : Tab LinCh := []
  sent : Tab SentCh := []
  ser : Tab SerPort := []
  pps : Tab Pps := []
  deriving DecidableEq, Repr, Inhabited

end Sys2Proof.Machine
end

