-- ==== Sys2Proof/Machine/Parts/Cam.lean ====
section
/-! DEFINITION. Camera links and image pipelines (spec/10), beyond their registers. -/

namespace Sys2Proof.Machine

/-- The states of a camera link (R306). -/
inductive LinkState where
  | down | training | up
  deriving DecidableEq, Repr, Inhabited

/-- The code of a link state (R337). -/
def LinkState.code : LinkState → Nat
  | .down => 0
  | .training => 1
  | .up => 2

/-- A tunnelled I²C transaction (R308): the 7-bit address, the bytes it writes in the order they go out, the number of bytes
it reads after that, the bus speed in kHz. -/
structure I2cXfer where
  addr : Nat
  out : List Byte
  rlen : Nat
  khz : Nat
  deriving DecidableEq, Repr, Inhabited

/-- Whether a transaction has a repeated start after the bytes it writes (R308). -/
def I2cXfer.restart (x : I2cXfer) : Bool := decide (0 < x.rlen)

/-- The bytes a transaction transfers when every one is acknowledged (R308). -/
def I2cXfer.len (x : I2cXfer) : Nat := x.out.length + x.rlen

/-- A camera link (R306, R308, R310, R311): its state and gear, the tick at which it last went down by itself, whether its
supply is switched on, the tunnelled I²C transaction in progress, the end of the trigger pulse. -/
structure CamLink where
  st : LinkState := .down
  gear : Nat := 0
  lost : Option Nat := none
  power : Bool := false
  i2c : Option I2cXfer := none
  pulse : Option Nat := none
  deriving DecidableEq, Repr, Inhabited

/-- The state of a link at a tick (R306): a link that went down by itself trains again without a command. DESIGN CHOICE: DOWN
shows in the tick of the loss and TRAINING from the next (the spec gives no time between them). -/
def CamLink.shown (k : CamLink) (now : Nat) : LinkState :=
  match k.st, k.lost with
  | .down, some t => if t < now then .training else .down
  | st, _ => st

/-- A frame (R313, R328): its lines in the 16-bit aligned form, its counts and flags, the parameters in force. -/
structure CFrame where
  lines : List (List Nat) := []
  pad : Nat := 0
  flags : Nat := 0
  sof : Nat := 0
  expect : Nat := 0
  crc : Nat := 0
  lshort : Nat := 0
  llong : Nat := 0
  dropl : Nat := 0
  pgen : Nat := 0
  par : Tab Word := []
  ended : Bool := false
  deriving DecidableEq, Repr, Inhabited

/-- What takes a slot of the ring, in slot order: a frame, or a missing-frame record with its expected start. -/
inductive Claim where
  | frame (f : CFrame)
  | missing (expect : Nat)
  deriving DecidableEq, Repr, Inhabited

/-- A pipeline (R327–R333): its live parameters, the ticks of the COMMITs not yet applied, the slots it has claimed and not
written, EXPECT or the open expected slots (oldest first), its sequence and generation. -/
structure Vp where
  live : Tab Word := []
  commits : List Nat := []
  claims : List Claim := []
  expect : Option Nat := none
  slots : List Nat := []
  fseq : Nat := 0
  pgen : Nat := 0
  dropBefore : Bool := false
  deriving DecidableEq, Repr, Inhabited

/-- CAM: its links and pipelines. -/
structure CamSt where
  links : Tab CamLink := []
  vps : Tab Vp := []
  deriving DecidableEq, Repr, Inhabited

end Sys2Proof.Machine
end

