-- ==== Sys2Proof/Machine/Parts/Eth.lean ====
section
/-! DEFINITION. The Ethernet switch, beyond its registers (spec/13). -/

namespace Sys2Proof.Machine

/-- A port: whether its link is up, the resolved role, the signal quality, the frames in its eight egress queues, by PCP,
oldest first: the VID (`none` when it leaves untagged) and the frame without VLAN tag. -/
structure EthPort where
  link : Bool := false
  role : Bool := false
  sqi : Nat := 0
  queue : Tab (List (Option Nat × List Byte)) := []
  deriving DecidableEq, Repr, Inhabited

/-- A learned address (R407): VLAN, address, port, when it was last seen. -/
structure FdbEntry where
  vid : Nat := 0
  mac : Nat := 0
  port : Nat := 0
  seen : Nat := 0
  deriving DecidableEq, Repr, Inhabited

/-- A stream (R414–R416): the next sequence number it gives, the recovery function, when a frame passed last, when each port
delivered last. -/
structure FrerSt where
  gen : Nat := 0
  takeAny : Bool := true
  rec_ : Nat := 0
  hist : Nat := 0
  passAt : Nat := 0
  seen : Tab Nat := []
  deriving DecidableEq, Repr, Inhabited

/-- The switch. -/
structure EthSt where
  ports : Tab EthPort := []
  fdb : List FdbEntry := []
  frer : Tab FrerSt := []
  deriving DecidableEq, Repr, Inhabited

end Sys2Proof.Machine
end

