-- ==== Sys2Proof/Machine/Parts/Fab.lean ====
section
/-! DEFINITION. The memory fabric and its arbiter (spec/15). -/

namespace Sys2Proof.Machine

/-- A requester (R468, R474, R475): its credit, the instant of the last write of its weight with the weight written before
it, the weight in force, and what its oldest waiting request had waited at which instant. -/
structure Rq where
  credit : Nat := 0
  live : Option Nat := none
  wAt : Option Nat := none
  before : Nat := 0
  wait : Option (Nat × Nat) := none
  deriving DecidableEq, Repr, Inhabited

/-- The fabric: the requesters, the last one granted without credit, the burst in flight with its end in units of 0.25 ns
(a fabric cycle is 5, a tick of HTB 16), the window that was refilled last, the beats of the present window, the instant
by which the burst that was in flight at the freeze has reached the DRAM. -/
structure FabSt where
  rqs : Tab Rq := []
  last : Nat := 15
  flight : Option (Nat × Nat) := none
  window : Nat := 0
  beats : Nat := 0
  drainBy : Nat := 0
  deriving DecidableEq, Repr, Inhabited

/-- What a record's writing into its ring brings with it: a posting of `code` with `tag` + unread × 2^`sh` when the unread count
reaches NOTIFY; a full bit of HSI beside that (R270); the posting of every output of FUS (R357); STAT.OVERRUN of a SER port (R396). -/
inductive RingUse where
  | notify (b : Block) (code tag sh : Nat)
  | hsi (bit code : Nat)
  | fus (count : Nat)
  | ser (n : Nat)
  deriving DecidableEq, Repr, Inhabited

/-- A record for the ring whose registers start at `ring`, with the requester that carries it (R467): its bytes, and its bytes
with "a record was dropped just before" set. -/
structure RingRec where
  rq : Nat := 0
  ring : Nat := 0
  esz : Nat := 0
  fresh : List Byte := []
  after : List Byte := []
  use : RingUse := .fus 0
  deriving DecidableEq, Repr, Inhabited

/-- Who met a beat of the DRAM with an uncorrectable error (R466). -/
inductive DramReader where
  | lane (l : LaneId)
  | engine (e : Engine)
  deriving DecidableEq, Repr, Inhabited

/-- The DRAM beside its bytes: the beats that hold an uncorrectable error, by number in the 4 GiB; who met which of them since the
last tick (R466); the ring records that wait for their requester's grant and the pipelines whose missing-frame records do (R476, R477). -/
structure DramQ where
  bad : List Nat := []
  met : List (DramReader × Nat) := []
  wait : List RingRec := []
  frames : List Nat := []
  deriving DecidableEq, Repr, Inhabited

end Sys2Proof.Machine
end

