-- ==== Sys2Proof/Machine/Parts/Hal.lean ====
section
/-! DEFINITION. Halyards and the event table (spec/04). -/

namespace Sys2Proof.Machine

/-- STAT.SYNC of a halyard (R153). -/
inductive SyncState where
  | off | seek | sync
  deriving DecidableEq, Repr, Inhabited

/-- The code of a synchronisation state. -/
def SyncState.code : SyncState → Nat
  | .off => 0
  | .seek => 1
  | .sync => 2

/-- A halyard: the published position `pub` in 2^-16 au (unwrapped), the extrapolator of R136 (`q` in au at the last
edge or sample, `t` its tick, `v` and `speed` in 2^-32 au per tick, `acc` in 2^-48 au per tick², `cap` in au, the last
interval), the last edges with their directions and the search for the wheel's index (R127), the reverse backlog (R131), the SENT and FEED sources (R132, R134),
the turn offset C of R133 and R135, and the instant from which STALLTMO runs. -/
structure Hy where
  sync : SyncState := .off
  stall : Bool := false
  capped : Bool := false
  pub : Nat := 0
  q : Nat := 0
  t : Nat := 0
  v : Int := 0
  acc : Int := 0
  cap : Nat := 0
  speed : Int := 0
  last : Option (Int × Nat) := none
  edges : List Nat := []
  dirs : List Bool := []
  seen : Nat := 0
  idx : Option Nat := none
  conf : Nat := 0
  edgeA : Option Nat := none
  edgeB : Option Nat := none
  backlog : Nat := 0
  value : Option Nat := none
  good : Nat := 0
  bad : Nat := 0
  feedd : Word := 0
  samples : Nat := 0
  sampleT : Option Nat := none
  firstInc : Nat := 0
  c : Nat := 0
  stallBase : Nat := 0
  deriving DecidableEq, Repr, Inhabited

/-- The snapshot of an armed occurrence (R142); `commit` says that a commit has reached the entry since, with the EN
that was stored then (R148). -/
structure Snap where
  act : Nat := 0
  hy : Nat := 0
  frac : Nat := 0
  turn : Nat := 0
  core : Nat := 0
  arg : Nat := 0
  gen : Nat := 0
  firing : Bool := false
  commit : Option Bool := none
  deriving DecidableEq, Repr, Inhabited

/-- An entry of the event table (R139) with its FSTATE (R154), whether it is held at the armed limit
(R143), and its snapshot. -/
structure Entry where
  w0 : Word := 0
  w1 : Word := 0
  w2 : Word := 0
  w3 : Word := 0
  occ : Nat := 0
  lastLate : Bool := false
  missed : Bool := false
  fgen : Nat := 0
  held : Bool := false
  snap : Option Snap := none
  deriving DecidableEq, Repr, Inhabited

end Sys2Proof.Machine
end

