-- ==== Sys2Proof/Machine/Parts/Hsi.lean ====
section
/-! DEFINITION. Harvest sensing (spec/08), beyond its registers. -/

namespace Sys2Proof.Machine

/-- A counting window of a loss channel (R250–R254): its tick bounds, sector, flags, sums and bins. -/
structure Win where
  opened : Nat := 0
  closed : Option Nat := none
  sector : Nat := 0
  chained : Bool := false
  timeout : Bool := false
  sensflt : Bool := false
  clip : Bool := false
  count : Nat := 0
  esum : Nat := 0
  pile : Nat := 0
  grain : Nat := 0
  bins : List Nat := []
  deriving DecidableEq, Repr, Inhabited

/-- An open impact (R248): its tick, its energy so far, whether it is a retrigger. -/
structure Impact where
  tick : Nat := 0
  e : Nat := 0
  retrig : Bool := false
  deriving DecidableEq, Repr, Inhabited

/-- The detector of a loss channel (R248): the number of the next sample, the detector's variables, its open window and the closed ones whose record is not yet written. -/
structure LossCh where
  k : Nat := 0
  env : Nat := 0
  armed : Bool := true
  kc : Nat := 0
  imp : Option Impact := none
  win : Option Win := none
  closed : List Win := []
  deriving DecidableEq, Repr, Inhabited

/-- An analog or bridge input (R258): the conversion up to which SAT has been latched, and the conversion that was the latest when
its settings were last written, with its value and whether it clamped; `ranges`: conversion numbers with the RANGE that held up to
them, oldest first, of the last 100 ms (R256, R271). -/
structure InCh where
  satK : Nat := 0
  heldK : Option Nat := none
  heldVal : Int := 0
  heldSat : Bool := false
  ranges : List (Nat × Nat) := []
  deriving DecidableEq, Repr, Inhabited

/-- HSI: the inputs, the loss channels, the sequence numbers of both rings, the millisecond of the last FN_TICK (R261), the ADCTRIG actions whose
snapshot is not yet written, as tick and group (R259). -/
structure HsiSt where
  ins : Tab InCh := []
  chs : Tab LossCh := []
  lossSeq : Nat := 0
  snapSeq : Nat := 0
  msIdx : Nat := 0
  trig : List (Nat × Nat) := []
  deriving DecidableEq, Repr, Inhabited

end Sys2Proof.Machine
end

