-- ==== Sys2Proof/Machine/Parts/Hst.lean ====
section
/-! DEFINITION. Job streams and hoists (spec/14), beyond their registers. -/

namespace Sys2Proof.Machine

/-- A job: its header (R437) with the CRC it came with, and its payload. -/
structure Job where
  dest : Nat := 0
  src : Nat := 0
  stream : Nat := 0
  epoch : Nat := 0
  seq : Nat := 0
  kind : Nat := 0
  session : Nat := 0
  flags : Nat := 0
  reason : Nat := 0
  crc : Nat := 0
  body : List Byte := []
  deriving DecidableEq, Repr, Inhabited

/-- The states of a stream (R463). -/
inductive StrState where
  | closed | opened | paused | stalled
  deriving DecidableEq, Repr, Inhabited

/-- The code of a stream state (R463). -/
def StrState.code : StrState → Nat
  | .closed => 0
  | .opened => 1
  | .paused => 2
  | .stalled => 3

/-- A stream as a lane's HST holds it. Receive: the job being journaled with whether the own places and the standby's have
confirmed, the jobs accepted and not completed with whether a core has taken them, the held jobs, the copies a standby has
journaled. Send: the unacknowledged jobs, the last number that has left, the refused number with its next attempt, the
retransmission deadline and count. -/
structure HStream where
  st : StrState := .closed
  seqA : Nat := 0
  seqB : Nat := 0
  session : Nat := 0
  epoch : Nat := 0
  jour : Option (Job × Bool × Bool) := none
  jobs : List (Job × Bool) := []
  held : List Job := []
  copies : List Job := []
  sent : List Job := []
  txTo : Nat := 0
  refused : Option (Nat × Nat) := none
  rtoAt : Nat := 0
  tries : Nat := 0
  deriving DecidableEq, Repr, Inhabited

/-- A hoist level: its epoch, the ensign's rank, the own role, the members heard with the time of their last heartbeat, the number
of the module that sent it and whether it is syncing or resigning, the own resynchronisation with the records so far, as ensign
when its records last went to a module and the standby module it works with, whether that has shown to be in step, whether it
has shown SYNCING since its records left, whether jobs were accepted or completed since then; heartbeats, listening. -/
structure HLevel where
  epoch : Nat := 0
  ensign : Option Nat := none
  role : Nat := 0
  heard : Tab Nat := []
  mods : Tab Nat := []
  unfit : Tab Bool := []
  syncing : Bool := false
  recs : List (List Byte) := []
  syncAt : Tab Nat := []
  stby : Option (Nat × Bool) := none
  seen : Bool := false
  dirty : Bool := false
  hbNext : Nat := 0
  hbSeq : Nat := 0
  jmark : Nat := 0
  maxEpoch : Nat := 0
  listen : Option Nat := none
  deriving DecidableEq, Repr, Inhabited

/-- The way a message leaves (R440): a UDP datagram to an IPv4 or IPv6 address and a port, a CAN FD frame of a channel with its
identifier, the mirror to the other lane's HST. -/
inductive HWay where
  | udp (v6 : Bool) (addr port : Nat)
  | can (ch id : Nat)
  | lane
  deriving DecidableEq, Repr, Inhabited

/-- A datagram or a frame that HST has sent. -/
structure HMsg where
  way : HWay
  bytes : List Byte
  deriving DecidableEq, Repr, Inhabited

/-- The part of HST that the lanes share: what it has sent, oldest first (DESIGN CHOICE: the outputs of HST are kept), the
levels, and the partial CAN messages by channel and identifier (next index, count, bytes). -/
structure HstSt where
  out : List HMsg := []
  levels : Tab HLevel := []
  parts : Tab (Nat × Nat × List Byte) := []
  deriving DecidableEq, Repr, Inhabited

end Sys2Proof.Machine
end

