-- ==== Sys2Proof/Machine/Parts/Lpe.lean ====
section
/-! DEFINITION. The loop engine of a lane (spec/05), beyond its registers. -/

namespace Sys2Proof.Machine

/-- A sample request waiting in the queue (R165): its HTB instant, and the HSI, PV and HY sources as they stood then
(R160): value and validity of the 36 inputs, the 48 slot targets, the PV readings, the halyard speeds (Q24.8). -/
structure SampleReq where
  ctx : Nat := 0
  at_ : Nat := 0
  hsiUp : Bool := true
  ins : List (Int × Bool) := []
  fns : List Int := []
  pvs : List (Int × Bool) := []
  hys : List (Nat × Bool) := []
  deriving DecidableEq, Repr, Inhabited

/-- A running injection (R178–R181): the context, k, the PRBS register and hold count, the chirp phase and frequency,
the multisine phases. -/
structure Inj where
  busy : Bool := false
  ctx : Nat := 0
  k : Nat := 0
  r : Nat := 0
  hc : Nat := 0
  phi : Nat := 0
  f : Int := 0
  phis : List Nat := []
  deriving DecidableEq, Repr, Inhabited

/-- A capture channel (R182, R183). `fill` is what a place not recorded since ARM reads. -/
structure Cap where
  state : Nat := 0
  idx : Nat := 0
  count : Nat := 0
  trig : Bool := false
  start : Nat := 0
  pos : Nat := 0
  prevalid : Nat := 0
  fill : Nat := 0
  buf : Tab Nat := []
  deriving DecidableEq, Repr, Inhabited

/-- The loop engine: the sample queue, injectors, capture channels, the steps of the running and of the last complete
millisecond (R185), the contexts whose live half was stored to while they ran (R120 case 5), and the context whose next
periodic request each millisecond grid point belongs to is computed from PERIOD and PHASE alone. -/
structure Lpe where
  queue : List SampleReq := []
  injs : Tab Inj := []
  caps : Tab Cap := []
  dirty : Tab Bool := []
  softTk : Tab Nat := []
  msIdx : Nat := 0
  loadCur : Nat := 0
  loadLast : Nat := 0
  deriving DecidableEq, Repr, Inhabited

end Sys2Proof.Machine
end

