-- ==== Sys2Proof/Machine/Parts/Out.lean ====
section
/-! DEFINITION. The output stages behind the sequencers (spec/06, spec/07), beyond their registers. -/

namespace Sys2Proof.Machine

/-- The phases of R190. -/
inductive Phase6 where
  | idle | p0 | p1 | p2 | p3
  deriving DecidableEq, Repr, Inhabited

/-- CHc.STAT.PHASE (R217). -/
def Phase6.code : Phase6 → Nat
  | .idle => 0
  | .p0 => 1
  | .p1 => 2
  | .p2 => 3
  | .p3 => 4

/-- The hold ends in force (R195, R202): the latest instant (0 none, 2^64 unbounded under R196) with the halyard
position it was computed from, and whether a start with END = 0 asked for HOLDDEF. -/
structure HoldEnds where
  at_ : Nat := 0
  pos : Option Nat := none
  useDef : Bool := false
  deriving DecidableEq, Repr, Inhabited

/-- A request in a bank queue (R199). -/
structure BReq where
  ch : Nat := 0
  prof : Nat := 0
  ends : HoldEnds := {}
  arrival : Nat := 0
  deadline : Nat := 0
  deriving DecidableEq, Repr, Inhabited

/-- A valve bank: its queue, the RAIL applied, the RAIL that waits for P0 to end (R189). -/
structure Bank where
  queue : List BReq := []
  rail : Nat := 0
  railNext : Option Nat := none
  heldOff : Bool := false
  deriving DecidableEq, Repr, Inhabited

/-- A valve channel: its phase since `since`, the copy of its profile (R194), the hold ends, the instant of the last
revision (R196), the request it was last admitted with. -/
structure Chan where
  phase : Phase6 := .idle
  req : BReq := {}
  prof : List Nat := []
  since : Nat := 0
  ends : HoldEnds := {}
  rev : Nat := 0
  deriving DecidableEq, Repr, Inhabited

/-- A stroke selector (R204). -/
structure Sel where
  acc : Int := 16384
  lastEn : Bool := false
  enrun : Nat := 0
  idlerun : Nat := 1
  deriving DecidableEq, Repr, Inhabited

/-- A proportional channel: the HTB instant of its ENABLE, from which the dither phase counts (R223), and the number of its
conversions since then (R221), the instant since which MEAS stands above IMAX (R225). -/
structure PvCh where
  t0 : Nat := 0
  conv : Nat := 0
  high : Option Nat := none
  deriving DecidableEq, Repr, Inhabited

/-- A load switch: end of the inrush window or the time left while it stands still (R237), the retries used, the end of
the retry off-time, whether an own fault holds (R234, R236), whether it waits to cool, the instant it began to conduct.
`fresh`: the restart it waits for is an OFF-to-ON transition (R234, R238); `thenOff`: its inrush sequence runs to its end although
its level is off (R29); `code`: its latest scan code before `codeAt` (R232). -/
structure LsCh where
  winEnd : Option Nat := none
  winLeft : Option Nat := none
  retry : Nat := 0
  retryAt : Option Nat := none
  own : Bool := false
  hot : Bool := false
  fresh : Bool := false
  thenOff : Bool := false
  code : Nat := 0
  codeAt : Nat := 0
  onSince : Nat := 0
  deriving DecidableEq, Repr, Inhabited

/-- A directed conversion pending on a sense group (R232). -/
structure DirConv where
  ch : Nat := 0
  at_ : Nat := 0
  deriving DecidableEq, Repr, Inhabited

/-- The filter of a supply group (R230): the filtered current in steps of 10 mA × 2^-16, and the number of its last sample. -/
structure GFilter where
  f : Nat := 0
  at_ : Nat := 0
  deriving DecidableEq, Repr, Inhabited

/-- The output stages; `shedLast`: instant and channel of the last shed under R231; `scan`: the instant from which
the slots of a sense group count, moved by its directed conversions (R232); `bkt`, `bktAt`: the energy of the boost
converter's bucket in pJ and the instant it stood at that (R210). -/
structure Out6 where
  banks : Tab Bank := []
  chans : Tab Chan := []
  pv : Tab PvCh := []
  ls : Tab LsCh := []
  dirs : Tab (Option DirConv) := []
  tripAt : Tab Nat := []
  filt : Tab GFilter := []
  scan : Tab Nat := []
  bkt : Nat := 0
  bktAt : Nat := 0
  shedLast : Option (Nat × Nat) := none
  deriving DecidableEq, Repr, Inhabited

end Sys2Proof.Machine
end

