-- ==== Sys2Proof/Machine/Parts/Pcl.lean ====
section
/-! DEFINITION. The parcel tracker (spec/09), beyond its registers. Positions are unwrapped au. -/

namespace Sys2Proof.Machine

/-- An earlier placement (R283, R284): stage, entry, and the tick of the step at which its profile end was reached. -/
structure Earlier where
  stage : Nat := 0
  e : Nat := 0
  reached : Option Nat := none
  deriving DecidableEq, Repr, Inhabited

/-- A piece of a parcel (R282). -/
structure Piece where
  share : Nat := 0
  stage : Nat := 0
  e : Nat := 0
  earlier : Option Earlier := none
  deriving DecidableEq, Repr, Inhabited

/-- A parcel (R278, R293, R294): what was cut and where, the accumulators, the generation offsets, its pieces, its
remaining share, and, once it closes, the end of its grace and its ENDSHARE and LIFE. -/
structure Parcel where
  pid : Nat := 0
  tag : Nat := 0
  wfrac : Nat := 0
  len : Nat := 0
  lat : Nat := 0
  lon : Nat := 0
  tick : Nat := 0
  sec : Nat := 0
  ns : Nat := 0
  posage : Nat := 0
  flags : Nat := 0
  basegen : Nat := 0
  mass : Nat := 0
  mw : Int := 0
  mm : Nat := 0
  qw : List Int := []
  qm : Nat := 0
  impacts : List Nat := []
  grain : List Nat := []
  genoff : List Nat := []
  untrk : Nat := 0
  pieces : List Piece := []
  r : Nat := 32768
  closing : Option Nat := none
  endshare : Nat := 0
  life : Nat := 0
  deriving DecidableEq, Repr, Inhabited

/-- A PARCEL action in the input queue (R292), with what it found when it arrived (R278, R280): HTB and local clock latched
together, the width, the fix and whether that was committed since RUN. -/
structure PAct where
  arg : Nat := 0
  tick : Nat := 0
  htb : Nat := 0
  width : Nat := 0
  fix : Option (Nat × Nat × Nat) := none
  fixNew : Bool := false
  fngen : Nat := 0
  sync : Bool := false
  clock : Nat := 0
  state : Nat := 0
  deriving DecidableEq, Repr, Inhabited

/-- The kinds of measurement (R288). -/
inductive MKind where
  | loss | mass | moist | qual
  deriving DecidableEq, Repr, Inhabited

/-- A measurement in the input queue (R288): its stage, its interval, its sensor group, its values. -/
structure PMeas where
  kind : MKind := .loss
  stage : Nat := 0
  ta : Nat := 0
  tb : Nat := 0
  grp : Nat := 0
  vals : List Int := []
  deriving DecidableEq, Repr, Inhabited

/-- An entry of the input queue. -/
inductive PEntry where
  | act (a : PAct)
  | meas (m : PMeas)
  deriving DecidableEq, Repr, Inhabited

/-- A YREAD in progress (R298). -/
structure YRead where
  idx : Nat := 0
  cnt : Nat := 0
  buf : Nat := 0
  deriving DecidableEq, Repr, Inhabited

/-- The tracker: the position history per halyard (newest first), the input queue, the parcels by context, the distance
reference, the last fix and whether it was committed since RUN, the last snapshot of each group, the staging buffer and the yield
store by YIDX, the records lost since the last YLOST posting, the end of the records of each export job by its number. -/
structure PclSt where
  hist : Tab (List (Nat × Nat)) := []
  queue : List PEntry := []
  parcels : Tab Parcel := []
  ref : Option Nat := none
  fix : Option (Nat × Nat × Nat) := none
  fixNew : Bool := false
  snapPrev : Tab (Option Nat) := []
  staging : List (List Byte) := []
  store : Tab (List Byte) := []
  yidx : Nat := 0
  yold : Nat := 0
  yexp : Nat := 0
  ysent : Nat := 0
  storedAt : Tab Nat := []
  ylost : Nat := 0
  yjobs : Tab Nat := []
  read : Option YRead := none
  deriving DecidableEq, Repr, Inhabited

end Sys2Proof.Machine
end

