-- ==== Sys2Proof/Machine/Parts/Pnl.lean ====
section
/-! DEFINITION. The pennant panel (spec/17). -/

namespace Sys2Proof.Machine

/-- PNL.STAT.state (R507). -/
inductive PanelState where
  | idle | updating | discharged | cracked
  deriving DecidableEq, Repr, Inhabited

/-- The code of a panel state (R514). -/
def PanelState.code : PanelState → Nat
  | .idle => 0
  | .updating => 1
  | .discharged => 2
  | .cracked => 3

/-- USTATs of R515. -/
inductive SlotState where
  | free | pending | running | loading
  deriving DecidableEq, Repr, Inhabited

/-- The code of a slot state. -/
def SlotState.code : SlotState → Nat
  | .free => 0
  | .pending => 1
  | .running => 2
  | .loading => 3

/-- The supplies of the panel, in the order in which a discharge switches them off (R508). -/
inductive Rail where
  | vgh | vgl | vpos | vneg | vcom
  deriving DecidableEq, Repr, Inhabited

/-- An update slot (R504): its number among the accepted updates, its lines with their content, the waveform set, the band and frame
period fixed at its start (R502), the end of its present frame. -/
structure PSlot where
  st : SlotState := .free
  uid : Nat := 0
  order : Nat := 0
  full : Bool := false
  clear : Bool := false
  first : Nat := 0
  last : Nat := 0
  img : Nat := 0
  lines : Tab (List Byte) := []
  band : Nat := 0
  fper : Nat := 0
  frameEnd : Nat := 0
  deriving DecidableEq, Repr, Inhabited

/-- A running line (R506): its slot, its frame counter, K, its old and new content. -/
structure PLine where
  slot : Nat := 0
  k : Nat := 0
  len : Nat := 0
  old : List Byte := []
  new : List Byte := []
  deriving DecidableEq, Repr, Inhabited

/-- The panel: state, the supplies that are on, slots, running lines, displayed lines and targets, the marker and the stored image of the
MRAMs (R509), the frame on the wire (next line, since when it waits, the line number and drive codes last clocked out), what
follows the running lines, how many of them were stopped (R511), the timers. -/
structure PnlSt where
  st : PanelState := .discharged
  powerup : Bool := false
  rails : List Rail := []
  discharging : Bool := false
  disAt : Nat := 0
  slots : Tab PSlot := []
  lines : Tab PLine := []
  disp : Tab (List Byte) := []
  targets : Tab (List Byte) := []
  marker : Bool := false
  stored : Tab (List Byte) := []
  uid : Nat := 0
  order : Nat := 0
  band : Nat := 0
  frameEnd : Option Nat := none
  nextLine : Nat := 0
  lineAt : Nat := 0
  lineTmo : Bool := false
  wire : Option (Nat × List Nat) := none
  holdEnd : Option Nat := none
  thenOff : Bool := false
  stopLines : Bool := false
  stopped : Nat := 0
  aborted : Bool := false
  startDue : Bool := false
  checked : Bool := false
  crackNext : Nat := 0
  tempAt : Nat := 0
  tempStale : Bool := false
  deriving DecidableEq, Repr, Inhabited

end Sys2Proof.Machine
end

