-- ==== Sys2Proof/Machine/Parts/Pwr.lean ====
section
/-! DEFINITION. Supplies, hold-up and dissipation (spec/18 R539–R544, spec/21). -/

namespace Sys2Proof.Machine

/-- PWR: valve supplies under-voltage, camera power held off with the outputs that were on, the bank with its usable energy in
0.1 J and its voltage, the logic input word, the 1 s means of the valve supplies' currents in 100 mA, TAMBW, the estimate
with its six parts (compute, cameras, boost, load switches, PV stages, bank switches, 0.1 W), the budget, the shedding
episode, shed cameras; the hold-up sequence: its entry, and when the supply returned since. -/
structure PwrSt where
  vsuv : Tab Bool := []
  brownout : Bool := false
  camOn : Tab Bool := []
  bankWeak : Bool := false
  huReady : Bool := false
  energy : Nat := 0
  bankV : Nat := 0
  logi : Nat := 0
  vsupi : Tab Nat := []
  tambAt : Nat := 0
  tambStale : Bool := false
  dissnow : Nat := 0
  budnow : Nat := 950
  parts : List Nat := []
  overSince : Option Nat := none
  estAt : Nat := 0
  shedding : Bool := false
  shedAt : Option Nat := none
  dissat : Bool := false
  camShed : Tab Bool := []
  huAt : Option Nat := none
  returned : Option Nat := none
  deriving DecidableEq, Repr, Inhabited

end Sys2Proof.Machine
end

