-- ==== Sys2Proof/Machine/Parts/Rec.lean ====
section
/-! DEFINITION. The event recorder (spec/16). -/

namespace Sys2Proof.Machine

/-- STAT.STATE of R496. -/
inductive RecState where
  | recording | frozen | flushing
  deriving DecidableEq, Repr, Inhabited

/-- A READ in progress (R491): the bytes copied so far stand for the whole copy, made when it completes. -/
structure RecRead where
  idx : Nat := 0
  cnt : Nat := 0
  buf : Nat := 0
  deriving DecidableEq, Repr, Inhabited

/-- The recorder: both buffers and the store by store index, the indices, the freeze tallies, the flush; PCYC unreduced. -/
structure Recorder where
  bufA : Tab (List Byte) := []
  bufB : Tab (List Byte) := []
  store : Tab (List Byte) := []
  seq : Nat := 0
  seqEnd : Nat := 0
  oldest : Nat := 0
  flushed : Nat := 0
  next : Nat := 0
  state : RecState := .recording
  flushPend : Bool := false
  full : Bool := false
  flushTo : Nat := 0
  flushStart : Nat := 0
  frozenUntil : Option Nat := none
  total : Nat := 0
  distinct : Nat := 0
  more : Bool := false
  tally : List (Nat × Nat) := []
  dropTotal : Nat := 0
  read : Option RecRead := none
  ophrs : Nat := 0
  ophrsFrac : Nat := 0
  pcyc : Nat := 0
  deriving DecidableEq, Repr, Inhabited

end Sys2Proof.Machine
end

