-- ==== Sys2Proof/Machine/Parts/Sec.lean ====
section
/-! DEFINITION. The security unit (spec/20) and the configuration store (spec/18). -/

namespace Sys2Proof.Machine

/-- KEYSTAT of a key slot (R559). -/
inductive KeyState where
  | empty | active | revoked
  deriving DecidableEq, Repr, Inhabited

/-- The code of a key state (R573). -/
def KeyState.code : KeyState → Nat
  | .empty => 0
  | .active => 1
  | .revoked => 2

/-- A key slot (R559). -/
structure KeySlot where
  st : KeyState := .empty
  x : List Byte := []
  y : List Byte := []
  mask : Nat := 0
  deriving DecidableEq, Repr, Inhabited

/-- A nonce with the instant at which it expires (R570). -/
structure SecNonce where
  value : BitVec 128 := 0
  until_ : Nat := 0
  deriving DecidableEq, Repr, Inhabited

/-- An image write in progress (R565): the target slot and the bytes; `none` when the check of step 1 failed. -/
structure ImgWrite where
  slot : Nat := 0
  bytes : Option (List Byte) := none
  deriving DecidableEq, Repr, Inhabited

/-- The security unit: the key slots, MINVER, BOOTSEL and the image slots of the NAND (kept over every start), the slot
that runs, whether it was loaded (R563), results, nonces by purpose and the instants of their last token checks (R570), the service session with its signing slot and the instant at which it expired, the debug port, the image hash stored in
the MRAMs (R529). -/
structure SecSt where
  keys : Tab KeySlot := []
  minver : Nat := 0
  bootsel : Nat := 0
  slots : Tab (List Byte) := []
  runslot : Nat := 0
  image : Bool := false
  fallback : Bool := false
  recovery : Bool := false
  result : Nat := 0
  writing : Option ImgWrite := none
  nonces : Tab SecNonce := []
  checked : Tab Nat := []
  lastPurpose : Nat := 0
  session : Option (Nat × Nat) := none
  sessEnded : Option Nat := none
  dbg : Option Nat := none
  imgHash : List Byte := []
  deriving DecidableEq, Repr, Inhabited

/-- A configuration write in progress (R523): the target copy, its SEQ, and the copy as it will stand, `none` when the
check of step 1 failed; the target copy as it stood before, with its SEQ (R526). -/
structure CfgWrite where
  target : LaneId := .a
  seq : Nat := 0
  bytes : Option (List Byte) := none
  old : List Byte × Nat := ([], 0)
  deriving DecidableEq, Repr, Inhabited

/-- The configuration store: both copies as they stand in flash (R519), the SEQ of each, 0 when it is not valid (R525), the
copy that is loaded and its SEQ (R522), CFGNONE, the last result, the write in progress. -/
structure CfgSt where
  copyA : List Byte := []
  copyB : List Byte := []
  seqA : Nat := 0
  seqB : Nat := 0
  loaded : LaneId := .a
  seq : Nat := 0
  none_ : Bool := false
  result : Nat := 0
  writing : Option CfgWrite := none
  deriving DecidableEq, Repr, Inhabited

end Sys2Proof.Machine
end

