-- ==== Sys2Proof/Machine/Parts/Core.lean ====
section
/-! DEFINITION. The state of a Ranly core (spec/02, spec/03). Field defaults are the values right after reset. -/

namespace Sys2Proof.Machine

/-- An event-queue entry (R88); `hidden` while a delivered POST entry is not visible yet (R95). -/
structure EvEntry where
  src : Nat := 0
  code : Nat := 0
  arg : Nat := 0
  data : Nat := 0
  hidden : Bool := false
  deriving DecidableEq, Repr, Inhabited

/-- An outstanding load: its value was read at issue and returns later (R77); `dram`: from the DRAM window. -/
structure PendLoad where
  dst : Nat := 0
  value : Word := 0
  dram : Bool := false
  deriving DecidableEq, Repr, Inhabited

/-- A store in the store buffer (R77, R109). `win` is WINBASE at its issue. -/
structure BufStore where
  addr : Nat := 0
  size : Nat := 0
  data : Nat := 0
  win : Nat := 0
  deriving DecidableEq, Repr, Inhabited

/-- Whether a core runs (R97, R83, R119). -/
inductive RunState where
  | stopped | running | waiting | halted
  deriving DecidableEq, Repr, Inhabited

/-- The fences of R110. -/
inductive FenceKind where
  | lane | engine
  deriving DecidableEq, Repr, Inhabited

/-- A suspended wait (R97): the register of the outcome, the position waited for, whether an event ends it, and the
HTB instant at which WAITTMO elapses. -/
structure WaitInfo where
  dst : Nat := 0
  target : Option (Nat × Nat) := none
  event : Bool := false
  deadline : Option Nat := none
  deriving DecidableEq, Repr, Inhabited

/-- A core: the programmer's state of R51–R52, the special registers of R79 and R113, the queue of R88, the load
and store buffers of R77, and the registers that the blocks bank per core (R146, R483). -/
structure Core where
  run : RunState := .stopped
  v : Tab Word := []
  ac : Tab (BitVec 40) := []
  p : Tab Bool := []
  pc : Word := 0
  sat : Bool := false
  aov : Bool := false
  algn : Bool := true
  trap : Bool := false
  tcause : Word := 0
  tpc : Word := 0
  tval : Word := 0
  tvec : Word := 0
  cycle0 : Nat := 0
  cycleh : Word := 0
  winbase : Nat := 2
  waittmo : Word := 0
  startarg : Word := 0
  progend : Word := 0
  startcnt : Nat := 0
  loads : List PendLoad := []
  stores : List BufStore := []
  fence : Option FenceKind := none
  wait : Option WaitInfo := none
  evq : List EvEntry := []
  lost : Nat := 0
  ovf : Bool := false
  wbuf : Tab Word := []
  wstat : Word := 0
  pwbuf : Tab Word := []
  deriving DecidableEq, Repr, Inhabited

end Sys2Proof.Machine
end

