-- ==== Sys2Proof/Machine/Parts/Seq.lean ====
section
/-! DEFINITION. Output sequencers and the command links to them (spec/01 "Output sequencers"). -/

namespace Sys2Proof.Machine

/-- A command of a lane on its way to a sequencer, or waiting there for the other lane's copy: the lane command
number of R26, the lane epoch it carries, its words (word 0 says what it is, see Ops of each channel kind) and the
instant at which a missing copy counts. `extra` is timing data (R196), not compared; `rej` is the reason with which the
lane's front-end rejected the write this is the copy of, 0 for none; `judged` is false while a non-owning lane still awaits
the verdict on the owner's identical write (R217). -/
structure LinkCmd where
  num : Nat := 0
  epoch : Nat := 0
  words : List Nat := []
  due : Option Nat := none
  extra : List Nat := []
  rej : Nat := 0
  judged : Bool := true
  deriving DecidableEq, Repr, Inhabited

/-- A sequencer (R28–R31, SYS.SEQn of R50): ownership, hold timer, flags, `off` (the timer expired and no owner tick has
arrived since), the command numbers and the command copies
of each lane, and the highest number of a lane's copies that waited in vain for the other lane's (R26). -/
structure Seq where
  owner : LaneId := .a
  epoch : Nat := 0
  hold : Nat := 100
  mismatch : Bool := false
  expired : Bool := false
  holding : Bool := false
  holdUntil : Option Nat := none
  off : Bool := false
  lastTickA : Option Nat := none
  lastTickB : Option Nat := none
  numA : Nat := 0
  numB : Nat := 0
  linkA : List LinkCmd := []
  linkB : List LinkCmd := []
  waitA : List LinkCmd := []
  waitB : List LinkCmd := []
  pastA : Nat := 0
  pastB : Nat := 0
  deriving DecidableEq, Repr, Inhabited

end Sys2Proof.Machine
end

