-- ==== Sys2Proof/Machine/Parts/Sys.lean ====
section
/-! DEFINITION. The module-wide supervisor state (spec/01, spec/18, spec/19). -/

namespace Sys2Proof.Machine

/-- LANE_MODE of R48. -/
inductive LaneMode where
  | dual | singleA | singleB | rejoin
  deriving DecidableEq, Repr, Inhabited

/-- The code of a lane mode (R48). -/
def LaneMode.code : LaneMode → Nat
  | .dual => 0
  | .singleA => 1
  | .singleB => 2
  | .rejoin => 3

/-- The single lane mode of a lane. -/
def LaneMode.single : LaneId → LaneMode
  | .a => .singleA
  | .b => .singleB

/-- The module axis of R546. -/
inductive ModMode where
  | run | service | bench | park
  deriving DecidableEq, Repr, Inhabited

/-- The code of a module mode (R546). -/
def ModMode.code : ModMode → Nat
  | .run => 0
  | .service => 1
  | .bench => 2
  | .park => 3

/-- The power state of R539. -/
inductive PowerState where
  | normal | low | holdup
  deriving DecidableEq, Repr, Inhabited

/-- The code of a power state (R544). -/
def PowerState.code : PowerState → Nat
  | .normal => 0
  | .low => 1
  | .holdup => 2

/-- Where the module stands between its starts: off, in a cold or warm start before output enable, running, parking,
parked. -/
inductive Phase where
  | off | cold | warm | running | parking | parked
  deriving DecidableEq, Repr, Inhabited

/-- A rejoin in progress (R537): the lane, its failure cause before, the instant of REJOIN_PEER. -/
structure Rejoin where
  lane : LaneId := .a
  cause : Nat := 0
  start : Nat := 0
  deriving DecidableEq, Repr, Inhabited

/-- A takeover that is due (R33): the failed lane, the instant it is measured from (R48, TKTIME). -/
structure Loss where
  lane : LaneId := .a
  since : Nat := 0
  deriving DecidableEq, Repr, Inhabited

/-- The supervisor state shared by the lanes: LANESTAT, the mismatch and takeover registers (R48), the ownership of
the shared engines (R33), the takeover that is due, the rejoin; the start (R517–R537): since when, cause, duration of the last
one, what it found (DRAM trained, image checked, records applied, unclean hold-up, failed lanes, an image loaded), the warm
start that is due; the module mode with the one before PARK, MSEQ, the power state; PARK (R550, R551): `parkAt` is the instant
of its entry and, once parked, of its step 4, `canBefore` the modes of the CAN channels then; the journal's checkpoints (R536):
whether one was written since the entry to HOLD-UP or PARK, when the last one was, its slot and sequence number. -/
structure Sup where
  laneMode : LaneMode := .rejoin
  active : LaneId := .a
  causeA : Nat := 0
  causeB : Nat := 0
  miscnt : Nat := 0
  misWord : Nat := 0
  misSeq : Nat := 0
  tktime : Nat := 0
  tkcount : Nat := 0
  engOwner : LaneId := .a
  engEpoch : Nat := 0
  takeover : Option Loss := none
  rejoin : Option Rejoin := none
  phase : Phase := .off
  startAt : Nat := 0
  startCause : Nat := 0
  startUs : Nat := 0
  warmPending : Option Nat := none
  retrain : Bool := false
  imgNew : Bool := false
  cfgNew : Bool := false
  unclean : Bool := false
  failA : Bool := false
  failB : Bool := false
  loaded : Bool := false
  modMode : ModMode := .run
  modBefore : ModMode := .run
  mseq : Nat := 0
  power : PowerState := .normal
  parkAt : Nat := 0
  ckptDone : Bool := false
  ckptAt : Nat := 0
  ckptSlot : Nat := 0
  ckptSeq : Nat := 0
  wakeSrc : Nat := 0
  canBefore : Tab Nat := []
  deriving DecidableEq, Repr, Inhabited

end Sys2Proof.Machine
end

