-- ==== Sys2Proof/Machine/Parts/Tim.lean ====
section
/-! DEFINITION. The local clock and its trackers (spec/13 "The local clock"). -/

namespace Sys2Proof.Machine

/-- The nominal addend: 4 ns in units of 2^-32 ns (R419). -/
def timNom : Int := 4 * 2 ^ 32

/-- A tracker (R421–R423). `integ` and `y` are in 2^-48 ppb, `d` and `err` in 2^-32 ns. -/
structure Tracker where
  first : Bool := true
  valid : Bool := false
  validSince : Nat := 0
  goodRun : Nat := 0
  count : Nat := 0
  integ : Int := 0
  y : Int := 0
  a : Int := timNom
  d : Int := 0
  err : Int := 0
  timeout : Option Nat := none
  mtime : Word := 0
  offlo : Word := 0
  deriving DecidableEq, Repr, Inhabited

/-- The clock states of R424. -/
inductive CState where
  | dt0 | dt1 | holdover | free
  deriving DecidableEq, Repr, Inhabited

/-- The code of a clock state (R424). -/
def CState.code : CState → Nat
  | .dt0 => 0
  | .dt1 => 1
  | .holdover => 2
  | .free => 3

/-- The time unit: the count in 2^-32 ns, the applied addend, the slew remainder `q` (2^-32 ns), the trackers,
whether a hard fault has frozen them, whether a command holds automatic switches off in this cycle and which CMD SWITCH a commit of
this cycle has brought forward (R426). -/
structure Tim where
  count : Nat := 0
  addend : Int := timNom
  cstate : CState := .free
  q : Int := 0
  trk : Tab Tracker := []
  frozen : Bool := false
  forced : Bool := false
  ahead : Option Nat := none
  deriving DecidableEq, Repr, Inhabited

end Sys2Proof.Machine
end

