-- ==== Sys2Proof/Machine/State.lean ====
section
/-! DEFINITION. The state of the module, its stops, its reset. -/

namespace Sys2Proof.Machine

/-- One lane: its copies of the per-lane registers (R47), the lane epoch, whether it is healthy (sends owner ticks and
commands), whether its start has reached output enable or shadow-ready (R24), the watchdog, its cores and memories (R43). -/
structure Lane where
  regs : Tab Word := []
  epoch : Nat := 0
  live : Bool := false
  ready : Bool := false
  struck : Bool := false
  shdrop : Nat := 0
  wdEnd : Option Nat := none
  wdHalf : Option Nat := none
  beat : Option Nat := none
  cores : Tab Core := []
  lmem : Tab Memory := []
  sram : Memory := []
  hy : Tab Hy := []
  entries : Tab Entry := []
  lpe : Lpe := {}
  sels : Tab Sel := []
  levels : Tab Nat := []
  strs : Tab HStream := []
  deriving DecidableEq, Repr, Inhabited

/-- The state of the module. `pending` is the queue of commands, `now` the HTB count (R123), `freeCtr` the model's own
count of open values taken so far. Registers that no other field holds are in `sregs` (shared engines and the
sequencer-held registers, by absolute address) and in each lane's `regs`; an address not listed holds its reset value. -/
structure State where
  pending : List Instr := []
  now : Nat := 0
  freeCtr : Nat := 0
  sup : Sup := {}
  laneA : Lane := {}
  laneB : Lane := {}
  seqs : Tab Seq := []
  sregs : Tab Word := []
  hardflt : Tab Bool := []
  ringDrop : Tab Bool := []
  dram : Tab Memory := []
  dq : DramQ := {}
  tim : Tim := {}
  ang : Tab Bool := []
  recd : Recorder := {}
  pcl : PclSt := {}
  cam : CamSt := {}
  fus : FusSt := {}
  bus : BusSt := {}
  eth : EthSt := {}
  hst : HstSt := {}
  hsi : HsiSt := {}
  fab : FabSt := {}
  pnl : PnlSt := {}
  sec : SecSt := {}
  cfg : CfgSt := {}
  pwr : PwrSt := {}
  out : Out6 := {}
  deriving DecidableEq, Repr, Inhabited

/-- A command that stops the model. None does: the stops the hardware has (a halted core, a failed lane, a module that
switches off) are states, so this type has no value. -/
inductive Fault where
  deriving DecidableEq, Repr

/-- A command is refused. -/
inductive Refusal where
  /-- Raised by the dispatch for a command without a meaning, by its name; safe. No arm raises it now. -/
  | notModelled (mnemonic : String)
  deriving DecidableEq, Repr

/-- The outcome of a command. -/
abbrev Out := Host.Outcome State Fault Refusal

/-- The module right after reset: switched off, nothing written, every register at its cold reset value. -/
def State.reset : State := {}

end Sys2Proof.Machine
end

