-- ==== Sys2Proof/Machine/Ops.lean ====
section
/-! DEFINITION. The named operations over lanes, cores, registers, event queues and sequencers. -/

namespace Sys2Proof.Machine

/-- Ticks of the HTB in `n` µs (R123: one tick is 4 ns). -/
def us (n : Nat) : Nat := 250 * n

/-- Ticks of the HTB in `n` ms. -/
def ms (n : Nat) : Nat := 250000 * n

/-- Whether a deadline has been reached. -/
def due (d : Option Nat) (now : Nat) : Bool :=
  match d with
  | some t => decide (t ≤ now)
  | none => false

/-- A lane of the module. -/
def State.lane (s : State) : LaneId → Lane
  | .a => s.laneA
  | .b => s.laneB

/-- Change a lane. -/
def State.modLane (s : State) (l : LaneId) (f : Lane → Lane) : State :=
  match l with
  | .a => { s with laneA := f s.laneA }
  | .b => { s with laneB := f s.laneB }

/-- Do the same in both lanes, Lane A first (the mirror of R20). -/
def State.both (s : State) (f : LaneId → State → State) : State := f .b (f .a s)

/-- A core of a lane. -/
def State.core (s : State) (l : LaneId) (c : Nat) : Core := tget (s.lane l).cores c

/-- Change a core. -/
def State.modCore (s : State) (l : LaneId) (c : Nat) (f : Core → Core) : State :=
  s.modLane l fun x => { x with cores := tmod x.cores c f }

/-- The outcome of a command that completes. -/
def nxt (s : State) : Out := .next s

/-- The value the model leaves open next, counted by the model's own counter. -/
def State.takeFree (s : State) : Nat × State := (s.freeCtr, { s with freeCtr := s.freeCtr + 1 })

/-! ### Registers -/

/-- The addresses whose register each lane holds for itself (R47). The registers that the sequencers hold read the same
in both lanes (R217, R228), as do SYS.WAKECFG and SYS.BENCHCFG (R557). The high half of a latched pair in a shared engine is
latched for the lane that read the low half. -/
def laneHeld (a : Nat) : Bool :=
  let b := blockOf a
  let off := a - b.base
  if off = 0x00C then true
  else match b with
    | .hal => decide (off ≠ 0x014)
    | .evt | .lpe => true
    | .hst => decide (off = 0x000 ∨ (0x048 ≤ off ∧ off < 0x05C))
    | .sys => decide (off ≠ 0x03C ∧ off ≠ 0x044 ∧ off < 0x100)
    | .ddv => decide (off = 0x000 ∨ (0x200 ≤ off ∧ off < 0x280))
    | .pvc | .lsw => decide (off = 0x000)
    | .tim => decide (0x014 ≤ off ∧ off < 0x030)
    | .cfg => decide (off = 0x01C ∨ off = 0x024 ∨ off = 0x02C)
    | .recd => decide (off = 0x014 ∨ off = 0x01C ∨ off = 0x024 ∨ off = 0x02C)
    | .snt => decide (0x100 ≤ off ∧ off < 0x400 ∧ off % 0x20 = 8)
    | .ser => decide (0x400 ≤ off ∧ off < 0x440 ∧ (off % 0x20 = 4 ∨ off % 0x20 = 0xC ∨ off % 0x20 = 0x10))
    | .fus => decide (0x100 ≤ off ∧ off < 0x500 ∧ off % 0x40 = 0x30)
    | .pcl => decide (off = 0xA4 ∨ off = 0xAC ∨ (0x200 ≤ off ∧ off < 0x500 ∧ off % 0x40 = 0x18))
    | _ => false

/-- The raw value of a register. -/
def rget (s : State) (l : LaneId) (a : Nat) : Nat :=
  match tfind (if laneHeld a then (s.lane l).regs else s.sregs) a with
  | some w => w.toNat
  | none => resetAt a

/-- Store a raw register value. -/
def rset (s : State) (l : LaneId) (a : Nat) (v : Nat) : State :=
  if laneHeld a then s.modLane l fun x => { x with regs := tset x.regs a (u32 v) }
  else { s with sregs := tset s.sregs a (u32 v) }

/-- A field [hi:lo] of a register. -/
def rfld (s : State) (l : LaneId) (a hi lo : Nat) : Nat := rget s l a / 2 ^ lo % 2 ^ (hi + 1 - lo)

/-- A bit of a register. -/
def rbit (s : State) (l : LaneId) (a i : Nat) : Bool := rfld s l a i i == 1

/-- Bits [hi:lo] of a number. -/
def nfld (w hi lo : Nat) : Nat := w / 2 ^ lo % 2 ^ (hi + 1 - lo)

/-- One bit of a number. -/
def nbit (w i : Nat) : Bool := nfld w i i == 1

/-- A number with bits [hi:lo] replaced. -/
def nset (w hi lo v : Nat) : Nat :=
  w % 2 ^ lo + (v % 2 ^ (hi + 1 - lo)) * 2 ^ lo + (w / 2 ^ (hi + 1)) * 2 ^ (hi + 1)

/-- Store a field of a register. -/
def rsetf (s : State) (l : LaneId) (a hi lo v : Nat) : State := rset s l a (nset (rget s l a) hi lo v)

/-- Set a bit of a register. -/
def rsetb (s : State) (l : LaneId) (a i : Nat) (b : Bool) : State := rsetf s l a i i (b2n b)

/-- Add to a counting field, saturating. -/
def rcount (s : State) (l : LaneId) (a hi lo n : Nat) : State :=
  rsetf s l a hi lo (min (rfld s l a hi lo + n) (2 ^ (hi + 1 - lo) - 1))

/-- Add to a 32-bit count that wraps. -/
def rwrap (s : State) (l : LaneId) (a n : Nat) : State := rset s l a (rget s l a + n)

/-- A register of a shared engine. -/
def sget (s : State) (b : Block) (off : Nat) : Nat := rget s .a (b.base + off)

/-- Store a register of a shared engine. -/
def sput (s : State) (b : Block) (off v : Nat) : State := rset s .a (b.base + off) v

/-- A field of a register of a shared engine. -/
def sfld (s : State) (b : Block) (off hi lo : Nat) : Nat := rfld s .a (b.base + off) hi lo

/-- Store a field of a register of a shared engine. -/
def sputf (s : State) (b : Block) (off hi lo v : Nat) : State := rsetf s .a (b.base + off) hi lo v

/-- Set a bit of a register of a shared engine. -/
def sputb (s : State) (b : Block) (off i : Nat) (v : Bool) : State := rsetb s .a (b.base + off) i v

/-- Count in a register of a shared engine, saturating at 32 bits. -/
def scount (s : State) (b : Block) (off n : Nat) : State := rcount s .a (b.base + off) 31 0 n

/-! ### Rejected commands -/

/-- REJ_REASON codes of R17. -/
def rSTATE : Nat := 1
/-- LOCKED of R17. -/
def rLOCKED : Nat := 2
/-- NOT_OWNER of R17. -/
def rNOTOWNER : Nat := 3
/-- RANGE of R17. -/
def rRANGE : Nat := 4
/-- BUSY of R17. -/
def rBUSY : Nat := 5

/-- Record a rejected write in the writing lane's CMDERR (R14–R16). -/
def reject (s : State) (l : LaneId) (b : Block) (off reason : Nat) : State :=
  let w := rget s l (b.base + 0x00C)
  let n := min (nfld w 23 16 + 1) 255
  rset s l (b.base + 0x00C) (2 ^ 31 + n * 2 ^ 16 + off / 4 % 256 * 2 ^ 8 + reason % 256)

/-! ### Event queues -/

/-- The entries of a queue that TAKE, COUNT and the waits see: those before the first hidden one (R95). -/
def visible (q : List EvEntry) : List EvEntry := q.takeWhile fun e => !e.hidden

/-- A posting dropped at a core: LOST and OVF (R93). -/
def Core.drop (c : Core) : Core := { c with lost := min (c.lost + 1) 255, ovf := true }

/-- A hardware posting reaches a core (R90, R93, R96): a stopped or halted core drops it, a full queue drops it; the
64th slot takes LANE postings (SRC 0x02) only. -/
def Core.post (c : Core) (e : EvEntry) : Core :=
  match c.run with
  | .stopped | .halted => c.drop
  | _ => if c.evq.length < (if e.src = 2 then 64 else 63) then { c with evq := c.evq ++ [e] } else c.drop

/-- A hardware posting to a core of a lane. -/
def postCore (s : State) (l : LaneId) (c : Nat) (e : EvEntry) : State := s.modCore l c fun x => x.post e

/-- Whether a posting goes before another of the same instant: by SRC, then by ARG (R92). -/
def EvEntry.before (e f : EvEntry) : Bool := decide (e.src < f.src ∨ (e.src = f.src ∧ e.arg ≤ f.arg))

/-- A posting among those of its instant. -/
def EvEntry.insert (e : EvEntry) : List EvEntry → List EvEntry
  | [] => [e]
  | f :: q => if e.before f then e :: f :: q else f :: e.insert q

/-- The postings of one instant in the order in which they enter a queue (R92); those of one SRC and ARG keep theirs. -/
def inOrder (q : List EvEntry) : List EvEntry := q.foldr EvEntry.insert []

/-- Whether a core runs: it is running or waits. -/
def Core.isRunning (c : Core) : Bool := c.run == .running || c.run == .waiting

/-- A LANE posting to every running core of a lane (R91). -/
def postRunning (s : State) (l : LaneId) (code arg data : Nat) : State :=
  (List.range 8).foldl (fun s c => if (s.core l c).isRunning then postCore s l c ⟨2, code, arg, data, false⟩ else s) s

/-- Work in which several sources post in one instant: at each core the postings enter in the order of R92. -/
def atOnce (f : State → State) (s : State) : State :=
  let t := f (s.both fun l s => s.modLane l fun x => { x with cores := tmap x.cores fun _ c => { c with evq := [], lost := 0, ovf := false } })
  t.both fun l t => t.modLane l fun x => { x with cores := tmap x.cores fun n c =>
    let o := s.core l n
    let c' := (inOrder c.evq).foldl (fun y e => y.post e) { c with evq := o.evq, lost := o.lost, ovf := o.ovf }
    { c' with lost := if c.lost = 0 then c'.lost else min (c'.lost + c.lost) 255, ovf := c'.ovf || c.ovf } }

/-- Bits [27:16] of a block base: the ARG of its postings (R89) and the origin of its records (R480). -/
def Block.arg (b : Block) : Nat := b.base / 65536 % 4096

/-- A posting of the output stages (SRC 0x06): to the core of each lane's own CTRL.EVCORE when its EVEN is set (R216,
R242). -/
def postOut (s : State) (b : Block) (code arg data : Nat) : State :=
  s.both fun l s =>
    if rbit s l b.base 0 then postCore s l (rfld s l b.base 10 8) ⟨6, code, arg, data % 2 ^ 32, false⟩ else s

/-- A posting of a shared engine to the core of its CTRL.EVCORE in each lane (R89, mirrored under R20). -/
def postEngineRaw (s : State) (b : Block) (code data : Nat) : State :=
  let c := sfld s b 0 10 8
  s.both fun l s => postCore s l c ⟨3, code, b.arg, data % 2 ^ 32, false⟩

/-- The same, when CTRL.EVEN = 1. -/
def postEngine (s : State) (b : Block) (code data : Nat) : State :=
  if sfld s b 0 0 0 = 1 then postEngineRaw s b code data else s

/-! ### Ownership -/

/-- Whether a lane owns the shared engines (R13, R33). -/
def State.owns (s : State) (l : LaneId) : Bool := s.sup.engOwner == l

/-- Whether a shared engine has a hard fault (R27). -/
def State.faulty (s : State) (b : Block) : Bool := tget s.hardflt b.base

/-! ### Sequencers -/

/-- A sequencer. -/
def State.seq (s : State) (n : Nat) : Seq := tget s.seqs n

/-- Change a sequencer. -/
def State.modSeq (s : State) (n : Nat) (f : Seq → Seq) : State := { s with seqs := tmod s.seqs n f }

/-! ### Clocks -/

/-- The local clock as the 64-bit nanosecond count of R340. -/
def localCount (s : State) : Nat := s.tim.count / 2 ^ 32 % 2 ^ 64

/-- The HTB count, 64 bits (R123). -/
def htb (s : State) : Nat := s.now % 2 ^ 64

/-- What the world gives a measuring point at an HTB instant since the present cold start (HTB starts at 0 there). -/
def senseAt (s : State) (a t : Nat) : Nat := (Config.sensed a s.recd.pcyc t).toNat

/-- What the world gives a measuring point now. -/
def sense (s : State) (a : Nat) : Nat := senseAt s a s.now

/-! ### DRAM and ring slots -/

/-- A GiB of DRAM (R45). -/
def State.gib (s : State) (g : Nat) : Memory := tget s.dram g

/-- Whether beat `b` of the 4 GiB holds one of the `n` bytes from `a` on of GiB `g`. -/
def beatIn (g a n b : Nat) : Bool :=
  b / 2 ^ 24 == g && decide (a < b % 2 ^ 24 * 64 + 64) && decide (b % 2 ^ 24 * 64 < a + n)

/-- A write of `n` bytes clears the uncorrectable errors of its beats (R466). -/
def DramQ.heal (q : DramQ) (g a n : Nat) : DramQ := { q with bad := q.bad.filter fun b => !beatIn g a n b }

/-- Write bytes into a GiB of DRAM. -/
def dramWrite (s : State) (g a : Nat) (bs : List Byte) : State :=
  { s with dram := tmod s.dram g fun m => mwriteN m a bs, dq := s.dq.heal g a bs.length }

/-- A reader reads `n` bytes of a GiB of DRAM: the uncorrectable errors it meets there (R466). -/
def DramQ.meet (q : DramQ) (r : DramReader) (g a n : Nat) : DramQ :=
  { q with met := q.met ++ (q.bad.filter (beatIn g a n)).map fun b => (r, b) }

/-- The same in the state. -/
def dramMeet (s : State) (r : DramReader) (g a n : Nat) : State := { s with dq := s.dq.meet r g a n }

/-- Read bytes of a GiB of DRAM. -/
def dramRead (s : State) (g a n : Nat) : List Byte := mreadN (s.gib g) a n

/-- An engine writes one record into a ring whose registers BASE, SIZE, WP, RP, NOTIFY, DROP stand at `r` (R255). With
SIZE − 1 records unread the record is dropped and DROP counts. `mk` forms the record's bytes from "a record was dropped
just before". The answer says whether the record was written, and whether the unread count reached NOTIFY. -/
def ringPut (s : State) (r esz : Nat) (mk : Bool → List Byte) : State × Bool × Bool :=
  let size := rfld s .a (r + 4) 16 0
  let wp := rfld s .a (r + 8) 15 0
  let rp := rfld s .a (r + 0xC) 15 0
  if size = 0 then (s, false, false)
  else
    let unread := (wp + size - rp % size) % size
    if unread + 1 ≥ size then
      ({ rcount s .a (r + 0x14) 31 0 1 with ringDrop := tset s.ringDrop r true }, false, false)
    else
      let s := dramWrite s 0 (rget s .a r + esz * wp) (mk (tget s.ringDrop r))
      let s := { rset s .a (r + 8) ((wp + 1) % size) with ringDrop := tset s.ringDrop r false }
      let notify := rfld s .a (r + 0x10) 16 0
      (s, true, decide (notify ≠ 0 ∧ unread + 1 = notify))

/-- Unread records of a ring. -/
def ringUnread (s : State) (r : Nat) : Nat :=
  let size := rfld s .a (r + 4) 16 0
  if size = 0 then 0 else (rfld s .a (r + 8) 15 0 + size - rfld s .a (r + 0xC) 15 0 % size) % size

/-- Whether a ring takes a record: SIZE − 1 records are not yet unread. -/
def ringRoom (s : State) (r : Nat) : Bool := decide (ringUnread s r + 1 < rfld s .a (r + 4) 16 0)

/-- CTRL.FREEZE of the fabric. -/
def fabFreeze (s : State) : Bool := sfld s .fab 0 1 1 == 1
/-- Whether a freeze holds a requester (R476). -/
def rqFrozen (s : State) (n : Nat) : Bool := fabFreeze s && nbit (sget s .fab 0x10) n
/-- Whether the fabric grants a requester nothing (R476, R477). -/
def rqBlocked (s : State) (n : Nat) : Bool := s.faulty .fab || rqFrozen s n

/-- What a record's writing into its ring brings with it, from the state before it and what `ringPut` answered. -/
def ringThen (s : State) (w : RingRec) (p : State × Bool × Bool) : State :=
  match w.use with
  | .notify b code tag sh => if p.2.2 then postEngine p.1 b code (tag + ringUnread p.1 w.ring * 2 ^ sh) else p.1
  | .hsi bit code =>
    if p.2.2 then postEngine p.1 .hsi code (ringUnread p.1 w.ring)
    else if p.2.1 || rfld s .a (w.ring + 4) 16 0 == 0 || sfld s .hsi 4 bit bit == 1 then p.1
    else postEngine (sputb p.1 .hsi 4 bit true) .hsi 5 bit
  | .fus count => if p.2.1 then postEngine p.1 .fus 1 (sget s .fus 0x58 % 64 + count * 2 ^ 16) else p.1
  | .ser n =>
    let t := if !p.2.1 ∧ rfld s .a (w.ring + 4) 16 0 ≠ 0 then rsetb p.1 .a (Block.ser.base + 0x104 + 0x40 * n) 19 true else p.1
    if p.2.2 then postEngine t .ser 1 (n + ringUnread t w.ring * 2 ^ 16) else t

/-- A record goes into its ring now, or is dropped. -/
def ringNow (s : State) (w : RingRec) : State :=
  ringThen s w (ringPut s w.ring w.esz fun drop => if drop then w.after else w.fresh)

/-- Whether a record of a requester has to wait: the fabric grants it nothing, or earlier records of it wait (R476, R477). -/
def ringHeld (s : State) (n : Nat) : Bool := rqBlocked s n || s.dq.wait.any fun v => v.rq == n

/-- An engine writes a record into its ring (R255). DESIGN CHOICE: while the fabric holds its requester the record waits, and
finds its place in the ring, or none, when the DRAM takes it. -/
def ringSend (s : State) (w : RingRec) : State :=
  if ringHeld s w.rq then { s with dq := { s.dq with wait := s.dq.wait ++ [w] } } else ringNow s w

/-! ### Writes of shared engines -/

/-- A write to a shared engine: from a lane that does not own it rejected with NOT_OWNER (R13), after a hard fault
rejected with BUSY (R27), else acted on. -/
def gated (s : State) (l : LaneId) (b : Block) (off : Nat) (k : State → State) : State :=
  if !s.owns l then reject s l b off rNOTOWNER
  else if s.faulty b then reject s l b off rBUSY
  else k s

end Sys2Proof.Machine
end

