-- ==== Sys2Proof/Machine/ModeWord.lean ====
section
/-! DEFINITION. The mode word (spec/19 R556), and how a command ends: what it did, with MSEQ advanced when an axis
changed. -/

namespace Sys2Proof.Machine

/-- A bit of a shared register whose bit resets to 0. -/
def regBit (s : State) (a i : Nat) : Bool :=
  match tfind s.sregs a with
  | some w => nbit w.toNat i
  | none => false

/-- Whether some context of the active lane is in a state (CSTATc.STATE; contexts reset to OFF). -/
def someContext (s : State) (st : Nat) : Bool :=
  (s.lane s.sup.active).regs.any fun p =>
    decide (Block.lpe.base + 0x1000 ≤ p.1 ∧ p.1 < Block.lpe.base + 0x1800) && nfld p.2.toNat 2 0 == st

/-- Whether some CAN channel satisfies a condition on its number and mode. -/
def someChannel (s : State) (f : Nat → Nat → Bool) : Bool :=
  (List.range 16).any fun n => f n (tget s.bus.can n).mode

/-- CFG.EN of a CAN channel. -/
def canEnabled (s : State) (n : Nat) : Bool := regBit s (Block.can.base + 0x1000 + 0x1000 * n) 31

/-- The level-0 role as HST shows it. -/
def roleShown (s : State) : Nat := if regBit s (Block.hst.base + 0x100) 31 then (tget s.hst.levels 0).role else 0

/-- The code of a recorder state. -/
def RecState.code : RecState → Nat
  | .recording => 0
  | .frozen => 1
  | .flushing => 2

/-- The fields of MODEWORD below MSEQ, from bit 0 up, each with its width. -/
def modeFields (s : State) : List (Nat × Nat) :=
  [(2, s.sup.modMode.code), (2, s.sup.laneMode.code), (2, s.fus.state.code), (2, s.recd.state.code),
   (1, b2n (regBit s Block.recd.base 1)), (2, s.tim.cstate.code), (2, roleShown s), (2, s.pnl.st.code), (2, s.sup.power.code),
   (1, b2n (someChannel s fun n m => canEnabled s n && m != 0)), (1, b2n (someChannel s fun n m => canEnabled s n && m == 4)),
   (1, b2n (someChannel s fun n _ => regBit s (Block.can.base + 0x1018 + 0x1000 * n) 31)),
   (1, b2n (someContext s 4)), (1, b2n (someContext s 3)), (1, b2n (someContext s 1))]

/-- Fields side by side, the first at the bottom. -/
def packFields : List (Nat × Nat) → Nat
  | [] => 0
  | (w, v) :: t => v % 2 ^ w + 2 ^ w * packFields t

/-- SYS.MODEWORD (R556). -/
def modeWord (s : State) : Nat := packFields (modeFields s) % 2 ^ 23 + s.sup.mseq % 256 * 2 ^ 24

/-- MSEQ after a command: one more when a field of the mode word changed (R556). A module that is off, or that a cold start has
just begun, holds its reset value. -/
def modeStep (s t : State) : State :=
  if t.sup.phase = .off ∨ t.recd.pcyc ≠ s.recd.pcyc then t
  else { t with sup := { t.sup with
    mseq := if modeFields s = modeFields t then s.sup.mseq else (s.sup.mseq + 1) % 256 } }

/-- Whether lanes and engines stand still: the module is off, or parked (R550 step 4). -/
def State.dark (s : State) : Bool := s.sup.phase == .off || s.sup.phase == .parked

/-- Whether the lanes run: between a start and the next, or PARK step 4. -/
def State.lanesUp (s : State) : Bool := s.sup.phase == .running || s.sup.phase == .parking

/-- A lane that was `x` after work of the engines that made it `y`: the work does not change its epoch, whether it is healthy, ready
or struck, nor its last heartbeat (R33, R37, R22), and starts no core while the lanes stand still (R118). -/
def keepLane (up : Bool) (x y : Lane) : Lane :=
  { y with
    epoch := x.epoch, live := x.live, ready := x.ready, struck := x.struck, beat := x.beat
    cores := if up then y.cores else if y.cores = x.cores then y.cores
      else tmap y.cores fun n c => { c with run := (tget x.cores n).run } }

/-- The state after work of the engines that made `s` into `t`: the queue, the HTB (R123) and the supervisor's state are none of
theirs, but for the sequencers' mismatch registers (R48). -/
def keep (s t : State) : State :=
  { t with
    pending := s.pending
    now := s.now
    sup := { s.sup with miscnt := t.sup.miscnt, misWord := t.sup.misWord, misSeq := t.sup.misSeq }
    laneA := keepLane s.lanesUp s.laneA t.laneA
    laneB := keepLane s.lanesUp s.laneB t.laneB }

/-- Work of the engines. -/
def State.work (s : State) (f : State → State) : State := keep s (f s)

/-- The end of a command of the supervisor: the queue is none of its business. -/
def closed (s t : State) : State := modeStep s { t with pending := s.pending }

/-- How a command of the engines ends that did `t` to `s`: while the module is off or parked it does nothing. -/
def act (s t : State) : Out := .next (if s.dark then s else modeStep s (keep s t))

/-- How a command of the lanes' own hardware ends: while the lanes stand still it does nothing. -/
def actL (s t : State) : Out := .next (if s.lanesUp then modeStep s (keep s t) else s)

/-- How a command ends that may change the supervisor's state. -/
def actSup (s t : State) : Out := .next (closed s t)

/-- The same, while the module is neither off nor parked. -/
def actOn (s t : State) : Out := .next (if s.dark then s else closed s t)

/-- The same, while the lanes run. -/
def actUp (s t : State) : Out := .next (if s.lanesUp then closed s t else s)

end Sys2Proof.Machine
end

