-- ==== Sys2Proof/Machine/Recorder.lean ====
section
/-! DEFINITION. The event recorder (spec/16). -/

namespace Sys2Proof.Machine

/-- The record codes whose entry starts a flush (R482). -/
def flushClass (code : Nat) : Bool := [0x1, 0x4, 0x10, 0x11, 0x20, 0x40, 0x41].contains code

/-- The hardware record codes of R482. -/
def hwCode (code : Nat) : Bool :=
  [0x1, 0x2, 0x3, 0x4, 0x10, 0x11, 0x12, 0x13, 0x20, 0x30, 0x40, 0x41, 0x42].contains code

/-- Whether CTRL.LEGACY is set (R481). -/
def recLegacy (s : State) : Bool := sfld s .recd 0 1 1 == 1

/-- The 64 bytes of a record (R480). -/
def recBytes (s : State) (code origin : Nat) (data : List Byte) : List Byte :=
  let stamp := if recLegacy s then s.recd.ophrs % 2 ^ 32 + s.recd.pcyc % 2 ^ 24 * 2 ^ 32 else s.recd.seq % 2 ^ 48
  let flags := b2n (recLegacy s) + 2 * b2n (flushClass code) + 4 * s.tim.cstate.code
  leBytes 8 stamp ++ leBytes 2 code ++ leBytes 2 origin ++ leBytes 1 flags ++ leBytes 3 0 ++ leBytes 8 (localCount s) ++
    sliceB data 0 40

/-- A flush starts (R485), or is pending while one runs: start conditions of one cycle start a single flush. -/
def recStartFlush (s : State) : State :=
  let start : State := { s with recd := { s.recd with state := .flushing, flushTo := s.recd.next, flushStart := s.now } }
  match s.recd.state with
  | .recording => start
  | .flushing => if s.recd.flushStart = s.now then start else { s with recd := { s.recd with flushPend := true } }
  | .frozen => { s with recd := { s.recd with flushPend := true } }

/-- A record enters both buffers: it takes the next SEQ, reserving a block of 4,096 when none is left (R481), and the
next SIDX (R485); it may start a flush. -/
def recPut (s : State) (code origin : Nat) (data : List Byte) : State :=
  let r := s.recd
  let bytes := recBytes s code origin data
  let r := { r with
    bufA := tset r.bufA r.next bytes, bufB := tset r.bufB r.next bytes, seq := (r.seq + 1) % 2 ^ 48,
    seqEnd := if r.seqEnd ≤ r.seq then r.seq + 4096 else r.seqEnd, next := r.next + 1 }
  let s := { s with recd := r }
  if flushClass code || r.next - r.flushed == 6144 then recStartFlush s else s

/-- The tally of a record that is not stored (R487): a code beyond the first 8 counts in the total alone. -/
def recTally (r : Recorder) (code : Nat) : Recorder :=
  let r := { r with total := min (r.total + 1) (2 ^ 32 - 1) }
  if r.tally.any fun p => p.1 == code then
    { r with tally := r.tally.map fun p => if p.1 == code then (p.1, min (p.2 + 1) 65535) else p }
  else if r.tally.length < 8 then
    { r with tally := r.tally ++ [(code, 1)], distinct := min (r.distinct + 1) 65535 }
  else { r with more := true }

/-- DATA of a GAP record (R488). -/
def gapData (r : Recorder) (full holdup : Bool) : List Byte :=
  leBytes 4 r.total ++ leBytes 2 r.distinct ++ leBytes 1 (b2n r.more + 2 * b2n full + 4 * b2n holdup) ++ leBytes 1 0 ++
    (r.tally.map fun p => leBytes 4 (p.1 + p.2 * 65536)).flatten

/-- The GAP record is written and the tallies start afresh (R488). -/
def recGap (s : State) (full holdup : Bool) : State :=
  let d := gapData s.recd full holdup
  let s := { s with recd := { s.recd with total := 0, distinct := 0, more := false, tally := [], full := false } }
  recPut s 2 Block.recd.arg d

/-- A record is tallied and not stored (R486, R487). -/
def recLose (s : State) (code : Nat) : State :=
  let r := recTally s.recd code
  { s with recd := { r with flushPend := r.flushPend || flushClass code } }

/-- A record that finds room enters, any other is tallied and counted (R486). DESIGN CHOICE: FULL is posted by the record that
sets STAT.FULL. -/
def recEnter (s : State) (code origin : Nat) (data : List Byte) : State :=
  if s.recd.next - s.recd.flushed ≥ 8192 then
    let was := s.recd.full
    let s := recLose s code
    let s := scount { s with recd := { s.recd with full := true } } .recd 0x070 1
    if was then s else postEngine s .recd 4 (min (sget s .recd 0x070) 65535)
  else recPut s code origin data

/-- A record reaches the recorder (R481, R486, R487): nothing after a hard fault (R494); tallied while FROZEN; else it enters,
after a GAP record when some were lost to a full buffer that has room again. -/
def recSubmit (s : State) (code origin : Nat) (data : List Byte) : State :=
  if s.faulty .recd then s
  else match s.recd.state with
    | .frozen => recLose s code
    | _ => recEnter (if s.recd.full && decide (s.recd.next - s.recd.flushed < 8192) then recGap s true false else s) code origin data

/-- A hardware record of a block, formed for a lane (R480). -/
def record (s : State) (l : LaneId) (b : Block) (code : Nat) (data : List Byte) : State :=
  recSubmit s code (b.arg + 4096 * l.num) data

/-- The freeze ends (R488): the GAP record, then a flush when one is pending. -/
def recThaw (s : State) (holdup : Bool) : State :=
  let pend := s.recd.flushPend
  let s := { s with recd := { s.recd with state := .recording, frozenUntil := none, flushPend := false } }
  let s := recGap s s.recd.full holdup
  if pend then recStartFlush s else s

/-- A hard fault of a shared engine (R27): its status, an ENGFAULT record, code 0xFF to the core of CTRL.EVCORE (core 0
where CTRL has no such field) in each lane whatever EVEN holds. The record is formed before the fault stops REC. -/
def hardFault (s : State) (b : Block) (code : Nat) : State :=
  if s.faulty b then s
  else
    let s := record s s.sup.active b 0x20 (leBytes 4 b.arg ++ leBytes 4 code)
    postEngineRaw { s with hardflt := tset s.hardflt b.base true } b 0xFF code

/-- RECORD_ENTER: a hardware record with the given code, origin and DATA reaches the recorder (R481). Codes that no
hardware record carries do not occur. -/
def execRecordEnter (l : LaneId) (code : BitVec 16) (origin : BitVec 12) (data : BitVec 320) (s : State) : Out :=
  act s (if hwCode code.toNat then recSubmit s code.toNat (origin.toNat + 4096 * l.num) (leBytes 40 data.toNat) else s)

/-- The words PWBUF0–PWBUF9 of a core, as record DATA (R483). -/
def pwData (c : Core) : List Byte := ((List.range 10).map fun k => leBytes 4 (tget c.pwbuf k).toNat).flatten

/-- A write of PWCMD (R483). -/
def recPwcmd (s : State) (l : LaneId) (c v : Nat) : State :=
  gated s l .recd 0x128 fun s =>
    let code := v % 65536
    if code < 0x8000 then reject s l .recd 0x128 rRANGE
    else recSubmit s code (0xFFF + 4096 * l.num + 8192 * c) (pwData (s.core l c))

/-- PWCMD (R483). -/
def execPwcmd (l : LaneId) (c : Fin 8) (v : Word) (s : State) : Out := act s (recPwcmd s l c v.toNat)

/-- CMD FLUSH (R485). While FROZEN no flush begins; the start condition stays pending (R487). -/
def recFlush (s : State) (l : LaneId) : State := gated s l .recd 8 recStartFlush

/-- REC_FLUSH (R485). -/
def execRecFlush (l : LaneId) (s : State) : Out := act s (recFlush s l)

/-- The records of a buffer below an index leave it. -/
def recDrop (t : Tab (List Byte)) (n : Nat) : Tab (List Byte) := t.filter fun p => n ≤ p.1

/-- A lane's buffer. -/
def Recorder.buf (r : Recorder) : LaneId → Tab (List Byte)
  | .a => r.bufA
  | .b => r.bufB

/-- The record of an index as a flush reads it (R485): from the active lane's buffer, with an uncorrectable error there from the other
one. -/
def recFetch (s : State) (i : Nat) : Option (List Byte) :=
  let l := s.sup.active
  tfind (s.recd.buf (if Config.recordBad l.num i s.recd.pcyc s.now then l.other else l)) i

/-- A flush ends (R485): the records from FLUSHED up to where it began reach the store, the oldest ones give way when
the store is full; with room again in a buffer that was full the GAP record is written (R486), and a pending flush begins. -/
def recFlushEnd (s : State) : State :=
  let r := s.recd
  let moved := ((List.range (r.flushTo - r.flushed)).map (r.flushed + ·)).filterMap fun i => (recFetch s i).map fun b => (i, b)
  let store := moved.foldl (fun t p => tset t p.1 p.2) r.store
  let oldest := max r.oldest (r.flushTo - 16777216)
  let n := r.flushTo - r.flushed
  let pend := r.flushPend
  let s := { s with recd := { r with
    store := recDrop store oldest, oldest := oldest, flushed := r.flushTo, bufA := recDrop r.bufA r.flushTo,
    bufB := recDrop r.bufB r.flushTo, state := .recording, flushPend := false } }
  let s := rwrap s .a (Block.recd.base + 0x074) 1
  let s := sput s .recd 0x078 (min ((s.now - r.flushStart) / 250) 65535)
  let s := postEngine s .recd 2 n
  let s := if s.recd.full && decide (s.recd.next - s.recd.flushed < 8192) then recGap s true false else s
  if pend then recStartFlush s else s

/-- FLUSH_DONE: a running flush completes (R485). -/
def execFlushDone (s : State) : Out :=
  act s (if s.recd.state == .flushing && !s.faulty .recd then recFlushEnd s else s)

/-- CMD FREEZE (R490): legal in RECORDING only. -/
def recFreeze (s : State) (l : LaneId) : State :=
  gated s l .recd 8 fun s => match s.recd.state with
    | .flushing => reject s l .recd 8 rBUSY
    | .frozen => reject s l .recd 8 rSTATE
    | .recording =>
      { s with recd := { s.recd with state := .frozen, frozenUntil := some (s.now + ms (1000 * sfld s .recd 0x3C 15 0)) } }

/-- REC_FREEZE (R490). -/
def execRecFreeze (l : LaneId) (s : State) : Out := act s (recFreeze s l)

/-- CMD THAW (R488, R490): legal in FROZEN only. -/
def recThawCmd (s : State) (l : LaneId) : State :=
  gated s l .recd 8 fun s => if s.recd.state == .frozen then recThaw s false else reject s l .recd 8 rSTATE

/-- THAW (R488). -/
def execThaw (l : LaneId) (s : State) : Out := act s (recThawCmd s l)

/-- FREEZE_TIMEOUT: FRZTMO seconds after the freeze it ends (R488). -/
def execFreezeTimeout (s : State) : Out :=
  act s (if s.recd.state == .frozen && due s.recd.frozenUntil s.now && !s.faulty .recd then recThaw s false else s)

/-- CMD READ (R491). -/
def recReadCmd (s : State) (l : LaneId) : State :=
  gated s l .recd 8 fun s =>
    let idx := sget s .recd 0x40 + sget s .recd 0x44 * 2 ^ 32
    let cnt := sfld s .recd 0x4C 8 0
    if s.recd.read.isSome then reject s l .recd 8 rBUSY
    else if idx < s.recd.oldest ∨ s.recd.next < idx + cnt ∨ cnt = 0 ∨ 256 < cnt then reject s l .recd 8 rRANGE
    else { s with recd := { s.recd with read := some ⟨idx, cnt, sget s .recd 0x48⟩ } }

/-- REC_READ (R491). -/
def execRecRead (l : LaneId) (s : State) : Out := act s (recReadCmd s l)

/-- The 64 bytes at a store index: from the store below FLUSHED, from the active lane's buffer above; `none` when the
record is no longer there. -/
def recAt (s : State) (i : Nat) : Option (List Byte) :=
  if i < s.recd.oldest then none
  else if i < s.recd.flushed then tfind s.recd.store i
  else tfind (s.recd.buf s.sup.active) i

/-- Bytes that the spec leaves open. -/
def freeBytes (ctr n : Nat) : List Byte := (List.range n).map fun k => Config.freeByte (ctr + k)

/-- The copy of a READ into GiB 0: from a record on that the store overwrote meanwhile the bytes are unreliable (R491). -/
def recCopy (s : State) (r : RecRead) : State :=
  (List.range r.cnt).foldl (fun s k => match (if r.idx < s.recd.oldest then none else recAt s (r.idx + k)) with
    | some b => dramWrite s 0 (r.buf + 64 * k) b
    | none => dramWrite { s with freeCtr := s.freeCtr + 64 } 0 (r.buf + 64 * k) (freeBytes s.freeCtr 64)) s

/-- READ_DONE: the copy of a READ is complete and READ_DONE is posted (R491, R495); not while the fabric grants REC, or for records
of the store the NAND controller, nothing (R476, R477). -/
def execReadDone (s : State) : Out :=
  act s (match s.recd.read with
    | none => s
    | some r =>
      if s.faulty .recd ∨ rqBlocked s 11 ∨ (r.idx < s.recd.flushed ∧ rqBlocked s 13) then s
      else
        let ovr := decide (r.idx < s.recd.oldest)
        let s := recCopy s r
        postEngine { s with recd := { s.recd with read := none } } .recd 1 (r.cnt + b2n ovr * 2 ^ 17))

/-- OPHRS_TICK: OPHRS advances once for every 36 s of powered time (R481). -/
def execOphrsTick (s : State) : Out :=
  .next (if s.sup.phase != .off && decide (s.recd.ophrsFrac + ms 36000 ≤ s.now) then
    { s with recd := { s.recd with ophrs := (s.recd.ophrs + 1) % 2 ^ 32, ophrsFrac := s.recd.ophrsFrac + ms 36000 } } else s)

/-- What HOLD-UP and PARK do to the recorder (R489, R550): a freeze is lifted with its GAP record, then the given
record if any, and a flush begins; a READ is abandoned and READ_DONE posted with its aborted bit. DESIGN CHOICE: an abandoned
READ has copied no record. -/
def recHoldup (s : State) (k : State → State) : State :=
  if s.faulty .recd then s
  else
    let s := match s.recd.read with
      | some _ => postEngine { s with recd := { s.recd with read := none } } .recd 1 (2 ^ 16)
      | none => s
    let s := if s.recd.state == .frozen then
        recGap { s with recd := { s.recd with state := .recording, frozenUntil := none, flushPend := false } }
          s.recd.full true
      else s
    recStartFlush (k s)

end Sys2Proof.Machine
end

