-- ==== Sys2Proof/Machine/RegOps.lean ====
section
/-! DEFINITION. A write to a register by its description: access codes (R9), LOCK (R12), ranges. -/

namespace Sys2Proof.Machine

/-- A field of a value. -/
def FieldDesc.get (f : FieldDesc) (v : Nat) : Nat := nfld v f.hi f.lo

/-- Whether a value is one that a write of the field may carry. -/
def FieldDesc.ok (f : FieldDesc) (v : Nat) : Bool :=
  f.ranges.isEmpty || f.ranges.any fun r => decide (r.1 ≤ f.get v ∧ f.get v ≤ r.2)

/-- The verdict on a write: LOCKED when the block is locked and an RWL field would change (R12), RANGE when the value a field
would take is outside its ranges (R17), else 0. A locked RWL field that the write carries unchanged takes none. -/
def RegDesc.judge (d : RegDesc) (locked : Bool) (old v : Nat) : Nat :=
  if locked && d.fields.any fun f => f.acc == .rwl && f.get v != f.get old then rLOCKED
  else if d.fields.any fun f => ((f.acc == .rwl && !locked) || f.acc == .rw) && !f.ok v then rRANGE
  else 0

/-- The register's value after a write with the given verdict: LOCKED leaves the RWL fields, any other rejection leaves
RW and RWL fields; W1C and W1S bits are acted on (R9, R12). -/
def RegDesc.apply (d : RegDesc) (rej old v : Nat) : Nat :=
  d.fields.foldl (fun w f => match f.acc with
    | .rw => if rej = 0 ∨ rej = rLOCKED then nset w f.hi f.lo (f.get v) else w
    | .rwl => if rej = 0 then nset w f.hi f.lo (f.get v) else w
    | .w1c => nset w f.hi f.lo (f.get w &&& (2 ^ (f.hi + 1 - f.lo) - 1 - f.get v))
    | .w1s => nset w f.hi f.lo (f.get w ||| f.get v)
    | .ro | .wo | .rc => w) old

/-- The value a write stores when every field takes what it carries: bits outside the fields are ignored (R5). -/
def RegDesc.mask (d : RegDesc) (v : Nat) : Nat := d.fields.foldl (fun w f => nset w f.hi f.lo (f.get v)) 0

/-- Whether a lane's block is locked (R12): bit 31 of CTRL, of SYSLOCK in SYS. -/
def isLocked (s : State) (l : LaneId) (b : Block) : Bool :=
  rbit s l (b.base + (match b with | .sys => 0x54 | _ => 0)) 31

/-- Whether a value is no byte offset in GiB 0 that is a multiple of `m` (R17). -/
def offsetBad (v m : Nat) : Bool := decide (v % m ≠ 0 ∨ 2 ^ 30 ≤ v)

/-- The verdict on a lane's write of a register by its description alone. -/
def regVerdict (s : State) (l : LaneId) (b : Block) (off v : Nat) : Nat :=
  match b.descAt off with
  | some d => d.judge (isLocked s l b) (rget s l (b.base + off)) v
  | none => 0

/-- Carry out a write by the register's description with a given verdict. -/
def regStore (s : State) (l : LaneId) (b : Block) (off v rej : Nat) : State :=
  match b.descAt off with
  | some d => rset s l (b.base + off) (d.apply rej (rget s l (b.base + off)) v)
  | none => s

/-- Carry out a write by the register's description, recording a rejection (R14). -/
def regPlain (s : State) (l : LaneId) (b : Block) (off v : Nat) : State :=
  let rej := regVerdict s l b off v
  let s := regStore s l b off v rej
  if rej = 0 then s else reject s l b off rej

end Sys2Proof.Machine
end

