-- ==== Sys2Proof/Machine/Rings.lean ====
section
/-! DEFINITION. Writes of a ring's registers, shared by every block that holds rings (R255). -/

namespace Sys2Proof.Machine

/-- Whether a value lies beyond WP for the RP of a ring (R271). -/
def rpBad (s : State) (r v : Nat) : Bool :=
  let size := rfld s .a (r + 4) 16 0
  let rp := rfld s .a (r + 0xC) 15 0
  if size = 0 then v != rfld s .a (r + 8) 15 0
  else decide (size ≤ v ∨ ringUnread s r < (v + size - rp % size) % size)

/-- A write of register `k` (0 BASE, 4 SIZE, 8 WP, 0xC RP, 0x10 NOTIFY, 0x14 DROP) of the ring whose registers start at
`off` of a block, with records of `esz` bytes: a BASE off the record size or outside GiB 0 is out of
range, and so is an RP beyond WP. -/
def ringWrite (s : State) (l : LaneId) (b : Block) (off k esz v : Nat) : State :=
  gated s l b (off + k) fun s =>
    if k = 0 ∧ offsetBad v esz ∧ !isLocked s l b then reject s l b off rRANGE
    else if k = 0xC ∧ rpBad s (b.base + off) (v % 65536) then reject s l b (off + k) rRANGE
    else regPlain s l b (off + k) v

end Sys2Proof.Machine
end

