-- ==== Sys2Proof/Machine/Fusion.lean ====
section
/-! DEFINITION. Sources, lists, tracks and outputs of FUS (spec/11). -/

namespace Sys2Proof.Machine

/-- The offset of a register of source `n`. -/
def fsOff (n off : Nat) : Nat := 0x100 + 0x40 * n + off
/-- A register of source `n`. -/
def fsGet (s : State) (n off : Nat) : Nat := sget s .fus (fsOff n off)
/-- Change FUS. -/
def State.modFus (s : State) (f : FusSt → FusSt) : State := { s with fus := f s.fus }
/-- A source. -/
def State.fsrc (s : State) (n : Nat) : FSrc := tget s.fus.srcs n
/-- Change a source. -/
def State.modFsrc (s : State) (n : Nat) (f : FSrc → FSrc) : State := s.modFus fun x => { x with srcs := tmod x.srcs n f }
/-- RUN. -/
def fusRuns (s : State) : Bool := sfld s .fus 0 1 1 == 1
/-- Whether FUS stands still: a hard fault (R362), or HOLD-UP, which keeps the tracks (R363, R555). -/
def fusStands (s : State) : Bool := s.faulty .fus || s.sup.power == .holdup
/-- Whether FUS processes: HOLD-UP stops it (R363). -/
def fusWorks (s : State) : Bool := fusRuns s && s.sup.power != .holdup
/-- A signed register of a source. -/
def fsSigned (s : State) (n off : Nat) : Int := signed 32 (fsGet s n off)
/-- The pose of a source. -/
def fsMount (s : State) (n : Nat) : Mount := ⟨fsSigned s n 8, fsSigned s n 0xC, fsSigned s n 0x10, fsGet s n 0x14 % 65536⟩
/-- The ring of outputs. -/
def fusRing : Nat := Block.fus.base + 0x50

/-- The fusion state changes (R359, R364). -/
def fusState (s : State) (st : FState) : State :=
  if s.fus.state = st then s.modFus fun x => { x with entered := s.now }
  else postEngine (s.modFus fun x => { x with state := st, entered := s.now }) .fus 3 st.code

/-- The tracks are cleared (R359): with them goes what outputs say of them. -/
def fusClear (s : State) : State := s.modFus fun x => { x with tracks := [] }

/-- A source's clock state changes (R346, R364). -/
def srcState (s : State) (n : Nat) (c : FClk) : State :=
  if (s.fsrc n).clk = c then s
  else postEngine (s.modFsrc n fun x => { x with clk := c }) .fus 2 (n + c.code * 2 ^ 8)

/-! ### Units -/

/-- An object from its 64 bytes (R342); `none` when a reserved field is not 0. DESIGN CHOICE: a KIND or CLASS code that the
table does not list, and a CONF beyond Q15, count as such. -/
def parseObj (b : List Byte) : Option FObj :=
  let u (o n : Nat) : Nat := leAt b o n
  if 2 ≤ u 2 1 ∨ 7 < u 3 1 ∨ 32767 < u 4 2 ∨ 1 < u 6 2 ∨ (sliceB b 0x30 16).any (· ≠ 0) then none
  else some {
    free := u 2 1 == 1, cls := u 3 1, conf := u 4 2, stationary := u 6 2 == 1, x := signed 32 (u 8 4),
    y := signed 32 (u 0xC 4), z := signed 32 (u 0x10 4), vx := signed 32 (u 0x14 4), vy := signed 32 (u 0x18 4),
    len := u 0x1C 2, wid := u 0x1E 2, hgt := u 0x20 2, yaw := u 0x22 2, varx := u 0x24 4, vary := u 0x28 4,
    varv := u 0x2C 4 }

/-- A unit's header fields and objects (R341, R344); `none` when the unit is discarded. DESIGN CHOICE:
a reserved FRAME code and an NOBJ beyond 128 count as a reserved field that is not 0, and so does a unit shorter than its COUNT
says. -/
def parseUnit (srcid : Nat) (b : List Byte) : Option (FAsm × Nat × List FObj) :=
  let u (o n : Nat) : Nat := leAt b o n
  let cnt := u 8 1
  let whole := b.take 0x2C ++ leBytes 4 0 ++ (b.drop 0x30).take (64 * cnt)
  let objs := (List.range cnt).map fun i => parseObj (sliceB b (48 + 64 * i) 64)
  if b.length < 48 + 64 * cnt ∨ u 0 4 ≠ 0x3153464F ∨ u 4 1 ≠ srcid ∨ crc32c whole ≠ u 0x2C 4 then none
  else if 1 < u 5 1 ∨ 128 < u 6 1 ∨ u 6 1 < u 7 1 + cnt ∨ (sliceB b 9 3).any (· ≠ 0) ∨ (sliceB b 0x1C 16).any (· ≠ 0) then none
  else if objs.any (·.isNone) then none
  else some (.mk (u 0xC 4) (u 6 1) (u 5 1) (u 0x10 8) (u 0x18 4) 0 [], u 7 1, objs.filterMap id)

/-- The insertion of a list in the order of TV, then source (R347). -/
def bufInsert : List FList → FList → List FList
  | [], x => [x]
  | y :: t, x => if x.tv < y.tv ∨ (x.tv = y.tv ∧ x.src < y.src) then x :: y :: t else y :: bufInsert t x

/-- A list enters the reorder buffer (R347). -/
def bufPut (s : State) (x : FList) : State :=
  if !fusWorks s then s
  else if (match s.fus.lastTv with | some t => decide (x.tv < t) | none => false) then
    (scount s .fus 0x88 1).modFus fun f => { f with late := true }
  else if 64 ≤ s.fus.buf.length then sputb (scount s .fus 0x8C 1) .fus 4 0 true
  else s.modFus fun f => { f with buf := bufInsert f.buf x }

/-- A signed 64-bit difference. -/
def diff64 (a b : Int) : Int := signed 64 (pattern 64 (a - b))

/-- RATE after a list (R345), from the residual and the step of TSRC. The division by a step of 0 has no result there: open. -/
def clockRate (rate r step : Int) : Int :=
  let by_ := if step = 0 then (Config.fusRate r : Int) else (r * 2 ^ 24).fdiv step
  clampI (-2147484) 2147484 (rate + by_)

/-- What a complete list does to its source's clock estimate (R345, R346): the state, and the list's time of validity;
`arr` is its arrival. The list that takes a source to UNSYNC still updates OFF and RATE; the next one restarts the estimator.
DESIGN CHOICE: so does one that meets UNSYNC's condition again in UNSYNC; the lists that ACQ counts are those since it was
entered. -/
def clockList (s : State) (n : Nat) (a : FAsm) (arr : Int) : State × Int :=
  let x := s.fsrc n
  let lat : Int := fsGet s n 0x24 % 2 ^ 24 * 1000
  let t : Int := a.tsrc
  let d := diff64 arr t
  let start (x : FSrc) : FSrc := { x with fresh := false, off := d - lat, rate := 0, tref := t, tprev := t, good := 0 }
  let s := if x.clk = .stale then (srcState s n .acq).modFsrc n fun x => { x with good := 0 } else s
  let x := s.fsrc n
  if x.fresh then (s.modFsrc n start, arr - lat)
  else
    let step := diff64 t x.tprev
    let r := d - lat - (x.off + x.rate * diff64 t x.tref / 2 ^ 32)
    let lost := decide (step ≤ 0 ∨ (a.period * 1000 : Nat) < r.natAbs)
    let near := decide (r.natAbs ≤ a.period * 250)
    let good := if lost then 0 else if near then x.good + 1 else if x.clk = .acq then x.good else 0
    let s := s.modFsrc n fun x => { x with
      off := x.off + r / 16, rate := clockRate x.rate r step, tprev := t, good := good, fresh := lost }
    let s := if lost then srcState s n .unsync
      else if (x.clk = .acq ∧ 4 ≤ good) ∨ (x.clk = .unsync ∧ 16 ≤ good) then srcState s n .sync else s
    let x := s.fsrc n
    (s, if x.clk = .sync then t + x.off + x.rate * diff64 t x.tref / 2 ^ 32 else arr - lat)

/-- A list is complete (R344–R347); `arr` is the arrival of its completing unit. -/
def listComplete (s : State) (n : Nat) (a : FAsm) (arr : Nat) : State :=
  let x := s.fsrc n
  let s := match x.lseq with
    | some k => scount s .fus (fsOff n 0x3C) (let d := (a.lseq + 2 ^ 32 - k) % 2 ^ 32; if d = 0 then 0 else d - 1)
    | none => s
  let s := s.modFsrc n fun x => { x with asm := none, lseq := some a.lseq, last := some s.now, period := a.period }
  let r := clockList s n a arr
  bufPut r.1 { src := n, tv := r.2, frame := a.frame, objs := (List.range a.nobj).map fun i => tget a.objs i }

/-- A unit of a source arrives, at the local-clock instant `arr` (R343, R344). -/
def fusUnit (s : State) (n : Nat) (b : List Byte) (arr : Nat) : State :=
  let cfg := fsGet s n 0
  if fusStands s ∨ nfld cfg 31 31 = 0 then s
  else
    let bad := Block.fus.base + fsOff n 0x38
    match parseUnit (nfld cfg 23 16) b with
    | none => rcount s .a bad 31 16 1
    | some (h, first, objs) =>
      let old := (s.fsrc n).asm
      let other := old.any fun a => a.lseq != h.lseq
      let s := if other then rcount s .a bad 15 0 1 else s
      let base := match old with
        | some a => if other then { h with first := s.now } else a
        | none => { h with first := s.now }
      let a := { base with objs := objs.zipIdx.foldl (fun t p => tset t (first + p.2) p.1) base.objs }
      if (List.range a.nobj).all fun i => (tfind a.objs i).isSome then listComplete s n a arr
      else s.modFsrc n fun x => { x with asm := some a }

/-- FUSION_UNIT (R341–R347): a unit arrives over the source's transport. -/
def execFusionUnit (n : Fin 16) (b : List Byte) (s : State) : Out :=
  act s (if nfld (fsGet s n 0) 29 28 = 2 then s else fusUnit s n b (localCount s))

/-- A datagram at a UDP port goes to the sources of that port (R343, R411). -/
def fusDatagram (s : State) (port : Nat) (b : List Byte) (arr : Nat) : State :=
  (List.range 16).foldl (fun s n =>
    let cfg := fsGet s n 0
    if nbit cfg 31 && nfld cfg 29 28 == 0 && nfld cfg 15 0 == port then fusUnit s n b arr else s) s

/-- A CAN FD frame on a channel: the header of a unit, or its next object (R343); `id` has IDE in bit 31. -/
def fusCanFrame (s : State) (ch id : Nat) (b : List Byte) (arr : Nat) : State :=
  (List.range 16).foldl (fun s n =>
    let cfg := fsGet s n 0
    let cid := fsGet s n 4
    if !nbit cfg 31 || nfld cfg 29 28 != 1 || nfld cfg 27 24 != ch || nfld id 31 31 != nfld cid 31 31 then s
    else
      let go (part : Nat × List Byte) : State :=
        if part.2.length < 48 + 64 * leAt part.2 8 1 then s.modFsrc n fun x => { x with can := some part }
        else fusUnit (s.modFsrc n fun x => { x with can := none }) n part.2 part.1
      if nfld id 28 0 = nfld cid 28 0 ∧ b.length = 48 then go (arr, b)
      else if nfld id 28 0 = (nfld cid 28 0 + 1) % 2 ^ 29 ∧ b.length = 64 then
        match (s.fsrc n).can with
        | some p => go (p.1, p.2 ++ b)
        | none => s
      else s) s

/-- LIST_INCOMPLETE (R344): one PERIOD has passed since a list's first unit. -/
def execListIncomplete (n : Fin 16) (s : State) : Out :=
  act s (match (s.fsrc n).asm with
    | some a =>
      if a.first + us a.period ≤ s.now ∧ !fusStands s then
        rcount (s.modFsrc n fun x => { x with asm := none }) .a (Block.fus.base + fsOff n 0x38) 15 0 1
      else s
    | none => s)

/-- SOURCE_STALE (R346): no complete list for 3 PERIOD. -/
def execSourceStale (n : Fin 16) (s : State) : Out :=
  let x := s.fsrc n
  act s (match x.last with
    | some t =>
      if t + 3 * us x.period ≤ s.now ∧ x.clk ≠ .off ∧ x.clk ≠ .stale ∧ !fusStands s then srcState s n .stale else s
    | none => s)

/-! ### Tracks -/

/-- A class counter takes a confidence (R353). -/
def addClass (cs : List Nat) (k conf : Nat) : List Nat :=
  let cs := (List.range 8).map fun i => cs.getD i 0
  let cs := if 65535 < cs.getD k 0 + conf then cs.map (· / 2) else cs
  cs.set k (cs.getD k 0 + conf)

/-- CONFIRMED follows p (R351). -/
def Track.confirm (t : Track) (thr : Nat) : Track :=
  { t with confirmed := if thr ≤ t.p then true else if 2 * t.p < thr then false else t.confirmed }

/-- A track takes an associated object at the local-clock instant `now` (R351–R353). -/
def Track.take (t : Track) (o : MObj) (src detw : Nat) (tv now : Int) : Track :=
  let gain (a : F64) (v : Nat) : F64 := fDiv a (fAdd a (fInt v))
  let upd (a k b : F64) : F64 := fAdd a (fMul k (fSub b a))
  let less (a k : F64) : F64 := fMul (fSub (fInt 1) k) a
  let kx := gain t.varx o.o.varx
  let ky := gain t.vary o.o.vary
  let meas := o.o.varv != notMeasured
  let kv := gain t.varv o.o.varv
  { t with
    x := upd t.x kx o.x, y := upd t.y ky o.y, z := Config.fusHeight t.z o.z, varx := less t.varx kx, vary := less t.vary ky,
    vx := if meas then upd t.vx kv o.vx else t.vx, vy := if meas then upd t.vy kv o.vy else t.vy,
    varv := if meas then less t.varv kv else t.varv, measured := t.measured || meas,
    len := if o.o.len = 0 then t.len else o.o.len, wid := if o.o.wid = 0 then t.wid else o.o.wid,
    hgt := if o.o.hgt = 0 then t.hgt else o.o.hgt, yaw := if o.o.yaw = 0 then t.yaw else o.yaw,
    p := ((t.p : Int) + (32768 - t.p : Int) * (o.o.conf * detw / 32768 : Nat) / 32768).toNat, classes := addClass t.classes o.o.cls o.o.conf,
    stationary := o.o.stationary, last := tv, agedAt := now, count := min (t.count + 1) 65535, assoc := tset t.assoc src tv }

/-- A new track from an object (R351). -/
def Track.new (o : MObj) (src tid initw : Nat) (tv now : Int) : Track :=
  let meas := o.o.varv != notMeasured
  { tid := tid, at_ := tv, x := o.x, y := o.y, z := o.z, vx := o.vx, vy := o.vy, yaw := o.yaw, varx := fInt o.o.varx,
    vary := fInt o.o.vary, varv := if meas then fInt o.o.varv else Config.fusVelVar, measured := meas, len := o.o.len,
    wid := o.o.wid, hgt := o.o.hgt, p := o.o.conf * initw / 32768, classes := addClass [] o.o.cls o.o.conf,
    stationary := o.o.stationary, last := tv, agedAt := now, count := 1, assoc := [(src, tv)] }

/-- The AGE of a track in ms at a local-clock instant (R342, R351). DESIGN CHOICE: it counts on the local clock from the
processing of the list that associated an object, where it restarts at 0. -/
def Track.age (t : Track) (now : Int) : Nat := ((now - t.agedAt) / 1000000).toNat

/-- The other source that contradicts within DISPWIN (R354). -/
def contradicted (m : Tab Int) (src : Nat) (tv : Int) (win : Nat) : Bool :=
  m.any fun p => p.1 != src && decide ((tv - p.2).natAbs ≤ win * 1000000)

/-- What FUS knows of a list while it processes it. -/
structure ListCtx where
  src : Nat
  tv : Int
  mount : Mount
  fmin : Nat
  fmax : Nat
  rng : Nat
  detw : Nat
  missw : Nat
  dispthr : Nat
  dispwin : Nat
  frees : List MObj

/-- The existence of a track that the list did not associate (R352, R354); `hidden` says that an associated track hides
it. DESIGN CHOICE: of several FREE entries that hold it, the first with enough confidence counts; p falls no lower than 0. -/
def Track.missed (t : Track) (c : ListCtx) (hidden : Bool) : Track :=
  let strong := c.frees.find? fun f => decide (c.dispthr ≤ f.o.conf) && freeHolds f t.x t.y
  let t := match strong with
    | some _ =>
      let t := { t with fre := tset t.fre c.src c.tv }
      if contradicted t.det c.src c.tv c.dispwin then { t with disputed := true, contra := c.tv } else t
    | none => t
  if t.disputed then t
  else match strong with
    | some f => { t with p := t.p - t.p * (f.o.conf * c.missw / 32768) / 32768 }
    | none =>
      if inFov c.mount c.fmin c.fmax c.rng t && !hidden then { t with p := t.p - t.p * c.missw / 32768 } else t

/-- The contradictions that an association completes (R354). DEDUCED from the worked example: a contradiction stands at the TV of its
FREE entry, so an association with one that is past renews nothing. -/
def Track.detected (t : Track) (c : ListCtx) (conf : Nat) : Track :=
  if conf < c.dispthr then t
  else
    let t := { t with det := tset t.det c.src c.tv }
    t.fre.foldl (fun t p =>
      if p.1 ≠ c.src ∧ (c.tv - p.2).natAbs ≤ c.dispwin * 1000000 then
        { t with disputed := true, contra := if t.disputed then max t.contra p.2 else p.2 }
      else t) t

/-- The slot of the track with the lowest p, the lower slot among equals. -/
def weakest (ts : Tab Track) : Option (Nat × Track) :=
  ts.foldl (fun m p => match m with
    | none => some p
    | some q => if p.2.p < q.2.p then some p else some q) none

/-- An object left unassigned may start a track (R351). -/
def startTrack (s : State) (c : ListCtx) (o : MObj) : State :=
  if o.o.conf < sfld s .fus 0x18 15 0 ∨ o.o.varx = notMeasured ∨ o.o.vary = notMeasured then s
  else
    let tid := if s.fus.tid % 65536 = 65535 then 1 else s.fus.tid + 1
    let t := (Track.new o c.src tid (sfld s .fus 0x20 15 0) c.tv (localCount s)).confirm (sfld s .fus 0x1C 15 0)
    let t := t.detected c o.o.conf
    let put (s : State) (k : Nat) : State := s.modFus fun x => { x with tid := tid, tracks := tset x.tracks k t }
    match (List.range 256).find? fun k => (tfind s.fus.tracks k).isNone with
    | some k => put s k
    | none => match weakest s.fus.tracks with
      | some (k, w) =>
        if !w.confirmed && decide (w.p < t.p) then postEngine (put s k) .fus 5 w.tid
        else postEngine (sputb (s.modFus fun x => { x with ovf := true, ovfCount := x.ovfCount + 1 }) .fus 4 1 true) .fus 5 tid
      | none => s

/-- COAST is entered or left (R356, R364). -/
def setCoast (s : State) (b : Bool) : State :=
  if s.fus.coast = b then s else postEngine (s.modFus fun x => { x with coast := b }) .fus 4 (b2n b)

/-- Ego-motion is refitted after a sensor-frame list (R355, R356). -/
def egoRefit (s : State) (tv : Int) (objs : List MObj) : State :=
  let new := (objs.filter fun o => !o.o.free && (o.o.stationary || o.o.cls == 5 || o.o.cls == 6) && o.o.varv != notMeasured).map
    fun o => { x := o.x, y := o.y, ux := o.ux, uy := o.uy : FFeat }
  let win : Int := sfld s .fus 0x38 31 16 * 1000000
  let hist := (s.fus.feats ++ [(tv, new)]).filter fun p => decide (tv - win ≤ p.1)
  let s := s.modFus fun x => { x with feats := hist }
  let fit := if new.isEmpty then none
    else egoSolve ((hist.filter fun p => decide (p.1 ≤ tv)).map (·.2)).flatten (sget s .fus 0x3C) (sfld s .fus 0x38 15 0)
  match fit with
  | some f =>
    let s := s.modFus fun x => { x with evx := f.evx, evy := f.evy, w := f.w, evar := some f.evar }
    setCoast (sput s .fus 0x84 (min f.n 65535)) false
  | none =>
    let q := sget s .fus 0x40
    setCoast (s.modFus fun x => { x with evar := x.evar.map fun e => fAdd e (fInt q) }) true

/-- START and RECOVERY pass to NORMAL (R360), but not in the cycle of the command that entered them. -/
def fusPromote (s : State) : State :=
  let ok := (s.fus.state == .start || s.fus.state == .recovery) &&
    decide (s.fus.entered < s.now ∧ s.fus.entered + ms (sfld s .fus 0x2C 15 0) ≤ s.now) && !s.fus.coast &&
    (List.range 16).any fun n => (s.fsrc n).clk == .sync && nfld (fsGet s n 0) 30 30 == 0
  if ok then fusState s .normal else s

/-- One list is processed (R348). -/
def processList (s : State) (x : FList) : State :=
  let n := x.src
  let f := s.fus
  let m := fsMount s n
  let objs := x.objs.map (toMachine m x.frame f.evx f.evy f.w)
  let fov := fsGet s n 0x18
  let wt := fsGet s n 0x20
  let c : ListCtx := {
    src := n, tv := x.tv, mount := m, fmin := fov % 65536, fmax := fov / 65536, rng := fsGet s n 0x1C, detw := wt % 65536,
    missw := wt / 65536, dispthr := sfld s .fus 0x24 15 0, dispwin := sfld s .fus 0x28 31 16, frees := objs.filter (·.o.free) }
  let hold : Int := sfld s .fus 0x24 31 16 * 1000000
  let ts := f.tracks.map fun p =>
    let t := p.2.predict f.evx f.evy f.w (sget s .fus 0x30) (sget s .fus 0x34) x.tv
    (p.1, if t.disputed && decide (t.contra + hold ≤ x.tv) then { t with disputed := false } else t)
  let asc := sget s .fus 0x14
  let os := objs.zipIdx.filter fun o => !o.1.o.free
  let rows := ts.map fun p => (p.1, os.filterMap fun o => (pairGain (asc % 2 ^ 31) (nbit asc 31) p.2 o.1).map fun g => (o.2, g))
  let pairs := (bestAssign (rows.filter fun r => !r.2.isEmpty) []).2
  let objAt (i : Nat) : Option MObj := (objs[i]?)
  let upd := ts.map fun p => match pairs.find? fun q => q.1 == p.1 with
    | some q => match objAt q.2 with
      | some o => (p.1, (p.2.take o n c.detw x.tv (localCount s)).detected c o.o.conf, true)
      | none => (p.1, p.2, false)
    | none => (p.1, p.2, false)
  let hits := upd.filter fun p => p.2.2
  let upd := upd.map fun p => (p.1, (if p.2.2 then p.2.1
    else p.2.1.missed c (hits.any fun h => hides m h.2.1 p.2.1)).confirm (sfld s .fus 0x1C 15 0))
  let kept := upd.filter fun p => decide (sfld s .fus 0x18 31 16 ≤ p.2.p)
  let s := s.modFus fun g => { g with
    tracks := kept, lastTv := some x.tv, mask := g.mask ||| 2 ^ n, degraded := g.degraded || (s.fsrc n).clk == .unsync }
  let free := os.filter fun o => !(pairs.any fun q => q.2 == o.2)
  let s := free.foldl (fun s o => startTrack s c o.1) s
  let s := if x.frame = 0 then egoRefit s x.tv objs else s
  let s := fusPromote s
  if sfld s .fus 0x10 29 28 = 1 ∧ sfld s .fus 0x10 27 24 = n then s.modFus fun g => { g with outPend := true } else s

/-- Whether a source contributes: it is in ACQ, SYNC or UNSYNC (R346). -/
def contributes (s : State) (n : Nat) : Bool :=
  match (s.fsrc n).clk with
  | .acq | .sync | .unsync => true
  | .off | .stale => false

/-- LIST_PROCESS (R347, R348): the list with the earliest TV is due; lists of sources that the state leaves out are
discarded (R359), and so are those of a source that has become OFF or STALE (R346). -/
def execListProcess (s : State) : Out :=
  act s (match s.fus.buf with
    | [] => s
    | x :: rest =>
      if s.faulty .fus ∨ !fusWorks s ∨ (localCount s : Int) < x.tv + sfld s .fus 0x28 6 0 * 1000000 then s
      else
        let s := s.modFus fun f => { f with buf := rest }
        let test := nfld (fsGet s x.src 0) 30 30 == 1
        if s.fus.state = .test ∧ !test then scount s .fus 0x90 1
        else if s.fus.state ≠ .test ∧ test ∨ !contributes s x.src then s
        else processList s x)

/-- TRACK_AGE_OUT (R351): the age of a track has reached DROPAGE. -/
def execTrackAgeOut (k : Fin 256) (s : State) : Out :=
  act s (match tfind s.fus.tracks k.val with
    | some t =>
      if sfld s .fus 0x2C 31 16 ≤ t.age (localCount s) ∧ !fusStands s then
        s.modFus fun f => { f with tracks := tdel f.tracks k.val }
      else s
    | none => s)

/-! ### Outputs -/

/-- The 64 bytes of a track in an output made at the local-clock instant `tout`, its state predicted to `at_` (R342, R358). -/
def trackBytes (t : Track) (at_ tout : Int) : List Byte :=
  let i32 (x : F64) : List Byte := leBytes 4 (fieldOf 32 true x)
  let v (x : F64) : List Byte := leBytes 4 (fieldOf 32 false x)
  let srcs := t.assoc.foldl (fun a p => if at_ - p.2 ≤ 1000000000 then a ||| 2 ^ p.1 else a) 0
  leBytes 2 t.tid ++ leBytes 1 0 ++ leBytes 1 t.cls ++ leBytes 2 t.p ++
    leBytes 2 (b2n t.stationary + 2 * b2n t.disputed + 4 * b2n t.confirmed + 8 * b2n t.isNew) ++ i32 t.x ++ i32 t.y ++ i32 t.z ++
    i32 t.vx ++ i32 t.vy ++ leBytes 2 t.len ++ leBytes 2 t.wid ++ leBytes 2 t.hgt ++ leBytes 2 (fHeading t.yaw) ++ v t.varx ++
    v t.vary ++ (if t.measured then v t.varv else leBytes 4 notMeasured) ++
    leBytes 4 (min (t.age tout) (2 ^ 32 - 1)) ++ leBytes 2 srcs ++ leBytes 2 t.count ++ leBytes 8 0

/-- An output is made now (R357–R361). -/
def fusOutput (s : State) : State :=
  let f := s.fus
  let tout : Int := localCount s
  let normal := f.state == .normal
  let tvalid := if normal then f.lastTv else none
  let at_ := tvalid.getD tout
  let thr := sfld s .fus 0x1C 31 16
  let ts := ((f.tracks.map (·.2)).filter fun t => decide (thr ≤ t.p)).mergeSort fun a b => a.tid ≤ b.tid
  let old := ts.foldl (fun (m : Option Int) t => match m with | none => some t.last | some u => some (min u t.last)) none
  let mark := 0xFFFFFFFFFFFFFFFF
  let age := match tvalid with
    | some tv => pattern 64 (tout - old.getD tv)
    | none => mark
  let hdr := leBytes 4 f.oseq ++ leBytes 1 f.state.code ++ leBytes 1 s.tim.cstate.code ++
    leBytes 2 (b2n f.degraded + 2 * b2n f.coast + 4 * b2n f.ovf + 8 * b2n f.late + 16 * b2n (f.mask == 0)) ++
    leBytes 8 (pattern 64 tout) ++ leBytes 8 (match tvalid with | some t => pattern 64 t | none => mark) ++ leBytes 8 age ++
    leBytes 2 ts.length ++ leBytes 2 f.mask ++ leBytes 4 0
  let body := (ts.map fun t => trackBytes (t.predict f.evx f.evy f.w (sget s .fus 0x30) (sget s .fus 0x34) at_) at_ tout).flatten
  let s := ringSend s { rq := 4, ring := fusRing, esz := 16448, fresh := hdr ++ body, after := hdr ++ body, use := .fus ts.length }
  let s := s.modFus fun g => { g with
    oseq := (g.oseq + 1) % 2 ^ 32, mask := 0, degraded := false, ovf := false, late := false, outPend := false,
    lastOut := some tout.toNat, tracks := tmap g.tracks fun _ t => { t with isNew := false } }
  let s := sput (sput s .fus 0x70 (fieldOf 32 true f.evx)) .fus 0x74 (fieldOf 32 true f.evy)
  let s := sput s .fus 0x78 (fieldOf 32 true (fMul f.w (fInt 1000000)))
  let s := sput s .fus 0x7C (match f.evar with | some e => fieldOf 32 false e | none => notMeasured)
  sput s .fus 0x80 f.oseq

/-- The multiple of PERIOD that the local clock has come to since RUN (R357). -/
def outIndex (s : State) : Nat := (localCount s - s.fus.runAt) / (1000000 * max 1 (sfld s .fus 0x10 15 0))

/-- Whether an output has fallen due (R357). -/
def outFallen (s : State) : Bool := s.fus.outPend || (sfld s .fus 0x10 29 28 == 0 && decide (s.fus.outIdx < outIndex s))

/-- Whether an output is due: not less than 20 ms after the previous one (R357). -/
def outDue (s : State) : Bool :=
  let t := localCount s
  outFallen s &&
    (match s.fus.lastOut with | some u => decide (u + 20000000 ≤ t) | none => true)

/-- Whether a list is due (R347): it is processed before an output of the same tick. -/
def listDue (s : State) : Bool :=
  match s.fus.buf with
  | x :: _ => decide (x.tv + sfld s .fus 0x28 6 0 * 1000000 ≤ localCount s)
  | [] => false

/-- FUSION_OUTPUT (R357, R358): an output that is due. -/
def execFusionOutput (s : State) : Out :=
  act s (if s.faulty .fus || !fusWorks s || !outDue s || listDue s then s
    else fusOutput (s.modFus fun f => { f with outIdx := outIndex s }))

/-! ### Commands -/

/-- A write of FUS.CMD (R343, R357, R359, R365). DESIGN CHOICE: OUTNOW makes no output outside OUTMODE 2 or while RUN = 0, and is
not rejected; INJECT for a source that is disabled or has another transport is rejected with STATE. -/
def fusCmd (s : State) (l : LaneId) (v : Nat) : State :=
  gated s l .fus 8 fun s =>
    let st := s.fus.state
    let bad := reject s l .fus 8 rSTATE
    match nfld v 31 28 with
    | 1 => if st = .test then bad else fusState (fusClear s) .test
    | 2 => if st ≠ .test then bad else fusState (fusClear s) .recovery
    | 3 => if st ≠ .normal ∧ st ≠ .recovery then bad else fusState (fusClear s) .recovery
    | 4 => if sfld s .fus 0x10 29 28 = 2 ∧ fusRuns s then s.modFus fun f => { f with outPend := true } else s
    | 5 =>
      let n := v % 16
      if nfld (fsGet s n 0) 31 31 = 0 ∨ nfld (fsGet s n 0) 29 28 ≠ 2 then bad
      else
        let a := sget s .fus 0x68
        let s := dramMeet s (.engine .fus) 0 a (48 + 64 * leAt (dramRead s 0 a 48) 8 1)
        fusUnit s n (dramRead s 0 a (48 + 64 * leAt (dramRead s 0 a 48) 8 1)) (localCount s)
    | _ => reject s l .fus 8 rRANGE

/-- FUS_INJECT (R343). -/
def execFusInject (l : LaneId) (n : Fin 16) (s : State) : Out := act s (fusCmd s l (5 * 2 ^ 28 + n.val))
/-- OUTNOW (R357). -/
def execOutnow (l : LaneId) (s : State) : Out := act s (fusCmd s l (4 * 2 ^ 28))
/-- FUS_TEST (R359). -/
def execFusTest (l : LaneId) (s : State) : Out := act s (fusCmd s l (2 ^ 28))
/-- FUS_ENDTEST (R359). -/
def execFusEndtest (l : LaneId) (s : State) : Out := act s (fusCmd s l (2 * 2 ^ 28))
/-- FUS_REINIT (R359). -/
def execFusReinit (l : LaneId) (s : State) : Out := act s (fusCmd s l (3 * 2 ^ 28))

/-- A write of FUS.CTRL (R359, R362). -/
def fusCtrl (s : State) (l : LaneId) (v : Nat) : State :=
  gated s l .fus 0 fun s =>
    let was := fusRuns s
    let s := sput s .fus 0 (nset (nset (nset (sget s .fus 0) 10 8 (nfld v 10 8)) 1 0 v) 31 31 (sfld s .fus 0 31 31 ||| nfld v 31 31))
    if was && !nbit v 1 then (fusClear s).modFus fun f => { f with buf := [], outPend := false }
    else if !was && nbit v 1 then
      (fusState s .start).modFus fun f => { f with runAt := localCount s, outIdx := 0, lastOut := none, lastTv := none }
    else s

/-- FUS_RUN (R362): a write of RUN, the rest of CTRL kept. -/
def execFusRun (l : LaneId) (on : Bool) (s : State) : Out := act s (fusCtrl s l (nset (sget s .fus 0) 1 1 (b2n on)))

/-- A write of OUTCFG (R357): an output that has fallen due stays due, the next one falls on the grid of the new PERIOD. -/
def outCfg (s : State) (l : LaneId) (v : Nat) : State :=
  gated s l .fus 0x10 fun s =>
    let fallen := outFallen s
    let s := regPlain s l .fus 0x10 v
    s.modFus fun f => { f with outIdx := outIndex s, outPend := fallen && fusRuns s }

/-- A write of SRCn.CFG (R346, R365): legal only while EN = 0; EN = 1 enters ACQ. -/
def srcCfg (s : State) (l : LaneId) (n v : Nat) : State :=
  let off := fsOff n 0
  gated s l .fus off fun s =>
    if nbit (fsGet s n 0) 31 then reject s l .fus off rSTATE
    else if regVerdict s l .fus off v ≠ 0 then reject s l .fus off rRANGE
    else
      let s := sput s .fus off v
      if nbit v 31 then srcState (s.modFsrc n fun _ => { clk := .off }) n .acq else s

/-- A warm start (R359, R363): RECOVERY with the tracks kept. -/
def fusWarm (s : State) : State := if fusRuns s then fusState s .recovery else s

/-- The registers of FUS that the state answers (R365). -/
def fusRead (s : State) (l : LaneId) (off : Nat) : Option (Nat × State) :=
  if off = 4 then
    some (s.fus.state.code * 2 ^ 24 + b2n (s.faulty .fus) * 2 ^ 16 + b2n s.fus.coast * 4 + sget s .fus 4 % 4, s)
  else if off = 0x94 then some (s.fus.tracks.length, s)
  else if 0x100 ≤ off ∧ off < 0x500 then
    let n := (off - 0x100) / 0x40
    let x := s.fsrc n
    match off % 0x40 with
    | 0x28 => some (x.clk.code, s)
    | 0x2C =>
      let o := pattern 64 x.off
      some (o % 2 ^ 32, rset s l (Block.fus.base + fsOff n 0x30) (o / 2 ^ 32))
    | 0x34 => some (pattern 32 x.rate, s)
    | _ => none
  else none

/-- The writes of FUS that have an effect of their own (R255, R361, R365). -/
def fusWrite (s : State) (l : LaneId) (off v : Nat) : Option State :=
  if off = 0 then some (fusCtrl s l v)
  else if off = 8 then some (fusCmd s l v)
  else if off = 0x10 then some (outCfg s l v)
  else if 0x50 ≤ off ∧ off < 0x68 then some (ringWrite s l .fus 0x50 (off - 0x50) 64 v)
  else if off = 0x68 ∧ offsetBad v 64 then some (gated s l .fus off fun s => reject s l .fus off rRANGE)
  else if 0x100 ≤ off ∧ off < 0x500 then
    let n := (off - 0x100) / 0x40
    if off % 0x40 = 0 then some (srcCfg s l n v)
    else if off % 0x40 ∉ [0x28, 0x38, 0x3C] ∧ nbit (fsGet s n 0) 31 then some (gated s l .fus off fun s => reject s l .fus off rSTATE)
    else none
  else none

end Sys2Proof.Machine
end

