-- ==== Sys2Proof/Machine/HoistBase.lean ====
section
/-! DEFINITION. Job messages (spec/14 R437–R439), the streams' tables, the hoist levels and their roles (R434–R436). -/

namespace Sys2Proof.Machine

/-! ### Messages -/

/-- Whether the bytes of a message are sound (R437): VER, LEN for its TYPE, the reserved bits, the CRC over the header with
its CRC taken as 0 and the payload. -/
def msgOk (b : List Byte) : Bool :=
  let ty := leAt b 1 1
  let len := leAt b 2 2
  let most := if ty = 1 then 1408 else if ty = 6 ∨ ty = 8 then 1440 else 0
  decide (32 ≤ b.length) && leAt b 0 1 == 1 && decide (1 ≤ ty ∧ ty ≤ 9) && decide (len ≤ most) && b.length == 32 + len &&
    decide (leAt b 12 2 < 1024) && decide (leAt b 24 2 < 16) && decide (leAt b 26 2 < if ty = 4 then 256 else 1) &&
    crc32c (b.take 28 ++ [0, 0, 0, 0] ++ b.drop 32) == leAt b 28 4

/-- The fields of a message. -/
def msgJob (b : List Byte) : Job :=
  { dest := leAt b 4 4, src := leAt b 8 4, stream := leAt b 12 2 % 1024, epoch := leAt b 14 2, seq := leAt b 16 4,
    kind := leAt b 20 2, session := leAt b 22 2, flags := leAt b 24 2, reason := leAt b 26 2 % 256, crc := leAt b 28 4,
    body := b.drop 32 }

/-- The bytes of a message of a TYPE, header and payload (R437). -/
def msgBytes (ty : Nat) (j : Job) : List Byte :=
  leBytes 1 1 ++ leBytes 1 ty ++ leBytes 2 j.body.length ++ leBytes 4 j.dest ++ leBytes 4 j.src ++ leBytes 2 j.stream ++ leBytes 2 j.epoch ++
    leBytes 4 j.seq ++ leBytes 2 j.kind ++ leBytes 2 j.session ++ leBytes 2 j.flags ++ leBytes 2 j.reason ++ leBytes 4 j.crc ++
    j.body

/-- The bytes of a job, header and payload. -/
def jobBytes (j : Job) : List Byte := msgBytes 1 j

/-- The fields of a message of a TYPE with its CRC (R437). -/
def Job.sealedAs (ty : Nat) (j : Job) : Job := { j with crc := crc32c (msgBytes ty { j with crc := 0 }) }

/-- A job with the CRC of its message. -/
def Job.sealed (j : Job) : Job := j.sealedAs 1

/-! ### Tables -/

/-- A register of stream `n`. -/
def strOff (n off : Nat) : Nat := 0x10000 + 0x20 * n + off
/-- A register of stream `n`. -/
def strGet (s : State) (n off : Nat) : Nat := sget s .hst (strOff n off)
/-- A stream as a lane holds it. -/
def State.str (s : State) (l : LaneId) (n : Nat) : HStream := tget (s.lane l).strs n
/-- The jobs of a stream accepted and not completed (R459, R460, R536), marked REPLAY, to be delivered again. -/
def HStream.replay (x : HStream) : List (Job × Bool) := x.jobs.map fun j => ({ j.1 with flags := j.1.flags ||| 8 }, false)
/-- Change a stream of a lane. -/
def State.modStr (s : State) (l : LaneId) (n : Nat) (f : HStream → HStream) : State :=
  s.modLane l fun x => { x with strs := tmod x.strs n f }
/-- Change a stream in both lanes. -/
def State.modStrs (s : State) (n : Nat) (f : HStream → HStream) : State := s.both fun l s => s.modStr l n f
/-- A level. -/
def State.lvl (s : State) (k : Nat) : HLevel := tget s.hst.levels k
/-- Change a level. -/
def State.modLvl (s : State) (k : Nat) (f : HLevel → HLevel) : State :=
  { s with hst := { s.hst with levels := tmod s.hst.levels k f } }
/-- CFG of a level. -/
def lvlCfg (s : State) (k : Nat) : Nat := sget s .hst (0x100 + 0x40 * k)
/-- Whether a level is valid. -/
def lvlOn (s : State) (k : Nat) : Bool := nbit (lvlCfg s k) 31
/-- MISSN × HBPER of a level, in ticks (R452). -/
def lvlMiss (s : State) (k : Nat) : Nat :=
  let w := sget s .hst (0x104 + 0x40 * k)
  us (nfld w 31 28 * nfld w 23 0)

/-- Whether HST works: the lanes are up. -/
def hstUp (s : State) : Bool := (s.lane s.sup.active).live

/-- A count of HST rises in both lanes (R20, R47). -/
def hcount (s : State) (off : Nat) : State := s.both fun l s => rcount s l (Block.hst.base + off) 31 0 1

/-! ### Sending -/

/-- The IP address of a unit (R436): of its module, or of its hoist's group. DESIGN CHOICE: word 0 of PFX6 and MC6 is the most
significant. -/
def unitIp (s : State) (v6 : Bool) (u : Nat) : Nat :=
  let group := nfld u 31 30 == 3
  let low := if group then u % 2 ^ 16 else nfld u 29 16
  let six (off : Nat) : Nat := (List.range 4).foldl (fun a k => a * 2 ^ 32 + sget s .hst (off + 4 * k)) 0
  if v6 then (if group then nset (six 0x30) 15 0 low else nset (six 0x20) 13 0 low)
  else (sget s .hst (if group then 0x1C else 0x18) + low) % 2 ^ 32

/-- A datagram or frame leaves (R440). -/
def hstOut (s : State) (w : HWay) (b : List Byte) : State :=
  { s with hst := { s.hst with out := s.hst.out ++ [{ way := w, bytes := b }] } }

/-- A datagram leaves for a unit; none does after a hard fault of the switch (R429). -/
def hstUdp (s : State) (unit : Nat) (b : List Byte) : State :=
  if s.faulty .eth then s
  else
    let v6 := sfld s .hst 0x14 31 31 == 1
    hstOut s (.udp v6 (unitIp s v6 unit) (sfld s .hst 0x14 15 0)) b

/-- Whether a CAN channel carries job messages out: in NORMAL only (R555). -/
def canSends (s : State) (ch : Nat) : Bool :=
  let c := tget s.bus.can ch
  sfld s .can (0x1000 + 0x1000 * ch) 31 31 == 1 && c.mode == 0 && !c.busOff && !s.faulty .can

/-- The frames of a message on CAN (R441). -/
def canSegments (b : List Byte) : List (List Byte) :=
  let n := (b.length + 61) / 62
  (List.range n).map fun k => leBytes 1 k ++ leBytes 1 n ++ sliceB b (62 * k) 62

/-- A message of a stream leaves by its transport for a unit (R440, R441); LANE carries those for a core or a lane. There STREAM
names this same context, whose direction is the other one, so the other lane's HST drops the message. -/
def strSend (s : State) (n unit : Nat) (b : List Byte) : State :=
  match nfld (strGet s n 0) 30 29 with
  | 0 => hstUdp s unit b
  | 1 =>
    let ch := nfld (strGet s n 0xC) 11 8
    if canSends s ch then (canSegments b).foldl (fun s f => hstOut s (.can ch (nfld (strGet s n 0x10) 28 0)) f) s else s
  | _ => if nfld unit 31 30 < 2 then hstOut s .lane b else s

/-- The unit address of the module. -/
def ownUnit (s : State) : Nat := 2 * 2 ^ 30 + sfld s .hst 0x10 13 0 * 2 ^ 16

/-- A message between the modules of a hoist leaves for a module (DESIGN CHOICE: by UDP, whatever the stream's transport). -/
def peerSend (s : State) (ty m src : Nat) (j : Job) : State :=
  let dest := 2 * 2 ^ 30 + m * 2 ^ 16
  hstUdp s dest (msgBytes ty ({ j with dest := dest, src := src }.sealedAs ty))

/-- A write of HST (R463): the shadow lane's is rejected with NOT_OWNER. -/
def hstGated (s : State) (l : LaneId) (off : Nat) (k : State → State) : State :=
  if s.sup.active = l then k s else reject s l .hst off rNOTOWNER

/-! ### Postings -/

/-- The KIND of a unit address (R41). -/
def unitKind (u : Nat) : Nat := nfld u 31 30
/-- Whether a lane executes the jobs of a unit (R42). -/
def unitLane (u : Nat) (l : LaneId) : Bool := decide (2 ≤ unitKind u) || nfld u 8 8 == l.num

/-- A posting about a stream goes to its TAKER core (R462), for a lane or core unit in that lane only. -/
def postStream (s : State) (n code data : Nat) : State :=
  s.both fun l s =>
    if rbit s l Block.hst.base 0 && unitLane (strGet s n 4) l then postCore s l (nfld (strGet s n 0) 28 26) ⟨4, code, n, data % 2 ^ 32, false⟩ else s

/-- A posting about a hoist goes to core EVCORE (R462). -/
def postHoist (s : State) (code data : Nat) : State :=
  s.both fun l s =>
    if rbit s l Block.hst.base 0 then postCore s l (rfld s l Block.hst.base 10 8) ⟨4, code, 0, data % 2 ^ 32, false⟩ else s

/-! ### Roles -/

/-- The own rank at a level. -/
def ownRank (s : State) (k : Nat) : Nat := nfld (lvlCfg s k) 28 24
/-- The unit address of a member. -/
def memAddr (s : State) (k r : Nat) : Nat := sget s .hst (0x1000 + 0x80 * k + 4 * r)
/-- RESIGN in the own heartbeats (R553, R554). -/
def resigning (s : State) : Bool := s.sup.modMode != .run || s.sup.power == .holdup
/-- Whether the module speaks at a level: at level 0, and above where it is ensign below (R435, R451). -/
def speaks (s : State) (k : Nat) : Bool := k == 0 || (s.lvl (k - 1)).role == 0 && lvlOn s (k - 1)
/-- The live ranks of a level: the members heard, and the own one where the module speaks for it. -/
def liveRanks (s : State) (k : Nat) : List Nat :=
  (List.range 32).filter fun r => (r == ownRank s k && speaks s k) || (tfind (s.lvl k).heard r).isSome
/-- Whether a live member may become ensign or standby (R457, R554). -/
def eligible (s : State) (k r : Nat) : Bool :=
  if r = ownRank s k ∧ speaks s k then !(s.lvl k).syncing && !resigning s else !tget (s.lvl k).unfit r

/-- The number of the module that speaks for a rank (R435, R436): at level 0 the member itself, above the one whose heartbeats
come. -/
def speaker (s : State) (k r : Nat) : Nat :=
  if r = ownRank s k ∧ speaks s k then sfld s .hst 0x10 13 0
  else if k = 0 then nfld (memAddr s k r) 29 16
  else tget (s.lvl k).mods r

/-- The standby module of a level by module number (R436): behind an ensign of the own member hoist, that hoist's own
standby module; else the eligible member of the next rank. -/
def standbyOf (s : State) : Nat → Option Nat
  | 0 => next 0
  | k + 1 =>
    match (if (s.lvl (k + 1)).ensign = some (ownRank s (k + 1)) then standbyOf s k else none) with
    | some m => some m
    | none => next (k + 1)
where
  next (k : Nat) : Option Nat :=
    ((liveRanks s k).find? fun r => some r != (s.lvl k).ensign && eligible s k r).map (speaker s k)

/-- The role that a level gives the module (R436). -/
def roleOf (s : State) (k : Nat) : Nat :=
  let x := s.lvl k
  if x.role = 3 ∧ x.syncing then 3
  else if resigning s then 1
  else if x.ensign = some (ownRank s k) ∧ speaks s k then 0
  else if standbyOf s k = some (sfld s .hst 0x10 13 0) then 2
  else 1

/-- The role of a level changes: ROLE is posted and an HROLE record written (R462, R482). -/
def setRole (s : State) (k r : Nat) : State :=
  if (s.lvl k).role = r then s
  else
    let s := s.modLvl k fun x => { x with role := r, jmark := 0, stby := none }
    let e := (s.lvl k).epoch
    let s := record s s.sup.active .hst 0x40 (leBytes 1 k ++ leBytes 1 r ++ leBytes 2 e ++ leBytes 4 (lvlCfg s k % 65536) ++
      leBytes 4 (sfld s .hst 0x60 23 0))
    postHoist s 0x10 (r + k * 2 ^ 8 + e * 2 ^ 16)

/-- The streams of a unit, those of both directions. -/
def unitStrs (s : State) (unit : Nat) : List Nat := (List.range 1024).filter fun n => strGet s n 4 == unit

/-- The hoist unit of a level. -/
def lvlUnit (s : State) (k : Nat) : Nat := 3 * 2 ^ 30 + lvlCfg s k % 65536

/-- The record of a stream context (R457). -/
def strRecord (s : State) (n : Nat) : List Byte :=
  let x := s.str s.sup.active n
  leBytes 4 (strGet s n 0) ++ leBytes 4 (strGet s n 4) ++ leBytes 4 (strGet s n 8) ++ leBytes 4 x.seqA ++ leBytes 4 x.seqB ++
    leBytes 2 x.epoch ++ leBytes 2 n ++ leBytes 8 0

/-- The records of a hoist (R457), each with its stream: the contexts, then the accepted jobs that are not completed. DESIGN
CHOICE: a CLOSED context has none (a record carries no STATE); the contexts go first. -/
def lvlRecords (s : State) (k : Nat) : List (Nat × List Byte) :=
  let ns := (unitStrs s (lvlUnit s k)).filter fun n => (s.str s.sup.active n).st != .closed
  (ns.map fun n => (n, strRecord s n)) ++
    ns.flatMap fun n => if nbit (strGet s n 0) 31 then [] else (s.str s.sup.active n).jobs.map fun j => (n, jobBytes { j.1 with flags := j.1.flags % 8 })

/-- The ensign module sends its records to a module (R457). DESIGN CHOICE: SRC is the hoist that the ensign module speaks for, by
which the other module knows whose records they are. -/
def resyncTo (s : State) (k m : Nat) : State :=
  let rs := lvlRecords s k
  let e := (s.lvl k).epoch
  let h := lvlUnit s k
  let s := rs.zipIdx.foldl (fun s p => peerSend s 8 m h
    { stream := p.1.1, epoch := e, seq := p.2, session := (s.str s.sup.active p.1.1).session, body := p.1.2 }) s
  let s := peerSend s 9 m h { epoch := e, seq := rs.length }
  s.modLvl k fun x => { x with stby := some (m, false), seen := false, dirty := false, syncAt := tset x.syncAt m s.now }

/-- The ensign module at a level keeps to its standby module: a newly chosen one is resynchronised (R452, R458). -/
def keepStandby (s : State) (k : Nat) : State :=
  if (s.lvl k).role ≠ 0 then s
  else match standbyOf s k with
    | some m =>
      if m = sfld s .hst 0x10 13 0 then s.modLvl k fun x => { x with stby := none }
      else if (s.lvl k).stby.map (·.1) = some m then s
      else resyncTo s k m
    | none => s.modLvl k fun x => { x with stby := none }

/-- Every level that is formed takes the role its members give it; the ensign keeps to its standby module. -/
def reRole (s : State) : State :=
  let formed (s : State) (k : Nat) : Bool := lvlOn s k && (s.lvl k).listen.isNone
  let s := (List.range 6).foldl (fun s k => if formed s k then setRole s k (roleOf s k) else s) s
  (List.range 6).foldl (fun s k => if formed s k then keepStandby s k else s) s

/-- The level whose hoist has a number. -/
def lvlOfHoist (s : State) (h : Nat) : Option Nat := (List.range 6).find? fun k => lvlOn s k && lvlCfg s k % 65536 == h

/-- The level of a hoist unit. -/
def lvlOfUnit (s : State) (u : Nat) : Option Nat := if unitKind u = 3 then lvlOfHoist s (u % 65536) else none

/-- The epoch that messages of a unit carry (R453): the hoist's where the module speaks for it, else the lane epoch. -/
def epochOf (s : State) (u : Nat) : Nat :=
  match (lvlOfUnit s u).filter fun k => (s.lvl k).role == 0 with
  | some k => (s.lvl k).epoch % 65536
  | none => (s.lane s.sup.active).epoch % 65536

/-- Whether the ensign module has a live standby module at a level that is in step with it (R457, R458). -/
def hasStandby (s : State) (k : Nat) : Bool :=
  match (s.lvl k).stby with
  | some (m, ok) => ok && standbyOf s k == some m
  | none => false

/-- Whether an ensign may accept on its own (R447, R448). -/
def soloSet (s : State) : Bool := nbit (lvlCfg s 0) 30

/-! ### Heartbeats -/

/-- The 24 bytes of the module's heartbeat at a level (R451). DESIGN CHOICE: HBSEQ counts this one. -/
def hbBytes (s : State) (k : Nat) (resign : Bool) : List Byte :=
  let x := s.lvl k
  let solo := x.role == 0 && soloSet s && !hasStandby s k
  let b := leBytes 1 1 ++ leBytes 1 0x10 ++ leBytes 2 (lvlCfg s k % 65536) ++ leBytes 4 (ownUnit s) ++ leBytes 2 x.epoch ++
    leBytes 1 (b2n solo * 128 + k * 16 + b2n x.syncing * 8 + b2n resign * 4 + x.role % 4) ++ leBytes 1 (ownRank s k) ++
    leBytes 4 x.hbSeq ++ leBytes 4 (if x.role = 0 ∨ x.role = 2 then x.jmark else 0)
  b ++ leBytes 4 (crc32c (b ++ [0, 0, 0, 0]))

/-- The module's heartbeat goes to the hoist's group at a level (R451). -/
def sendBeat (s : State) (k : Nat) (resign : Bool) : State :=
  let s := s.modLvl k fun x => { x with hbNext := s.now + us (sfld s .hst (0x104 + 0x40 * k) 23 0), hbSeq := (x.hbSeq + 1) % 2 ^ 32 }
  hstUdp s (3 * 2 ^ 30 + lvlCfg s k % 65536) (hbBytes s k resign)

/-- The heartbeats at every level where the module speaks, at once (R454). -/
def beatNow (s : State) : State :=
  (List.range 6).foldl (fun s k =>
    if lvlOn s k && speaks s k then sendBeat s k (resigning s) else s) s

/-- The jobs that the module holds for a hoist, not accepted, are dropped (R456). -/
def dropHoist (s : State) (k : Nat) : State :=
  s.both fun l t => t.modLane l fun x => { x with
    strs := tmap x.strs fun n y => if strGet s n 4 = lvlUnit s k then { y with held := [], jour := none } else y }

/-- The module strikes at a level (R456): it stops accepting, drops the jobs it holds for the hoist, adopts the epoch and
resynchronises. The STRIKE record follows the HROLE records of the cycle (R484). -/
def strike (s : State) (k e src : Nat) : State :=
  let s := dropHoist s k
  let s := s.modLvl k fun x => { x with epoch := e, maxEpoch := max x.maxEpoch e, syncing := true, recs := [] }
  let s := reRole (setRole s k 3)
  record s s.sup.active .hst 0x41 (leBytes 2 k ++ leBytes 2 e ++ leBytes 4 (lvlCfg s k % 65536) ++ leBytes 4 src)

/-- A message of a hoist with a higher epoch makes an ensign or a standby strike (R456). -/
def epochSeen (s : State) (k e src : Nat) : State :=
  if e ≤ (s.lvl k).epoch then s
  else if (s.lvl k).role = 0 ∨ (s.lvl k).role = 2 then strike s k e src
  else s.modLvl k fun x => { x with epoch := e, maxEpoch := max x.maxEpoch e }

end Sys2Proof.Machine
end

