-- ==== Sys2Proof/Machine/HalPos.lean ====
section
/-! DEFINITION. Halyard configuration fields, published positions, speed and synchronisation (spec/04 R122–R138). -/

namespace Sys2Proof.Machine

/-- The register of halyard `n` at an offset of its group (R153). -/
def hyReg (n off : Nat) : Nat := Block.hal.base + 0x100 + 0x40 * n + off

/-- A halyard of a lane. -/
def State.hy (s : State) (l : LaneId) (n : Nat) : Hy := tget (s.lane l).hy n

/-- Change a halyard. -/
def State.modHy (s : State) (l : LaneId) (n : Nat) (f : Hy → Hy) : State :=
  s.modLane l fun x => { x with hy := tmod x.hy n f }

/-- CFG.SRC (R124): 0 OFF, 1 TOOTH, 2 QUAD, 3 SENT, 4 DERIVED, 5 FEED, 6 TIME. -/
def hySrc (s : State) (l : LaneId) (n : Nat) : Nat := rfld s l (hyReg n 0) 3 0

/-- CFG.INPUT. -/
def hyInput (s : State) (l : LaneId) (n : Nat) : Nat := rfld s l (hyReg n 0) 12 8

/-- Whether a halyard estimates its position with the extrapolator of R136. -/
def extrapolates (src : Nat) : Bool := src == 1 || src == 2 || src == 3 || src == 5

/-- The published position in au, unwrapped: extrapolated ones truncated to whole au (R136), DERIVED by R133, TIME by
R135. A DERIVED halyard follows a lower-numbered one, so 16 steps reach the source. -/
def hyPosAux (s : State) (l : LaneId) : Nat → Nat → Nat
  | 0, n => (s.hy l n).pub / 2 ^ 16
  | k + 1, n =>
    match hySrc s l n with
    | 4 =>
      rfld s l (hyReg n 8) 23 0 + hyPosAux s l k (hyInput s l n) * rfld s l (hyReg n 0xC) 31 16 /
        max 1 (rfld s l (hyReg n 0xC) 15 0) + (s.hy l n).c * 2 ^ 24
    | 6 => s.now * 2 ^ 24 / max 1 (rget s l (hyReg n 0x10)) + (s.hy l n).c * 2 ^ 24
    | _ => (s.hy l n).pub / 2 ^ 16

/-- The unwrapped published position of a halyard, au. -/
def hyPos (s : State) (l : LaneId) (n : Nat) : Nat := hyPosAux s l 16 n

/-- The 56-bit position P of R122. -/
def hyP (s : State) (l : LaneId) (n : Nat) : Nat := hyPos s l n % 2 ^ 56

/-- The synchronisation state: a DERIVED halyard's is its source's (R133), TIME is always in SYNC (R135). -/
def hySyncAux (s : State) (l : LaneId) : Nat → Nat → SyncState
  | 0, n => (s.hy l n).sync
  | k + 1, n =>
    match hySrc s l n with
    | 0 => .off
    | 4 => hySyncAux s l k (hyInput s l n)
    | 6 => .sync
    | _ => (s.hy l n).sync

/-- The synchronisation state of a halyard. -/
def hySync (s : State) (l : LaneId) (n : Nat) : SyncState := hySyncAux s l 16 n

/-- Whether a halyard is in SYNC. -/
def inSync (s : State) (l : LaneId) (n : Nat) : Bool := hySync s l n == .sync

/-- STAT.STALL; a DERIVED halyard shows its source's (R128). -/
def hyStallAux (s : State) (l : LaneId) : Nat → Nat → Bool
  | 0, n => (s.hy l n).stall
  | k + 1, n => if hySrc s l n = 4 then hyStallAux s l k (hyInput s l n) else (s.hy l n).stall

/-- The present speed in 2^-32 au per tick (R133, R135, R136); 0 outside SYNC (R130). -/
def hySpeedAux (s : State) (l : LaneId) : Nat → Nat → Int
  | 0, n => (s.hy l n).speed
  | k + 1, n =>
    match hySrc s l n with
    | 4 => hySpeedAux s l k (hyInput s l n) * rfld s l (hyReg n 0xC) 31 16 / max 1 (rfld s l (hyReg n 0xC) 15 0)
    | 6 => (2 ^ 56 / max 1 (rget s l (hyReg n 0x10)) : Nat)
    | _ => (s.hy l n).speed

/-- The present speed in 2^-32 au per tick. -/
def hySpeed (s : State) (l : LaneId) (n : Nat) : Int := if inSync s l n then hySpeedAux s l 16 n else 0

/-- SPEED: au/µs, unsigned Q24.8; 250 ticks to a µs (R153). -/
def hySpeedQ8 (s : State) (l : LaneId) (n : Nat) : Nat := (hySpeed s l n * 250 / 2 ^ 24).toNat % 2 ^ 32

/-- Whether a position has been reached: (P − Q) mod 2^56 < 2^55 (R98). -/
def reached (p q : Nat) : Bool := decide ((p + 2 ^ 56 - q % 2 ^ 56) % 2 ^ 56 < 2 ^ 55)

/-- The estimate of a halyard `dt` ticks after its last edge or sample, in 2^-16 au, held at its cap; the speed stops
at zero (R136). -/
def hyEst (h : Hy) (dt : Nat) : Int :=
  let e : Int :=
    if h.acc < 0 ∧ h.v * 2 ^ 16 + h.acc * dt < 0 then (h.q : Int) * 2 ^ 16 + (h.v * h.v).tdiv (-2 * h.acc)
    else (h.q : Int) * 2 ^ 16 + (h.v * dt * 2 ^ 17 + h.acc * dt * dt).tdiv (2 ^ 33)
  min e ((h.cap : Int) * 2 ^ 16)

/-- The present speed `dt` ticks after the last edge or sample, in 2^-32 au per tick (R136). -/
def hyS (h : Hy) (dt : Nat) : Int :=
  if h.acc < 0 ∧ h.v * 2 ^ 16 + h.acc * dt < 0 then 0 else max 0 ((h.v * 2 ^ 16 + h.acc * dt).tdiv (2 ^ 16))

/-- One 4 ns update of a halyard in SYNC (R136, R137): the published position follows the estimate, at most
(16 + SLEW)/16 of the estimated speed, and never goes back (R122). DESIGN CHOICE: a published position that still lags when the
estimate comes to its cap goes on to catch up, as R136 computes it; R138 says that it does not move there. -/
def hyUpdate (slew now : Nat) (h : Hy) : Hy :=
  if h.sync ≠ .sync then h
  else
    let dt := now - h.t
    let e := hyEst h dt
    let sp := hyS h dt
    let up := (h.pub : Int) + (sp * (16 + slew)).tdiv (16 * 2 ^ 16)
    { h with
      pub := max h.pub (min e up).toNat, speed := sp, capped := decide ((h.cap : Int) * 2 ^ 16 ≤ e) }

/-- The update of every extrapolated halyard of a lane at a tick of the HTB. -/
def hyTick (s : State) (l : LaneId) : State :=
  (List.range 16).foldl (fun s n =>
    if extrapolates (hySrc s l n) then s.modHy l n (hyUpdate (rfld s l (hyReg n 0x14) 3 0) s.now) else s) s

/-- The entries of a lane that hold a snapshot on a halyard. -/
def armedOn (l : Lane) (n : Nat) : Nat :=
  (l.entries.filter fun p => match p.2.snap with | some x => x.hy == n | none => false).length

/-- Whether an armed occurrence is firing (R142): from the tick in which its halyard reaches its position. -/
def snapFiring (s : State) (l : LaneId) (x : Snap) : Bool := x.firing || reached (hyP s l x.hy) (x.turn * 2 ^ 24 + x.frac)

/-- Whether an entry has an armed occurrence that is not firing yet and that satisfies a test. -/
def armedNot (s : State) (l : LaneId) (f : Snap → Bool) (e : Entry) : Bool :=
  match e.snap with
  | some x => f x && !snapFiring s l x
  | none => false

/-- The armed occurrences that satisfy a test are disarmed without firing and counted (R130, R154); one that is already firing
completes. -/
def disarm (s : State) (l : LaneId) (f : Snap → Bool) : State :=
  let k := ((s.lane l).entries.filter fun p => armedNot s l f p.2).length
  let off (e : Entry) : Entry := if armedNot s l f e then { e with snap := none } else e
  let s := s.modLane l fun x => { x with entries := tmap x.entries fun _ e => off e }
  if k = 0 then s
  else rsetb (rcount s l (Block.evt.base + 0x2C) 31 0 k) l (Block.evt.base + 4) 19 true

/-- Every armed entry on a halyard is disarmed without firing (R130), and none of its entries is held at the armed limit. -/
def disarmHy (s : State) (l : LaneId) (n : Nat) : State :=
  let free (e : Entry) : Entry := if fld e.w0 27 24 = n then { e with held := false } else e
  (disarm s l fun x => x.hy == n).modLane l fun x => { x with entries := tmap x.entries fun _ e => free e }

/-- A waiting core resumes with its outcome in vD (R97). -/
def Core.endWait (c : Core) (outcome : Nat) : Core :=
  match c.wait with
  | some w => { c with run := .running, wait := none, v := tset c.v w.dst (u32 outcome) }
  | none => c

/-- The waits of a lane on a halyard end with NOSYNC (R97, R130). -/
def endWaitsOn (s : State) (l : LaneId) (n : Nat) : State :=
  (List.range 8).foldl (fun s c => s.modCore l c fun x => match x.wait with
    | some w => (match w.target with | some t => if t.1 = n then x.endWait 4 else x | none => x)
    | none => x) s

/-- A halyard stands still at its published position: it has no speed and no last interval (R130). DESIGN CHOICE: its search starts
with the next edge, and its reverse backlog (R131) ends, for the position that it next takes comes from its source (R129). -/
def Hy.still (h : Hy) (st : SyncState) (now : Nat) : Hy :=
  { h with sync := st, v := 0, acc := 0, speed := 0, last := none, edges := [], dirs := [], seen := 0, idx := none, conf := 0,
           backlog := 0, value := none, good := 0, bad := 0, samples := 0, firstInc := 0, q := h.pub / 2 ^ 16, t := now,
           cap := h.pub / 2 ^ 16, capped := false }

/-- The halyards that follow a halyard through DERIVED sources, itself included. -/
def followers (s : State) (l : LaneId) (n : Nat) : List Nat :=
  (List.range 16).foldl (fun acc m => if hySrc s l m = 4 ∧ acc.contains (hyInput s l m) then acc ++ [m] else acc) [n]

/-- What leaving SYNC does to a halyard and to those derived from it (R128, R130): the flag, the disarmed entries, the
ended waits. -/
def lostSync (s : State) (l : LaneId) (n : Nat) (flag : Option Nat) : State :=
  (followers s l n).foldl (fun s m =>
    let s := match flag with
      | some b => rsetb s l (hyReg m 0x2C) b true
      | none => s
    endWaitsOn (disarmHy s l m) l m) s

/-- A halyard loses synchronisation: back to SEEK, position frozen, speed 0 (R128, R130). -/
def loseSync (s : State) (l : LaneId) (n : Nat) (flag : Option Nat) : State :=
  lostSync (s.modHy l n fun h => h.still .seek s.now) l n flag

end Sys2Proof.Machine
end

