-- ==== Sys2Proof/Machine/Hsi.lean ====
section
/-! DEFINITION. Analog inputs and the function table of HSI (spec/08 R256–R258, R261–R270). -/

namespace Sys2Proof.Machine

/-- The offset of an input's registers: 0–31 AIN, 32–35 BRG. -/
def inOff (i : Nat) : Nat := if i < 32 then 0xA00 + 0x20 * i else 0xE00 + 0x20 * (i - 32)

/-- The conversion period of an input in ticks (R256, R257). -/
def inPeriod (i : Nat) : Nat := if i < 32 then 5000 else 62500

/-- The raw code of an input's conversion number `k`: unsigned 16-bit, or signed 24-bit for a bridge. -/
def inRaw (s : State) (i k : Nat) : Int :=
  let w := senseAt s (Block.hsi.base + inOff i + 0xC) (k * inPeriod i)
  if i < 32 then ((w % 65536 : Nat) : Int) else signed 24 w

/-- The scaled value of an input's conversion under its present settings, and whether it clamps (R258). -/
def inScale (s : State) (i k : Nat) : Int × Bool :=
  let n := 2 ^ sfld s .hsi (inOff i) 6 4
  let m := (List.range n).foldl (fun a j => a + inRaw s i (k - j)) (0 : Int) / (n : Int)
  let g := sget s .hsi (inOff i + 8)
  let c := if i < 32 then 14 else 22
  let x := ((m - signed 32 (sget s .hsi (inOff i + 4))) * signed 16 g * 2 ^ nfld g 18 16 + 2 ^ c) / 2 ^ (c + 1)
  (sat16 x, clampsI 16 x)

/-- The scaled value of an input as of an HTB instant, and whether it clamps (R258). A write to its settings applies from the next
conversion (R271). -/
def inVal (s : State) (i t : Nat) : Int × Bool :=
  let x := tget s.hsi.ins i
  let k := t / inPeriod i
  if x.heldK = some k then (x.heldVal, x.heldSat) else inScale s i k

/-- SAT of an input takes the clamps of the conversions since it was last looked at (R258). -/
def inSettle (s : State) (i : Nat) : State :=
  let k := s.now / inPeriod i
  let x := tget s.hsi.ins i
  let clamped := (List.range (k - x.satK)).any fun j => (inVal s i ((k - j) * inPeriod i)).2
  let s := if clamped then sputb s .hsi (inOff i + 0x14) 2 true else s
  { s with hsi := { s.hsi with ins := tset s.hsi.ins i { x with satK := k } } }

/-- The settings of an input are about to change: the conversions up to now keep the old ones (R271). -/
def inFreeze (s : State) (i : Nat) : State :=
  let s := inSettle s i
  let v := inVal s i s.now
  let k := s.now / inPeriod i
  { s with hsi := { s.hsi with ins := tmod s.hsi.ins i fun x => { x with
    heldK := some k, heldVal := v.1, heldSat := v.2
    ranges := x.ranges.filter (fun p => decide (k ≤ p.1 + 5000)) ++ [(k, sfld s .hsi (inOff i) 1 0)] } } }

/-- RANGE as it stood at an input's conversion number `k` (R271). -/
def inRange (s : State) (i k : Nat) : Nat :=
  match (tget s.hsi.ins i).ranges.find? fun p => decide (k ≤ p.1) with
  | some p => p.2
  | none => sfld s .hsi (inOff i) 1 0

/-- Whether the raw code of an analog input's conversion number `k` lies in the fault range of its RANGE then (R256). -/
def inBad (s : State) (i k : Nat) : Bool :=
  let raw := inRaw s i k
  match inRange s i k with
  | 2 => decide (raw < 9000 ∨ 52500 < raw)
  | 3 => decide (60000 < raw ∨ raw < 100)
  | _ => raw == 65535

/-- Whether the fault condition of an input has been `bad` for `n` conversions (R256, R258); the conditions of a bridge are the
world's, and the command tells of them (R257), but for a bridge whose supply SS10_k is off (R590). -/
def inHas (s : State) (i n : Nat) (bad : Bool) : Bool :=
  if 32 ≤ i then bad || (nbit (sget s .pwr 0x58) (i - 24) && !nbit (sget s .pwr 0x5C) (i - 24))
  else decide (n ≤ s.now / inPeriod i) && (List.range n).all fun j => inBad s i (s.now / inPeriod i - j) == bad

/-- Whether an input is faulty. -/
def inFaulty (s : State) (i : Nat) : Bool := sfld s .hsi (inOff i + 0x14) 1 1 == 1

/-- The offset of a register of function slot `n`. -/
def fnOff (n off : Nat) : Nat := 0x1000 + 0x40 * n + off

/-- A signed halfword field of a slot. -/
def fnQ (s : State) (n off lo : Nat) : Int := signed 16 (sfld s .hsi (fnOff n off) (lo + 15) lo)

/-- The slot's target as a source reads it: floor(TGT / 256) (R261). -/
def fnTarget (s : State) (n : Nat) : Int := signed 24 (sget s .hsi (fnOff n 0x10)) / 256

/-- INPUT_FAULT (R258): the condition has persisted for 10 ms. -/
def execInputFault (i : Fin 36) (s : State) : Out :=
  act s (if inFaulty s i ∨ s.faulty .hsi ∨ !inHas s i 500 true then s
    else postEngine (sputb (sputb s .hsi (inOff i + 0x14) 1 true) .hsi (inOff i + 0x14) 0 true) .hsi 3 i)

/-- INPUT_FAULT_CLEAR (R258): the condition has been absent for 100 ms. -/
def execInputFaultClear (i : Fin 36) (s : State) : Out :=
  act s (if !inFaulty s i ∨ s.faulty .hsi ∨ !inHas s i 5000 false then s
    else postEngine (sputb s .hsi (inOff i + 0x14) 1 false) .hsi 3 (i + 2 ^ 8))

/-! ### The function table -/

/-- OWNER of a slot (R262). -/
def fnOwner (s : State) (n : Nat) : Nat := sfld s .hsi (fnOff n 0x18) 1 0

/-- DATA of an FNCHG record (R482). -/
def fnRecord (s : State) (code kind ctx mask : Nat) : List Byte :=
  let g (off hi lo : Nat) : Nat := if code < 48 then sfld s .hsi (fnOff code off) hi lo else 0
  leBytes 4 (sget s .hsi 0x10) ++ leBytes 1 code ++ leBytes 1 kind ++ leBytes 2 ctx ++ leBytes 2 (g 0 15 0) ++
    leBytes 2 (g 8 15 0) ++ leBytes 2 (g 8 31 16) ++ leBytes 2 (g 0xC 15 0) ++ leBytes 1 (g 0x18 1 0) ++
    leBytes 1 (g 0x18 7 4) ++ leBytes 2 0 ++ leBytes 8 mask

/-- FNGEN advances by one for a change of the given slots (R264): SGEN, FNCHG, the record. -/
def fnGen (s : State) (slots : List Nat) (kind code ctx mask : Nat) : State :=
  let g := (sget s .hsi 0x10 + 1) % 2 ^ 32
  let s := sput s .hsi 0x10 g
  let s := slots.foldl (fun s n => sput s .hsi (fnOff n 0x28) g) s
  let s := postEngine s .hsi 4 (code + kind * 2 ^ 6 + g % 2 ^ 24 * 2 ^ 8)
  record s s.sup.engOwner .hsi 0x30 (fnRecord s code kind ctx mask)

/-- ARRIVED follows the target (R261). -/
def fnArrive (s : State) (n : Nat) : State :=
  sputb s .hsi (fnOff n 0x24) 0 (signed 24 (sget s .hsi (fnOff n 0x10)) == fnQ s n 0 0 * 256)

/-- A target is stored within the limits; TCLAMP tells of a clamp (R263). -/
def fnSetTarget (s : State) (n : Nat) (x : Int) : State :=
  let c := clampI (fnQ s n 8 0) (fnQ s n 8 16) x
  let s := sput s .hsi (fnOff n 0) (pattern 16 c)
  let s := if c = x then s else sputb s .hsi (fnOff n 0x24) 1 true
  if signed 24 (sget s .hsi (fnOff n 0x10)) = c * 256 then s else sputb s .hsi (fnOff n 0x24) 0 false

/-- The settings of a slot whose change advances FNGEN (R264). -/
def fnSettings (s : State) (n : Nat) : List Nat :=
  [sget s .hsi (fnOff n 0), sget s .hsi (fnOff n 8), sget s .hsi (fnOff n 0xC), sget s .hsi (fnOff n 0x18) % 256,
    sget s .hsi (fnOff n 0x1C), sget s .hsi (fnOff n 0x20)]

/-- An accepted write of a slot: a generation when a value changed. -/
def fnChange (s : State) (n : Nat) (f : State → State) : State :=
  let s' := f s
  if fnSettings s' n = fnSettings s n then s' else fnGen s' [n] 0 n 0 0

/-- A write to a register of a slot (R261–R265). A write of CTL sets OWNER before CPREF. DESIGN CHOICE: each write is a cycle of its
own, so that no two changes meet in one. -/
def fnWrite (s : State) (l : LaneId) (n off v : Nat) : State :=
  gated s l .hsi (fnOff n off) fun s =>
    let rej (s : State) (r : Nat) : State := reject s l .hsi (fnOff n off) r
    let own := fnOwner s n
    if off = 0x10 ∨ off = 0x28 then s
    else if off = 0x18 then
      if v % 4 = 3 then rej s rRANGE
      else
        let cp := nfld v 7 4
        let held := decide (v % 4 = 2 ∧ cp ≠ sfld s .hsi (fnOff n 0x18) 7 4)
        let s := fnChange s n fun s =>
          let s := sputf s .hsi (fnOff n 0x18) 1 0 v
          if held then s else sputf s .hsi (fnOff n 0x18) 7 4 cp
        if held then rej s 0x11 else s
    else if off = 0x14 ∨ off = 0x24 then regPlain s l .hsi (fnOff n off) v
    else if own = 2 then rej s 0x11
    else match off with
      | 0x00 => if own = 1 then rej s 0x10 else fnChange s n fun s => fnSetTarget s n (signed 16 v)
      | 0x04 => if own = 0 then rej s 0x10 else fnChange s n fun s => fnSetTarget s n (signed 16 v)
      | 0x08 =>
        if signed 16 (v / 65536) < signed 16 v then rej s rRANGE
        else fnChange s n fun s => let s := sput s .hsi (fnOff n 8) v; fnSetTarget s n (fnQ s n 0 0)
      | 0x0C => fnChange s n fun s => sput s .hsi (fnOff n 0xC) (v % 65536)
      | 0x1C | 0x20 => fnChange s n fun s => sput s .hsi (fnOff n off) (v &&& 0x81FF81FF)
      | _ => s

/-- FN_CTGT_WRITE (R262). -/
def execFnCtgtWrite (l : LaneId) (n : Fin 48) (v : Word) (s : State) : Out := act s (fnWrite s l n 0 v.toNat)
/-- FN_TTGT_WRITE (R262). -/
def execFnTtgtWrite (l : LaneId) (n : Fin 48) (v : Word) (s : State) : Out := act s (fnWrite s l n 4 v.toNat)
/-- FN_LIM_WRITE (R263). -/
def execFnLimWrite (l : LaneId) (n : Fin 48) (v : Word) (s : State) : Out := act s (fnWrite s l n 8 v.toNat)
/-- FN_RATE_WRITE (R261). -/
def execFnRateWrite (l : LaneId) (n : Fin 48) (v : Word) (s : State) : Out := act s (fnWrite s l n 0xC v.toNat)
/-- FN_CTL_WRITE (R262). -/
def execFnCtlWrite (l : LaneId) (n : Fin 48) (v : Word) (s : State) : Out := act s (fnWrite s l n 0x18 v.toNat)
/-- FN_BIND_WRITE (R267): BIND01, or BIND23 with `hi`. -/
def execFnBindWrite (l : LaneId) (n : Fin 48) (hi : Bool) (v : Word) (s : State) : Out :=
  act s (fnWrite s l n (if hi then 0x20 else 0x1C) v.toNat)

/-- The slots LCPMASK selects (R266). -/
def lcpMask (s : State) : Nat := sget s .hsi 0x14 + sget s .hsi 0x18 % 65536 * 2 ^ 32

/-- CMD LOADCP (R266). -/
def fnLoad (s : State) (l : LaneId) (p : Nat) : State :=
  let cp (s : State) (n w : Nat) : Nat := sget s .hsi (0x2000 + 0x200 * p + 8 * n + 4 * w)
  let mask := lcpMask s
  let sel := (List.range 48).filter fun n => nbit mask n
  if sel.any fun n => decide (signed 16 (cp s n 1 / 65536) < signed 16 (cp s n 1)) then reject s l .hsi 8 rRANGE
  else
    let done := sel.filter fun n => fnOwner s n != 2
    let s := sel.foldl (fun s n =>
      if fnOwner s n = 2 then sputb s .hsi (fnOff n 0x24) 2 true
      else
        let s := sput s .hsi (fnOff n 8) (cp s n 1)
        let s := sput s .hsi (fnOff n 0xC) (cp s n 0 / 65536)
        let s := sputf (sputf s .hsi (fnOff n 0x18) 7 4 p) .hsi (fnOff n 0x18) 8 8 1
        fnSetTarget s n (if fnOwner s n = 0 then signed 16 (cp s n 0) else fnQ s n 0 0)) s
    fnGen s done 1 0x3F 0 mask

/-- A write of HSI.CMD (R271). -/
def hsiCmd (s : State) (l : LaneId) (v : Nat) : State :=
  gated s l .hsi 8 fun s => if nfld v 31 28 = 1 then fnLoad s l (v % 16) else reject s l .hsi 8 rRANGE

/-- LOADCP (R266). -/
def execLoadcp (l : LaneId) (p : Fin 16) (s : State) : Out := act s (hsiCmd s l (2 ^ 28 + p.val))

/-- One step of a slot towards its commanded target (R261). -/
def fnStep (s : State) (n : Nat) : State :=
  let r : Int := sget s .hsi (fnOff n 0xC) % 65536
  let t := signed 24 (sget s .hsi (fnOff n 0x10))
  let goal := fnQ s n 0 0 * 256
  let t' := if r = 0 then goal else t + clampI (-r) r (goal - t)
  fnArrive (sput s .hsi (fnOff n 0x10) (pattern 24 t')) n

/-- FN_TICK (R261, R268): every 1 ms of HTB. -/
def execFnTick (s : State) : Out :=
  act s (if s.now < (s.hsi.msIdx + 1) * ms 1 ∨ s.faulty .hsi then s
    else (List.range 48).foldl fnStep { s with hsi := { s.hsi with msIdx := s.hsi.msIdx + 1 } })

/-- Whether a slot binds a context (R267). -/
def fnBinds (s : State) (c n : Nat) : Bool :=
  let a := sget s .hsi (fnOff n 0x1C)
  let b := sget s .hsi (fnOff n 0x20)
  (nbit a 15 && nfld a 8 0 == c) || (nbit a 31 && nfld a 24 16 == c) || (nbit b 15 && nfld b 8 0 == c) ||
    (nbit b 31 && nfld b 24 16 == c)

/-- A lane's loop engine reports a swap or a command of a context (R264, R267): the shadow lane's reports are discarded. -/
def boundReport (s : State) (l : LaneId) (c : Nat) : State :=
  if s.sup.active ≠ l ∨ s.faulty .hsi then s
  else match (List.range 48).filter fun n => fnBinds s c n with
    | [] => s
    | n :: ns => fnGen s (n :: ns) 2 n c 0

/-- BOUND_CONTEXT_REPORT (R267). -/
def execBoundContextReport (l : LaneId) (c : Fin 512) (s : State) : Out := act s (boundReport s l c)

/-- The registers of HSI that the state answers (R256, R258, R271). -/
def hsiRead (s : State) (off : Nat) : Option (Nat × State) :=
  if off = 4 then some (nfld (sget s .hsi 4) 1 0 + b2n (s.faulty .hsi) * 4, s)
  else if 0xA00 ≤ off ∧ off < 0xE80 then
    let i := if off < 0xE00 then (off - 0xA00) / 0x20 else 32 + (off - 0xE00) / 0x20
    match off % 0x20 with
    | 0xC => some (pattern 32 (inRaw s i (s.now / inPeriod i)), s)
    | 0x10 => some (pattern 16 (inVal s i s.now).1, s)
    | 0x14 => some (sget (inSettle s i) .hsi off, inSettle s i)
    | _ => none
  else none

end Sys2Proof.Machine
end

