-- ==== Sys2Proof/Machine/Pcl.lean ====
section
/-! DEFINITION. The parcel tracker (spec/09 R273–R302). -/

namespace Sys2Proof.Machine

/-- The offset of a register of stage `k`. -/
def stgOff (k off : Nat) : Nat := 0x200 + 0x40 * k + off
/-- Change the tracker. -/
def State.modPcl (s : State) (f : PclSt → PclSt) : State := { s with pcl := f s.pcl }
/-- Whether PCL creates and attributes: RUN, no hard fault, no HOLD-UP (R301). -/
def pclRuns (s : State) : Bool := sfld s .pcl 0 1 1 == 1 && !s.faulty .pcl && s.sup.power != .holdup
/-- Whether a stage is enabled. -/
def stgEn (s : State) (k : Nat) : Bool := decide (k < 12) && sfld s .pcl (stgOff k 0) 31 31 == 1
/-- The halyard of a stage. -/
def stgHy (s : State) (k : Nat) : Nat := sfld s .pcl (stgOff k 0) 27 24
/-- The delay of a stage in au (R273). -/
def stgD (s : State) (k : Nat) : Nat := sfld s .pcl (stgOff k 4) 15 0 * 2 ^ 24 + sfld s .pcl (stgOff k 8) 23 0
/-- The tap width. -/
def stgW (s : State) (k : Nat) : Nat := sget s .pcl (stgOff k 0xC)
/-- A tap of the kernel. -/
def stgH (s : State) (k j : Nat) : Nat := sfld s .pcl (stgOff k (0x20 + 4 * (j / 2))) (16 * (j % 2) + 15) (16 * (j % 2))
/-- The sum S of the taps. -/
def stgS (s : State) (k : Nat) : Nat := (List.range 16).foldl (fun a j => a + stgH s k j) 0
/-- The exit centroid offset (R274). -/
def stgCoff (s : State) (k : Nat) : Nat :=
  (List.range 16).foldl (fun a j => a + stgH s k j * (2 * j + 1)) 0 * stgW s k / (2 * max 1 (stgS s k))
/-- NEXT of a stage: `none` is END. -/
def stgNext (s : State) (k : Nat) : Option Nat :=
  let n := sfld s .pcl (stgOff k 0) 23 20
  if n < 12 then some n else none
/-- RET of a stage. -/
def stgRet (s : State) (k : Nat) : Option Nat :=
  let n := sfld s .pcl (stgOff k 0) 19 16
  if n < 12 then some n else none

/-! ### The position history -/

/-- The newest sample tick of a halyard's history. -/
def histNewest (s : State) (n : Nat) : Option Nat := (tget s.pcl.hist n).head?.map (·.1)

/-- The position at a tick from the samples that bracket it, newest first (R276). -/
def histFind (t : Nat) : List (Nat × Nat) → Option Nat
  | (t1, p1) :: (t0, p0) :: r =>
    if t = t1 then some p1
    else if t < t1 ∧ t0 ≤ t then some (p0 + (p1 - p0) * (t - t0) / (t1 - t0))
    else histFind t ((t0, p0) :: r)
  | [(t1, p1)] => if t = t1 then some p1 else none
  | [] => none

/-- The position of a halyard at a tick; `none` when the tick lies outside the history. -/
def histAt (s : State) (n t : Nat) : Option Nat := histFind t (tget s.pcl.hist n)

/-! ### Parcels -/

/-- The parcels, lowest context first. -/
def State.parcels (s : State) : List (Nat × Parcel) := s.pcl.parcels
/-- Change a parcel. -/
def State.modParcel (s : State) (c : Nat) (f : Parcel → Parcel) : State :=
  s.modPcl fun p => { p with parcels := tmod p.parcels c f }
/-- Set a FLAGS bit of a parcel. -/
def Parcel.flag (p : Parcel) (i : Nat) : Parcel := { p with flags := p.flags ||| 2 ^ i }
/-- The size Z of a parcel (R279). -/
def Parcel.z (p : Parcel) : Nat := p.wfrac * p.len / 32768
/-- The placements of a parcel in a stage: share and entry, current and earlier (R284, R290). -/
def Parcel.placements (p : Parcel) (k : Nat) : List (Nat × Nat) :=
  (p.pieces.map fun x => (if x.stage = k then [(x.share, x.e)] else []) ++ (match x.earlier with
    | some y => if y.stage = k then [(x.share, y.e)] else []
    | none => [])).flatten

/-- The 128 bytes of a parcel's record (R294). -/
def parcelBytes (s : State) (p : Parcel) : List Byte :=
  let q (i : Nat) : Nat := if p.qm = 0 then 0 else pattern 16 (p.qw.getD i 0 / (p.qm : Int))
  leBytes 4 p.pid ++ leBytes 4 (rfld s .a (Block.hst.base + 0x10) 13 0 + p.tag * 2 ^ 14) ++ leBytes 8 p.lat ++
    leBytes 8 p.lon ++ leBytes 8 p.tick ++ leBytes 4 p.sec ++ leBytes 4 p.ns ++ leBytes 2 p.wfrac ++ leBytes 2 p.len ++
    leBytes 2 p.posage ++ leBytes 2 p.flags ++ leBytes 4 p.mass ++
    leBytes 2 (if p.mm = 0 then 0 else pattern 16 (p.mw / (p.mm : Int))) ++ leBytes 2 p.endshare ++
    ((List.range 8).map fun g => leBytes 2 (p.impacts.getD g 0) ++ leBytes 2 (p.grain.getD g 0)).flatten ++
    ((List.range 4).map fun i => leBytes 2 (q i)).flatten ++ leBytes 4 p.basegen ++
    ((List.range 12).map fun k => leBytes 2 (p.genoff.getD k 0xFFFF)).flatten ++ leBytes 2 p.untrk ++ leBytes 2 p.life

/-- The base register of the record ring. -/
def prRing : Nat := Block.pcl.base + 0x80

/-- A finished parcel's record is written to the ring and, outside BENCH, to the staging buffer; its context is free
(R294, R295, R549). -/
def parcelFinish (s : State) (c : Nat) : State :=
  let p := tget s.pcl.parcels c
  let b := parcelBytes s p
  let s := ringSend s { rq := 5, ring := prRing, esz := 128, fresh := b, after := b, use := .notify .pcl 1 0 0 }
  let bench := s.sup.modMode == .bench
  s.modPcl fun x => { x with parcels := tdel x.parcels c, staging := if bench then x.staging else x.staging ++ [b] }

/-- Whether a finished record finds room in the staging buffer (R296). -/
def stagingRoom (s : State) : Bool := decide (s.pcl.staging.length < 4096) || s.sup.modMode == .bench

/-- A parcel closes (R294): ENDSHARE and LIFE are taken; `grace` ticks pass before its record. -/
def parcelClose (s : State) (c grace : Nat) : State :=
  s.modParcel c fun p =>
    if p.closing.isSome then p
    else { p with closing := some (s.now + grace), endshare := p.r, life := min ((s.now - p.tick) / ms 10) 65535 }

/-- A parcel ends at once (FLUSHED, EVICTED); with a full staging buffer it stays closing (R294, R296). -/
def parcelEnd (s : State) (c flag : Nat) : State :=
  let s := (parcelClose s c 0).modParcel c fun p => p.flag flag
  if stagingRoom s then parcelFinish s c else s.modParcel c fun p => { p with closing := some s.now }

/-- Every parcel ends with FLUSHED, lowest PID first (R294, R301); not after a hard fault (R300). -/
def pclFlushAll (s : State) : State :=
  let cs := (s.parcels.map fun p => (p.2.pid, p.1)).mergeSort fun a b => a.1 ≤ b.1
  if s.faulty .pcl then s else cs.foldl (fun s c => parcelEnd s c.2 8) s

/-- HOLD-UP and PARK stop the tracker (R301, R550): the queue is discarded and every parcel ends. -/
def pclHalt (s : State) : State := (pclFlushAll s).modPcl fun x => { x with queue := [] }

/-- A takeover or a warm start falls within the life of every parcel (R299). -/
def pclLaneEvt (s : State) : State := s.modPcl fun x => { x with parcels := tmap x.parcels fun _ p => p.flag 12 }

/-! ### Creation -/

/-- A free context, lowest first. -/
def freeCtx (s : State) : Option Nat :=
  if s.parcels.length < 1024 then (List.range 1024).find? fun c => (tfind s.pcl.parcels c).isNone else none

/-- The context of the lowest PID. -/
def oldestCtx (s : State) : Option Nat :=
  (s.parcels.foldl (fun m p => match m with
    | none => some (p.2.pid, p.1)
    | some q => if p.2.pid < q.1 then some (p.2.pid, p.1) else some q) none).map (·.2)

/-- The distance in mm since the previous CREATE, from the position of the distance halyard (R278). -/
def createDist (s : State) (d : Nat) : Option Nat := s.pcl.ref.map fun d0 => (d - d0) * sfld s .pcl 0x1C 15 0 / 2 ^ 24

/-- Whether a CREATE must wait: it needs the context of a parcel whose record finds no room (R281, R296). -/
def createWaits (s : State) (a : PAct) : Bool :=
  nbit a.arg 15 && stgEn s (nfld a.arg 3 0) && (freeCtx s).isNone && !stagingRoom s &&
    match (histAt s (sfld s .pcl 0x1C 31 28) a.tick).bind (createDist s) with
    | some mm => decide (250 ≤ mm)
    | none => false

/-- The lowest PID is evicted when every context is in use (R281). -/
def pclEvict (s : State) : State :=
  match freeCtx s, oldestCtx s with
  | none, some c =>
    let pid := (tget s.pcl.parcels c).pid
    let s := (parcelClose s c 0).modParcel c fun p => p.flag 7
    let s := parcelFinish s c
    postEngine (sputb (scount s .pcl 0x70 1) .pcl 4 1 true) .pcl 2 pid
  | _, _ => s

/-- A CREATE action with the positions of its stage's and of the distance halyard (R278, R279). -/
def pclCreate (s : State) (a : PAct) (e d : Nat) : State :=
  match createDist s d with
  | none => s.modPcl fun x => { x with ref := some d }
  | some mm =>
    if mm < 250 then scount s .pcl 0x74 1
    else
      let s := pclEvict (s.modPcl fun x => { x with ref := some d })
      match freeCtx s with
      | none => s
      | some c =>
        let age := match a.fix with
          | some f => min ((a.tick - f.2.2) / 250000) 65535
          | none => 65535
        let posok := a.fixNew && decide (age ≤ sfld s .pcl 0x34 15 0)
        let lc := a.clock - 4 * (a.htb - a.tick)
        let p : Parcel := {
          pid := sget s .pcl 0x14, tag := nfld a.arg 14 4, wfrac := a.width, len := min mm 8000,
          lat := (a.fix.getD (0, 0, 0)).1, lon := (a.fix.getD (0, 0, 0)).2.1, tick := a.tick,
          sec := lc / 1000000000 % 2 ^ 32, ns := lc % 1000000000 + a.state * 2 ^ 30, posage := age,
          flags := b2n posok * 16 + b2n (decide (8000 < mm)) * 32, basegen := a.fngen,
          qw := [0, 0, 0, 0], impacts := List.replicate 8 0, grain := List.replicate 8 0,
          genoff := List.replicate 12 0xFFFF, pieces := [.mk 32768 (nfld a.arg 3 0) e none] }
        let s := sput s .pcl 0x14 ((sget s .pcl 0x14 + 1) % 2 ^ 32)
        s.modPcl fun x => { x with parcels := tset x.parcels c p }

/-! ### Steps -/

/-- The passed fraction of an exit profile, Q15 (R286). -/
def exitFrac (s : State) (k e x : Nat) : Nat :=
  let w := stgW s k
  let x0 := e + stgD s k
  32768 * (List.range 16).foldl (fun a j => a + stgH s k j * min (x - (x0 + j * w)) w) 0 / max 1 (w * stgS s k)

/-- A piece of a parcel passes stage `k` at a firing tick (R283): the parcel after, `i` the piece's place. -/
def piecePass (s : State) (k t fngen : Nat) (p : Parcel) (i : Nat) : Parcel :=
  let x := p.pieces.getD i {}
  let go := p.genoff.getD k 0xFFFF
  let p := if go = 0xFFFF then
      let d := (fngen + 2 ^ 32 - p.basegen) % 2 ^ 32
      let p := { p with genoff := p.genoff.set k (min d 0xFFFE) }
      if 0xFFFE < d then p.flag 13 else p
    else p
  match stgNext s k with
  | none => p
  | some n =>
    let rs := match stgRet s k with
      | some _ => x.share * sfld s .pcl (stgOff k 0) 15 0 / 32768
      | none => 0
    let split := decide (33 ≤ rs)
    let p := if !split then p
      else match stgRet s k with
        | some r =>
          if p.pieces.length < 4 then
            { p with pieces := p.pieces ++ [.mk rs r ((histAt s (stgHy s r) t).getD 0) none] }
          else { p with untrk := p.untrk + rs }.flag 9
        | none => p
    let p := if x.earlier.isSome then p.flag 15 else p
    let y : Piece := {
      share := if split then x.share - rs else x.share, stage := n, e := (histAt s (stgHy s n) t).getD 0,
      earlier := some { stage := k, e := x.e } }
    { p with pieces := p.pieces.set i y }

/-- The remaining share of a parcel (R286): never above what it was. -/
def parcelRest (s : State) (t : Nat) (p : Parcel) : Nat :=
  min p.r (p.pieces.foldl (fun r x =>
    if (stgNext s x.stage).isSome then r + x.share
    else r + x.share - x.share * exitFrac s x.stage x.e ((histAt s (stgHy s x.stage) t).getD 0) / 32768) 0)

/-- A step of stage `k` at position `x` of a live parcel: passes, releases (R283, R284). -/
def parcelStep (s : State) (k t x fngen : Nat) (sync : Bool) (p : Parcel) : Parcel :=
  let passed := (List.range p.pieces.length).filter fun i =>
    let q := p.pieces.getD i {}
    q.stage == k && decide (q.e + stgD s k + stgCoff s k ≤ x)
  let p := if sync then passed.foldl (fun p i => piecePass s k t fngen p i) p else p
  { p with pieces := p.pieces.map fun q => match q.earlier with
    | some y =>
      if y.stage = k ∧ y.e + stgD s k + 16 * stgW s k ≤ x then
        match y.reached with
        | none => { q with earlier := some { y with reached := some t } }
        | some u => if u + ms 300 ≤ t then { q with earlier := none } else q
      else q
    | none => q }

/-- The halyards whose positions at its tick a step of stage `k` at position `x` needs besides its own (R276): those of NEXT and RET
when a piece passes, those of the stages before END for the remaining share. -/
def stepNeeds (s : State) (k x : Nat) (sync : Bool) : List Nat :=
  let ps := (s.parcels.map (·.2)).filter fun p => p.closing.isNone && !(p.placements k).isEmpty
  let pass := sync && ps.any fun p => p.pieces.any fun q => q.stage == k && decide (q.e + stgD s k + stgCoff s k ≤ x)
  let out := if pass then [stgNext s k, stgRet s k].filterMap id else []
  let ends := (ps.flatMap fun p => p.pieces.map (·.stage)).filter fun j => j != k && (stgNext s j).isNone
  (out ++ ends).map (stgHy s)

/-- A step of a stage (R277, R284, R286, R287, R294). -/
def pclStep (s : State) (a : PAct) (x : Nat) : State :=
  let k := nfld a.arg 3 0
  let s := if a.sync then s else sputb s .pcl (stgOff k 0x14) 16 true
  s.parcels.foldl (fun s cp =>
    let c := cp.1
    let p := tget s.pcl.parcels c
    let holds := !(p.placements k).isEmpty
    let s := if !a.sync && holds then s.modParcel c fun p => p.flag 11 else s
    if !holds || p.closing.isSome then s
    else
      let s := s.modParcel c fun p => let p := parcelStep s k a.tick x a.fngen a.sync p; { p with r := parcelRest s a.tick p }
      if (tget s.pcl.parcels c).r < 328 then parcelClose s c (ms 300) else s) s

/-! ### Measurements -/

/-- The amount of a parcel at the exit of stage `k` for the positions [a, b) (R290). -/
def parcelAmt (s : State) (k a b : Nat) (p : Parcel) : Nat :=
  let w := stgW s k
  (p.placements k).foldl (fun t q =>
    let x0 := q.2 + stgD s k
    let sum := (List.range 16).foldl (fun u j => u + stgH s k j * (min b (x0 + (j + 1) * w) - max a (x0 + j * w))) 0
    t + sum * q.1 * 2 ^ 15 / max 1 (w * stgS s k)) 0 * p.z

/-- The shares of a value among amounts (context, PID, amount): floors, the remainder to the largest amount, the lowest
PID among equals (R291). -/
def shareOut (v : Int) (as : List (Nat × Nat × Nat)) : List (Nat × Int) :=
  let tot : Int := (as.foldl (fun t x => t + x.2.2) 0 : Nat)
  let fl := as.map fun x => (x.1, v * (x.2.2 : Int) / tot)
  let rest := v - fl.foldl (fun t x => t + x.2) 0
  let best := as.foldl (fun m x => match m with
    | none => some x
    | some y => if y.2.2 < x.2.2 ∨ (y.2.2 = x.2.2 ∧ x.2.1 < y.2.1) then some x else some y) none
  fl.map fun x => match best with
    | some y => if y.1 = x.1 then (x.1, x.2 + rest) else x
    | none => x

/-- A saturating sum with the SAT flag (R293). -/
def Parcel.satAdd (p : Parcel) (a v lim : Nat) : Nat × Parcel :=
  if lim < a + v then (lim, p.flag 14) else (a + v, p)

/-- A parcel takes its share of a measurement (R293): `g` the shared value, `amt` its amount. -/
def parcelTake (p : Parcel) (m : PMeas) (g h : Int) (amt : Nat) : Parcel :=
  match m.kind with
  | .loss =>
    let a := p.satAdd (p.impacts.getD m.grp 0) g.toNat 65535
    let b := a.2.satAdd (p.grain.getD m.grp 0) h.toNat 65535
    { b.2 with impacts := b.2.impacts.set m.grp a.1, grain := b.2.grain.set m.grp b.1 }.flag 3
  | .mass =>
    let a := p.satAdd p.mass g.toNat (2 ^ 32 - 1)
    { a.2 with mass := a.1 }.flag 0
  | .moist => { p with mw := p.mw + g * m.vals.getD 1 0, mm := p.mm + g.toNat }.flag 1
  | .qual =>
    let w := amt / 2 ^ 16
    { p with qw := (List.range 4).map fun i => p.qw.getD i 0 + w * m.vals.getD i 0, qm := p.qm + w }.flag 2

/-- A measurement is attributed (R290, R291). -/
def pclAttribute (s : State) (m : PMeas) : State :=
  match histAt s (stgHy s m.stage) m.ta, histAt s (stgHy s m.stage) m.tb with
  | some a, some b =>
    let as := (s.parcels.map fun cp => (cp.1, cp.2.pid, parcelAmt s m.stage a b cp.2)).filter fun x => x.2.2 != 0
    if as.isEmpty then scount s .pcl 0x6C 1
    else
      let g := shareOut (m.vals.getD 0 0) as
      let h := shareOut (m.vals.getD 1 0) as
      as.foldl (fun s x =>
        let share (t : List (Nat × Int)) : Int := ((t.find? fun y => y.1 == x.1).getD (0, 0)).2
        let gv := share g
        let hv := share h
        let idle := match m.kind with
          | .loss => gv == 0 && hv == 0
          | .qual => false
          | _ => gv == 0
        if idle then s else s.modParcel x.1 fun p => parcelTake p m gv hv x.2.2) s
  | _, _ => scount s .pcl 0x64 1

/-! ### The input queue -/

/-- The measurement's kind as MDROP codes it (R302). -/
def MKind.code : MKind → Nat
  | .loss => 0
  | .mass => 1
  | .moist => 2
  | .qual => 3

/-- A measurement is dropped (R292). -/
def measDrop (s : State) (k : MKind) (stage : Nat) : State :=
  let s := sputb (scount s .pcl 0x68 1) .pcl 4 0 true
  let s := s.modPcl fun x => { x with parcels := tmap x.parcels fun _ p => if (p.placements stage).isEmpty then p else p.flag 10 }
  postEngine s .pcl 3 (k.code + stage * 2 ^ 8)

/-- A measurement reaches the queue (R292). -/
def measSubmit (s : State) (m : PMeas) : State :=
  if !pclRuns s then s
  else if 224 ≤ s.pcl.queue.length then measDrop s m.kind m.stage
  else s.modPcl fun x => { x with queue := x.queue ++ [.meas m] }

/-- Whether a halyard is sampled (R276): it is a halyard of an enabled stage, or the distance halyard. -/
def histWanted (s : State) (n : Nat) : Bool :=
  ((List.range 12).any fun k => stgEn s k && stgHy s k == n) || sfld s .pcl 0x1C 31 28 == n

/-- Whether the history has come to a tick on a halyard. -/
def histReady (s : State) (n t : Nat) : Bool :=
  match histNewest s n with
  | some u => decide (t ≤ u)
  | none => false

/-- Whether a queue entry can be handled now (R276). -/
def entryReady (s : State) : PEntry → Bool
  | .act a => !createWaits s a && (!stgEn s (nfld a.arg 3 0) || (histReady s (stgHy s (nfld a.arg 3 0)) a.tick &&
      (!nbit a.arg 15 || histReady s (sfld s .pcl 0x1C 31 28) a.tick)))
  | .meas m => !histWanted s (stgHy s m.stage) || histReady s (stgHy s m.stage) m.tb

/-- An action is handled (R277, R278). -/
def pclAct (s : State) (a : PAct) : State :=
  let k := nfld a.arg 3 0
  if !stgEn s k then (if nbit a.arg 15 then s else scount s .pcl 0x60 1)
  else match histAt s (stgHy s k) a.tick with
    | none => scount s .pcl 0x64 1
    | some x =>
      if !nbit a.arg 15 then
        (if (stepNeeds s k x a.sync).all fun n => (histAt s n a.tick).isSome then pclStep s a x else scount s .pcl 0x64 1)
      else match histAt s (sfld s .pcl 0x1C 31 28) a.tick with
        | none => scount s .pcl 0x64 1
        | some d => pclCreate s a x d

/-- `n` of the actions at the head of the queue are handled in order, up to the first that is not ready and the first
measurement. -/
def pclHandle (s : State) : Nat → State
  | 0 => s
  | n + 1 => match s.pcl.queue with
    | .act a :: q => if entryReady s (.act a) then pclHandle (pclAct (s.modPcl fun x => { x with queue := q }) a) n else s
    | _ => s

/-- The actions at the head of the queue that are ready are handled in order, up to the first measurement; none after a hard fault
or in HOLD-UP (R300, R301). -/
def pclPump (s : State) : State :=
  if s.faulty .pcl ∨ s.sup.power = .holdup then s else pclHandle s s.pcl.queue.length

/-- A PARCEL action of the owning lane reaches the queue (R141, R278, R280), which drops none for lack of room (R292). -/
def pclAction (s : State) (l : LaneId) (arg tick : Nat) : State :=
  if !pclRuns s ∨ !s.owns l then s
  else
    let a : PAct := { arg := arg, tick := tick, htb := s.now, width := sfld s .pcl 0x18 16 0, fix := s.pcl.fix,
                      fixNew := s.pcl.fixNew, fngen := sget s .hsi 0x10,
                      sync := inSync s l (stgHy s (nfld arg 3 0)), clock := localCount s, state := s.tim.cstate.code }
    pclPump (s.modPcl fun x => { x with queue := x.queue ++ [.act a] })

/-- PARCEL_CREATE (R278): a PARCEL action with CREATE reaches PCL from a lane. -/
def execParcelCreate (l : LaneId) (stage : Fin 16) (tag : BitVec 11) (s : State) : Out :=
  act s (pclAction s l (stage.val + tag.toNat * 16 + 2 ^ 15) s.now)

/-- PARCEL_STEP (R277): a PARCEL action with CREATE = 0 reaches PCL. -/
def execParcelStep (l : LaneId) (stage : Fin 16) (s : State) : Out := act s (pclAction s l stage s.now)

/-- POSITION_HISTORY_SAMPLE (R276): at every HTB tick that is a multiple of 4,096. -/
def execPositionHistorySample (s : State) : Out :=
  act s (if s.now % 4096 ≠ 0 ∨ s.faulty .pcl then s
    else
      let s := (List.range 16).foldl (fun s n =>
        if histWanted s n && histNewest s n != some s.now then
          let p := hyPos s s.sup.engOwner n
          s.modPcl fun x => { x with hist := tmod x.hist n fun h => ((s.now, p) :: h).take 16384 }
        else s) s
      pclPump s)

/-- MEASUREMENT_ATTRIBUTE (R290): PCL takes the measurement at the head of its queue. -/
def execMeasurementAttribute (s : State) : Out :=
  act s (if s.faulty .pcl ∨ s.sup.power = .holdup then s
    else match s.pcl.queue with
      | .meas m :: q =>
        if entryReady s (.meas m) then pclPump (pclAttribute (s.modPcl fun x => { x with queue := q }) m) else s
      | _ => s)

/-- A loss window of sensor group `g` is handed to the tracker (R288). -/
def lossMeasure (s : State) (g opened dur count grain : Nat) : State :=
  let k := nfld (sget s .pcl 0x3C) (4 * g + 3) (4 * g)
  if 12 ≤ k then s
  else measSubmit s { kind := .loss, stage := k, ta := opened, tb := opened + dur, grp := g, vals := [count, grain] }

/-- A snapshot of an ADC group is handed to the tracker (R288, R289): values and faults by input, as its record shows them. -/
def snapMeasure (s : State) (g tick : Nat) (vals : List Int) (flts : List Bool) : State :=
  let cfg := sget s .pcl 0x40
  let prev := tget s.pcl.snapPrev g
  let s := if pclRuns s then s.modPcl fun x => { x with snapPrev := tset x.snapPrev g (some tick) } else s
  if !pclRuns s ∨ nfld cfg 31 31 = 0 ∨ nfld cfg 20 16 ≠ g then s
  else
    let k := nfld cfg 27 24
    match prev with
    | none => s
    | some t0 =>
      let dt := min (tick - t0) 25000000
      let v := max (vals.getD (nfld cfg 5 0) 0) 0
      let gr := v * (sget s .pcl 0x44 : Int) * dt / (32768 * 250000000)
      let s := if flts.getD (nfld cfg 5 0) true then measDrop s .mass k
        else measSubmit s { kind := .mass, stage := k, ta := tick - dt, tb := tick, vals := [gr] }
      if nfld cfg 15 15 = 0 then s
      else if flts.getD (nfld cfg 13 8) true then measDrop s .moist k
      else if flts.getD (nfld cfg 5 0) true ∨ gr ≤ 0 then s
      else measSubmit s { kind := .moist, stage := k, ta := tick - dt, tb := tick, vals := [gr, vals.getD (nfld cfg 13 8) 0] }

/-- A write of QCMD (R288). -/
def qualSubmit (s : State) (l : LaneId) (v : Nat) : State :=
  gated s l .pcl 0x58 fun s =>
    let a := extend32 s.now (sget s .pcl 0x50)
    let b := extend32 s.now (sget s .pcl 0x54)
    if b ≤ a ∨ 12 ≤ v % 16 then reject s l .pcl 0x58 rRANGE
    else
      let q (off lo : Nat) : Int := signed 16 (sfld s .pcl off (lo + 15) lo)
      measSubmit s { kind := .qual, stage := v % 16, ta := a, tb := b, vals := [q 0x48 0, q 0x48 16, q 0x4C 0, q 0x4C 16] }

/-- QUAL_SUBMIT (R288). -/
def execQualSubmit (l : LaneId) (v : Word) (s : State) : Out := act s (qualSubmit s l v.toNat)

/-- A write of POSTICK commits a fix (R280). -/
def fixCommit (s : State) (l : LaneId) (v : Nat) : State :=
  gated s l .pcl 0x30 fun s => s.modPcl fun x => { x with
    fixNew := true
    fix := some (sget s .pcl 0x20 + sget s .pcl 0x24 * 2 ^ 32, sget s .pcl 0x28 + sget s .pcl 0x2C * 2 ^ 32,
      extend32 s.now v) }

/-- FIX_COMMIT (R280). -/
def execFixCommit (l : LaneId) (v : Word) (s : State) : Out := act s (fixCommit s l v.toNat)

/-! ### Ends -/

/-- CLOSING_GRACE_END (R294): the grace of a closing parcel is over and the staging buffer has room. -/
def execClosingGraceEnd (c : Fin 1024) (s : State) : Out :=
  act s (match tfind s.pcl.parcels c.val with
    | some p => if due p.closing s.now && stagingRoom s && !s.faulty .pcl then parcelFinish s c else s
    | none => s)

/-- PARCEL_EXPIRE (R294): a live parcel's age has reached MAXLIFE. -/
def execParcelExpire (c : Fin 1024) (s : State) : Out :=
  act s (match tfind s.pcl.parcels c.val with
    | some p =>
      if p.closing.isNone ∧ !s.faulty .pcl ∧ p.tick + ms (1000 * sfld s .pcl 0x38 9 0) ≤ s.now then
        (parcelClose s c (ms 300)).modParcel c fun p => p.flag 6
      else s
    | none => s)

/-- Whether NEXT from a stage reaches END within `n` steps through enabled stages (R275). -/
def chainEnds (s : State) : Nat → Nat → Bool
  | 0, _ => false
  | n + 1, k => stgEn s k && match stgNext s k with
    | none => true
    | some m => chainEnds s n m

/-- A write of PCL.CTRL (R275, R294). -/
def pclCtrl (s : State) (l : LaneId) (v : Nat) : State :=
  gated s l .pcl 0 fun s =>
    let was := sfld s .pcl 0 1 1
    let on := nfld v 1 1
    let en := (List.range 12).filter (stgEn s)
    let chain := en.all fun k => chainEnds s 12 k && (match stgRet s k with | some r => stgEn s r | none => true)
    let rej := if was = 0 ∧ on = 1 then
        (if !chain then 0x10 else if en.any fun k => stgS s k == 0 then 0x11 else 0) else 0
    if rej ≠ 0 then reject s l .pcl 0 rej
    else
      let s := sputf s .pcl 0 31 31 (sfld s .pcl 0 31 31 ||| nfld v 31 31)
      let s := if was = 1 ∧ on = 0 then pclHalt s else s
      let s := sput s .pcl 0 (nset (nset (nset (sget s .pcl 0) 10 8 (nfld v 10 8)) 0 0 v) 1 1 on)
      if was = 0 ∧ on = 1 then s.modPcl fun x => { x with ref := none, fixNew := false, snapPrev := [] } else s

/-- PCL_RUN (R275): a write of RUN, the rest of CTRL kept. -/
def execPclRun (l : LaneId) (on : Bool) (s : State) : Out :=
  act s (pclCtrl s l (nset (sget s .pcl 0) 1 1 (b2n on)))

/-- CMD YREAD (R298). -/
def yreadCmd (s : State) (l : LaneId) : State :=
  let idx := sget s .pcl 0xC0 + sget s .pcl 0xC4 * 2 ^ 32
  let n := sfld s .pcl 0xCC 6 0
  if s.pcl.read.isSome then reject s l .pcl 8 rBUSY
  else if n = 0 ∨ 64 < n ∨ idx < s.pcl.yold ∨ s.pcl.yidx < idx + n then reject s l .pcl 8 rRANGE
  else s.modPcl fun x => { x with read := some { idx := idx, cnt := n, buf := sget s .pcl 0xC8 } }

/-- A write that YREAD needs (R298, R300): from the owner it is taken after a hard fault too. DESIGN CHOICE: R300 keeps the stored
records readable by YREAD and rejects every write but CMDERR's; of the two the model keeps YREAD usable. -/
def yreadGate (s : State) (l : LaneId) (off : Nat) (k : State → State) : State :=
  if !s.owns l then reject s l .pcl off rNOTOWNER else k s

/-- A write of PCL.CMD (R294, R298). -/
def pclCmd (s : State) (l : LaneId) (v : Nat) : State :=
  if nfld v 31 28 = 2 then yreadGate s l 8 fun s => yreadCmd s l
  else gated s l .pcl 8 fun s => if nfld v 31 28 = 1 then pclFlushAll s else reject s l .pcl 8 rRANGE

/-- A write of YRDIDX, YRDBUF or YRDCNT (R298, R303): YRDBUF is a multiple of 128 in GiB 0. -/
def yrdWrite (s : State) (l : LaneId) (off v : Nat) : State :=
  yreadGate s l off fun s =>
    if off = 0xC8 ∧ offsetBad v 128 then reject s l .pcl off rRANGE else regPlain s l .pcl off v

/-- PCL_FLUSH (R294). -/
def execPclFlush (l : LaneId) (s : State) : Out := act s (pclCmd s l (2 ^ 28))
/-- YREAD (R298). -/
def execYread (l : LaneId) (s : State) : Out := act s (pclCmd s l (2 * 2 ^ 28))

/-- YREAD_DONE (R298): the copy is complete; not while the fabric grants the NAND controller nothing (R476, R477). -/
def execYreadDone (s : State) : Out :=
  act s (match s.pcl.read with
    | none => s
    | some r =>
      if rqBlocked s 13 then s else
      let s := (List.range r.cnt).foldl (fun s k => match tfind s.pcl.store (r.idx + k) with
        | some b => dramWrite s 0 (r.buf + 128 * k) b
        | none => s) s
      postEngine (s.modPcl fun x => { x with read := none }) .pcl 4 r.cnt)

/-- YIELD_STORED (R296, R297): the oldest staged record is in flash and takes a YIDX; a full store gives up its oldest
record, which is lost when it was not exported. In BENCH the store is not written (R553). -/
def execYieldStored (s : State) : Out :=
  act s (match s.pcl.staging with
    | [] => s
    | b :: q =>
      if s.faulty .pcl ∨ s.sup.modMode = .bench then s
      else
        let y := s.pcl.yidx
        let full := decide (402653184 ≤ y - s.pcl.yold)
        let lost := full && decide (s.pcl.yexp ≤ s.pcl.yold)
        let s := s.modPcl fun x => { x with
          staging := q, store := tset (if full then tdel x.store x.yold else x.store) y b, yidx := y + 1,
          storedAt := tset x.storedAt y s.now, yold := if full then x.yold + 1 else x.yold,
          yexp := if lost then x.yold + 1 else x.yexp, ysent := if lost then max x.ysent (x.yold + 1) else x.ysent
          ylost := if lost then min (x.ylost + 1) 65535 else x.ylost }
        let s := if !lost then s
          else
            let s := postEngine (scount s .pcl 0xB4 1) .pcl 5 s.pcl.ylost
            if sfld s .pcl 0 0 0 = 1 then s.modPcl fun x => { x with ylost := 0 } else s
        pclPump s)

/-! ### Registers -/

/-- The registers of PCL that the state answers (R303). -/
def pclRead (s : State) (l : LaneId) (off : Nat) : Option (Nat × State) :=
  if off = 4 then
    some (nfld (sget s .pcl 4) 1 0 + b2n s.pcl.read.isSome * 4 + b2n (s.faulty .pcl) * 8, s)
  else if off = 0x10 then some (s.parcels.length, s)
  else if off = 0xA0 then some (s.pcl.yidx % 2 ^ 32, rset s l (Block.pcl.base + 0xA4) (s.pcl.yidx / 2 ^ 32))
  else if off = 0xA8 then some (s.pcl.yexp % 2 ^ 32, rset s l (Block.pcl.base + 0xAC) (s.pcl.yexp / 2 ^ 32))
  else if 0x200 ≤ off ∧ off < 0x500 then
    let k := (off - 0x200) / 0x40
    match off % 0x40 with
    | 0x10 =>
      let c := if sfld s .pcl 0 1 1 = 1 then stgCoff s k else 0
      some (c % 2 ^ 32, rset s l (Block.pcl.base + stgOff k 0x18) (c / 2 ^ 32 % 2 ^ 24))
    | 0x14 =>
      some (sfld s .pcl off 16 16 * 65536 +
        s.parcels.foldl (fun n cp => n + (cp.2.pieces.filter fun x => x.stage == k).length) 0, s)
    | _ => none
  else if 0x10000 ≤ off ∧ off < 0x30000 then
    let c := (off - 0x10000) / 0x80
    match tfind s.pcl.parcels c with
    | none => some (0, s)
    | some p =>
      let p := if p.closing.isSome then p else { p with endshare := p.r, life := min ((s.now - p.tick) / ms 10) 65535 }
      some (leAt (parcelBytes s p) ((off - 0x10000) % 0x80) 4, s)
  else none

/-- The writes of PCL that have an effect of their own; descriptors are written while RUN = 0 only (R275). -/
def pclWrite (s : State) (l : LaneId) (off v : Nat) : Option State :=
  match off with
  | 0x00 => some (pclCtrl s l v)
  | 0x08 => some (pclCmd s l v)
  | 0x30 => some (fixCommit s l v)
  | 0x58 => some (qualSubmit s l v)
  | 0xC0 | 0xC4 | 0xC8 | 0xCC => some (yrdWrite s l off v)
  | _ =>
    if 0x80 ≤ off ∧ off < 0x98 then some (ringWrite s l .pcl 0x80 (off - 0x80) 128 v)
    else if 0x200 ≤ off ∧ off < 0x500 ∧ (off % 0x40 < 0x10 ∨ 0x20 ≤ off % 0x40) ∧ sfld s .pcl 0 1 1 = 1 then
      some (gated s l .pcl off fun s => reject s l .pcl off rSTATE)
    else none

end Sys2Proof.Machine
end

