-- ==== Sys2Proof/Machine/JobStream.lean ====
section
/-! DEFINITION. Job streams: acceptance, sending (spec/14 R439–R450, spec/03 R105). -/

namespace Sys2Proof.Machine

/-- What a step on a stream does beside the stream: a posting, a count, an acceptance, an answer to PEER, a job message, a copy
(or with no bytes the mark of a completed job) for the standby module. -/
inductive HEff where
  | post (code data : Nat)
  | count (off : Nat)
  | accepted
  | reply (ty seq flags reason : Nat)
  | tx (j : Job)
  | jrep (seq : Nat) (b : List Byte)

/-- A message without payload for the far end of a stream (R437, R438). -/
def strReply (s : State) (n ty seq flags reason : Nat) : State :=
  let loc := strGet s n 4
  let j : Job := { dest := strGet s n 8, src := loc, stream := n, epoch := epochOf s loc, seq := seq,
                   session := (s.str s.sup.active n).session, flags := flags, reason := reason }
  strSend s n j.dest (msgBytes ty (j.sealedAs ty))

/-- A JREP for the standby module of the hoist that a stream's LOCAL names (R446, R450). -/
def strCopy (s : State) (n seq : Nat) (b : List Byte) : State :=
  match lvlOfUnit s (strGet s n 4) with
  | none => s
  | some k => match (s.lvl k).stby with
    | some (m, true) => peerSend s 6 m (ownUnit s)
        { stream := n, epoch := (s.lvl k).epoch, seq := seq, session := (s.str s.sup.active n).session, body := b }
    | some (_, false) => s.modLvl k fun x => { x with dirty := true }
    | none => s

/-- A job is accepted: JCNT, and JMARK of the hoist (R451); one that a module being resynchronised has no record of goes to it with
the next records (R458). -/
def jobCounted (s : State) (n : Nat) : State :=
  let s := rwrap s .a (Block.hst.base + 0x44) 1
  match lvlOfUnit s (strGet s n 4) with
  | some k => s.modLvl k fun x => { x with jmark := (x.jmark + 1) % 2 ^ 32, dirty := x.dirty || x.stby.any fun p => !p.2 }
  | none => s

/-- Carry out what a step on a stream does beside it. -/
def HEff.run (n : Nat) (s : State) : HEff → State
  | .post c d => postStream s n c d
  | .count off => hcount s off
  | .accepted => jobCounted s n
  | .reply ty seq fl r => strReply s n ty seq fl r
  | .tx j => strSend s n j.dest (jobBytes j)
  | .jrep seq b => strCopy s n seq b

/-- A step on a stream, in both lanes' HST (R105); what it does beside the stream is the active lane's. -/
def onStream (s : State) (n : Nat) (f : HStream → HStream × List HEff) : State :=
  let e := (f (s.str s.sup.active n)).2
  e.foldl (HEff.run n) (s.modStrs n fun x => (f x).1)

/-- Bytes of a lane's journal in use: by accepted jobs that are not completed, by the job being journaled, by copies. -/
def juseBytes (s : State) (l : LaneId) : Nat :=
  (s.lane l).strs.foldl (fun a p =>
    (p.2.jobs.map (·.1) ++ (p.2.jour.map (·.1)).toList ++ p.2.copies).foldl (fun a j => a + 32 + j.body.length) a) 0

/-- Why the state check refuses a job on a stream now, or 0 (R448). -/
def refuse (s : State) (n : Nat) (j : Job) (x : HStream) : Nat :=
  match x.st with
  | .closed => 1
  | .paused => 2
  | .opened | .stalled =>
    if nfld (strGet s n 0) 23 16 ≤ x.jobs.length then 3
    else if 16384 * 1024 < juseBytes s s.sup.active + 32 + j.body.length + 1023 then 4
    else if s.sup.power = .holdup then 5
    else match lvlOfUnit s j.dest with
      | some k => if !hasStandby s k && !soloSet s then 6 else 0
      | none => 0

/-- Whether a job needs a standby's confirmation (R446, R447). -/
def needsPeer (s : State) (j : Job) : Bool :=
  match lvlOfUnit s j.dest with
  | some k => hasStandby s k
  | none => false

/-- The state check of the next job (R448): it is journaled, or refused. -/
def checkState (s : State) (n : Nat) (j : Job) (x : HStream) : HStream × List HEff :=
  match refuse s n j x with
  | 0 => ({ x with jour := some (j, false, !needsPeer s j) }, if needsPeer s j then [.jrep j.seq (jobBytes j)] else [])
  | r => (x, [.count 0x50, .post 4 r, .reply 4 j.seq 0 r])

/-- The next job in sequence leaves the held ones (R445). -/
def pullHeld (s : State) (n : Nat) (x : HStream) : HStream × List HEff :=
  if x.jour.isSome then (x, [])
  else match x.held.find? fun j => j.seq == (x.seqA + 1) % 2 ^ 32 with
    | some j => checkState s n j { x with held := x.held.erase j }
    | none => (x, [])

/-- Whether a job is accepted on one place (R447): FLAGS.ONECOPY, in two cases only. -/
def oneCopy (s : State) (j : Job) : Bool :=
  match lvlOfUnit s j.dest with
  | some k => !hasStandby s k && soloSet s
  | none => unitKind j.dest == 2 && s.sup.laneMode != .dual

/-- What accepting a job does beside the stream (R447): counted, ACCEPTED posted, acknowledged. -/
def acceptEffs (s : State) (j : Job) : List HEff :=
  [.accepted, .post 1 j.seq, .reply 2 j.seq (b2n (oneCopy s j) * 4) 0]

/-- The journaled job is accepted when every place has confirmed (R447). -/
def settle (s : State) (n : Nat) (x : HStream) : HStream × List HEff :=
  match x.jour with
  | some (j, true, true) =>
    let x := { x with jour := none, seqA := j.seq, jobs := x.jobs ++ [(j, false)] }
    let r := pullHeld s n x
    (r.1, acceptEffs s j ++ r.2)
  | _ => (x, [])

/-- The offset of a sequence number (R444). -/
def seqOff (x : HStream) (seq : Nat) : Int := signed 32 (seq + 2 ^ 32 - (x.seqA + 1) % 2 ^ 32)

/-- A job enters the held places when there is room and no other of its number (R445). -/
def hold (j : Job) (x : HStream) : Option HStream :=
  if x.held.any fun h => h.seq == j.seq then some x
  else if x.held.length < 8 then some { x with held := x.held ++ [j] }
  else none

/-- A job reaches the HST that answers for its unit (R444, R445). The ACK of a duplicate carries the highest number accepted
(R438), with DONE when the job that came again is completed. -/
def recvJob (s : State) (n : Nat) (j : Job) (x : HStream) : HStream × List HEff :=
  if j.epoch < x.epoch then (x, [.count 0x58])
  else
    let x := { x with epoch := j.epoch }
    let d := seqOff x j.seq
    if x.jour.any fun y => y.1.seq == j.seq then (x, [])
    else if d < 0 then
      (x, [.count 0x48, .reply 2 x.seqA (1 + 2 * b2n (!(x.jobs.any fun y => y.1.seq == j.seq && y.1.session == j.session))) 0])
    else if d = 0 then checkState s n j x
    else if d ≤ 8 then
      match hold j x with
      | some y => (y, [])
      | none => (x, [.count 0x4C, .reply 3 ((x.seqA + 1) % 2 ^ 32) 0 0])
    else (x, [.count 0x4C, .reply 3 ((x.seqA + 1) % 2 ^ 32) 0 0])

/-- A standby module holds a job (R449); the highest epoch seen from PEER is the stream's there too (R444). -/
def standbyHold (j : Job) (x : HStream) : HStream × List HEff :=
  if j.epoch < x.epoch then (x, [.count 0x58])
  else
    let x := { x with epoch := j.epoch }
    let d := seqOff x j.seq
    if d < 0 ∨ 8 < d then (x, []) else ((hold j x).getD x, [])

/-- Whether a sequence number comes after another (modulo 2³²). -/
def seqAfter (a b : Nat) : Bool := decide (0 < signed 32 (a + 2 ^ 32 - b % 2 ^ 32))

/-- Whether a message is one of an open session of a stream in a direction: the state after the counts, and the answer. -/
def sessionOk (s : State) (j : Job) (send : Bool) : State × Bool :=
  if nbit (strGet s j.stream 0) 31 ≠ send then (s, false)
  else if j.session ≠ (s.str s.sup.active j.stream).session then (hcount s 0x58, false)
  else (s, true)

/-- A JOB message (R442, R444, R449). DESIGN CHOICE: one whose DEST is not the LOCAL of its stream is dropped. -/
def jobMsg (s : State) (j : Job) : State :=
  let n := j.stream
  if strGet s n 4 ≠ j.dest then s
  else
    let r := sessionOk s j false
    let s := r.1
    if !r.2 then s
    else match lvlOfUnit s j.dest with
      | none => if unitKind j.dest = 3 then s else onStream s n (recvJob s n j)
      | some k => match (s.lvl k).role with
        | 0 => onStream s n (recvJob s n j)
        | 2 => onStream s n (standbyHold j)
        | _ => s

/-- JOB_ACCEPT (R447): the module's own places have confirmed the job being journaled on a stream. A job for a lane or a core has
its second place in the other lane and is not accepted without it. -/
def execJobAccept (n : Fin 1024) (s : State) : Out :=
  act s (if !hstUp s ∨ (unitKind (strGet s n 4) < 2 ∧ s.sup.laneMode ≠ .dual) then s
    else onStream s n fun x => settle s n { x with jour := x.jour.map fun y => (y.1, true, y.2.2) })

/-- A JREP message (R442, R449, R450): a copy, or with LEN 0 the mark of a completed job, which covers every earlier one (R438). -/
def jrepMsg (s : State) (j : Job) : State :=
  let n := j.stream
  match lvlOfUnit s (strGet s n 4) with
  | none => s
  | some k =>
    if j.session ≠ (s.str s.sup.active n).session ∨ j.epoch < (s.lvl k).epoch then hcount s 0x58
    else if (s.lvl k).epoch < j.epoch then epochSeen s k j.epoch j.src
    else if (s.lvl k).role ≠ 2 then s
    else if j.body.isEmpty then
      s.modStrs n fun x => { x with seqB := j.seq, copies := x.copies.filter fun c => c.session != j.session || seqAfter c.seq j.seq }
    else if !msgOk j.body then hcount s 0x54
    else
      let s := s.modStrs n fun x => { x with
        seqA := j.seq, epoch := max x.epoch (msgJob j.body).epoch, copies := x.copies ++ [msgJob j.body]
        held := x.held.filter fun h => h.seq != j.seq }
      let s := s.modLvl k fun x => { x with jmark := (x.jmark + 1) % 2 ^ 32 }
      peerSend s 7 (nfld j.src 29 16) (ownUnit s) { stream := n, epoch := (s.lvl k).epoch, seq := j.seq, session := j.session }

/-- A JREPACK message (R446, R447). -/
def jrepackMsg (s : State) (j : Job) : State :=
  let n := j.stream
  match lvlOfUnit s (strGet s n 4) with
  | none => s
  | some k =>
    if j.session ≠ (s.str s.sup.active n).session ∨ j.epoch ≠ (s.lvl k).epoch then hcount s 0x58
    else if (s.lvl k).role ≠ 0 then s
    else onStream s n fun x => match x.jour with
      | some (y, own, _) => if y.seq = j.seq then settle s n { x with jour := some (y, own, true) } else (x, [])
      | none => (x, [])

/-! ### Sending -/

/-- The retransmission time of a stream. -/
def rtoOf (s : State) (n : Nat) : Nat := us (10 * nfld (strGet s n 0xC) 31 16)

/-- The key of an export job (R297): its stream and its SEQ. -/
def yjobKey (n seq : Nat) : Nat := n * 2 ^ 32 + seq

/-- YEXP advances past the records of the export jobs of a stream that were accepted (R297). -/
def yieldAcked (p : PclSt) (n : Nat) (js : List Job) : PclSt :=
  js.foldl (fun p j => match tfind p.yjobs (yjobKey n j.seq) with
    | some e => if j.kind = 0x8001 then { p with yexp := max p.yexp e, yjobs := tdel p.yjobs (yjobKey n j.seq) } else p
    | none => p) p

/-- An ACK message (R450): every job up to its SEQ is released; when that is the refused one, those that waited unsent leave. -/
def ackMsg (s : State) (j : Job) : State :=
  let n := j.stream
  let r := sessionOk s j true
  let s := r.1
  if !r.2 then s
  else
    let x := s.str s.sup.active n
    if j.epoch < x.epoch then hcount s 0x58
    else
      let s := match lvlOfUnit s j.src with
        | some k => epochSeen s k j.epoch j.src
        | none => s
      let gone (y : Job) : Bool := decide (signed 32 (j.seq + 2 ^ 32 - y.seq % 2 ^ 32) ≥ 0)
      let out := x.sent.filter gone
      let waiting (x : HStream) : List Job :=
        if x.refused.any fun p => gone { seq := p.1 } then
          x.sent.filter fun y => !gone y && decide (0 < signed 32 (y.seq + 2 ^ 32 - x.txTo % 2 ^ 32))
        else []
      let s := onStream s n fun x =>
        let some' := x.sent.any gone
        ({ x with
            epoch := j.epoch, sent := x.sent.filter fun y => !gone y, seqB := if some' then j.seq else x.seqB,
            tries := if some' then 0 else x.tries, rtoAt := if some' then s.now + rtoOf s n else x.rtoAt,
            refused := x.refused.filter fun p => !gone { seq := p.1 }
            txTo := (waiting x).foldl (fun _ y => y.seq) x.txTo },
         (waiting x).map .tx ++ [.post 2 j.seq])
      s.modPcl fun p => yieldAcked p n out

/-- A GAP message (R450): every job from its SEQ is sent again at once. -/
def gapMsg (s : State) (j : Job) : State :=
  let r := sessionOk s j true
  if !r.2 then r.1
  else onStream r.1 j.stream fun x =>
    let again := x.sent.filter fun y => decide (0 ≤ signed 32 (y.seq + 2 ^ 32 - j.seq % 2 ^ 32))
    ({ x with rtoAt := s.now + rtoOf s j.stream, txTo := again.foldl (fun _ y => y.seq) x.txTo }, again.map .tx ++ [.post 3 j.seq])

/-- A STATE message (R450): the refused job is sent again every BACKOFF. -/
def stateMsg (s : State) (j : Job) : State :=
  let r := sessionOk s j true
  if !r.2 then r.1
  else onStream r.1 j.stream fun x =>
    if x.sent.any fun y => y.seq == j.seq then
      ({ x with refused := some (j.seq, s.now + ms (nfld (strGet s j.stream 0xC) 7 0)) }, [.post 4 j.reason])
    else (x, [])

/-- A COMPLETE message (R450). -/
def completeMsg (s : State) (j : Job) : State :=
  let r := sessionOk s j true
  if !r.2 then r.1 else postStream r.1 j.stream 5 j.seq

/-- A message of one TYPE reaches HST; an unsound one counts in BADCNT (R437). What it posts enters in the order of R92. -/
def hstMsg (s : State) (ty : Nat) (b : List Byte) (k : State → Job → State) : State :=
  if !hstUp s then s
  else if !msgOk b then hcount s 0x54
  else if leAt b 1 1 ≠ ty then s
  else atOnce (fun s => k s (msgJob b)) s

/-- JOB_RECEIVE (R444). -/
def execJobReceive (b : List (BitVec 8)) (s : State) : Out := act s (hstMsg s 1 b jobMsg)
/-- ACK_RECEIVE (R450). -/
def execAckReceive (b : List (BitVec 8)) (s : State) : Out := act s (hstMsg s 2 b ackMsg)
/-- GAP_RECEIVE (R450). -/
def execGapReceive (b : List (BitVec 8)) (s : State) : Out := act s (hstMsg s 3 b gapMsg)
/-- STATE_RECEIVE (R450). -/
def execStateReceive (b : List (BitVec 8)) (s : State) : Out := act s (hstMsg s 4 b stateMsg)
/-- COMPLETE_RECEIVE (R450). -/
def execCompleteReceive (b : List (BitVec 8)) (s : State) : Out := act s (hstMsg s 5 b completeMsg)
/-- JREP_RECEIVE (R449). -/
def execJrepReceive (b : List (BitVec 8)) (s : State) : Out := act s (hstMsg s 6 b jrepMsg)
/-- JREPACK_RECEIVE (R446). -/
def execJrepackReceive (b : List (BitVec 8)) (s : State) : Out := act s (hstMsg s 7 b jrepackMsg)

/-- JOB_RETRANSMIT (R450): the oldest unacknowledged job has had no ACK for RTO; after RETRY repetitions STALLED. -/
def execJobRetransmit (n : Fin 1024) (s : State) : Out :=
  act s (if !hstUp s then s
    else onStream s n fun x =>
      if x.st ≠ .opened ∨ x.refused.isSome ∨ s.now < x.rtoAt then (x, [])
      else match x.sent with
        | [] => (x, [])
        | j :: _ =>
          if nfld (strGet s n 0xC) 15 12 ≤ x.tries then ({ x with st := .stalled }, [.post 6 j.seq])
          else ({ x with tries := x.tries + 1, rtoAt := s.now + rtoOf s n }, x.sent.map .tx))

/-- JOB_BACKOFF (R450): BACKOFF has passed and the refused job is sent again. -/
def execJobBackoff (n : Fin 1024) (s : State) : Out :=
  act s (if !hstUp s then s
    else onStream s n fun x => match x.refused with
      | some (seq, t) =>
        if t ≤ s.now then
          ({ x with refused := some (seq, s.now + ms (nfld (strGet s n 0xC) 7 0)) }, (x.sent.filter fun y => y.seq == seq).map .tx)
        else (x, [])
      | none => (x, []))

/-- A job enters a send stream of a lane: the stream after, the job with its number (R450). -/
def sendJob (s : State) (n kind : Nat) (body : List Byte) (x : HStream) : HStream × Job :=
  let seq := (x.seqA + 1) % 2 ^ 32
  let loc := strGet s n 4
  let j : Job := { dest := strGet s n 8, src := loc, stream := n, epoch := epochOf s loc, seq := seq, kind := kind,
                   session := x.session, body := body }
  ({ x with
      seqA := seq, sent := x.sent ++ [j.sealed], txTo := if x.refused.isNone then seq else x.txTo
      rtoAt := if x.sent.isEmpty then s.now + rtoOf s n else x.rtoAt },
    j.sealed)

/-- The message of a job that has just entered a send stream leaves (R105, R450): the active lane's, unless the job waits behind
a refused one. -/
def txNew (s : State) (n : Nat) (x : HStream) (j : Job) : State := if x.refused.isNone then HEff.run n s (.tx j) else s

/-- Why a send stream takes no job: 1 WINDOW, 2 CLOSED, 3 LENGTH, or 0 (R102). DESIGN CHOICE: of several reasons the answer is the
first of LENGTH, CLOSED, WINDOW (R102 ranks none). -/
def sendBad (s : State) (n len : Nat) (x : HStream) : Nat :=
  if 1408 < len then 3
  else if !nbit (strGet s n 0) 31 ∨ x.st ≠ .opened then 2
  else if nfld (strGet s n 0) 23 16 ≤ x.sent.length then 1
  else 0

/-- YIELD_BATCH_SEND (R297): BATCH records are stored and unsent, or the oldest of them was stored 100 ms ago; they leave as a
job on the export stream. -/
def execYieldBatchSend (s : State) : Out :=
  let cfg := sget s .pcl 0xB0
  let n := nfld cfg 9 0
  let from' := max s.pcl.ysent s.pcl.yold
  let have' := s.pcl.yidx - from'
  let cnt := min have' (nfld cfg 19 16)
  let old := decide (tget s.pcl.storedAt from' + ms 100 ≤ s.now)
  let x := s.str s.sup.active n
  act s (if nfld cfg 31 31 = 0 ∨ cnt = 0 ∨ s.faulty .pcl ∨ s.sup.modMode = .bench ∨ !hstUp s ∨ (have' < nfld cfg 19 16 ∧ !old) ∨
      sendBad s n (128 * cnt) x ≠ 0 then s
    else
      let body := (List.range cnt).flatMap fun k => sliceB (tget s.pcl.store (from' + k)) 0 128
      (txNew (s.modStrs n fun x => (sendJob s n 0x8001 body x).1) n x (sendJob s n 0x8001 body x).2).modPcl fun p => { p with
        ysent := from' + cnt, yjobs := tset p.yjobs (yjobKey n ((x.seqA + 1) % 2 ^ 32)) (from' + cnt) })

/-! ### Commands -/

/-- A write of HST.CMD on a stream (R442, R443, R450). DESIGN CHOICE: OPEN of a stream that is not CLOSED, CLOSE of a CLOSED one and
RESUME of one that is neither PAUSED nor STALLED are rejected with STATE. -/
def strCmd (s : State) (l : LaneId) (op n : Nat) : State :=
  let x := s.str s.sup.active n
  let no : State := reject s l .hst 8 rSTATE
  let send := nbit (strGet s n 0) 31
  match op with
  | 1 =>
    if x.st ≠ .closed then no
    else s.modStrs n fun x => { st := .opened, session := nfld (strGet s n 0) 15 0, jobs := x.jobs }
  | 2 =>
    if x.st = .closed ∨ (if send then !x.sent.isEmpty else x.seqA != x.seqB || !x.jobs.isEmpty) then no
    else s.modStrs n fun x => { x with st := .closed, jour := none, held := [] }
  | 3 => if x.st ≠ .opened then no else s.modStrs n fun x => { x with st := .paused }
  | _ =>
    match x.st with
    | .paused => onStream s n fun x => pullHeld s n { x with st := .opened }
    | .stalled => onStream s n fun x =>
      ({ x with st := .opened, tries := 0, rtoAt := s.now + rtoOf s n, txTo := x.sent.foldl (fun _ y => y.seq) x.txTo }, x.sent.map .tx)
    | _ => no

end Sys2Proof.Machine
end

