-- ==== Sys2Proof/Machine/Hoist.lean ====
section
/-! DEFINITION. Heartbeats, failover, resynchronisation, forming of hoists, HST's registers (spec/14 R434–R463). -/

namespace Sys2Proof.Machine

/-- The module starts to listen at a level (R461). -/
def listenLevel (s : State) (k : Nat) : State :=
  s.modLvl k fun x => { epoch := x.epoch, maxEpoch := x.epoch, role := 1, listen := some (s.now + lvlMiss s k) }

/-- A start: the module listens at every valid level (R461). -/
def hstListen (s : State) : State :=
  (List.range 6).foldl (fun s k => if lvlOn s k then listenLevel s k else s) s

/-! ### Takeover -/

/-- The receive streams of a unit. -/
def strsOf (s : State) (unit : Nat) : List Nat := (unitStrs s unit).filter fun n => !nbit (strGet s n 0) 31

/-- Jobs that wait for the copy of a standby module that is no longer there: with SOLO one place is enough, else they are refused
(R447, R448). -/
def looseJobs (s : State) (k : Nat) : State :=
  if (s.lvl k).role ≠ 0 ∨ hasStandby s k then s
  else (strsOf s (lvlUnit s k)).foldl (fun s n => onStream s n fun x =>
    match x.jour with
    | some (j, own, false) =>
      if soloSet s then settle s n { x with jour := some (j, own, true) }
      else ({ x with jour := none }, [.count 0x50, .post 4 6, .reply 4 j.seq 0 6])
    | _ => (x, [])) s

/-- The members of a level have changed: the roles follow, then the jobs being journaled. -/
def regroup (s : State) : State := (List.range 6).foldl (fun s k => if lvlOn s k then looseJobs s k else s) (reRole s)

/-- The new ensign accepts the copies that it journaled and that are not completed, marked REPLAY, then goes on with the jobs it
holds whose epoch is not stale (R444, R452, R460). -/
def takeCopies (s : State) (k : Nat) : State :=
  (strsOf s (lvlUnit s k)).foldl (fun s n => onStream s n fun x =>
    let cs := x.copies.filter fun c => c.session != x.session || seqAfter c.seq x.seqB
    let js := cs.map fun c => ({ c with flags := c.flags ||| 8 }, false)
    let stale := x.held.filter fun h => decide (h.epoch < x.epoch)
    let r := pullHeld s n { x with
      copies := [], jobs := x.jobs ++ js, held := x.held.filter fun h => decide (x.epoch ≤ h.epoch) }
    (r.1, cs.flatMap (acceptEffs s) ++ stale.map (fun _ => .count 0x58) ++ r.2)) s

/-- The epoch after one of a hoist (R452): hoist epochs never decrease (R453). DESIGN CHOICE: the last one stays. -/
def nextEpoch (e : Nat) : Nat := min (e + 1) 65535

/-- The module becomes ensign of a level with the epoch raised by one and says so (R452, R454); then it accepts what it holds. -/
def becomeEnsign (s : State) (k : Nat) : State :=
  let e := nextEpoch (s.lvl k).epoch
  let s := s.modLvl k fun x => { x with epoch := e, maxEpoch := max x.maxEpoch e, ensign := some (ownRank s k) }
  takeCopies (sendBeat (setRole s k 0) k (resigning s)) k

/-- The levels above that the lost module spoke for through this hoist (R454): `fuel` levels up from `k`. -/
def takeAbove (s : State) (k : Nat) : Nat → State
  | 0 => s
  | f + 1 =>
    if lvlOn s (k + 1) && (s.lvl (k + 1)).ensign == some (ownRank s (k + 1)) && k + 1 < 6 then
      takeAbove (becomeEnsign s (k + 1)) (k + 1) f
    else s

/-- The standby module takes over (R452, R454): FOCOUNT, FOTIME from the loss to now, the roles. -/
def hoistTakeover (s : State) (k since : Nat) : State :=
  let s := rwrap s .a (Block.hst.base + 0x5C) 1
  let s := sput s .hst 0x60 (min (4 * (s.now - since)) (2 ^ 24 - 1))
  regroup (takeAbove (becomeEnsign s k) k 6)

/-- A member leaves the live ones (R452), lost at an instant; a lost ensign is followed by the standby module. DESIGN CHOICE: the own
hoist's silence at a level above, with its ensign live below, is followed by none. -/
def memberGone (s : State) (k r since : Nat) : State :=
  let was := (s.lvl k).role
  let ens := (s.lvl k).ensign == some r
  let s := s.modLvl k fun x => { x with heard := tdel x.heard r, mods := tdel x.mods r, unfit := tdel x.unfit r }
  let s := postHoist s 0x11 (r + k * 2 ^ 12)
  if ens ∧ was = 2 ∧ r ≠ ownRank s k then hoistTakeover s k since
  else regroup (if ens then s.modLvl k fun x => { x with ensign := none } else s)

/-- MEMBER_LOST (R452): no heartbeat of a member for MISSN × HBPER. -/
def execMemberLost (k : Fin 6) (r : Fin 32) (s : State) : Out :=
  act s (match tfind (s.lvl k).heard r.val with
    | some t =>
      if lvlOn s k && hstUp s && decide (t + lvlMiss s k ≤ s.now) then atOnce (fun s => memberGone s k r (t + lvlMiss s k)) s else s
    | none => s)

/-! ### Heartbeats -/

/-- HEARTBEAT_SEND (R451): HBPER has passed at a level where the module speaks; a module that listens is heard too (R461). -/
def execHeartbeatSend (k : Fin 6) (s : State) : Out :=
  act s (if lvlOn s k && speaks s k && hstUp s && s.sup.phase == .running && decide ((s.lvl k).hbNext ≤ s.now) then
    sendBeat s k (resigning s)
    else s)

/-- Whether the 24 bytes of a heartbeat are sound (R451). -/
def hbOk (b : List Byte) : Bool :=
  b.length == 24 && leAt b 0 1 == 1 && leAt b 1 1 == 0x10 && decide (leAt b 11 1 < 32) &&
    crc32c (b.take 20 ++ [0, 0, 0, 0]) == leAt b 20 4

/-- The standby module of a level shows SYNCING or shows none (R457, R458). DESIGN CHOICE: it is in step with the first heartbeat
without SYNCING after one with it, or MISSN × HBPER after its records left; jobs accepted or completed meanwhile go to it with
the records once more. -/
def stbyHeard (s : State) (m : Nat) (syncing : Bool) (j : Nat) : State :=
  let x := s.lvl j
  if x.stby ≠ some (m, false) then s
  else if syncing then s.modLvl j fun x => { x with seen := true }
  else if !x.seen && !((tfind x.syncAt m).all fun t => decide (t + lvlMiss s j ≤ s.now)) then s
  else if x.dirty then resyncTo s j m
  else s.modLvl j fun x => { x with stby := some (m, true) }

/-- The ensign module hears of a module at a level (R457): SYNCING starts its resynchronisation, again after MISSN × HBPER. -/
def stepHeard (s : State) (k m : Nat) (syncing : Bool) : State :=
  let s := (List.range 6).foldl (fun s j => stbyHeard s m syncing j) s
  if syncing ∧ (s.lvl k).role = 0 ∧ ((tfind (s.lvl k).syncAt m).all fun t => decide (t + lvlMiss s k ≤ s.now)) then resyncTo s k m
  else s

/-- A sound heartbeat of a member at a level (R451, R452, R456). An ensign of its epoch stays against one of a higher rank (R435). -/
def heartbeat (s : State) (k : Nat) (b : List Byte) : State :=
  let r := leAt b 11 1
  let e := leAt b 8 2
  let st := leAt b 10 1
  let isEns := decide (st % 4 = 0)
  let resign := nbit st 2
  let new := (tfind (s.lvl k).heard r).isNone
  let s := s.modLvl k fun x => { x with
    heard := tset x.heard r s.now, mods := tset x.mods r (nfld (leAt b 4 4) 29 16)
    unfit := tset x.unfit r (nbit st 2 || nbit st 3), maxEpoch := max x.maxEpoch e }
  let s := if new then postHoist s 0x11 (r + 2 ^ 8 + k * 2 ^ 12) else s
  let x := s.lvl k
  if x.listen.isSome then s.modLvl k fun x => { x with ensign := if isEns && !resign then some r else x.ensign }
  else
    let s :=
      if x.role = 0 ∧ e = x.epoch ∧ isEns ∧ !resign ∧ r < ownRank s k then strike s k e (leAt b 4 4) else epochSeen s k e (leAt b 4 4)
    let s := stepHeard s k (nfld (leAt b 4 4) 29 16) (nbit st 3)
    if resign ∧ (s.lvl k).ensign = some r then
      if (s.lvl k).role = 2 then hoistTakeover (s.modLvl k fun x => { x with ensign := none }) k s.now else regroup s
    else if isEns && decide (e = (s.lvl k).epoch) && (decide (x.epoch < e) || x.ensign.all fun g => decide (r ≤ g)) then regroup (s.modLvl k fun x => { x with ensign := some r })
    else regroup s

/-- A heartbeat arrives (R451): of another member, or of the own hoist at a level where another module speaks for it. -/
def hstHeartbeat (s : State) (b : List Byte) : State :=
  if !hstUp s then s
  else if !hbOk b then hcount s 0x54
  else match lvlOfHoist s (leAt b 2 2) with
    | none => s
    | some k => if leAt b 11 1 = ownRank s k ∧ speaks s k then s else atOnce (fun s => heartbeat s k b) s

/-- HEARTBEAT_RECEIVE (R451). -/
def execHeartbeatReceive (b : List (BitVec 8)) (s : State) : Out := act s (hstHeartbeat s b)

/-- The module stops to speak for its hoists (R452, R554): its heartbeats say so, and it behaves as struck. -/
def hstResign (s : State) : State :=
  let led (s : State) (k : Nat) : Bool := lvlOn s k && (s.lvl k).role == 0
  let s := (List.range 6).foldl (fun s k => if led s k then sendBeat s k true else s) s
  let s := (List.range 6).foldl (fun s k =>
    if led s k then dropHoist (setRole (s.modLvl k fun x => { x with syncing := true, recs := [], ensign := none }) k 3) k else s) s
  reRole s

/-- A write of HST.CMD (R442, R443, R452, R463). -/
def hstCmd (s : State) (l : LaneId) (v : Nat) : State :=
  hstGated s l 8 <| atOnce fun s =>
    let op := nfld v 31 28
    if 1 ≤ op ∧ op ≤ 4 then strCmd s l op (nfld v 9 0)
    else if op = 5 then
      if lvlOn s 0 ∧ (s.lvl 0).role = 0 ∧ (s.lvl 0).listen.isNone then hstResign s else reject s l .hst 8 rSTATE
    else reject s l .hst 8 rRANGE

/-- STREAM_OPEN (R442). -/
def execStreamOpen (l : LaneId) (n : Fin 1024) (s : State) : Out := act s (hstCmd s l (2 ^ 28 + n.val))
/-- STREAM_CLOSE (R443). -/
def execStreamClose (l : LaneId) (n : Fin 1024) (s : State) : Out := act s (hstCmd s l (2 * 2 ^ 28 + n.val))
/-- STREAM_PAUSE (R443). -/
def execStreamPause (l : LaneId) (n : Fin 1024) (s : State) : Out := act s (hstCmd s l (3 * 2 ^ 28 + n.val))
/-- STREAM_RESUME (R443, R450). -/
def execStreamResume (l : LaneId) (n : Fin 1024) (s : State) : Out := act s (hstCmd s l (4 * 2 ^ 28 + n.val))
/-- RESIGN (R452). -/
def execResign (l : LaneId) (s : State) : Out := act s (hstCmd s l (5 * 2 ^ 28))

/-! ### Forming and resynchronisation -/

/-- A level is joined or formed at the end of its listening (R461): with an ensign heard the module joins and
resynchronises, else the lowest live rank becomes ensign with the highest epoch plus one. DESIGN CHOICE: a module that finds
another to be that ensign takes the same epoch for its own at once. -/
def formLevel (s : State) (k : Nat) : State :=
  let x := s.lvl k
  match x.ensign with
  | some _ => s.modLvl k fun x => { x with listen := none, syncing := true, recs := [], epoch := max x.epoch x.maxEpoch }
  | none =>
    let r := (liveRanks s k).find? fun r => eligible s k r
    s.modLvl k fun x => { x with
      listen := none, ensign := r, epoch := nextEpoch (max x.epoch x.maxEpoch), maxEpoch := nextEpoch (max x.epoch x.maxEpoch), hbNext := s.now }

/-- HOIST_LISTEN (R461): the listening time of a level is over. -/
def execHoistListen (k : Fin 6) (s : State) : Out :=
  act s (if lvlOn s k && hstUp s && due (s.lvl k).listen s.now &&
      (k.val == 0 || !lvlOn s (k - 1) || (s.lvl (k - 1)).listen.isNone) then
    atOnce (fun s => reRole (formLevel s k)) s else s)

/-- The level that a resynchronisation message belongs to: its hoist's, with its epoch, where the module is not ensign and is syncing,
or begins to with the first record (R457, R458). -/
def syncLevel (s : State) (j : Job) (first : Bool) : Option Nat :=
  (lvlOfUnit s j.src).filter fun k => (s.lvl k).role != 0 && (s.lvl k).epoch == j.epoch && ((s.lvl k).syncing || first)

/-- A JSYNC message (R457): records come in order from index 0. -/
def jsyncMsg (s : State) (j : Job) : State :=
  match syncLevel s j (j.seq == 0) with
  | none => s
  | some k => reRole (s.modLvl k fun x => { x with
      syncing := true
      recs := if x.syncing ∧ x.recs.length = j.seq then x.recs ++ [j.body] else if j.seq = 0 then [j.body] else [] })

/-- JSYNC_RECEIVE (R457). -/
def execJsyncReceive (b : List (BitVec 8)) (s : State) : Out := act s (hstMsg s 8 b jsyncMsg)

/-- A record of a resynchronisation (R457): a stream context, or an accepted job. -/
def applyRec (s : State) (b : List Byte) : State :=
  if msgOk b ∧ leAt b 1 1 = 1 then
    let j := msgJob b
    s.modStrs j.stream fun x => { x with copies := x.copies ++ [j] }
  else
    let n := leAt b 22 2 % 1024
    let s := sput (sput (sput s .hst (strOff n 0) (leAt b 0 4)) .hst (strOff n 4) (leAt b 4 4)) .hst (strOff n 8) (leAt b 8 4)
    s.modStrs n fun _ => { st := .opened, seqA := leAt b 12 4, seqB := leAt b 16 4, epoch := leAt b 20 2, session := leAt b 0 2 }

/-- A JSYNCEND message (R457): with a matching count the records replace the journal for the hoist. -/
def jsyncEndMsg (s : State) (j : Job) : State :=
  match syncLevel s j (j.seq == 0) with
  | none => s
  | some k =>
    let rs := (s.lvl k).recs
    if rs.length ≠ j.seq then s.modLvl k fun x => { x with recs := [] }
    else
      let s := (unitStrs s (lvlUnit s k)).foldl (fun s n => s.modStrs n fun _ => {}) s
      let s := (rs.filter fun b => !(msgOk b && leAt b 1 1 == 1)).foldl applyRec s
      let s := (rs.filter fun b => msgOk b && leAt b 1 1 == 1).foldl applyRec s
      let s := s.modLvl k fun x => { x with syncing := false, recs := [] }
      let e := (s.lvl k).epoch
      let s := reRole (postHoist s 0x12 (k * 2 ^ 12 + e * 2 ^ 16))
      record s s.sup.active .hst 0x42 (leBytes 2 k ++ leBytes 2 e ++ leBytes 4 (lvlCfg s k % 65536) ++ leBytes 4 rs.length)

/-- JSYNCEND_RECEIVE (R457). -/
def execJsyncendReceive (b : List (BitVec 8)) (s : State) : Out := act s (hstMsg s 9 b jsyncEndMsg)

/-! ### CAN transport -/

/-- Any message by its TYPE; those of a stream come by its transport only (R440). -/
def hstAny (s : State) (way : Nat → Bool) (b : List Byte) : State :=
  if msgOk b && decide (leAt b 1 1 ≤ 5) && !way (leAt b 12 2 % 1024) then s
  else match leAt b 1 1 with
  | 2 => hstMsg s 2 b ackMsg
  | 3 => hstMsg s 3 b gapMsg
  | 4 => hstMsg s 4 b stateMsg
  | 5 => hstMsg s 5 b completeMsg
  | 6 => hstMsg s 6 b jrepMsg
  | 7 => hstMsg s 7 b jrepackMsg
  | 8 => hstMsg s 8 b jsyncMsg
  | 9 => hstMsg s 9 b jsyncEndMsg
  | _ => hstMsg s 1 b jobMsg

/-- Whether a stream runs over UDP (R440). -/
def strOnUdp (s : State) (n : Nat) : Bool := nfld (strGet s n 0) 30 29 == 0
/-- Whether a stream runs over a CAN channel with an identifier (R440, R441). -/
def strOnCan (s : State) (ch id n : Nat) : Bool :=
  nfld (strGet s n 0) 30 29 == 1 && nfld (strGet s n 0xC) 11 8 == ch && nfld (strGet s n 0x10) 28 0 == id

/-- A segment of a job message on CAN (R441). -/
def hstSegment (s : State) (ch id : Nat) (b : List Byte) : State :=
  if !hstUp s ∨ !(List.range 1024).any (strOnCan s ch id) then s
  else
    let key := ch * 2 ^ 29 + id
    let i := leAt b 0 1
    let c := leAt b 1 1
    let part := tfind s.hst.parts key
    let bad (s : State) : State := hcount { s with hst := { s.hst with parts := tdel s.hst.parts key } } 0x54
    let s := if part.isSome ∧ i = 0 then bad s else s
    let base : Option (List Byte) :=
      if i = 0 then some []
      else match part with
        | some (nx, cnt, bs) => if nx = i ∧ cnt = c then some bs else none
        | none => none
    match base with
    | none => bad s
    | some bs =>
      let bs := bs ++ sliceB b 2 62
      if c = 0 ∨ 24 < c ∨ c ≤ i then bad s
      else if i + 1 < c then { s with hst := { s.hst with parts := tset s.hst.parts key (i + 1, c, bs) } }
      else hstAny { s with hst := { s.hst with parts := tdel s.hst.parts key } } (strOnCan s ch id) (bs.take (32 + leAt bs 2 2))

/-! ### Registers -/

/-- MISSN × HBPER of a value of HB, in µs. -/
def missUs (w : Nat) : Nat := nfld w 31 28 * nfld w 23 0
/-- The register HB of a level. -/
def lvlHb (s : State) (k : Nat) : Nat := sget s .hst (0x104 + 0x40 * k)

/-- Whether the timing of the levels keeps R454 with a value of HB at one level. -/
def hbRule (s : State) (k v : Nat) : Bool :=
  decide (300 ≤ missUs v) && (k == 0 || !lvlOn s k || decide (missUs (lvlHb s (k - 1)) + 200 ≤ missUs v)) &&
    (k == 5 || !lvlOn s (k + 1) || decide (missUs v + 200 ≤ missUs (lvlHb s (k + 1))))

/-- A write of a level's CFG (R434, R454, R461): a level that becomes valid is listened to. -/
def hstLevelCfg (s : State) (l : LaneId) (k v : Nat) : State :=
  let off := 0x100 + 0x40 * k
  let was := lvlOn s k
  let below := k == 0 || (lvlOn s (k - 1) && decide (missUs (lvlHb s (k - 1)) + 200 ≤ missUs (lvlHb s k)))
  let bad := if nbit v 31 then !below else k != 5 && lvlOn s (k + 1)
  if regVerdict s l .hst off v = rLOCKED then reject s l .hst off rLOCKED
  else if bad then reject s l .hst off rRANGE
  else
    let s := regPlain s l .hst off v
    if !was && lvlOn s k then listenLevel s k
    else if was && !lvlOn s k then s.modLvl k fun x => { epoch := x.epoch }
    else regroup s

/-- The registers of HST that the state answers (R463). -/
def hstRead (s : State) (l : LaneId) (off : Nat) : Option (Nat × State) :=
  if off = 4 then
    let one := s.sup.laneMode != .dual ||
      (lvlOn s 0 && (s.lvl 0).role == 0 && !hasStandby s 0 && soloSet s)
    some (b2n one * 64 + b2n (decide (16384 * 1024 ≤ juseBytes s l + 1440)) * 32 + b2n (s.lvl 0).syncing * 16 + b2n (lvlOn s 0) * 8 +
      (if lvlOn s 0 then (s.lvl 0).role else 0), s)
  else if off = 0x40 then some (min ((juseBytes s l + 1023) / 1024) 16383, s)
  else if 0x100 ≤ off ∧ off < 0x280 then
    let k := (off - 0x100) / 0x40
    let x := s.lvl k
    match off % 0x40 with
    | 0x08 => some (x.epoch * 2 ^ 16 + x.ensign.getD 0 % 32 * 2 ^ 8 + b2n x.syncing * 8 + x.role, s)
    | 0x0C => some (if lvlOn s k then (liveRanks s k).foldl (fun a r => a + 2 ^ r) 0 else 0, s)
    | 0x10 => some (match x.ensign with
        | some r => 2 ^ 31 + speaker s k r * 2 ^ 16
        | none => 0, s)
    | 0x14 => some (match (if lvlOn s k then standbyOf s k else none) with
        | some m => 2 ^ 31 + m
        | none => 0, s)
    | _ => none
  else if 0x10000 ≤ off ∧ off < 0x18000 then
    let n := (off - 0x10000) / 0x20
    let x := s.str l n
    match off % 0x20 with
    | 0x14 => some ((if nbit (strGet s n 0) 31 then x.sent.length else x.jobs.length) * 2 ^ 16 + x.held.length * 2 ^ 8 + x.st.code, s)
    | 0x18 => some (x.seqA, s)
    | 0x1C => some (x.seqB, s)
    | _ => none
  else none

/-- The writes of HST that have an effect of their own (R434, R442, R454, R463): all of them but CTRL's, which each lane has for
itself, pass only from the active lane. -/
def hstWrite (s : State) (l : LaneId) (off v : Nat) : Option State :=
  if off = 0 then none
  else if off = 8 then some (hstCmd s l v)
  else some (hstGated s l off fun s =>
    if 0x100 ≤ off ∧ off < 0x280 ∧ off % 0x40 = 0 then hstLevelCfg s l ((off - 0x100) / 0x40) v
    else if 0x100 ≤ off ∧ off < 0x280 ∧ off % 0x40 = 4 ∧ !hbRule s ((off - 0x100) / 0x40) v ∧ !isLocked s l .hst then
      reject s l .hst off rRANGE
    else if (off = 0x18 ∧ v % 2 ^ 14 ≠ 0 ∨ off = 0x1C ∧ v % 2 ^ 16 ≠ 0) ∧ !isLocked s l .hst then reject s l .hst off rRANGE
    else if 0x10000 ≤ off ∧ off % 0x20 < 0x14 ∧ (s.str s.sup.active ((off - 0x10000) / 0x20 % 1024)).st ≠ .closed then
      if regVerdict s l .hst off v = rLOCKED then reject s l .hst off rLOCKED else reject s l .hst off rSTATE
    else regPlain s l .hst off v)

end Sys2Proof.Machine
end

