-- ==== Sys2Proof/Machine/TimUnit.lean ====
section
/-! DEFINITION. The local clock, its trackers, switches (spec/13 R419–R428), the pulse inputs (spec/12 R398). -/

namespace Sys2Proof.Machine

/-- Change the time unit. -/
def State.modTim (s : State) (f : Tim → Tim) : State := { s with tim := f s.tim }
/-- A tracker. -/
def State.trk (s : State) (i : Nat) : Tracker := tget s.tim.trk i
/-- Change a tracker. -/
def State.modTrk (s : State) (i : Nat) (f : Tracker → Tracker) : State := s.modTim fun t => { t with trk := tmod t.trk i f }
/-- A register of tracker `i`. -/
def dtGet (s : State) (i off : Nat) : Nat := sget s .tim (0x100 + 0x40 * i + off)
/-- CFG.EN of a tracker. -/
def dtEn (s : State) (i : Nat) : Bool := nbit (dtGet s i 0) 31
/-- The active tracker. -/
def timActive (s : State) : Option Nat :=
  match s.tim.cstate with
  | .dt0 => some 0
  | .dt1 => some 1
  | .holdover | .free => none
/-- A sign with a magnitude limit. -/
def limitI (m x : Int) : Int := clampI (-m) m x

/-- The slew step of the present tick (R424). -/
def slewStep (s : State) : Int := limitI (timNom * sfld s .tim 0x40 15 0 / 10 ^ 9) s.tim.q
/-- What the local clock advances by at a tick (R419). -/
def timRate (s : State) : Int := s.tim.addend + slewStep s

/-- The local clock at a tick of the 250 MHz counter (R419, R422, R424): it advances by the addend and the slew step. -/
def timAdvance (s : State) : State :=
  let adv := timRate s
  let s := { s with tim := { s.tim with count := ((s.tim.count : Int) + adv).toNat, q := s.tim.q - slewStep s } }
  [0, 1].foldl (fun s i =>
    if dtEn s i && timActive s != some i && !s.tim.frozen then s.modTrk i fun t => { t with d := t.d + t.a - adv } else s) s

/-- SLEW_COMPLETE (R424): q has come to 0. The slew steps belong to the ticks (`timAdvance`), the last one too, so the event itself
changes nothing. -/
def execSlewComplete (s : State) : Out := act s s

/-- The local clock and the HTB `age` ticks ago. -/
def stampAt (s : State) (age : Nat) : Nat × Nat :=
  (((s.tim.count : Int) - (age : Int) * timRate s).toNat / 2 ^ 32 % 2 ^ 64, s.now - age)

/-- The FREE addend (R424). -/
def freeAddend (s : State) : Int := timNom * (10 ^ 9 + signed 32 (sget s .tim 0x38)) / 10 ^ 9

/-- The clock leaves its active tracker, whose virtual clock goes on from q. -/
def dropActive (s : State) : State :=
  match timActive s with
  | some i => s.modTrk i fun t => { t with d := s.tim.q }
  | none => s

/-- The clock takes a state, which is posted when it is another (R430). -/
def timState (s : State) (c : CState) (auto : Bool) : State :=
  if s.tim.cstate = c then s
  else
  let s := s.modTim fun t => { t with cstate := c }
  if s.faulty .tim then s else postEngine s .tim 1 (c.code + b2n auto * 2 ^ 8)

/-- The state of a tracker. -/
def dtState (j : Nat) : CState := if j = 0 then .dt0 else .dt1

/-- A switch to tracker `j` (R424): the state after, and whether it was taken. DEDUCED: a step of the clock brings every virtual
clock so much nearer, as each stands d[i] ahead of the local clock. -/
def timSwitch (s : State) (j : Nat) (auto : Bool) : State × Bool :=
  let s := dropActive s
  let d := (s.trk j).d
  let take (s : State) : State :=
    let s := s.modTim fun t => { t with addend := (tget t.trk j).a }
    timState (rwrap (rsetb s .a (Block.tim.base + 4) 0 true) .a (Block.tim.base + 0x54) 1) (dtState j) auto
  if s.tim.cstate = .free ∧ sfld s .tim 0 4 4 = 1 ∧ (sget s .tim 0x48 : Int) * 2 ^ 32 < d then
    let ns := d / 2 ^ 32
    let s := s.modTim fun t => { t with
      count := t.count + ns.toNat * 2 ^ 32, q := 0, trk := tmap t.trk fun _ x => { x with d := x.d - ns * 2 ^ 32 } }
    let s := rwrap (rsetb s .a (Block.tim.base + 4) 1 true) .a (Block.tim.base + 0x50) 1
    (take (postEngine s .tim 3 (min (ns.toNat / 1000) (2 ^ 32 - 1))), true)
  else if (sget s .tim 0x44 : Int) * 2 ^ 32 < d.natAbs then (postEngine s .tim 4 j, false)
  else (take (s.modTim fun t => { t with q := d }), true)

/-- The clock enters HOLDOVER (R424). -/
def timHold (s : State) (auto : Bool) : State := timState (dropActive s) .holdover auto

/-- What follows from the trackers' validity (R424, R425). -/
def timAutoNow (s : State) : State :=
  let ok (i : Nat) : Bool := (s.trk i).valid
  let auto := sfld s .tim 0 5 5 = 1
  match timActive s with
  | some i =>
    if ok i then s
    else if auto && ok (1 - i) then
      let r := timSwitch s (1 - i) true
      if r.2 then r.1 else timHold r.1 true
    else timHold s true
  | none =>
    let p := sfld s .tim 0 1 1
    if !auto || s.tim.frozen then s
    else if ok p then (timSwitch s p true).1
    else if ok (1 - p) then (timSwitch s (1 - p) true).1
    else s

/-- Whether a command that waits behind this one will switch the clock in this cycle (R426): a CMD SWITCH or FORCEFREE of the owner
that is not to be rejected. Commands of later cycles do not wait yet, since the cycle ends with the queue. -/
def timCmdWaits (s : State) : Bool :=
  !s.faulty .tim && s.pending.any fun c => match c with
    | .timSwitch l j => s.owns l && (s.trk j).valid && timActive s != some j.val
    | .forcefree l => s.owns l && s.tim.cstate != .free
    | _ => false

/-- What follows from the trackers' validity, unless a command switches in this cycle: it applies, and what follows comes with the
end of the cycle (R426). -/
def timAuto (s : State) : State :=
  if s.tim.forced || timCmdWaits s then s.modTim fun t => { t with forced := true } else timAutoNow s

/-- A tick of the 250 MHz counter. A cycle in which a command has switched ends here, and with AUTO the trackers decide again. -/
def timTick (s : State) : State :=
  let t := timAdvance s
  let t := if t.tim.ahead.isSome then t.modTim fun x => { x with ahead := none } else t
  if t.tim.forced then timAutoNow (t.modTim fun x => { x with forced := false }) else t

/-- A tracker's VALID changes (R423, R430). -/
def setValid (s : State) (i : Nat) (v : Bool) : State :=
  if (s.trk i).valid = v then s
  else postEngine (s.modTrk i fun t => { t with valid := v, validSince := s.now, goodRun := if v then t.goodRun else 0 }) .tim 2
    (i + b2n v * 2 ^ 8)

/-- The reference of a tracker at an instant `age` ns before (R422). -/
def timRef (s : State) (i : Nat) (age : Nat) : Int :=
  let adv := timRate s
  let rate : Int := if timActive s = some i then -slewStep s else (s.trk i).a - adv
  let v := if timActive s = some i then s.tim.q else (s.trk i).d
  v - rate * ((age * 2 ^ 32 : Nat) : Int) / (max 1 adv)

/-- A measurement `m`, in 2^-32 ns, taken `age` ns of local clock ago (R422, R423); what follows from VALID comes after it. -/
def trkMeasure (s : State) (i : Nat) (m : Int) (age : Nat) : State :=
  if !dtEn s i ∨ s.tim.frozen then s
  else
    let s := s.modTrk i fun t => { t with
      count := (t.count + 1) % 65536, timeout := some (s.now + ms (nfld (dtGet s i 0) 15 0)) }
    if (s.trk i).first then s.modTrk i fun t => { t with first := false, d := m, integ := 0 }
    else
      let e := m - timRef s i age
      let mx : Int := nfld (dtGet s i 0xC) 19 0 * 2 ^ 48
      let integ := limitI mx ((s.trk i).integ + dtGet s i 8 * e)
      let y := limitI mx (integ + dtGet s i 4 * e)
      let a := timNom + timNom * y / (10 ^ 9 * 2 ^ 48)
      let s := s.modTrk i fun t => { t with integ := integ, y := y, a := a, err := e }
      let s := if timActive s = some i then s.modTim fun t => { t with addend := a } else s
      let thr := dtGet s i 0x30 * 2 ^ 32
      let s := s.modTrk i fun t => { t with goodRun := if e.natAbs ≤ thr then t.goodRun + 1 else 0 }
      if 16 * thr < e.natAbs then setValid s i false
      else if nfld (dtGet s i 0x34) 7 0 ≤ (s.trk i).goodRun then setValid s i true
      else s

/-- Whether TMO has passed since a tracker's last measurement. -/
def trkLate (s : State) (i : Nat) : Bool := dtEn s i && due (s.trk i).timeout s.now && (s.trk i).valid

/-- The trackers that are late lose VALID together (R423, R425, R426). -/
def trkExpire (s : State) : State :=
  timAuto ([0, 1].foldl (fun s j => if trkLate s j then setValid s j false else s) s)

/-- TRACKER_TIMEOUT (R423, R425, R426). -/
def execTrackerTimeout (i : Fin 2) (s : State) : Out := act s (if !trkLate s i ∨ s.tim.frozen then s else trkExpire s)

/-- The switch back to PREF (R425), which has been VALID for REVDLY seconds without a break, unless a command switches in this
cycle (R426). -/
def timRevert (s : State) : State :=
  let p := sfld s .tim 0 1 1
  let t := s.trk p
  if sfld s .tim 0 6 6 = 1 ∧ sfld s .tim 0 5 5 = 1 ∧ timActive s = some (1 - p) ∧ t.valid ∧ !s.tim.frozen ∧ !s.tim.forced ∧
      !timCmdWaits s ∧ t.validSince + ms (1000 * sfld s .tim 0x4C 15 0) ≤ s.now then (timSwitch s p true).1 else s

/-- REVERT_SWITCH (R425). -/
def execRevertSwitch (s : State) : Out := act s (timRevert s)

/-- CMD SWITCH (R424, R425), unless a commit of this cycle has brought it forward (R426). -/
def timSwitchCmd (s : State) (l : LaneId) (j : Nat) : State :=
  if s.tim.ahead = some j then s.modTim fun t => { t with ahead := none }
  else if !(s.trk j).valid ∨ timActive s = some j then reject s l .tim 8 rSTATE
  else
    let r := timSwitch s j false
    if r.2 then r.1.modTim fun t => { t with forced := true } else reject r.1 l .tim 8 0x10

/-- A write of TIM.CMD (R424, R425, R432). -/
def timCmd (s : State) (l : LaneId) (v : Nat) : State :=
  gated s l .tim 8 fun s => match nfld v 31 28 with
    | 1 => timSwitchCmd s l (v % 2)
    | 2 =>
      if s.tim.cstate = .free then reject s l .tim 8 rSTATE
      else timState ((dropActive s).modTim fun t => { t with addend := freeAddend s, forced := true }) .free false
    | _ => reject s l .tim 8 rRANGE

/-- The switches that wait behind a commit in its cycle apply before it (R426): a CMD SWITCH is carried out here, and only marked
off when it comes. -/
def timAhead (s : State) : State :=
  s.pending.foldl (fun s c => match c with
    | .timSwitch l j => if s.owns l && s.tim.ahead.isNone then (timSwitchCmd s l j).modTim fun t => { t with ahead := some j.val } else s
    | .trackerTimeout i => if trkLate s i then trkExpire s else s
    | .revertSwitch => timRevert s
    | _ => s) s

/-- A write of OFFHI commits a measurement of the program (R421), against the reference after the switches of its cycle (R426). -/
def timCommit (s : State) (l : LaneId) (i v : Nat) : State :=
  let off := 0x114 + 0x40 * i
  gated s l .tim off fun s =>
    if nfld (dtGet s i 0) 29 28 ≠ 0 then reject s l .tim off rSTATE
    else
      let age := (localCount s + 2 ^ 32 - (s.trk i).mtime.toNat) % 2 ^ 32
      if 10 ^ 9 < age then reject s l .tim off 0x11
      else timAuto (trkMeasure (timAhead s) i (signed 64 (v % 2 ^ 32 * 2 ^ 32 + (s.trk i).offlo.toNat) * 2 ^ 16) age)

/-- TRACKER_COMMIT (R421). -/
def execTrackerCommit (l : LaneId) (i : Fin 2) (v : Word) (s : State) : Out := act s (timCommit s l i v.toNat)

/-- TIM_SWITCH (R425). -/
def execTimSwitch (l : LaneId) (j : Fin 2) (s : State) : Out := act s (timCmd s l (2 ^ 28 + j.val))
/-- FORCEFREE (R424). -/
def execForcefree (l : LaneId) (s : State) : Out := act s (timCmd s l (2 * 2 ^ 28))

/-- The clock enters FREE with its applied addend (R429, R550). -/
def timFreeze (s : State) : State := timState (dropActive s) .free true

/-- The clock after a wake: the trackers whose TMO has passed in PARK lose VALID, and with AUTO the others decide (R423, R425). -/
def timWake (s : State) : State := if s.faulty .tim then s else trkExpire s

/-- A cold start: the local clock at 0 in FREE (R424, R428). -/
def timCold (s : State) : State := { s with tim := { addend := freeAddend s } }

/-- Reading NOWLO latches 0x014 to 0x02C for the reading lane (R427). -/
def timNow (s : State) (l : LaneId) : Nat × State :=
  let c := localCount s
  let sec := s.tim.count / 2 ^ 32 / 10 ^ 9
  let vs := [c / 2 ^ 32, s.tim.count % 2 ^ 32 / 2 ^ 16, sec % 2 ^ 32, sec / 2 ^ 32 % 2 ^ 16, s.tim.count / 2 ^ 32 % 10 ^ 9,
    htb s % 2 ^ 32, htb s / 2 ^ 32]
  (c % 2 ^ 32, vs.zipIdx.foldl (fun s p => rset s l (Block.tim.base + 0x14 + 4 * p.2) p.1) s)

/-- TIM_NOW_READ (R427). -/
def execTimNowRead (l : LaneId) (s : State) : Out := act s (timNow s l).2

/-! ### Pulse inputs -/

/-- PPS_EDGE (R398, R421): an edge of PPS0 or PPS1 that PPSk.CFG.EDGE selects is stamped, posted, and measured by the
trackers whose source it is; what follows from VALID follows from all of them (R426). -/
def execPpsEdge (k : Fin 2) (rise : Bool) (s : State) : Out :=
  let k := k.val
  let cfg := sget s .ser (0x400 + 0x20 * k)
  act s (if !nbit cfg 31 ∨ !nbit cfg (if rise then 0 else 1) ∨ s.faulty .ser then s
    else
      let st := Block.ser.base + 0x414 + 0x20 * k
      let p : Pps := tget s.bus.pps k
      let ns : Nat := s.tim.count / 2 ^ 32 % 10 ^ 9
      let s := if p.unread then rsetb s .a st 0 true else s
      let s := rsetf s .a st 31 16 (rfld s .a st 31 16 + 1)
      let s := { s with bus := { s.bus with
        pps := tset s.bus.pps k { sec := s.tim.count / 2 ^ 32 / 10 ^ 9, ns := ns, htb := htb s, unread := true } } }
      let s := postEngine s .ser 2 k
      let w : Int := if ns < 500000000 then (ns : Int) else (ns : Int) - 1000000000
      timAuto ([0, 1].foldl (fun s i =>
        if nfld (dtGet s i 0) 29 28 = k + 1 then
          trkMeasure s i ((signed 32 (dtGet s i 0x1C) * 10 ^ 9 - w) * 2 ^ 32) 0
        else s) s))

/-! ### Registers -/

/-- A value in 2^-32 ns as whole ns, truncated and saturated to 32 bits. -/
def nsWord (x : Int) : Nat := (i32 (satI 32 (x.tdiv (2 ^ 32)))).toNat

/-- The registers of TIM that the state answers (R432). -/
def timRead (s : State) (l : LaneId) (off : Nat) : Option (Nat × State) :=
  if off = 4 then some (s.tim.cstate.code * 2 ^ 16 + b2n (s.faulty .tim) * 2 ^ 8 + b2n (s.tim.q ≠ 0) * 4 + sget s .tim 4 % 4, s)
  else if off = 0x10 then some (timNow s l)
  else if off = 0x30 then some (pattern 40 s.tim.addend % 2 ^ 32, s)
  else if off = 0x34 then some (pattern 40 s.tim.addend / 2 ^ 32, s)
  else if off = 0x3C then some (nsWord s.tim.q, s)
  else if 0x100 ≤ off ∧ off < 0x180 then
    let t := s.trk ((off - 0x100) / 0x40)
    match off % 0x40 with
    | 0x20 => some (b2n t.valid * 2 ^ 31 + t.count, s)
    | 0x24 => some (nsWord t.err, s)
    | 0x28 => some ((i32 (t.y.tdiv (2 ^ 48))).toNat, s)
    | 0x2C => some (nsWord t.d, s)
    | _ => none
  else none

/-- A write of a tracker's CFG: EN starts it afresh, its clearing costs VALID (R423). -/
def dtCfg (s : State) (l : LaneId) (i v : Nat) : State :=
  let was := dtEn s i
  let s := regPlain s l .tim (0x100 + 0x40 * i) v
  if !was && dtEn s i then s.modTrk i fun t => { t with first := true, goodRun := 0, timeout := none }
  else if was && !dtEn s i then timAuto (setValid s i false)
  else s

/-- The writes of TIM that have an effect of their own (R421, R423, R425, R432). -/
def timWrite (s : State) (l : LaneId) (off v : Nat) : Option State :=
  if off = 8 then some (timCmd s l v)
  else if off = 0 then some (gated s l .tim 0 fun s => timAuto (regPlain s l .tim 0 v))
  else if 0x100 ≤ off ∧ off < 0x180 then
    let i := (off - 0x100) / 0x40
    match off % 0x40 with
    | 0 => some (gated s l .tim off fun s => dtCfg s l i v)
    | 0x10 => some (gated s l .tim off fun s =>
        if nfld (dtGet s i 0) 29 28 ≠ 0 then reject s l .tim off rSTATE else s.modTrk i fun t => { t with offlo := u32 v })
    | 0x14 => some (timCommit s l i v)
    | 0x18 => some (gated s l .tim off fun s => s.modTrk i fun t => { t with mtime := u32 v })
    | _ => none
  else none

end Sys2Proof.Machine
end

