-- ==== Sys2Proof/Machine/CanBus.lean ====
section
/-! DEFINITION. CAN channels (spec/12 R367–R385). -/

namespace Sys2Proof.Machine

/-- A block offset of channel `n`. -/
def canOff (n off : Nat) : Nat := 0x1000 + 0x1000 * n + off
/-- A register of channel `n`. -/
def canGet (s : State) (n off : Nat) : Nat := sget s .can (canOff n off)
/-- A block offset of buffer `b` of channel `n`. -/
def txOff (n b off : Nat) : Nat := canOff n (0x400 + 0x60 * b + off)
/-- A register of buffer `b` of channel `n`. -/
def txGet (s : State) (n b off : Nat) : Nat := sget s .can (txOff n b off)
/-- A channel. -/
def State.canCh (s : State) (n : Nat) : CanCh := tget s.bus.can n
/-- Change a channel. -/
def State.modCan (s : State) (n : Nat) (f : CanCh → CanCh) : State :=
  { s with bus := { s.bus with can := tmod s.bus.can n f } }
/-- CFG.EN of a channel. -/
def canEn (s : State) (n : Nat) : Bool := nbit (canGet s n 0) 31
/-- MODE.MODE: OFF while EN = 0 (R375). -/
def canMode (s : State) (n : Nat) : Nat := if canEn s n then (s.canCh n).mode else 7
/-- Whether a channel takes part in the traffic of its bus. -/
def canOn (s : State) (n : Nat) : Bool := canEn s n && !s.faulty .can && !(s.canCh n).busOff

/-- The error state: 0 active, 1 passive, 2 bus-off. -/
def canErrState (c : CanCh) : Nat := if c.busOff then 2 else if 127 < c.tec ∨ 127 < c.rec_ then 1 else 0

/-- An identifier word: IDE, RTR, identifier. -/
def canId (ide rtr : Bool) (id : Nat) : Nat := b2n ide * 2 ^ 31 + b2n rtr * 2 ^ 30 + id % 2 ^ 29

/-- Whether channel `m` pairs itself with channel `n` (R381). -/
def pairs (s : State) (m n : Nat) : Bool := nbit (canGet s m 0x28) 31 && nfld (canGet s m 0x28) 19 16 == n && decide (m < n)

/-- The channel whose ring takes the entries of channel `n`: the lower one of a pair (R381). -/
def canRingOf (s : State) (n : Nat) : Nat := ((List.range n).find? fun m => pairs s m n).getD n

/-- The 80 bytes of an entry of channel `n` (R380); `drop` is DROPBEFORE. -/
def canEntry (n lc htb id info : Nat) (b : List Byte) (drop : Bool) : List Byte :=
  leBytes 4 lc ++ leBytes 4 htb ++ leBytes 4 id ++ leBytes 4 (info + n * 2 ^ 16 + b2n drop * 2 ^ 13) ++ sliceB b 0 64

/-- The address at which a ring's next record will stand. -/
def ringNext (s : State) (a esz : Nat) : Nat := rget s .a a + esz * rfld s .a (a + 8) 15 0

/-- An entry of channel `n` goes to its ring (R379). The answer holds the entry's address when it was written. -/
def canPut (s : State) (n : Nat) (mk : Bool → List Byte) : State × Option Nat :=
  let r := canRingOf s n
  let a := Block.can.base + canOff r 0x30
  (ringSend s { rq := 7, ring := a, esz := 80, fresh := mk false, after := mk true, use := .notify .can 1 r 16 },
    if ringHeld s 7 || !ringRoom s a then none else some (ringNext s a 80))

/-- An entry that waited has found its place: a copy that comes later marks it there (R381). -/
def canPlaced (s : State) (ent : List Byte) (addr : Nat) : State :=
  { s with bus := { s.bus with can := tmap s.bus.can fun _ c => { c with
      pairs := c.pairs.map fun e => if e.addr.isNone && e.ent == ent then { e with addr := some addr } else e } } }

/-- A copy came while the entry of the first still waits: the waiting bytes change. -/
def pairWaiting (s : State) (ent : List Byte) (f : Bool → List Byte → List Byte) : State :=
  { s with dq := { s.dq with wait := s.dq.wait.map fun w =>
      if w.rq == 7 && w.fresh == ent then { w with fresh := f false w.fresh, after := f true w.after } else w } }

/-- Entry bytes with INFO.PAIRED (R381). -/
def markPaired (b : List Byte) : List Byte := (b.zipIdx).map fun p => if p.2 = 13 then p.1 ||| 0x40 else p.1

/-- An entry of channel `n` goes to its ring. -/
def canLog (s : State) (n lc htb id info : Nat) (b : List Byte) : State := (canPut s n (canEntry n lc htb id info b)).1

/-- A channel changes its mode: the KIND 3 entry and MODECHG (R379, R401). Entering AUTORATE starts its trial afresh. A MODE
command that waits for the bus goes on waiting (R376). -/
def canSetMode (s : State) (n m : Nat) : State :=
  let s := s.modCan n fun c =>
    let c := { c with mode := m }
    if m = 2 then { c with cand := 0, good := 0, brs := false, locked := false, untested := false } else c
  if s.faulty .can then s
  else
    let t := stampAt s 0
    let s := canLog s n t.1 t.2 0 (3 * 2 ^ 20 + m * 2 ^ 24) []
    postEngine s .can 3 (n + m * 2 ^ 8 + canErrState (s.canCh n) * 2 ^ 16)

/-! ### Receiving -/

/-- Whether a length is one of a CAN FD frame. -/
def fdLen (n : Nat) : Bool := decide (n ≤ 8) || [12, 16, 20, 24, 32, 48, 64].contains n

/-- The candidates' count. -/
def arCount (s : State) (n : Nat) : Nat := nfld (canGet s n 0x14) 3 0

/-- LOCKN error-free frames lock the candidate rate (R378). -/
def canLock (s : State) (n : Nat) : State :=
  let c := s.canCh n
  let s := sput s .can (canOff n 4) (canGet s n (0x80 + 8 * c.cand))
  let s := sput s .can (canOff n 8) (canGet s n (0x84 + 8 * c.cand))
  let s := s.modCan n fun c => { c with locked := true, untested := !c.brs }
  canSetMode (postEngine s .can 4 (n + c.cand * 2 ^ 8)) n (nfld (canGet s n 0x14) 10 8)

/-- What a match of paired frames compares (R381): IDE, RTR, identifier, FDF, LEN, DATA. -/
def pairKey (id : Nat) (fdf : Bool) (len : Nat) (b : List Byte) : List Nat :=
  [id, b2n fdf, len] ++ (sliceB b 0 64).map (·.toNat)

/-- A received frame of a pair whose lower channel is `m` (R381): a copy within PAIRWIN is discarded and marks the entry of
the first; else the frame is written and waits for its copy. -/
def canPair (s : State) (m n : Nat) (key : List Nat) (mk : Bool → List Byte) : State :=
  let win := us (nfld (canGet s m 0x28) 9 0)
  let live := (s.canCh m).pairs.filter fun e => decide (s.now ≤ e.at_ + win)
  match live.find? fun e => e.ch != n && e.key == key with
  | some e =>
    let s := s.modCan m fun c => { c with pairs := live.erase e }
    let s := rcount s .a (Block.can.base + canOff m 0x50) 15 0 1
    let lower := decide (e.at_ = s.now ∧ n = m)
    match e.addr with
    | none =>
      pairWaiting s e.ent fun drop b => markPaired (if lower then mk drop else b)
    | some a =>
      let s := if lower then dramWrite s 0 a (mk (mreadLE (s.gib 0) (a + 13) 1 / 32 % 2 == 1)) else s
      dramWrite s 0 (a + 13) [mread (s.gib 0) (a + 13) ||| 0x40]
  | none =>
    let r := canPut s n mk
    let s := r.1
    let full := decide (16 ≤ live.length)
    let s := if full then rcount s .a (Block.can.base + canOff m 0x50) 31 16 1 else s
    s.modCan m fun c => { c with
      pairs := (if full then live.tail else live) ++ [{ at_ := s.now, ch := n, key := key, addr := r.2, ent := mk false }] }

/-- A frame that ended without error reaches channel `n` (R378–R381). PRESUMED: the error counts of ISO 11898-1. -/
def canRx (s : State) (n id : Nat) (fdf brs esi : Bool) (len : Nat) (b : List Byte) (age : Nat) : State :=
  let t := stampAt s age
  let auto := canMode s n == 2
  let upper := (List.range n).find? fun m => pairs s m n
  let lower := if nbit (canGet s n 0x28) 31 then some n else none
  let info := len + b2n fdf * 2 ^ 8 + b2n brs * 2 ^ 9 + b2n esi * 2 ^ 10 + b2n auto * 2 ^ 12 + b2n upper.isSome * 2 ^ 15 +
    nfld id 30 30 * 2 ^ 20
  let mk := canEntry n t.1 t.2 id info b
  let s := match upper.orElse fun _ => lower with
    | some m => canPair s m n (pairKey id fdf len b) mk
    | none => (canPut s n mk).1
  let s := if canMode s n = 3 then s
    else s.modCan n fun c => { c with rec_ := if 127 < c.rec_ then 127 else c.rec_ - 1 }
  if !auto then s
  else
    let s := s.modCan n fun c => { c with good := c.good + 1, brs := c.brs || brs }
    if nfld (canGet s n 0) 13 8 ≤ (s.canCh n).good then canLock s n else s

/-- CAN_RECEIVE (R343, R379, R441): a frame ends without error on the bus of channel `n`; its start lies `age` ticks back. -/
def execCanReceive (n : Fin 16) (id : BitVec 29) (ide rtr fdf brs esi : Bool) (len : Fin 65) (b : List (BitVec 8)) (age : Nat)
    (s : State) : Out :=
  let form := (if fdf then fdLen len.val && !rtr else decide (len.val ≤ 8) && !brs && !esi) && (ide || decide (id.toNat < 2048))
  let fd := !fdf || (nbit (canGet s n 0) 28 && !(canMode s n == 2 && canGet s n (0x84 + 8 * (s.canCh n).cand) == 0))
  let bs := if rtr then [] else b.take len.val
  act s (if canOn s n && form && fd && decide (canMode s n < 4) then
    let arr := (stampAt s age).1
    let s := canRx s n (canId ide rtr id.toNat) fdf brs esi len.val bs age
    if fdf then
      let s := fusCanFrame s n (canId ide false id.toNat) (sliceB bs 0 len.val) arr
      if ide && len.val == 64 then hstSegment s n id.toNat (sliceB bs 0 64) else s
    else s
    else s)

/-! ### Transmitting -/

/-- The result of a buffer. -/
def txResult (s : State) (n b : Nat) : Nat := txGet s n b 8
/-- A buffer ends: its result, and TXDONE when NOTIFY is set (R384). -/
def txFinish (s : State) (n b r : Nat) : State :=
  let s := sput s .can (txOff n b 8) r
  if nbit (txGet s n b 4) 12 then postEngine s .can 2 (n + b * 2 ^ 8 + r * 2 ^ 16) else s

/-- The arbitration key of an identifier word (R382). -/
def canKey (id : Nat) : Nat :=
  let ide := nfld id 31 31
  (if ide = 1 then nfld id 28 18 * 2 ^ 20 + nfld id 17 0 * 2 else nfld id 10 0 * 2 ^ 20) + ide * 2 ^ 19 + nfld id 30 30

/-- The identifier of the time reference message. -/
def tmIdWord (s : State) (n : Nat) : Nat := let w := canGet s n 0x18; nfld w 30 30 * 2 ^ 31 + nfld w 28 0

/-- What enters an arbitration, the time reference first among equals: key, buffer. -/
def canReady (s : State) (n : Nat) : List (Nat × Option Nat) :=
  (if (s.canCh n).tmPend.isSome then [(canKey (tmIdWord s n), none)] else []) ++
    (((List.range 32).filter fun b => txResult s n b == 1).map fun b => (canKey (txGet s n b 0), some b))

/-- The most urgent one: the first with the lowest key. -/
def canPick : List (Nat × Option Nat) → Option (Option Nat)
  | [] => none
  | x :: xs => some ((xs.foldl (fun m y => if y.1 < m.1 then y else m) x).2)

/-- CAN_FRAME_START (R372, R382, R383): the bus is idle and the most urgent frame of a channel in NORMAL starts. -/
def execCanFrameStart (n : Fin 16) (s : State) : Out :=
  act s (if !canOn s n ∨ canMode s n ≠ 0 ∨ (s.canCh n).on.isSome then s
    else match canPick (canReady s n) with
      | none => s
      | some w =>
        let t := stampAt s 0
        let put (s : State) (id : Nat) : State := s.modCan n fun c => { c with
          on := some { buf := w, id := id, lc := t.1, htb := t.2, dom := s.tim.cstate.code } }
        match w with
        | none => put s (tmIdWord s n)
        | some b =>
          let s := if nbit (canGet s n 0) 24 ∧ nbit (txGet s n b 4) 8 ∧ nbit (txGet s n b 4) 9 then
              sput s .can (canOff n 0x2C) (sense s (Block.can.base + canOff n 0x2C) % 256)
            else s
          put (sput s .can (txOff n b 8) 2) (txGet s n b 0))

/-- The payload of a buffer. -/
def txData (s : State) (n b : Nat) : List Byte :=
  ((List.range 16).flatMap fun k => leBytes 4 (txGet s n b (0x10 + 4 * k))).take (nfld (txGet s n b 4) 6 0)

/-- The attempt on the bus fails (R377, R384): a cancel that came meanwhile ends the buffer, and so does ONESHOT after an
error; else it stays pending. -/
def canAttemptEnd (s : State) (n : Nat) (err : Bool) : State :=
  match (s.canCh n).on with
  | none => s
  | some o =>
    let s := s.modCan n fun c => { c with on := none }
    match o.buf with
    | none => if o.cancel then s.modCan n fun c => { c with tmPend := none } else s
    | some b =>
      if o.cancel then txFinish s n b 4
      else if err && nbit (txGet s n b 4) 11 then txFinish s n b 5
      else sput s .can (txOff n b 8) 1

/-- The frame on the bus has been sent (R379, R383, R385). A reference frame of an earlier TM leaves the marker of the first one to the
present TM. -/
def canSent (s : State) (n : Nat) : State :=
  match (s.canCh n).on with
  | none => s
  | some o =>
    let esi := canErrState (s.canCh n) == 1
    let s := s.modCan n fun c => { c with on := none, tec := c.tec - 1 }
    match o.buf with
    | none =>
      let sec := o.lc / 10 ^ 9
      let ns := o.lc % 10 ^ 9
      let echo := if nbit (canGet s n 0) 26 then
          let p := (s.canCh n).tmPend.getD (0, 0)
          canLog s n o.lc o.htb o.id (8 + 2 ^ 11) (leBytes 4 p.1 ++ leBytes 4 p.2)
        else s
      let s := sput (sput echo .can (canOff n 0x20) (sec % 2 ^ 32)) .can (canOff n 0x24) (ns + o.dom * 2 ^ 30)
      s.modCan n fun c => { c with tmPend := none, tmLast := if o.cancel then c.tmLast else some o.lc }
    | some b =>
      let fmt := txGet s n b 4
      let fdf := nfld fmt 8 8
      let s := if nbit (canGet s n 0) 26 then
          let info := nfld fmt 6 0 + fdf * 2 ^ 8 + fdf * nfld fmt 9 9 * 2 ^ 9 +
            fdf * b2n esi * 2 ^ 10 + 2 ^ 11 + nfld o.id 30 30 * 2 ^ 20
          canLog s n o.lc o.htb o.id info (if nbit o.id 30 then [] else txData s n b)
        else s
      txFinish (sput s .can (txOff n b 0xC) (nset o.id 30 30 0)) n b 3

/-- CAN_TX_END (R383): the frame that channel `n` has on the bus ends. -/
def execCanTxEnd (n : Fin 16) (r : TxEnd) (s : State) : Out :=
  act s (if !canOn s n then s
    else match r with
      | .sent => canSent s n
      | .lost => canAttemptEnd s n false
      | .error => canAttemptEnd s n true)

/-! ### Errors -/

/-- CAN_ERROR (R378, R379): an error is detected, `tx` in the channel's own frame; `heavy` tells an error that raises the
receive count by 8 (PRESUMED: the counts of ISO 11898-1). -/
def execCanError (n : Fin 16) (code : BitVec 8) (tx heavy : Bool) (s : State) : Out :=
  act s (if !canOn s n then s
    else
      let n := n.val
      let s := rcount s .a (Block.can.base + canOff n 0x48) 31 0 1
      let s := s.modCan n fun c =>
        let c := { c with code := code.toNat }
        if c.mode = 3 then c
        else if tx then { c with tec := c.tec + 8 }
        else { c with rec_ := min 255 (c.rec_ + if heavy then 8 else 1) }
      let t := stampAt s 0
      let s := if nbit (canGet s n 0) 23 then canLog s n t.1 t.2 0 (2 * 2 ^ 20 + code.toNat * 2 ^ 24) [] else s
      let s := if canMode s n = 2 then
          s.modCan n fun c => { c with cand := (c.cand + 1) % max 1 (arCount s n), good := 0, brs := false }
        else s
      if tx then canAttemptEnd s n true else s)

/-- After a hard fault the channels leave the bus recessive (R399). -/
def canFault (s : State) : State := { s with bus := { s.bus with can := tmap s.bus.can fun _ c => { c with on := none } } }

/-- PROTOCOL_EXCEPTION (R369): an FD frame with a recessive res bit. -/
def execProtocolException (n : Fin 16) (s : State) : Out :=
  act s (if canOn s n then rcount s .a (Block.can.base + canOff n 0x54) 31 0 1 else s)

/-- CAN_BUS_OFF (R377): the transmit error count has passed 255. -/
def execCanBusOff (n : Fin 16) (s : State) : Out :=
  act s (if !canOn s n ∨ (s.canCh n).tec ≤ 255 then s
    else
      let n := n.val
      let s := rcount (canAttemptEnd s n true) .a (Block.can.base + canOff n 0x4C) 31 0 1
      let s := s.modCan n fun c => { c with busOff := true, before := c.mode }
      if nbit (canGet s n 0) 27 then canSetMode s n 4 else s)

/-- BUSOFF_RECOVERED (R377): 128 occurrences of 11 recessive bits. -/
def execBusoffRecovered (n : Fin 16) (s : State) : Out :=
  act s (if !canEn s n ∨ s.faulty .can ∨ canMode s n ≠ 4 then s
    else canSetMode (s.modCan n fun c => { c with tec := 0, rec_ := 0, busOff := false }) n (s.canCh n).before)

/-! ### Commands -/

/-- CMD MODE (R376). -/
def canModeCmd (s : State) (l : LaneId) (n m : Nat) : State :=
  if 3 < m then reject s l .can 8 rRANGE
  else if !canEn s n ∨ canMode s n = 4 ∨ (m = 2 ∧ arCount s n = 0) then reject s l .can 8 rSTATE
  else s.modCan n fun c => { c with req := some m }

/-- Why TXREQ is rejected, or 0 (R384). -/
def txBad (s : State) (n b : Nat) : Nat :=
  let fmt := txGet s n b 4
  let fdf := nbit fmt 8
  let len := nfld fmt 6 0
  if txResult s n b = 1 ∨ txResult s n b = 2 then rSTATE
  else if fdf && !nbit (canGet s n 0) 28 then rRANGE
  else if fdf && nbit (txGet s n b 0) 30 then rRANGE
  else if (if fdf then !fdLen len else decide (8 < len)) then rRANGE
  else 0

/-- CMD TXREQ (R384). -/
def txReq (s : State) (l : LaneId) (n b : Nat) : State :=
  if txBad s n b = 0 then sput s .can (txOff n b 8) 1 else reject s l .can 8 (txBad s n b)

/-- CMD TXCANCEL (R384). -/
def txCancel (s : State) (n b : Nat) : State :=
  if txResult s n b = 1 then txFinish s n b 4
  else if txResult s n b = 2 then s.modCan n fun c => { c with on := c.on.map fun o => { o with cancel := true } }
  else s

/-- CMD RECOVER (R377). DESIGN CHOICE: it is rejected with STATE on a channel that is not bus-off, or recovers already. -/
def canRecover (s : State) (l : LaneId) (n : Nat) : State :=
  if (s.canCh n).busOff ∧ canEn s n ∧ canMode s n ≠ 4 then canSetMode s n 4 else reject s l .can 8 rSTATE

/-- A write of CAN.CMD (R402). -/
def canCmd (s : State) (l : LaneId) (v : Nat) : State :=
  gated s l .can 8 fun s =>
    let n := nfld v 19 16
    match nfld v 31 28 with
    | 1 => canModeCmd s l n (nfld v 10 8)
    | 2 => txReq s l n (nfld v 4 0)
    | 3 => txCancel s n (nfld v 4 0)
    | 4 => canRecover s l n
    | _ => reject s l .can 8 rRANGE

/-- CAN_MODE (R376). -/
def execCanMode (l : LaneId) (n : Fin 16) (m : Fin 8) (s : State) : Out :=
  act s (canCmd s l (2 ^ 28 + n.val * 2 ^ 16 + m.val * 2 ^ 8))
/-- TXREQ (R384). -/
def execTxreq (l : LaneId) (n : Fin 16) (b : Fin 32) (s : State) : Out :=
  act s (canCmd s l (2 * 2 ^ 28 + n.val * 2 ^ 16 + b.val))
/-- TXCANCEL (R384). -/
def execTxcancel (l : LaneId) (n : Fin 16) (b : Fin 32) (s : State) : Out :=
  act s (canCmd s l (3 * 2 ^ 28 + n.val * 2 ^ 16 + b.val))
/-- RECOVER (R377). -/
def execRecover (l : LaneId) (n : Fin 16) (s : State) : Out := act s (canCmd s l (4 * 2 ^ 28 + n.val * 2 ^ 16))

/-- CAN_MODE_CHANGE (R376): the bus is idle and the requested mode takes effect. -/
def execCanModeChange (n : Fin 16) (s : State) : Out :=
  act s (match (s.canCh n).req with
    | none => s
    | some m =>
      if !canOn s n ∨ canMode s n = 4 ∨ (s.canCh n).on.isSome then s
      else
        let s := s.modCan n fun c => { c with req := none }
        if m = (s.canCh n).mode then s else canSetMode s n m)

/-! ### The time reference -/

/-- The payload of a reference frame built now (R385): SEC and NSDOM; `none` is the invalid marker. -/
def tmPayload (s : State) (last : Option Nat) : Nat × Nat :=
  let d := s.tim.cstate.code * 2 ^ 30
  match last with
  | some lc => (lc / 10 ^ 9 % 2 ^ 32, lc % 10 ^ 9 + d)
  | none => (0xFFFFFFFF, 0x3FFFFFFF + d)

/-- TIME_REFERENCE (R385): TMPER ms of local clock have passed. -/
def execTimeReference (n : Fin 16) (s : State) : Out :=
  let c := s.canCh n
  act s (if !nbit (canGet s n 0x18) 31 ∨ s.faulty .can ∨ localCount s < c.tmNext then s
    else
      let s := s.modCan n fun c => { c with tmNext := c.tmNext + nfld (canGet s n 0x1C) 15 0 * 10 ^ 6 }
      if canMode s n ≠ 0 ∨ c.tmPend.isSome then
        (rcount s .a (Block.can.base + canOff n 0x58) 31 0 1).modCan n fun c => { c with tmSkip := true }
      else
        s.modCan n fun c => { c with tmPend := some (tmPayload s (if c.tmSkip then none else c.tmLast)), tmSkip := false })

/-! ### Registers -/

/-- A write of CFG (R370, R371, R376). -/
def canCfg (s : State) (l : LaneId) (n v : Nat) : State :=
  let off := canOff n 0
  let rej := regVerdict s l .can off v
  if rej = rLOCKED then reject s l .can off rLOCKED
  else if canEn s n then reject s l .can off rSTATE
  else if rej ≠ 0 ∨ (nbit v 29 ∧ (1 < n ∨ nbit v 28)) then reject s l .can off rRANGE
  else
    let s := regPlain s l .can off v
    if nbit v 31 then canSetMode (s.modCan n fun c => { c with tec := 0, rec_ := 0, busOff := false, on := none, req := none }) n (nfld v 22 20)
    else s

/-- Clock periods of a bit: BRP × (1 + TSEG1 + TSEG2) of an NBT value. -/
def nbtDiv (v : Nat) : Nat := nfld v 31 26 * (1 + nfld v 25 17 + nfld v 16 9)
/-- The same of a DBT value. -/
def dbtDiv (v : Nat) : Nat := nfld v 29 24 * (1 + nfld v 21 16 + nfld v 12 8)

/-- Whether a value of NBT, DBT or a candidate gives a rate that R370 does not allow; a candidate's data timing may be 0 as a whole
(R402). -/
def rateBad (s : State) (n r v : Nat) : Bool :=
  let data := r == 8 || (decide (0x80 ≤ r) && r % 8 == 4)
  let parts := [nfld v 29 24, nfld v 21 16, nfld v 12 8, nfld v 4 0]
  if !data then decide (nbtDiv v < 80)
  else if r ≠ 8 ∧ parts.all (· == 0) then false
  else parts.any (· == 0) || decide (dbtDiv v < 10 ∨ (r = 8 ∧ nbtDiv (canGet s n 4) < dbtDiv v))

/-- A write of NBT, DBT or a candidate (R370). DEDUCED: a candidate takes what NBT and DBT take, but for their relation to each
other. -/
def canRate (s : State) (l : LaneId) (n r v : Nat) : State :=
  let off := canOff n r
  let rej := regVerdict s l .can off v
  if rej = rLOCKED then reject s l .can off rLOCKED
  else if canEn s n then reject s l .can off rSTATE
  else if rej ≠ 0 ∨ rateBad s n r v then reject s l .can off rRANGE
  else regPlain s l .can off v

/-- A write of TMCFG: TM starts the reference messages with the invalid marker (R385); a reference frame that is on the bus ends as it
is. -/
def canTm (s : State) (l : LaneId) (n v : Nat) : State :=
  let was := nbit (canGet s n 0x18) 31
  let s := regPlain s l .can (canOff n 0x18) v
  let is := nbit (canGet s n 0x18) 31
  if is && !was then s.modCan n fun c => { c with
    tmNext := localCount s + nfld (canGet s n 0x1C) 15 0 * 10 ^ 6, tmLast := none, tmSkip := false }
  else if !is then s.modCan n fun c =>
    match c.on with
    | some o => if o.buf.isNone then { c with on := some { o with cancel := true } } else { c with tmPend := none }
    | none => { c with tmPend := none }
  else s

/-- The registers of CAN that the state answers (R402). MODE.CAND is set by the lock (R378). -/
def canRead (s : State) (off : Nat) : Option (Nat × State) :=
  if off = 4 then
    some (b2n (s.faulty .can) * 2 ^ 16 + (List.range 16).foldl (fun a n => a + b2n (s.canCh n).busOff * 2 ^ n) 0, s)
  else if off < 0x1000 then none
  else
    let n := (off - 0x1000) / 0x1000
    let c := s.canCh n
    match off % 0x1000 with
    | 0xC => some (b2n c.untested * 2 ^ 20 + b2n c.locked * 2 ^ 19 + (if c.locked then c.cand else 0) * 2 ^ 16 + nfld (canGet s n 0x18) 31 31 * 2 ^ 8 +
        canMode s n, s)
    | 0x10 => some (c.code * 2 ^ 24 + canErrState c * 2 ^ 16 + min c.rec_ 255 * 2 ^ 8 + min c.tec 255, s)
    | 0x5C => some ((List.range 32).foldl (fun a b => a + b2n (txResult s n b == 1 || txResult s n b == 2) * 2 ^ b) 0, s)
    | _ => none

/-- The writes of CAN that have an effect of their own (R367, R370, R371, R381, R383, R385, R402). -/
def canWrite (s : State) (l : LaneId) (off v : Nat) : Option State :=
  if off = 8 then some (canCmd s l v)
  else if off < 0x1000 then none
  else
    let n := (off - 0x1000) / 0x1000
    let r := off % 0x1000
    if r = 0 then some (gated s l .can off fun s => canCfg s l n v)
    else if r = 4 ∨ r = 8 ∨ (0x80 ≤ r ∧ r < 0xC0) then some (gated s l .can off fun s => canRate s l n r v)
    else if r = 0x18 then some (gated s l .can off fun s => canTm s l n v)
    else if r = 0x28 then some (gated s l .can off fun s =>
      if regVerdict s l .can off v = rLOCKED then reject s l .can off rLOCKED
      else if nbit v 31 ∧ nfld v 19 16 ≤ n then reject s l .can off rRANGE
      else regPlain s l .can off v)
    else if 0x30 ≤ r ∧ r < 0x48 then some (ringWrite s l .can (canOff n 0x30) (r - 0x30) 16 v)
    else if 0x400 ≤ r then
      let b := (r - 0x400) / 0x60
      let k := (r - 0x400) % 0x60
      if k = 4 ∨ 0x10 ≤ k then some (gated s l .can off fun s =>
        if txResult s n b = 1 ∨ txResult s n b = 2 then reject s l .can off rBUSY else regPlain s l .can off v)
      else none
    else none

end Sys2Proof.Machine
end

