-- ==== Sys2Proof/Machine/Sha256.lean ====
section
/-! DEFINITION. SHA-256, which the signatures of chapter 20 use (PRESUMED: FIPS 180-4; the manual names it only). -/

namespace Sys2Proof.Machine

/-- The largest number of `n` more bits after `r` whose `k`-th power does not exceed `x`. -/
def rootBits (k x : Nat) : Nat → Nat → Nat
  | 0, r => r
  | n + 1, r => rootBits k x n (if (r + 2 ^ n) ^ k ≤ x then r + 2 ^ n else r)

/-- The first `n` primes below 312. -/
def primesUpTo (n : Nat) : List Nat :=
  ((List.range 312).filter fun p => decide (2 ≤ p) && (List.range 18).all fun d => decide (d < 2 ∨ p ≤ d) || p % d != 0).take n

/-- The first 32 bits of the fraction of the `k`-th root of a prime. -/
def rootFraction (k p : Nat) : Word := BitVec.ofNat 32 (rootBits k (p * 2 ^ (32 * k)) 36 0)

/-- The round constants: of the cube roots of the first 64 primes. -/
def shaK : List Word := (primesUpTo 64).map (rootFraction 3)

/-- The exclusive or of a word's rotations to the right. -/
def turns (ns : List Nat) (x : Word) : Word := ns.foldl (fun y n => y ^^^ x.rotateRight n) 0

/-- The padded message: a one bit, zeros, the length in bits. -/
def shaPad (m : List Byte) : List Byte :=
  m ++ [0x80] ++ List.replicate ((119 - m.length % 64) % 64) 0 ++ beBytes 8 (8 * m.length)

/-- A word of the message schedule from the sixteen before it, oldest first. -/
def shaNext (w : List Word) : Word :=
  let early := w.getD 1 0
  let late := w.getD 14 0
  [w.getD 0 0, turns [7, 18] early ^^^ early >>> 3, w.getD 9 0, turns [17, 19] late ^^^ late >>> 10].foldl (· + ·) 0

/-- The message schedule of a block: `n` words behind the sixteen of the window. -/
def shaSchedule : Nat → List Word → List Word
  | 0, w => w
  | n + 1, w => w.take 1 ++ shaSchedule n (w.drop 1 ++ [shaNext w])

/-- One round over the eight working words, `kw` the sum of its constant and its schedule word. -/
def shaRound (h : List Word) (kw : Word) : List Word :=
  match h with
  | [a, b, c, d, e, f, g, z] =>
    let t := z + turns [6, 11, 25] e + (g ^^^ e &&& (f ^^^ g)) + kw
    (t + turns [2, 13, 22] a + (a &&& b ||| c &&& (a ||| b))) :: a :: b :: c :: (d + t) :: [e, f, g]
  | _ => h

/-- One block of 64 bytes. -/
def shaBlock (h : List Word) (blk : List Byte) : List Word :=
  let w := shaSchedule 48 ((List.range 16).map fun i => u32 (ofBE (sliceB blk (4 * i) 4)))
  List.zipWith (· + ·) h ((List.zipWith (· + ·) shaK w).foldl shaRound h)

/-- The initial hash words: of the square roots of the first eight primes. -/
def shaInit : List Word := (primesUpTo 8).map (rootFraction 2)

/-- SHA-256 of a string of bytes: 32 bytes. -/
def sha256 (m : List Byte) : List Byte :=
  let p := shaPad m
  let h := (List.range (p.length / 64)).foldl (fun h k => shaBlock h (sliceB p (64 * k) 64)) shaInit
  (h.map fun w => beBytes 4 w.toNat).flatten

end Sys2Proof.Machine
end

