-- ==== Sys2Proof/Machine/P256.lean ====
section
/-! DEFINITION. Verification of an ECDSA signature on curve P-256 (PRESUMED: FIPS 186; the manual names it only). -/

namespace Sys2Proof.Machine

/-- The field of the curve. -/
def p256p : Nat := 0xffffffff00000001000000000000000000000000ffffffffffffffffffffffff
/-- The order of the base point. -/
def p256n : Nat := 0xffffffff00000000ffffffffffffffffbce6faada7179e84f3b9cac2fc632551
/-- The constant of the curve. -/
def p256b : Nat := 0x5ac635d8aa3a93e7b3ebbd55769886bc651d06b0cc53b0f63bce3c3e27d2604b
/-- The base point. -/
def p256g : Nat × Nat :=
  (0x6b17d1f2e12c4247f8bce6e563a440f277037d812deb33a0f4a13945d898c296,
   0x4fe342e2fe1a7f9b8ee7eb4a7c0f9e162bce33576b315ececbb6406837bf51f5)

/-- x to the power e modulo m, for e below 2^256. -/
def powMod (x e m : Nat) : Nat :=
  ((List.range 256).foldl (fun a k => (if e / 2 ^ k % 2 = 1 then a.1 * a.2 % m else a.1, a.2 * a.2 % m)) (1 % m, x % m)).1
/-- The inverse modulo a prime. -/
def invMod (x m : Nat) : Nat := powMod x (m - 2) m
/-- A difference modulo the field. -/
def subP (a b : Nat) : Nat := (a + p256p - b % p256p) % p256p

/-- The sum of two points; `none` is the point at infinity. -/
def ecAdd (a b : Option (Nat × Nat)) : Option (Nat × Nat) :=
  match a, b with
  | none, q => q
  | q, none => q
  | some (x1, y1), some (x2, y2) =>
    if x1 = x2 ∧ (y1 + y2) % p256p = 0 then none
    else
      let k := if x1 = x2 then subP (3 * x1 * x1) 3 * invMod (2 * y1) p256p % p256p
        else subP y2 y1 * invMod (subP x2 x1) p256p % p256p
      let x := subP (k * k) (x1 + x2)
      some (x, subP (k * subP x1 x) y1)

/-- A multiple of a point. -/
def ecMul (k : Nat) (q : Nat × Nat) : Option (Nat × Nat) :=
  ((List.range 256).foldl (fun a i => (if k / 2 ^ i % 2 = 1 then ecAdd a.1 a.2 else a.1, ecAdd a.2 a.2)) (none, some q)).1

/-- Whether a point lies on the curve. -/
def onCurve (q : Nat × Nat) : Bool :=
  decide (q.1 < p256p ∧ q.2 < p256p ∧ q.2 * q.2 % p256p = subP (q.1 ^ 3 + p256b) (3 * q.1))

/-- Whether a signature r, s of 64 bytes verifies over a 32-byte digest with a public key. -/
def ecdsaOk (x y digest sig : List Byte) : Bool :=
  let q := (ofBE x, ofBE y)
  let r := ofBE (sliceB sig 0 32)
  let s := ofBE (sliceB sig 32 32)
  if !onCurve q ∨ r = 0 ∨ p256n ≤ r ∨ s = 0 ∨ p256n ≤ s then false
  else
    let w := invMod s p256n
    match ecAdd (ecMul (ofBE digest * w % p256n) p256g) (ecMul (r * w % p256n) q) with
    | none => false
    | some v => v.1 % p256n == r

end Sys2Proof.Machine
end

