-- ==== Sys2Proof/Machine/Security.lean ====
section
/-! DEFINITION. Keys, images, tokens and sessions of the security unit (spec/20), the recorder's clear (spec/16 R492,
R493). -/

namespace Sys2Proof.Machine

/-- Change the security unit. -/
def State.modSec (s : State) (f : SecSt → SecSt) : State := { s with sec := f s.sec }
/-- A key slot. -/
def State.key (s : State) (k : Nat) : KeySlot := tget s.sec.keys k

/-- Whether a slot is ACTIVE with a permission (R559). -/
def keyMay (s : State) (k bit : Nat) : Bool := decide (k < 4) && (s.key k).st == .active && nbit (s.key k).mask bit
/-- Whether a signature over a message verifies with a slot's key. -/
def keyVerify (s : State) (k : Nat) (msg sig : List Byte) : Bool := ecdsaOk (s.key k).x (s.key k).y (sha256 msg) sig
/-- KEYID of a slot (R560). -/
def keyId (s : State) (k : Nat) : List Byte := sliceB (sha256 ((s.key k).x ++ (s.key k).y)) 0 8

/-! ### Images -/

/-- A segment of a payload (R116): region, core, flags, offset, length, payload offset. -/
def segAt (p : List Byte) (k : Nat) : Nat × Nat × Nat × Nat × Nat × Nat :=
  let o := 0xC0 + 16 * k
  (leAt p o 1, leAt p (o + 1) 1, leAt p (o + 2) 2, leAt p (o + 4) 4, leAt p (o + 8) 4, leAt p (o + 12) 4)

/-- The size of a region (R43, R116). -/
def regionSize (r : Nat) : Nat := if r = 0 then 2 ^ 20 else if r = 1 then 2 ^ 23 else 2 ^ 30

/-- Whether a segment fails the rules of R117 on its own. -/
def segBad (p : List Byte) (k : Nat) : Bool :=
  let g := segAt p k
  decide (3 ≤ g.1 ∨ (g.1 = 0 ∧ 7 < g.2.1) ∨ (g.1 ≠ 0 ∧ g.2.1 ≠ 0) ∨ 2 ≤ g.2.2.1 ∨ g.2.2.2.1 % 4 ≠ 0 ∨ g.2.2.2.2.1 % 4 ≠ 0 ∨
    regionSize g.1 < g.2.2.2.1 + g.2.2.2.2.1 ∨ (g.2.2.1 % 2 = 0 ∧ leAt p 0xC 4 < g.2.2.2.2.2 + g.2.2.2.2.1))

/-- Whether two segments overlap (R117). DESIGN CHOICE: a segment of length 0 strictly inside another counts as overlapping it. -/
def segClash (p : List Byte) (i j : Nat) : Bool :=
  let a := segAt p i
  let b := segAt p j
  a.1 == b.1 && a.2.1 == b.2.1 && decide (a.2.2.2.1 < b.2.2.2.1 + b.2.2.2.2.1 ∧ b.2.2.2.1 < a.2.2.2.1 + a.2.2.2.2.1)

/-- Whether the core-table entry of a started core fails (R117). -/
def coreBad (p : List Byte) (n : Nat) : Bool :=
  let o := 0x40 + 16 * n
  let e := leAt p o 4
  let t := leAt p (o + 4) 4
  let z := leAt p (o + 12) 4
  nbit (leAt p 6 1) n && decide (e % 4 ≠ 0 ∨ z ≤ e ∨ t % 4 ≠ 0 ∨ z ≤ t ∨ 0x100000 < z)

/-- Whether a payload passes R117; `p` holds the bytes after the envelope, `paylen` is the envelope's PAYLEN. -/
def payloadOk (p : List Byte) (paylen : Nat) : Bool :=
  let n := leAt p 8 2
  let len := leAt p 0xC 4
  decide (leAt p 0 4 = 0x4C4E4152 ∧ leAt p 4 2 = 1 ∧ leAt p 7 1 = 0 ∧ leAt p 0xA 2 = 0 ∧ leAt p 0x10 48 = 0 ∧ leAt p 6 1 ≠ 0 ∧
    1 ≤ n ∧ n ≤ 64 ∧ 0xC0 + 16 * n ≤ len ∧ len = paylen ∧ len ≤ p.length) &&
  ((List.range 8).all fun k => !coreBad p k) &&
  ((List.range n).all fun i => !segBad p i && (List.range i).all fun j => !segClash p i j)

/-- Whether an image is valid (R562). -/
def imgValid (s : State) (m : List Byte) : Bool :=
  let k := leAt m 6 1
  let paylen := leAt m 8 4
  decide (128 ≤ m.length ∧ m.length ≤ 2 ^ 26 ∧ leAt m 0 4 = 0x474D4953 ∧ leAt m 4 2 = 1 ∧ leAt m 7 1 = 0 ∧ leAt m 0x30 16 = 0 ∧
    s.sec.minver ≤ leAt m 0xC 4) &&
  payloadOk (m.drop 128) paylen && keyMay s k 0 && sliceB m 0x10 32 == sha256 ((m.drop 128).take paylen) &&
  keyVerify s k (m.take 64) (sliceB m 0x40 64)

/-- The image hash (R562). -/
def imgHash (m : List Byte) : List Byte := sha256 (m.take (128 + leAt m 8 4))

/-! ### Nonces and tokens -/

/-- A fresh nonce of a purpose (R570): it replaces the earlier one and expires after 300 s. -/
def nonceMake (s : State) (p : Nat) : State :=
  let v := Config.freeNonce s.freeCtr
  { s with freeCtr := s.freeCtr + 1
           sec := { s.sec with nonces := tset s.sec.nonces p { value := v, until_ := s.now + ms 300000 } } }

/-- The valid nonce of a purpose. -/
def nonceOf (s : State) (p : Nat) : Option SecNonce :=
  match tfind s.sec.nonces p with
  | some n => if s.now < n.until_ then some n else none
  | none => none

/-- A purpose's nonce is consumed. -/
def nonceDrop (s : State) (p : Nat) : State := s.modSec fun x => { x with nonces := tdel x.nonces p }

/-- The permission that signs a purpose (R559, R569). -/
def purposePerm (p : Nat) : Nat := if p = 1 then 2 else if p = 2 then 3 else 4

/-- Whether a token is valid for a purpose and a nonce (R569): its signing slot and LIFE. -/
def tokenOk (s : State) (p : Nat) (v : BitVec 128) (t : List Byte) : Option (Nat × Nat) :=
  let k := leAt t 5 1
  let life := leAt t 6 2
  if t.length = 96 ∧ leAt t 0 4 = 0x4E4B4F54 ∧ leAt t 4 1 = p ∧ leAt t 8 8 = Config.serial.toNat ∧ leAt t 0x10 16 = v.toNat ∧
      (if p = 3 then life = 0 else 1 ≤ life ∧ life ≤ 3600) ∧ keyMay s k (purposePerm p) ∧
      keyVerify s k (t.take 32) (sliceB t 0x20 64) then some (k, life) else none

/-- A token check (R570, R571): the nonce is consumed either way; the answer is the state and the signing slot and LIFE, or
the reason of the rejection. DESIGN CHOICE: the check lasts for the tick of its command. -/
def tokenCheck (s : State) (p addr len : Nat) : State × (Nat ⊕ Nat × Nat) :=
  match nonceOf s p with
  | none => (nonceDrop s p, .inl 0x11)
  | some n =>
    let t := dramRead s 0 addr len
    let s := dramMeet s (.engine .sec) 0 addr len
    ((nonceDrop s p).modSec fun x => { x with checked := tset x.checked p s.now }, match tokenOk s p n.value t with
      | some r => .inr r
      | none => .inl 0x10)

/-- Whether a token of a purpose is being checked (R570). -/
def tokenBusy (s : State) (p : Nat) : Bool := tfind s.sec.checked p == some s.now

/-! ### Sessions -/

/-- SESSION is posted (R573). -/
def sessPost (s : State) (opened dbg : Bool) : State := postEngine s .sec 2 (b2n opened + b2n dbg * 2)

/-- The service session ends (R571). -/
def sessEnd (s : State) : State :=
  if s.sec.session.isSome then sessPost (s.modSec fun x => { x with session := none }) false false else s

/-- A session whose LIFE is over ends (R571). -/
def sessExpire (s : State) : State :=
  if s.sec.session.isSome ∧ due (s.sec.session.map (·.1)) s.now then
    sessEnd (s.modSec fun x => { x with sessEnded := some s.now })
  else s

/-- The debug port is locked (R571, R572). -/
def debugEnd (s : State) : State :=
  if s.sec.dbg.isSome then sessPost (s.modSec fun x => { x with dbg := none }) false true else s

/-- SESSION_EXPIRY (R571): the service session or the debug port (`dbg`) reaches its LIFE. -/
def execSessionExpiry (dbg : Bool) (s : State) : Out :=
  act s (if dbg then (if due s.sec.dbg s.now then debugEnd s else s)
    else sessExpire s)

/-- A command that needs the service session (R571): one that expires at this instant expires first. Without a session the
command is rejected with `no`, or with NOSESSION when the session has expired at this instant. -/
def inSession (s : State) (l : LaneId) (no : Nat) (k : State → State) : State :=
  let s := sessExpire s
  if s.sec.session.isSome then k s
  else reject s l .sec 8 (if s.sec.sessEnded = some s.now then 0x12 else no)

/-- CMD OPEN (R571). -/
def secOpen (s : State) (l : LaneId) : State :=
  match tokenCheck s 1 (sget s .sec 0x28) (sfld s .sec 0x2C 9 0) with
  | (s, .inl r) => reject s l .sec 8 r
  | (s, .inr r) => sessPost (s.modSec fun x => { x with session := some (s.now + ms (1000 * r.2), r.1) }) true false

/-- CMD DBGUNLOCK (R571, R572). -/
def secUnlock (s : State) (l : LaneId) : State :=
  if s.sup.modMode ≠ .service ∧ s.sup.modMode ≠ .bench then reject s l .sec 8 rSTATE
  else match tokenCheck s 2 (sget s .sec 0x28) (sfld s .sec 0x2C 9 0) with
    | (s, .inl r) => reject s l .sec 8 r
    | (s, .inr r) => sessPost (s.modSec fun x => { x with dbg := some (s.now + ms (1000 * r.2)) }) true true

/-! ### Image and key commands -/

/-- CMD IMGWRITE (R565): the image is checked, then the other slot is marked empty. -/
def secImgwrite (s : State) (l : LaneId) : State :=
  inSession s l 0x12 fun s =>
    if s.sec.writing.isSome then reject s l .sec 8 rBUSY
    else if s.sup.power = .holdup then reject s l .sec 8 rSTATE
    else
      let m := dramRead s 0 (sget s .sec 0x20) (sget s .sec 0x24)
      let t := 1 - s.sec.runslot
      let s := dramMeet s (.engine .sec) 0 (sget s .sec 0x20) (sget s .sec 0x24)
      if imgValid s m then s.modSec fun x => { x with writing := some { slot := t, bytes := some m }, slots := tdel x.slots t }
      else s.modSec fun x => { x with writing := some { slot := t, bytes := none } }

/-- An image write ends with a result (R565, R573). -/
def imgEnd (s : State) (r : Nat) : State := postEngine (s.modSec fun x => { x with writing := none, result := r }) .sec 1 r

/-- IMAGE_WRITE_DONE (R565): the write ends; `ok`: the read-back matched. Not while the fabric grants SEC nothing (R476, R477). -/
def execImageWriteDone (ok : Bool) (s : State) : Out :=
  act s (match s.sec.writing with
    | none => s
    | some w => if rqBlocked s 15 then s else match w.bytes with
      | none => imgEnd s 2
      | some m => if ok then imgEnd (s.modSec fun x => { x with slots := tset x.slots w.slot m }) 1 else imgEnd s 3)

/-- An image write is abandoned (R565, R574): its slot stays empty. -/
def imgAbandon (s : State) : State := if s.sec.writing.isSome then imgEnd s 4 else s

/-- CMD ACTIVATE (R566). -/
def secActivate (s : State) (l : LaneId) (t : Nat) : State :=
  inSession s l rSTATE fun s =>
    match tfind s.sec.slots t with
    | some m => if imgValid s m then s.modSec fun x => { x with bootsel := t } else reject s l .sec 8 rSTATE
    | none => reject s l .sec 8 rSTATE

/-- CMD RAISEMIN (R566). -/
def secRaisemin (s : State) (l : LaneId) : State :=
  let v := leAt ((tfind s.sec.slots s.sec.runslot).getD []) 0xC 4
  if v < s.sec.minver then reject s l .sec 8 rRANGE else s.modSec fun x => { x with minver := v }

/-- A command of R560: it needs a session signed by a slot with KEYADMIN. -/
def keySession (s : State) (l : LaneId) (k : State → State) : State :=
  inSession s l 0x12 fun s => match s.sec.session with
    | some e => if nbit (s.key e.2).mask 5 then k s else reject s l .sec 8 0x12
    | none => s

/-- CMD KEYWRITE (R560). -/
def secKeywrite (s : State) (l : LaneId) (k : Nat) : State :=
  let load (s : State) : State :=
    if (s.key k).st ≠ .empty then reject s l .sec 8 rSTATE
    else
      let b := dramRead s 0 (sget s .sec 0x20) 68
      let s := dramMeet s (.engine .sec) 0 (sget s .sec 0x20) 68
      s.modSec fun x => { x with keys := tset x.keys k { st := .active, x := sliceB b 0 32, y := sliceB b 32 32, mask := leAt b 64 4 } }
  if s.sup.modMode = .service ∧ (List.range 4).all fun i => (s.key i).st == .empty then load s else keySession s l load

/-- CMD KEYREVOKE (R560). -/
def secKeyrevoke (s : State) (l : LaneId) (k : Nat) : State :=
  keySession s l fun s =>
    if (List.range 4).any fun i => i != k && keyMay s i 0 then
      s.modSec fun x => { x with keys := tmod x.keys k fun y => { y with st := .revoked } }
    else reject s l .sec 8 rSTATE

/-- CMD NONCE of SEC (R570): purposes 1 to 3. -/
def secNonce (s : State) (l : LaneId) (p : Nat) : State :=
  if p = 0 then reject s l .sec 8 rRANGE
  else if tokenBusy s p then reject s l .sec 8 rBUSY
  else nonceMake (s.modSec fun x => { x with lastPurpose := p }) p

/-- SEC.CMD (R573, R574): after a hard fault only ENDSESSION and DBGLOCK are not rejected. The recovery loader offers NONCE, OPEN,
IMGWRITE and ACTIVATE alone (R564); DESIGN CHOICE: it answers the others with STATE. -/
def secCmd (s : State) (l : LaneId) (v : Nat) : State :=
  let op := nfld v 31 28
  if !s.owns l then reject s l .sec 8 rNOTOWNER
  else if op = 0 ∨ 10 < op then reject s l .sec 8 rRANGE
  else if s.faulty .sec ∧ op ≠ 3 ∧ op ≠ 5 then reject s l .sec 8 rBUSY
  else if s.sec.recovery ∧ op ∉ [1, 2, 6, 7] then reject s l .sec 8 rSTATE
  else match op with
    | 1 => secNonce s l (nfld v 1 0)
    | 2 => secOpen s l
    | 3 => sessEnd s
    | 4 => secUnlock s l
    | 5 => debugEnd s
    | 6 => secImgwrite s l
    | 7 => secActivate s l (nfld v 0 0)
    | 8 => secRaisemin s l
    | 9 => secKeywrite s l (nfld v 1 0)
    | _ => secKeyrevoke s l (nfld v 1 0)

/-- SEC_NONCE (R570). -/
def execSecNonce (l : LaneId) (p : Fin 4) (s : State) : Out := act s (secCmd s l (2 ^ 28 + p.val))
/-- SESSION_OPEN (R571). -/
def execSessionOpen (l : LaneId) (s : State) : Out := act s (secCmd s l (2 * 2 ^ 28))
/-- ENDSESSION (R571). -/
def execEndsession (l : LaneId) (s : State) : Out := act s (secCmd s l (3 * 2 ^ 28))
/-- DBGUNLOCK (R572). -/
def execDbgunlock (l : LaneId) (s : State) : Out := act s (secCmd s l (4 * 2 ^ 28))
/-- DBGLOCK (R571). -/
def execDbglock (l : LaneId) (s : State) : Out := act s (secCmd s l (5 * 2 ^ 28))
/-- IMGWRITE (R565). -/
def execImgwrite (l : LaneId) (s : State) : Out := act s (secCmd s l (6 * 2 ^ 28))
/-- ACTIVATE (R566). -/
def execActivate (l : LaneId) (t : Fin 2) (s : State) : Out := act s (secCmd s l (7 * 2 ^ 28 + t.val))
/-- RAISEMIN (R566). -/
def execRaisemin (l : LaneId) (s : State) : Out := act s (secCmd s l (8 * 2 ^ 28))
/-- KEYWRITE (R560). -/
def execKeywrite (l : LaneId) (k : Fin 4) (s : State) : Out := act s (secCmd s l (9 * 2 ^ 28 + k.val))
/-- KEYREVOKE (R560). -/
def execKeyrevoke (l : LaneId) (k : Fin 4) (s : State) : Out := act s (secCmd s l (10 * 2 ^ 28 + k.val))

/-- NONCE_EXPIRY (R570): a purpose's nonce is 300 s old. -/
def execNonceExpiry (p : Fin 4) (s : State) : Out :=
  act s (match tfind s.sec.nonces p with
    | some n => if n.until_ ≤ s.now then nonceDrop s p else s
    | none => s)

/-- A hard fault of SEC (R574). -/
def secFault (s : State) : State := imgAbandon (debugEnd (sessEnd s))

/-! ### The recorder's clear -/

/-- REC CMD NONCE (R492). DEDUCED: it needs SEC, so it is rejected with BUSY as SEC's own NONCE is after a hard fault (R574). -/
def recNonce (s : State) (l : LaneId) : State :=
  gated s l .recd 8 fun s => if s.faulty .sec ∨ tokenBusy s 3 then reject s l .recd 8 rBUSY else nonceMake s 3

/-- A successful clear (R493): everything goes, then the CLEAR record enters and its flush begins. -/
def recClearNow (s : State) (k : Nat) : State :=
  let r := s.recd
  let data := leBytes 8 k ++ keyId s k ++ leBytes 8 (r.next - r.oldest) ++ leBytes 4 r.total
  let s := { s with recd :=
    { r with
      bufA := [], bufB := [], store := [], oldest := r.next, flushed := r.next, state := .recording, flushPend := false
      full := false, frozenUntil := none, total := 0, distinct := 0, more := false, tally := [] } }
  postEngine (recPut s 1 Block.recd.arg data) .recd 3 k

/-- REC CMD CLEAR (R492, R493). -/
def recClear (s : State) (l : LaneId) : State :=
  gated s l .recd 8 fun s =>
    if s.recd.state = .flushing ∨ s.faulty .sec then reject s l .recd 8 rBUSY
    else match tokenCheck s 3 (sget s .recd 0x50) (sfld s .recd 0x54 9 0) with
      | (s, .inl r) => reject s l .recd 8 r
      | (s, .inr r) => recClearNow s r.1

/-- REC_NONCE (R492). -/
def execRecNonce (l : LaneId) (s : State) : Out := act s (recNonce s l)
/-- REC_CLEAR (R493). -/
def execRecClear (l : LaneId) (s : State) : Out := act s (recClear s l)

/-- REC.CMD (R496). -/
def recCmd (s : State) (l : LaneId) (v : Nat) : State :=
  match nfld v 31 28 with
  | 1 => recFreeze s l
  | 2 => recThawCmd s l
  | 3 => recFlush s l
  | 4 => recReadCmd s l
  | 5 => recNonce s l
  | 6 => recClear s l
  | _ => gated s l .recd 8 fun s => reject s l .recd 8 rRANGE

/-! ### Registers -/

/-- A word of a nonce. -/
def nonceWord (s : State) (p k : Nat) : Nat :=
  match nonceOf s p with
  | some n => n.value.toNat / 2 ^ (32 * k) % 2 ^ 32
  | none => 0

/-- The registers of SEC that the state answers (R573). KEYk holds X and Y as bytes in their order. DESIGN CHOICE: SESSLEFT counts
whole seconds; NONCE0–NONCE3 show the nonce of SEC's own last NONCE command, not REC's. -/
def secRead (s : State) (off : Nat) : Option (Nat × State) :=
  let x := s.sec
  if off = 4 then
    some (b2n (s.faulty .sec) * 2 ^ 16 + x.result * 2 ^ 12 + b2n x.writing.isSome * 2 ^ 9 + b2n x.recovery * 2 ^ 8 +
      b2n x.dbg.isSome * 64 + b2n x.session.isSome * 32 + (match x.session with | some e => e.2 | none => 0) * 8 +
      b2n x.fallback * 4 + x.bootsel * 2 + x.runslot, s)
  else if off = 0x10 then some (Config.serial.toNat % 2 ^ 32, s)
  else if off = 0x14 then some (Config.serial.toNat / 2 ^ 32, s)
  else if off = 0x18 then some (x.minver, s)
  else if off = 0x1C then some (match x.session with | some e => (e.1 - s.now) / ms 1000 | none => 0, s)
  else if 0x30 ≤ off ∧ off < 0x40 ∧ off % 4 = 0 then some (nonceWord s x.lastPurpose ((off - 0x30) / 4), s)
  else if off = 0x40 then some ((List.range 4).foldl (fun w k => w + (s.key k).st.code * 4 ^ k) 0, s)
  else if 0x100 ≤ off ∧ off < 0x280 ∧ off % 4 = 0 then
    let k := s.key ((off - 0x100) / 0x60)
    let o := (off - 0x100) % 0x60
    some (if o < 0x20 then leAt k.x o 4 else if o < 0x40 then leAt k.y (o - 0x20) 4 else if o = 0x40 then k.mask else 0, s)
  else none

/-- The writes of SEC that have an effect of their own (R573, R574). -/
def secWrite (s : State) (l : LaneId) (off v : Nat) : Option State :=
  if off = 0x0C then none
  else if off = 8 then some (secCmd s l v)
  else if !s.owns l then some (reject s l .sec off rNOTOWNER)
  else if (off = 0x20 ∧ offsetBad v 64) ∨ (off = 0x28 ∧ offsetBad v 1) then some (reject s l .sec off rRANGE)
  else some (regPlain s l .sec off v)

/-- The registers of REC that the state answers (R496). The high halves are latched by reads of the low ones. -/
def recRead (s : State) (l : LaneId) (c off : Nat) : Option (Nat × State) :=
  let r := s.recd
  let pair (v : Nat) : Option (Nat × State) := some (v % 2 ^ 32, rset s l (Block.recd.base + off + 4) (v / 2 ^ 32))
  match off with
  | 4 => some (b2n (s.faulty .recd) * 2 ^ 16 + b2n r.flushPend * 2 ^ 9 + b2n r.full * 2 ^ 8 +
      (match r.state with | .recording => 0 | .frozen => 1 | .flushing => 2), s)
  | 0x10 => pair r.seq
  | 0x18 => pair r.oldest
  | 0x20 => pair r.flushed
  | 0x28 => pair r.next
  | 0x30 => some (min (r.next - r.flushed) 8192, s)
  | 0x34 => some (r.ophrs, s)
  | 0x38 => some (r.pcyc % 2 ^ 24, s)
  | _ =>
    if 0x60 ≤ off ∧ off < 0x70 ∧ off % 4 = 0 then some (nonceWord s 3 ((off - 0x60) / 4), s)
    else if 0x100 ≤ off ∧ off < 0x128 ∧ off % 4 = 0 then some ((tget (s.core l c).pwbuf ((off - 0x100) / 4)).toNat, s)
    else none

/-- The writes of REC that have an effect of their own (R483, R490–R493, R496): PWBUF is banked per core in each lane. -/
def recWrite (s : State) (l : LaneId) (c off v : Nat) : Option State :=
  if off = 0x0C then none
  else if off = 8 then some (recCmd s l v)
  else if off = 0x128 then some (recPwcmd s l c v)
  else if 0x100 ≤ off ∧ off < 0x128 ∧ off % 4 = 0 then
    some (gated s l .recd off fun s => s.modCore l c fun x => { x with pwbuf := tset x.pwbuf ((off - 0x100) / 4) (u32 v) })
  else some (gated s l .recd off fun s =>
    if (off = 0x48 ∧ offsetBad v 64) ∨ (off = 0x50 ∧ offsetBad v 1) then reject s l .recd off rRANGE else regPlain s l .recd off v)

end Sys2Proof.Machine
end

