-- ==== Sys2Proof/Machine/CfgStore.lean ====
section
/-! DEFINITION. The two configuration copies (spec/18 R519–R526, spec/20 R567, R568). -/

namespace Sys2Proof.Machine

/-- Change the configuration store. -/
def State.modCfg (s : State) (f : CfgSt → CfgSt) : State := { s with cfg := f s.cfg }

/-! ### Copies -/

/-- LEN of a copy (R519). -/
def cfgLen (c : List Byte) : Nat := leAt c 0x14 4
/-- The body of a copy. -/
def cfgBody (c : List Byte) : List Byte := (c.drop 64).take (cfgLen c)
/-- The trailer of a copy (R567). -/
def cfgTrailer (c : List Byte) : List Byte := (c.drop (64 + cfgLen c)).take 80

/-- The records of a body: address and value (R520). -/
def cfgRecords (body : List Byte) : List (Nat × Nat) :=
  (List.range (body.length / 8)).map fun k => (leAt body (8 * k) 4, leAt body (8 * k + 4) 4)

/-- Whether a record may stand in a valid copy (R521). -/
def cfgRecordOk (r : Nat × Nat) : Bool :=
  r.1 % 4 == 0 && decide (0xF0000000 ≤ r.1 ∧ r.1 ≤ 0xF0BFFFFC) && r.1 - (blockOf r.1).base != 8 && r.1 != 0xF0000028

/-- The checks of R521 but for COMMIT and the CRC. -/
def cfgChecks (s : State) (c : List Byte) : Bool :=
  let k := leAt (cfgTrailer c) 0 1
  leAt c 0 4 == 0x47464346 && leAt c 4 2 == 1 && leAt c 6 2 == 0 && leAt c 0x10 4 == 0x26010001 &&
    decide (8 ≤ cfgLen c ∧ cfgLen c ≤ 4194240 ∧ cfgLen c % 8 = 0) && leAt c 0x18 4 == 80 && leAt c 0x1C 28 == 0 &&
    c.length == 144 + cfgLen c && leAt (cfgTrailer c) 1 15 == 0 && ((cfgRecords (cfgBody c)).all cfgRecordOk) && keyMay s k 1 &&
    keyVerify s k (c.take 8 ++ sliceB c 0x10 40 ++ cfgBody c ++ (cfgTrailer c).take 16) (sliceB (cfgTrailer c) 0x10 64)

/-- The CRC field of a copy (R519). -/
def cfgCrc (c : List Byte) : Nat := crc32c (c.take 0x38 ++ cfgBody c ++ cfgTrailer c)

/-- Whether a copy is valid (R521): SEC, and with it the authentication, must work. -/
def cfgValid (s : State) (c : List Byte) : Bool :=
  leAt c 0x3C 4 == 0x54494D43 && !s.faulty .sec && cfgChecks s c && leAt c 0x38 4 == cfgCrc c

/-- SEQ of a copy, 0 when it is not valid. -/
def cfgSeqOf (s : State) (c : List Byte) : Nat := if cfgValid s c then leAt c 8 8 else 0

/-- The newest valid copy with its SEQ; copy A when both have the same SEQ (R522). -/
def cfgNewest (s : State) : Option (LaneId × Nat) :=
  if s.cfg.seqA = 0 ∧ s.cfg.seqB = 0 then none
  else if s.cfg.seqA < s.cfg.seqB then some (.b, s.cfg.seqB) else some (.a, s.cfg.seqA)

/-- The bytes of a copy in flash. -/
def cfgCopy (s : State) : LaneId → List Byte
  | .a => s.cfg.copyA
  | .b => s.cfg.copyB

/-- A copy in flash takes bytes and a SEQ. -/
def cfgPut (s : State) (x : LaneId) (c : List Byte) (seq : Nat) : State :=
  match x with
  | .a => s.modCfg fun g => { g with copyA := c, seqA := seq }
  | .b => s.modCfg fun g => { g with copyB := c, seqB := seq }

/-! ### Writing -/

/-- The copy as the module stores it: SEQ, CRC and COMMIT filled in (R523). -/
def cfgSeal (c : List Byte) (seq : Nat) : List Byte :=
  let h := c.take 8 ++ leBytes 8 seq ++ sliceB c 0x10 40
  let x := h ++ leBytes 4 0 ++ leBytes 4 0x54494D43 ++ c.drop 64
  h ++ leBytes 4 (cfgCrc x) ++ leBytes 4 0x54494D43 ++ c.drop 64

/-- CMD WRITE (R523–R525, R574): steps 1 to 3 at once; from step 3 on the target copy is not valid. -/
def cfgWriteCmd (s : State) (l : LaneId) : State :=
  let n := sget s .cfg 0x14
  let c := dramRead s 0 (sget s .cfg 0x10) n
  if s.cfg.writing.isSome ∨ s.faulty .sec then reject s l .cfg 8 rBUSY
  else if s.sup.power = .holdup then reject s l .cfg 8 rSTATE
  else if n < 152 ∨ 4194384 < n ∨ n ≠ 144 + cfgLen c then reject s l .cfg 8 rRANGE
  else
    let target : LaneId := match cfgNewest s with
      | some p => p.1.other
      | none => .a
    let seq := match cfgNewest s with
      | some p => p.2 + 1
      | none => 1
    let s := dramMeet s (.engine .cfg) 0 (sget s .cfg 0x10) n
    if cfgChecks s c then (cfgPut s target [] 0).modCfg fun g => { g with
      writing := some { target, seq, bytes := some (cfgSeal c seq), old := (cfgCopy s target, cfgSeqOf s (cfgCopy s target)) } }
    else s.modCfg fun g => { g with writing := some { target, seq } }

/-- CFG.CMD (R525). -/
def cfgCmd (s : State) (l : LaneId) (v : Nat) : State :=
  gated s l .cfg 8 fun s => if nfld v 31 28 = 1 then cfgWriteCmd s l else reject s l .cfg 8 rRANGE

/-- CFG_WRITE (R523). -/
def execCfgWrite (l : LaneId) (s : State) : Out := act s (cfgCmd s l (2 ^ 28))

/-- A write ends with a result (R523, R525). -/
def cfgEnd (s : State) (r : Nat) : State := postEngine (s.modCfg fun g => { g with writing := none, result := r }) .cfg 1 r

/-- CFG_WRITE_DONE (R523): the write ends; `ok`: every read-back matched. Not while the fabric grants CFG nothing (R476, R477). -/
def execCfgWriteDone (ok : Bool) (s : State) : Out :=
  act s (match s.cfg.writing with
    | none => s
    | some w => if rqBlocked s 15 then s else match w.bytes with
      | none => cfgEnd s 2
      | some c => if ok then cfgEnd (rwrap (cfgPut s w.target c w.seq) .a (Block.cfg.base + 0x34) 1) 1 else cfgEnd s 3)

/-- A write is abandoned before COMMIT (R524): the target copy stays invalid. -/
def cfgAbandon (s : State) : State := if s.cfg.writing.isSome then cfgEnd s 4 else s

/-- A hard fault of CFG ends a write that is in progress (R526): both copies stay as they were before it. -/
def cfgFault (s : State) : State :=
  match s.cfg.writing with
  | some w => cfgEnd (if w.bytes.isSome then cfgPut s w.target w.old.1 w.old.2 else s) 4
  | none => s

/-! ### Registers -/

/-- The registers of CFG that the state answers (R525). -/
def cfgRead (s : State) (l : LaneId) (off : Nat) : Option (Nat × State) :=
  let g := s.cfg
  let pair (v : Nat) : Option (Nat × State) := some (v % 2 ^ 32, rset s l (Block.cfg.base + off + 4) (v / 2 ^ 32))
  match off with
  | 4 => some (b2n (s.faulty .cfg) * 2 ^ 16 + g.result * 2 ^ 12 + b2n g.writing.isSome * 2 ^ 9 + b2n g.none_ * 2 ^ 8 +
      b2n (g.seqB ≠ 0) * 32 + b2n (g.seqA ≠ 0) * 16 + g.loaded.num * 2 + (match cfgNewest s with | some p => p.1.num | none => 0), s)
  | 0x18 => pair g.seq
  | 0x20 => pair g.seqA
  | 0x28 => pair g.seqB
  | _ => none

/-- The writes of CFG that have an effect of their own (R525). A hard fault leaves writes of CTRL possible (R526). -/
def cfgWrite (s : State) (l : LaneId) (off v : Nat) : Option State :=
  if off = 8 then some (cfgCmd s l v)
  else if off = 0 then some (if s.owns l then regPlain s l .cfg 0 v else reject s l .cfg 0 rNOTOWNER)
  else if off = 0x10 ∧ offsetBad v 64 then some (gated s l .cfg off fun s => reject s l .cfg off rRANGE)
  else none

end Sys2Proof.Machine
end

