-- ==== Sys2Proof/Machine/EthSwitch.lean ====
section
/-! DEFINITION. The Ethernet switch, its rings, replication and elimination (spec/13 R405–R418). -/

namespace Sys2Proof.Machine

/-- A register of port `p`. -/
def ethOff (p off : Nat) : Nat := 0x100 + 0x40 * p + off
/-- A register of port `p`. -/
def ethGet (s : State) (p off : Nat) : Nat := sget s .eth (ethOff p off)
/-- A port. -/
def State.ethPort (s : State) (p : Nat) : EthPort := tget s.eth.ports p
/-- Change a port. -/
def State.modPortE (s : State) (p : Nat) (f : EthPort → EthPort) : State :=
  { s with eth := { s.eth with ports := tmod s.eth.ports p f } }
/-- A stream. -/
def State.frer (s : State) (k : Nat) : FrerSt := tget s.eth.frer k
/-- Change a stream. -/
def State.modFrer (s : State) (k : Nat) (f : FrerSt → FrerSt) : State :=
  { s with eth := { s.eth with frer := tmod s.eth.frer k f } }
/-- A register of stream `k`. -/
def frerGet (s : State) (k off : Nat) : Nat := sget s .eth (0xC00 + 0x20 * k + off)

/-! ### Frames -/

/-- A frame without VLAN tag and R-TAG: VID, PCP, whether it was tagged, the sequence number of its R-TAG, its bytes from the
destination address. -/
structure EthFrame where
  vid : Nat
  pcp : Nat
  tagged : Bool
  seq : Option Nat
  b : List Byte

/-- A 16-bit field of a frame, most significant byte first. -/
def be16 (b : List Byte) (o : Nat) : Nat := ofBE (sliceB b o 2)
/-- The destination address. -/
def EthFrame.da (f : EthFrame) : Nat := ofLE (sliceB f.b 0 6)
/-- The source address. -/
def EthFrame.sa (f : EthFrame) : Nat := ofLE (sliceB f.b 6 6)
/-- The EtherType. -/
def EthFrame.etype (f : EthFrame) : Nat := be16 f.b 12

/-- The VLAN tag leaves the frame: its control information (PRESUMED: 802.1Q). -/
def vlanTag (b : List Byte) : Option Nat × List Byte :=
  if be16 b 12 = 0x8100 then (some (be16 b 14), b.take 12 ++ b.drop 16) else (none, b)
/-- The R-TAG leaves the frame: its sequence number (PRESUMED: 802.1CB). -/
def rTag (b : List Byte) : Option Nat × List Byte :=
  if be16 b 12 = 0xF1C1 then (some (be16 b 16), b.take 12 ++ b.drop 18) else (none, b)
/-- A frame gets an R-TAG. -/
def withRTag (b : List Byte) (seq : Nat) : List Byte :=
  b.take 12 ++ beBytes 2 0xF1C1 ++ [0, 0] ++ beBytes 2 seq ++ b.drop 12

/-- A frame as it comes in at a port with its PVID and PCP (R408): a tag of VID 0 is a priority tag. -/
def parseFrame (b : List Byte) (pvid pcp : Nat) : EthFrame :=
  let v := vlanTag b
  let r := rTag v.2
  match v.1 with
  | some t => { vid := if t % 4096 = 0 then pvid else t % 4096, pcp := t / 2 ^ 13, tagged := true, seq := r.1, b := r.2 }
  | none => { vid := pvid, pcp := pcp, tagged := false, seq := r.1, b := r.2 }

/-- A UDP datagram over IPv4 or IPv6 (PRESUMED: their headers): its destination port and its payload. -/
def udpOf (f : EthFrame) : Option (Nat × List Byte) :=
  let oct (o : Nat) : Nat := ((f.b.drop o).headD 0).toNat
  let at_ (o : Nat) : Nat × List Byte := (be16 f.b (o + 2), sliceB f.b (o + 8) (be16 f.b (o + 4) - 8))
  if f.etype = 0x0800 ∧ oct 14 / 16 = 4 ∧ oct 23 = 17 then some (at_ (14 + oct 14 % 16 * 4))
  else if f.etype = 0x86DD ∧ oct 14 / 16 = 6 ∧ oct 20 = 17 then some (at_ 54)
  else none

/-- The UDP destination port of a frame. -/
def udpPort (f : EthFrame) : Option Nat := (udpOf f).map (·.1)

/-- The address of the module, byte 0 lowest. -/
def ownMac (s : State) : Nat := sget s .eth 0x10 + sfld s .eth 0x14 15 0 * 2 ^ 32
/-- A group address, broadcast among them. -/
def isGroup (mac : Nat) : Bool := mac % 2 == 1
/-- A link-local address 01-80-C2-00-00-0x (R410). -/
def isLinkLocal (mac : Nat) : Bool := mac % 2 ^ 40 == 0xC28001 && decide (mac / 2 ^ 40 < 16)

/-! ### VLANs, learning, queues -/

/-- The masks of a VLAN: MEMBER, UNTAG; `none` when no valid entry holds the VID (R408). -/
def vlanOf (s : State) (vid : Nat) : Option (Nat × Nat) :=
  ((List.range 64).find? fun v => sfld s .eth (0x400 + 8 * v) 31 31 == 1 && sfld s .eth (0x400 + 8 * v) 11 0 == vid).map fun v =>
    (sfld s .eth (0x404 + 8 * v) 10 0, sfld s .eth (0x404 + 8 * v) 26 16)

/-- A source address is learned per VLAN, or seen again (R407). DESIGN CHOICE: a full table learns no further address. -/
def learn (s : State) (vid mac port : Nat) : State :=
  if isGroup mac then s
  else
    let e : FdbEntry := { vid := vid, mac := mac, port := port, seen := s.now }
    let is (x : FdbEntry) : Bool := x.vid == vid && x.mac == mac
    let t := s.eth.fdb
    if t.any is then { s with eth := { s.eth with fdb := t.map fun x => if is x then e else x } }
    else if t.length < 4096 then { s with eth := { s.eth with fdb := t ++ [e] } }
    else s

/-- A frame enters an egress queue; a full one discards it (R409). DESIGN CHOICE: a port without link takes no frame and counts
none. -/
def enqueueFrame (s : State) (p pcp : Nat) (tag : Option Nat) (b : List Byte) : State :=
  if !(s.ethPort p).link then s
  else
    let q := tget (s.ethPort p).queue pcp
    if 64 ≤ q.length then scount s .eth (ethOff p 0x20) 1
    else s.modPortE p fun x => { x with queue := tset x.queue pcp (q ++ [(tag, b)]) }

/-- A frame to the ports of a mask, untagged where the VLAN says so (R408). -/
def sendPorts (s : State) (mask untag : Nat) (f : EthFrame) : State :=
  let b := match f.seq with
    | some n => withRTag f.b n
    | none => f.b
  (List.range 10).foldl (fun s p =>
    if nbit mask p then enqueueFrame s p f.pcp (if nbit untag p then none else some f.vid) b else s) s

/-- The ports a frame goes to within its VLAN, bit 10 the fabric port (R407, R408). -/
def destMask (s : State) (f : EthFrame) (ingress member : Nat) : Nat :=
  let all := (List.range 11).foldl (fun m p => if p ≠ ingress ∧ nbit member p then m + 2 ^ p else m) 0
  let only (p : Nat) : Nat := if nbit all p then 2 ^ p else 0
  if f.da = ownMac s then only 10
  else if isGroup f.da then all
  else match s.eth.fdb.find? fun x => x.vid == f.vid && x.mac == f.da with
    | some e => only e.port
    | none => all

/-! ### Recovery -/

/-- The stream of a frame (R414). -/
def streamOf (s : State) (f : EthFrame) : Option Nat :=
  (List.range 32).find? fun k =>
    frerGet s k 0 + nfld (frerGet s k 4) 15 0 * 2 ^ 32 == f.da && nfld (frerGet s k 4) 27 16 == f.vid &&
      nfld (frerGet s k 4) 31 30 != 0

/-- What the vector recovery algorithm answers. -/
inductive FrerOut where
  | pass | rogue | dup
  deriving DecidableEq

/-- The vector recovery algorithm (R415). PRESUMED: takeany starts true, as a reset of the function leaves it in 802.1CB. -/
def recover (x : FrerSt) (hist n : Nat) : FrerSt × FrerOut :=
  if x.takeAny then ({ x with rec_ := n, hist := 1, takeAny := false }, .pass)
  else
    let dl := signed 16 ((n + 2 ^ 16 - x.rec_) % 2 ^ 16)
    if hist ≤ dl.natAbs then (x, .rogue)
    else if dl ≤ 0 then
      if nbit x.hist dl.natAbs then (x, .dup) else ({ x with hist := x.hist + 2 ^ dl.natAbs }, .pass)
    else ({ x with hist := (x.hist * 2 ^ dl.natAbs ||| 1) % 2 ^ hist, rec_ := n }, .pass)

/-! ### The fabric port -/

/-- Where a frame for the fabric port goes (R411). -/
inductive Steer where
  | fus | hst | ring (r : Nat) | drop
  deriving DecidableEq

/-- The steering of a frame for the fabric port: the first match decides (R411). -/
def steer (s : State) (f : EthFrame) : Steer :=
  let u := udpPort f
  let fus := (List.range 16).any fun n =>
    let cfg := sget s .fus (0x100 + 0x40 * n)
    nbit cfg 31 && nfld cfg 29 28 == 0 && u == some (nfld cfg 15 0)
  if fus then .fus
  else if u = some (sfld s .hst 0x14 15 0) then .hst
  else
    let hit (k : Nat) : Bool :=
      let w := sget s .eth (0xA00 + 8 * k)
      let v := sget s .eth (0xA04 + 8 * k)
      let eq (x y : Nat) : Bool := x == 0 || x == y
      nbit w 31 && eq (nfld w 15 0) f.etype && (nfld v 31 16 == 0 || u == some (nfld v 31 16)) && eq (nfld v 11 0) f.vid
    match (List.range 16).find? hit with
    | some k =>
      let w := sget s .eth (0xA00 + 8 * k)
      if nbit w 30 then .drop else .ring (nfld w 26 24)
    | none => .ring 0

/-- A message of the job port: a heartbeat, or a message with a job header. -/
def hstDatagram (s : State) (b : List Byte) : State := if leAt b 1 1 = 0x10 then hstHeartbeat s b else hstAny s (strOnUdp s) b

/-- The stamp of a frame: local clock in 2^-32 ns, HTB; `age` in steps of 2 ns (R417). -/
def phyStamp (s : State) (age : Nat) : Int × Nat := ((s.tim.count : Int) - (age : Int) * timRate s / 2, s.now - (age + 1) / 2)

/-- A stamp corrected by ps, as TS and TSF (R412, R417). -/
def stampBytes (t : Int) (ps : Int) : List Byte :=
  let c := (t + ps * 2 ^ 32 / 1000).toNat
  leBytes 8 (c / 2 ^ 32 % 2 ^ 64) ++ leBytes 2 (c % 2 ^ 32 / 2 ^ 16)

/-- INLAT (`k` = 0) or EGLAT (`k` = 1) of a port in ps: Octevenu's calibration unless EN or a write has loaded it (R417, R431). -/
def ethLat (s : State) (p k : Nat) : Nat :=
  match tfind s.sregs (Block.eth.base + ethOff p (8 + 4 * k)) with
  | some w => nfld w.toNat 19 0
  | none => (Config.ethCal p (nfld (ethGet s p 0) 27 24) k).toNat

/-- The corrected ingress stamp of a frame, whole ns (R417). -/
def rxNs (s : State) (p age : Nat) : Nat :=
  leAt (stampBytes (phyStamp s age).1 (-(ethLat s p 0 : Int) - signed 32 (ethGet s p 0x10))) 0 8

/-- The bytes of a receive slot (R412). -/
def rxSlot (s : State) (f : EthFrame) (p age : Nat) (stream : Option Nat) (drop : Bool) : List Byte :=
  let t := phyStamp s age
  let st := stampBytes t.1 (-(ethLat s p 0 : Int) - signed 32 (ethGet s p 0x10))
  st ++ leBytes 2 f.b.length ++ leBytes 4 t.2 ++
    leBytes 4 (p + f.vid * 2 ^ 4 + f.pcp * 2 ^ 16 + b2n f.tagged * 2 ^ 19 + b2n drop * 2 ^ 20) ++
    leBytes 4 (f.seq.getD 0 + stream.getD 0 * 2 ^ 16 + b2n f.seq.isSome * 2 ^ 31) ++ List.replicate 8 0 ++ f.b

/-- A frame goes where it is steered to (R343, R411, R412). -/
def toRing (s : State) (f : EthFrame) (p age : Nat) (stream : Option Nat) : State :=
  match steer s f, udpOf f with
  | .ring r, _ =>
    let a := Block.eth.base + 0x800 + 0x20 * r
    ringSend s { rq := 6, ring := a, esz := 2048, fresh := rxSlot s f p age stream false, after := rxSlot s f p age stream true
                 use := .notify .eth 1 r 16 }
  | .fus, some (port, b) => fusDatagram s port b (rxNs s p age)
  | .hst, some (_, b) => hstDatagram s b
  | _, _ => s

/-- What a good frame at port `p` is to its VLAN (R408, R410): link-local, a member's with the masks of its VLAN, not admitted
(counted in DROP or not). -/
inductive Admit where
  | linkLocal | member (mask untag : Nat) | refused (counted : Bool)

/-- The admission of a frame at port `p` (R408, R410). -/
def admitFrame (s : State) (p : Nat) (f : EthFrame) : Admit :=
  if isLinkLocal f.da then .linkLocal
  else if nbit (ethGet s p 0) 19 && !f.tagged then .refused false
  else match vlanOf s f.vid with
    | none => .refused true
    | some (m, untag) => if nbit m p then .member m untag else .refused true

/-- A frame as port `p` takes it. -/
def portFrame (s : State) (p : Nat) (b : List Byte) : EthFrame :=
  parseFrame b (nfld (ethGet s p 0) 11 0) (nfld (ethGet s p 0) 22 20)

/-- Whether port `p` takes a frame with that FCS (R406). -/
def ethGood (s : State) (p : Nat) (b : List Byte) (fcs : Bool) : Bool :=
  (s.ethPort p).link && !s.faulty .eth && fcs && decide (60 ≤ b.length ∧ b.length ≤ 1596)

/-- Whether a copy of number `n` of stream `k` waits behind this command at a port below `p` (R416). Frames of later cycles do not
wait yet, since the cycle ends with the queue. -/
def lowerCopyWaits (s : State) (p k n : Nat) : Bool :=
  s.pending.any fun c => match c with
    | .ethReceive q b fcs _ =>
      let f := portFrame s q b
      let fabric := match admitFrame s q f with
        | .linkLocal => true
        | .member m _ => nbit (destMask s f q m) 10
        | .refused _ => false
      decide (q.val < p) && ethGood s q b fcs && fabric && streamOf s f == some k && f.seq == some n && nbit (frerGet s k 8) q
    | _ => false

/-- A frame bound for the fabric port: recovery of its stream (R414–R416), then its ring. Of copies in one cycle the one from the
lower port passes. -/
def toFabric (s : State) (f : EthFrame) (p age : Nat) : State :=
  match streamOf s f, f.seq with
  | some k, some n =>
    if !(nbit (frerGet s k 4) 30 && nbit (frerGet s k 8) p) then toRing s f p age (some k)
    else
      let off := 0xC00 + 0x20 * k
      let x := s.frer k
      let x := { x with seen := tset x.seen p s.now }
      let r := recover x (nfld (frerGet s k 0xC) 21 16) n
      match r.2, lowerCopyWaits s p k n with
      | .rogue, _ => rcount (s.modFrer k fun _ => x) .a (Block.eth.base + off + 0x18) 31 16 1
      | .pass, false =>
        let s := rsetf (scount s .eth (off + 0x14) 1) .a (Block.eth.base + off + 0x10) 31 16 r.1.rec_
        toRing (s.modFrer k fun _ => { r.1 with passAt := s.now }) f p age (some k)
      | _, _ => rcount (s.modFrer k fun _ => x) .a (Block.eth.base + off + 0x18) 15 0 1
  | st, _ => toRing s f p age st

/-! ### Reception -/

/-- A good frame at port `p` (R407–R411). -/
def ethRx (s : State) (p : Nat) (b : List Byte) (age : Nat) : State :=
  let s := scount s .eth (ethOff p 0x14) 1
  let f := portFrame s p b
  match admitFrame s p f with
  | .linkLocal => toFabric s f p age
  | .refused counted => if counted then scount s .eth (ethOff p 0x20) 1 else s
  | .member member untag =>
    let s := learn s f.vid f.sa p
    let m := destMask s f p member
    let s := sendPorts s m untag f
    if nbit m 10 then toFabric s f p age else s

/-- ETH_RECEIVE (R406, R407): a frame received on a port, from its destination address without FCS, whether its FCS holds,
its stamp taken `age` × 2 ns ago. -/
def execEthReceive (p : Fin 10) (b : List (BitVec 8)) (fcs : Bool) (age : Nat) (s : State) : Out :=
  act s (if !(s.ethPort p).link ∨ s.faulty .eth then s
    else if ethGood s p b fcs then ethRx s p b age else scount s .eth (ethOff p 0x1C) 1)

/-! ### Transmission -/

/-- A write of TWP hands slots to ETH (R413). DESIGN CHOICE: a slot number of TSIZE or more is out of range. -/
def ethTwp (s : State) (l : LaneId) (q v : Nat) : State :=
  let off := 0x908 + 0x10 * q
  gated s l .eth off fun s =>
    if sfld s .eth (0x904 + 0x10 * q) 15 0 ≤ v % 65536 then reject s l .eth off rRANGE else sput s .eth off (v % 65536)

/-- TX_RING_DOORBELL (R413). -/
def execTxRingDoorbell (l : LaneId) (q : Fin 4) (v : Word) (s : State) : Out := act s (ethTwp s l q v.toNat)

/-- Whether ETH owns slots of a transmit ring. -/
def txOwned (s : State) (q : Nat) : Bool := sget s .eth (0x908 + 0x10 * q) != sget s .eth (0x90C + 0x10 * q)

/-- The only port of a mask. -/
def onePort (mask : Nat) : Option Nat :=
  match (List.range 10).filter fun p => nbit mask p with
  | [p] => some p
  | _ => none

/-- A frame from the fabric port that is not DIRECT: replicated when its stream says so, else switched as if it had arrived on
port 10 (R413, R414). DEDUCED: a link-local address leads to the fabric port alone (R410), so such a frame leaves only as DIRECT. -/
def txSwitch (s : State) (f : EthFrame) : State :=
  match (streamOf s f).filter fun k => nbit (frerGet s k 4) 31 with
  | some k =>
    let n := (s.frer k).gen
    let s := s.modFrer k fun x => { x with gen := (n + 1) % 65536 }
    sendPorts s (nfld (frerGet s k 8) 25 16) (((vlanOf s f.vid).map (·.2)).getD 0) { f with seq := some n }
  | none => match vlanOf s f.vid with
    | some (member, untag) =>
      if nbit member 10 && !isLinkLocal f.da then sendPorts (learn s f.vid f.sa 10) (destMask s f 10 member) untag f else s
    | none => s

/-- ETH_TX_DONE (R413, R417): the first slot that ETH owns of a ring has been sent or dropped, its stamp taken `age` × 2 ns
ago. A frame to be stamped goes through its queue (R409): it is DROPPED when the queue is full, and has not left while an earlier or
more urgent frame waits at its port; nothing is sent while the fabric grants ETH nothing (R476, R477). DESIGN CHOICE: it is DROPPED when its port has no link. -/
def execEthTxDone (q : Fin 4) (age : Nat) (s : State) : Out :=
  let q := q.val
  act s (if !txOwned s q ∨ s.faulty .eth ∨ rqBlocked s 6 ∨ (List.range 4).any fun r => decide (q < r) && txOwned s r then s
    else
      let size := max 1 (sfld s .eth (0x904 + 0x10 * q) 15 0)
      let trp := sget s .eth (0x90C + 0x10 * q)
      let a := sget s .eth (0x900 + 0x10 * q) + 2048 * trp
      let ctrl := mreadLE (s.gib 0) a 4
      let dest := mreadLE (s.gib 0) (a + 4) 4
      let len := nfld ctrl 10 0
      let mask := nfld dest 25 16
      let one := if nbit ctrl 29 && nbit ctrl 30 then onePort mask else none
      let pcp := nfld ctrl 26 24
      let full := one.any fun p => decide (64 ≤ (tget (s.ethPort p).queue pcp).length)
      let bad := decide (len < 60 ∨ 1596 < len) || full || one.any fun p => !(s.ethPort p).link
      let waits := !bad && one.any fun p => (List.range 8).any fun k => decide (pcp ≤ k) && !(tget (s.ethPort p).queue k).isEmpty
      let f : EthFrame := { vid := nfld dest 11 0, pcp := pcp, tagged := true, seq := none,
                            b := dramRead s 0 (a + 0x20) len }
      if waits then s
      else
      let s := dramMeet s (.engine .eth) 0 a (32 + len)
      let s := if bad then (match one with | some p => if full then scount s .eth (ethOff p 0x20) 1 else s | none => s)
        else match one with
          | some p => scount s .eth (ethOff p 0x18) 1
          | none =>
            if nbit ctrl 29 then sendPorts s mask (((vlanOf s f.vid).map (·.2)).getD 0) f else txSwitch s f
      let nots := !bad && nbit ctrl 30 && one.isNone
      let t := phyStamp s age
      let st := match one with
        | some p => if bad then [] else leBytes 4 t.2 ++ stampBytes t.1 (ethLat s p 1)
        | none => []
      let s := dramWrite s 0 (a + 8) (leBytes 4 (1 + b2n bad * 2 + b2n nots * 4) ++ st)
      let s := sput s .eth (0x90C + 0x10 * q) ((trp + 1) % size)
      if nbit ctrl 31 then postEngine s .eth 4 (q + trp * 2 ^ 8) else s)

/-- EGRESS_FRAME_SENT (R409): the frame at the head of the most urgent queue of a port has left. -/
def execEgressFrameSent (p : Fin 10) (s : State) : Out :=
  let x := s.ethPort p
  act s (match [7, 6, 5, 4, 3, 2, 1, 0].find? fun k => !(tget x.queue k).isEmpty with
    | none => s
    | some k =>
      if !x.link ∨ s.faulty .eth then s
      else scount (s.modPortE p fun x => { x with queue := tset x.queue k (tget x.queue k).tail }) .eth (ethOff p 0x18) 1)

/-! ### Links, tables, streams -/

/-- ETH_LINK_UP (R406): a link comes up, with its resolved role and signal quality. -/
def execEthLinkUp (p : Fin 10) (role : Bool) (sqi : Fin 8) (s : State) : Out :=
  act s (if (s.ethPort p).link ∨ !nbit (ethGet s p 0) 31 then s
    else
      let r := if nbit (ethGet s p 0) 29 then role else nbit (ethGet s p 0) 30
      let s := s.modPortE p fun x => { x with link := true, role := r, sqi := sqi }
      if s.faulty .eth then s else postEngine s .eth 2 (p + 2 ^ 8))

/-- A port loses its link (R406). -/
def ethDrop (s : State) (p : Nat) : State :=
  if !(s.ethPort p).link then s
  else
    let s := s.modPortE p fun x => { x with link := false }
    if s.faulty .eth then s else postEngine (sputb s .eth (ethOff p 4) 0 true) .eth 2 p

/-- ETH_LINK_DOWN (R406). -/
def execEthLinkDown (p : Fin 10) (s : State) : Out := act s (ethDrop s p)

/-- FDB_AGEING (R407): the addresses not seen for AGE seconds leave the table. -/
def execFdbAgeing (s : State) : Out :=
  act s (if s.faulty .eth then s
    else { s with eth := { s.eth with fdb := s.eth.fdb.filter fun e => decide (s.now < e.seen + ms (1000 * sfld s .eth 0x18 15 0)) } })

/-- A write of ETH.CMD (R431). -/
def ethCmd (s : State) (l : LaneId) (v : Nat) : State :=
  gated s l .eth 8 fun s =>
    if nfld v 31 28 = 1 then { s with eth := { s.eth with fdb := [] } } else reject s l .eth 8 rRANGE

/-- FLUSHFDB (R431). -/
def execFlushfdb (l : LaneId) (s : State) : Out := act s (ethCmd s l (2 ^ 28))

/-- FRER_RESET (R415): no frame of a stream has passed for RESETMS. DESIGN CHOICE: a silence counts one reset, however long. -/
def execFrerReset (k : Fin 32) (s : State) : Out :=
  let x := s.frer k
  act s (if x.takeAny ∨ s.faulty .eth ∨ !nbit (frerGet s k 4) 30 ∨ s.now < x.passAt + ms (nfld (frerGet s k 0xC) 15 0) then s
    else scount (s.modFrer k fun x => { x with takeAny := true }) .eth (0xC1C + 0x20 * k) 1)

/-- PATHDOWN (R416): a port of RPORTS has delivered no frame of the stream for RESETMS. -/
def execPathdown (k : Fin 32) (p : Fin 10) (s : State) : Out :=
  let off := 0xC10 + 0x20 * k.val
  act s (if s.faulty .eth ∨ !nbit (frerGet s k 4) 30 ∨ !nbit (frerGet s k 8) p ∨ nbit (sget s .eth off) p ∨
      s.now < tget (s.frer k).seen p + ms (nfld (frerGet s k 0xC) 15 0) then s
    else postEngine (sputb s .eth off p true) .eth 3 (k + p * 2 ^ 8))

/-! ### Registers -/

/-- A write of a port's CFG (R406, R417): at EN the stamps load the calibration of the configured speed. -/
def ethCfg (s : State) (l : LaneId) (p v : Nat) : State :=
  let off := ethOff p 0
  gated s l .eth off fun s =>
    let rej := regVerdict s l .eth off v
    if rej = rLOCKED then reject s l .eth off rLOCKED
    else if nbit (ethGet s p 0) 31 then reject s l .eth off rSTATE
    else if rej ≠ 0 ∨ (8 ≤ p ∧ nfld v 27 24 < 2) then reject s l .eth off rRANGE
    else
      let s := regPlain s l .eth off v
      if nbit v 31 then
        sput (sput s .eth (ethOff p 8) (Config.ethCal p (nfld v 27 24) 0).toNat) .eth (ethOff p 0xC)
          (Config.ethCal p (nfld v 27 24) 1).toNat
      else s

/-- A write of a stream's ID1 or PORTS (R414–R416): REC starts the recovery function afresh, and the silence of a port of RPORTS
counts from when it became one. -/
def frerCfg (s : State) (l : LaneId) (k off v : Nat) : State :=
  gated s l .eth off fun s =>
    let rec_ (s : State) : Bool := nbit (frerGet s k 4) 30
    let on (s : State) (p : Nat) : Bool := rec_ s && nbit (frerGet s k 8) p
    let t := regPlain s l .eth off v
    t.modFrer k fun x =>
      let x := if rec_ t && !rec_ s then { x with takeAny := true, passAt := s.now } else x
      { x with seen := (List.range 10).foldl (fun m p => if on t p && !on s p then tset m p s.now else m) x.seen }

/-- The registers of ETH that the state answers (R431). -/
def ethRead (s : State) (off : Nat) : Option (Nat × State) :=
  if off = 4 then
    some (b2n (s.faulty .eth) * 2 ^ 16 + (List.range 10).foldl (fun a p => a + b2n (s.ethPort p).link * 2 ^ p) 0, s)
  else if off = 0x1C then some (s.eth.fdb.length, s)
  else if 0x100 ≤ off ∧ off < 0x380 ∧ (off % 0x40 = 8 ∨ off % 0x40 = 0xC) then
    some (ethLat s ((off - 0x100) / 0x40) (off % 0x40 / 4 - 2), s)
  else if 0x100 ≤ off ∧ off < 0x380 ∧ off % 0x40 = 4 then
    let p := (off - 0x100) / 0x40
    let x := s.ethPort p
    some (if x.link then 2 ^ 31 + nfld (ethGet s p 0) 27 24 * 2 ^ 24 + x.sqi * 2 ^ 20 + b2n x.role * 2 ^ 19 + sget s .eth off % 2
      else sget s .eth off % 2, s)
  else none

/-- The writes of ETH that have an effect of their own (R406, R412, R413, R431). -/
def ethWrite (s : State) (l : LaneId) (off v : Nat) : Option State :=
  if off = 8 then some (ethCmd s l v)
  else if 0x100 ≤ off ∧ off < 0x380 ∧ off % 0x40 = 0 then some (ethCfg s l ((off - 0x100) / 0x40) v)
  else if 0x100 ≤ off ∧ off < 0x380 ∧ (off % 0x40 = 8 ∨ off % 0x40 = 0xC) then
    some (gated s l .eth off fun s =>
      if isLocked s l .eth then
        (if v % 2 ^ 20 = ethLat s ((off - 0x100) / 0x40) (off % 0x40 / 4 - 2) then s else reject s l .eth off rLOCKED)
      else sput s .eth off (v % 2 ^ 20))
  else if 0x800 ≤ off ∧ off < 0x900 then
    some (ringWrite s l .eth (off / 0x20 * 0x20) (off % 0x20) 2048 v)
  else if 0xC00 ≤ off ∧ off < 0x1000 ∧ (off % 0x20 = 4 ∨ off % 0x20 = 8) then
    some (frerCfg s l ((off - 0xC00) / 0x20) off v)
  else if 0x900 ≤ off ∧ off < 0x940 then
    match off % 0x10 with
    | 0 => some (gated s l .eth off fun s =>
        if v % 2048 ≠ 0 ∧ !isLocked s l .eth then reject s l .eth off rRANGE else regPlain s l .eth off v)
    | 8 => some (ethTwp s l ((off - 0x900) / 0x10) v)
    | _ => none
  else none

end Sys2Proof.Machine
end

