-- ==== Sys2Proof/Machine/Halyard.lean ====
section
/-! DEFINITION. Edges, samples and configuration of halyards (spec/04 R124–R138). -/

namespace Sys2Proof.Machine

/-! ### The extrapolator at an edge or sample -/

/-- The new interval of the extrapolator (R136): `q` au at tick `t`, the last distance `d1` over `p1` ticks, the
interval before it, and the cap. Held quantities are exact and then truncated toward zero. -/
def setRegime (h : Hy) (q t : Nat) (d1 : Nat) (p1 : Nat) (prev : Option (Int × Nat)) (cap : Nat) : Hy :=
  let w1 : Int := if p1 = 0 then 0 else ((d1 : Int) * 2 ^ 32).tdiv p1
  let acc : Int := match prev with
    | some (d0, p0) =>
      if p0 = 0 ∨ p1 = 0 then 0 else ((w1 - (d0 * 2 ^ 32).tdiv p0) * 2 ^ 17).tdiv ((p1 + p0 : Nat) : Int)
    | none => 0
  let v := max 0 ((w1 * 2 ^ 17 + acc * p1).tdiv (2 ^ 17))
  { h with q := q, t := t, v := v, acc := acc, speed := v, cap := max cap q, last := some ((d1 : Int), p1) }

/-- An accepted edge or sample of a halyard in SYNC (R136, R137): the correction above CORRMAX sets STAT.CORR and
counts, and is a forward step at once when JUMP is 1; LASTCORR takes what is left. -/
def regime (s : State) (l : LaneId) (n q d1 p1 cap : Nat) : State :=
  let h := s.hy l n
  let h' := setRegime h q s.now d1 p1 h.last cap
  let corr : Int := (q : Int) * 2 ^ 16 - h.pub
  let ovr := decide ((rfld s l (hyReg n 0x14) 31 8 : Int) * 2 ^ 16 < corr)
  let jump := ovr && rbit s l (hyReg n 0x14) 4
  let s := if ovr then rcount (rsetb s l (hyReg n 0x2C) 7 true) l (hyReg n 0x30) 31 0 1 else s
  let left := if jump then 0 else max 0 corr / 2 ^ 16
  let s := rset s l (hyReg n 0x34) (min left.toNat 0xFFFFFF)
  s.modHy l n fun _ => { h' with pub := if jump then max h.pub (q * 2 ^ 16) else h.pub }

/-- A halyard enters SYNC (R129): the position is set to `q`. -/
def enterSync (s : State) (l : LaneId) (n q d1 p1 : Nat) (prev : Option (Int × Nat)) (cap : Nat) : State :=
  s.modHy l n fun h =>
    { setRegime h q s.now d1 p1 prev cap with sync := .sync, pub := max h.pub (q * 2 ^ 16) }

/-- The smallest position with a fraction that is at or beyond a position (R129). -/
def turnUp (frac last : Nat) : Nat := frac + (last + 2 ^ 24 - 1 - frac % 2 ^ 24) / 2 ^ 24 * 2 ^ 24

/-- STALLTMO runs again from now; STALL is cleared (R128, R153). -/
def restartStall (s : State) (l : LaneId) (n : Nat) : State :=
  s.modHy l n fun h => { h with stall := false, stallBase := s.now }

/-- Reverse motion (R131): with PATH it advances the position by its magnitude; with HOLD it is stored as a backlog
that forward motion works off first. The answer is the forward distance. -/
def motion (path : Bool) (backlog : Nat) (inc : Int) : Nat × Nat :=
  if inc < 0 then
    if path then (inc.natAbs, backlog) else (0, backlog + inc.natAbs)
  else (inc.toNat - backlog, backlog - inc.toNat)

/-! ### Tooth wheels and quadrature -/

/-- The edges of a tooth wheel in a turn, as distances from OFFSET in au, ascending: the teeth that are there, and the
extra one of an extra-tooth pattern (spec/04 "Tooth wheels"). `pat` is CFG.PATTERN. -/
def toothSlots (n gapn gapat pat : Nat) : List Nat :=
  ((List.range n).map fun i =>
    let a := i * 2 ^ 24 / n
    if pat = 1 ∧ (i + n - gapat % n) % n < gapn then []
    else if pat = 2 ∧ i = gapat then [a, (a + (i + 1) * 2 ^ 24 / n) / 2]
    else [a]).flatten

/-- The index of the edge at which the pattern shows: the tooth after the gap, or the extra tooth (R127). -/
def patternSlot (n gapn gapat pat : Nat) : Option Nat :=
  if pat = 1 then some (((List.range ((gapat + gapn) % n)).filter fun i => ¬ ((i + n - gapat % n) % n < gapn)).length)
  else if pat = 2 then some (gapat + 1)
  else none

/-- The edges of a halyard's wheel, which need not fit its pattern (R125 refuses no such CFG): those of R126 for QUAD with both edges (4N counts), else those of the wheel. -/
def hySlots (s : State) (l : LaneId) (n : Nat) : List Nat :=
  let w := rget s l (hyReg n 4)
  let teeth := nfld w 10 0
  if hySrc s l n = 2 then
    let k := if rfld s l (hyReg n 0) 21 20 = 3 then 4 * teeth else teeth
    (List.range k).map fun j => j * 2 ^ 24 / k
  else toothSlots teeth (nfld w 14 12) (nfld w 25 16) (rfld s l (hyReg n 0) 23 22)

/-- The pattern edge of a halyard. DESIGN CHOICE: QUAD has none, whatever PATTERN says (R127 speaks of the patterns of a tooth wheel),
so it enters SYNC at its third edge. -/
def hyPattern (s : State) (l : LaneId) (n : Nat) : Option Nat :=
  if hySrc s l n = 2 then none
  else
    let w := rget s l (hyReg n 4)
    if nfld w 10 0 = 0 then none else patternSlot (nfld w 10 0) (nfld w 14 12) (nfld w 25 16) (rfld s l (hyReg n 0) 23 22)

/-- The distance from an edge to the next one. -/
def slotDist (slots : List Nat) (i : Nat) : Nat :=
  let m := slots.length
  if m = 0 then 0
  else
    let i := i % m
    if i + 1 < m then slots.getD (i + 1) 0 - slots.getD i 0 else slots.getD 0 0 + 2 ^ 24 - slots.getD i 0

/-- Whether an interval shows the pattern (R127): p1 ≥ ((GAPN + 2) / 2) × p0 for a missing tooth, p1 ≤ 0.75 × p0 for an
extra one. -/
def showsPattern (pat gapn p1 p0 : Nat) : Bool :=
  if pat = 1 then decide ((gapn + 2) * p0 ≤ 2 * p1)
  else if pat = 2 then decide (4 * p1 ≤ 3 * p0)
  else false

/-- The motion that the interval ending at the edge of index `j` was, by its direction. -/
def slotStep (slots : List Nat) (j : Nat) (dir : Bool) : Int :=
  if dir then slotDist slots (j + slots.length - 1) else -(slotDist slots j : Int)

/-- A TOOTH or QUAD halyard enters SYNC at the edge of index `j` (R127, R129); its last intervals count as R131 has them. -/
def enterAt (s : State) (l : LaneId) (n j : Nat) : State :=
  let slots := hySlots s l n
  let m := slots.length
  let h := s.hy l n
  let q := turnUp ((rfld s l (hyReg n 8) 23 0 + slots.getD j 0) % 2 ^ 24) (h.pub / 2 ^ 16)
  let p (k : Nat) : Nat := h.edges.getD k 0 - h.edges.getD (k + 1) 0
  let dir (k : Nat) : Bool := h.dirs.getD k true
  let dist (j k : Nat) : Nat := (motion (rbit s l (hyReg n 0) 19) 0 (slotStep slots j (dir k))).1
  let before := if dir 0 then j + m - 1 else j + 1
  let prev := if 3 ≤ h.edges.length then some ((dist before 1 : Int), p 1) else none
  let s := enterSync s l n q (dist j 0) (p 0) prev (q + slotDist slots j - 1)
  s.modHy l n fun h => { h with idx := some j }

/-- An accepted edge in SEEK (R127). -/
def seekEdge (s : State) (l : LaneId) (n : Nat) (shown : Bool) : State :=
  let h := s.hy l n
  match hyPattern s l n with
  | none => if 3 ≤ h.seen then enterAt s l n 0 else s
  | some ps =>
    let first (s : State) : State :=
      let k := rfld s l (hyReg n 0) 25 24
      if k = 0 then enterAt s l n ps else s.modHy l n fun h => { h with idx := some ps, conf := k }
    match h.idx with
    | none => if shown then first s else s
    | some j =>
      let j := (j + 1) % max 1 (hySlots s l n).length
      if shown ∧ j = ps then
        if h.conf ≤ 1 then enterAt s l n ps else s.modHy l n fun h => { h with idx := some j, conf := h.conf - 1 }
      else if shown then first s
      else if j = ps then s.modHy l n fun h => { h with idx := none }
      else s.modHy l n fun h => { h with idx := some j }

/-- An edge of a TOOTH or QUAD halyard, `dir` its direction (R126–R128). `phase` tells the two inputs of a QUAD pair
apart for the rate limit of 2 µs on one input. -/
def hyEdge (s : State) (l : LaneId) (n : Nat) (phase : Bool) (dir : Bool) : State :=
  let h := s.hy l n
  let lastE := if phase then h.edgeB else h.edgeA
  let fast := match lastE with
    | some t => decide (s.now - t < 500)
    | none => false
  if fast then
    let s := rsetb s l (hyReg n 0x2C) 9 true
    if h.sync = .sync then loseSync s l n (some 9) else s
  else
    let s := s.modHy l n fun h => { (if phase then { h with edgeB := some s.now } else { h with edgeA := some s.now }) with
      edges := (s.now :: h.edges).take 3, dirs := (dir :: h.dirs).take 3, seen := h.seen + 1 }
    let s := restartStall s l n
    let h := s.hy l n
    let p1 := h.edges.getD 0 0 - h.edges.getD 1 0
    let p0 := h.edges.getD 1 0 - h.edges.getD 2 0
    let shown := decide (h.edges.length = 3) &&
      showsPattern (rfld s l (hyReg n 0) 23 22) (rfld s l (hyReg n 4) 14 12) p1 p0 && (hyPattern s l n).isSome
    match h.sync with
    | .off => s
    | .seek => seekEdge s l n shown
    | .sync =>
      let slots := hySlots s l n
      let m := max 1 slots.length
      let j := h.idx.getD 0
      let j' := if dir then (j + 1) % m else (j + m - 1) % m
      if (hyPattern s l n).isSome ∧ shown ≠ decide (hyPattern s l n = some j') then loseSync s l n (some 8)
      else
        let mv := motion (rbit s l (hyReg n 0) 19) h.backlog (slotStep slots j' dir)
        let nxtD := (motion (rbit s l (hyReg n 0) 19) mv.2 (slotDist slots j')).1
        let s := s.modHy l n fun h => { h with idx := some j', backlog := mv.2 }
        regime s l n (h.q + mv.1) mv.1 p1 (h.q + mv.1 + nxtD - 1)

/-- The edge of an ANG channel as one halyard of a lane takes it (R124, R126). `a`, `b` are the levels of the pair. DESIGN CHOICE:
a QUAD halyard with EDGE rising or falling counts those edges of its even channel, N a turn, forward when that channel leads; R126
states the counts of EDGE = both only. -/
def hyAng (s : State) (l : LaneId) (n ch : Nat) (rise : Bool) : State :=
  let edge := rfld s l (hyReg n 0) 21 20
  let inp := hyInput s l n
  match hySrc s l n with
  | 1 => if inp = ch ∧ ((edge = 1 ∧ rise) ∨ (edge = 2 ∧ !rise)) then hyEdge s l n false true else s
  | 2 =>
    let a := tget s.ang inp
    let b := tget s.ang (inp + 1)
    if ch = inp ∧ (edge = 3 ∨ (edge = 1 ∧ rise) ∨ (edge = 2 ∧ !rise)) then hyEdge s l n false (a != b)
    else if ch = inp + 1 ∧ edge = 3 then hyEdge s l n true (a == b)
    else s
  | _ => s

/-- An edge of an ANG channel as a lane's halyard unit takes it. -/
def angEdge (s : State) (l : LaneId) (ch : Nat) (rise : Bool) : State :=
  (List.range 16).foldl (fun s n => hyAng s l n ch rise) s

/-! ### SENT -/

/-- A fast frame of a SENT channel as a halyard takes it (R128, R132); `t` is its sample time. Reverse motion before SYNC is no
backlog: the position is set at SYNC (R129). DESIGN CHOICE: STALLTMO counts from the sample's own time (R128 names no instant). -/
def hySent (s : State) (l : LaneId) (n t : Nat) (valid : Bool) (value : Nat) : State :=
  let h := s.hy l n
  if !valid then
    let s := s.modHy l n fun h => { h with bad := h.bad + 1, good := 0 }
    if h.sync = .sync ∧ 3 ≤ h.bad + 1 then loseSync s l n (some 8) else s
  else
    let s := s.modHy l n fun h => { h with stall := false, stallBase := t }
    let w := 12 + 4 * rfld s l (hyReg n 0) 17 16
    let scale : Nat := 2 ^ (24 - w)
    let d0 : Int := (value : Int) - (h.value.getD value : Int)
    let inc : Int := if 2 * d0 < -((2 : Int) ^ w) then d0 + 2 ^ w else if (2 : Int) ^ w < 2 * d0 then d0 - 2 ^ w else d0
    let mv := motion (rbit s l (hyReg n 0) 19) h.backlog (inc * scale)
    let p1 := t - (h.sampleT.getD t)
    let s := s.modHy l n fun h => { h with value := some value, bad := 0, good := h.good + 1, sampleT := some t
                                           backlog := if h.sync = .sync then mv.2 else 0 }
    let at_ (s : State) : State := s.modHy l n fun h => { h with t := t }
    match h.sync with
    | .off => s
    | .seek =>
      if 2 ≤ h.good + 1 then
        let q := turnUp (value * scale) (h.pub / 2 ^ 16)
        at_ (enterSync s l n q mv.1 p1 none (q + 2 * mv.1))
      else s
    | .sync => at_ (regime s l n (h.q + mv.1) mv.1 p1 (h.q + mv.1 + 2 * mv.1))

/-- A fast frame of a SENT channel in a lane's halyard unit; `t` is its sample time,
`nibbles` are its data nibbles, first one first. -/
def sentEdge (s : State) (l : LaneId) (ch t : Nat) (valid : Bool) (nibbles : List Nat) : State :=
  (List.range 16).foldl (fun s n =>
    if hySrc s l n = 3 ∧ hyInput s l n = ch then
      let k := 3 + rfld s l (hyReg n 0) 17 16
      hySent s l n t valid ((nibbles.take k).foldl (fun v d => 16 * v + d % 16) 0)
    else s) s

/-! ### FEED -/

/-- A write to FEEDD (R134). -/
def feedIncrement (s : State) (l : LaneId) (n : Nat) (v : Nat) : State :=
  if hySrc s l n ≠ 5 then reject s l .hal (hyReg n 0x38 - Block.hal.base) rSTATE
  else s.modHy l n fun h => { h with feedd := u32 v }

/-- A write to FEEDT commits a sample (R134). DESIGN CHOICE: STALLTMO counts from the sample's own time, which lies before the commit
(R128 names no instant). -/
def feedCommit (s : State) (l : LaneId) (n : Nat) (v : Nat) : State :=
  let off := hyReg n 0x3C - Block.hal.base
  if hySrc s l n ≠ 5 then reject s l .hal off rSTATE
  else
    let h := s.hy l n
    let t := extend32 s.now v
    if decide ((match h.sampleT with | some u => u | none => 0) ≥ t) && h.sampleT.isSome then reject s l .hal off 0x10
    else
      let mv := motion (rbit s l (hyReg n 0) 19) h.backlog h.feedd.toInt
      let p1 := t - h.sampleT.getD t
      let s := s.modHy l n fun h => { h with stall := false, stallBase := t, backlog := mv.2, sampleT := some t,
                                             samples := h.samples + 1 }
      let at_ (s : State) : State := s.modHy l n fun h => { h with t := t }
      match h.sync with
      | .off => s
      | .seek =>
        if h.samples = 0 then s.modHy l n fun h => { h with firstInc := mv.1 }
        else
          let q := h.pub / 2 ^ 16 + h.firstInc + mv.1
          at_ (enterSync s l n q mv.1 p1 none (q + 2 * mv.1))
      | .sync => at_ (regime s l n (h.q + mv.1) mv.1 p1 (h.q + mv.1 + 2 * mv.1))

/-! ### Configuration -/

/-- The block offset of a configuration register of a halyard. -/
def halOff (n : Nat) (r : HalReg) : Nat :=
  0x100 + 0x40 * n + (match r with | .cfg => 0 | .wheel => 4 | .offset => 8 | .ratio => 0xC | .unit => 0x10)

/-- The bits of a configuration register that are fields (R5, R153). -/
def halMask (r : HalReg) (v : Nat) : Nat :=
  match r with
  | .cfg => nfld v 25 24 * 2 ^ 24 + nfld v 23 19 * 2 ^ 19 + nfld v 17 16 * 2 ^ 16 + nfld v 12 8 * 2 ^ 8 + nfld v 3 0
  | .wheel => nfld v 25 16 * 2 ^ 16 + nfld v 14 12 * 2 ^ 12 + nfld v 10 0
  | .offset => nfld v 23 0
  | .ratio | .unit => v % 2 ^ 32

/-- Whether a CFG value is outside what R125 accepts. -/
def cfgBad (n v : Nat) : Bool :=
  let src := nfld v 3 0
  let inp := nfld v 12 8
  let e := nfld v 21 20
  decide (7 ≤ src ∨ e = 0 ∨ nfld v 23 22 = 3 ∨ (e = 3 ∧ src ≠ 2)) ||
  match src with
  | 1 => decide (15 < inp)
  | 2 => decide (14 < inp ∨ inp % 2 = 1)
  | 3 => decide (23 < inp)
  | 4 => decide (n ≤ inp)
  | _ => decide (inp ≠ 0)

/-- Whether a value of a configuration register is outside its range (R125, R153). -/
def halBad (n : Nat) (r : HalReg) (v : Nat) : Bool :=
  match r with
  | .cfg => cfgBad n v
  | .wheel => decide (nfld v 10 0 = 0 ∨ 1024 < nfld v 10 0)
  | .offset => false
  | .ratio => decide (nfld v 31 16 = 0 ∨ nfld v 15 0 = 0)
  | .unit => decide (v % 2 ^ 32 < 250)

/-- The turn offset C that puts a first position at or beyond the last published one (R133, R135). -/
def turnsOver (last raw : Nat) : Nat := (last + 2 ^ 24 - 1 - min (last + 2 ^ 24 - 1) raw) / 2 ^ 24

/-- A new source is selected; the published position stays and the next source resumes from it (R122, R125, R127, R133,
R135). Leaving SYNC has the effects of R130. -/
def setSource (s : State) (l : LaneId) (n v : Nat) : State :=
  let pos := hyPos s l n
  let was := inSync s l n
  let src := nfld v 3 0
  let s := rset s l (hyReg n 0) v
  let s := s.modHy l n fun h =>
    { ({ h with pub := max h.pub (pos * 2 ^ 16) }).still (if src = 0 then .off else .seek) s.now with
      edgeA := none, edgeB := none, sampleT := none, stall := false, stallBase := s.now, c := 0 }
  let raw := hyPos s l n
  let s := s.modHy l n fun h => { h with c := if src = 4 ∨ src = 6 then turnsOver pos raw else 0 }
  if was && !inSync s l n then lostSync s l n none else s

/-- A write to CFG, WHEEL, OFFSET, RATIO or UNIT of a halyard (R12, R125, R153). -/
def halConfig (s : State) (l : LaneId) (n : Nat) (r : HalReg) (v : Nat) : State :=
  let off := halOff n r
  let v := halMask r v
  let a := Block.hal.base + off
  let toOff := decide (r = .cfg ∧ nfld v 3 0 = 0)
  if rbit s l Block.hal.base 31 ∧ v ≠ rget s l a then reject s l .hal off rLOCKED
  else if hySrc s l n ≠ 0 ∧ !toOff then reject s l .hal off rSTATE
  else if halBad n r v then reject s l .hal off rRANGE
  else if r = .cfg then setSource s l n v
  else rset s l a v

/-- FEED_INCREMENT (R134). -/
def execFeedIncrement (l : LaneId) (n : Fin 16) (v : Word) (s : State) : Out := act s (feedIncrement s l n v.toNat)

/-- HALYARD_STALL: STALLTMO µs have passed since the last edge or sample (R128); in SYNC the halyard loses it. -/
def halStall (s : State) (l : LaneId) (n : Nat) : State :=
  let h := s.hy l n
  if extrapolates (hySrc s l n) ∧ !h.stall ∧ h.stallBase + us (rfld s l (hyReg n 0x1C) 19 0) ≤ s.now then
    let s := s.modHy l n fun h => { h with stall := true }
    if h.sync = .sync then loseSync s l n none else s
  else s

/-- HALYARD_STALL (R128). -/
def execHalyardStall (l : LaneId) (n : Fin 16) (s : State) : Out := act s (halStall s l n)

/-! ### Registers -/

/-- The block HAL as a lane reads it: the registers that the state answers (R153). -/
def halRead (s : State) (l : LaneId) (off : Nat) : Option (Nat × State) :=
  let n := (off - 0x100) / 0x40
  let r := (off - 0x100) % 0x40
  if off = 4 then some (s.now % 2 ^ 32, rset s l (Block.hal.base + 8) (s.now / 2 ^ 32))
  else if off = 0x10 then some (((List.range 16).foldl (fun v n => v + b2n (inSync s l n) * 2 ^ n) 0), s)
  else if off < 0x100 ∨ 0x500 ≤ off then none
  else if r = 0x20 then
    let p := hyP s l n
    some (p % 2 ^ 24, rset s l (hyReg n 0x24) (p / 2 ^ 24))
  else if r = 0x28 then some (hySpeedQ8 s l n, s)
  else if r = 0x2C then
    let h := s.hy l n
    some (nfld (rget s l (hyReg n 0x2C)) 9 7 * 128 + b2n (hyStallAux s l 16 n) * 64 + b2n (h.backlog ≠ 0) * 32 +
      b2n (h.capped && h.sync == .sync) * 16 + (hySync s l n).code, s)
  else none

/-- The writes of HAL that have an effect of their own (R134, R153). -/
def halWrite (s : State) (l : LaneId) (off v : Nat) : Option State :=
  let n := (off - 0x100) / 0x40
  if off = 0x14 ∧ s.sup.active ≠ l then some (reject s l .hal off rNOTOWNER)
  else if off < 0x100 ∨ 0x500 ≤ off then none
  else match (off - 0x100) % 0x40 with
    | 0x00 => some (halConfig s l n .cfg v)
    | 0x04 => some (halConfig s l n .wheel v)
    | 0x08 => some (halConfig s l n .offset v)
    | 0x0C => some (halConfig s l n .ratio v)
    | 0x10 => some (halConfig s l n .unit v)
    | 0x38 => some (feedIncrement s l n v)
    | _ => none

/-- Halyards at a warm start (R152): TOOTH, QUAD, SENT and FEED halyards return to SEEK, the STALLTMO counts restart. -/
def halWarm (s : State) (l : LaneId) : State :=
  (List.range 16).foldl (fun s n =>
    let s := if extrapolates (hySrc s l n) then s.modHy l n fun h => h.still .seek s.now else s
    s.modHy l n fun h => { h with stall := false, stallBase := s.now }) s

end Sys2Proof.Machine
end

