-- ==== Sys2Proof/Machine/HsiLoss.lean ====
section
/-! DEFINITION. Loss sensors, counting windows and snapshots of HSI (spec/08 R247–R255, R259, R260). -/

namespace Sys2Proof.Machine

/-- The offset of a register of loss channel `n`. -/
def lsnOff (n off : Nat) : Nat := 0x400 + 0x20 * n + off

/-- Change a loss channel. -/
def State.modLoss (s : State) (n : Nat) (f : LossCh → LossCh) : State :=
  { s with hsi := { s.hsi with chs := tmod s.hsi.chs n f } }

/-- A loss channel. -/
def State.loss (s : State) (n : Nat) : LossCh := tget s.hsi.chs n

/-! ### The detector -/

/-- The bin of an energy (R249): the edges of the channel's set at or below it. -/
def lossBin (s : State) (n e : Nat) : Nat :=
  let h := sfld s .hsi (lsnOff n 0) 7 6
  ((List.range 15).filter fun k => decide (sfld s .hsi (0x100 + 0x40 * h + 4 * (k + 1)) 23 0 ≤ e)).length

/-- A window takes an impact with energy `e` in bin `b` (R254). -/
def Win.take (w : Win) (b grainBin : Nat) (i : Impact) : Win :=
  { w with
    count := min (w.count + 1) (2 ^ 32 - 1), esum := min (w.esum + i.e) (2 ^ 32 - 1),
    pile := min (w.pile + b2n i.retrig) 65535,
    grain := if grainBin ≤ b then min (w.grain + 1) 65535 else w.grain,
    bins := (List.range 16).map fun k => let c := w.bins.getD k 0; if k = b then min (c + 1) 65535 else c }

/-- Whether a tick lies inside a window (R250). -/
def Win.holds (w : Win) (t : Nat) : Bool :=
  decide (w.opened ≤ t) && (match w.closed with | some c => decide (t < c) | none => true)

/-- The open impact finishes: the window of its tick takes it (R249, R250). -/
def lossFinish (s : State) (n : Nat) : State :=
  match (s.loss n).imp with
  | none => s
  | some i =>
    let b := lossBin s n i.e
    let g := sfld s .hsi (lsnOff n 0) 27 24
    let f (w : Win) : Win := if w.holds i.tick then w.take b g i else w
    s.modLoss n fun c => { c with imp := none, win := c.win.map f, closed := c.closed.map f }

/-- One sample of a channel (R247, R248). DESIGN CHOICE: an impact that is open when EN goes to 0 finishes with its energy so far. -/
def lossSample (s : State) (n : Nat) (x : Int) : State :=
  let c := s.loss n
  let k := c.k
  let cfg := sget s .hsi (lsnOff n 0)
  if nfld cfg 0 0 = 0 then (lossFinish s n).modLoss n fun c => { c with k := k + 1 }
  else
    let thr := sfld s .hsi (lsnOff n 4) 12 0
    let dead := nfld cfg 15 8
    let a := x.natAbs
    let s := if x = 8191 ∨ x = -8192 then
        let f (w : Win) : Win := if w.holds (500 * k) then { w with clip := true } else w
        (sputb s .hsi (lsnOff n 8) 2 true).modLoss n fun c => { c with win := c.win.map f, closed := c.closed.map f }
      else s
    let first := c.armed && decide (thr ≤ a)
    let again := !first && nbit cfg 1 && decide (c.kc + 5 ≤ k) && decide (thr ≤ a) && decide (2 * c.env ≤ a)
    let s := if again then scount s .hsi (lsnOff n 0x10) 1 else s
    let env := max a (c.env - c.env / 2 ^ nfld cfg 5 2)
    let new := first || again
    let s := if new then scount (lossFinish s n) .hsi (lsnOff n 0xC) 1 else s
    let s := s.modLoss n fun c =>
      { c with
        k := k + 1, env := env, kc := if new then k else c.kc, armed := c.armed && !new,
        imp := if new then some { tick := 500 * k, retrig := again } else c.imp }
    let s := s.modLoss n fun c => { c with imp := c.imp.map fun i => { i with e := min (i.e + a) 0xFFFFFF } }
    let kc := (s.loss n).kc
    let s := if k + 1 - kc = dead then lossFinish s n else s
    if dead ≤ k - kc ∧ env < thr then s.modLoss n fun c => { c with armed := true } else s

/-- Samples one after the other. -/
def lossRun (s : State) (n : Nat) : List Int → State
  | [] => s
  | x :: xs => lossRun (lossSample s n x) n xs

/-- The channel comes to sample `k` through samples of 0. After 4,096 of them the impact has finished and the envelope stands
still, so that the others change nothing. -/
def lossQuiet (s : State) (n k : Nat) : State :=
  let c := s.loss n
  if k ≤ c.k then s else (lossRun s n (List.replicate (min (k - c.k) 4096) 0)).modLoss n fun c => { c with k := k }

/-- LOSS_IMPACT (R248): the samples of a channel, 2 µs apart, the last one the latest before now; samples between those
that are named are 0. -/
def execLossImpact (n : Fin 16) (xs : List (BitVec 14)) (s : State) : Out :=
  let last := s.now / 500
  act s (if s.faulty .hsi ∨ last + 1 < (s.loss n).k + xs.length then s
    else lossRun (lossQuiet s n (last + 1 - xs.length)) n (xs.map fun x => x.toInt))

/-! ### Counting windows -/

/-- The open window closes at a tick (R251, R252). -/
def winClose (s : State) (n t : Nat) (chained timeout : Bool) : State :=
  s.modLoss n fun c => match c.win with
    | none => c
    | some w => { c with
        win := none, closed := c.closed ++ [{ w with closed := some t, chained := chained, timeout := timeout }] }

/-- The channels of a mask that take actions. -/
def maskChs (s : State) (mask : Nat) : List Nat :=
  (List.range 16).filter fun n => nbit mask n && sfld s .hsi (lsnOff n 0) 0 0 == 1

/-- An LWOPEN action reaches HSI (R251). -/
def lossOpen (s : State) (mask sector : Nat) : State :=
  if s.faulty .hsi then s
  else (maskChs s mask).foldl (fun s n =>
    let s := winClose s n s.now true false
    let flt := sfld s .hsi (lsnOff n 8) 1 1 == 1
    s.modLoss n fun c => { c with win := some { opened := s.now, sector := sector, sensflt := flt } }) s

/-- An LWCLOSE action reaches HSI (R251). -/
def lossClose (s : State) (mask sector : Nat) : State :=
  if s.faulty .hsi then s
  else (maskChs s mask).foldl (fun s n => match (s.loss n).win with
    | some w => if w.sector = sector then winClose s n s.now false false else sputb s .hsi (lsnOff n 8) 3 true
    | none => sputb s .hsi (lsnOff n 8) 3 true) s

/-- LOSS_WINDOW_OPEN (R251): an LWOPEN action from a lane; only the owner's takes effect (R141). -/
def execLossWindowOpen (l : LaneId) (mask : BitVec 16) (sector : BitVec 6) (s : State) : Out :=
  act s (if s.owns l then lossOpen s mask.toNat sector.toNat else s)

/-- LOSS_WINDOW_CLOSE (R251). -/
def execLossWindowClose (l : LaneId) (mask : BitVec 16) (sector : BitVec 6) (s : State) : Out :=
  act s (if s.owns l then lossClose s mask.toNat sector.toNat else s)

/-- WINDOW_TIMEOUT (R252): WMAX ms have passed since the window opened. -/
def execWindowTimeout (n : Fin 16) (s : State) : Out :=
  act s (match (s.loss n).win with
    | some w =>
      let t := w.opened + ms (sfld s .hsi (lsnOff n 0) 23 16)
      if t ≤ s.now ∧ !s.faulty .hsi then winClose s n t false true else s
    | none => s)

/-- The loss ring and the snapshot ring. -/
def lossRing : Nat := Block.hsi.base + 0x20
/-- The snapshot ring. -/
def snapRing : Nat := Block.hsi.base + 0x40

/-- The 64 bytes of a loss window record (R254). -/
def winBytes (seq n : Nat) (w : Win) (dropBefore : Bool) : List Byte :=
  leBytes 4 seq ++ leBytes 1 n ++ leBytes 1 w.sector ++
    leBytes 2 (b2n w.chained + 2 * b2n w.timeout + 4 * b2n w.sensflt + 8 * b2n w.clip + 16 * b2n dropBefore) ++
    leBytes 8 w.opened ++ leBytes 4 (min (w.closed.getD w.opened - w.opened) (2 ^ 32 - 1)) ++ leBytes 4 w.count ++
    leBytes 4 w.esum ++ leBytes 2 w.pile ++ leBytes 2 w.grain ++
    ((List.range 16).map fun k => leBytes 2 (w.bins.getD k 0)).flatten

/-- A record goes to a ring of HSI: the full bit `i` and RINGDROP, or the notice `code` (R255, R270). -/
def hsiRing (s : State) (r esz i code : Nat) (mk : Bool → List Byte) : State :=
  ringSend s { rq := 12, ring := r, esz := esz, fresh := mk false, after := mk true, use := .hsi i code }

/-- Whether a closed window may be written: its last impact has finished and no lower channel's window that closed at the
same tick waits (R253). -/
def winReady (s : State) (n : Nat) (w : Win) : Bool :=
  !((s.loss n).imp.any fun i => w.holds i.tick) &&
    !((List.range n).any fun m => (s.loss m).closed.any fun v => v.closed == w.closed)

/-- LOSS_RECORD_WRITE (R253, R255): the oldest closed window of a channel is written, and handed to the tracker. -/
def execLossRecordWrite (n : Fin 16) (s : State) : Out :=
  act s (if s.faulty .hsi then s
    else
      let s := lossQuiet s n (s.now / 500 + 1)
      match (s.loss n).closed with
      | [] => s
      | w :: rest =>
        if !winReady s n w then s
        else
          let s := s.modLoss n fun c => { c with closed := rest }
          let seq := s.hsi.lossSeq
          let s := { s with hsi := { s.hsi with lossSeq := (seq + 1) % 2 ^ 32 } }
          let s := hsiRing s lossRing 64 0 1 (winBytes seq n w)
          let g := sfld s .hsi (lsnOff n 0) 31 28
          if g = 15 then s
          else lossMeasure s g w.opened (min (w.closed.getD w.opened - w.opened) (2 ^ 32 - 1)) w.count w.grain)

/-- LOSS_SENSOR_FAULT (R270, R271): a loss sensor is found open or shorted, or recovers. -/
def execLossSensorFault (n : Fin 16) (fault : Bool) (s : State) : Out :=
  act s (if s.faulty .hsi ∨ (sfld s .hsi (lsnOff n 8) 1 1 == 1) = fault then s
    else
      let s := sputb s .hsi (lsnOff n 8) 1 fault
      let s := if fault then
          (sputb s .hsi (lsnOff n 8) 0 true).modLoss n fun c =>
            { c with win := c.win.map fun w => { w with sensflt := true } }
        else s
      postEngine s .hsi 3 (48 + n + b2n (!fault) * 2 ^ 8))

/-! ### Snapshots -/

/-- Insert a trigger in the order of tick, then group (R259). -/
def trigInsert : List (Nat × Nat) → Nat × Nat → List (Nat × Nat)
  | [], x => [x]
  | y :: t, x => if x.1 < y.1 ∨ (x.1 = y.1 ∧ x.2 < y.2) then x :: y :: t else y :: trigInsert t x

/-- An ADCTRIG action reaches HSI (R259). -/
def adcTrigger (s : State) (g : Nat) : State :=
  if s.faulty .hsi then s else { s with hsi := { s.hsi with trig := trigInsert s.hsi.trig (s.now, g) } }

/-- Whether an input lies in a group. -/
def inGroup (s : State) (g i : Nat) : Bool :=
  if i < 32 then sfld s .hsi (0x800 + 0x10 * g) i i == 1 else sfld s .hsi (0x804 + 0x10 * g) (i - 32) (i - 32) == 1

/-- The scaled value of an input in a snapshot (R260). -/
def snapVal (s : State) (g tick i : Nat) : Int :=
  if inGroup s g i && !inFaulty s i then (inVal s i tick).1 else -32768

/-- The 128 bytes of a snapshot record (R260). -/
def snapBytes (s : State) (seq g tick : Nat) (dropBefore : Bool) : List Byte :=
  let flt (i : Nat) : Bool := inGroup s g i && inFaulty s i
  leBytes 4 seq ++ leBytes 1 g ++ leBytes 1 (b2n ((List.range 36).any flt) + 2 * b2n dropBefore) ++ leBytes 2 0 ++
    leBytes 8 tick ++ ((List.range 36).map fun i => leBytes 2 (pattern 16 (snapVal s g tick i))).flatten ++
    leBytes 4 ((List.range 32).foldl (fun a i => a + b2n (inFaulty s i) * 2 ^ i) 0) ++
    leBytes 1 ((List.range 4).foldl (fun a i => a + b2n (inFaulty s (32 + i)) * 2 ^ i) 0) ++ leBytes 35 0

/-- ADC_SNAPSHOT (R259): the record of the waiting trigger of group `g` is written, oldest tick and lowest group first. -/
def execAdcSnapshot (g : Fin 32) (s : State) : Out :=
  act s (match s.hsi.trig with
    | [] => s
    | (tick, h) :: rest =>
      if h ≠ g.val ∨ s.faulty .hsi then s
      else
        let seq := s.hsi.snapSeq
        let s := { s with hsi := { s.hsi with trig := rest, snapSeq := (seq + 1) % 2 ^ 32 } }
        let s := hsiRing s snapRing 128 1 2 (snapBytes s seq g tick)
        snapMeasure s g tick ((List.range 36).map (snapVal s g tick)) ((List.range 36).map (inFaulty s)))

/-! ### Registers -/

/-- Whether numbers rise strictly. -/
def rising : List Nat → Bool
  | a :: b :: t => decide (a < b) && rising (b :: t)
  | _ => true

/-- A write of an edge (R249): a set that is not strictly ascending afterwards is rejected; edges still at their reset
value 0 do not count, the written one excepted, or no set could be written edge by edge (assumption 20). The channels of the set
come up to the present sample first: the new edge counts from the next on (R271). -/
def edgeWrite (s : State) (l : LaneId) (off v : Nat) : State :=
  gated s l .hsi off fun s =>
    let h := (off - 0x100) / 0x40
    let base := 0x100 + 0x40 * h
    let k := (off - base) / 4
    let e (i : Nat) : Nat := if i = k then v % 2 ^ 24 else sfld s .hsi (base + 4 * i) 23 0
    if !rising ((((List.range 15).map fun i => i + 1).filter fun i => i == k || e i != 0).map e) then reject s l .hsi off 0x12
    else
      let s := (List.range 16).foldl (fun s n => if sfld s .hsi (lsnOff n 0) 7 6 = h then lossQuiet s n (s.now / 500 + 1) else s) s
      regPlain s l .hsi off v

/-- The writes of HSI that have an effect of their own (R249, R255, R262, R271). -/
def hsiWrite (s : State) (l : LaneId) (off v : Nat) : Option State :=
  if off = 8 then some (hsiCmd s l v)
  else if 0x20 ≤ off ∧ off < 0x38 then some (ringWrite s l .hsi 0x20 (off - 0x20) 64 v)
  else if 0x40 ≤ off ∧ off < 0x58 then some (ringWrite s l .hsi 0x40 (off - 0x40) 128 v)
  else if 0x100 ≤ off ∧ off < 0x200 then some (edgeWrite s l off v)
  else if 0x400 ≤ off ∧ off < 0x600 ∧ off % 0x20 ≤ 4 then some (gated s l .hsi off fun s =>
    regPlain (lossQuiet s ((off - 0x400) / 0x20) (s.now / 500 + 1)) l .hsi off v)
  else if 0xA00 ≤ off ∧ off < 0xE80 ∧ off % 0x20 ≤ 0x14 then
    let i := if off < 0xE00 then (off - 0xA00) / 0x20 else 32 + (off - 0xE00) / 0x20
    some (gated s l .hsi off fun s =>
      regPlain (if off % 0x20 ≤ 8 then inFreeze s i else if off % 0x20 = 0x14 then inSettle s i else s) l .hsi off v)
  else if 0x1000 ≤ off ∧ off < 0x1C00 then some (fnWrite s l ((off - 0x1000) / 0x40) ((off - 0x1000) % 0x40) v)
  else none

/-- WIN of a loss channel (R271). -/
def lossRead (s : State) (off : Nat) : Option (Nat × State) :=
  if 0x400 ≤ off ∧ off < 0x600 ∧ off % 0x20 = 0x14 then
    match (s.loss ((off - 0x400) / 0x20)).win with
    | some w => some (2 ^ 8 + w.sector, s)
    | none => some (0, s)
  else none

end Sys2Proof.Machine
end

