-- ==== Sys2Proof/Machine/LoopLaw.lean ====
section
/-! DEFINITION. The arithmetic of the loop engine: the check of an image (R163), the laws (R167–R170), the generators
(R180, R181). -/

namespace Sys2Proof.Machine

/-- The 64 words of a context. -/
abbrev LWords := List Nat

/-- A word of a context. -/
def lwd (w : LWords) (k : Nat) : Nat := w.getD k 0

/-- Bits [hi:lo] of a word. -/
def lfl (w : LWords) (k hi lo : Nat) : Nat := lwd w k / 2 ^ lo % 2 ^ (hi + 1 - lo)

/-- The Q15 value in bits [15:0] of a word. -/
def lqL (w : LWords) (k : Nat) : Int := signed 16 (lfl w k 15 0)

/-- The Q15 value in bits [31:16] of a word. -/
def lqH (w : LWords) (k : Nat) : Int := signed 16 (lfl w k 31 16)

/-- Put a Q15 value into bits [15:0] of a word. -/
def setL (w : LWords) (k : Nat) (x : Int) : LWords := w.set k (lfl w k 31 16 * 65536 + pattern 16 x)

/-- Put a Q15 value into bits [31:16] of a word. -/
def setH (w : LWords) (k : Nat) (x : Int) : LWords := w.set k (pattern 16 x * 65536 + lfl w k 15 0)

/-- Put a bit into a word. -/
def setLB (w : LWords) (k b : Nat) (v : Bool) : LWords :=
  w.set k (lwd w k - lfl w k b b * 2 ^ b + b2n v * 2 ^ b)

/-- The integrator of words 42 and 43, Q9.30 (R158). -/
def integ (w : LWords) : Int := signed 40 (lwd w 42 + lfl w 43 7 0 * 2 ^ 32)

/-- Put the integrator. -/
def setInteg (w : LWords) (i : Int) : LWords :=
  let p := pattern 40 i
  (w.set 42 (p % 2 ^ 32)).set 43 (lfl w 43 31 8 * 256 + p / 2 ^ 32)

/-! ### Images -/

/-- KIND of a selector. -/
def selKind (v : Nat) : Nat := v % 16

/-- INDEX of a selector. -/
def selIndex (v : Nat) : Nat := v / 256 % 2 ^ 21

/-- Whether a selector's reserved bits are 0. -/
def selClean (v : Nat) : Bool := v / 16 % 16 == 0 && v / 2 ^ 29 == 0

/-- Whether a selector is a legal source of context `c` (R159). -/
def srcOk (c v : Nat) : Bool :=
  selClean v && match selKind v with
    | 0 => selIndex v == 0
    | 1 => true
    | 2 => decide (selIndex v ≤ 35 ∨ (64 ≤ selIndex v ∧ selIndex v ≤ 111))
    | 3 => decide (selIndex v ≤ 23)
    | 4 => decide (selIndex v ≤ 511 ∧ selIndex v ≠ c)
    | 5 => decide (selIndex v ≤ 15)
    | _ => false

/-- Whether a selector is a legal destination (R159). -/
def dstOk (v : Nat) : Bool :=
  selClean v && match selKind v with
    | 0 => selIndex v == 0
    | 1 => true
    | 2 => decide (64 ≤ selIndex v ∧ selIndex v ≤ 111)
    | 3 => decide (selIndex v ≤ 23)
    | 6 => decide (selIndex v ≤ 3)
    | _ => false

/-- The bits of a selector that R159 names. -/
def selBits : Nat := 0x1FFFFF0F

/-- The bits of word `k` (8–39, 44–63) that a type names (R169). -/
def typeBits (ty k : Nat) : Nat :=
  let full := 2 ^ 32 - 1
  let low := 2 ^ 16 - 1
  match ty with
  | 1 => if k = 8 ∨ k = 9 then full else if k = 10 ∨ k = 44 then low else 0
  | 2 =>
    if k = 8 then 0xFFFF0007
    else if 9 ≤ k ∧ k ≤ 20 then (if k % 3 = 2 then low else full)
    else if 44 ≤ k ∧ k ≤ 51 then full
    else 0
  | 3 => if k = 8 ∨ k = 9 then full else if k = 44 then low else 0
  | 4 => if 8 ≤ k ∧ k ≤ 10 then selBits else if (11 ≤ k ∧ k ≤ 13) ∨ k = 44 then full else if k = 45 then low else 0
  | 5 => if k = 8 then full else if k = 9 then low else 0
  | 6 => if k = 8 ∨ k = 9 then full else if k = 10 then selBits else if k = 44 then low else 0
  | _ => full

/-- The bits of word `k` of a context of a type that the tables of R158 and R169 name; the others are reserved. DESIGN CHOICE:
a TYPE outside 1–6 reserves nothing in words 8–39 and 44–63, so that these may be stored before word 0. -/
def wordBits (ty k : Nat) : Nat :=
  if k = 2 ∨ k = 3 ∨ k = 5 then selBits
  else if k = 43 then 2 ^ 11 - 1
  else if k < 8 ∨ (40 ≤ k ∧ k < 43) then 2 ^ 32 - 1
  else typeBits ty k

/-- Whether word `k` (8–39) of an image of a type holds only named fields with legal values (R158, R163, R169). -/
def coefOk (c ty k : Nat) (w : LWords) : Bool :=
  let v := lwd w k
  v &&& typeBits ty k == v && match ty with
    | 2 => k != 8 || decide (1 ≤ v % 8 ∧ v % 8 ≤ 4)
    | 4 => decide (10 < k) || srcOk c v
    | 6 => k != 10 || srcOk c v
    | _ => true

/-- Whether word `k` of an image makes it valid (R163). -/
def wordOk (c k : Nat) (w : LWords) : Bool :=
  let ty := lfl w 0 3 0
  let trig := lfl w 0 9 8
  let period := lfl w 0 31 16
  match k with
  | 0 => decide (1 ≤ ty ∧ ty ≤ 6 ∧ trig ≠ 3) &&
      (if trig = 1 then decide (25 ≤ period) else period == 0)
  | 1 => if trig = 1 then decide (lfl w 1 15 0 < period) else lfl w 1 15 0 == 0
  | 2 => srcOk c (lwd w 2)
  | 3 => srcOk c (lwd w 3)
  | 4 => true
  | 5 => dstOk (lwd w 5) && (ty == 5) == (selKind (lwd w 5) == 3) && (trig != 2 || selKind (lwd w 5) == 3)
  | 6 => decide (lqL w 6 ≤ lqH w 6)
  | 7 => decide (lqL w 7 ≤ lqH w 7)
  | _ => if k < 40 then coefOk c ty k w else true

/-- The index of the first invalid word of an image, if any (R163, R184). -/
def firstBad (c : Nat) (w : LWords) : Option Nat := (List.range 40).find? fun k => !wordOk c k w

/-! ### Laws -/

/-- A result and whether a sat16 or an extraction clamped on the way (R167). -/
abbrev Clamped := Int × Bool

/-- The extraction of R65 with its clamp. -/
def extC (x : Int) (s : Nat) : Clamped := (sat16 (extRaw x s), clampsI 16 (extRaw x s))

/-- The integration of R168 on the words of a context. -/
def integrate (w : LWords) (ki e : Int) : LWords :=
  if (lfl w 43 8 8 = 1 ∧ 0 < e) ∨ (lfl w 43 9 9 = 1 ∧ e < 0) then w
  else setInteg w (clampI (lqL w 7 * 2 ^ 15) (lqH w 7 * 2 ^ 15) (integ w + ki * e))

/-- The sections of T2 from k on (R170): the words, the running value and the clamps so far. -/
def t2Sections : Nat → Nat → LWords × Int × Bool → LWords × Int × Bool
  | 0, _, r => r
  | n + 1, k, (w, x, b) =>
    let a1h := lqH w (10 + 3 * k)
    let o := extC (lqL w (9 + 3 * k) * x + lqH w (9 + 3 * k) * lqL w (44 + 2 * k) + lqL w (10 + 3 * k) * lqH w (44 + 2 * k) -
      a1h * lqL w (45 + 2 * k) - a1h * lqL w (45 + 2 * k) - lqL w (11 + 3 * k) * lqH w (45 + 2 * k)) 0
    let w := setL (setH w (44 + 2 * k) (lqL w (44 + 2 * k))) (44 + 2 * k) x
    let w := setL (setH w (45 + 2 * k) (lqL w (45 + 2 * k))) (45 + 2 * k) o.1
    t2Sections n (k + 1) (w, o.1, b || o.2)

/-- The law of a context (R170): the new words, the output, whether something clamped. `xs` are the values of XSRC1–3
for T4 or FFSRC for T6. -/
def law (w : LWords) (y e wspl : Int) (xs : List Int) : LWords × Int × Bool :=
  let s := lfl w 0 6 4
  let x (k : Nat) : Int := xs.getD k 0
  match lfl w 0 3 0 with
  | 1 =>
    let d := lqH w 40 - y
    let f := extC (lqH w 9 * lqL w 44 + lqL w 10 * sat16 d) 0
    let w := integrate (setL w 44 f.1) (lqH w 8) e
    let u := extC (lqL w 8 * e + integ w + lqL w 9 * f.1) s
    (w, u.1, clampsI 16 d || f.2 || u.2)
  | 2 =>
    let r := t2Sections (lfl w 8 2 0) 0 (w, e, false)
    let u := extC (lqH w 8 * r.2.1) s
    (r.1, u.1, r.2.2 || u.2)
  | 3 =>
    let v1 := extC (lqL w 8 * e + lqH w 8 * lqH w 41 - lqL w 9 * lqL w 44) 0
    let u := extC (lqH w 9 * v1.1) s
    (setL w 44 v1.1, u.1, v1.2 || u.2)
  | 4 =>
    let w := integrate (setL (setH (setL w 44 (x 0)) 44 (x 1)) 45 (x 2)) (lqH w 13) e
    let u := extC (lqL w 13 * wspl - lqL w 11 * y - lqH w 11 * x 0 - lqL w 12 * x 1 - lqH w 12 * x 2 + integ w) s
    (w, u.1, u.2)
  | 5 =>
    let w := integrate w (lqH w 8) e
    let u := extC (lqL w 9 * wspl + lqL w 8 * e + integ w) s
    (w, u.1, u.2)
  | 6 =>
    let w := integrate (setL w 44 (x 0)) (lqH w 8) e
    let u := extC (lqL w 9 * x 0 + lqH w 9 * wspl + lqL w 8 * e + integ w) s
    (w, u.1, u.2)
  | _ => (w, lqL w 41, false)

/-! ### Generators -/

/-- π in units of 2^-80. -/
def piFix : Int := 3797952473636338580787993

/-- The terms of the sine series of `x`, in units of 2^-80, from term `x^(2k+1)/(2k+1)!` on. -/
def sinTerms : Nat → Nat → Int → Int → Int
  | 0, _, _, _ => 0
  | n + 1, k, t, x2 => t + sinTerms n (k + 1) (-(t * x2 / 2 ^ 80 / (((2 * k + 2) * (2 * k + 3) : Nat) : Int))) x2

/-- The first quarter of SIN, entry j of 0–1,024. -/
def sinQuarter (j : Nat) : Int :=
  let x := piFix * j / 2048
  (32767 * sinTerms 16 0 x (x * x / 2 ^ 80) + 2 ^ 79) / 2 ^ 80

/-- SIN[j] = 32,767 × sin(2π j / 4,096), rounded to the nearest integer (R181). -/
def sinTab (j : Nat) : Int :=
  let j := j % 4096
  if j ≤ 1024 then sinQuarter j
  else if j ≤ 2048 then sinQuarter (2048 - j)
  else if j ≤ 3072 then -sinQuarter (j - 2048)
  else -sinQuarter (4096 - j)

/-- The taps of the PRBS of n bits (R180). -/
def prbsTaps : Nat → List Nat
  | 7 => [7, 6]
  | 8 => [8, 6, 5, 4]
  | 9 => [9, 5]
  | 10 => [10, 7]
  | 11 => [11, 9]
  | 12 => [12, 11, 10, 4]
  | 13 => [13, 12, 11, 8]
  | 14 => [14, 13, 12, 2]
  | 15 => [15, 14]
  | _ => []

/-- One shift of the PRBS register (R180). -/
def prbsNext (n r : Nat) : Nat :=
  let fb := (prbsTaps n).foldl (fun b t => (b + r / 2 ^ (t - 1)) % 2) 0
  (2 * r + fb) % 2 ^ n

end Sys2Proof.Machine
end

