-- ==== Sys2Proof/Machine/Displacement.lean ====
section
/-! DEFINITION. Valve banks, profiles, bank queues, diagnostics and the stroke selector (spec/06 R187–R217). -/

namespace Sys2Proof.Machine

/-- Register addresses of a bank, a DDM, a channel, a profile (R217). -/
def bankReg (b off : Nat) : Nat := Block.ddv.base + 0x100 + 0x20 * b + off
/-- A register of DDM `m`. -/
def ddmReg (m off : Nat) : Nat := Block.ddv.base + 0x200 + 0x20 * m + off
/-- A register of channel `c`. -/
def dvReg (c off : Nat) : Nat := Block.ddv.base + 0x400 + 0x20 * c + off
/-- Word `w` of profile `p` of bank `b`. -/
def profReg (b p w : Nat) : Nat := Block.ddv.base + 0x2000 + 0x200 * b + 0x20 * p + 4 * w
/-- DDV.STAT. -/
def ddvStat : Nat := Block.ddv.base + 4

/-- A bank, a channel. -/
def State.bank (s : State) (b : Nat) : Bank := tget s.out.banks b
/-- A valve channel. -/
def State.chan (s : State) (c : Nat) : Chan := tget s.out.chans c
/-- Change a bank. -/
def State.modBank (s : State) (b : Nat) (f : Bank → Bank) : State := { s with out := { s.out with banks := tmod s.out.banks b f } }
/-- Change a channel. -/
def State.modChan (s : State) (c : Nat) (f : Chan → Chan) : State := { s with out := { s.out with chans := tmod s.out.chans c f } }

/-- A field of the profile copy a channel runs (R194). -/
def Chan.pw (c : Chan) (w hi lo : Nat) : Nat := nfld (c.prof.getD w 0) hi lo

/-- BENCH isolates the power stages (R549). -/
def stageBench (s : State) : Bool := s.sup.modMode == .bench

/-- Commands to the sequencers have no effect in HOLD-UP and in PARK (R540, R550). -/
def outFrozen (s : State) : Bool := s.sup.power == .holdup || s.sup.modMode == .park

/-- A bank that admits nothing (R214, R534, R540, R548). -/
def bankClosed (s : State) (b : Nat) : Bool :=
  outFrozen s || s.sup.modMode == .service || s.sup.phase != .running || (s.seq b).off

/-- Whether a bank's overcurrent latch is set (R209). -/
def bhsFlt (s : State) (b : Nat) : Bool := rbit s .a ddvStat (16 + b)

/-- Whether a phase is one of P0, P1, P2. -/
def energised (p : Phase6) : Bool := p == .p0 || p == .p1 || p == .p2

/-- The sum of IHOLD (50 mA units) over the energised channels from `lo`, `n` of them. -/
def iholdSum (s : State) (lo n : Nat) : Nat :=
  (List.range n).foldl (fun k i => let c := s.chan (lo + i); if energised c.phase then k + c.pw 0 15 8 else k) 0

/-- The number of energised channels from `lo`. -/
def energisedCount (s : State) (lo n : Nat) : Nat :=
  ((List.range n).filter fun i => energised (s.chan (lo + i)).phase).length

/-- Whether a channel of the bank is in P0. -/
def inP0 (s : State) (b : Nat) : Bool := (List.range 8).any fun i => (s.chan (8 * b + i)).phase == .p0

/-- Why a request of channel `c` with profile word 0 `w0` cannot be admitted (R198, R201), in the order of R201; the rail is never low
in BENCH (R549). -/
def blockedBy (s : State) (c w0 : Nat) : Option Nat :=
  let b := c / 8
  let k := c / 24
  let ih := nfld w0 15 8
  if inP0 s b then some 0
  else if 4 ≤ energisedCount s (8 * b) 8 ∨ 2 * rfld s .a (bankReg b 0) 15 8 < iholdSum s (8 * b) 8 + ih then some 1
  else if 2 * nfld (rget s .a (Block.ddv.base + 0x1C)) (8 * k + 7) (8 * k) < iholdSum s (24 * k) 24 + ih then some 2
  else if (s.bank b).rail ≠ 2 ∧ rbit s .a ddvStat 9 ∧ !stageBench s then some 3
  else if (s.chan c).phase ≠ .idle then some 4
  else none

/-- The DDM of a channel, when it has one (CHc.CFG.DDM). -/
def ddmOf (s : State) (c : Nat) : Option Nat :=
  let m := rfld s .a (dvReg c 0) 2 0
  if m ≤ 3 then some m else none

/-- Set a flag of CHc.STAT. -/
def dvFlag (s : State) (c i : Nat) : State := rsetb s .a (dvReg c 4) i true

/-! ### The stroke selector -/

/-- A stroke selector of a lane. -/
def State.sel (s : State) (l : LaneId) (m : Nat) : Sel := tget (s.lane l).sels m

/-- Change a stroke selector. -/
def State.modSel (s : State) (l : LaneId) (m : Nat) (f : Sel → Sel) : State :=
  s.modLane l fun x => { x with sels := tmod x.sels m f }

/-- One opportunity of a stroke selector with its settings (R204): the new state, whether a start is sent, and whether
the decision was forced. -/
def selRun (d minrun minidle : Nat) (x : Sel) : Sel × Bool × Bool :=
  let acc := x.acc + d
  let want := decide (32768 ≤ acc)
  let fidle := want && !x.lastEn && decide (x.idlerun < minidle)
  let want := want && !fidle
  let fen := !want && x.lastEn && decide (x.enrun < minrun)
  let want := want || fen
  let lim (a : Int) : Int := clampI (-32768) 65535 a
  if want then ({ x with acc := lim (acc - 32768), lastEn := true, enrun := x.enrun + 1, idlerun := 0 }, true, fen)
  else ({ x with acc := lim acc, lastEn := false, idlerun := x.idlerun + 1, enrun := 0 }, false, fidle)

/-- An opportunity of DDM `m` in a lane (R204): the state after, and whether a start is sent. -/
def selOpportunity (s : State) (l : LaneId) (m : Nat) : State × Bool :=
  let cfg := rget s l (ddmReg m 0)
  if nfld cfg 4 4 = 0 then (s, false)
  else
    let r := selRun (rfld s l (ddmReg m 8) 16 0) (nfld cfg 11 8) (nfld cfg 15 12) (s.sel l m)
    let s := s.modSel l m fun _ => r.1
    let s := rwrap s l (ddmReg m 0x10) 1
    let s := if r.2.1 then rwrap s l (ddmReg m 0x14) 1 else s
    let s := if r.2.2 then
        (if r.2.1 then rsetf s l (ddmReg m 0x1C) 31 16 (rfld s l (ddmReg m 0x1C) 31 16 + 1)
         else rsetf s l (ddmReg m 0x1C) 15 0 (rfld s l (ddmReg m 0x1C) 15 0 + 1)) else s
    (s, r.2.1)

/-- A DROP report for a channel of DDM `m` refunds the selector of each lane with REFUND set (R205). -/
def dropRefund (s : State) (m : Nat) : State :=
  s.both fun l s =>
    let s := rwrap s l (ddmReg m 0x18) 1
    if rbit s l (ddmReg m 0) 5 then s.modSel l m fun x => { x with acc := clampI (-32768) 65535 (x.acc + 32768) } else s

/-! ### Requests -/

/-- A request is dropped at `at_` (R201). -/
def dropReq (s : State) (c cause arrival at_ : Nat) : State :=
  let b := c / 8
  let s := dvFlag s c 13
  let s := rcount s .a (bankReg b 8) 31 0 1
  let s := rcount s .a (dvReg c 0x14) 31 0 1
  let s := match ddmOf s c with
    | some m => dropRefund s m
    | none => s
  postOut s .ddv 1 b (c + cause * 2 ^ 8 + min ((at_ - arrival) / 250) 65535 * 2 ^ 16)

/-- The later of two positions of one halyard (R196). -/
def laterPos (a b : Nat) : Nat := if (b + 2 ^ 56 - a) % 2 ^ 56 < 2 ^ 55 then b else a

/-- The later of two sets of hold ends (R196, R202): its instant, and the position that a revision follows, which is the later
one even where both predictions are unbounded. -/
def laterEnds (x y : HoldEnds) : HoldEnds :=
  { at_ := max x.at_ y.at_, useDef := x.useDef || y.useDef
    pos := match x.pos, y.pos with
      | some a, some b => some (laterPos a b)
      | _, _ => if x.at_ ≤ y.at_ then y.pos else x.pos }

/-- A request is admitted: its channel takes a copy of the profile and enters P0 (R190, R194, R198). -/
def takeReq (s : State) (r : BReq) : State :=
  let b := r.ch / 8
  let wait := s.now - r.arrival
  let s := s.modChan r.ch fun c => { c with
    phase := .p0, since := s.now, req := r, ends := r.ends, prof := (List.range 6).map fun w => rget s .a (profReg b r.prof w) }
  let s := rwrap s .a (dvReg r.ch 0x10) 1
  if wait = 0 then s
  else
    let s := rcount s .a (bankReg b 0xC) 31 0 1
    rset s .a (bankReg b 0x10) (max (rget s .a (bankReg b 0x10)) (min (wait * 2 / 5) (2 ^ 24 - 1)))

/-- The oldest requests of a bank are admitted as long as they can be (R198, R199); one whose profile has been withdrawn
is discarded with PROFERR (R194). `n` bounds the requests looked at. -/
def bankAdmit (s : State) (b : Nat) : Nat → State
  | 0 => s
  | n + 1 => match (s.bank b).queue with
    | [] => s
    | r :: q =>
      let w0 := rget s .a (profReg b r.prof 0)
      if w0 < 2 ^ 31 then bankAdmit (dvFlag (s.modBank b fun x => { x with queue := q }) r.ch 14) b n
      else if (blockedBy s r.ch w0).isSome then s
      else bankAdmit (takeReq (s.modBank b fun x => { x with queue := q }) r) b n

/-- The cause a request waits for when its deadline comes: its own, else the one of the oldest request (R199, R201). -/
def waitCause (s : State) (b : Nat) (r : BReq) : Nat :=
  match blockedBy s r.ch (rget s .a (profReg b r.prof 0)) with
  | some k => k
  | none => match (s.bank b).queue with
    | h :: _ => (blockedBy s h.ch (rget s .a (profReg b h.prof 0))).getD 0
    | [] => 0

/-- A request that waits at its deadline leaves the queue and is dropped (R200, R201). -/
def expireReq (b : Nat) (s : State) (r : BReq) : State :=
  let cause := waitCause s b r
  dropReq (s.modBank b fun x => { x with queue := x.queue.filter fun y => y.ch != r.ch }) r.ch cause r.arrival r.deadline

/-- A bank considers its queue: requests whose deadline is over are dropped (R200), then the oldest are admitted. -/
def bankPump (s : State) (b : Nat) : State :=
  if bankClosed s b then s
  else bankAdmit (((s.bank b).queue.filter fun r => decide (r.deadline < s.now)).foldl (expireReq b) s) b 8

/-- Every bank in turn considers its oldest request. -/
def pumpAll (s : State) : State := (List.range 6).foldl bankPump s

/-- RAIL takes a value: OFF drops what waits, with cause RAIL (R189, R201). -/
def setRail (s : State) (b r : Nat) : State :=
  let q := (s.bank b).queue
  let s := s.modBank b fun x => { x with rail := r, railNext := none }
  if r = 3 then
    q.foldl (fun s x => dropReq s x.ch 5 x.arrival s.now) (s.modBank b fun x => { x with queue := [] })
  else s

/-- A RAIL that waited for P0 applies once no channel of the bank is in P0 (R189). -/
def railSettle (s : State) (b : Nat) : State :=
  match (s.bank b).railNext with
  | some r => if inP0 s b then s else setRail s b r
  | none => s

/-- A RAIL level reaches a bank (R189, R209): stored but not applied while the overcurrent latch stands; after P0 when a
channel is in P0. A refresh does not bring back a bank that an overcurrent switched off. -/
def railCmd (s : State) (b r : Nat) (refresh : Bool) : State :=
  let s := rsetf s .a (bankReg b 0) 1 0 r
  if bhsFlt s b || (refresh && (s.bank b).heldOff) then s
  else
    let s := s.modBank b fun x => { x with heldOff := false }
    if inP0 s b then s.modBank b fun x => { x with railNext := some r } else pumpAll (setRail s b r)

/-- A request joins a queue: behind every earlier one, and in ascending channel number among those of its own cycle (R199). -/
def bankJoin (r : BReq) : List BReq → List BReq
  | [] => [r]
  | x :: q => if x.arrival = r.arrival ∧ r.ch < x.ch then r :: x :: q else x :: bankJoin r q

/-- A start of a lower channel that arrives in the cycle in which a higher one arrived and was admitted comes first: the higher
one's request goes back to the head of the queue (R199). -/
def bankYield (s : State) (b c : Nat) : State :=
  match (List.range 8).find? fun i =>
    let x := s.chan (8 * b + i)
    x.phase == .p0 && decide (x.since = s.now ∧ x.req.arrival = s.now ∧ c < 8 * b + i) with
  | none => s
  | some i =>
    let h := 8 * b + i
    let r := (s.chan h).req
    let s := rset s .a (dvReg h 0x10) (rget s .a (dvReg h 0x10) + 2 ^ 32 - 1)
    (s.modChan h fun x => { x with phase := .idle }).modBank b fun x => { x with queue := r :: x.queue }

/-- A start reaches its bank (R194, R197, R199, R201, R202). -/
def bankStart (s : State) (c prof : Nat) (ends : HoldEnds) (deadline : Nat) : State :=
  let b := c / 8
  let ch := s.chan c
  let q := (s.bank b).queue
  let w0 := rget s .a (profReg b prof 0)
  if rbit s .a (dvReg c 4) 5 || rbit s .a (dvReg c 4) 4 then s
  else if bankClosed s b then s
  else if (s.bank b).rail = 3 ∨ bhsFlt s b then dropReq s c 5 s.now s.now
  else if energised ch.phase then s.modChan c fun x => { x with ends := laterEnds x.ends ends }
  else if q.any fun r => r.ch == c then
    s.modBank b fun x => { x with
      queue := x.queue.map fun r => if r.ch = c then { r with ends := laterEnds r.ends ends } else r }
  else if w0 < 2 ^ 31 then dvFlag s c 14
  else bankPump ((bankYield s b c).modBank b fun x => { x with queue := bankJoin (.mk c prof ends s.now deadline) x.queue }) b

/-! ### Phases -/

/-- The instant at which P2 ends, for a channel in P2 (R195, R202). -/
def holdEnd (c : Chan) : Nat :=
  min (max (max c.ends.at_ c.since) (if c.ends.useDef then c.since + us (c.pw 3 15 0) else 0)) (c.since + us (c.pw 3 31 16))

/-- A switch-off of path `code` begins: REGEN at or above 62 V is taken as FAST and counted (R192). In BENCH the stage is
isolated and none is counted. -/
def switchOff (s : State) (code vbst : Nat) : State :=
  if code = 2 ∧ 6200 ≤ vbst ∧ !stageBench s then rcount s .a (Block.ddv.base + 0x18) 31 0 1 else s

/-- P3 of a channel begins (R190); a hold that ended may let a request in. -/
def startRelease (s : State) (c vbst : Nat) : State :=
  let s := switchOff s ((s.chan c).pw 0 19 18) vbst
  pumpAll (s.modChan c fun x => { x with phase := .p3, since := s.now })

/-- A switch-off whose VBST the command does not state: the converter's reading is the world's. -/
def openVbst (s : State) : Nat × State := (sense s (Block.ddv.base + 0x14) % 65536, s)

/-- A diagnostic flag of R207 with the action its CHc.CFG field selects (R208); none sets in BENCH (R549). -/
def dvDiag (s : State) (c i : Nat) : State :=
  if stageBench s then s
  else
    let act := rfld s .a (dvReg c 0) (2 * i - 7) (2 * i - 8)
    let s := dvFlag s c i
    let s := if act = 1 then rsetb s .a (dvReg c 4) 4 true else if act = 2 then rsetb s .a (dvReg c 4) 5 true else s
    postOut s .ddv 2 (c / 8) (c + 2 ^ i + act * 2 ^ 12)

/-- The end of P0 (R190, R207): at IPEAK, or at TTPMAX when that comes first; a RAIL that waited applies (R189). -/
def peakEnd (s : State) (c : Nat) (hit : Bool) (vbst : Nat) : State :=
  let ch := s.chan c
  let b := c / 8
  let ttp := (s.now - ch.since) * 2 / 5
  let mx := ch.pw 1 31 16
  let mn := ch.pw 1 15 0
  let sim := stageBench s
  let ovr := decide (mx ≤ ttp)
  if ch.phase ≠ .p0 then s
  else if (if sim then ttp < (mn + mx) / 2 else !hit && !ovr) then s
  else
    let s := rset s .a (dvReg c 8) (if sim then (mn + mx) / 2 else if ovr then mx else ttp)
    let s := if ovr then dvDiag s c 9 else if ttp < mn then dvDiag s c 8 else s
    let s := switchOff s (ch.pw 0 17 16) vbst
    pumpAll (railSettle (s.modChan c fun x => { x with phase := .p1, since := s.now }) b)

/-- PEAK_END (R190): the coil current of channel `c` reaches IPEAK (`hit`) or TTPMAX passes; `vbst` in 10 mV. -/
def execPeakEnd (c : Fin 48) (hit : Bool) (vbst : BitVec 16) (s : State) : Out := act s (peakEnd s c hit vbst.toNat)

/-- The end of P1 (R190, R207): the current reaches IHOLD or P1MAX passes; `dip` is the dip time that was seen. A hold end
that lies behind ends P2 at once. -/
def transitionEnd (s : State) (c : Nat) (fell : Bool) (dip : Option Nat) : State :=
  let ch := s.chan c
  let t := s.now - ch.since
  let sim := stageBench s
  if ch.phase ≠ .p1 then s
  else if (if sim then 2 * t < us (ch.pw 2 15 0) else !fell && decide (t < us (ch.pw 2 15 0))) then s
  else
    let watch := decide (ch.pw 2 23 16 ≠ 0) && !sim
    let s := if watch then (match dip with
        | some d => rset s .a (dvReg c 0xC) (2 ^ 16 + d % 65536)
        | none => dvDiag (rset s .a (dvReg c 0xC) 0) c 11) else rset s .a (dvReg c 0xC) 0
    let s := s.modChan c fun x => { x with phase := .p2, since := s.now }
    if holdEnd (s.chan c) ≤ s.now then
      let v := openVbst s
      startRelease v.2 c v.1
    else s

/-- TRANSITION_END (R190). -/
def execTransitionEnd (c : Fin 48) (fell : Bool) (dip : Option (BitVec 16)) (s : State) : Out :=
  act s (transitionEnd s c fell (dip.map (·.toNat)))

/-- HOLD_END (R195): the hold end of a channel in P2 has come, or HOLDMAX. -/
def execHoldEnd (c : Fin 48) (vbst : BitVec 16) (s : State) : Out :=
  let ch := s.chan c
  act s (if ch.phase = .p2 ∧ holdEnd ch ≤ s.now then startRelease s c vbst.toNat else s)

/-- RELEASE_END (R190): the current has fallen below IREL, or P3MAX has passed. -/
def execReleaseEnd (c : Fin 48) (fell : Bool) (s : State) : Out :=
  let ch := s.chan c
  let t := s.now - ch.since
  let ovr := if stageBench s then us (ch.pw 5 31 16) ≤ 2 * t else fell ∨ us (ch.pw 5 31 16) ≤ t
  act s (if ch.phase = .p3 ∧ ovr then pumpAll (s.modChan c fun x => { x with phase := .idle }) else s)

/-- Whether the peak that a bank's queue waits for ends in this cycle (R190): by TTPMAX, or at IPEAK by a PEAK_END that waits behind
this command. Commands of later cycles do not wait yet, since the cycle ends with the queue. -/
def peakEndsNow (s : State) (b : Nat) : Bool :=
  (List.range 8).any fun i =>
    let x := s.chan (8 * b + i)
    x.phase == .p0 && (decide (x.pw 1 31 16 ≤ (s.now - x.since) * 2 / 5) || s.pending.any fun c => match c with
      | .peakEnd k hit _ => k.val == 8 * b + i && hit
      | _ => false)

/-- REQUEST_DEADLINE (R200, R201): a request still waiting at its deadline is dropped; the head of the queue is not when the
peak ends in the same cycle. -/
def execRequestDeadline (c : Fin 48) (s : State) : Out :=
  let b := c.val / 8
  act s (match (s.bank b).queue.find? fun r => r.ch == c.val && decide (r.deadline ≤ s.now) with
    | none => s
    | some r =>
      if r.deadline = s.now ∧ (s.bank b).queue.head? = some r ∧ peakEndsNow s b then s else bankPump (expireReq b s r) b)

/-- HOLDLOSS (R207): in P2 the current has been below its threshold for 20 µs. -/
def execHoldloss (c : Fin 48) (s : State) : Out :=
  let ch := s.chan c
  act s (if ch.phase = .p2 ∧ ch.since + us 20 ≤ s.now then dvDiag s c 10 else s)

/-- A channel goes idle at once, which may end P0 (R189); its request leaves the queue without a DROP. -/
def dvStop (s : State) (c : Nat) : State :=
  let s := s.modBank (c / 8) fun x => { x with queue := x.queue.filter fun y => y.ch != c }
  railSettle (s.modChan c fun x => { x with phase := .idle }) (c / 8)

/-- VALVE_SHORT (R209): the low side goes off and the channel is disabled. -/
def execValveShort (c : Fin 48) (s : State) : Out :=
  act s (if (s.chan c).phase = .idle ∨ stageBench s then s
    else
      let s := rsetb (dvFlag s c 12) .a (dvReg c 4) 5 true
      pumpAll (dvStop (postOut s .ddv 3 (c.val / 8) c) c))

/-- Every channel of a bank goes idle and its queue is discarded without DROP (R209, R549). -/
def bankIdle (s : State) (b : Nat) : State :=
  (List.range 8).foldl (fun s i => dvStop s (8 * b + i)) (s.modBank b fun x => { x with queue := [] })

/-- BHS_OVERCURRENT (R209). -/
def execBhsOvercurrent (b : Fin 6) (s : State) : Out :=
  act s (if stageBench s ∨ bhsFlt s b then s
    else
      let s := bankIdle s b
      let s := rsetb s .a ddvStat (16 + b.val) true
      let s := rsetf s .a (bankReg b 0) 1 0 3
      let s := s.modBank b fun x => { x with rail := 3, railNext := none, heldOff := true }
      pumpAll (postOut s .ddv 3 b 0x3F))

/-- The energy bucket of the boost converter, 8 J in pJ (R210). -/
def bucketFull : Nat := 8 * 10 ^ 12

/-- Whether the boost converter runs (R210): not in BENCH (R549), and in HOLD-UP and PARK until the last release is over (R539 step 2,
R550). -/
def boostOn (s : State) : Bool :=
  rbit s .a (Block.ddv.base + 0x10) 16 && !stageBench s && !(outFrozen s && (List.range 48).all fun c => (s.chan c).phase == .idle)

/-- The input power of the boost converter in mW (R210): none when it is off; else what the world draws, at most 120 W. -/
def boostPower (s : State) : Nat :=
  if !boostOn s then 0 else sense s (Block.ddv.base + 0x10) % 120001

/-- The energy in the bucket now (R210): 0 while LIMIT is 1; else it fills at 40 W less the power drawn, or empties at the power
drawn less 40 W, and is above 0. DESIGN CHOICE: the power since the last observation is one sensed value. -/
def bucketNow (s : State) : Nat :=
  if rbit s .a ddvStat 8 then 0
  else (clampI 1 bucketFull (s.out.bkt + ((40000 : Int) - boostPower s) * (4 * (s.now - s.out.bktAt)))).toNat

/-- The bucket is observed to hold an energy. -/
def bucketSet (s : State) (e : Nat) : State := { s with out := { s.out with bkt := e, bktAt := s.now } }

/-- BOOST_LIMIT (R210): the energy bucket is empty; it cannot be before a drain at 120 W has emptied it, nor with the converter off.
DESIGN CHOICE: the BOOST postings, of no bank, carry ARG 0 (R216). -/
def execBoostLimit (s : State) : Out :=
  act s (if !boostOn s ∨ rbit s .a ddvStat 8 ∨ 80000 * (4 * (s.now - s.out.bktAt)) < s.out.bkt then s
    else postOut (rsetb (bucketSet s 0) .a ddvStat 8 true) .ddv 4 0 1)

/-- BOOST_LIMIT_END (R210): the bucket has begun to fill. -/
def execBoostLimitEnd (s : State) : Out :=
  act s (if rbit s .a ddvStat 8 ∧ s.out.bktAt < s.now then rsetb (bucketSet s 1) .a ddvStat 8 false else s)

/-- VBST_LOW (R211). -/
def execVbstLow (s : State) : Out :=
  act s (if stageBench s ∨ rbit s .a ddvStat 9 then s else postOut (rsetb s .a ddvStat 9 true) .ddv 4 0 2)

/-- VBST_RECOVERED (R211): requests that waited for VBST may be admitted. -/
def execVbstRecovered (s : State) : Out := act s (pumpAll (rsetb s .a ddvStat 9 false))

/-! ### Commands at the sequencer -/

/-- STOP for a channel (R202). -/
def bankStop (s : State) (c : Nat) : State :=
  match (s.chan c).phase with
  | .p2 => let v := openVbst s; startRelease v.2 c v.1
  | .p0 | .p1 => s.modChan c fun x => { x with ends := {} }
  | .p3 => s
  | .idle => bankPump (s.modBank (c / 8) fun x => { x with queue := x.queue.filter fun y => y.ch != c }) (c / 8)

/-- Whether a profile fails the check of R193. -/
def profBad (w : List Nat) : Bool :=
  let g (i hi lo : Nat) : Nat := nfld (w.getD i 0) hi lo
  decide (g 0 19 18 = 3 ∨ g 0 17 16 = 3 ∨ g 0 15 8 < 10 ∨ 120 < g 0 15 8 ∨ g 0 7 0 < 20 ∨ 200 < g 0 7 0 ∨
    g 1 31 16 = 0 ∨ g 1 15 0 = 0 ∨ g 2 15 0 = 0 ∨ 1000 < g 2 15 0 ∨ g 3 31 16 = 0 ∨ g 3 15 0 = 0 ∨ g 4 15 8 = 0 ∨
    g 4 5 0 < 10 ∨ 40 < g 4 5 0 ∨ g 5 31 16 = 0 ∨ 2000 < g 5 31 16 ∨ g 5 15 0 < 10 ∨ 1000 < g 5 15 0) ||
  decide (g 1 31 16 ≤ g 1 15 0 ∨ g 0 7 0 * 100 ≤ g 0 15 8 * 50 ∨ g 3 31 16 < g 3 15 0)

/-- The fields of a profile word (R217): other bits are reserved. -/
def profMask (w v : Nat) : Nat :=
  match w with
  | 0 => nfld v 31 31 * 2 ^ 31 + nfld v 19 0
  | 1 | 3 | 5 => v % 2 ^ 32
  | 2 => nfld v 23 0
  | 4 => nfld v 15 8 * 2 ^ 8 + nfld v 5 0
  | _ => 0

/-- The verdict of the sequencers' rules on a lane's write to a DDV register that is a command (R193, R217, R548). -/
def ddvJudge (s : State) (l : LaneId) (off v : Nat) : Nat :=
  let plain := regVerdict s l .ddv off v
  if off = 8 then
    let op := nfld v 31 28
    let c := nfld v 5 0
    if op = 0 ∨ 5 < op ∨ 48 ≤ c then rRANGE
    else if op = 1 ∧ rbit s .a (dvReg c 4) 5 then 0x11
    else 0
  else if plain = rLOCKED then plain
  else if 0x2000 ≤ off then
    let b := (off - 0x2000) / 0x200
    let p := (off - 0x2000) % 0x200 / 0x20
    let w := (off - 0x2000) % 0x20 / 4
    if w = 0 then
      if 2 ^ 31 ≤ v % 2 ^ 32 ∧ profBad (profMask 0 v :: (List.range 5).map fun i => rget s .a (profReg b p (i + 1))) then 0x10
      else 0
    else if w ≤ 5 ∧ 2 ^ 31 ≤ rget s .a (profReg b p 0) then rSTATE
    else 0
  else if 0x100 ≤ off ∧ off < 0x200 ∧ off % 0x20 = 0 ∧ s.sup.modMode = .service ∧
      nfld v 1 0 ≠ rfld s .a (Block.ddv.base + off) 1 0 then rSTATE
  else plain

/-- The sequencer that carries a write to a DDV register (R217). -/
def ddvCarrier (off v : Nat) : Nat :=
  if off = 8 then min (nfld v 5 0 / 8) 5
  else if off = 4 then ((List.range 6).find? fun b => nbit v (16 + b)).getD 0
  else if 0x2000 ≤ off then (off - 0x2000) / 0x200
  else if 0x400 ≤ off then (off - 0x400) / 0x20 / 8
  else if 0x100 ≤ off then (off - 0x100) / 0x20
  else 0

/-- A write of the owner takes effect at the sequencers (R217). DESIGN CHOICE: DISABLE ends a running profile at once and takes a
waiting request out of the queue without a DROP (R208). -/
def ddvExec (s : State) (l : LaneId) (off v : Nat) : State :=
  if off = 8 then
    let c := nfld v 5 0
    match nfld v 31 28 with
    | 2 => bankStop s c
    | 3 => rsetb s .a (dvReg c 4) 4 false
    | 4 => rsetb s .a (dvReg c 4) 5 false
    | 5 => pumpAll (dvStop (rsetb s .a (dvReg c 4) 5 true) c)
    | _ => s
  else if 0x2000 ≤ off then rset s .a (Block.ddv.base + off) (profMask ((off - 0x2000) % 0x20 / 4) v)
  else
    let s := regStore s l .ddv off v 0
    if 0x100 ≤ off ∧ off < 0x200 ∧ off % 0x20 = 0 then pumpAll (railCmd s ((off - 0x100) / 0x20) (nfld v 1 0) false)
    else if off = 0x1C then pumpAll s
    else s

/-! ### The front-end of a lane -/

/-- The HTB instant at which a lane's halyard is predicted to reach a position (R196). -/
def predict (s : State) (l : LaneId) (n target : Nat) : Nat :=
  let sp := hySpeed s l n
  let d := (target + 2 ^ 56 - hyP s l n) % 2 ^ 56
  if 2 ^ 55 ≤ d then s.now
  else if sp ≤ 0 then 2 ^ 64
  else s.now + d * 2 ^ 32 / sp.toNat

/-- The hold end a lane's front-end computes for a start (R195, R196): END = 0 asks for HOLDDEF; a channel without a DDM
counts µs from the arrival, sent as such; else 256 au of the DDM's halyard from the start's position. -/
def frontEnd (s : State) (l : LaneId) (c e : Nat) (pos : Option Nat) : List Nat :=
  if e = 0 then [0, 0, 0]
  else match ddmOf s c with
    | none => [1, e, 0]
    | some m =>
      let n := rfld s l (ddmReg m 0) 3 0
      let t := (pos.getD (hyP s l n) + 256 * e) % 2 ^ 56
      [2, predict s l n t, t]

/-- The deadline a lane's front-end sends with a start, as an instant (R200): 2^64 when unbounded; [0, d] counts `d` ticks
from the arrival. -/
def frontDefer (s : State) (l : LaneId) (c : Nat) : List Nat :=
  match ddmOf s c with
  | none => [0, us (rfld s .a (bankReg (c / 8) 0) 31 16)]
  | some m =>
    let d := rget s l (ddmReg m 4)
    if rbit s l (ddmReg m 0) 6 then [0, us d]
    else
      let sp := hySpeed s l (rfld s l (ddmReg m 0) 3 0)
      if sp ≤ 0 then [1, 2 ^ 64] else [1, s.now + d * 2 ^ 32 / sp.toNat]

/-- A start arrives at its bank with the timing data of the front-end. -/
def bankArrive (s : State) (c prof : Nat) (x : List Nat) : State :=
  let ends : HoldEnds := match x.getD 0 0 with
    | 0 => { useDef := true }
    | 1 => { at_ := s.now + us (x.getD 1 0) }
    | _ => { at_ := x.getD 1 0, pos := some (x.getD 2 0) }
  bankStart s c prof ends (if x.getD 3 0 = 0 then s.now + x.getD 4 0 else x.getD 4 0)

/-- A lane's front-end decides on a start (R197, R204, R206): the state after, and whether a START is sent. -/
def frontDecide (s : State) (l : LaneId) (c : Nat) (sel : Bool) : State × Bool :=
  match sel, ddmOf s c with
  | true, some m => selOpportunity s l m
  | _, _ => (s, true)

/-- HOLD_END_REVISION (R196): the owner's front-end sends a revised instant when the prediction has moved by more than
1 µs and 16.384 µs have passed since the last one. -/
def execHoldEndRevision (l : LaneId) (c : Fin 48) (s : State) : Out :=
  let q := s.seq (c.val / 8)
  let ch := s.chan c
  let n := match ddmOf s c with
    | some m => rfld s l (ddmReg m 0) 3 0
    | none => 0
  let moved (a b : Nat) : Bool := decide (a + us 1 < b ∨ b + us 1 < a)
  let upd (e : HoldEnds) : HoldEnds := match e.pos with
    | some t => let p := predict s l n t; if moved e.at_ p then { e with at_ := p } else e
    | none => e
  act s (if q.owner ≠ l ∨ !(s.lane l).live ∨ (s.lane l).epoch < q.epoch ∨ outFrozen s ∨ (ddmOf s c).isNone ∨
      s.now < ch.rev + 4096 then s
    else
      let s' := if energised ch.phase then s.modChan c fun x => { x with ends := upd x.ends } else s
      let s' := s'.modBank (c.val / 8) fun x => { x with
        queue := x.queue.map fun r => if r.ch = c.val then { r with ends := upd r.ends } else r }
      if s' = s then s else s'.modChan c fun x => { x with rev := s.now })

/-! ### Power states, modes and starts -/

/-- A bank discards its queue without DROP (R214, R534, R548). -/
def bankDiscard (s : State) (b : Nat) : State := s.modBank b fun x => { x with queue := [] }

/-- Cylinders are idled in HOLD-UP and PARK (R539 step 2, R550): queues discarded, P2 ends, P3 follows. -/
def banksWind (s : State) : State :=
  let s := (List.range 6).foldl bankDiscard s
  (List.range 48).foldl (fun s c => match (s.chan c).phase with
    | .p2 => let v := openVbst s; startRelease v.2 c v.1
    | .p0 | .p1 => s.modChan c fun x => { x with ends := {} }
    | _ => s) s

/-- The selectors of a lane after a start (R204, R215). -/
def selsReset (s : State) (l : LaneId) : State :=
  (List.range 4).foldl (fun s m => s.modSel l m fun _ => { idlerun := rfld s l (ddmReg m 0) 15 12 }) s

/-! ### Reads -/

/-- The registers of DDV that the state answers (R217). -/
def ddvRead (s : State) (l : LaneId) (off : Nat) : Option (Nat × State) :=
  if off = 0x14 then
    if stageBench s then some (rfld s .a (Block.ddv.base + 0x10) 6 0 * 100 + 100 * 2 ^ 16, s)
    else
      let e := bucketNow s
      some (sense s (Block.ddv.base + off) % 65536 + e * 100 / bucketFull * 2 ^ 16 + b2n (rbit s .a ddvStat 8) * 2 ^ 24 + b2n (rbit s .a ddvStat 9) * 2 ^ 25,
        bucketSet s e)
  else if 0x100 ≤ off ∧ off < 0x1C0 ∧ off % 0x20 = 4 then
    let b := (off - 0x100) / 0x20
    let pk := ((List.range 8).find? fun i => (s.chan (8 * b + i)).phase == .p0)
    some ((match pk with | some i => 8 * b + i + 64 | none => 0) + energisedCount s (8 * b) 8 * 2 ^ 8 +
      (s.bank b).queue.length * 2 ^ 12 + iholdSum s (8 * b) 8 / 2 * 2 ^ 16, s)
  else if 0x200 ≤ off ∧ off < 0x280 ∧ off % 0x20 = 0xC then
    some ((i32 (s.sel l ((off - 0x200) / 0x20)).acc).toNat, s)
  else if 0x400 ≤ off ∧ off < 0xA00 ∧ off % 0x20 = 4 then
    let c := (off - 0x400) / 0x20
    let ph := (s.chan c).phase
    let w := decide (ph = .idle) && (s.bank (c / 8)).queue.any fun r => r.ch == c
    some (rget s .a (dvReg c 4) + (if w then 5 else ph.code), s)
  else none

end Sys2Proof.Machine
end

