-- ==== Sys2Proof/Machine/Switches.lean ====
section
/-! DEFINITION. Protected load switches (spec/07 R229–R242, R244). -/

namespace Sys2Proof.Machine

/-- A register of load switch `n`, of supply group `k`, of sense group `g` (R244). -/
def lsReg (n off : Nat) : Nat := Block.lsw.base + 0x200 + 0x20 * n + off
/-- A register of supply group `k`. -/
def grpReg (k off : Nat) : Nat := Block.lsw.base + 0x40 + 0x10 * k + off
/-- A register of sense group `g`. -/
def sgReg (g off : Nat) : Nat := Block.lsw.base + 0x80 + 0x10 * g + off

/-- A load switch. -/
def State.ls (s : State) (n : Nat) : LsCh := tget s.out.ls n
/-- Change a load switch. -/
def State.modLs (s : State) (n : Nat) (f : LsCh → LsCh) : State := { s with out := { s.out with ls := tmod s.out.ls n f } }
/-- A bit of LSn.STAT. -/
def lsBit (s : State) (n i : Nat) : Bool := rbit s .a (lsReg n 4) i
/-- Set a bit of LSn.STAT. -/
def lsSet (s : State) (n i : Nat) (b : Bool) : State := rsetb s .a (lsReg n 4) i b

/-- The supply group of a switch (R230). -/
def supplyGroup (n : Nat) : Nat := if n < 8 then n / 2 else (n - 8) / 6

/-- Whether a channel's supply group or sense group holds it off (R237, R238). -/
def groupDown (s : State) (n : Nat) : Bool :=
  rbit s .a (grpReg (supplyGroup n) 4) 1 || rbit s .a (grpReg (supplyGroup n) 4) 2 || rbit s .a (sgReg (n / 8) 8) 1

/-- The sense code of a channel from the current code the mirror would give (R233, R549). -/
def senseCode (s : State) (n raw : Nat) : Nat :=
  if stageBench s then (if lsBit s n 2 then 12000 else 0)
  else if n < 8 ∧ ((s.ls n).own ∨ lsBit s n 4) then 0xF800 + raw % 0x800
  else if !lsBit s n 0 then 0
  else if n < 8 then min (raw % 65536) 0xF7FF
  else raw % 65536

/-- The instant at which the scan of its sense group last came to a channel (R232): slots of 2.5 µs, eight to a turn. DESIGN
CHOICE: the scan of each group begins at HTB 0 with its lowest channel and converts at the beginning of a slot. -/
def scanAt (s : State) (n : Nat) : Option Nat :=
  let first := tget s.out.scan (n / 8) + 625 * (n % 8)
  if s.now < first then none else some (first + (s.now - first) / 5000 * 5000)

/-- LSn.SENSE (R232, R233): the code of the latest scan, from the current that the world gave at its instant. -/
def lsCode (s : State) (n : Nat) : Nat :=
  if stageBench s then senseCode s n 0
  else match scanAt s n with
    | some t => if (s.ls n).codeAt ≤ t then senseCode s n (senseAt s (lsReg n 8) t) else (s.ls n).code
    | none => (s.ls n).code

/-- What the scan has found of a channel is kept, before the channel changes. -/
def lsKeep (s : State) (n : Nat) : State := s.modLs n fun x => { x with code := lsCode s n, codeAt := max x.codeAt (s.now + 1) }

/-- The current of supply group `k` at its sample `j` in steps of 10 mA (R230): the world's; none in BENCH (R549). -/
def groupCurrent (s : State) (k j : Nat) : Nat := if stageBench s then 0 else senseAt s (grpReg k 4) (j * us 20) % 65536

/-- The filter of R230 over `n` samples from sample `j` on: f := f + (i − f) × 20 µs / GTAU. DESIGN CHOICE: in steps of
10 mA × 2^-16, rounded down. -/
def filterRun (s : State) (k : Nat) : Nat → Nat → Int → Int
  | 0, _, f => f
  | n + 1, j, f => filterRun s k n (j + 1)
      (f + ((groupCurrent s k j * 65536 : Nat) - f) * 20 / (1000 * max 1 (rfld s .a (grpReg k 0) 23 16) : Nat))

/-- The filtered current of a supply group now, in steps of 10 mA × 2^-16 (R230): a sample every 20 µs of HTB. -/
def groupF (s : State) (k : Nat) : Nat :=
  let x := tget s.out.filt k
  (filterRun s k (s.now / us 20 - x.at_) (x.at_ + 1) x.f).toNat

/-- The filter of a supply group is brought up to now. -/
def groupSettle (s : State) (k : Nat) : State :=
  { s with out := { s.out with filt := tset s.out.filt k { f := groupF s k, at_ := s.now / us 20 } } }

/-- A current limit in A, in steps of 10 mA × 2^-16. -/
def amps (a : Nat) : Nat := a * 100 * 65536

/-- The sum of the four group filters (R231). -/
def moduleF (s : State) : Nat := groupF s 0 + groupF s 1 + groupF s 2 + groupF s 3

/-- Whether the sum of the filtered group currents exceeds MODLIM (R231). -/
def moduleOver (s : State) : Bool := decide (amps (rfld s .a (Block.lsw.base + 0x10) 7 0) < moduleF s)

/-- A channel begins to conduct; `fresh` starts an inrush window with RETRYCNT = 0 (R234). -/
def lsConduct (s : State) (n : Nat) (fresh : Bool) : State :=
  let w := rfld s .a (lsReg n 0) 27 20
  let s := lsSet (lsKeep s n) n 0 true
  if fresh then
    let s := lsSet s n 6 (decide (w ≠ 0))
    s.modLs n fun x => { x with
      onSince := s.now, retry := 0, fresh := false, retryAt := none, winLeft := none, winEnd := if w = 0 then none else some (s.now + ms w) }
  else s.modLs n fun x => { x with onSince := s.now, retryAt := none }

/-- A channel goes off for good: no window, no retry. -/
def lsDark (s : State) (n : Nat) : State :=
  let s := lsSet (lsSet (lsKeep s n) n 0 false) n 6 false
  s.modLs n fun x => { x with retryAt := none, winEnd := none, winLeft := none, fresh := false, thenOff := false }

/-- A channel in BENCH (R549): it stands at its commanded level, no inrush sequence, group, limit or voltage asked. -/
def benchLevel (s : State) (n : Nat) : State :=
  (lsSet (lsDark s n) n 0 (lsBit s n 2 && !lsBit s n 4 && !lsBit s n 5)).modLs n fun x => { x with onSince := s.now }

/-- A channel latches off with a cause (R242). -/
def lsLatch (s : State) (n cause : Nat) : State := postOut (lsSet (lsDark s n) n 4 true) .lsw 0x21 (30 + n) cause

/-- Whether an inrush sequence of a channel is running (R29, R234): its window, with the channel conducting or cooling, or its
retry off-time. -/
def lsInrush (s : State) (n : Nat) : Bool :=
  let x := s.ls n
  (x.winEnd.isSome && (lsBit s n 0 || x.hot)) || x.retryAt.isSome

/-- The commanded level of a channel; ON conducts unless something holds the channel off (R234, R238, R239). A channel that is
switched on while it is too hot makes its OFF-to-ON transition when it has cooled. -/
def lsLevel (s : State) (n : Nat) (on : Bool) : State :=
  let was := lsBit s n 2
  let s := lsSet s n 2 on
  if stageBench s then benchLevel s n
  else if !on then lsDark s n
  else if (s.ls n).thenOff then s.modLs n fun x => { x with thenOff := false }
  else if was || lsBit s n 4 || lsBit s n 5 || groupDown s n then s
  else if (s.ls n).hot then s.modLs n fun x => { x with fresh := true }
  else lsConduct s n true

/-- A level that no command of the owner gives (R29, R31, R33, R533): OFF leaves a running inrush sequence to its end. -/
def lsFall (s : State) (n : Nat) (on : Bool) : State :=
  if !on && lsInrush s n then (lsSet s n 2 false).modLs n fun x => { x with thenOff := true } else lsLevel s n on

/-- Whether WINDOW and RETRIES are in the range of the TYPE (R229). -/
def lsCfgOk (v : Nat) : Bool :=
  let w := nfld v 27 20
  let r := nfld v 19 16
  match nfld v 9 8 with
  | 0 => decide (w ≤ 200)
  | 1 => decide (w ≤ 100 ∧ r ≤ 3)
  | _ => decide (w = 0 ∧ r = 0)

/-- The verdict of the sequencers' rules on a write to an LSW register that is a command (R229, R232, R239, R548). -/
def lswJudge (s : State) (l : LaneId) (off v : Nat) : Nat :=
  let plain := regVerdict s l .lsw off v
  if off = 8 then
    let op := nfld v 31 28
    let n := nfld v 4 0
    if op = 0 ∨ 3 < op then rRANGE
    else if s.sup.modMode = .service ∧ op ≠ 3 then rSTATE
    else if op = 1 ∧ (lsBit s n 4 || lsBit s n 5) then 0x10
    else 0
  else if plain = rLOCKED then plain
  else if 0x200 ≤ off ∧ off % 0x20 = 0 ∧ !lsCfgOk v then rRANGE
  else if 0x80 ≤ off ∧ off < 0xC0 ∧ off % 0x10 = 0 ∧ (tget s.out.dirs ((off - 0x80) / 0x10)).isSome then rBUSY
  else plain

/-- The sequencer that carries a write to an LSW register (R228). -/
def lswCarrier (off v : Nat) : Nat :=
  if off = 8 then 30 + nfld v 4 0
  else if 0x200 ≤ off then 30 + (off - 0x200) / 0x20
  else if 0x80 ≤ off then 30 + 8 * ((off - 0x80) / 0x10)
  else if 0x40 ≤ off then 30 + 2 * ((off - 0x40) / 0x10)
  else 30

/-- The next slot boundary of a sense group (R232). -/
def slotNext (s : State) (g : Nat) : Nat :=
  let b := tget s.out.scan g
  if s.now < b then b else b + ((s.now - b) / 625 + 1) * 625

/-- A directed conversion is requested (R232): it takes the next slot boundary, lasts 1 µs and delays the rest of the scan by
as much; until it is over the scan converts nothing more. -/
def dirRequest (s : State) (g ch : Nat) : State :=
  let at_ := slotNext s g + us 1
  let s := (List.range 8).foldl (fun s i => (lsKeep s (8 * g + i)).modLs (8 * g + i) fun x => { x with codeAt := at_ }) s
  { s with out := { s.out with
    dirs := tset s.out.dirs g (some (.mk ch at_)), scan := tset s.out.scan g (tget s.out.scan g + us 1) } }

/-- A write of the owner takes effect at the sequencer (R230, R232, R239). -/
def lswExec (s : State) (l : LaneId) (off v : Nat) : State :=
  if off = 8 then
    let n := nfld v 4 0
    match nfld v 31 28 with
    | 1 => lsLevel s n true
    | 2 => lsLevel s n false
    | 3 =>
      let s := if lsBit s n 4 || lsBit s n 5 then lsSet (lsDark s n) n 2 false else lsKeep s n
      rsetf (rsetf s .a (lsReg n 4) 5 4 0) .a (lsReg n 4) 10 7 0
    | _ => s
  else if 0x80 ≤ off ∧ off < 0xC0 ∧ off % 0x10 = 0 then
    dirRequest (regStore s l .lsw off v 0) ((off - 0x80) / 0x10) (v % 8)
  else if 0x40 ≤ off ∧ off < 0x80 ∧ off % 0x10 = 0 then regStore (groupSettle s ((off - 0x40) / 0x10)) l .lsw off v 0
  else regStore s l .lsw off v 0

/-- LS_LIMIT_TIMEOUT (R234, R235): a channel has been in current limit for TLIM; `low`: its output is below VOSHORT. -/
def execLsLimitTimeout (n : Fin 32) (low : Bool) (s : State) : Out :=
  let x := s.ls n
  let inWin := x.winEnd.isSome
  let cause := if low then 0 else if inWin then 3 else 1
  act s (if stageBench s ∨ !lsBit s n 0 then s
    else
      let s := rcount (lsKeep s n) .a (lsReg n 0x10) 31 0 1
      let s := if low then (lsSet s n 7 true).modLs n fun y => { y with own := true }
        else if inWin then s else lsSet s n 8 true
      let s := postOut s .lsw 0x20 (30 + n) (cause + x.retry * 2 ^ 8)
      if inWin ∧ x.retry < rfld s .a (lsReg n 0) 19 16 then
        (lsSet s n 0 false).modLs n fun y => { y with retryAt := some (s.now + ms 2) }
      else lsLatch s n cause)

/-- LS_RETRY (R234): the 2 ms are over, RETRYCNT counts and the channel switches on again; one whose level went off meanwhile
only if its window still runs (R29). -/
def execLsRetry (n : Fin 32) (s : State) : Out :=
  act s (if !due (s.ls n).retryAt s.now then s
    else if (s.ls n).thenOff && (s.ls n).winEnd.isNone then lsDark s n
    else (lsConduct s n false).modLs n fun y => { y with retry := y.retry + 1 })

/-- INRUSH_WINDOW_END (R235): the end of the inrush sequence of a channel whose level went off meanwhile (R29), unless a retry
still follows. -/
def execInrushWindowEnd (n : Fin 32) (s : State) : Out :=
  act s (if !due (s.ls n).winEnd s.now then s
    else if (s.ls n).thenOff && (s.ls n).retryAt.isNone then lsDark s n
    else (lsSet s n 6 false).modLs n fun y => { y with winEnd := none })

/-- LS_OVERTEMP (R236): the junction reaches T_RESTART, or T_ABS (`abs`), which latches a channel that is off too. DESIGN CHOICE:
such a latch is no trip: it sets OT and counts none. -/
def execLsOvertemp (n : Fin 32) (abs : Bool) (s : State) : Out :=
  act s (if stageBench s then s
    else if !lsBit s n 0 then
      if abs && !lsBit s n 4 then lsLatch ((lsSet (lsKeep s n) n 9 true).modLs n fun y => { y with own := true, hot := true }) n 4
      else s
    else
      let s := rcount (lsSet (lsKeep s n) n 9 true) .a (lsReg n 0x10) 31 0 1
      let s := postOut s .lsw 0x20 (30 + n) (2 + (s.ls n).retry * 2 ^ 8)
      let s := s.modLs n fun y => { y with own := true, hot := true }
      if abs then lsLatch s n 4
      else if rbit s .a (lsReg n 0) 11 then lsLatch s n 2
      else lsSet s n 0 false)

/-- LS_THERMAL_RESTART (R236): it has cooled by the hysteresis; no retry is used and the window runs on. A channel switched off
and on meanwhile, by command or by under-voltage, starts a fresh window (R234, R238). -/
def execLsThermalRestart (n : Fin 32) (s : State) : Out :=
  act s (if !(s.ls n).hot then s
    else
      let s := s.modLs n fun y => { y with hot := false }
      if (s.ls n).thenOff && (s.ls n).winEnd.isNone then lsDark s n
      else if (lsBit s n 2 || (s.ls n).thenOff) && !lsBit s n 4 && !lsBit s n 5 && !groupDown s n && !lsBit s n 0 then
        lsConduct s n (s.ls n).fresh
      else s)

/-- OWN_FAULT_END (R234, R236): conducting for 10 ms without limit or trip. -/
def execOwnFaultEnd (n : Fin 32) (s : State) : Out :=
  act s (if (s.ls n).own ∧ lsBit s n 0 ∧ (s.ls n).onSince + ms 10 ≤ s.now then (lsKeep s n).modLs n fun y => { y with own := false }
    else s)

/-- LS_OPENLOAD (R244): below 50 mA while on for 100 ms, or while off with OLOFF. -/
def execLsOpenload (n : Fin 32) (s : State) : Out :=
  act s (if stageBench s then s
    else if lsBit s n 0 then (if (s.ls n).onSince + ms 100 ≤ s.now then lsSet s n 10 true else s)
    else if rbit s .a (lsReg n 0) 10 then lsSet s n 10 true else s)

/-- What a group trip does to a channel (R237): with an own fault it latches; else it goes off and its window stands. -/
def lsTrip (s : State) (n : Nat) : State :=
  let x := s.ls n
  if !(lsBit s n 2 || x.thenOff) || lsBit s n 4 || lsBit s n 5 then s
  else if x.own then lsLatch s n 5
  else if x.thenOff then lsDark s n
  else if lsBit s n 0 || x.retryAt.isSome then
    (lsSet (lsKeep s n) n 0 false).modLs n fun y => { y with
      retryAt := none, winEnd := none, winLeft := some (match y.winEnd with | some t => t - s.now | none => 0) }
  else s

/-- A channel restarts with its group when nothing else holds it off (R237, R238): a standing window resumes, otherwise
a fresh one starts. -/
def lsRestart (s : State) (n : Nat) : State :=
  let x := s.ls n
  if !lsBit s n 2 || lsBit s n 4 || lsBit s n 5 || lsBit s n 0 || groupDown s n then s
  else if x.hot then s.modLs n fun y => { y with fresh := y.winLeft.isNone }
  else match x.winLeft with
    | none => lsConduct s n true
    | some r => (lsConduct s n false).modLs n fun y => { y with
        winLeft := none, winEnd := if r = 0 then none else some (s.now + r) }

/-- Do something to the channels that satisfy a condition, lowest first. -/
def lsEach (s : State) (p : Nat → Bool) (f : State → Nat → State) : State :=
  (List.range 32).foldl (fun s n => if p n then f s n else s) s

/-- GROUP_TRIP (R230, R237): the group's filtered current exceeds GLIM, or its instantaneous current 120 A, which the operand
tells beside the group. -/
def execGroupTrip (g : Fin 4 × Bool) (s : State) : Out :=
  let k := g.1
  act s (if stageBench s ∨ rbit s .a (grpReg k 4) 1 ∨ (!g.2 ∧ groupF s k ≤ amps (rfld s .a (grpReg k 0) 7 0)) then s
    else
      let s := groupSettle s k
      let s := rcount (rsetf s .a (grpReg k 4) 1 0 3) .a (grpReg k 8) 31 0 1
      let s := { s with out := { s.out with tripAt := tset s.out.tripAt k.val s.now } }
      postOut (lsEach s (fun n => supplyGroup n == k.val) lsTrip) .lsw 0x22 0x3F k)

/-- GROUP_DIE_TRIP (R237): the die of a sense group reaches T_GRP. -/
def execGroupDieTrip (g : Fin 4) (s : State) : Out :=
  act s (if stageBench s ∨ rbit s .a (sgReg g 8) 1 then s
    else
      let s := rsetf s .a (sgReg g 8) 1 0 3
      postOut (lsEach s (fun n => n / 8 == g.val) lsTrip) .lsw 0x22 0x3F (g + 2 ^ 8))

/-- Whether the filtered current of a supply group has fallen below GREST % of GLIM (R230). -/
def groupCalm (s : State) (k : Nat) : Bool :=
  decide (100 * groupF s k < rfld s .a (grpReg k 0) 15 8 * amps (rfld s .a (grpReg k 0) 7 0))

/-- GROUP_RESTART (R230, R237): a tripped group has recovered; a supply group not before GMINOFF and the fall of its filter. -/
def execGroupRestart (die : Bool) (g : Fin 4) (s : State) : Out :=
  act s (if die then
      if !rbit s .a (sgReg g 8) 1 then s
      else postOut (lsEach (rsetb s .a (sgReg g 8) 1 false) (fun n => n / 8 == g.val) lsRestart) .lsw 0x22 0x3F
        (g + 2 ^ 8 + 2 ^ 9)
    else if !rbit s .a (grpReg g 4) 1 ∨ !groupCalm s g ∨ s.now < tget s.out.tripAt g.val + ms (rfld s .a (grpReg g 0) 31 24) then s
    else postOut (lsEach (rsetb s .a (grpReg g 4) 1 false) (fun n => supplyGroup n == g.val) lsRestart) .lsw 0x22 0x3F
      (g + 2 ^ 9))

/-- The load switch to shed: conducting, highest SHED above 0, the higher number among equals (R231). -/
def shedCandidate (s : State) : Option Nat :=
  (List.range 32).foldl (fun c n =>
    let p := rfld s .a (lsReg n 0) 31 28
    let ovr := match c with
      | some m => decide (rfld s .a (lsReg m 0) 31 28 ≤ p)
      | none => true
    if lsBit s n 0 && p != 0 && ovr then some n else c) none

/-- A channel is shed (R231); `diss`: for the dissipation budget (R596). -/
def lsShed (s : State) (n : Nat) (diss : Bool) : State :=
  postOut (lsSet (lsDark s n) n 5 true) .lsw 0x23 0x3F (n + b2n diss * 2 ^ 8)

/-- Whether shedding takes place (R549, R597). -/
def shedsNow (s : State) : Bool := !stageBench s && !outFrozen s

/-- Whether a shed under R231 was taken less than 1 ms ago. -/
def shedStep (s : State) : Bool := match s.out.shedLast with
  | some e => decide (s.now < e.1 + ms 1)
  | none => false

/-- MODULE_SHED (R231): every 1 ms, while the sum of the group filters exceeds MODLIM (`ovr`), and when it does so no more. -/
def execModuleShed (ovr : Bool) (s : State) : Out :=
  act s (if moduleOver s != ovr then s
    else if !ovr then rsetb s .a (Block.lsw.base + 4) 8 false
    else if !shedsNow s ∨ shedStep s then s
    else match shedCandidate s with
      | none => rsetb s .a (Block.lsw.base + 4) 8 true
      | some n =>
        let s := rsetb (lsShed s n false) .a (Block.lsw.base + 4) 8 false
        { s with out := { s.out with shedLast := some (s.now, n) } })

/-- The under-voltage threshold in 10 mV (R238, R584, R588): 6 V, or 16 V with LSW.CTRL.SYSV. -/
def uvLimit (s : State) : Nat := if rbit s s.sup.active Block.lsw.base 1 then 1600 else 600

/-- VBAT_Pk in 10 mV (R598). -/
def vbatP (s : State) (k : Nat) : Nat := nfld (sense s (Block.pwr.base + 0x34 + k / 2 * 4)) (k % 2 * 16 + 15) (k % 2 * 16)

/-- LS_UNDERVOLTAGE (R238): VBAT_Pk has been below the threshold for 100 µs: every channel of the group goes off; no own fault. -/
def execLsUndervoltage (k : Fin 4) (s : State) : Out :=
  act s (if stageBench s ∨ rbit s .a (grpReg k 4) 2 ∨ uvLimit s ≤ vbatP s k then s
    else postOut (lsEach (rsetb s .a (grpReg k 4) 2 true) (fun n => supplyGroup n == k.val) lsDark) .lsw 0x24 0x3F k)

/-- LS_UV_RESTART (R238): 0.5 V above the threshold for 5 ms: commanded channels switch on with a fresh window. -/
def execLsUvRestart (k : Fin 4) (s : State) : Out :=
  act s (if !rbit s .a (grpReg k 4) 2 ∨ vbatP s k < uvLimit s + 50 then s
    else postOut (lsEach (rsetb s .a (grpReg k 4) 2 false) (fun n => supplyGroup n == k.val) lsRestart) .lsw 0x24 0x3F
      (k + 2 ^ 8))

/-- DIRECTED_CONVERSION_DONE (R232): `raw` is the current code of the channel. -/
def execDirectedConversionDone (g : Fin 4) (raw : BitVec 16) (s : State) : Out :=
  act s (match tget s.out.dirs g.val with
    | none => s
    | some d =>
      if s.now < d.at_ then s
      else
        let s := rset s .a (sgReg g 4) (2 ^ 31 + d.ch * 2 ^ 16 + senseCode s (8 * g + d.ch) raw.toNat)
        { s with out := { s.out with dirs := tset s.out.dirs g.val none } })

/-- What a load switch takes when its hold timer expires, or at step 0 of a warm start (`warm`) (R31, R240, R533). -/
def lsClass (s : State) (n : Nat) (warm : Bool) : State :=
  match rfld s .a (lsReg n 0) 13 12 with
  | 2 => lsFall s n (rbit s .a (lsReg n 0) 14)
  | 0 => if warm then s else lsFall s n false
  | _ => lsFall s n false

/-- The registers of LSW that the state answers (R233, R244). Currents are the world's (Config.sensed). -/
def lswRead (s : State) (off : Nat) : Option (Nat × State) :=
  if off = 4 then
    some ((List.range 4).foldl (fun w k => w + b2n (rbit s .a (grpReg k 4) 2) * 2 ^ k + b2n (rbit s .a (grpReg k 4) 1) * 2 ^ (4 + k))
      (b2n (rbit s .a (Block.lsw.base + 4) 8) * 2 ^ 8), s)
  else if off = 0x14 then some (min (moduleF s / 65536) 65535, s)
  else if 0x40 ≤ off ∧ off < 0x80 ∧ off % 0x10 = 4 then
    some (rget s .a (Block.lsw.base + off) % 8 + min (groupF s ((off - 0x40) / 0x10) / 65536) 65535 * 65536, s)
  else if off < 0x200 ∨ 0x600 ≤ off then none
  else
    let n := (off - 0x200) / 0x20
    match off % 0x20 with
    | 4 => some (nset (rget s .a (lsReg n 4)) 3 3 (b2n (groupDown s n)), s)
    | 8 => some (lsCode s n, s)
    | 0xC =>
      let left := match (s.ls n).winEnd, (s.ls n).winLeft with
        | some t, _ => t - s.now
        | none, some r => r
        | none, none => 0
      some ((s.ls n).retry * 2 ^ 16 + min (left / ms 1) 255, s)
    | _ => none

end Sys2Proof.Machine
end

