-- ==== Sys2Proof/Machine/Valves.lean ====
section
/-! DEFINITION. Proportional valve channels (spec/07 R219–R228, R240–R243). -/

namespace Sys2Proof.Machine

/-- A register of proportional channel `n` (R243). -/
def pvReg (n off : Nat) : Nat := Block.pvc.base + 0x100 + 0x20 * n + off

/-- PVn.STAT.ENABLED. -/
def pvEnabled (s : State) (n : Nat) : Bool := rbit s .a (pvReg n 0x14) 1

/-- PVn.STAT.LATCHED. -/
def pvLatched (s : State) (n : Nat) : Bool := rbit s .a (pvReg n 0x14) 2

/-- The duty of a channel: a stored value with bit 15 set counts as 0 (R220). -/
def pvDuty (s : State) (n : Nat) : Nat :=
  let d := rfld s .a (pvReg n 4) 15 0
  if d < 32768 then d else 0

/-- The on-time of a period in ticks of 10 ns (R220), with the period. A latched channel is off and ignores its duty (R226). -/
def pvOnTime (s : State) (n : Nat) : Nat × Nat :=
  let period := 100000 / max 1 (rfld s .a (pvReg n 0) 20 16)
  (if pvLatched s n then 0 else (pvDuty s n * period * 2 + 32768) / 65536, period)

/-- The conversions of an enabled channel that are complete by now: one at the end of every CONVDIV-th period (R221). DESIGN
CHOICE: the periods count from the ENABLE, as the dither's phase does. -/
def pvConvs (s : State) (n : Nat) : Nat :=
  (s.now - (tget s.out.pv n).t0) * 2 / 5 / ((pvOnTime s n).2 * rfld s .a (pvReg n 0) 15 12)

/-- The sample of the shunt in a period counted from the ENABLE (R221): what the world gives at the midpoint of the on-time, or
of the period when the on-time is 0. -/
def pvSample (s : State) (n p : Nat) : Nat :=
  let t := pvOnTime s n
  senseAt s (pvReg n 0x10) ((tget s.out.pv n).t0 + (p * t.2 + (if t.1 = 0 then t.2 else t.1) / 2) * 5 / 2) % 65536

/-- The mean of the CONVDIV samples of the conversion that ends with period `p` (R221), truncated. -/
def pvMean (s : State) (n p : Nat) : Nat :=
  let d := rfld s .a (pvReg n 0) 15 12
  (List.range d).foldl (fun t i => t + pvSample s n (p - d + i)) 0 / d

/-- The IMAX sum (20 mA units) of the enabled channels of valve supply `k`, channel `but` left out (R224). -/
def imaxSum (s : State) (k : Nat) (but : Option Nat) : Nat :=
  (List.range 12).foldl (fun t i =>
    let n := 12 * k + i
    if pvEnabled s n ∧ but ≠ some n then t + rfld s .a (pvReg n 0) 31 24 else t) 0

/-- The limit of a valve supply in 20 mA units, from a SUPCFG value. -/
def supLimit (w k : Nat) : Nat := 5 * nfld w (8 * k + 7) (8 * k)

/-- The verdict of the sequencers' rules on a write to a PVC register that is a command (R224, R227, R548). -/
def pvcJudge (s : State) (l : LaneId) (off v : Nat) : Nat :=
  let plain := regVerdict s l .pvc off v
  if off = 8 then
    let op := nfld v 31 28
    let n := nfld v 4 0
    if op = 0 ∨ 3 < op ∨ 24 ≤ n then rRANGE
    else if op ≠ 1 then 0
    else if pvLatched s n then 0x11
    else if supLimit (rget s .a (Block.pvc.base + 0x10)) (n / 12) < imaxSum s (n / 12) (some n) + rfld s .a (pvReg n 0) 31 24
      then 0x10
    else 0
  else if plain = rLOCKED then plain
  else if off = 0x10 then
    if supLimit v 0 < imaxSum s 0 none ∨ supLimit v 1 < imaxSum s 1 none then 0x10 else plain
  else if off % 0x20 = 0 ∧ 0x100 ≤ off ∧ pvEnabled s ((off - 0x100) / 0x20) then rSTATE
  else if off % 0x20 = 4 ∧ 0x100 ≤ off ∧ s.sup.modMode = .service then rSTATE
  else plain

/-- The sequencer that carries a write to a PVC register (R228). -/
def pvcCarrier (off v : Nat) : Nat :=
  if off = 8 then 6 + min (nfld v 4 0) 23
  else if 0x100 ≤ off then 6 + (off - 0x100) / 0x20
  else 6

/-- The duty of a channel takes a value; conditions that the new duty ends no longer hold (R225). -/
def pvSetDuty (s : State) (n v : Nat) : State :=
  let s := rsetf s .a (pvReg n 4) 15 0 v
  let s := if pvDuty s n = 0 then s else rsetb s .a (pvReg n 0x14) 4 false
  if 3277 ≤ pvDuty s n then s else rsetb s .a (pvReg n 0x14) 3 false

/-- A write of the owner takes effect at the sequencer (R227, R228). -/
def pvcExec (s : State) (l : LaneId) (off v : Nat) : State :=
  if off = 8 then
    let n := nfld v 4 0
    let st := pvReg n 0x14
    match nfld v 31 28 with
    | 1 => { rsetb s .a st 1 true with out := { s.out with pv := tset s.out.pv n { t0 := s.now } } }
    | 2 => rsetf (rsetb s .a st 1 false) .a st 4 3 0
    | 3 => rsetf (rsetb s .a st 2 false) .a st 11 8 0
    | _ => s
  else if 0x100 ≤ off ∧ off % 0x20 = 4 then pvSetDuty s ((off - 0x100) / 0x20) (v % 65536)
  else regStore s l .pvc off v 0

/-- A sticky flag of a channel; PVDIAG is posted when it sets (R225, R242). DATA bits: SHORT 0, SHORTBAT 1, OPEN 2,
OVER 3. -/
def pvFlag (s : State) (n i k : Nat) : State :=
  if rbit s .a (pvReg n 0x14) i then s
  else postOut (rsetb s .a (pvReg n 0x14) i true) .pvc 0x10 (6 + n) (2 ^ k)

/-- PV_SHORT (R225): switch-off, LATCHED. None sets in BENCH (R549). -/
def execPvShort (n : Fin 24) (s : State) : Out :=
  act s (if stageBench s ∨ !pvEnabled s n ∨ pvLatched s n then s else rsetb (pvFlag s n 10 0) .a (pvReg n 0x14) 2 true)

/-- PV_SHORTBAT (R225): the condition is found after 1 ms (`holds`), or ends. -/
def execPvShortbat (n : Fin 24) (holds : Bool) (s : State) : Out :=
  act s (if !holds then rsetb s .a (pvReg n 0x14) 4 false
    else if stageBench s ∨ !pvEnabled s n ∨ pvDuty s n ≠ 0 then s
    else pvFlag (rsetb s .a (pvReg n 0x14) 4 true) n 11 1)

/-- PV_OPEN (R225): the condition is found after 10 ms (`holds`), or ends. -/
def execPvOpen (n : Fin 24) (holds : Bool) (s : State) : Out :=
  act s (if !holds then rsetb s .a (pvReg n 0x14) 3 false
    else if stageBench s ∨ !pvEnabled s n ∨ pvLatched s n ∨ pvDuty s n < 3277 then s
    else pvFlag (rsetb s .a (pvReg n 0x14) 3 true) n 9 2)

/-- Whether MEAS of a channel has been above IMAX for 1 ms without a break (R225); IMAX is in 20 mA, MEAS in 0.125 mA. -/
def pvOverNow (s : State) (n : Nat) : Bool :=
  decide (160 * rfld s .a (pvReg n 0) 31 24 < rfld s .a (pvReg n 0x10) 15 0) && match (tget s.out.pv n).high with
    | some t => decide (t + ms 1 ≤ s.now)
    | none => false

/-- PV_OVER (R225). -/
def execPvOver (n : Fin 24) (s : State) : Out := act s (if stageBench s ∨ !pvOverNow s n then s else pvFlag s n 8 3)

/-- The dither value of a channel at an HTB instant, in steps of 0.125 mA (R222, R223). -/
def pvDither (s : State) (n t : Nat) : Int :=
  let w := rget s .a (pvReg n 8)
  let f := nfld w 8 0
  let a : Int := 16 * nfld w 23 16
  let half := 125000000
  let ph := (t - (tget s.out.pv n).t0) * f % (2 * half)
  if f = 0 then 0
  else if nfld w 24 24 = 0 then (if ph < half then a else -a)
  else if ph < half then -a + 2 * a * ph / half
  else a - 2 * a * (ph - half) / half

/-- A channel takes a level outside its commands: the duty (R31, R533, R548). -/
def pvLevel (s : State) (n d : Nat) : State := pvSetDuty s n d

/-- What a PV channel takes when its hold timer expires, or at step 0 of a warm start (`warm`) (R31, R240, R533). -/
def pvClass (s : State) (n : Nat) (warm : Bool) : State :=
  match rfld s .a (pvReg n 0) 9 8 with
  | 2 => pvLevel s n (rfld s .a (pvReg n 0xC) 15 0)
  | 0 => if warm then s else pvLevel s n 0
  | _ => pvLevel s n 0

/-- The registers of PVC that the state answers (R243). -/
def pvcRead (s : State) (off : Nat) : Option (Nat × State) :=
  if off = 4 then some ((List.range 24).foldl (fun w n => w + b2n (pvLatched s n) * 2 ^ n) 0, s)
  else if off = 0x14 then some (imaxSum s 0 none / 5 + imaxSum s 1 none / 5 * 65536, s)
  else none

end Sys2Proof.Machine
end

