-- ==== Sys2Proof/Machine/SeqLink.lean ====
section
/-! DEFINITION. The links from the lanes to the sequencers: lane command numbers, comparison, ownership, hold timers
(spec/01 R25–R32, spec/06 R217, spec/07 R228). -/

namespace Sys2Proof.Machine

/-- The lane command number of a lane at a sequencer. -/
def Seq.num (q : Seq) : LaneId → Nat
  | .a => q.numA
  | .b => q.numB
/-- The commands of a lane on their way. -/
def Seq.link (q : Seq) : LaneId → List LinkCmd
  | .a => q.linkA
  | .b => q.linkB
/-- The copies of a lane that wait for the other lane's. -/
def Seq.waits (q : Seq) : LaneId → List LinkCmd
  | .a => q.waitA
  | .b => q.waitB
/-- Replace the commands of a lane on their way. -/
def Seq.setLink (q : Seq) (l : LaneId) (x : List LinkCmd) : Seq :=
  match l with
  | .a => { q with linkA := x }
  | .b => { q with linkB := x }
/-- Replace the waiting copies of a lane. -/
def Seq.setWaits (q : Seq) (l : LaneId) (x : List LinkCmd) : Seq :=
  match l with
  | .a => { q with waitA := x }
  | .b => { q with waitB := x }
/-- The highest number of a lane's copies whose partner did not come in time (R26). -/
def Seq.past (q : Seq) : LaneId → Nat
  | .a => q.pastA
  | .b => q.pastB
/-- A lane's copy of a number has waited in vain. -/
def Seq.setPast (q : Seq) (l : LaneId) (n : Nat) : Seq :=
  match l with
  | .a => { q with pastA := n }
  | .b => { q with pastB := n }
/-- The lane's next command number is taken. -/
def Seq.bump (q : Seq) (l : LaneId) : Seq :=
  match l with
  | .a => { q with numA := q.numA + 1 }
  | .b => { q with numB := q.numB + 1 }

/-- The words of a command: a register write is its address and value, with the stroke decision of a START behind it;
an event start is 1 and its ARG, with the decision: 1 START, 2 SKIP (R206, R217). -/
def cmdWrite (b : Block) (off v : Nat) : List Nat := [b.base + off, v % 2 ^ 32]

/-- Whether the sequencers compare: both lanes are up in DUAL (R25, R38). -/
def comparing (s : State) : Bool := s.sup.laneMode == .dual && s.laneA.live && s.laneB.live

/-- A mismatch on a sequencer (R25, R48, R482). -/
def mismatch (s : State) (n word wa ws : Nat) : State :=
  let s := s.modSeq n fun q => { q with mismatch := true }
  let s := { s with sup := { s.sup with miscnt := min (s.sup.miscnt + 1) (2 ^ 32 - 1), misWord := word, misSeq := n } }
  record s s.sup.active .sys 0x12 (leBytes 1 n ++ leBytes 1 word ++ leBytes 2 0 ++ leBytes 4 s.sup.miscnt ++
    leBytes 4 wa ++ leBytes 4 ws)

/-- The index of the first word in which two commands differ. -/
def firstDiff : List Nat → List Nat → Nat → Option Nat
  | [], [], _ => none
  | x :: xs, y :: ys, k => if x = y then firstDiff xs ys (k + 1) else some k
  | _, _, k => some k

/-- Both copies of a command are present (R25, R26): a difference counts as a mismatch. -/
def compareCopies (s : State) (n : Nat) (l : LaneId) (c d : LinkCmd) : State :=
  let a := if l = s.sup.active then c.words else d.words
  let b := if l = s.sup.active then d.words else c.words
  match firstDiff a b 0 with
  | none => s
  | some k => if comparing s then mismatch s n k (a.getD k 0) (b.getD k 0) else s

/-- The block and offset of a register write that is a sequencer command. -/
def cmdBlock (a : Nat) : Block × Nat := (blockOf a, a - (blockOf a).base)

/-- The verdict of the sequencers' rules on a register write. -/
def seqJudge (s : State) (l : LaneId) (b : Block) (off v : Nat) : Nat :=
  match b with
  | .ddv => ddvJudge s l off v
  | .pvc => pvcJudge s l off v
  | _ => lswJudge s l off v

/-- The owner's command takes effect (R28, R32): a start of channel `[5:0]`, or a register write. -/
def seqExec (s : State) (l : LaneId) (c : LinkCmd) : State :=
  let w0 := c.words.getD 0 0
  let v := c.words.getD 1 0
  let dec := c.words.getD 2 0
  let b := (cmdBlock w0).1
  let off := (cmdBlock w0).2
  if w0 = 1 then (if dec = 1 then bankArrive s (min (nfld v 5 0) 47) (nfld v 9 6) c.extra else s)
  else if seqJudge s l b off v ≠ 0 then s
  else match b with
    | .ddv =>
      if off = 8 ∧ nfld v 31 28 = 1 then
        (if dec = 1 then bankArrive s (nfld v 5 0) (nfld v 9 6) c.extra else s)
      else ddvExec s l off v
    | .pvc => pvcExec s l off v
    | _ => lswExec s l off v

/-- The oldest command of a lane's link reaches its sequencer (R25, R26, R28, R32): compared, executed when it is the
owner's, was not rejected and the module takes commands, else discarded. An epoch below the held one is discarded without
comparison. A copy whose partner has waited its 20 µs has been counted missing; it does not wait in its turn. -/
def deliver (s : State) (l : LaneId) (n : Nat) : State :=
  let q := s.seq n
  match q.link l with
  | [] => s
  | c :: rest =>
    let s := s.modSeq n fun q => q.setLink l rest
    if c.epoch < q.epoch then s
    else
      let s := if !comparing s then s
        else match (q.waits l.other).find? fun d => d.num == c.num with
          | some d =>
            let s := s.modSeq n fun q => q.setWaits l.other ((q.waits l.other).filter fun d => d.num != c.num)
            compareCopies s n l c d
          | none => if c.num ≤ q.past l.other then s
            else s.modSeq n fun q => q.setWaits l (q.waits l ++ [{ c with due := some (s.now + us 20) }])
      if q.owner = l ∧ c.rej = 0 ∧ !outFrozen s then seqExec s l c else s

/-- Every command of a lane's link reaches the sequencer. -/
def deliverAll (s : State) (l : LaneId) (n : Nat) : State :=
  (List.range ((s.seq n).link l).length).foldl (fun s _ => deliver s l n) s

/-- The copy that the other lane made of a lane's next command, on its way or waiting. -/
def partner (s : State) (l : LaneId) (n : Nat) : Option LinkCmd :=
  let q := s.seq n
  (q.waits l.other ++ q.link l.other).find? fun c => c.num == q.num l + 1

/-- A copy of the other lane that awaits the verdict on the identical write takes it (R217): its lane records the
rejection. -/
def settlePartner (s : State) (l : LaneId) (n : Nat) (b : Block) (off v rej : Nat) : State :=
  match partner s l n with
  | some c =>
    if !c.judged ∧ c.words.take 2 = cmdWrite b off v then
      let fix (x : LinkCmd) : LinkCmd := if x.num = c.num then { x with rej := rej, judged := true } else x
      let s := s.modSeq n fun q =>
        (q.setLink l.other ((q.link l.other).map fix)).setWaits l.other ((q.waits l.other).map fix)
      if rej = 0 then s else reject s l.other b off rej
    else s
  | none => s

/-- A lane sends a command to a sequencer with its next number (R26) and its epoch. A lane that is failed or struck sends
none (R37). -/
def sendSeq (s : State) (l : LaneId) (n : Nat) (words extra : List Nat) (rej : Nat) (judged : Bool) : State :=
  if !(s.lane l).live then s
  else
    let e := (s.lane l).epoch
    s.modSeq n fun q => (q.bump l).setLink l (q.link l ++ [{
      num := q.num l + 1, epoch := e, words := words, extra := extra, rej := rej, judged := judged }])

/-- The level that a lane's front-end holds for a sequencer follows a write that is not rejected (R33). -/
def levelOf (s : State) (l : LaneId) (b : Block) (off v : Nat) : State :=
  let put (n x : Nat) : State := s.modLane l fun y => { y with levels := tset y.levels n x }
  match b with
  | .ddv => if 0x100 ≤ off ∧ off < 0x1C0 ∧ off % 0x20 = 0 then put ((off - 0x100) / 0x20) (nfld v 1 0) else s
  | .pvc => if 0x100 ≤ off ∧ off % 0x20 = 4 then put (6 + (off - 0x100) / 0x20) (v % 65536) else s
  | _ =>
    if off ≠ 8 then s
    else match nfld v 31 28 with
      | 1 => put (30 + nfld v 4 0) 1
      | 2 => put (30 + nfld v 4 0) 0
      | 3 => if lsBit s (nfld v 4 0) 4 || lsBit s (nfld v 4 0) 5 then put (30 + nfld v 4 0) 0 else s
      | _ => s

/-- A lane writes a register whose write is a command to a sequencer (R217, R228). The owner's write is judged by the
sequencers' rules on the state its earlier commands leave; the other lane's takes the verdict on the owner's identical
write, when that comes later as soon as it comes. Every write of a live lane is sent as a copy, rejected or not. -/
def seqWrite (s : State) (l : LaneId) (b : Block) (off v : Nat) : State :=
  let n := match b with
    | .ddv => ddvCarrier off v
    | .pvc => pvcCarrier off v
    | _ => lswCarrier off v
  let s := deliverAll s l n
  let isStart := decide (b = .ddv ∧ off = 8 ∧ nfld v 31 28 = 1)
  let own := decide ((s.seq n).owner = l)
  let p := partner s l n
  let same := match p with
    | some c => c.judged && c.words.take 2 == cmdWrite b off v
    | none => false
  let wait := !own && comparing s && p.isNone && !isStart
  let rej := if !own && comparing s && same then (match p with | some c => c.rej | none => 0)
    else if wait then 0 else seqJudge s l b off v
  let s := if own then settlePartner s l n b off v rej else s
  let s := if rej = 0 then levelOf s l b off v else reject s l b off rej
  if isStart ∧ rej = 0 then
    let c := nfld v 5 0
    let r := frontDecide s l c (nbit v 10)
    let extra := frontEnd s l c (nfld v 27 12) none ++ frontDefer s l c
    sendSeq r.1 l n (cmdWrite b off v ++ [if r.2 then 1 else 2]) extra rej true
  else sendSeq s l n (cmdWrite b off v) [] rej (!wait)

/-- A VSTART of the event table reaches a lane's front-end (R195, R204): ARG carries channel, profile, SEL and END; `pos`
is the entry's snapshot position. -/
def vstart (s : State) (l : LaneId) (arg pos : Nat) : State :=
  let c := nfld arg 5 0
  if 48 ≤ c then s
  else
    let r := frontDecide s l c (nbit arg 10)
    sendSeq r.1 l (c / 8) [1, arg % 2 ^ 32, if r.2 then 1 else 2]
      (frontEnd s l c (nfld arg 31 16) (some pos) ++ frontDefer s l c) 0 true

/-- SEQUENCER_COMMAND (R28): the oldest command of a lane reaches sequencer `n`. -/
def execSequencerCommand (l : LaneId) (n : Fin 62) (s : State) : Out := act s (deliver s l n)

/-- Whether a command is a profile start. -/
def isStartCmd (c : LinkCmd) : Bool := c.words.getD 2 0 == 1

/-- BANK_REQUEST (R198): a lane's start reaches its bank sequencer. -/
def execBankRequest (l : LaneId) (b : Fin 6) (s : State) : Out :=
  act s (match (s.seq b).link l with
    | c :: _ => if isStartCmd c then deliver s l b else s
    | [] => s)

/-- MISSING_COPY_TIMEOUT (R26): a copy whose partner is 20 µs late counts as a mismatch with WORD 0xFF, unless the lane
whose copy is missing has sent no owner tick for more than 20 µs or has declared itself failed. `l` is the lane whose copy
arrived. -/
def execMissingCopyTimeout (l : LaneId) (n : Fin 62) (s : State) : Out :=
  let q := s.seq n
  act s (match q.waits l with
    | [] => s
    | c :: rest =>
      if !due c.due s.now then s
      else
        let s := s.modSeq n fun q => (q.setWaits l rest).setPast l c.num
        let t := match l.other with
          | .a => q.lastTickA
          | .b => q.lastTickB
        let quiet := match t with
          | some t => decide (t + us 20 < s.now)
          | none => true
        if quiet || !(s.lane l.other).live || s.sup.laneMode != .dual then s
        else
          let w := c.words.getD 0 0
          if l = s.sup.active then mismatch s n 0xFF w 0 else mismatch s n 0xFF 0 w)

/-! ### The commands of the blocks -/

/-- DDV_START (R195). -/
def execDdvStart (l : LaneId) (c : BitVec 6) (p : BitVec 4) (sel : Bool) (e : BitVec 16) (s : State) : Out :=
  act s (seqWrite s l .ddv 8 (2 ^ 28 + e.toNat * 2 ^ 12 + b2n sel * 2 ^ 10 + p.toNat * 2 ^ 6 + c.toNat))

/-- DDV_STOP (R202). -/
def execDdvStop (l : LaneId) (c : BitVec 6) (s : State) : Out := act s (seqWrite s l .ddv 8 (2 * 2 ^ 28 + c.toNat))

/-- DDV_CLR (R208). -/
def execDdvClr (l : LaneId) (c : BitVec 6) (s : State) : Out := act s (seqWrite s l .ddv 8 (3 * 2 ^ 28 + c.toNat))

/-- DDV_ENABLE (R208). -/
def execDdvEnable (l : LaneId) (c : BitVec 6) (s : State) : Out := act s (seqWrite s l .ddv 8 (4 * 2 ^ 28 + c.toNat))

/-- DDV_DISABLE (R208). -/
def execDdvDisable (l : LaneId) (c : BitVec 6) (s : State) : Out := act s (seqWrite s l .ddv 8 (5 * 2 ^ 28 + c.toNat))

/-- PROFILE_WRITE (R193): word `w` of profile `p` of bank `b`. -/
def execProfileWrite (l : LaneId) (b : Fin 6) (p : Fin 16) (w : Fin 8) (v : Word) (s : State) : Out :=
  act s (seqWrite s l .ddv (profReg b p w - Block.ddv.base) v.toNat)

/-- DDM_FRAC (R203). -/
def execDdmFrac (l : LaneId) (m : Fin 4) (v : Word) (s : State) : Out :=
  act s (regPlain s l .ddv (ddmReg m 8 - Block.ddv.base) v.toNat)

/-- BHSFLT_CLEAR (R209). -/
def execBhsfltClear (l : LaneId) (b : Fin 6) (s : State) : Out := act s (seqWrite s l .ddv 4 (2 ^ (16 + b.val)))

/-- PV_ENABLE (R224). -/
def execPvEnable (l : LaneId) (n : BitVec 5) (s : State) : Out := act s (seqWrite s l .pvc 8 (2 ^ 28 + n.toNat))

/-- PV_DISABLE (R227). -/
def execPvDisable (l : LaneId) (n : BitVec 5) (s : State) : Out := act s (seqWrite s l .pvc 8 (2 * 2 ^ 28 + n.toNat))

/-- PV_CLR (R227). -/
def execPvClr (l : LaneId) (n : BitVec 5) (s : State) : Out := act s (seqWrite s l .pvc 8 (3 * 2 ^ 28 + n.toNat))

/-- PV_DUTY_WRITE (R227). -/
def execPvDutyWrite (l : LaneId) (n : Fin 24) (v : Word) (s : State) : Out :=
  act s (seqWrite s l .pvc (pvReg n 4 - Block.pvc.base) v.toNat)

/-- LS_ON (R239). -/
def execLsOn (l : LaneId) (n : Fin 32) (s : State) : Out := act s (seqWrite s l .lsw 8 (2 ^ 28 + n.val))

/-- LS_OFF (R239). -/
def execLsOff (l : LaneId) (n : Fin 32) (s : State) : Out := act s (seqWrite s l .lsw 8 (2 * 2 ^ 28 + n.val))

/-- LS_CLR (R239). -/
def execLsClr (l : LaneId) (n : Fin 32) (s : State) : Out := act s (seqWrite s l .lsw 8 (3 * 2 ^ 28 + n.val))

/-- DIRECTED_CONVERSION (R232). -/
def execDirectedConversion (l : LaneId) (g : Fin 4) (v : Word) (s : State) : Out :=
  act s (seqWrite s l .lsw (sgReg g 0 - Block.lsw.base) v.toNat)

/-- Whether a register write is a command to a sequencer (R217, R228); a write to a status register is when it carries a 1 in
a W1C bit. -/
def isSeqCmd (b : Block) (off v : Nat) : Bool :=
  match b with
  | .ddv => decide (off = 8 ∨ (off = 4 ∧ nfld v 21 16 ≠ 0) ∨ off = 0x10 ∨ off = 0x1C ∨
      (0x100 ≤ off ∧ off < 0x1C0 ∧ off % 0x20 = 0) ∨
      (0x400 ≤ off ∧ off < 0xA00 ∧ (off % 0x20 = 0 ∨ (off % 0x20 = 4 ∧ nfld v 14 8 ≠ 0))) ∨ (0x2000 ≤ off ∧ off < 0x2C00))
  | .pvc => decide (off = 8 ∨ off = 0x10 ∨
      (0x100 ≤ off ∧ off < 0x400 ∧ (off % 0x20 < 0x10 ∨ (off % 0x20 = 0x14 ∧ nfld v 11 8 ≠ 0))))
  | .lsw => decide (off = 8 ∨ off = 0x10 ∨
      (0x40 ≤ off ∧ off < 0x80 ∧ (off % 0x10 = 0 ∨ (off % 0x10 = 4 ∧ nfld v 0 0 ≠ 0))) ∨
      (0x80 ≤ off ∧ off < 0xC0 ∧ (off % 0x10 = 0 ∨ (off % 0x10 = 8 ∧ nfld v 0 0 ≠ 0))) ∨
      (0x200 ≤ off ∧ off < 0x600 ∧ (off % 0x20 = 0 ∨ (off % 0x20 = 4 ∧ nfld v 10 7 ≠ 0))))
  | _ => false

/-! ### Owner ticks and hold timers -/

/-- The hold time of a sequencer in ticks; during a warm start it is 50 ms (R30, R533). -/
def holdTicks (s : State) (n : Nat) : Nat := if s.sup.phase == .warm then ms 50 else us (10 * (s.seq n).hold)

/-- OWNER_TICK (R30, R35): a lane's tick reaches a sequencer; the owner's, of an epoch not below the held one, restarts the
hold timer. -/
def execOwnerTick (l : LaneId) (n : Fin 62) (s : State) : Out :=
  let e := (s.lane l).epoch
  act s (if !(s.lane l).live then s
    else
      let s := s.modSeq n fun q => match l with
        | .a => { q with lastTickA := some s.now }
        | .b => { q with lastTickB := some s.now }
      if (s.seq n).owner ≠ l ∨ e < (s.seq n).epoch then s
      else s.modSeq n fun q => { q with holdUntil := some (s.now + holdTicks s n), holding := false, off := false })

/-- OWNER_TICKS_ABSENT (R30): the owner's tick is due and has not come while the timer runs. -/
def execOwnerTicksAbsent (n : Fin 62) (s : State) : Out :=
  let q := s.seq n
  let last := match q.owner with
    | .a => q.lastTickA
    | .b => q.lastTickB
  let late := match last with
    | some t => decide (t + us 20 ≤ s.now)
    | none => true
  act s (if q.holdUntil.isSome && late then s.modSeq n fun q => { q with holding := true } else s)

/-- The reset class of a sequencer's channel is applied (R31, R214): `warm` at step 0 of a warm start (R533, R534). In SERVICE
every channel is off, whatever its class (R546, R548). -/
def seqClass (s : State) (n : Nat) (warm : Bool) : State :=
  if n < 6 then bankDiscard s n
  else if s.sup.modMode = .service then (if n < 30 then pvLevel s (n - 6) 0 else lsFall s (n - 30) false)
  else if n < 30 then pvClass s (n - 6) warm
  else lsClass s (n - 30) warm

/-- Whether a sequencer's channel is of class SAFE (R240). -/
def seqSafe (s : State) (n : Nat) : Bool :=
  if n < 6 then false
  else if n < 30 then rfld s .a (pvReg (n - 6) 0) 9 8 == 2
  else rfld s .a (lsReg (n - 30) 0) 13 12 == 2

/-- HOLD_TIMER_EXPIRY (R31). When 50 ms pass during a warm start a SAFE channel keeps what it has (R533), also off where the
hold-up sequence switched it off (R535). -/
def execHoldTimerExpiry (n : Fin 62) (s : State) : Out :=
  act s (if !due (s.seq n).holdUntil s.now then s
    else
      let s := s.modSeq n fun q => { q with holdUntil := none, holding := false, expired := true, off := true }
      if s.sup.phase = .warm ∧ seqSafe s n then s else seqClass s n false)

/-- An ownership change with a new epoch reaches a sequencer (R28, R35): the higher epoch wins. The hold timer is the owner
ticks' (R30). -/
def ownSeq (s : State) (n : Nat) (l : LaneId) (e : Nat) : State :=
  if e < (s.seq n).epoch then s
  else s.modSeq n fun q => { q with owner := l, epoch := e }

/-- The ownership refresh of R33: the level that a lane's front-end holds reaches the sequencer; event commands are not
repeated and no latch is cleared (R189, R227, R239). -/
def refreshSeq (s : State) (l : LaneId) (n : Nat) : State :=
  let v := tget (s.lane l).levels n
  if (s.seq n).owner ≠ l ∨ outFrozen s then s
  else if n < 6 then railCmd s n v true
  else if n < 30 then pvLevel s (n - 6) v
  else lsFall s (n - 30) (v == 1)

/-- The level that a sequencer holds (R535). -/
def heldLevel (s : State) (n : Nat) : Nat :=
  if n < 6 then rfld s .a (bankReg n 0) 1 0
  else if n < 30 then rfld s .a (pvReg (n - 6) 4) 15 0
  else b2n (lsBit s (n - 30) 2)

/-- A lane's front-ends hold the level that each sequencer holds (R535). -/
def levelsFromSeqs (s : State) (l : LaneId) : State :=
  (List.range 62).foldl (fun s n => s.modLane l fun y => { y with levels := tset y.levels n (heldLevel s n) }) s

/-- Whether a sequencer's channel has a profile or an inrush sequence running (SYS.SEQn.INFLIGHT, R50). -/
def inflight (s : State) (n : Nat) : Bool :=
  if n < 6 then (List.range 8).any fun i => (s.chan (8 * n + i)).phase != .idle
  else if n < 30 then false
  else
    lsInrush s (n - 30) || (s.ls (n - 30)).winLeft.isSome

/-! ### Power states and modes -/

/-- Everything off (R548, R550): each PV duty 0, each switch off; `keep`: switches with HOLDUP_KEEP stay (R539). -/
def switchesOff (s : State) (keep : Bool) : State :=
  (List.range 32).foldl (fun s n => if keep && rbit s .a (lsReg n 0) 15 then s else lsLevel s n false) s

/-- Every PV duty takes a value given by its number. -/
def dutiesTo (s : State) (f : Nat → Nat) : State := (List.range 24).foldl (fun s n => pvLevel s n (f n)) s

/-- On entry to BENCH the stages are isolated, on leaving it every level is off and every cylinder idle (R549). -/
def benchIdle (s : State) : State := (List.range 6).foldl bankIdle s

end Sys2Proof.Machine
end

