-- ==== Sys2Proof/Machine/LoopEngine.lean ====
section
/-! DEFINITION. The loop engine: samples, commands, injection, capture (spec/05 R157–R185). -/

namespace Sys2Proof.Machine

/-- CSTATc. -/
def lcReg (c : Nat) : Nat := Block.lpe.base + 0x1000 + 4 * c
/-- A word of a context's live half. -/
def lcLive (c k : Nat) : Nat := Block.lpe.base + 0x40000 + 0x100 * c + 4 * k
/-- A word of a context's shadow half. -/
def lcShadow (c k : Nat) : Nat := Block.lpe.base + 0x60000 + 0x100 * c + 4 * k
/-- A register of injector `n`. -/
def injReg (n off : Nat) : Nat := Block.lpe.base + 0x2000 + 0x100 * n + off
/-- A register of capture channel `n`. -/
def capReg (n off : Nat) : Nat := Block.lpe.base + 0x3000 + 0x40 * n + off

/-- The live half of a context. -/
def lcWords (s : State) (l : LaneId) (c : Nat) : LWords := (List.range 64).map fun k => rget s l (lcLive c k)
/-- The shadow half of a context. -/
def lcImage (s : State) (l : LaneId) (c : Nat) : LWords := (List.range 64).map fun k => rget s l (lcShadow c k)
/-- Store words of a half, leaving those that do not change. -/
def lcStore (s : State) (l : LaneId) (a : Nat → Nat) (w : LWords) : State :=
  (List.range 64).foldl (fun s k => if rget s l (a k) = lwd w k then s else rset s l (a k) (lwd w k)) s
/-- CSTATc.STATE: 0 OFF, 1 RAMP, 2 RUN, 3 INJECT, 4 HOLD. -/
def lcState (s : State) (l : LaneId) (c : Nat) : Nat := rfld s l (lcReg c) 2 0
/-- Put CSTATc.STATE. -/
def lcPut (s : State) (l : LaneId) (c st : Nat) : State := rsetf s l (lcReg c) 2 0 st
/-- Set a flag of CSTATc. -/
def lcFlag (s : State) (l : LaneId) (c i : Nat) : State := rsetb s l (lcReg c) i true
/-- SEEDP of a context (R158). -/
def lcSeed (s : State) (l : LaneId) (c : Nat) : State := rsetb s l (lcLive c 43) 10 true

/-- Change the loop engine of a lane. -/
def State.modLpe (s : State) (l : LaneId) (f : Lpe → Lpe) : State := s.modLane l fun x => { x with lpe := f x.lpe }

/-- A posting of the loop engine for a context, when its NEV is 1 (R184). -/
def lpePost (s : State) (l : LaneId) (c code data : Nat) : State :=
  let w0 := rget s l (lcLive c 0)
  if nbit w0 15 then postCore s l (nfld w0 14 12) ⟨5, code, c, data % 2 ^ 32, false⟩ else s

/-- The injector that injects into a context. -/
def injOn (s : State) (l : LaneId) (c : Nat) : Option Nat :=
  (List.range 4).find? fun n => let j := tget (s.lane l).lpe.injs n; j.busy && j.ctx == c

/-- The injection on a context is aborted (R179). -/
def injAbort (s : State) (l : LaneId) (c : Nat) : State :=
  match injOn s l c with
  | none => s
  | some n =>
    let s := s.modLpe l fun e => { e with injs := tmod e.injs n fun j => { j with busy := false } }
    lpePost (rsetb s l (injReg n 8) 2 true) l c 4 (n + 2 ^ 8)

/-! ### Requests -/

/-- MEAS − D of PVn at an HTB instant and its validity (R222, R226). -/
def pvSource (s : State) (n : Nat) : Int × Bool :=
  ((rfld s .a (pvReg n 0x10) 15 0 : Int) - pvDither s n s.now, decide (rfld s .a (pvReg n 0x14) 4 2 = 0))

/-- The sources of a request as they stand now (R160). -/
def sampleReq (s : State) (l : LaneId) (c : Nat) : SampleReq :=
  { ctx := c, at_ := s.now, hsiUp := !s.faulty .hsi,
    ins := (List.range 36).map fun i => ((inVal s i s.now).1, !inFaulty s i),
    fns := (List.range 48).map (fnTarget s), pvs := (List.range 24).map (pvSource s),
    hys := (List.range 16).map fun n => (hySpeedQ8 s l n, inSync s l n) }

/-- An overrun of a context: OVRs, and OVERRUN when its OVR sets (R165, R184). -/
def lcOverrun (s : State) (l : LaneId) (c : Nat) : State :=
  let was := rbit s l (lcReg c) 13
  let s := lcFlag s l c 13
  if was then s else lpePost s l c 3 0

/-- A request is dropped at a full queue (R165). -/
def lcQfull (s : State) (l : LaneId) (c : Nat) : State :=
  lcOverrun (rcount (rsetb s l (Block.lpe.base + 4) 17 true) l (Block.lpe.base + 0x14) 31 0 1) l c

/-- A request joins the queue: behind every earlier one, and in ascending context number among those of its own cycle
(R165). -/
def reqJoin (r : SampleReq) : List SampleReq → List SampleReq
  | [] => [r]
  | x :: q => if x.at_ = r.at_ ∧ r.ctx < x.ctx then r :: x :: q else x :: reqJoin r q

/-- A sample request reaches the queue (R164, R165). Of the requests of one cycle that find too little room, those of the
highest context numbers are dropped. -/
def enqueue (s : State) (l : LaneId) (c : Nat) : State :=
  let q := (s.lane l).lpe.queue
  if lcState s l c = 0 then s
  else if q.any fun r => r.ctx == c then
    lcOverrun (rcount (rsetb s l (Block.lpe.base + 4) 16 true) l (Block.lpe.base + 0x10) 31 0 1) l c
  else
    let q := reqJoin (sampleReq s l c) q
    match q.drop 64 with
    | [] => s.modLpe l fun e => { e with queue := q }
    | r :: _ => lcQfull (s.modLpe l fun e => { e with queue := q.take 64 }) l r.ctx

/-- PERIODIC_REQUEST (R164): an HTB instant m × PERIOD × 250 + PHASE × 250 of a context with TRIG = 0b01. -/
def execPeriodicRequest (l : LaneId) (c : Fin 512) (s : State) : Out :=
  let w := rget s l (lcLive c 0)
  let per := nfld w 31 16
  let ph := rfld s l (lcLive c 1) 15 0
  actL s (if nfld w 9 8 = 1 ∧ per ≠ 0 ∧ us ph ≤ s.now ∧ (s.now - us ph) % us per = 0 then enqueue s l c else s)

/-- A conversion of PVn reaches the loop engine of a lane (R164, R221): the contexts that TRIG and ODST name. -/
def pvRequests (s : State) (l : LaneId) (n : Nat) : State :=
  (List.range 512).foldl (fun s c =>
    if rfld s l (lcLive c 0) 9 8 = 2 ∧ selKind (rget s l (lcLive c 5)) = 3 ∧ selIndex (rget s l (lcLive c 5)) = n then
      enqueue s l c else s) s

/-- PV_CONVERSION (R221, R549): the `j`-th conversion of an enabled channel since its ENABLE, at the end of every CONVDIV-th
period: once that period is over, MEAS takes the mean of its samples in steps of 0.125 mA. -/
def execPvConversion (n : Fin 24) (j : Nat) (s : State) : Out :=
  actL s (if !pvEnabled s n ∨ j ≤ (tget s.out.pv n).conv ∨ pvConvs s n < j then s
    else
      let t := pvOnTime s n
      let m := if stageBench s then t.1 * rfld s .a (Block.sys.base + 0x44) 15 0 / max 1 t.2
        else pvMean s n (j * rfld s .a (pvReg n 0) 15 12)
      let above := decide (160 * rfld s .a (pvReg n 0) 31 24 < m % 65536)
      let s := { s with out := { s.out with pv := tmod s.out.pv n fun x => { x with
        conv := j, high := if above then some (x.high.getD s.now) else none } } }
      (rset s .a (pvReg n 0x10) (m % 65536)).both fun l s => pvRequests s l n)

/-! ### Destinations -/

/-- The output of a context reaches its destination (R159): lane SRAM, a slot's present value from the owning lane, the
duty of a PV channel, the fraction of a DDM (R203). -/
def lcWrite (s : State) (l : LaneId) (c : Nat) (u : Int) : State :=
  let d := rget s l (lcLive c 5)
  let k := selIndex d
  match selKind d with
  | 1 => s.modLane l fun x => { x with sram := mwriteLE x.sram (4 * k) 4 (pattern 32 u) }
  | 2 => if s.owns l ∧ !s.faulty .hsi then sputf s .hsi (fnOff (k - 64) 0x14) 15 0 (pattern 16 u) else s
  | 3 => seqWrite s l .pvc (pvReg k 4 - Block.pvc.base) (pattern 16 u)
  | 6 => rsetf s l (ddmReg k 8) 16 0 (max u 0).toNat
  | _ => s

/-! ### The swap -/

/-- The queued image of a context becomes live, or is refused (R161–R163). `off`: an OFF context's image is live at once. -/
def lcSwap (s : State) (l : LaneId) (c : Nat) : State :=
  let w := lcWords s l c
  let im := lcImage s l c
  let s := rsetb s l (lcReg c) 5 false
  match firstBad c im with
  | some k => lpePost (lcFlag s l c 14) l c 6 k
  | none =>
    let n := if lfl im 0 10 10 = 1 then 64 else 40
    let retype := decide (lfl im 0 3 0 ≠ lfl w 0 3 0 ∧ n = 40)
    let new := im.take n ++ w.drop n
    let new := if retype then new.take 42 ++ List.replicate 22 0 else new
    let new := (List.range 64).map fun k => lwd new k &&& wordBits (lfl new 0 3 0) k
    let s := lcStore s l (lcLive c) new
    let s := lcStore s l (lcShadow c) (w.take n ++ im.drop n)
    let st := lcState s l c
    let s := if retype ∧ (st = 1 ∨ st = 2 ∨ st = 3) then lcSeed (lcPut (injAbort s l c) l c 1) l c else s
    boundReport s l c

/-! ### Injection -/

/-- The value of the running injection at its sample (R180, R181), and whether its extraction clamped (R167). -/
def injValue (s : State) (l : LaneId) (n : Nat) : Clamped :=
  let j := tget (s.lane l).lpe.injs n
  let cfg := rget s l (injReg n 0)
  let amp : Int := rfld s l (injReg n 0xC) 15 0
  let sn (phi : Nat) : Int := sinTab (phi / 2 ^ 20)
  match nfld cfg 14 12 with
  | 0 => (if j.r % 2 = 1 then amp else -amp, false)
  | 1 | 2 => extC (amp * sn j.phi) 0
  | 3 => (if j.k < rfld s l (injReg n 0x14) 23 0 then 0 else amp, false)
  | _ => extC ((List.range (nfld cfg 19 16)).foldl (fun a c =>
      a + (rfld s l (injReg n (0x48 + 0x10 * c)) 15 0 : Int) * sn (j.phis.getD c 0)) 0) 0

/-- The generator after a sample (R180, R181). A linear chirp's frequency is signed: its floored steps may pass below 0. -/
def injNext (s : State) (l : LaneId) (n : Nat) (j : Inj) : Inj :=
  let cfg := rget s l (injReg n 0)
  let f0 := rget s l (injReg n 0x18)
  let f1 := rget s l (injReg n 0x1C)
  let len := max 1 (rfld s l (injReg n 0x10) 23 0)
  let j := { j with k := j.k + 1 }
  match nfld cfg 14 12 with
  | 0 =>
    if j.hc + 1 = nfld cfg 27 20 + 1 then { j with hc := 0, r := prbsNext (nfld cfg 19 16) j.r } else { j with hc := j.hc + 1 }
  | 1 => { j with phi := pattern 32 (j.phi + j.f), f := min (j.f + ((f1 : Int) - f0) / len) (2 ^ 31) }
  | 2 => { j with phi := pattern 32 (j.phi + j.f), f := min (j.f + j.f * f1 / 2 ^ 32) (2 ^ 31) }
  | 4 => { j with phis := (List.range j.phis.length).map fun c =>
      (j.phis.getD c 0 + rget s l (injReg n (0x40 + 0x10 * c))) % 2 ^ 32 }
  | _ => j

/-- Whether the settings of an injector are in range (R180, R181, R185). DESIGN CHOICE: a write of CFG takes any POINT, WAVE and n or
COMP; START with a value that has no meaning is RANGE. -/
def injOk (s : State) (l : LaneId) (n : Nat) : Bool :=
  let cfg := rget s l (injReg n 0)
  let k := nfld cfg 19 16
  let seed := rfld s l (injReg n 0x14) 23 0
  let top := 2 ^ 31
  decide (nfld cfg 10 9 ≠ 3 ∧ rfld s l (injReg n 0x10) 23 0 ≠ 0) &&
  match nfld cfg 14 12 with
  | 0 => decide (7 ≤ k ∧ k ≤ 15 ∧ seed % 2 ^ k ≠ 0 ∧ seed < 2 ^ k)
  | 1 => decide (rget s l (injReg n 0x18) ≤ top ∧ rget s l (injReg n 0x1C) ≤ top)
  | 2 => decide (rget s l (injReg n 0x18) ≤ top)
  | 3 => true
  | 4 => decide (1 ≤ k ∧ k ≤ 8) && (List.range k).all fun c => decide (rget s l (injReg n (0x40 + 0x10 * c)) ≤ top)
  | _ => false

/-- INJn.CTRL.START (R178): CTX_BUSY when another injector works on the context, STATE unless it is in RUN, RANGE for
settings outside their range. The context enters INJECT with its next sample. DESIGN CHOICE: START of an injector that already works
on its context is STATE. -/
def injStart (s : State) (l : LaneId) (n : Nat) : State :=
  let cfg := rget s l (injReg n 0)
  let c := nfld cfg 8 0
  let off := injReg n 4 - Block.lpe.base
  match injOn s l c with
  | some m => reject s l .lpe off (if m = n then rSTATE else 0x11)
  | none =>
    if lcState s l c ≠ 2 then reject s l .lpe off rSTATE
    else if !injOk s l n then reject s l .lpe off rRANGE
    else
      let j : Inj := { busy := true, ctx := c, r := rfld s l (injReg n 0x14) 14 0, f := rget s l (injReg n 0x18),
                       phis := (List.range (nfld cfg 19 16)).map fun k => rget s l (injReg n (0x44 + 0x10 * k)) }
      s.modLpe l fun e => { e with injs := tset e.injs n j }

/-- INJn.CTRL.STOP (R179). -/
def injStop (s : State) (l : LaneId) (n : Nat) : State :=
  let j := tget (s.lane l).lpe.injs n
  if j.busy then lcPut (injAbort s l j.ctx) l j.ctx 2 else s

/-- INJ_START (R178). -/
def execInjStart (l : LaneId) (n : Fin 4) (s : State) : Out := actL s (injStart s l n)
/-- INJ_STOP (R179). -/
def execInjStop (l : LaneId) (n : Fin 4) (s : State) : Out := actL s (injStop s l n)

/-! ### Capture -/

/-- A capture channel of a lane. -/
def State.cap (s : State) (l : LaneId) (n : Nat) : Cap := tget (s.lane l).lpe.caps n
/-- Change a capture channel. -/
def State.modCap (s : State) (l : LaneId) (n : Nat) (f : Cap → Cap) : State :=
  s.modLpe l fun e => { e with caps := tmod e.caps n f }

/-- A channel records one value at the end of a sample (R182, R183); `trig`: this is its trigger sample. -/
def capRecord (c : Cap) (pre v : Nat) (trig : Bool) : Cap :=
  let i := c.idx
  let c := { c with buf := tset c.buf i v, idx := (i + 1) % 65536 }
  if c.state = 1 then
    if trig then
      { c with state := if pre = 65535 then 3 else 2, start := (i + 65536 - pre) % 65536, pos := pre + 1, trig := false,
               prevalid := min c.count pre }
    else { c with count := c.count + 1 }
  else { c with pos := c.pos + 1, state := if c.pos + 1 = 65536 then 3 else 2 }

/-- The captures of a context at the end of its sample; `first`: the injector whose sample k = 0 this was; `sig` gives the
signals Y, WSPL, E, U, V, ext(i, 0). -/
def capSample (s : State) (l : LaneId) (c : Nat) (first : Option Nat) (sig : List Int) : State :=
  (List.range 4).foldl (fun s n =>
    let x := s.cap l n
    let cfg := rget s l (capReg n 0)
    if nfld cfg 8 0 = c ∧ (x.state = 1 ∨ x.state = 2) then
      let trig := if nfld cfg 12 12 = 1 then x.trig else first == some (nfld cfg 14 13)
      let s := s.modCap l n fun x => capRecord x (rfld s l (capReg n 4) 15 0) (pattern 16 (sig.getD (nfld cfg 11 9) 0)) trig
      if (s.cap l n).state = 3 then lpePost s l c 5 n else s
    else s) s

/-- CAPn.CTRL.ARM (R182, R183). -/
def capArm (s : State) (l : LaneId) (n : Nat) : State :=
  let x := s.cap l n
  if x.state = 1 ∨ x.state = 2 then reject s l .lpe (capReg n 8 - Block.lpe.base) rBUSY
  else s.modCap l n fun _ => { state := 1, fill := 0x8000 }

/-- CAPn.CTRL.ABORT (R183): a recording channel stops and keeps its buffer. DESIGN CHOICE: its STATE is IDLE then. -/
def capAbort (s : State) (l : LaneId) (n : Nat) : State :=
  let x := s.cap l n
  if x.state = 1 ∨ x.state = 2 then
    let s := s.modCap l n fun x => { x with state := 0, trig := false }
    lpePost (rsetb s l (capReg n 0xC) 4 true) l (rfld s l (capReg n 0) 8 0) 5 (n + 2 ^ 8)
  else s

/-- CAPn.CTRL.TRIGNOW (R182): the next sample is the trigger of an armed channel with TRIG = 1. -/
def capTrignow (s : State) (l : LaneId) (n : Nat) : State :=
  if (s.cap l n).state = 1 ∧ rbit s l (capReg n 0) 12 then s.modCap l n fun x => { x with trig := true } else s

/-- CAP_ARM (R182). -/
def execCapArm (l : LaneId) (n : Fin 4) (s : State) : Out := actL s (capArm s l n)
/-- CAP_TRIGNOW (R182). -/
def execCapTrignow (l : LaneId) (n : Fin 4) (s : State) : Out := actL s (capTrignow s l n)
/-- CAP_ABORT (R183). -/
def execCapAbort (l : LaneId) (n : Fin 4) (s : State) : Out := actL s (capAbort s l n)

/-! ### One sample -/

/-- A source of a sample (R159, R160): its value and whether it is valid. -/
def lcRead (s : State) (l : LaneId) (r : SampleReq) (w : LWords) (v : Nat) : Int × Bool :=
  let k := selIndex v
  match selKind v with
  | 1 => (signed 16 (mreadLE (s.lane l).sram (4 * k) 4), true)
  | 2 => if k < 36 then (let x := r.ins.getD k (0, false); (x.1, x.2 && r.hsiUp)) else (r.fns.getD (k - 64) 0, r.hsiUp)
  | 3 => let x := r.pvs.getD k (0, false); (sat16 x.1, x.2)
  | 4 => (signed 16 (rget s l (lcLive k 41)), lcState s l k != 0)
  | 5 =>
    let h := r.hys.getD k (0, false)
    (sat16 ((h.1 * lfl w 4 31 16 / 65536 : Nat) : Int), h.2)
  | _ => (0, true)

/-- Whether the sat16 of a halyard or PV source clamps (R159, R167, R222). -/
def lcClamps (r : SampleReq) (w : LWords) (v : Nat) : Bool :=
  selKind v == 3 && clampsI 16 (r.pvs.getD (selIndex v) (0, false)).1 || selKind v == 5 && clampsI 16 (((r.hys.getD (selIndex v) (0, false)).1 * lfl w 4 31 16 / 65536 : Nat) : Int)

/-- The measurement sources of a context: MSRC and those of its type, each with its number in FAULT (R166, R184). -/
def lcMeas (w : LWords) : List (Nat × Nat) :=
  (0, lwd w 2) :: match lfl w 0 3 0 with
    | 4 => [(1, lwd w 8), (2, lwd w 9), (3, lwd w 10)]
    | 6 => [(4, lwd w 10)]
    | _ => []

/-- The working set-point after the ramp step of a sample (R166, R175): the value, and whether a ramp ended. -/
def lcRamp (st rate : Nat) (sprl : Bool) (wsp tgt : Int) : Int × Bool :=
  let dd := tgt - wsp
  if st = 1 then
    if rate = 0 ∨ dd.natAbs ≤ rate then (tgt, true) else (wsp + sgn dd * rate, false)
  else if st = 2 ∨ st = 3 then
    if sprl ∧ 0 < rate then (wsp + clampI (-(rate : Int)) rate dd, false) else (tgt, false)
  else (wsp, false)

/-- The output and the words of a sample of a context whose live half was stored to since its last one: free (R120 case 5),
for this one sample. -/
def lcOpen (s : State) (l : LaneId) (c : Nat) (u : Int) (w : LWords) : State × Int × LWords :=
  if tget (s.lane l).lpe.dirty c then
    (({ s with freeCtr := s.freeCtr + 24 }).modLpe l fun e => { e with dirty := tdel e.dirty c },
      signed 16 (Config.freeWord s.freeCtr).toNat,
      w.take 40 ++ (List.range 24).map fun k =>
        (Config.freeWord (s.freeCtr + k)).toNat &&& wordBits (lfl w 0 3 0) (40 + k))
  else (s, u, w)

/-- The rest of a sample whose measurements are valid (R166). -/
def lcSample (s : State) (l : LaneId) (r : SampleReq) (w : LWords) : State :=
  let c := r.ctx
  let y := (lcRead s l r w (lwd w 2)).1
  let sp := lwd w 3
  let wsp0 := lqL w 40
  let tr := if selKind sp = 0 then (lqL w 4, true) else lcRead s l r w sp
  let s := if tr.2 then s else lcFlag s l c 12
  let seed := decide (lfl w 43 10 10 = 1)
  let w := if seed then setLB (setH (setL (setH w 40 y) 40 y) 41 0) 43 10 false else w
  let s := if seed then (match tget (s.lane l).lpe.softTk c with
    | 0 => s
    | k => lpePost (s.modLpe l fun e => { e with softTk := tset e.softTk c 0 }) l c 7 (k - 1)) else s
  let st := lcState s l c
  let rp := lcRamp st (lfl w 1 31 16) (lfl w 0 7 7 == 1) (lqL w 40) (if tr.2 then tr.1 else wsp0)
  let s := if rp.2 then lpePost (lcPut (lcFlag s l c 8) l c 2) l c 1 (pattern 16 rp.1) else s
  let w := setL w 40 rp.1
  let inj := if st = 3 then injOn s l c else none
  let v := match inj with
    | some n => injValue s l n
    | none => (0, false)
  let injClamp := v.2
  let v := v.1
  let point := match inj with
    | some n => rfld s l (injReg n 0) 10 9
    | none => 3
  let sp1 := if point = 0 then rp.1 + v else rp.1
  let wspl := sat16 sp1
  let e0 := sat16 (wspl - y)
  let e1 := if point = 1 then e0 + v else e0
  let e := sat16 e1
  let clamp0 := clampsI 16 sp1 || clampsI 16 (wspl - y) || clampsI 16 e1
  let held := decide (st = 4)
  let xs := (lcMeas w).tail
  let srcClamp := lcClamps r w (lwd w 2) || lcClamps r w sp || (!held && xs.any fun p => lcClamps r w p.2)
  let lr := if held then (w, lqL w 41, false) else law w y e wspl (xs.map fun p => (lcRead s l r w p.2).1)
  let u1 := if point = 2 ∧ !held then lr.2.1 + v else lr.2.1
  let u2 := sat16 u1
  let u := if held then u2 else min (max u2 (lqL w 6)) (lqH w 6)
  let w := if held then lr.1 else setLB (setLB lr.1 43 8 (decide (lqH w 6 < u2))) 43 9 (decide (u2 < lqL w 6))
  let w := setH (setL (setH w 40 y) 41 u) 41 e
  let s := if srcClamp || injClamp || clamp0 || lr.2.2 || clampsI 16 u1 then lcFlag s l c 10 else s
  let s := if u = u2 then s else lcFlag s l c 9
  let (s, u, w) := lcOpen s l c u w
  let s := lcWrite (lcStore s l (lcLive c) w) l c u
  let first := match inj with
    | some n => if (tget (s.lane l).lpe.injs n).k = 0 then some n else none
    | none => none
  let s := capSample s l c first [y, wspl, e, u, v, ext (integ w) 0]
  match inj with
  | none => s
  | some n =>
    let j := injNext s l n (tget (s.lane l).lpe.injs n)
    if j.k < rfld s l (injReg n 0x10) 23 0 then s.modLpe l fun e => { e with injs := tset e.injs n j }
    else
      let s := s.modLpe l fun e => { e with injs := tset e.injs n { j with busy := false } }
      lpePost (lcPut (rsetb s l (injReg n 8) 1 true) l c 2) l c 4 n

/-- One sample of a context (R161, R166): first the swap, then INJECT for a context that an injector waits for (R178). The
request of a context that has gone OFF meanwhile runs no sample (R164). DESIGN CHOICE: in a sample whose measurement is invalid a
capture records Y, WSP, E and U as they stand, V = 0 and the integrator. -/
def lcStep (s : State) (l : LaneId) (r : SampleReq) : State :=
  let c := r.ctx
  if lcState s l c = 0 then s
  else
    let s := if rbit s l (lcReg c) 5 then lcSwap s l c else s
    let s := if lcState s l c = 2 ∧ (injOn s l c).isSome then lcPut s l c 3 else s
    let w := lcWords s l c
    match (lcMeas w).find? fun p => !(lcRead s l r w p.2).2 with
    | none => lcSample s l r w
    | some p =>
      let s := if lcState s l c = 4 then s
        else
          let s := rsetf (lcPut (injAbort s l c) l c 4) l (lcReg c) 4 3 2
          lpePost (lcFlag s l c 11) l c 2 p.1
      let (s, u, w) := lcOpen s l c (lqL w 41) w
      let s := lcWrite (lcStore s l (lcLive c) w) l c u
      capSample s l c none [lqH w 40, lqL w 40, lqH w 41, u, 0, ext (integ w) 0]

/-- A step is counted (R185). -/
def lpeCount (e : Lpe) (now : Nat) : Lpe :=
  let m := now / ms 1
  if e.msIdx = m then { e with loadCur := e.loadCur + 1 }
  else { e with msIdx := m, loadCur := 1, loadLast := if e.msIdx + 1 = m then e.loadCur else 0 }

/-- SAMPLE_STEP (R165, R166): the engine of a lane takes the oldest request. -/
def execSampleStep (l : LaneId) (s : State) : Out :=
  actL s (match (s.lane l).lpe.queue with
    | [] => s
    | r :: q =>
      let s := s.modLpe l fun e => lpeCount { e with queue := q } s.now
      lcStep (rwrap s l (Block.lpe.base + 0x1C) 1) l r)

/-! ### Commands -/

/-- A command of LPE.CMD to a context (R171). -/
def lpeCmd (s : State) (l : LaneId) (v : Nat) : State :=
  let c := nfld v 8 0
  let st := lcState s l c
  let rej (k : Nat) : State := reject s l .lpe 8 k
  match nfld v 31 28 with
  | 1 =>
    if st ≠ 0 then rej rSTATE
    else if (firstBad c (lcWords s l c)).isSome then rej 0x10
    else
      let w := lcWords s l c
      let s := lcStore s l (lcLive c) (w.take 44 ++ List.replicate 20 0)
      boundReport (lcSeed (lcPut s l c 1) l c) l c
  | 2 =>
    if st = 0 then rej rSTATE
    else
      let s := (lcPut (injAbort s l c) l c 0).modLpe l fun e => { e with dirty := tdel e.dirty c }
      let w := lcWords s l c
      let s := if lfl w 0 11 11 = 1 then lcWrite s l c (min (max 0 (lqL w 6)) (lqH w 6)) else s
      boundReport s l c
  | 3 =>
    if st = 0 ∨ st = 4 then rej rSTATE
    else boundReport (rsetf (lcPut (injAbort s l c) l c 4) l (lcReg c) 4 3 (if st = 1 then 1 else 0)) l c
  | 4 =>
    if st ≠ 4 then rej rSTATE
    else
      let s := match rfld s l (lcReg c) 4 3 with
        | 0 => lcPut s l c 2
        | 1 => lcPut s l c 1
        | _ => lcSeed (lcPut s l c 1) l c
      boundReport s l c
  | _ => rej rRANGE

/-- LPE_ENABLE (R171). -/
def execLpeEnable (l : LaneId) (c : Fin 512) (s : State) : Out := actL s (lpeCmd s l (2 ^ 28 + c.val))
/-- LPE_DISABLE (R171). -/
def execLpeDisable (l : LaneId) (c : Fin 512) (s : State) : Out := actL s (lpeCmd s l (2 * 2 ^ 28 + c.val))
/-- LPE_HOLD (R171). -/
def execLpeHold (l : LaneId) (c : Fin 512) (s : State) : Out := actL s (lpeCmd s l (3 * 2 ^ 28 + c.val))
/-- LPE_RESUME (R171). -/
def execLpeResume (l : LaneId) (c : Fin 512) (s : State) : Out := actL s (lpeCmd s l (4 * 2 ^ 28 + c.val))

/-- The image of an LCSWAP is in the shadow half (R106, R161): live at once in an OFF context, else at the next sample
boundary. The answer is what vD receives. -/
def lcSwapIn (s : State) (l : LaneId) (c : Nat) (image : LWords) : State × Nat :=
  let pend := rbit s l (lcReg c) 5
  let s := lcStore s l (lcShadow c) ((List.range 64).map fun k => lwd image k &&& wordBits (lfl image 0 3 0) k)
  if lcState s l c = 0 then (lcSwap s l c, 2)
  else (rsetb s l (lcReg c) 5 true, if pend then 1 else 0)

/-- A store to the live half of a context (R157): at once in an OFF context, else case 5 of R120: the output and the state
words of its next sample are open. Reserved bits ignore it (R5). -/
def lcDirect (s : State) (l : LaneId) (off v : Nat) : State :=
  let c := (off - 0x40000) / 0x100
  let k := off % 0x100 / 4
  let ty := if k = 0 then v % 16 else rfld s l (lcLive c 0) 3 0
  let s := rset s l (Block.lpe.base + off) (v &&& wordBits ty k)
  let s := if k = 0 then (List.range 63).foldl (fun s j =>
      rset s l (lcLive c (j + 1)) (rget s l (lcLive c (j + 1)) &&& wordBits ty (j + 1))) s else s
  if lcState s l c = 0 then s else s.modLpe l fun e => { e with dirty := tset e.dirty c true }

/-! ### Takeover, modes and starts -/

/-- Whether a context drives an output and runs (R176, R548). -/
def lcDrives (s : State) (l : LaneId) (c : Nat) : Bool :=
  let st := lcState s l c
  let k := selKind (rget s l (lcLive c 5))
  (st == 1 || st == 2 || st == 3) && (k == 3 || k == 6)

/-- Contexts soft-start: RAMP with SEEDP and TKSOFT (R176, R177); `kind` 1 takeover, 2 warm start. -/
def lcSoft (s : State) (l : LaneId) (c kind : Nat) : State :=
  let s := lcFlag (lcSeed (lcPut (injAbort s l c) l c 1) l c) l c 15
  s.modLpe l fun e => { e with softTk := tset e.softTk c kind }

/-- The soft start of R176 at the completion of a takeover. -/
def lpeTakeover (s : State) (l : LaneId) : State :=
  (List.range 512).foldl (fun s c => if lcDrives s l c then lcSoft s l c 1 else s) s

/-- A recording capture is aborted, keeping its buffer (R177, R183). -/
def capStop (s : State) (l : LaneId) (n : Nat) : State := if (s.cap l n).state = 1 ∨ (s.cap l n).state = 2 then capAbort s l n else s

/-- Contexts at a warm start (R177): the queue empties, injections and captures are aborted, running contexts soft-start. The
capture channels keep their buffers alone, and LOAD starts again (R10, R185). -/
def lpeWarm (s : State) (l : LaneId) : State :=
  let s := (List.range 512).foldl (fun s c =>
    let st := lcState s l c
    if st = 1 ∨ st = 2 ∨ st = 3 then lcSoft s l c 2 else s) s
  let s := (List.range 4).foldl (fun s n => capStop s l n) s
  s.modLpe l fun e => { e with
    queue := [], injs := [], dirty := [], loadCur := 0, loadLast := 0
    caps := tmap e.caps fun _ c => { fill := c.fill, buf := c.buf } }

/-- Contexts at entry to SERVICE (R548). -/
def lpeService (s : State) (l : LaneId) : State :=
  (List.range 512).foldl (fun s c =>
    if lcDrives s l c then rsetf (lcPut (injAbort s l c) l c 4) l (lcReg c) 4 3 2 else s) s

/-! ### Registers -/

/-- A halfword of a capture buffer (R183). -/
def capAt (c : Cap) (i : Nat) : Nat :=
  match tfind c.buf i with
  | some v => v
  | none => c.fill

/-- The registers of LPE that the state answers (R185). -/
def lpeRead (s : State) (l : LaneId) (off : Nat) : Option (Nat × State) :=
  let e := (s.lane l).lpe
  if off = 4 then some (rget s l (Block.lpe.base + 4) / 65536 * 65536 + e.queue.length, s)
  else if off = 0x18 then
    let m := s.now / ms 1
    some (if e.msIdx = m then e.loadLast else if e.msIdx + 1 = m then e.loadCur else 0, s)
  else if 0x1000 ≤ off ∧ off < 0x1800 then
    let c := (off - 0x1000) / 4
    some (rget s l (lcReg c) + (if lcState s l c = 3 then (injOn s l c).getD 0 * 65536 else 0), s)
  else if 0x2000 ≤ off ∧ off < 0x2400 then
    let n := (off - 0x2000) / 0x100
    match off % 0x100 with
    | 8 => some (rget s l (injReg n 8) + b2n (tget e.injs n).busy, s)
    | 0x20 => some ((tget e.injs n).k, s)
    | _ => none
  else if 0x3000 ≤ off ∧ off < 0x3100 then
    let n := (off - 0x3000) / 0x40
    let c := tget e.caps n
    match off % 0x40 with
    | 0xC => some (rget s l (capReg n 0xC) + c.state + c.start * 65536, s)
    | 0x10 => some (c.pos, s)
    | 0x14 => some (c.prevalid, s)
    | _ => none
  else if 0x80000 ≤ off ∧ off < 0x100000 then
    let c := tget e.caps ((off - 0x80000) / 0x20000)
    let i := (off - 0x80000) % 0x20000 / 2
    some (capAt c i + capAt c (i + 1) * 65536, s)
  else none

/-- The writes of LPE that have an effect of their own (R157, R171, R178, R182). DESIGN CHOICE: of several bits of one write STOP acts
before START, and ABORT before ARM before TRIGNOW. -/
def lpeWrite (s : State) (l : LaneId) (off v : Nat) : Option State :=
  if off = 8 then some (lpeCmd s l v)
  else if 0x40000 ≤ off ∧ off < 0x60000 then some (lcDirect s l off v)
  else if 0x2000 ≤ off ∧ off < 0x2400 then
    let n := (off - 0x2000) / 0x100
    if off % 0x100 = 4 then
      let s := if nbit v 1 then injStop s l n else s
      some (if nbit v 0 then injStart s l n else s)
    else if (tget (s.lane l).lpe.injs n).busy ∧ (Block.lpe.descAt off).isSome then some (reject s l .lpe off rBUSY)
    else none
  else if 0x3000 ≤ off ∧ off < 0x3100 then
    let n := (off - 0x3000) / 0x40
    if off % 0x40 = 8 then
      let s := if nbit v 1 then capAbort s l n else s
      let s := if nbit v 0 then capArm s l n else s
      some (if nbit v 2 then capTrignow s l n else s)
    else if off % 0x40 ≤ 4 ∧ ((s.cap l n).state = 1 ∨ (s.cap l n).state = 2) then some (reject s l .lpe off rBUSY)
    else none
  else none

end Sys2Proof.Machine
end

