-- ==== Sys2Proof/Machine/CamImage.lean ====
section
/-! DEFINITION. The processing stages of a pipeline (R315–R325), as functions of a frame and its parameters. -/

namespace Sys2Proof.Machine

/-- An image plane: rows of pixels. -/
abbrev Plane := List (List Nat)

/-- The mirrored index of a row or column (spec/10 "Processing stages"), brought into the image. -/
def mirror (n : Nat) (i : Int) : Nat :=
  let j := i.natAbs
  min (if n ≤ j then 2 * (n - 1) - j else j) (n - 1)

/-- A pixel of a plane of `w` columns. -/
def pix (img : Plane) (w : Nat) (x y : Int) : Nat := (img.getD (mirror img.length y) []).getD (mirror w x) 0

/-- avg2. -/
def avg2 (a b : Nat) : Nat := (a + b + 1) / 2
/-- avg4. -/
def avg4 (a b c d : Nat) : Nat := (a + b + c + d + 2) / 4

/-- A plane formed pixel by pixel. -/
def mkPlane (w h : Nat) (f : Nat → Nat → Nat) : Plane := (List.range h).map fun y => (List.range w).map fun x => f x y

/-- The CFA channel of a pixel: its place in the 2 × 2 pattern. -/
def cfa (x y : Nat) : Nat := x % 2 + 2 * (y % 2)

/-- A parameter word in force: the register at offset `off` of the block. -/
def CFrame.reg (f : CFrame) (off : Nat) : Nat :=
  match tfind f.par off with
  | some w => w.toNat
  | none => resetAt (Block.cam.base + off)

/-- A parameter of pipeline `n`. -/
def CFrame.vp (f : CFrame) (n off : Nat) : Nat := f.reg (0x1000 + 0x200 * n + off)

/-- Halfword `i` of a table of halfwords at an offset. -/
def CFrame.half (f : CFrame) (off i : Nat) : Nat := let w := f.reg (off + 4 * (i / 2)); nfld w (16 * (i % 2) + 15) (16 * (i % 2))

/-- WIDTH. -/
def CFrame.w (f : CFrame) (n : Nat) : Nat := nfld (f.vp n 0xC) 12 0
/-- HEIGHT. -/
def CFrame.h (f : CFrame) (n : Nat) : Nat := nfld (f.vp n 0xC) 27 16
/-- OBROWS. -/
def CFrame.ob (f : CFrame) (n : Nat) : Nat := nfld (f.vp n 0x10) 11 8
/-- The active rows. -/
def CFrame.ah (f : CFrame) (n : Nat) : Nat := f.h n - f.ob n

/-- The channel-c pixels of the OB rows that were received (R315): the pattern of the active image goes on upward. -/
def obPixels (f : CFrame) (n c : Nat) : List Nat :=
  let ob := f.ob n
  let real := min ob (f.lines.length - f.pad)
  ((List.range real).map fun j => ((List.range (f.w n)).filter fun x => cfa x (ob + j) == c).map fun x =>
    (f.lines.getD j []).getD x 0).flatten

/-- The black offset of a channel and whether it falls back with OBBAD (R315). -/
def blackOffset (f : CFrame) (n c : Nat) : Nat × Bool :=
  let m := f.vp n 0x90
  let blk := nfld (f.vp n (0x80 + 4 * c)) 15 0
  if nfld m 0 0 = 0 then (blk, false)
  else
    let ps := obPixels f n c
    if ps.isEmpty then (blk, true)
    else ((clampI 0 65535 ((ps.foldl (· + ·) 0 / ps.length : Nat) + signed 16 (m / 65536))).toNat, false)

/-- The black-level stage: the active image (R315). -/
def blackStage (f : CFrame) (n : Nat) : Plane :=
  let offs := (List.range 4).map fun c => (blackOffset f n c).1
  mkPlane (f.w n) (f.ah n) fun x y => (f.lines.getD (f.ob n + y) []).getD x 0 - offs.getD (cfa x y) 0

/-- Whether OBBAD is set (R315). -/
def obBad (f : CFrame) (n : Nat) : Bool := (List.range 4).any fun c => (blackOffset f n c).2

/-- Numbers in ascending order. -/
def sortN (l : List Nat) : List Nat := l.mergeSort (· ≤ ·)

/-- Whether the static map lists a pixel (R316). -/
def dpcListed (f : CFrame) (n x y : Nat) : Bool :=
  nbit (f.vp n 0x94) 0 && (List.range (nfld (f.vp n 0x94) 28 16)).any fun i =>
    let e := f.reg (0x40000 + 0x4000 * n + 4 * i)
    nbit e 31 && nfld e 27 16 == y && nfld e 11 0 == x

/-- Whether the dynamic test finds a pixel defective (R316). -/
def dpcDefect (f : CFrame) (n : Nat) (img : Plane) (x y : Nat) : Bool :=
  let w := f.w n
  let ns := sortN [pix img w (x - 2) y, pix img w (x + 2) y, pix img w x (y - 2), pix img w x (y + 2)]
  let p := pix img w x y
  let thr := 16 * nfld (f.vp n 0x94) 15 4
  nbit (f.vp n 0x94) 1 && !dpcListed f n x y && (decide (ns.getD 3 0 + thr < p) || decide (p + thr < ns.getD 0 0))

/-- The defective-pixel stage (R316). -/
def dpcStage (f : CFrame) (n : Nat) (img : Plane) : Plane :=
  let w := f.w n
  mkPlane w (f.ah n) fun x y =>
    if dpcListed f n x y then avg2 (pix img w (x - 2) y) (pix img w (x + 2) y)
    else if dpcDefect f n img x y then
      let ns := sortN [pix img w (x - 2) y, pix img w (x + 2) y, pix img w x (y - 2), pix img w x (y + 2)]
      avg2 (ns.getD 1 0) (ns.getD 2 0)
    else pix img w x y

/-- The dynamic corrections of a frame (R316). -/
def dpcCount (f : CFrame) (n : Nat) (img : Plane) : Nat :=
  min 65535 (((List.range (f.ah n)).map fun y => ((List.range (f.w n)).filter fun x => dpcDefect f n img x y).length).foldl (· + ·) 0)

/-- The lens-shading stage (R317). -/
def lscStage (f : CFrame) (n : Nat) (img : Plane) : Plane :=
  let w := f.w n
  let h := f.ah n
  if nfld (f.vp n 0x98) 0 0 = 0 then img
  else
    let cw := (w + 31) / 32
    let ch := (h + 23) / 24
    mkPlane w h fun x y =>
      let gx := x / max 1 cw
      let gy := y / max 1 ch
      let fx := x - gx * cw
      let fy := y - gy * ch
      let g (a b : Nat) : Nat := f.half (0x60000 + 0x2000 * n) (825 * cfa x y + 33 * b + a)
      let v := (g gx gy * (cw - fx) * (ch - fy) + g (gx + 1) gy * fx * (ch - fy) + g gx (gy + 1) * (cw - fx) * fy +
        g (gx + 1) (gy + 1) * fx * fy + cw * ch / 2) / max 1 (cw * ch)
      min ((pix img w x y * v + 2 ^ 13) / 2 ^ 14) 65535

/-- The white-balance stage (R318). -/
def wbStage (f : CFrame) (n : Nat) (img : Plane) : Plane :=
  let w := f.w n
  mkPlane w (f.ah n) fun x y => min ((pix img w x y * f.half (0x1000 + 0x200 * n + 0x9C) (cfa x y) + 2 ^ 11) / 2 ^ 12) 65535

/-- The colour of a site: 0 red, 1 green in a red row, 2 green in a blue row, 3 blue (FMT.CFA). -/
def siteColour (mode x y : Nat) : Nat :=
  let c := cfa x y
  match mode with
  | 0 => c
  | 1 => [1, 0, 3, 2].getD c 0
  | 2 => [2, 3, 0, 1].getD c 0
  | _ => [3, 2, 1, 0].getD c 0

/-- The demosaiced colour of a pixel (R319). -/
def demosaic (f : CFrame) (n : Nat) (img : Plane) (x y : Nat) : List Nat :=
  let p (dx dy : Int) : Nat := pix img (f.w n) (x + dx) (y + dy)
  let fmt := f.vp n 0x10
  if nbit fmt 6 then [p 0 0, p 0 0, p 0 0]
  else
    let direct := avg4 (p (-1) 0) (p 1 0) (p 0 (-1)) (p 0 1)
    let diag := avg4 (p (-1) (-1)) (p 1 (-1)) (p (-1) 1) (p 1 1)
    let lr := avg2 (p (-1) 0) (p 1 0)
    let ud := avg2 (p 0 (-1)) (p 0 1)
    match siteColour (nfld fmt 5 4) x y with
    | 0 => [p 0 0, direct, diag]
    | 1 => [lr, p 0 0, ud]
    | 2 => [ud, p 0 0, lr]
    | _ => [diag, direct, p 0 0]

/-- The colour matrix (R320). -/
def ccmStage (f : CFrame) (n : Nat) (c : List Nat) : List Nat :=
  (List.range 3).map fun i =>
    let m (j : Nat) : Int := signed 16 (f.half (0x1000 + 0x200 * n + 0xA4) (3 * i + j))
    let off : Int := signed 16 (f.half (0x1000 + 0x200 * n + 0xB8) i)
    (clampI 0 65535 (((List.range 3).foldl (fun a j => a + m j * (c.getD j 0 : Int)) 0 + 2 ^ 11) / 2 ^ 12 + off)).toNat

/-- The tone curve (R321). -/
def toneStage (f : CFrame) (n v : Nat) : Nat :=
  if nfld (f.vp n 0xC0) 0 0 = 0 then v
  else
    let t (k : Nat) : Int := if k = 1024 then 65535 else f.half (0x70000 + 0x800 * n) k
    let k := v / 64
    (t k + ((t (k + 1) - t k) * (v % 64 : Nat) + 32) / 64).toNat

/-- The tone-curve output: R, G and B of each active pixel. -/
def toneImage (f : CFrame) (n : Nat) (wb : Plane) : List (List (List Nat)) :=
  (List.range (f.ah n)).map fun y => (List.range (f.w n)).map fun x =>
    (ccmStage f n (demosaic f n wb x y)).map (toneStage f n)

/-- Luma (R322). -/
def luma (c : List Nat) : Nat := (9798 * c.getD 0 0 + 19235 * c.getD 1 0 + 3735 * c.getD 2 0 + 2 ^ 14) / 2 ^ 15

/-- The width of a scaled output (R322); `off` is its crop register. -/
def outW (f : CFrame) (n off : Nat) : Nat := nfld (f.vp n (off + 4)) 12 0 / max 1 (nfld (f.vp n (off + 8)) 3 0)
/-- The height of a scaled output. -/
def outH (f : CFrame) (n off : Nat) : Nat := nfld (f.vp n (off + 4)) 28 16 / max 1 (nfld (f.vp n (off + 8)) 7 4)
/-- Bytes of a pixel of a FORMAT. -/
def fmtBytes (f : Nat) : Nat := [0, 1, 3, 6].getD f 0
/-- FORMAT of an output. -/
def outFmt (f : CFrame) (n off : Nat) : Nat := nfld (f.vp n (off + 8)) 9 8
/-- The bytes of an output. -/
def outSize (f : CFrame) (n off : Nat) : Nat := outW f n off * outH f n off * fmtBytes (outFmt f n off)

/-- A scaled output's pixels, rows of channel triples (R322). -/
def scaled (f : CFrame) (n off : Nat) (tone : List (List (List Nat))) : List (List (List Nat)) :=
  let fx := max 1 (nfld (f.vp n (off + 8)) 3 0)
  let fy := max 1 (nfld (f.vp n (off + 8)) 7 4)
  let x0 := nfld (f.vp n off) 12 0
  let y0 := nfld (f.vp n off) 28 16
  (List.range (outH f n off)).map fun y => (List.range (outW f n off)).map fun x => (List.range 3).map fun c =>
    let sum := ((List.range fy).map fun j => ((List.range fx).map fun i =>
      ((tone.getD (y0 + y * fy + j) []).getD (x0 + x * fx + i) []).getD c 0).foldl (· + ·) 0).foldl (· + ·) 0
    (sum + fx * fy / 2) / (fx * fy)

/-- The bytes of a scaled output (R322). -/
def outBytes (fmt : Nat) (img : List (List (List Nat))) : List Byte :=
  (img.map fun row => (row.map fun c => match fmt with
    | 1 => leBytes 1 (luma c / 256)
    | 2 => (c.map fun v => leBytes 1 (v / 256)).flatten
    | 3 => (c.map fun v => leBytes 2 v).flatten
    | _ => []).flatten).flatten

/-- The tile statistics (R323). A tile without pixels has no mean: its bytes are open, from `ctr` on. -/
def tileBytes (f : CFrame) (n ctr : Nat) (wb : Plane) : List Byte :=
  let tw := 2 * (f.w n / 32)
  let th := 2 * (f.ah n / 24)
  ((List.range 192).map fun t =>
    let x0 := t % 16 * tw
    let y0 := t / 16 * th
    let px := ((List.range th).map fun j => (List.range tw).map fun i => ((x0 + i, y0 + j), pix wb (f.w n) (x0 + i : Nat) (y0 + j : Nat))).flatten
    let clip := min 65535 (px.filter fun p => p.2 == 65535).length
    let means := ((List.range 4).map fun c =>
      let ps := px.filter fun p => cfa p.1.1 p.1.2 == c
      if ps.isEmpty then [Config.freeByte (ctr + 8 * t + 2 * c), Config.freeByte (ctr + 8 * t + 2 * c + 1)]
      else leBytes 2 (ps.foldl (fun a p => a + p.2) 0 / ps.length)).flatten
    means ++ leBytes 2 clip ++ leBytes 2 0).flatten

/-- The histogram of the active image (R323). -/
def histBytes (tone : List (List (List Nat))) : List Byte :=
  let ys := (tone.map fun r => r.map fun c => luma c / 1024).flatten
  ((List.range 64).map fun k => leBytes 4 (ys.filter fun y => y == k).length).flatten

/-! ### Blobs -/

/-- A foreground pixel of output A with its 8-bit channels. -/
structure BlobPix where
  x : Nat
  y : Nat
  c : List Nat

/-- Whether two pixels are 8-neighbours. -/
def BlobPix.near (p q : BlobPix) : Bool := decide (p.x ≤ q.x + 1 ∧ q.x ≤ p.x + 1 ∧ p.y ≤ q.y + 1 ∧ q.y ≤ p.y + 1)

/-- A pixel joins the blobs it touches into one. -/
def blobAdd (bs : List (List BlobPix)) (p : BlobPix) : List (List BlobPix) :=
  let touch := bs.filter fun b => b.any p.near
  (bs.filter fun b => !(b.any p.near)) ++ [touch.flatten ++ [p]]

/-- The least of a measure over a blob. -/
def blobMin (b : List BlobPix) (g : BlobPix → Nat) : Nat := b.foldl (fun m p => min m (g p)) ((b.map g).headD 0)
/-- The greatest of a measure over a blob. -/
def blobMax (b : List BlobPix) (g : BlobPix → Nat) : Nat := b.foldl (fun m p => max m (g p)) 0
/-- The sum of a measure over a blob. -/
def blobSum (b : List BlobPix) (g : BlobPix → Nat) : Nat := b.foldl (fun m p => m + g p) 0

/-- The blobs of output A, in the order of their last row and leftmost column, the small ones left out (R324). -/
def blobs (f : CFrame) (n : Nat) (a : List (List (List Nat))) : List (List BlobPix) :=
  let lo (c : Nat) : Nat := nfld (f.vp n 0xE0) (8 * c + 7) (8 * c)
  let hi (c : Nat) : Nat := nfld (f.vp n 0xE4) (8 * c + 7) (8 * c)
  let px := (a.zipIdx.map fun r => r.1.zipIdx.map fun p =>
    { x := p.2, y := r.2, c := p.1.map fun v => v / 256 : BlobPix }).flatten
  let fg := px.filter fun p => (List.range 3).all fun c => decide (lo c ≤ p.c.getD c 0 ∧ p.c.getD c 0 ≤ hi c)
  let bs := (fg.foldl blobAdd []).filter fun b => decide (nfld (f.vp n 0xE8) 31 16 ≤ b.length)
  bs.mergeSort fun p q => decide (blobMax p (·.y) < blobMax q (·.y)) ||
    (blobMax p (·.y) == blobMax q (·.y) && decide (blobMin p (·.x) ≤ blobMin q (·.x)))

/-- The record of a blob (R325); `w`, `h` are the size of output A. -/
def blobBytes (w h : Nat) (b : List BlobPix) : List Byte :=
  let area := b.length
  let x0 := blobMin b (·.x)
  let y0 := blobMin b (·.y)
  let x1 := blobMax b (·.x)
  let y1 := blobMax b (·.y)
  let mean (g : BlobPix → Nat) : Nat := (blobSum b g * 256 + area / 2) / max 1 area
  let border := decide (x0 = 0 ∨ y0 = 0 ∨ x1 + 1 = w ∨ y1 + 1 = h)
  leBytes 4 area ++ leBytes 2 x0 ++ leBytes 2 y0 ++ leBytes 2 x1 ++ leBytes 2 y1 ++ leBytes 4 (mean (·.x)) ++
    leBytes 4 (mean (·.y)) ++ leBytes 2 (mean fun p => p.c.getD 0 0) ++ leBytes 2 (mean fun p => p.c.getD 1 0) ++
    leBytes 2 (mean fun p => p.c.getD 2 0) ++ leBytes 2 (b2n border) ++ leBytes 4 0

/-! ### The whole frame -/

/-- What a frame leaves in its slot besides the status word: the bytes by slot offset, the number of blobs, whether there
were more, DPCDYN, OBBAD. -/
structure FrameOut where
  parts : List (Nat × List Byte)
  nblob : Nat
  ovf : Bool
  dyn : Nat
  obbad : Bool

/-- A finished frame passes every stage; open bytes are counted from `ctr`. -/
def processFrame (f : CFrame) (n ctr : Nat) : FrameOut :=
  let b := blackStage f n
  let wb := wbStage f n (lscStage f n (dpcStage f n b))
  let tone := toneImage f n wb
  let a := scaled f n 0xC4 tone
  let bl := if nbit (f.vp n 0xE8) 0 then blobs f n a else []
  let kept := bl.take 4096
  { parts := [(0x40, tileBytes f n ctr wb), (0x940, histBytes tone),
      (f.vp n 0x48, (kept.map (blobBytes (outW f n 0xC4) (outH f n 0xC4))).flatten),
      (f.vp n 0x4C, outBytes (outFmt f n 0xC4) a),
      (f.vp n 0x50, outBytes (outFmt f n 0xD0) (scaled f n 0xD0 tone))],
    nblob := kept.length, ovf := decide (4096 < bl.length), dyn := dpcCount f n b, obbad := obBad f n }

end Sys2Proof.Machine
end

