-- ==== Sys2Proof/Machine/Vision.lean ====
section
/-! DEFINITION. Camera links, triggers, pipelines and their slots (spec/10). -/

namespace Sys2Proof.Machine

/-- The offset of a register of link `n`. -/
def clOff (n off : Nat) : Nat := 0x100 + 0x40 * n + off
/-- The offset of a register of pipeline `n`. -/
def vpOff (n off : Nat) : Nat := 0x1000 + 0x200 * n + off
/-- A register of pipeline `n` (its shadow for a parameter). -/
def vpGet (s : State) (n off : Nat) : Nat := sget s .cam (vpOff n off)
/-- A link. -/
def State.link (s : State) (n : Nat) : CamLink := tget s.cam.links n
/-- Change a link. -/
def State.modLink (s : State) (n : Nat) (f : CamLink → CamLink) : State :=
  { s with cam := { s.cam with links := tmod s.cam.links n f } }
/-- A pipeline. -/
def State.vp (s : State) (n : Nat) : Vp := tget s.cam.vps n
/-- Change a pipeline. -/
def State.modVp (s : State) (n : Nat) (f : Vp → Vp) : State := { s with cam := { s.cam with vps := tmod s.cam.vps n f } }
/-- RUN of a pipeline. -/
def vpRuns (s : State) (n : Nat) : Bool := nbit (vpGet s n 0) 0
/-- Whether a pipeline is bound to a camera. -/
def vpOf (s : State) (n cam : Nat) : Bool := nbit (vpGet s n 8) 31 && nfld (vpGet s n 8) 10 8 == cam
/-- Whether a link is UP. -/
def linkUp (s : State) (n : Nat) : Bool := (s.link n).st == .up

/-! ### Slots -/

/-- NSLOT. -/
def vpSlots (s : State) (n : Nat) : Nat := nfld (vpGet s n 0x38) 6 0
/-- The slots that are unread or claimed. -/
def vpTaken (s : State) (n : Nat) : Nat :=
  let k := vpSlots s n
  (if k = 0 then 0 else (vpGet s n 0x3C + k - vpGet s n 0x40 % k) % k) + (s.vp n).claims.length

/-- A frame or a record finds no free slot (R327). -/
def slotDrop (s : State) (n : Nat) : State :=
  let s := (scount s .cam (vpOff n 0x44) 1).modVp n fun v => { v with dropBefore := true }
  postEngine s .cam 5 n

/-- Bytes leave for a slot of pipeline `n` at its WP, but for the dropped ranges of slot offsets (R314). -/
def slotBytes (s : State) (n off : Nat) (drops : List (Nat × Nat)) (bs : List Byte) : State :=
  let base := vpGet s n 0x30 + vpGet s n 0x34 * vpGet s n 0x3C
  if drops.isEmpty then dramWrite s 0 (base + off) bs
  else bs.zipIdx.foldl (fun s p =>
    if drops.any fun d => decide (d.1 ≤ off + p.2 ∧ off + p.2 < d.1 + d.2) then s else dramWrite s 0 (base + off + p.2) [p.1]) s

/-- The 32 bytes of a frame-status word (R328). -/
def statusBytes (fseq flags pgen crc sof expect lshort llong padl dropl nblob dyn : Nat) : List Byte :=
  let c (v : Nat) : List Byte := leBytes 2 (min v 65535)
  leBytes 4 fseq ++ leBytes 2 flags ++ leBytes 1 pgen ++ leBytes 1 (min crc 255) ++ leBytes 8 sof ++ leBytes 4 expect ++
    c lshort ++ c llong ++ c padl ++ c dropl ++ c nblob ++ c dyn

/-- WP advances past the first claim and FRAME is posted (R327). -/
def slotDone (s : State) (n : Nat) (missing : Bool) : State :=
  let wp := vpGet s n 0x3C
  let s := s.modVp n fun v => { v with claims := v.claims.tail, fseq := (v.fseq + 1) % 2 ^ 32 }
  postEngine (sput s .cam (vpOff n 0x3C) ((wp + 1) % max 1 (vpSlots s n))) .cam 1 (n + wp * 2 ^ 8 + b2n missing * 2 ^ 16)

/-- Whether the fabric grants a pipeline nothing (R467, R476, R477). -/
def vpBlocked (s : State) (n : Nat) : Bool := rqBlocked s (n / 2)

/-- Missing-frame records at the head of the claims are written at once (R329, R331), or wait for the fabric; `k` bounds them. DESIGN CHOICE: DROPBEFORE
waits for a frame, since a missing-frame record has no other flag (R327, R331). -/
def flushMissing (s : State) (n : Nat) : Nat → State
  | 0 => s
  | k + 1 => match (s.vp n).claims with
    | .missing e :: _ =>
      if vpBlocked s n then { s with dq := { s.dq with frames := if s.dq.frames.contains n then s.dq.frames else s.dq.frames ++ [n] } }
      else
      let v := s.vp n
      flushMissing (slotDone (slotBytes s n 0 [] (statusBytes v.fseq 32 v.pgen 0 0 (e % 2 ^ 32) 0 0 0 0 0 0)) n true) n k
    | _ => s

/-- A missing-frame record for an expected start (R327, R331). -/
def missingRecord (s : State) (n expect : Nat) : State :=
  if vpTaken s n + 1 ≥ vpSlots s n then slotDrop s n
  else flushMissing (s.modVp n fun v => { v with claims := v.claims ++ [.missing expect] }) n 64

/-- Change the open frame. -/
def State.modFrame (s : State) (n : Nat) (g : CFrame → CFrame) : State :=
  s.modVp n fun v => { v with claims := v.claims.map fun c => match c with
    | .frame f => if f.ended then c else .frame (g f)
    | c => c }

/-- The open frame ends without a status (R333, R335). After a hard fault nothing more is written: what waited for it goes
(R334). -/
def abandonFrame (s : State) (n : Nat) : State :=
  if s.faulty .cam then s.modVp n fun v => { v with claims := [] }
  else flushMissing (s.modVp n fun v => { v with claims := v.claims.filter fun c => match c with
    | .frame f => f.ended
    | .missing _ => true }) n 64

/-- A flag of a frame. -/
def CFrame.flag (f : CFrame) (i : Nat) : CFrame := { f with flags := f.flags ||| 2 ^ i }

/-- The aligned PADVAL of a pipeline. -/
def padVal (f : CFrame) (n : Nat) : Nat := nfld (f.vp n 0x14) 15 0

/-- A frame ends: pad lines complete it (R313); the given flag says how it ended. DESIGN CHOICE: a frame without any line is
padded with PADVAL in both modes, as a zero-length line is. -/
def CFrame.finish (f : CFrame) (n : Nat) (how : Option Nat) : CFrame :=
  let w := f.w n
  let miss := f.h n - f.lines.length
  let last := match f.lines.getLast? with
    | some l => if nbit (f.vp n 0x10) 12 then List.replicate w (padVal f n) else l
    | none => List.replicate w (padVal f n)
  let f := { f with lines := f.lines ++ List.replicate miss last, pad := miss, ended := true }
  let f := if 0 < miss then f.flag 2 else f
  match how with
  | some i => f.flag i
  | none => f

/-- A line enters a frame (R313, R314): `px` the raw pixels that were taken. -/
def CFrame.line (f : CFrame) (n : Nat) (px : List Nat) (crc ovr : Bool) : CFrame :=
  let w := f.w n
  if f.h n ≤ f.lines.length then { f with dropl := f.dropl + 1 }.flag 3
  else
    let b := 8 + 2 * nfld (f.vp n 0x10) 2 0
    let al := (px.take w).map fun v => v % 2 ^ b * 2 ^ (16 - b)
    let fill := match al.getLast? with
      | some v => if nbit (f.vp n 0x10) 12 then padVal f n else v
      | none => padVal f n
    let f := { f with lines := f.lines ++ [al ++ List.replicate (w - al.length) fill] }
    let f := if px.length < w then { f with lshort := f.lshort + 1 }.flag 0 else f
    let f := if w < px.length then { f with llong := f.llong + 1 }.flag 1 else f
    let f := if ovr then f.flag 9 else f
    if crc then { f with crc := f.crc + 1 }.flag 6 else f

/-! ### Links and power -/

/-- The DATA of a LINK posting (R336). -/
def linkData (s : State) (n : Nat) (up : Bool) : Nat := n + b2n up * 2 ^ 8 + (s.link n).gear * 2 ^ 9

/-- A link that was UP goes DOWN, to train again by itself; open frames of its pipelines end (R306, R313). -/
def linkDrop (s : State) (n : Nat) : State :=
  if !linkUp s n then s
  else
    let s := (s.modLink n fun k => { k with st := .down, lost := some s.now })
    let s := (List.range 8).foldl (fun s v => if vpOf s v n then s.modFrame v fun f => f.finish v (some 8) else s) s
    if s.faulty .cam then s else postEngine (sputb s .cam (clOff n 4) 9 true) .cam 2 (linkData s n false)

/-- LINK_DOWN (R306, R313). -/
def execLinkDown (n : Fin 8) (s : State) : Out := act s (linkDrop s n)

/-- LINK_TRAINED (R305, R306): the training of a link ends in a gear of 1 to GEARMAX. -/
def execLinkTrained (n : Fin 8) (gear : Fin 4) (s : State) : Out :=
  act s (if (s.link n).shown s.now ≠ .training ∨ gear.val = 0 ∨ sfld s .cam (clOff n 0) 1 0 < gear.val then s
    else
      let s := s.modLink n fun k => { k with st := .up, gear := gear, lost := none }
      if s.faulty .cam then s else postEngine s .cam 2 (linkData s n true))

/-- The transaction that a word written to I2CCMD starts (R308): the bytes of I2CWD0 and I2CWD1, least significant first, at
the speed of LCFG.I2CSPD. -/
def i2cXfer (s : State) (n v : Nat) : I2cXfer where
  addr := nfld v 30 24
  out := (leBytes 4 (sget s .cam (clOff n 0x14)) ++ leBytes 4 (sget s .cam (clOff n 0x18))).take (nfld v 19 16)
  rlen := nfld v 11 8
  khz := match sfld s .cam (clOff n 0) 13 12 with
    | 0 => 100
    | 1 => 400
    | _ => 1000

/-- A write of I2CCMD (R308). -/
def i2cCmd (s : State) (l : LaneId) (n v : Nat) : State :=
  gated s l .cam (clOff n 0x10) fun s =>
    let wl := nfld v 19 16
    let rl := nfld v 11 8
    if (s.link n).i2c.isSome then reject s l .cam (clOff n 0x10) rBUSY
    else if !linkUp s n then reject s l .cam (clOff n 0x10) rSTATE
    else if 8 < wl ∨ 8 < rl ∨ wl + rl = 0 then reject s l .cam (clOff n 0x10) rRANGE
    else sput (s.modLink n fun k => { k with i2c := some (i2cXfer s n v) }) .cam (clOff n 0x24) 1

/-- I2C_TRANSACTION (R308). -/
def execI2cTransaction (l : LaneId) (n : Fin 8) (v : Word) (s : State) : Out := act s (i2cCmd s l n v.toNat)

/-- I2C_DONE (R308): the transaction ends acknowledged, with the bytes read, or with NACK after `cnt` bytes. All 16 bytes
do not fit the count of I2CSTAT: that value is open. -/
def execI2cDone (n : Fin 8) (ack : Bool) (cnt : Fin 16) (data : BitVec 64) (s : State) : Out :=
  act s (match (s.link n).i2c with
    | none => s
    | some x =>
      let s := s.modLink n fun k => { k with i2c := none }
      let s := if ack then
          let d := data.toNat % 2 ^ (8 * x.rlen)
          if x.rlen = 0 then s else sput (sput s .cam (clOff n 0x1C) (d % 2 ^ 32)) .cam (clOff n 0x20) (d / 2 ^ 32)
        else s
      let full := if x.len = 16 then (Config.freeWord s.freeCtr).toNat % 16 else x.len
      let s := if ack ∧ x.len = 16 then { s with freeCtr := s.freeCtr + 1 } else s
      let c := if ack then full else min cnt x.len
      postEngine (sput s .cam (clOff n 0x24) (c * 2 ^ 8 + if ack then 2 else 3)) .cam 4 (n + (if ack then 2 else 3) * 2 ^ 8))

/-- The level of a tunnelled output GPOk of a link (R309, R310). -/
def gpoLevel (s : State) (n k : Nat) : Bool :=
  let cfg := sget s .cam (clOff n 0)
  if nbit cfg 8 ∧ nfld cfg 10 9 = k then
    let active := match (s.link n).pulse with
      | some t => decide (s.now < t)
      | none => false
    active == nbit cfg 24
  else nbit (sget s .cam (clOff n 0x28)) k

/-- A trigger reaches camera `n` (R310, R330). -/
def camTrigger (s : State) (n : Nat) : State :=
  if s.faulty .cam then s
  else
    let cfg := sget s .cam (clOff n 0)
    let s := if !nbit cfg 8 then s
      else
        let s := rwrap s .a (Block.cam.base + clOff n 0x2C) 1
        if linkUp s n then s.modLink n fun k => { k with pulse := some (s.now + us (nfld cfg 23 16)) } else s
    (List.range 8).foldl (fun s v =>
      if vpOf s v n && vpRuns s v && nbit (vpGet s v 0x18) 0 then
        let t := s.now + us (nfld (vpGet s v 0x20) 23 0)
        let s := match (s.vp v).slots with
          | e :: r => if 4 ≤ (s.vp v).slots.length then missingRecord (s.modVp v fun p => { p with slots := r }) v e else s
          | [] => s
        s.modVp v fun p => { p with slots := p.slots ++ [t] }
      else s) s

/-- CAMERA_TRIGGER (R310): a CAMTRIG action from a lane; only the owner's takes effect (R141), and none
while the lanes restart (R335). -/
def execCameraTrigger (l : LaneId) (n : Fin 8) (s : State) : Out := actL s (if s.owns l then camTrigger s n else s)

/-- TRIGGER_PULSE_END (R310): TRIGW µs have passed since the last trigger. -/
def execTriggerPulseEnd (n : Fin 8) (s : State) : Out :=
  act s (if due (s.link n).pulse s.now then s.modLink n fun k => { k with pulse := none } else s)

/-- A camera's supply is switched; while a brown-out holds it off the command is remembered (R586). -/
def camPower (s : State) (n : Nat) (on : Bool) : State :=
  if s.pwr.brownout then { s with pwr := { s.pwr with camOn := tset s.pwr.camOn n on } }
  else s.modLink n fun k => { k with power := on }

/-- Whether a camera's supply is switched on, held off by a brown-out or not. -/
def camPowered (s : State) (n : Nat) : Bool := if s.pwr.brownout then tget s.pwr.camOn n else (s.link n).power

/-- PWRON: it also ends a shed (R311, R596). -/
def camPwron (s : State) (n : Nat) : State :=
  camPower { s with pwr := { s.pwr with camShed := tset s.pwr.camShed n false } } n true

/-- CAMERA_POWER_FAULT (R311): the current has exceeded the limit for 1 ms. -/
def execCameraPowerFault (n : Fin 8) (s : State) : Out :=
  act s (if !(s.link n).power then s
    else
      let s := camPower s n false
      if s.faulty .cam then s else postEngine (sputb s .cam (clOff n 4) 8 true) .cam 3 n)

/-! ### Parameters -/

/-- The offsets whose register is a parameter of pipeline `n` (R332). -/
def isParam (n off : Nat) : Bool :=
  decide ((vpOff n 0x80 ≤ off ∧ off < vpOff n 0x100) ∨ (0x40000 + 0x4000 * n ≤ off ∧ off < 0x44000 + 0x4000 * n) ∨
    (0x60000 + 0x2000 * n ≤ off ∧ off < 0x62000 + 0x2000 * n) ∨ (0x70000 + 0x800 * n ≤ off ∧ off < 0x70800 + 0x800 * n))

/-- The shadow parameters of a pipeline. -/
def shadowOf (s : State) (n : Nat) : Tab Word :=
  (s.sregs.filter fun p => decide (Block.cam.base ≤ p.1) && isParam n (p.1 - Block.cam.base)).map fun p =>
    (p.1 - Block.cam.base, p.2)

/-- The registers of a pipeline that are live only. -/
def fixedOf (s : State) (n : Nat) : Tab Word :=
  (s.sregs.filter fun p => decide (Block.cam.base + vpOff n 0 ≤ p.1 ∧ p.1 < Block.cam.base + vpOff n 0x80)).map fun p =>
    (p.1 - Block.cam.base, p.2)

/-- The parameters in force with a set of live parameters: the fixed registers stand below the parameters. -/
def paramsWith (s : State) (n : Nat) (live : Tab Word) : Tab Word := fixedOf s n ++ live

/-- Whether two regions overlap. -/
def overlap (a b : Nat × Nat) : Bool := decide (0 < a.2 ∧ 0 < b.2 ∧ a.1 < b.1 + b.2 ∧ b.1 < a.1 + a.2)

/-- Whether the slot layout is wrong (R326). -/
def layoutBad (s : State) (n : Nat) (live : Tab Word) : Bool :=
  let f : CFrame := { par := paramsWith s n live }
  let size := f.vp n 0x34
  let blob := f.vp n 0x48
  let rs : List (Nat × Nat) := [(0, 0xA40), (blob, 0x20000), (f.vp n 0x4C, outSize f n 0xC4), (f.vp n 0x50, outSize f n 0xD0)]
  let crop (off : Nat) : Bool :=
    decide (f.w n < nfld (f.vp n off) 12 0 + nfld (f.vp n (off + 4)) 12 0) ||
      decide (f.ah n < nfld (f.vp n off) 28 16 + nfld (f.vp n (off + 4)) 28 16)
  (rs.zipIdx.any fun a => rs.zipIdx.any fun b => decide (a.2 < b.2) && overlap a.1 b.1) ||
    (rs.any fun r => decide (0 < r.2 ∧ size < r.1 + r.2)) || decide (blob < 0xA40) || decide (blob % 32 ≠ 0) ||
    decide (size % 4096 ≠ 0) || (nbit (f.vp n 0xE8) 0 && outFmt f n 0xC4 == 0) || crop 0xC4 || crop 0xD0

/-- What a COMMIT changes that the layout depends on (R326). -/
def layoutKey (live : Tab Word) (n : Nat) : List Nat :=
  let f : CFrame := { par := live }
  [f.vp n 0xC4, f.vp n 0xC8, f.vp n 0xCC, f.vp n 0xD0, f.vp n 0xD4, f.vp n 0xD8, f.vp n 0xE8 % 2]

/-- Whether the DPC map is out of raster order (R316). -/
def dpcDisorder (s : State) (n : Nat) : Bool :=
  let m := nfld (vpGet s n 0x94) 28 16
  let key (i : Nat) : Nat := let e := sget s .cam (0x40000 + 0x4000 * n + 4 * i); nfld e 27 16 * 4096 + nfld e 11 0
  (List.range (m - 1)).any fun i => decide (key (i + 1) ≤ key i)

/-- CMD COMMIT (R316, R326, R332). -/
def camCommit (s : State) (l : LaneId) (n : Nat) : State :=
  let sh := shadowOf s n
  if dpcDisorder s n then reject s l .cam 8 0x13
  else if layoutKey sh n ≠ layoutKey (s.vp n).live n ∧ layoutBad s n sh then reject s l .cam 8 0x12
  else s.modVp n fun v => { v with commits := v.commits ++ [s.now] }

/-- A write of CAM.CMD (R310, R311, R332, R337). No trigger comes while the lanes restart (R335). -/
def camCmd (s : State) (l : LaneId) (v : Nat) : State :=
  gated s l .cam 8 fun s =>
    let n := v % 8
    match nfld v 31 28 with
    | 1 => if s.lanesUp then camTrigger s n else s
    | 2 => if camPowered s n then reject s l .cam 8 rSTATE else camPwron s n
    | 3 => camPower s n false
    | 4 => camCommit s l n
    | _ => reject s l .cam 8 rRANGE

/-- CAM_TRIG (R310). -/
def execCamTrig (l : LaneId) (n : Fin 8) (s : State) : Out := act s (camCmd s l (2 ^ 28 + n.val))
/-- PWRON (R311). -/
def execPwron (l : LaneId) (n : Fin 8) (s : State) : Out := act s (camCmd s l (2 * 2 ^ 28 + n.val))
/-- PWROFF (R311). -/
def execPwroff (l : LaneId) (n : Fin 8) (s : State) : Out := act s (camCmd s l (3 * 2 ^ 28 + n.val))
/-- CAM_COMMIT (R332). -/
def execCamCommit (l : LaneId) (n : Fin 8) (s : State) : Out := act s (camCmd s l (4 * 2 ^ 28 + n.val))

/-- A write of BIND (R312). -/
def vpBind (s : State) (l : LaneId) (n v : Nat) : State :=
  let off := vpOff n 8
  gated s l .cam off fun s =>
    let en := nbit v 31
    let was := nbit (vpGet s n 8) 31
    let key (w : Nat) : Nat × Nat := (nfld w 10 8, nfld w 4 0)
    if regVerdict s l .cam off v = rLOCKED then reject s l .cam off rLOCKED
    else if vpRuns s n then reject s l .cam off rSTATE
    else if en && was then reject s l .cam off 0x10
    else if en && (List.range 8).any fun m => m != n && nbit (vpGet s m 8) 31 && key (vpGet s m 8) == key v then
      reject s l .cam off 0x11
    else regPlain s l .cam off v

/-- VP_BIND (R312). -/
def execVpBind (l : LaneId) (n : Fin 8) (v : Word) (s : State) : Out := act s (vpBind s l n v.toNat)

/-- The parameters that the next frame of a pipeline will have (R326, R332): the shadow set when a COMMIT waits or, during a
cold start, as the copy's (R335). -/
def nextParams (s : State) (n : Nat) : Tab Word :=
  if (s.vp n).commits.isEmpty && s.sup.phase != .cold then (s.vp n).live else shadowOf s n

/-- A write of RUN (R326, R331, R333). -/
def vpRun (s : State) (l : LaneId) (n v : Nat) : State :=
  let off := vpOff n 0
  gated s l .cam off fun s =>
    let on := nbit v 0
    if !on then
      (sput s .cam off 0).modVp n fun p => { p with claims := [], slots := [], expect := none }
    else if vpRuns s n then s
    else if !nbit (vpGet s n 8) 31 then reject s l .cam off rSTATE
    else if nfld (vpGet s n 0x28) 23 0 ≤ nfld (vpGet s n 0x24) 23 0 then reject s l .cam off rRANGE
    else if layoutBad s n (nextParams s n) then reject s l .cam off 0x12
    else (sput s .cam off 1).modVp n fun p => { p with claims := [], slots := [], expect := none }

/-- VP_RUN (R333). -/
def execVpRun (l : LaneId) (n : Fin 8) (on : Bool) (s : State) : Out := act s (vpRun s l n (b2n on))

/-! ### Frames -/

/-- The pipeline bound to a virtual channel of a link. -/
def boundVp (s : State) (n vc : Nat) : Option Nat :=
  (List.range 8).find? fun v => vpOf s v n && nfld (vpGet s v 8) 4 0 == vc

/-- The expected start that a frame takes (R329, R330): the state after, the expected start, its flags. -/
def takeExpect (s : State) (n : Nat) : State × Option Nat × Nat :=
  let v := s.vp n
  let tol := us (nfld (vpGet s n 0x24) 23 0)
  let late (e : Nat) : Nat := b2n (decide (e + tol < s.now)) * 16
  if nbit (vpGet s n 0x18) 0 then
    match v.slots with
    | e :: r => (s.modVp n fun v => { v with slots := r }, some e, 2 ^ 15 + late e)
    | [] => (s, none, 2 ^ 12)
  else
    (s.modVp n fun v => { v with expect := some (s.now + us (nfld (vpGet s n 0x1C) 23 0)) }, v.expect,
      match v.expect with
      | some e => late e
      | none => 0)

/-- A frame start on a bound, running pipeline (R313, R327, R329–R332). -/
def frameStart (s : State) (n : Nat) : State :=
  let s := s.modFrame n fun f => f.finish n (some 7)
  let v := s.vp n
  let s := if v.commits.any fun t => decide (t < s.now) then
      s.modVp n fun v => { v with
        live := shadowOf s n, pgen := (v.pgen + 1) % 256, commits := v.commits.filter fun t => decide (s.now ≤ t) }
    else s
  let x := takeExpect s n
  let s := x.1
  if vpTaken s n + 1 ≥ vpSlots s n then slotDrop s n
  else
    let v := s.vp n
    s.modVp n fun v' => { v' with claims := v'.claims ++ [.frame {
      sof := s.now, expect := x.2.1.getD 0 % 2 ^ 32, flags := x.2.2, pgen := v.pgen, par := paramsWith s n v.live }] }

/-- FRAME_START (R307, R313): a frame-start packet on a virtual channel of a link. -/
def execFrameStart (n : Fin 8) (vc : Fin 32) (s : State) : Out :=
  act s (if !linkUp s n ∨ s.faulty .cam then s
    else match boundVp s n vc with
      | none => scount s .cam (clOff n 8) 1
      | some v => if vpRuns s v then frameStart s v else s)

/-- LINE_PACKET (R307, R313, R314): a long packet with a data type; `px` holds the pixels that fit, `over` says that others
did not. -/
def execLinePacket (n : Fin 8) (vc : Fin 32) (dt : BitVec 6) (px : List (BitVec 16)) (crc ovr : Bool) (s : State) : Out :=
  act s (if !linkUp s n ∨ s.faulty .cam then s
    else if dt.toNat < 0x2A ∨ 0x2E < dt.toNat then scount s .cam (clOff n 0xC) 1
    else match boundVp s n vc with
      | none => s
      | some v =>
        if dt.toNat ≠ 0x2A + nfld (vpGet s v 0x10) 2 0 then scount s .cam (clOff n 0xC) 1
        else if vpRuns s v then s.modFrame v fun f => f.line v (px.map (·.toNat)) crc ovr else s)

/-- FRAME_END (R313): a frame-end packet. -/
def execFrameEnd (n : Fin 8) (vc : Fin 32) (s : State) : Out :=
  act s (if !linkUp s n ∨ s.faulty .cam then s
    else match boundVp s n vc with
      | none => s
      | some v => s.modFrame v fun f => f.finish v none)

/-- FRAME_STATUS_WRITE (R314–R328): the oldest frame of a pipeline has been processed; `drops` are the ranges of slot
offsets that could not be written in time. Its status is not written while the fabric grants the pipeline nothing. -/
def execFrameStatusWrite (n : Fin 8) (drops : List (Nat × Nat)) (s : State) : Out :=
  act s (match (s.vp n).claims with
    | .frame f :: _ =>
      if !f.ended ∨ s.faulty .cam ∨ vpBlocked s n then s
      else
        let n := n.val
        let o := processFrame f n s.freeCtr
        let s := { s with freeCtr := s.freeCtr + 1536 }
        let v := s.vp n
        let flags := f.flags + b2n (!drops.isEmpty) * 2 ^ 10 + b2n o.ovf * 2 ^ 11 + b2n v.dropBefore * 2 ^ 13 + b2n o.obbad * 2 ^ 14
        let s := o.parts.foldl (fun s p => slotBytes s n p.1 drops p.2) s
        let s := slotBytes s n 0 [] (statusBytes v.fseq flags f.pgen f.crc f.sof f.expect f.lshort f.llong f.pad f.dropl
          o.nblob o.dyn)
        flushMissing (slotDone (s.modVp n fun v => { v with dropBefore := false }) n false) n 64
    | _ => s)

/-- MISSING_FRAME (R329, R330): an expected start has passed its TIMEOUT; a frame start of the same cycle goes first. -/
def execMissingFrame (n : Fin 8) (s : State) : Out :=
  let tmo := us (nfld (vpGet s n 0x28) 23 0)
  act s (if !vpRuns s n ∨ s.faulty .cam then s
    else if nbit (vpGet s n 0x18) 0 then
      match (s.vp n).slots with
      | e :: r => if e + tmo < s.now then missingRecord (s.modVp n fun v => { v with slots := r }) n e else s
      | [] => s
    else match (s.vp n).expect with
      | some e =>
        if e + tmo < s.now then
          missingRecord (s.modVp n fun v => { v with expect := some (e + us (nfld (vpGet s n 0x1C) 23 0)) }) n e
        else s
      | none => s)

/-! ### Starts and registers -/

/-- At HOLD-UP entry every pipeline ends its open frame without a status and the supplies switch off (R335). -/
def camHoldup (s : State) : State :=
  (List.range 8).foldl (fun s n => camPower (abandonFrame s n) n false) s

/-- Links train and the supplies whose PWRBOOT is set come on (R335, R553). -/
def camBoot (s : State) : State :=
  (List.range 8).foldl (fun s n => if tget s.pwr.camShed n then s else
    camPower (s.modLink n fun k => { k with st := .training, lost := none }) n (nbit (sget s .cam (clOff n 0)) 25)) s

/-- A cold start (R335): beside links and supplies, the pipelines run with the parameters of the copy, which holds no COMMIT
(R521). -/
def camCold (s : State) : State :=
  (List.range 8).foldl (fun s n => s.modVp n fun v => { v with live := shadowOf s n }) (camBoot s)

/-- The registers of CAM that the state answers (R337). DESIGN CHOICE: LSTAT shows the last gear while the link is not UP. -/
def camRead (s : State) (off : Nat) : Option (Nat × State) :=
  let bits (f : Nat → Bool) : Nat := (List.range 8).foldl (fun a n => a + b2n (f n) * 2 ^ n) 0
  if off = 4 then some (b2n (s.faulty .cam) * 2 ^ 24 + bits (fun n => (s.link n).power) * 2 ^ 16 + bits (linkUp s), s)
  else if 0x100 ≤ off ∧ off < 0x300 ∧ off % 0x40 = 4 then
    let n := (off - 0x100) / 0x40
    let k := s.link n
    let cur := if k.power then sense s (Block.cam.base + off) % 256 else 0
    some (cur * 2 ^ 24 + nfld (sget s .cam off) 9 8 * 2 ^ 8 + b2n k.power * 16 + (k.shown s.now).code * 4 + k.gear, s)
  else if 0x100 ≤ off ∧ off < 0x300 ∧ off % 0x40 = 0x28 then
    some (sense s (Block.cam.base + off) % 4 * 2 ^ 8 + sget s .cam off % 16, s)
  else if 0x1000 ≤ off ∧ off < 0x2000 ∧ off % 0x200 = 4 then
    let v := s.vp ((off - 0x1000) / 0x200)
    some (v.slots.length * 2 ^ 8 + v.pgen, s)
  else none

/-- The writes of CAM that have an effect of their own (R309, R312, R316, R332, R333, R337). -/
def camWrite (s : State) (l : LaneId) (off v : Nat) : Option State :=
  if off = 8 then some (camCmd s l v)
  else if 0x100 ≤ off ∧ off < 0x300 then
    let n := (off - 0x100) / 0x40
    match off % 0x40 with
    | 0x10 => some (i2cCmd s l n v)
    | 0x28 => some (gated s l .cam off fun s =>
        let cfg := sget s .cam (clOff n 0)
        let k := nfld cfg 10 9
        sputf s .cam off 3 0 (if nbit cfg 8 then nset v k k (nfld (sget s .cam off) k k) else v))
    | _ => none
  else if 0x1000 ≤ off ∧ off < 0x2000 then
    let n := (off - 0x1000) / 0x200
    let r := off % 0x200
    if r = 0 then some (vpRun s l n v)
    else if r = 8 then some (vpBind s l n v)
    else if r = 0x40 then some (gated s l .cam off fun s =>
      let k := vpSlots s n
      let rp := vpGet s n 0x40
      let ahead := (v + k - rp % max 1 k) % max 1 k
      let unread := if k = 0 then 0 else (vpGet s n 0x3C + k - rp % k) % k
      if k ≤ v ∨ unread < ahead then reject s l .cam off rRANGE else sput s .cam off v)
    else if (0xC ≤ r ∧ r < 0x3C) ∨ (0x48 ≤ r ∧ r < 0x54) then some (gated s l .cam off fun s =>
      if regVerdict s l .cam off v = rLOCKED then reject s l .cam off rLOCKED
      else if vpRuns s n then reject s l .cam off rSTATE
      else if (r = 0xC ∧ v % 2 = 1) ∨ (r = 0x30 ∧ v % 4096 ≠ 0) then reject s l .cam off rRANGE
      else regPlain s l .cam off v)
    else none
  else none

end Sys2Proof.Machine
end

