-- ==== Sys2Proof/Machine/EvtTable.lean ====
section
/-! DEFINITION. The event table: arming, firing, completion, commits, missed occurrences (spec/04 R139–R156). -/

namespace Sys2Proof.Machine

/-- A register of the event table. -/
def evtReg (off : Nat) : Nat := Block.evt.base + off
/-- An entry of a lane. -/
def State.ent (s : State) (l : LaneId) (e : Nat) : Entry := tget (s.lane l).entries e
/-- Change an entry. -/
def State.modEnt (s : State) (l : LaneId) (e : Nat) (f : Entry → Entry) : State :=
  s.modLane l fun x => { x with entries := tmod x.entries e f }
/-- EN of an entry. -/
def Entry.en (x : Entry) : Bool := bit x.w2 14
/-- Whether an entry repeats (R139). -/
def Entry.repeats (x : Entry) : Bool := fld x.w2 13 12 != 0
/-- The repeat step in turns (R145). -/
def Entry.step (x : Entry) : Nat := if fld x.w2 13 12 = 1 then 1 else fld x.w2 11 0
/-- The halyard of an entry. -/
def Entry.hyOf (x : Entry) : Nat := fld x.w0 27 24
/-- The position Q of an entry (R122, R139). -/
def Entry.q (x : Entry) : Nat := x.w1.toNat * 2 ^ 24 + fld x.w0 23 0
/-- The position Q of a snapshot. -/
def Snap.q (x : Snap) : Nat := x.turn * 2 ^ 24 + x.frac
/-- Whether a position of a halyard is reached (R98). -/
def hyReached (s : State) (l : LaneId) (n q : Nat) : Bool := reached (hyP s l n) q
/-- FIRE_EN of a lane that is up. -/
def evtOn (s : State) (l : LaneId) : Bool := rbit s l (evtReg 0) 0 && (s.lane l).live
/-- The armed entries of a lane. -/
def armedCount (s : State) (l : LaneId) : Nat := ((s.lane l).entries.filter fun p => p.2.snap.isSome).length

/-- The snapshot taken at arming (R142). -/
def Entry.snapshot (x : Entry) : Snap :=
  { act := fld x.w0 31 28, hy := x.hyOf, frac := fld x.w0 23 0, turn := x.w1.toNat, core := fld x.w2 26 24,
    arg := x.w3.toNat, gen := fld x.w2 23 16 }

/-- A repeating entry advances by whole steps to the first position not yet reached (R150). -/
def advanceTo (s : State) (l : LaneId) (x : Entry) : Entry :=
  let d := (hyP s l x.hyOf + 2 ^ 56 - x.q) % 2 ^ 56
  let st := max 1 x.step
  if d < 2 ^ 55 then { x with w1 := x.w1 + u32 ((d / (st * 2 ^ 24) + 1) * st) } else x

/-- The action of an occurrence is dispatched (R140, R141). -/
def dispatch (s : State) (l : LaneId) (e : Nat) (x : Snap) : State :=
  let a := x.arg
  match x.act with
  | 1 => postCore s l x.core ⟨1, a % 256, e % 4096 + x.gen % 16 * 4096, x.turn, false⟩
  | 2 => enqueue s l (a % 512)
  | 3 => vstart s l a x.q
  | 4 => if s.owns l then adcTrigger s (a % 32) else s
  | 5 => if s.owns l then camTrigger s (a % 8) else s
  | 6 => if s.owns l then lossOpen s (a % 2 ^ 16) (nfld a 21 16) else s
  | 7 => if s.owns l then lossClose s (a % 2 ^ 16) (nfld a 21 16) else s
  | 8 => pclAction s l (a % 2 ^ 16) s.now
  | _ => s

/-- An occurrence fires (R142, R144, R154): FIRECNT, FSTATE, the action. -/
def fire (s : State) (l : LaneId) (e : Nat) (late : Bool) : State :=
  match (s.ent l e).snap with
  | none => s
  | some x =>
    let s := s.modEnt l e fun y => { y with missed := false, lastLate := late, snap := some { x with firing := true } }
    dispatch (rwrap s l (evtReg 0x34) 1) l e x

/-- A missed occurrence (R150): it fires late, or is skipped. -/
def missedOne (s : State) (l : LaneId) (e : Nat) : State :=
  let x := s.ent l e
  if bit x.w2 15 then
    let s := rsetb (rcount s l (evtReg 0x28) 31 0 1) l (evtReg 4) 18 true
    fire (s.modEnt l e fun y => { y with held := false, snap := some y.snapshot }) l e true
  else
    let s := rsetb (rcount s l (evtReg 0x24) 31 0 1) l (evtReg 4) 17 true
    s.modEnt l e fun y =>
      let y := { y with missed := true, held := false }
      if y.repeats then advanceTo s l y else { y with w2 := setBit y.w2 14 false }

/-- Whether an entry's occurrence is missed: it is enabled and unarmed, its halyard in SYNC has reached the position. -/
def isMissed (s : State) (l : LaneId) (x : Entry) : Bool :=
  x.en && x.snap.isNone && inSync s l x.hyOf && hyReached s l x.hyOf x.q

/-- The missed occurrence of one entry, if it is missed. -/
def missedAt (s : State) (l : LaneId) (e : Nat) : State :=
  if evtOn s l && isMissed s l (s.ent l e) then missedOne s l e else s

/-- How far a position lies before the published one, as an order among positions reached together (R144). -/
def posKey (s : State) (l : LaneId) (n q : Nat) : Nat := (q + 2 ^ 55 + 2 ^ 56 - hyP s l n) % 2 ^ 56

/-- The order of R144: ascending halyard, then position, then entry. -/
def fireBefore (a b : Nat × Nat × Nat) : Bool :=
  decide (a.1 < b.1) || (a.1 == b.1 && (decide (a.2.1 < b.2.1) || (a.2.1 == b.2.1 && decide (a.2.2 ≤ b.2.2))))

/-- The armed entries of a lane whose position is reached and that are not dispatched yet, with their place in the order. -/
def fireDue (s : State) (l : LaneId) : List (Nat × Nat × Nat) :=
  ((s.lane l).entries.filterMap fun p => match p.2.snap with
    | some x => if !x.firing && hyReached s l x.hy x.q then some (x.hy, posKey s l x.hy x.q, p.1) else none
    | none => none)

/-- The unarmed entries of a lane that a step of the position has passed over, with their place in the order. -/
def missedDue (s : State) (l : LaneId) : List (Nat × Nat × Nat) :=
  ((s.lane l).entries.filter fun p => isMissed s l p.2).map fun p => (p.2.hyOf, posKey s l p.2.hyOf p.2.q, p.1)

/-- Every missed occurrence of a lane is dealt with, in one order with the armed entries that have reached their position
(R144). -/
def missedPass (s : State) (l : LaneId) : State :=
  if !evtOn s l || !s.lanesUp || (missedDue s l).isEmpty then s
  else ((fireDue s l ++ missedDue s l).mergeSort fireBefore).foldl (fun s k =>
    if (s.ent l k.2.2).snap.isSome then fire s l k.2.2 false else missedOne s l k.2.2) s

/-- ENTRY_ARM (R142, R143, R150): the arming scan visits entry `e` at a tick t with t mod 4,096 = e. DESIGN CHOICE: an unarmed entry
whose position a tick has reached, or that is held at the armed limit, fires late or is skipped at this visit (R150 gives no
instant); what a step of the position passes over is dealt with at that step (`missedPass`). -/
def execEntryArm (l : LaneId) (e : Fin 4096) (s : State) : Out :=
  let x := s.ent l e
  actL s (if s.now % 4096 ≠ e.val ∨ !evtOn s l ∨ !x.en ∨ x.snap.isSome ∨ !inSync s l x.hyOf then s
    else if hyReached s l x.hyOf x.q then missedOne s l e
    else if (x.q + 2 ^ 56 - hyP s l x.hyOf) % 2 ^ 56 ≤ rfld s l (hyReg x.hyOf 0x18) 23 0 then
      if armedCount s l < 1024 then s.modEnt l e fun y => { y with held := false, snap := some y.snapshot }
      else if x.held then s
      else
        let s := rsetb (rcount s l (evtReg 0x30) 31 0 1) l (evtReg 4) 16 true
        s.modEnt l e fun y => { y with held := true }
    else s)

/-- ENTRY_FIRE (R142, R144): the entry fires when it is the first in order of those that have reached their position. FIRE_EN = 0
has disarmed what had not reached it (R154), and does not stop what is firing. -/
def execEntryFire (l : LaneId) (e : Fin 4096) (s : State) : Out :=
  let due := fireDue s l
  actL s (match due.find? fun k => k.2.2 == e.val with
    | none => s
    | some k => if (s.lane l).live && due.all fun m => fireBefore k m then fire s l e false else s)

/-- An occurrence is complete (R145, R148): the entry is updated; `fired` tells it from a cancelled one. -/
def complete (s : State) (l : LaneId) (e : Nat) (x : Snap) (fired : Bool) : State :=
  let s := s.modEnt l e fun y =>
    let late := y.lastLate && fired
    let y := { y with snap := none }
    let y := if fired then { y with occ := (y.occ + 1) % 65536, fgen := x.gen } else y
    let y := match x.commit with
      | some true => if y.repeats then { y with w1 := u32 (x.turn + y.step) } else y
      | some false => y
      | none => if y.repeats then { y with w1 := y.w1 + u32 y.step } else { y with w2 := setBit y.w2 14 false }
    if late && y.repeats && x.commit != some false then advanceTo s l y else y
  missedAt s l e

/-- OCCURRENCE_COMPLETE (R145): the target of a firing occurrence has accepted its action. -/
def execOccurrenceComplete (l : LaneId) (e : Fin 4096) (s : State) : Out :=
  actL s (match (s.ent l e).snap with
    | some x => if x.firing then complete s l e x true else s
    | none => s)

/-! ### Commits and cancels -/

/-- The bits of ARG that an action names (R140). -/
def argMask (act : Nat) : Nat :=
  [0, 0xFF, 0x1FF, 0xFFFF07FF, 0x1F, 0x7, 0x3FFFFF, 0x3FFFFF, 0xFFFF].getD act 0

/-- Whether a commit of these words is rejected with RANGE (R140). -/
def commitBad (w0 w2 w3 : Word) : Bool :=
  let act := fld w0 31 28
  let rep := fld w2 13 12
  let n := fld w2 11 0
  decide (8 < act ∨ rep = 3 ∨ fld w2 31 27 ≠ 0 ∨ w3.toNat &&& argMask act ≠ w3.toNat) ||
    decide (act ≠ 1 ∧ fld w2 26 24 ≠ 0) || decide (if rep = 2 then n < 2 else n ≠ 0) || decide (act = 3 ∧ 47 < fld w3 5 0)

/-- WSTAT of a core after a command (R154). -/
def setWstat (s : State) (l : LaneId) (c e result : Nat) : State :=
  let g := fld (s.ent l e).w2 23 16
  s.modCore l c fun x => { x with wstat := u32 (g * 2 ^ 20 + e * 2 ^ 8 + result) }

/-- COMMIT of a core's staging words into an entry (R146–R148). DESIGN CHOICE: where the stored and the committed REP differ, the
committed one says whether the entry repeats (R147); with the stored EN 1 it then keeps the stored TURN. -/
def commit (s : State) (l : LaneId) (c e : Nat) : State :=
  let b (k : Nat) : Word := tget (s.core l c).wbuf k
  if commitBad (b 0) (b 2) (b 3) then reject s l .evt 0x20 rRANGE
  else
    let x := s.ent l e
    let was := x.en
    let new := { x with w0 := b 0, w1 := b 1, w2 := setFld (b 2) 23 16 (fld x.w2 23 16 + 1), w3 := b 3, held := false }
    let keep := new.repeats && was
    let new := if keep then { new with w1 := x.w1 } else new
    match x.snap with
    | some y =>
      setWstat (s.modEnt l e fun _ => { new with snap := some { y with commit := some was } }) l c e 1
    | none =>
      let new := if keep && hyReached s l new.hyOf new.q then { new with w1 := new.w1 + u32 new.step } else new
      setWstat (missedAt (s.modEnt l e fun _ => new) l e) l c e 0

/-- CANCEL of an entry (R146, R149): too late from the tick in which the halyard has reached the position (R142). -/
def cancel (s : State) (l : LaneId) (c e : Nat) : State :=
  match (s.ent l e).snap with
  | none => setWstat s l c e 3
  | some x => if snapFiring s l x then setWstat s l c e 4 else setWstat (complete s l e x false) l c e 2

/-- A write of WCMD by a core (R146, R154). -/
def wcmd (s : State) (l : LaneId) (c v : Nat) : State :=
  match nfld v 13 12 with
  | 0 => commit s l c (nfld v 11 0)
  | 1 => cancel s l c (nfld v 11 0)
  | _ => reject s l .evt 0x20 rRANGE

/-- ENTRY_COMMIT (R146). -/
def execEntryCommit (l : LaneId) (c : Fin 8) (e : Fin 4096) (s : State) : Out := actL s (wcmd s l c e)

/-- ENTRY_CANCEL (R149). -/
def execEntryCancel (l : LaneId) (c : Fin 8) (e : Fin 4096) (s : State) : Out := actL s (wcmd s l c (2 ^ 12 + e.val))

/-- A write of EVT.CTRL (R154): LOCK, and FIRE_EN, which disarms the armed entries or lets the table go on. -/
def evtCtrl (s : State) (l : LaneId) (v : Nat) : State :=
  let was := rbit s l (evtReg 0) 0
  let s := rset s l (evtReg 0) (rget s l (evtReg 0) / 2 ^ 31 % 2 * 2 ^ 31 ||| (nfld v 31 31 * 2 ^ 31 + v % 2))
  if was && !nbit v 0 then
    (disarm s l fun _ => true).modLane l fun x => { x with entries := tmap x.entries fun _ y => { y with held := false } }
  else if !was && nbit v 0 then missedPass s l
  else s

/-- FIRE_EN (R154): a write of FIRE_EN. -/
def execFireEn (l : LaneId) (on : Bool) (s : State) : Out := actL s (evtCtrl s l (b2n on))

/-! ### Edges and samples -/

/-- ANG_EDGE (R124, R136): an edge of an ANG channel, in both halyard units; an input that ANGMODE turns off gives none. -/
def execAngEdge (ch : Fin 16) (rise : Bool) (s : State) : Out :=
  act s (if nfld (sget s .hal 0x14) (2 * ch + 1) (2 * ch) = 0 then s
    else
      ({ s with ang := tset s.ang ch rise }).both fun l s => missedPass (angEdge s l ch rise) l)

/-- A write of a halyard's configuration; one that selects a source may step the position forward (R133, R135). -/
def halConfigPass (s : State) (l : LaneId) (n : Nat) (r : HalReg) (v : Nat) : State := missedPass (halConfig s l n r v) l

/-- HALYARD_CONFIG (R125). -/
def execHalyardConfig (l : LaneId) (n : Fin 16) (r : HalReg) (v : Word) (s : State) : Out :=
  act s (halConfigPass s l n r v.toNat)

/-- FEED_COMMIT (R134): a write of FEEDT. -/
def execFeedCommit (l : LaneId) (n : Fin 16) (v : Word) (s : State) : Out :=
  actL s (missedPass (feedCommit s l n v.toNat) l)

/-! ### Starts and registers -/

/-- A warm start discards the snapshots (R152). -/
def evtWarm (s : State) (l : LaneId) : State :=
  s.modLane l fun x => { x with entries := tmap x.entries fun _ y => { y with snap := none, held := false } }

/-- The registers of EVT that the state answers (R146, R154). -/
def evtRead (s : State) (l : LaneId) (c off : Nat) : Option (Nat × State) :=
  if off = 4 then some (nfld (rget s l (evtReg 4)) 19 16 * 2 ^ 16 + armedCount s l, s)
  else if off = 8 then some ((s.core l c).wstat.toNat, s)
  else if 0x10 ≤ off ∧ off < 0x20 then some ((tget (s.core l c).wbuf ((off - 0x10) / 4)).toNat, s)
  else if 0x10000 ≤ off ∧ off < 0x20000 then
    let x := s.ent l ((off - 0x10000) / 16)
    some ((match off % 16 with | 0 => x.w0 | 4 => x.w1 | 8 => x.w2 | _ => x.w3).toNat, s)
  else if 0x20000 ≤ off ∧ off < 0x24000 then
    let x := s.ent l ((off - 0x20000) / 4)
    some (x.occ * 2 ^ 16 + b2n x.lastLate * 2 ^ 10 + b2n x.missed * 2 ^ 9 + b2n x.snap.isSome * 2 ^ 8 + x.fgen, s)
  else none

/-- The writes of EVT that have an effect of their own (R146, R154). -/
def evtWrite (s : State) (l : LaneId) (c off v : Nat) : Option State :=
  if off = 0 then some (evtCtrl s l v)
  else if 0x10 ≤ off ∧ off < 0x20 then some (s.modCore l c fun x => { x with wbuf := tset x.wbuf ((off - 0x10) / 4) (u32 v) })
  else if off = 0x20 then some (wcmd s l c v)
  else none

/-- The writes of HAL that have an effect of their own (R134, R153). -/
def halEffect (s : State) (l : LaneId) (off v : Nat) : Option State :=
  if 0x100 ≤ off ∧ off < 0x500 ∧ (off - 0x100) % 0x40 = 0x3C then some (missedPass (feedCommit s l ((off - 0x100) / 0x40) v) l)
  else if 0x100 ≤ off ∧ off < 0x500 ∧ (off - 0x100) % 0x40 = 0 then some (halConfigPass s l ((off - 0x100) / 0x40) .cfg v)
  else halWrite s l off v

end Sys2Proof.Machine
end

