-- ==== Sys2Proof/Machine/Fabric.lean ====
section
/-! DEFINITION. The credit arbiter of the memory fabric (spec/15). -/

namespace Sys2Proof.Machine

/-- A requester. -/
def State.rq (s : State) (n : Nat) : Rq := tget s.fab.rqs n
/-- Change the fabric. -/
def State.modFab (s : State) (f : FabSt → FabSt) : State := { s with fab := f s.fab }
/-- Change a requester. -/
def State.modRq (s : State) (n : Nat) (f : Rq → Rq) : State := s.modFab fun x => { x with rqs := tmod x.rqs n f }
/-- The address of a register of requester `n` (R478). -/
def rqReg (n off : Nat) : Nat := Block.fab.base + 0x100 + 0x20 * n + off

/-- Fabric cycles in a span of HTB ticks: 3.2 to a tick. -/
def fabCycles (ticks : Nat) : Nat := ticks * 16 / 5

/-- The weight that a refill at the present tick takes (R475): one written at this tick waits for the next. DESIGN CHOICE: under
WHOLD a refill takes the weight that was in use, also when a weight written before WHOLD had not taken effect yet. -/
def refillWeight (s : State) (n : Nat) : Nat :=
  let x := s.rq n
  let w := rfld s .a (rqReg n 0) 7 0
  if sfld s .fab 0 2 2 = 1 then x.live.getD (rfld s .a (rqReg n 0) 7 0)
  else if x.wAt = some s.now then x.before
  else w

/-- The refill at the first tick of a window of 5.12 µs (R468, R475): every counter takes its weight; DBW takes the beats that the
window before completed. -/
def creditRefill (s : State) : State :=
  if s.faulty .fab ∨ s.now / 1280 ≤ s.fab.window then s
  else
    let t := 16 * 1280 * (s.now / 1280)
    let ovr := match s.fab.flight with
      | some f => min s.fab.beats ((f.2 - t + 4) / 5)
      | none => 0
    let s := sput s .fab 0x20 (min (s.fab.beats - ovr) 8191)
    let s := s.modFab fun x => { x with window := s.now / 1280, beats := ovr }
    (List.range 16).foldl (fun s n =>
      let w := refillWeight s n
      s.modRq n fun x => { x with credit := w, live := some w }) s

/-- CREDIT_REFILL (R468, R471). -/
def execCreditRefill (s : State) : Out := act s (creditRefill s)

/-- The longest burst of a requester (R467). -/
def rqBurst (n : Nat) : Nat :=
  match n with
  | 7 => 2
  | 8 | 9 => 1
  | 12 => 4
  | _ => 16

/-- The arbiter's choice among waiting requesters (R469): the highest credit, the lower number among equals; without any
credit the first above the last one served so. -/
def arbiter (s : State) (ws : List Nat) : Option Nat :=
  let best := ws.foldl (fun m n => max m (s.rq n).credit) 0
  if 0 < best then ((List.range 16).find? fun n => ws.contains n && (s.rq n).credit == best)
  else ((List.range 16).map fun k => (s.fab.last + 1 + k) % 16).find? fun n => ws.contains n

/-- BURST_GRANT (R469, R470, R474): the fabric can start a burst. `ws` lists the waiting requests, each with its requester,
burst length less one and the cycles waited, oldest first within a requester; `ce` of the beats granted hold an error that
is corrected on the way (R465). A refill that is due is applied first (R471). -/
def execBurstGrant (ws : List (Fin 16 × Fin 16 × BitVec 24)) (ce : Fin 17) (s : State) : Out :=
  let s0 := s
  let s := creditRefill s
  let ok := ws.filter fun w => decide (w.2.1.val < rqBurst w.1)
  let s := (List.range 16).foldl (fun s n => s.modRq n fun x => { x with
    wait := (ok.find? fun w => w.1.val == n).map fun w => (w.2.2.toNat, s.now) }) s
  let busy : Bool := match s.fab.flight with
    | some f => decide (16 * (s.now + 1) ≤ f.2)
    | none => false
  act s0 (if s.faulty .fab ∨ busy then s
    else match arbiter s ((ok.map fun w => w.1.val).filter fun n => !rqFrozen s n) with
      | none => s
      | some n => match ok.find? fun w => w.1.val == n with
        | none => s
        | some w =>
          let burst := w.2.1.val + 1
          let c := (s.rq n).credit
          let start := max (16 * s.now) (match s.fab.flight with | some f => f.2 | none => 0)
          let s := s.modFab fun x => { x with flight := some (n, start + 5 * burst), beats := x.beats + burst }
          let s := s.modRq n fun x => { x with
            credit := c - burst
            wait := ((ok.filter fun v => v.1.val == n)[1]?).map fun v => (v.2.2.toNat, s.now) }
          let s := rwrap s .a (rqReg n 0x10) burst
          let s := rset s .a (rqReg n 0xC) (max (rget s .a (rqReg n 0xC)) w.2.2.toNat)
          let s := scount s .fab 0x14 (min ce burst)
          if c = 0 then (rcount s .a (rqReg n 0x14) 31 0 burst).modFab fun x => { x with last := n } else s)

/-- An uncorrectable error of the DRAM is counted and its address latched (R466). -/
def eccCount (s : State) (beat : Nat) : State := sputf (scount s .fab 0x18 1) .fab 0x1C 31 6 beat

/-- A beat holds an uncorrectable error from now on (R466). -/
def DramQ.spoil (q : DramQ) (beat : Nat) : DramQ := { q with bad := if q.bad.contains beat then q.bad else q.bad ++ [beat] }

/-- SCRUB_READ (R465, R466): the scrub reads a beat; `err` says whether it finds a correctable error (`false`) or an
uncorrectable one (`true`), which the next reader meets. A beat already known to hold one is counted again. -/
def execScrubRead (beat : BitVec 26) (err : Option Bool) (s : State) : Out :=
  act s (if s.faulty .fab then s
    else if err = some true ∨ s.dq.bad.contains beat.toNat then
      let s := eccCount s beat.toNat
      { s with dq := s.dq.spoil beat.toNat }
    else if err = some false then scount s .fab 0x14 1 else s)

/-- Whether a burst of a frozen requester is in flight. -/
def frozenFlight (s : State) : Bool :=
  match s.fab.flight with
  | some f => rqFrozen s f.1 && decide (16 * s.now < f.2)
  | none => false

/-- STAT.DRAINED (R476): no burst of a frozen requester is in flight and its writes have reached the DRAM. Those of a burst that
was in flight at the freeze have at the latest 250 ns after it (R479). -/
def fabDrained (s : State) : Bool :=
  fabFreeze s && !frozenFlight s && (sense s (Block.fab.base + 4) % 2 == 1 || decide (s.fab.drainBy ≤ s.now))

/-- The registers of FAB that the state answers (R478). -/
def fabRead (s : State) (off : Nat) : Option (Nat × State) :=
  if off = 4 then some (b2n (s.faulty .fab) * 2 ^ 16 + b2n (fabDrained s) * 2 + b2n (fabFreeze s), s)
  else if 0x100 ≤ off ∧ off < 0x300 ∧ off % 0x20 = 4 then some ((s.rq ((off - 0x100) / 0x20)).credit, s)
  else if 0x100 ≤ off ∧ off < 0x300 ∧ off % 0x20 = 8 then
    some (match (s.rq ((off - 0x100) / 0x20)).wait with
      | some w => min (w.1 + fabCycles (s.now - w.2)) (2 ^ 24 - 1)
      | none => 0, s)
  else none

/-- The writes of FAB that have an effect of their own (R475, R476). -/
def fabWrite (s : State) (l : LaneId) (off v : Nat) : Option State :=
  if off = 0 then some (gated s l .fab 0 fun s =>
    let was := fabFreeze s
    let s := regPlain s l .fab 0 v
    if !was && fabFreeze s then s.modFab fun x => { x with drainBy := if frozenFlight s then s.now + 63 else s.now } else s)
  else if 0x100 ≤ off ∧ off < 0x300 ∧ off % 0x20 = 0 then some (gated s l .fab off fun s =>
    let n := (off - 0x100) / 0x20
    let old := rfld s .a (rqReg n 0) 7 0
    let s := regPlain s l .fab off v
    s.modRq n fun x =>
      let x := { x with live := x.live.orElse fun _ => some old }
      if x.wAt = some s.now then x else { x with wAt := some s.now, before := old })
  else none

/-- A write of a FAB register. -/
def fabStore (s : State) (l : LaneId) (off v : Nat) : State := (fabWrite s l off v).getD s

/-- WEIGHT_WRITE (R475). -/
def execWeightWrite (l : LaneId) (n : Fin 16) (v : Word) (s : State) : Out :=
  act s (fabStore s l (0x100 + 0x20 * n) v.toNat)

/-- WEIGHT_HOLD (R475): WHOLD takes a value; the rest of CTRL is written as it stands. -/
def execWeightHold (l : LaneId) (on : Bool) (s : State) : Out :=
  act s (fabStore s l 0 (nset (sget s .fab 0) 2 2 (b2n on)))

/-- FABRIC_FREEZE (R476). -/
def execFabricFreeze (l : LaneId) (on : Bool) (s : State) : Out :=
  act s (fabStore s l 0 (nset (sget s .fab 0) 1 1 (b2n on)))

/-- A warm start clears FREEZE and WHOLD and keeps the counters (R477). -/
def fabWarm (s : State) : State := sputf s .fab 0 2 1 0

end Sys2Proof.Machine
end

