-- ==== Sys2Proof/Machine/Panel.lean ====
section
/-! DEFINITION. The pennant panel (spec/17). -/

namespace Sys2Proof.Machine

/-- Change the panel. -/
def State.modPnl (s : State) (f : PnlSt → PnlSt) : State := { s with pnl := f s.pnl }
/-- An update slot. -/
def State.pslot (s : State) (n : Nat) : PSlot := tget s.pnl.slots n
/-- Change an update slot. -/
def State.modPslot (s : State) (n : Nat) (f : PSlot → PSlot) : State := s.modPnl fun p => { p with slots := tmod p.slots n f }
/-- Whether the panel logic runs: a hard fault ends it (R27). -/
def pnlOk (s : State) : Bool := !s.faulty .pnl
/-- GEOM.WIDTH. -/
def pnlWidth (s : State) : Nat := sfld s .pnl 0x10 9 0
/-- GEOM.HEIGHT. -/
def pnlHeight (s : State) : Nat := sfld s .pnl 0x10 24 16
/-- A posting of the panel (R514), also of what it still does after a hard fault. -/
def pnlPost (s : State) (code data : Nat) : State := postEngine s .pnl code data

/-- The panel takes a state; a change is posted (R514). -/
def pnlGo (s : State) (st : PanelState) : State :=
  if s.pnl.st = st then s else pnlPost (s.modPnl fun p => { p with st := st }) 2 st.code

/-- A pixel of a line (R498). -/
def pixel (bs : List Byte) (x : Nat) : Nat := (bs.getD (x / 4) 0).toNat / 4 ^ (x % 4) % 4
/-- The pixels of a line below WIDTH differ. -/
def lineDiff (w : Nat) (a b : List Byte) : Bool := (List.range w).any fun x => pixel a x != pixel b x

/-- Word `k` of waveform `w` of a band (R501). -/
def waveWord (s : State) (b w k : Nat) : Nat := sget s .pnl (0x10000 + 0x800 * b + 0x20 * w + 4 * k)
/-- The waveform of a pixel (R501, R506). -/
def waveOf (full clear : Bool) (o n : Nat) : Nat := if clear then 32 else (if full then 16 else 0) + 4 * o + n
/-- Frame `k` of a waveform: past its length 0 V (R501, R506). -/
def waveFrame (s : State) (b w k : Nat) : Nat :=
  if waveWord s b w 0 ≤ k then 0 else waveWord s b w (1 + k / 16) / 4 ^ (k % 16) % 4
/-- K of a line: the largest LEN among its pixels (R506). -/
def lineLen (s : State) (x : PSlot) (o n : List Byte) : Nat :=
  (List.range (pnlWidth s)).foldl (fun m i => max m (waveWord s x.band (waveOf x.full x.clear (pixel o i) (pixel n i)) 0)) 0

/-! ### Temperature -/

/-- The sensor beside J4, signed, 0.1 °C. -/
def pnlSensor (s : State) : Int := signed 16 (sense s (Block.pnl.base + 0x28))
/-- The temperature in use (R502). -/
def pnlTemp (s : State) : Int :=
  if sfld s .pnl 0x20 0 0 = 1 ∧ !s.pnl.tempStale then signed 16 (sget s .pnl 0x24) else pnlSensor s
/-- The limits TLIM0–TLIM6, °C, of two register values. -/
def tlims (a b : Nat) : List Int :=
  ((List.range 4).map fun k => signed 8 (nfld a (8 * k + 7) (8 * k))) ++ (List.range 3).map fun k => signed 8 (nfld b (8 * k + 7) (8 * k))
/-- The band of a temperature (R502). -/
def bandOf (s : State) (t : Int) : Nat := ((tlims (sget s .pnl 0x2C) (sget s .pnl 0x30)).filter fun l => decide (10 * l ≤ t)).length

/-- TEMP_STALE (R502): the sensor is used in TEMPW's place. -/
def execTempStale (s : State) : Out :=
  act s (if s.pnl.tempAt + ms 60000 ≤ s.now ∧ pnlOk s then
    sput (s.modPnl fun p => { p with tempStale := true }) .pnl 0x28 (pattern 16 (pnlSensor s)) else s)

/-! ### Supplies -/

/-- The supplies of a panel that is powered (R508). -/
def allRails : List Rail := [.vgh, .vgl, .vpos, .vneg, .vcom]

/-- The power-up starts (R507, R509): the marker is written before the supplies rise. Not before the crack loop was
measured (R512), nor in a power failure or PARK, nor after a hard fault. -/
def pnlPowerUp (s : State) : State :=
  if !pnlOk s ∨ s.pnl.st ≠ .discharged ∨ s.pnl.discharging ∨ !s.pnl.checked ∨ s.sup.power = .holdup ∨ s.sup.modMode = .park ∨
      !(s.pnl.slots.any fun x => x.2.st == .pending) then s
  else pnlGo (s.modPnl fun p => { p with marker := true, powerup := true, rails := allRails }) .updating

/-- The discharge sequence begins (R508). -/
def pnlDischarge (s : State) : State :=
  pnlGo (s.modPnl fun p =>
    { p with
      discharging := true, disAt := s.now, powerup := false, holdEnd := none, thenOff := false, stopLines := false
      frameEnd := none, nextLine := 0, lineAt := s.now, lineTmo := false }) .discharged

/-- A slot becomes free and its update's end is posted (R504, R506, R511). -/
def pslotEnd (s : State) (n : Nat) (discarded : Bool) : State :=
  let u := (s.pslot n).uid
  pnlPost (s.modPslot n fun _ => {}) 1 (u + b2n discarded * 2 ^ 16)

/-- The slots in a state, oldest first. -/
def pslots (s : State) (p : SlotState → Bool) : List Nat :=
  ((s.pnl.slots.filter fun x => p x.2.st).mergeSort fun a b => decide (a.2.order ≤ b.2.order)).map (·.1)

/-- The lines of a slot that are pending or running: a running update's finished lines are neither. -/
def slotHeld (s : State) (n : Nat) : Tab (List Byte) :=
  let x := s.pslot n
  x.lines.filter fun q => x.st == .pending || (tfind s.pnl.lines q.1).any fun y => y.slot == n

/-- The target of each line is the content of the newest pending or running update for it, else what `base` holds (R499). -/
def pnlHeld (s : State) (base : Tab (List Byte)) : State :=
  let held := (pslots s fun x => x == .pending || x == .running).flatMap (slotHeld s)
  s.modPnl fun p => { p with targets := held.foldl (fun t q => tset t q.1 q.2) base }

/-- The same, over what the lines display. -/
def pnlTargets (s : State) : State := pnlHeld s s.pnl.disp

/-- Every pending update is discarded (R511, R512, R550). -/
def pnlDiscard (s : State) : State :=
  pnlTargets ((pslots s fun x => x == .pending || x == .loading).foldl (fun s n => pslotEnd s n true) s)

/-- The running lines of the slots that `p` selects stop where they are: they show a mixed image, which is open. DESIGN CHOICE: their
updates end with the discarded bit at HUABORT as they do at a crack (R511, R512). -/
def pnlStopLines (s : State) (p : Nat → Bool) : State :=
  let gone := s.pnl.lines.filter fun x => p x.2.slot
  let s := gone.foldl (fun s x =>
    let b := (List.range 160).map fun k => Config.freeByte (s.freeCtr + k)
    { s with freeCtr := s.freeCtr + 160, pnl := { s.pnl with disp := tset s.pnl.disp x.1 b } }) s
  let s := s.modPnl fun q => { q with lines := q.lines.filter fun x => !p x.2.slot, stopped := q.stopped + gone.length }
  pnlTargets (((pslots s fun x => x == .running).filter p).foldl (fun s n => pslotEnd s n true) s)

/-- What the marker asks of a panel that starts from DISCHARGED (R510): the stored image, or the clearing refresh in slot U0 before any
other update. -/
def pnlRefresh (s : State) : State :=
  if !s.pnl.marker then pnlTargets (s.modPnl fun p => { p with disp := p.stored, startDue := false })
  else
    let white := List.replicate 160 (0 : Byte)
    let lines := (List.range (pnlHeight s)).map fun l => (l, white)
    let s := s.modPslot 0 fun _ => { st := .pending, uid := 0, order := 0, full := true, clear := true, lines := lines }
    pnlPowerUp (pnlHeld (s.modPnl fun p => { p with startDue := false }) [])

/-- A start of the panel (R510, R512): from DISCHARGED the loop is measured before any power-up, and R510 applies once a discharge that
runs has ended; from another state it continues as it was. -/
def pnlStart (s : State) : State :=
  if s.pnl.st ≠ .discharged then s
  else
    let s := s.modPnl fun p => { p with checked := false, crackNext := s.now }
    if s.pnl.discharging then s.modPnl fun p => { p with startDue := true } else pnlRefresh s

/-! ### Updates -/

/-- Whether an update may take a slot. DESIGN CHOICE: slot U0 stays free for the clearing refresh that follows the present discharge
(R510). -/
def slotFree (s : State) (n : Nat) : Bool := (s.pslot n).st == .free && !(n == 0 && s.pnl.startDue && s.pnl.aborted)

/-- CMD UPDATE (R504). DESIGN CHOICE: of several reasons STATE comes first, then QFULL, then RANGE. -/
def pnlUpdate (s : State) (l : LaneId) (v : Nat) : State :=
  let a := nfld v 8 0
  let z := nfld v 17 9
  if s.pnl.st = .cracked ∨ s.sup.power = .holdup then reject s l .pnl 8 rSTATE
  else match (List.range 8).find? (slotFree s) with
    | none => reject s l .pnl 8 0x10
    | some n =>
      if z < a ∨ pnlHeight s ≤ z then reject s l .pnl 8 rRANGE
      else
        let u := if s.pnl.uid = 65535 then 1 else s.pnl.uid + 1
        let s := s.modPslot n fun _ => {
          st := .loading, uid := u, order := s.pnl.order + 1, full := nbit v 27, first := a, last := z, img := sget s .pnl 0x14 }
        sput (s.modPnl fun p => { p with uid := u, order := p.order + 1 }) .pnl 0x34 u

/-- The image line at a DRAM offset. -/
def imgLine (s : State) (img l : Nat) : List Byte := dramRead s 0 (img + 160 * l) 160

/-- The target of a line (R499). -/
def pnlTarget (s : State) (l : Nat) : List Byte := (tfind s.pnl.targets l).getD (List.replicate 160 0)

/-- The content that a line displays. -/
def pnlShown (s : State) (l : Nat) : List Byte := (tfind s.pnl.disp l).getD (List.replicate 160 0)

/-- UPDATE_LOADED (R504): the oldest loading update has read its lines. The dirty ones become its lines and their targets;
without one it completes at once. Line l of the image stands at 160 × l. Nothing is read while the fabric grants PNL nothing (R476,
R477). -/
def execUpdateLoaded (s : State) : Out :=
  act s (match (pslots s fun x => x == .loading).head?, pnlOk s && !rqBlocked s 14 with
    | some n, true =>
      let x := s.pslot n
      let s := dramMeet s (.engine .pnl) 0 (x.img + 160 * x.first) (160 * (x.last + 1 - x.first))
      let ls := ((List.range (x.last + 1 - x.first)).map fun i => (x.first + i, imgLine s x.img (x.first + i))).filter fun p =>
        x.full || lineDiff (pnlWidth s) p.2 (pnlTarget s p.1)
      if ls.isEmpty then pslotEnd s n false
      else
        let s := s.modPslot n fun y => { y with st := .pending, lines := ls }
        pnlPowerUp (s.modPnl fun p => { p with targets := ls.foldl (fun t q => tset t q.1 q.2) p.targets, holdEnd := none })
    | _, _ => s)

/-- An update starts its lines (R502, R505, R506). -/
def updateStart (s : State) (n : Nat) : State :=
  let t := pnlTemp s
  let b := bandOf s t
  let s := if t < -250 ∨ 700 < t then sputb s .pnl 4 10 true else s
  let per := sfld s .pnl (0x60 + 4 * b) 5 0
  let s := sput s .pnl 0x28 (pattern 16 t)
  let s := s.modPslot n fun x => { x with st := .running, band := b, fper := per, frameEnd := s.now + ms per }
  let x := s.pslot n
  let s := s.modPnl fun p => { p with band := b }
  x.lines.foldl (fun s q =>
    let o := pnlShown s q.1
    s.modPnl fun p => { p with lines := tset p.lines q.1 { slot := n, len := lineLen s x o q.2, old := o, new := q.2 } }) s

/-- Lines that are through their frames finish, and updates without a line left complete (R506). -/
def pnlFinish (s : State) : State :=
  let ovr := s.pnl.lines.filter fun x => decide (x.2.len ≤ x.2.k)
  let s := s.modPnl fun p => { p with
    lines := p.lines.filter fun x => !decide (x.2.len ≤ x.2.k)
    disp := ovr.foldl (fun t x => tset t x.1 x.2.new) p.disp }
  (pslots s fun x => x == .running).foldl (fun s n =>
    if s.pnl.lines.any fun x => x.2.slot == n then s else pslotEnd s n false) s

/-- The pending updates that may start at a boundary (R505), oldest first. -/
def updEligible (s : State) : List Nat :=
  let pend := pslots s fun x => x == .pending
  let has (n l : Nat) : Bool := (s.pslot n).lines.any fun q => q.1 == l
  pend.filter fun n => (s.pslot n).lines.all fun q =>
    (tfind s.pnl.lines q.1).isNone && !(pend.takeWhile fun m => m != n).any fun m => has m q.1

/-- A frame begins; it ends with the first frame to end of the updates that run. DESIGN CHOICE: R502 gives each update a period of its
own, so a boundary comes whenever the frame of one of them ends, and all lines are sent anew from there (R500). -/
def frameBegin (s : State) : State :=
  let ends := (pslots s fun x => x == .running).map fun n => (s.pslot n).frameEnd
  s.modPnl fun p => { p with frameEnd := ends.min?, nextLine := 0, lineAt := s.now, lineTmo := false }

/-- Whether the present frame of a slot's update has ended. -/
def slotOver (s : State) (n : Nat) : Bool := (s.pslot n).st == .running && decide ((s.pslot n).frameEnd ≤ s.now)

/-- The lines of the updates whose frame has ended come to their next frame (R506). -/
def pnlAdvance (s : State) : State :=
  s.modPnl fun p => { p with
    lines := tmap p.lines fun _ x => if slotOver s x.slot then { x with k := x.k + 1 } else x
    slots := tmap p.slots fun n x => if slotOver s n then { x with frameEnd := s.now + ms x.fper } else x }

/-- A frame boundary (R505, R506, R507): updEligible updates start, lines without frames finish; with nothing left the panel
goes IDLE or, when that was decided, discharges. -/
def pnlBoundary (s : State) : State :=
  let s := pnlFinish (if s.pnl.thenOff then s else (updEligible s).foldl updateStart s)
  if !s.pnl.lines.isEmpty then frameBegin (pnlGo s .updating)
  else
    let s := s.modPnl fun p => { p with frameEnd := none }
    if s.pnl.thenOff then pnlDischarge s
    else if s.pnl.slots.any fun x => x.2.st == .pending then s
    else pnlGo (s.modPnl fun p => { p with holdEnd := some (s.now + ms (sfld s .pnl 0x18 31 16)) }) .idle

/-- Whether a frame has ended: its time is over and all its lines went out (R500). -/
def frameOver (s : State) : Bool := due s.pnl.frameEnd s.now && decide (pnlHeight s ≤ s.pnl.nextLine)

/-- PANEL_FRAME (R505): a frame boundary; in IDLE one comes as soon as an update is pending. Stopped lines end here, each at the end of
its own present frame (R511 and a hard fault); those that are through finish. DEDUCED: lines that a hard fault stops leave the marker set
as R511's do. -/
def execPanelFrame (s : State) : Out :=
  act s (match s.pnl.st with
    | .updating =>
      if s.pnl.powerup then s
      else if s.pnl.frameEnd.isSome && !frameOver s then s
      else
        let t := pnlFinish (pnlAdvance s)
        if !s.pnl.stopLines then pnlBoundary t
        else
          let t := pnlStopLines t (slotOver s)
          if !t.pnl.lines.isEmpty then frameBegin t
          else
            let t := if pnlOk t then pnlPost (sputb t .pnl 4 8 true) 3 t.pnl.stopped else t
            pnlDischarge (t.modPnl fun p => { p with aborted := true })
    | .idle => if (s.pnl.slots.any fun x => x.2.st == .pending) && pnlOk s then pnlBoundary s else s
    | _ => s)

/-- The drive codes of a line in the present frame (R500, R506). -/
def lineCodes (s : State) (l : Nat) : List Nat :=
  match tfind s.pnl.lines l with
  | none => List.replicate (pnlWidth s) 0
  | some x =>
    let y := s.pslot x.slot
    (List.range (pnlWidth s)).map fun i => waveFrame s y.band (waveOf y.full y.clear (pixel x.old i) (pixel x.new i)) x.k

/-- PANEL_LINE_SEND (R500): PBSY is low and the next line of the frame is clocked out. With the last line of a discharge's frame VGH goes
off first (R508). -/
def execPanelLineSend (s : State) : Out :=
  act s (if (s.pnl.frameEnd.isNone && !s.pnl.discharging) || decide (pnlHeight s ≤ s.pnl.nextLine) then s
    else s.modPnl fun p => { p with
      rails := if p.discharging && decide (pnlHeight s ≤ p.nextLine + 1) then p.rails.erase .vgh else p.rails
      wire := some (p.nextLine, lineCodes s p.nextLine), nextLine := p.nextLine + 1, lineAt := s.now, lineTmo := false })

/-- PBSY_TIMEOUT (R500): the next line has waited more than 1 ms for PBSY. -/
def execPbsyTimeout (s : State) : Out :=
  act s (if (s.pnl.frameEnd.isNone && !s.pnl.discharging) || decide (pnlHeight s ≤ s.pnl.nextLine) || s.pnl.lineTmo ||
      decide (s.now ≤ s.pnl.lineAt + ms 1) then s
    else
      let s := scount (sputb s .pnl 4 9 true) .pnl 0x3C 1
      pnlPost (s.modPnl fun p => { p with lineTmo := true }) 5 s.pnl.nextLine)

/-- PANEL_POWERED (R507): the supplies reach regulation and the first frame begins. -/
def execPanelPowered (s : State) : Out :=
  act s (if s.pnl.powerup then pnlBoundary (s.modPnl fun p => { p with powerup := false }) else s)

/-- PANEL_POWER_HOLD (R507): PWRHOLD has passed since the last line; a pending update wins. -/
def execPanelPowerHold (s : State) : Out :=
  act s (if s.pnl.st = .idle ∧ due s.pnl.holdEnd s.now ∧
      !(s.pnl.slots.any fun x => x.2.st == .pending || x.2.st == .loading) then pnlDischarge s else s)

/-- DISCHARGE_DONE (R508–R510): the sequence ends, not before 18 ms and its frame are over: VGL, VPOS and VNEG have gone off in
that order, then VCOM was released. With no line stopped the
marker is cleared and the displayed image stored; a start or an update that waited goes on. -/
def execDischargeDone (s : State) : Out :=
  act s (if !s.pnl.discharging ∨ s.now < s.pnl.disAt + ms 18 ∨ s.pnl.nextLine < pnlHeight s then s
    else
      let s := s.modPnl fun p =>
        { p with
          discharging := false, rails := [], aborted := false, marker := p.marker && p.aborted
          stored := if p.marker && !p.aborted then p.disp else p.stored }
      pnlPowerUp (if s.pnl.startDue then pnlRefresh s else s))

/-- CMD DISCHARGE (R508). -/
def pnlDischargeCmd (s : State) (l : LaneId) : State :=
  if s.pnl.st = .idle then pnlDischarge s else reject s l .pnl 8 rSTATE

/-! ### The crack loop -/

/-- A loop resistance in Ω is measured (R512): above 2 kΩ the high voltages go at once and everything is abandoned. -/
def pnlCrack (s : State) (r : Nat) : State :=
  let s := sput s .pnl 0x38 (min r 65535)
  if r ≤ 2000 ∨ s.pnl.st = .cracked then s
  else
    let s := pnlDiscard (pnlStopLines s fun _ => true)
    let s := s.modPnl fun p => { p with
      rails := [], aborted := false, powerup := false, discharging := false, frameEnd := none, holdEnd := none, thenOff := false, stopLines := false, startDue := false }
    pnlPost (pnlGo s .cracked) 4 (min r 65535)

/-- CRACK_CHECK (R512): the loop measures `r` Ω at start and then every 10 s. -/
def execCrackCheck (r : BitVec 20) (s : State) : Out :=
  act s (if s.now < s.pnl.crackNext then s
    else
      pnlPowerUp (pnlCrack (s.modPnl fun p => { p with crackNext := s.now + ms 10000, checked := true }) r.toNat))

/-- CMD RECHECK (R513): legal only in CRACKED; at or below 1.8 kΩ the panel is DISCHARGED and starts under R510. -/
def pnlRecheck (s : State) (l : LaneId) : State :=
  if s.pnl.st ≠ .cracked then reject s l .pnl 8 rSTATE
  else
    let r := sense s (Block.pnl.base + 0x38)
    let s := sput s .pnl 0x38 (min r 65535)
    if r ≤ 1800 then pnlRefresh (pnlGo s .discharged) else s

/-! ### Power failure, PARK, faults, starts -/

/-- The time to the end of the longest-running line (R511), each line with the frames of its own update. -/
def pnlRest (s : State) : Nat :=
  s.pnl.lines.foldl (fun m q =>
    let x := s.pslot q.2.slot
    max m (x.frameEnd - s.now + ms (x.fper * (q.2.len - q.2.k - 1)))) 0

/-- The panel ends what it does and discharges; `stop` breaks off running lines at the end of their frame. -/
def pnlWind (s : State) (stop : Bool) : State :=
  match s.pnl.st with
  | .idle => pnlDischarge s
  | .updating =>
    if s.pnl.lines.isEmpty then pnlDischarge s
    else s.modPnl fun p => { p with thenOff := true, stopLines := stop, stopped := 0 }
  | _ => s

/-- HOLD-UP entry (R511). -/
def pnlHoldup (s : State) : State :=
  let s := pnlDiscard s
  pnlWind s (s.pnl.stopLines || decide (ms (sfld s .pnl 0x1C 7 0) < pnlRest s + ms 20))

/-- PARK entry (R550): no budget. -/
def pnlPark (s : State) : State := pnlWind (pnlDiscard s) s.pnl.stopLines

/-- A hard fault (R515 "Lanes, faults and starts"): running lines stop at the end of their frame. -/
def pnlFault (s : State) : State := pnlWind s true

/-- A cold start: the marker and the stored image of the MRAMs remain (R509, R510). -/
def pnlCold (s : State) : State :=
  pnlStart { s with pnl := { marker := s.pnl.marker, stored := s.pnl.stored, crackNext := s.now, tempAt := s.now } }

/-- Whether the panel is safe (R539 step 4, R541). -/
def pnlSafe (s : State) : Bool := (s.pnl.st == .discharged && !s.pnl.discharging) || s.pnl.st == .cracked

/-! ### Registers -/

/-- PNL.CMD (R515). -/
def pnlCmd (s : State) (l : LaneId) (v : Nat) : State :=
  gated s l .pnl 8 fun s => match nfld v 31 28 with
    | 1 => pnlUpdate s l v
    | 2 => pnlDischargeCmd s l
    | 3 => pnlRecheck s l
    | _ => reject s l .pnl 8 rRANGE

/-- PANEL_UPDATE (R504). -/
def execPanelUpdate (l : LaneId) (full : Bool) (first last : BitVec 9) (s : State) : Out :=
  act s (pnlCmd s l (2 ^ 28 + b2n full * 2 ^ 27 + last.toNat * 2 ^ 9 + first.toNat))

/-- PANEL_DISCHARGE (R508). -/
def execPanelDischarge (l : LaneId) (s : State) : Out := act s (pnlCmd s l (2 * 2 ^ 28))

/-- RECHECK (R513). -/
def execRecheck (l : LaneId) (s : State) : Out := act s (pnlCmd s l (3 * 2 ^ 28))

/-- The registers of PNL that the state answers (R515). DESIGN CHOICE: STAT shows the band of the update that started last, and TEMP
the sensor's temperature as it was taken last, at the start of an update or when TEMPW went stale. -/
def pnlRead (s : State) (off : Nat) : Option (Nat × State) :=
  if off = 4 then
    some (b2n (s.faulty .pnl) * 2 ^ 16 + b2n s.pnl.marker * 2 ^ 12 + b2n s.pnl.tempStale * 2 ^ 11 + sfld s .pnl 4 10 8 * 2 ^ 8 +
      s.pnl.band * 16 + b2n s.pnl.powerup * 8 + b2n s.pnl.discharging * 4 + s.pnl.st.code, s)
  else if off = 0x28 then some (if sfld s .pnl 0x20 0 0 = 1 ∧ !s.pnl.tempStale then sget s .pnl 0x24 else sget s .pnl 0x28, s)
  else if 0x40 ≤ off ∧ off < 0x60 ∧ off % 4 = 0 then
    let x := s.pslot ((off - 0x40) / 4)
    some (x.uid * 2 ^ 16 + x.lines.length % 512 * 64 + x.st.code, s)
  else if 0x20000 ≤ off ∧ off < 0x20000 + 160 * 384 then
    some (leAt (pnlTarget s ((off - 0x20000) / 160)) ((off - 0x20000) % 160) 4, s)
  else none

/-- A waveform, period or limit register (R503). -/
def pnlTable (off : Nat) : Bool :=
  decide ((0x60 ≤ off ∧ off < 0x80) ∨ off = 0x2C ∨ off = 0x30 ∨ (0x10000 ≤ off ∧ off < 0x14000))

/-- Whether limits ascend strictly (R503). -/
def ascending : List Int → Bool
  | a :: b :: t => decide (a < b) && ascending (b :: t)
  | _ => true

/-- The writes of PNL that have an effect of their own (R503, R515). -/
def pnlWrite (s : State) (l : LaneId) (off v : Nat) : Option State :=
  if off = 0x0C then none
  else if off = 8 then some (pnlCmd s l v)
  else some (gated s l .pnl off fun s =>
    let bad := (off = 0x10 && v % 8 != 0) || (off = 0x14 && offsetBad v 64) ||
      (off = 0x2C && !ascending (tlims v (sget s .pnl 0x30))) || (off = 0x30 && !ascending (tlims (sget s .pnl 0x2C) v))
    if regVerdict s l .pnl off v = rLOCKED then regPlain s l .pnl off v
    else if pnlTable off && s.pnl.st == .updating then reject s l .pnl off rSTATE
    else if bad then reject s l .pnl off rRANGE
    else
      let s := regPlain s l .pnl off v
      if off = 0x24 then s.modPnl fun p => { p with tempAt := s.now, tempStale := false } else s)

end Sys2Proof.Machine
end

