-- ==== Sys2Proof/Machine/Power.lean ====
section
/-! DEFINITION. Supplies and dissipation (spec/21 R586–R600). -/

namespace Sys2Proof.Machine

/-- Change PWR. -/
def State.modPwr (s : State) (f : PwrSt → PwrSt) : State := { s with pwr := f s.pwr }

/-- CAMERA_BROWNOUT (R586): VLOG below 7.0 V for 1 ms: every camera output switches off, the links go down. -/
def execCameraBrownout (s : State) : Out :=
  act s (if s.pwr.brownout then s
    else
      let on := (List.range 8).map fun n => (n, (s.link n).power)
      let s := (List.range 8).foldl (fun s n => if (s.link n).power then linkDrop (camPower s n false) n else s) s
      postEngine (s.modPwr fun p => { p with brownout := true, camOn := on }) .pwr 9 1)

/-- BROWNOUT_RELEASE (R586): above 7.5 V for 10 ms: every output that was on comes back; latched and shed ones stay off. -/
def execBrownoutRelease (s : State) : Out :=
  act s (if !s.pwr.brownout then s
    else
      let on := s.pwr.camOn
      let s := s.modPwr fun p => { p with brownout := false, camOn := [] }
      let s := (List.range 8).foldl (fun s n => if tget on n && !tget s.pwr.camShed n then camPower s n true else s) s
      postEngine s .pwr 9 0)

/-- VBAT_Vk in 10 mV (R598). -/
def vbatV (s : State) (k : Nat) : Nat := nfld (sense s (Block.pwr.base + 0x3C)) (k * 16 + 15) (k * 16)

/-- VALVE_SUPPLY_UV (R588): VBAT_Vk has been below the threshold for 100 µs. -/
def execValveSupplyUv (k : Fin 2) (s : State) : Out :=
  act s (if tget s.pwr.vsuv k ∨ uvLimit s ≤ vbatV s k then s
    else postEngine (s.modPwr fun p => { p with vsuv := tset p.vsuv k true }) .pwr 7 (k + 2 ^ 8))

/-- VALVE_SUPPLY_RETURN (R588): above the threshold again. -/
def execValveSupplyReturn (k : Fin 2) (s : State) : Out :=
  act s (if vbatV s k < uvLimit s then s else s.modPwr fun p => { p with vsuv := tset p.vsuv k false })

/-- VALVE_SUPPLY_OVER (R588): a 1 s mean in 100 mA; above 30 A it sets VSOVERk. -/
def execValveSupplyOver (k : Fin 2) (mean : BitVec 16) (s : State) : Out :=
  act s (
    let s := s.modPwr fun p => { p with vsupi := tset p.vsupi k mean.toNat }
    if mean.toNat ≤ 300 ∨ sfld s .pwr 4 (4 + k) (4 + k) = 1 then s
    else postEngine (sputb s .pwr 4 (4 + k) true) .pwr 7 k)

/-- Whether the sensor supplies stand at SSCTRL (R590): not in PARK from step 4 nor with the module off. -/
def ssAlive (s : State) : Bool := s.sup.phase != .off && s.sup.phase != .parked
/-- Whether a sensor supply is on: 0–7 SS5, 8–11 SS10 (R590). -/
def ssOn (s : State) (n : Nat) : Bool := ssAlive s && nbit (sget s .pwr 0x58) n && !nbit (sget s .pwr 0x5C) n

/-- SENSOR_SUPPLY_FAULT (R590): above its limit for 10 ms. -/
def execSensorSupplyFault (n : Fin 12) (s : State) : Out :=
  act s (if ssOn s n then postEngine (sputb s .pwr 0x5C n true) .pwr 6 n else s)

/-- TBASE, signed, 0.1 °C. -/
def tBase (s : State) : Int := signed 16 (sense s (Block.pwr.base + 0x20))

/-- The derating curve and the budget in 0.1 W (R594). -/
def budgetOf (mode : Nat) (dissbudget : Nat) (t : Int) : Nat :=
  let b : Int := if mode = 0 then 950 - max (t - 650) 0 * 19 / 8 else 500 - max (t - 400) 0 * 2 / 3
  (max (min (dissbudget : Int) b) 0).toNat

/-- BUDNOW (R594). -/
def budget (s : State) : Nat :=
  let mode := sfld s .pwr 0x10 0 0
  budgetOf mode (sfld s .pwr 0x14 15 0)
    (if mode = 1 ∧ !s.pwr.tambStale then signed 16 (sfld s .pwr 0x1C 15 0) else tBase s)

/-- TAMB_STALE (R594). -/
def execTambStale (s : State) : Out :=
  act s (if s.pwr.tambAt + ms 60000 ≤ s.now then s.modPwr fun p => { p with tambStale := true } else s)

/-- Whether shedding may take place: not in HOLD-UP, PARK entry or PARK (R597), nor after a hard fault (R600). -/
def dissSheds (s : State) : Bool := !outFrozen s && !s.faulty .pwr

/-- HUSTAT.HUREADY with an energy in 0.1 J (R592). -/
def huReadyNow (s : State) (e : Nat) : Bool := decide (105 ≤ e) || (s.pwr.huReady && decide (95 ≤ e))

/-- PWR knows the bank's usable energy in 0.1 J, and its voltage (R592). -/
def bankEnergy (s : State) (e : Nat) : State := s.modPwr fun p => { p with
  energy := e, huReady := huReadyNow s e, bankV := sense s (Block.pwr.base + 0x4C) % 65536 }

/-- No dissipation is shed and the DTRIP timer stands at 0 (R597). -/
def shedStop (s : State) : State := s.modPwr fun p => { p with overSince := none, shedding := false }

/-- DISS_ESTIMATE (R592, R594–R596): every 1 ms, from the measured compute power, the power delivered to the cameras, the
boost input power and the three sums of current squared times on-resistance, in 0.1 W, and the bank's energy in 0.1 J.
Isolated stages contribute 0. An episode ends at BUDNOW − DISSHYS and the DTRIP timer restarts. After a hard fault only the bank
is looked at (R600). The logic input is read too. DESIGN CHOICE: BUDNOW is brought up with the estimate. -/
def execDissEstimate (cpu cam boost ls pv bk : BitVec 16) (bank : BitVec 16) (s : State) : Out :=
  act s (if s.now < s.pwr.estAt + ms 1 then s
    else if s.faulty .pwr then bankEnergy s bank.toNat
    else
      let z (x : Nat) : Nat := if stageBench s then 0 else x
      let parts := [cpu.toNat, cam.toNat * 5 / 48, z (boost.toNat / 10), z ls.toNat, z pv.toNat, z bk.toNat]
      let d := min (parts.foldl (· + ·) 0) 65535
      let b := budget s
      let low := decide (d + sfld s .pwr 0x18 15 0 ≤ b)
      let stop := s.pwr.shedding && low
      let ovr := !outFrozen s && decide (b < d)
      (bankEnergy s bank.toNat).modPwr fun p =>
        { p with
          estAt := s.now, parts := parts, dissnow := d, budnow := b, logi := sense s (Block.pwr.base + 0x54)
          shedding := p.shedding && !stop && !outFrozen s, dissat := p.dissat && !low
          overSince := if !ovr then none else if stop then some s.now else some (p.overSince.getD s.now) })

/-- The candidates of R596 in their order: priority, camera links before load switches, the higher number. A switch isolated in BENCH
conducts nothing (R595). -/
def dissCandidates (s : State) : List (Nat × Nat × Nat) :=
  let cams := (List.range 8).reverse.filterMap fun n =>
    let p := nfld (sget s .pwr 0x2C) (4 * n + 3) (4 * n)
    if p ≠ 0 ∧ (s.link n).power then some (p, 1, n) else none
  let sws := (List.range 32).reverse.filterMap fun n =>
    let p := rfld s .a (lsReg n 0) 31 28
    if p ≠ 0 ∧ lsBit s n 0 ∧ !stageBench s then some (p, 0, n) else none
  (List.range 16).reverse.flatMap fun k => (cams ++ sws).filter fun c => c.1 == k

/-- DISS_SHED (R596, R597): DISSNOW has stood above BUDNOW for DTRIP, or an episode runs: one load is shed. A shed under
R231 of the same step that took the load R596 would take serves both. -/
def execDissShed (s : State) : Out :=
  let trip : Bool := match s.pwr.overSince with
    | some t => decide (t + ms (1000 * sfld s .pwr 0x18 23 16) ≤ s.now)
    | none => false
  let early : Bool := match s.pwr.shedAt with
    | some t => decide (s.now < t + ms 1)
    | none => false
  act s (if !dissSheds s ∨ sfld s .pwr 0 1 1 = 0 ∨ early ∨ !(s.pwr.shedding || trip) ∨
        s.pwr.dissnow + sfld s .pwr 0x18 15 0 ≤ s.pwr.budnow then s
    else
      let s := s.modPwr fun p => { p with shedding := true, shedAt := some s.now }
      let cs := dissCandidates s
      let served : Bool := match s.out.shedLast with
        | some e => shedStep s && !(cs.any fun c => c.2.1 == 1 && decide (rfld s .a (lsReg e.2 0) 31 28 ≤ c.1)) &&
            decide (rfld s .a (lsReg e.2 0) 31 28 ≠ 0)
        | none => false
      if served then s
      else match cs with
        | [] =>
          if s.pwr.dissat then s else postEngine (s.modPwr fun p => { p with dissat := true }) .pwr 5 s.pwr.dissnow
        | (_, 0, n) :: _ => scount (lsShed (s.modPwr fun p => { p with dissat := false }) n true) .pwr 0x6C 1
        | (_, _, n) :: _ =>
          let s := s.modPwr fun p => { p with dissat := false, camShed := tset p.camShed n true }
          postEngine (scount (camPower s n false) .pwr 0x6C 1) .pwr 4 n)

/-- BANK_WEAK (R592): fully charged, the estimate (0.1 J) is below 9.5 J. -/
def execBankWeak (e : BitVec 16) (s : State) : Out :=
  act s (if 95 ≤ e.toNat ∨ s.pwr.bankWeak then s
    else postEngine (s.modPwr fun p => { p with bankWeak := true, huReady := false, energy := e.toNat }) .pwr 8 e.toNat)

/-! ### Registers -/

/-- The registers of PWR that the state answers (R544, R598). Voltages, currents and temperatures are the world's. -/
def pwrRead (s : State) (off : Nat) : Option (Nat × State) :=
  let p := s.pwr
  let w := sense s (Block.pwr.base + off)
  let part (k : Nat) : Nat := if s.faulty .pwr then 0 else p.parts.getD k 0 % 65536
  if off = 4 then
    some (b2n (s.faulty .pwr) * 2 ^ 16 + b2n p.bankWeak * 2 ^ 11 + b2n p.brownout * 2 ^ 10 + b2n p.tambStale * 2 ^ 9 +
      b2n (tget p.vsuv 1) * 2 ^ 7 + b2n (tget p.vsuv 0) * 2 ^ 6 + sfld s .pwr 4 5 4 * 16 + b2n p.dissat * 8 + b2n p.shedding * 4 +
      b2n (decide (p.budnow < p.dissnow)) * 2 + b2n (decide (p.budnow < sfld s .pwr 0x14 15 0)), s)
  else if off = 0x20 then some (w % 65536, s)
  else if off = 0x24 then some (if s.faulty .pwr then 0 else p.dissnow, s)
  else if off = 0x28 then some (p.budnow, s)
  else if 0x30 ≤ off ∧ off < 0x40 ∧ off % 4 = 0 then some (w, s)
  else if off = 0x54 then some (p.logi, s)
  else if off = 0x4C then some (p.energy * 2 ^ 16 + p.bankV, s)
  else if off = 0x50 then some (tget p.vsupi 1 * 2 ^ 16 + tget p.vsupi 0, s)
  else if off = 0x5C then
    some ((List.range 12).foldl (fun a n => a + b2n (ssOn s n) * 2 ^ (16 + n)) (sfld s .pwr 0x5C 11 0), s)
  else if off = 0x60 then some (part 1 * 2 ^ 16 + part 0, s)
  else if off = 0x64 then some (part 3 * 2 ^ 16 + part 2, s)
  else if off = 0x68 then some (part 5 * 2 ^ 16 + part 4, s)
  else if off = 0x70 then some ((List.range 8).foldl (fun a n => a + b2n (tget p.camShed n) * 2 ^ n) 0, s)
  else none

/-- The writes of PWR that have an effect of their own (R594). -/
def pwrWrite (s : State) (l : LaneId) (off v : Nat) : Option State :=
  if off = 0x1C then some (gated s l .pwr off fun s =>
    (regPlain s l .pwr off v).modPwr fun p => { p with tambAt := s.now, tambStale := false })
  else none

/-- SENSOR_SUPPLY_RESTART (R590): 1 is written to SSFLT bits. -/
def execSensorSupplyRestart (l : LaneId) (m : BitVec 12) (s : State) : Out :=
  act s (gated s l .pwr 0x5C fun s => regPlain s l .pwr 0x5C m.toNat)

/-- A hard fault of PWR (R600): estimation and shedding stop. -/
def pwrFault (s : State) : State :=
  s.modPwr fun p => { p with dissnow := 0, parts := [], overSince := none, shedding := false, dissat := false }

/-- PWR at a warm start (R10, R598): what its Reset column gives one value takes it, but for present conditions (VSUV, BROWNOUT);
CAMSHEDST follows when the cameras are up. -/
def pwrWarm (s : State) : State :=
  s.modPwr fun p => { p with
    bankWeak := false, huReady := false, energy := 0, bankV := 0, logi := 0, vsupi := [], tambAt := s.now, tambStale := false
    dissnow := 0, budnow := 950, parts := [], overSince := none, shedding := false, dissat := false }

/-- A cold start of PWR. -/
def pwrCold (s : State) : State :=
  s.modPwr fun p => { p with
    bankWeak := false, tambAt := s.now, tambStale := false, dissnow := 0, budnow := 950, parts := [], overSince := none, shedding := false
    shedAt := none, dissat := false, camShed := [], huAt := none, returned := none }

end Sys2Proof.Machine
end

