-- ==== Sys2Proof/Machine/LinSent.lean ====
section
/-! DEFINITION. LIN channels and SENT channels (spec/12 R386–R394). -/

namespace Sys2Proof.Machine

/-! ### LIN -/

/-- A LIN channel. -/
def State.linCh (s : State) (n : Nat) : LinCh := tget s.bus.lin n
/-- Change a LIN channel. -/
def State.modLin (s : State) (n : Nat) (f : LinCh → LinCh) : State :=
  { s with bus := { s.bus with lin := tmod s.bus.lin n f } }
/-- The SLOT word of a table. -/
def linSlot (s : State) (n t k : Nat) : Nat := sget s .lin (0x1000 + 0x200 * n + 0x80 * t + 4 * k)
/-- CFG.EN of a LIN channel. -/
def linEn (s : State) (n : Nat) : Bool := sfld s .lin (0x100 + 0x40 * n) 31 31 == 1
/-- Whether a LIN channel runs a schedule. -/
def linRuns (s : State) (n : Nat) : Bool := (s.linCh n).st == .running

/-- The protected identifier: the identifier with its two parity bits (PRESUMED: ISO 17987; R387 gives no formula). -/
def linPid (id : Nat) : Nat :=
  let b (i : Nat) : Nat := id / 2 ^ i % 2
  id % 64 + (b 0 + b 1 + b 2 + b 4) % 2 * 64 + (1 + b 1 + b 3 + b 4 + b 5) % 2 * 128

/-- The checksum of a response: the complement of the sum with carries (PRESUMED: ISO 17987). -/
def linSum (bs : List Nat) : Nat := 255 - bs.foldl (fun a b => (a + b) % 256 + (a + b) / 256) 0

/-- The checksum of data under a slot: enhanced unless the slot is classic or the frame diagnostic (R387). -/
def linCheck (slot : Nat) (d : List Nat) : Nat :=
  let id := nfld slot 21 16
  linSum (if nbit slot 28 ∨ id = 0x3C ∨ id = 0x3D then d else linPid id :: d)

/-- The data area of an identifier, 8 bytes. -/
def linData (s : State) (n id : Nat) : List Nat :=
  ((leBytes 4 (sget s .lin (0x4000 + 0x200 * n + 8 * id))) ++ leBytes 4 (sget s .lin (0x4004 + 0x200 * n + 8 * id))).map (·.toNat)

/-- A slot begins with its break: the stamp, the bytes that a PUBLISH sends (R388). -/
def linBegin (s : State) (n t k : Nat) : State :=
  let w := linSlot s n t k
  let p := stampAt s 0
  let d := linData s n (nfld w 21 16)
  s.modLin n fun c => { c with
    st := .running, table := t, slot := k, slotEnd := s.now + ms (nfld w 7 0), lc := p.1, htb := p.2,
    pid := linPid (nfld w 21 16), data := d.take (nfld w 27 24), answered := false }

/-- The go-to-sleep frame is sent and the channel sleeps (R389). -/
def linToSleep (s : State) (n : Nat) : State :=
  let p := stampAt s 0
  s.modLin n fun c => { c with
    st := .sleep, sleep := false, switchTo := none, lc := p.1, htb := p.2, pid := linPid 0x3C, data := 0 :: List.replicate 7 255,
    answered := true }

/-- After a hard fault the schedules stop (R399). -/
def linFault (s : State) : State :=
  { s with bus := { s.bus with lin := tmap s.bus.lin fun _ c =>
      { c with st := if c.st = .running then .stopped else c.st, switchTo := none, stop := false, sleep := false, pulse := none } } }

/-- A response is written to the ring with its status (R388, R390). -/
def linLog (s : State) (n status : Nat) (d : List Nat) : State :=
  let c := s.linCh n
  let w := linSlot s n c.table c.slot
  let s := if status = 0 then s else scount s .lin (0x108 + 0x40 * n) 1
  let a := Block.lin.base + 0x20
  let info := linPid (nfld w 21 16) + nfld w 27 24 * 2 ^ 8 + status * 2 ^ 12 + n * 2 ^ 16 + c.slot * 2 ^ 24 + c.table * 2 ^ 29
  let mk (drop : Bool) : List Byte := leBytes 4 c.lc ++ leBytes 4 c.htb ++ leBytes 4 (info + b2n drop * 2 ^ 15) ++
    sliceB (d.map (BitVec.ofNat 8)) 0 8 ++ List.replicate 12 0
  ringSend s { rq := 7, ring := a, esz := 32, fresh := mk false, after := mk true, use := .notify .lin 1 0 0 }

/-- The status of a response (R388, R390): `got` the bytes received, the checksum the last one. -/
def linStatus (slot : Nat) (got : List Nat) (framing : Bool) : Nat :=
  let len := nfld slot 27 24
  if got.isEmpty && !framing then 1
  else if framing then 4
  else if got.length < len + 1 then 2
  else if got.getD len 0 ≠ linCheck slot (got.take len) then 3
  else 0

/-- A response ends (R388). -/
def linAnswer (s : State) (n : Nat) (got : List Nat) (framing : Bool) : State :=
  let c := s.linCh n
  let w := linSlot s n c.table c.slot
  let s := s.modLin n fun c => { c with answered := true }
  if nbit w 29 then linLog s n (linStatus w got framing) (got.take (nfld w 27 24))
  else if got ≠ c.data ++ [linCheck w c.data] ∨ framing then linLog s n 5 c.data
  else s

/-- LIN_RESPONSE (R388): a response ends; the bytes as they were on the bus, the checksum last; none at all when no
responder answers. -/
def execLinResponse (n : Fin 6) (b : List (BitVec 8)) (framing : Bool) (s : State) : Out :=
  act s (if !linRuns s n ∨ s.faulty .lin ∨ (s.linCh n).answered then s else linAnswer s n (b.map (·.toNat)) framing)

/-- LIN_SLOT (R387, R389): the slot time has elapsed. A SUBSCRIBE that nobody answered ends; then STOP, SLEEP, SWITCH, or
the next slot. -/
def execLinSlot (n : Fin 6) (s : State) : Out :=
  act s (if !linRuns s n ∨ s.faulty .lin ∨ s.now < (s.linCh n).slotEnd then s
    else
      let n := n.val
      let c := s.linCh n
      let s := if !c.answered && nbit (linSlot s n c.table c.slot) 29 then linAnswer s n [] false else s
      if c.stop then s.modLin n fun c => { c with st := .stopped, stop := false, sleep := false, switchTo := none }
      else if c.sleep then linToSleep s n
      else
        let go : Option Nat := match c.switchTo with
          | some t => if t.2 + 1 < c.slotEnd then some t.1 else none
          | none => none
        match go with
        | some t => linBegin (s.modLin n fun c => { c with switchTo := none }) n t 0
        | none =>
          let k := c.slot + 1
          linBegin s n c.table (if k < 32 ∧ nbit (linSlot s n c.table k) 31 then k else 0))

/-- A write of LIN.CMD (R387, R389, R403). DESIGN CHOICE: channels 6 and 7 are out of range; a command to a disabled channel, a
SWITCH or STOP of one that does not run, and a SLEEP of one that sleeps are rejected with STATE, a SWITCH to a table whose slot 0
has V = 0 with RANGE; a stopped channel sends its go-to-sleep frame at once. -/
def linCmd (s : State) (l : LaneId) (v : Nat) : State :=
  gated s l .lin 8 fun s =>
    let n := nfld v 18 16
    let t := nfld v 1 0
    let c := s.linCh n
    let no (r : Nat) : State := reject s l .lin 8 r
    let op := nfld v 31 28
    if 5 < n ∨ op = 0 ∨ 5 < op then no rRANGE
    else if !linEn s n then no rSTATE
    else match op with
      | 1 =>
        if c.st = .running then no rSTATE
        else if !nbit (linSlot s n t 0) 31 then no rRANGE
        else linBegin (s.modLin n fun c => { c with stop := false, sleep := false, switchTo := none }) n t 0
      | 2 =>
        if c.st ≠ .running then no rSTATE
        else if !nbit (linSlot s n t 0) 31 then no rRANGE
        else s.modLin n fun c => { c with switchTo := some (t, s.now) }
      | 3 => if c.st ≠ .running then no rSTATE else s.modLin n fun c => { c with stop := true }
      | 4 => (match c.st with
        | .sleep => no rSTATE
        | .stopped => linToSleep s n
        | .running => s.modLin n fun c => { c with sleep := true })
      | _ => if c.st = .sleep then s.modLin n fun c => { c with pulse := some (s.now + ms 1) } else no rSTATE

/-- LIN_START (R387). -/
def execLinStart (l : LaneId) (n : Fin 6) (t : Fin 4) (s : State) : Out :=
  act s (linCmd s l (2 ^ 28 + n.val * 2 ^ 16 + t.val))
/-- LIN_SWITCH (R387). -/
def execLinSwitch (l : LaneId) (n : Fin 6) (t : Fin 4) (s : State) : Out :=
  act s (linCmd s l (2 * 2 ^ 28 + n.val * 2 ^ 16 + t.val))
/-- LIN_STOP (R387). -/
def execLinStop (l : LaneId) (n : Fin 6) (s : State) : Out := act s (linCmd s l (3 * 2 ^ 28 + n.val * 2 ^ 16))
/-- LIN_SLEEP (R389). -/
def execLinSleep (l : LaneId) (n : Fin 6) (s : State) : Out := act s (linCmd s l (4 * 2 ^ 28 + n.val * 2 ^ 16))
/-- LIN_WAKEUP (R389). -/
def execLinWakeup (l : LaneId) (n : Fin 6) (s : State) : Out := act s (linCmd s l (5 * 2 ^ 28 + n.val * 2 ^ 16))

/-- LIN_WAKE (R389): a dominant level of 150 µs to 5 ms in SLEEP; `len` is its length in ticks. -/
def execLinWake (n : Fin 6) (len : Nat) (s : State) : Out :=
  act s (if linEn s n ∧ (s.linCh n).st = .sleep ∧ us 150 ≤ len ∧ len ≤ ms 5 ∧ !s.faulty .lin then postEngine s .lin 2 n else s)

/-- A write of a channel's CFG (R403): legal only while its EN = 0. -/
def cfgWhileOff (s : State) (l : LaneId) (b : Block) (off v : Nat) : State :=
  gated s l b off fun s =>
    if regVerdict s l b off v = rLOCKED then reject s l b off rLOCKED
    else if rbit s l (b.base + off) 31 then reject s l b off rSTATE
    else regPlain s l b off v

/-- The registers of LIN that the state answers (R403). -/
def linRead (s : State) (off : Nat) : Option (Nat × State) :=
  if off = 4 then some (b2n (s.faulty .lin) * 2 ^ 16, s)
  else if 0x100 ≤ off ∧ off < 0x280 ∧ off % 0x40 = 4 then
    let c := s.linCh ((off - 0x100) / 0x40)
    some (c.st.code * 2 ^ 8 + c.table * 2 ^ 5 + c.slot, s)
  else none

/-- The writes of LIN that have an effect of their own (R387, R403). -/
def linWrite (s : State) (l : LaneId) (off v : Nat) : Option State :=
  if off = 8 then some (linCmd s l v)
  else if 0x20 ≤ off ∧ off < 0x38 then some (ringWrite s l .lin 0x20 (off - 0x20) 16 v)
  else if 0x100 ≤ off ∧ off < 0x280 ∧ off % 0x40 = 0 then some (cfgWhileOff s l .lin off v)
  else if 0x1000 ≤ off ∧ off < 0x1C00 then some (gated s l .lin off fun s =>
    let c := s.linCh ((off - 0x1000) / 0x200)
    if c.st = .running ∧ c.table = (off - 0x1000) % 0x200 / 0x80 then reject s l .lin off rSTATE else regPlain s l .lin off v)
  else none

/-! ### SENT -/

/-- A SENT channel. -/
def State.sentCh (s : State) (n : Nat) : SentCh := tget s.bus.sent n
/-- Change a SENT channel. -/
def State.modSent (s : State) (n : Nat) (f : SentCh → SentCh) : State :=
  { s with bus := { s.bus with sent := tmod s.bus.sent n f } }
/-- CFG of a SENT channel. -/
def sentCfg (s : State) (n : Nat) : Nat := sget s .snt (0x100 + 0x20 * n)

/-- One nibble of the CRC by x⁴ + x³ + x² + 1. -/
def crc4Step (c : Nat) : Nat := [0, 13, 7, 10, 14, 3, 9, 4, 1, 12, 6, 11, 15, 2, 8, 5].getD c 0

/-- The nibble CRC, seed 5: the recommended one has a nibble of zeros after the data, the legacy one has not (PRESUMED: SAE
J2716; that CRCMODE = 1 is the legacy one). -/
def crc4 (legacy : Bool) (ns : List Nat) : Nat := (ns ++ if legacy then [] else [0]).foldl (fun c d => crc4Step c ^^^ d % 16) 5

/-- The CRC of an enhanced serial message by x⁶ + x⁴ + x³ + 1, seed 0x15, over its bits and six zeros (PRESUMED: SAE J2716). -/
def crc6 (bits : List Bool) : Nat :=
  (bits ++ List.replicate 6 false).foldl (fun c b =>
    let x := 2 * c + b2n b
    if 64 ≤ x then (x % 64) ^^^ 0x19 else x) 0x15

/-- Whether two lengths differ by more than 1/64 of the former. -/
def off64 (prev cur : Nat) : Bool := decide (prev < 64 * (max prev cur - min prev cur))

/-- Whether a frame is invalid (R392): calibration pulse and frame length in ns, `bad` when a nibble lies outside its ticks. -/
def sentBad (cfg : Nat) (c : SentCh) (cal : Nat) (nib : List Nat) (crc : Nat) (bad : Bool) (flen : Nat) : Bool :=
  let nom := 56 * nfld cfg 16 0
  decide (nom < 4 * (max cal nom - min cal nom)) ||
    (match c.cal with | some p => off64 p cal | none => false) || bad || nib.length != nfld cfg 22 20 ||
    crc4 (nbit cfg 25) nib != crc ||
    (nfld cfg 27 26 == 2 && (match c.flen with | some p => off64 p flen | none => false))

/-- The number whose bits are given, most significant first. -/
def ofBits (bs : List Bool) : Nat := bs.foldl (fun a b => 2 * a + b2n b) 0

/-- A complete serial message at the end of the frames' (bit 3, bit 2) pairs (R393; PRESUMED: the formats of SAE J2716): its
KIND, identifier, data, and whether its CRC holds. -/
def sentSerial (mode : Nat) (bits : List (Bool × Bool)) : Option (Nat × Nat × Nat × Bool) :=
  let n := if mode = 1 then 16 else 18
  if bits.length < n then none
  else
    let w := bits.drop (bits.length - n)
    let hi := w.map (·.1)
    let lo := w.map (·.2)
    if mode = 1 then
      if hi ≠ true :: List.replicate 15 false then none
      else
        let v := ofBits lo
        some (1, nfld v 15 12, nfld v 11 4, crc4 false [nfld v 15 12, nfld v 11 8, nfld v 7 4] == nfld v 3 0)
    else if hi.take 7 ≠ [true, true, true, true, true, true, false] ∨ hi.getD 12 true ∨ hi.getD 17 true then none
    else
      let data := ofBits (lo.drop 6)
      let a := ofBits ((hi.drop 8).take 4)
      let b := ofBits ((hi.drop 13).take 4)
      let ok := crc6 ((w.drop 6).flatMap fun p => [p.2, p.1]) == ofBits (lo.take 6)
      some (if hi.getD 7 false then (2, a, b * 4096 + data, ok) else (2, a * 16 + b, data, ok))

/-- An entry of the SENT ring (R394). -/
def sentLog (s : State) (n lc htb data kind id : Nat) : State :=
  let a := Block.snt.base + 0x20
  let mk (drop : Bool) : List Byte := leBytes 4 lc ++ leBytes 4 htb ++ leBytes 4 data ++
    leBytes 4 (n + kind * 2 ^ 5 + id * 2 ^ 8 + b2n drop * 2 ^ 16)
  ringSend s { rq := 7, ring := a, esz := 16, fresh := mk false, after := mk true, use := .notify .snt 1 0 0 }

/-- The serial message of a valid frame (R393). -/
def sentSlow (s : State) (n lc htb : Nat) (status : Nat) : State :=
  let mode := nfld (sentCfg s n) 29 28
  let bits := ((s.sentCh n).bits ++ [(nbit status 3, nbit status 2)])
  let bits := bits.drop (bits.length - 18)
  match (if mode = 0 then none else sentSerial mode bits) with
  | none => s.modSent n fun c => { c with bits := bits }
  | some (kind, id, data, ok) =>
    let s := s.modSent n fun c => { c with bits := [] }
    if ok then sentLog (sput s .snt (0x10C + 0x20 * n) (id * 2 ^ 16 + data)) n lc htb data kind id
    else rcount s .a (Block.snt.base + 0x110 + 0x20 * n) 31 16 1

/-- A SENT frame (R392–R394), its calibration pulse begun `age` ticks ago. -/
def sentFrame (s : State) (n cal status : Nat) (nib : List Nat) (crc : Nat) (bad : Bool) (flen age : Nat) : State :=
  let cfg := sentCfg s n
  let t := stampAt s age
  let inv := sentBad cfg (s.sentCh n) cal nib crc bad flen
  let s := s.modSent n fun c => { c with cal := some cal, flen := some flen }
  let s := if inv then
      let s := rcount s .a (Block.snt.base + 0x110 + 0x20 * n) 15 0 1
      let s := s.modSent n fun c => { c with bits := [] }
      if nbit cfg 30 then
        sentLog { s with freeCtr := s.freeCtr + 2 } n t.1 t.2 (Config.freeWord s.freeCtr).toNat 3
          ((Config.freeWord (s.freeCtr + 1)).toNat % 256)
      else s
    else
      let data := status % 16 * 2 ^ 24 + nib.foldl (fun v d => 16 * v + d % 16) 0
      let s := (sput s .snt (0x104 + 0x20 * n) data).modSent n fun c => { c with lastHtb := t.2 % 2 ^ 32 }
      let s := if nbit cfg 30 then sentLog s n t.1 t.2 data 0 0 else s
      sentSlow s n t.1 t.2 status
  s.both fun l s => missedPass (sentEdge s l n t.2 (!inv) nib) l

/-- SENT_FRAME (R392): a frame of channel `n` ends. `cal` and `flen` are the lengths in ns of its calibration pulse and of
the whole frame, `bad` says that a nibble lay outside 12 to 27 ticks. -/
def execSentFrame (n : Fin 24) (cal : Nat) (status : BitVec 4) (nib : List (BitVec 4)) (crc : BitVec 4) (bad : Bool) (flen age : Nat)
    (s : State) : Out :=
  act s (if !nbit (sentCfg s n) 31 ∨ s.faulty .snt then s
    else sentFrame s n cal status.toNat (nib.map (·.toNat)) crc.toNat bad flen age)

/-- The registers of SNT that the state answers (R403): reading LASTFAST latches LASTHTB for the reading lane. -/
def sntRead (s : State) (l : LaneId) (off : Nat) : Option (Nat × State) :=
  if off = 4 then some (b2n (s.faulty .snt) * 2 ^ 16, s)
  else if 0x100 ≤ off ∧ off < 0x400 ∧ off % 0x20 = 4 then
    some (sget s .snt off, rset s l (Block.snt.base + off + 4) (s.sentCh ((off - 0x100) / 0x20)).lastHtb)
  else none

/-- The writes of SNT that have an effect of their own (R367, R403). -/
def sntWrite (s : State) (l : LaneId) (off v : Nat) : Option State :=
  if 0x20 ≤ off ∧ off < 0x38 then some (ringWrite s l .snt 0x20 (off - 0x20) 16 v)
  else if 0x100 ≤ off ∧ off < 0x400 ∧ off % 0x20 = 0 then some (cfgWhileOff s l .snt off v)
  else none

end Sys2Proof.Machine
end

