-- ==== Sys2Proof/Machine/SerialPort.lean ====
section
/-! DEFINITION. Serial ports and the registers of the pulse inputs (spec/12 R395–R398). -/

namespace Sys2Proof.Machine

/-- A port. -/
def State.port (s : State) (n : Nat) : SerPort := tget s.bus.ser n
/-- Change a port. -/
def State.modPort (s : State) (n : Nat) (f : SerPort → SerPort) : State :=
  { s with bus := { s.bus with ser := tmod s.bus.ser n f } }
/-- CFG of a port. -/
def serCfg (s : State) (n : Nat) : Nat := sget s .ser (0x100 + 0x40 * n)
/-- The register STAT of a port. -/
def serStat (n : Nat) : Nat := Block.ser.base + 0x104 + 0x40 * n

/-- IDLEGAP character times in ticks of the HTB (R395, R396). -/
def serGap (cfg : Nat) : Nat :=
  let bits := 1 + (if nbit cfg 18 then 7 else 8) + b2n (nfld cfg 21 20 ≠ 0) + (if nbit cfg 19 then 2 else 1)
  nfld cfg 27 24 * bits * 16 * nfld cfg 9 0 * 250000000 / 14745600

/-- The open entry closes with its flags (R396). DESIGN CHOICE: STAT.OVERRUN says that the ring had no room for it. -/
def serClose (s : State) (n : Nat) (flags : Nat) : State :=
  let p := s.port n
  if p.bytes.isEmpty then s
  else
    let a := Block.ser.base + 0x110 + 0x40 * n
    let info := p.bytes.length + b2n p.idleBefore * 2 ^ 8 + flags
    let mk (drop : Bool) : List Byte :=
      leBytes 4 p.lc ++ leBytes 4 p.htb ++ leBytes 4 (info + b2n drop * 2 ^ 12) ++ sliceB p.bytes 0 20
    ringSend (s.modPort n fun p => { p with bytes := [], idleBefore := false })
      { rq := 7, ring := a, esz := 32, fresh := mk false, after := mk true, use := .ser n }

/-- SER_BYTE (R396): a byte, its start bit `age` ticks ago, with its framing error, parity error or break. -/
def execSerByte (n : Fin 4) (b : BitVec 8) (framing parity brk : Bool) (age : Nat) (s : State) : Out :=
  let cfg := serCfg s n
  act s (if !nbit cfg 31 ∨ s.faulty .ser then s
    else
      let n := n.val
      let idle := match (s.port n).lastEnd with
        | some t => decide (t + serGap cfg ≤ s.now - age)
        | none => true
      let s := if idle then serClose s n 0 else s
      let t := stampAt s age
      let s := s.modPort n fun p =>
        let p := if p.bytes.isEmpty then { p with lc := t.1, htb := t.2, idleBefore := idle } else p
        { p with bytes := p.bytes ++ [if nbit cfg 18 then b &&& 0x7F else b], lastEnd := some s.now }
      let bits := b2n framing * 4 + b2n parity * 2 + b2n brk
      let s := if bits = 0 then s else rset s .a (serStat n) (rget s .a (serStat n) ||| (bits * 2 ^ 16))
      if bits ≠ 0 then serClose s n (b2n framing * 2 ^ 9 + b2n parity * 2 ^ 10 + b2n brk * 2 ^ 11)
      else if (s.port n).bytes.length = 20 then serClose s n 0
      else s)

/-- SER_IDLE (R396): the line has been idle for IDLEGAP character times. -/
def execSerIdle (n : Fin 4) (s : State) : Out :=
  act s (match (s.port n).lastEnd with
    | some t => if t + serGap (serCfg s n) ≤ s.now ∧ !s.faulty .ser then serClose s n 0 else s
    | none => s)

/-- A write of TXD (R397). -/
def serTxd (s : State) (l : LaneId) (n v : Nat) : State :=
  gated s l .ser (0x108 + 0x40 * n) fun s =>
    if 256 ≤ (s.port n).fifo.length then reject s l .ser (0x108 + 0x40 * n) rBUSY
    else s.modPort n fun p => { p with fifo := p.fifo ++ [BitVec.ofNat 8 v] }

/-- SER_TXD (R397). -/
def execSerTxd (l : LaneId) (n : Fin 4) (v : Word) (s : State) : Out := act s (serTxd s l n v.toNat)

/-- SER_BYTE_SENT (R397): the port has sent a byte of its FIFO. -/
def execSerByteSent (n : Fin 4) (s : State) : Out :=
  act s (if nbit (serCfg s n) 31 ∧ !s.faulty .ser then s.modPort n fun p => { p with fifo := p.fifo.tail } else s)

/-- Reading PPSk.NS latches SEC, HTBLO and HTBHI of the stamp for the reading lane; the stamp counts as read (R398). -/
def ppsRead (s : State) (l : LaneId) (k : Nat) : Nat × State :=
  let p : Pps := tget s.bus.pps k
  let a := Block.ser.base + 0x400 + 0x20 * k
  let s := rset (rset (rset s l (a + 4) (p.sec % 2 ^ 32)) l (a + 0xC) (p.htb % 2 ^ 32)) l (a + 0x10) (p.htb / 2 ^ 32)
  (p.ns, { s with bus := { s.bus with pps := tmod s.bus.pps k fun p => { p with unread := false } } })

/-- PPS_STAMP_READ (R398): a lane reads PPSk.NS. -/
def execPpsStampRead (l : LaneId) (k : Fin 2) (s : State) : Out := act s (ppsRead s l k).2

/-- The registers of SER that the state answers (R403). -/
def serRead (s : State) (l : LaneId) (off : Nat) : Option (Nat × State) :=
  if off = 4 then some (b2n (s.faulty .ser) * 2 ^ 16, s)
  else if 0x100 ≤ off ∧ off < 0x200 ∧ off % 0x40 = 4 then
    let n := (off - 0x100) / 0x40
    some (rget s .a (serStat n) / 2 ^ 16 % 16 * 2 ^ 16 + (s.port n).fifo.length, s)
  else if off = 0x408 ∨ off = 0x428 then some (ppsRead s l ((off - 0x400) / 0x20))
  else none

/-- The writes of SER that have an effect of their own (R367, R397, R403). -/
def serWrite (s : State) (l : LaneId) (off v : Nat) : Option State :=
  if 0x100 ≤ off ∧ off < 0x200 then
    let n := (off - 0x100) / 0x40
    let r := off % 0x40
    if r = 0 then some (cfgWhileOff s l .ser off v)
    else if r = 8 then some (serTxd s l n v)
    else if 0x10 ≤ r ∧ r < 0x28 then some (ringWrite s l .ser (0x110 + 0x40 * n) (r - 0x10) 16 v)
    else none
  else if off = 0x400 ∨ off = 0x420 then some (cfgWhileOff s l .ser off v)
  else none

end Sys2Proof.Machine
end

