-- ==== Sys2Proof/Machine/BusBase.lean ====
section
/-! DEFINITION. Reads and writes of the register space (spec/00 R4–R17): the blocks put together. Writes that start the
module, change its mode or fail a lane are in Bus. -/

namespace Sys2Proof.Machine

/-! ### CMDERR -/

/-- A read of a lane's CMDERR of a block clears REJ_COUNT (R9, R15). -/
def cmderrRead (s : State) (l : LaneId) (a : Nat) : Nat × State := (rget s l a, rsetf s l a 23 16 0)

/-- A write to a lane's CMDERR of a block is never rejected (R13): 1 in bit 31 clears CMD_REJECT. -/
def cmderrWrite (s : State) (l : LaneId) (a v : Nat) : State := if nbit v 31 then rsetb s l a 31 false else s

/-! ### SYS -/

/-- Whether a lane's watchdog counts (R24). -/
def wdOn (s : State) (l : LaneId) : Bool := (s.lane l).wdEnd.isSome

/-- The watchdog count starts afresh at WDCFG.TMO µs (R24). -/
def wdRestart (s : State) (l : LaneId) : State :=
  let t := rfld s l (Block.sys.base + 0x48) 19 0
  s.modLane l fun x => { x with wdEnd := some (s.now + us t) }

/-- Whether a lane's watchdog may count (R24): the lane is healthy, its start has reached output enable or shadow-ready, and
neither PARK nor HOLD-UP has begun. -/
def wdMay (s : State) (l : LaneId) : Bool :=
  (s.lane l).live && (s.lane l).ready && s.sup.phase == .running && s.sup.power != .holdup

/-- The watchdog of a lane starts to count when EN is set and it may (R24). -/
def wdStart (s : State) (l : LaneId) : State :=
  if wdMay s l && rbit s l (Block.sys.base + 0x48) 31 then wdRestart s l else s

/-- A write to WDKICK by a core (R24): the first half is kept for that core; a completed pair restarts the count. -/
def wdKick (s : State) (l : LaneId) (c v : Nat) : State :=
  let half := (s.lane l).wdHalf
  if v = 0xA55A then s.modLane l fun x => { x with wdHalf := some c }
  else
    let s := s.modLane l fun x => { x with wdHalf := none }
    if v = 0x5AA5 ∧ half = some c ∧ wdOn s l then wdRestart s l else s

/-- A write to WDCFG (R24): EN = 0 while the watchdog counts is rejected with STATE. -/
def wdCfg (s : State) (l : LaneId) (v : Nat) : State :=
  if regVerdict s l .sys 0x48 v = rLOCKED then reject s l .sys 0x48 rLOCKED
  else if wdOn s l && !nbit v 31 then reject s l .sys 0x48 rSTATE
  else
    let s := regPlain s l .sys 0x48 v
    if wdOn s l then s else wdStart s l

/-- A sequencer's register SYS.SEQn (R48, R50). -/
def seqReg (s : State) (n : Nat) : Nat :=
  let q := s.seq n
  q.hold * 2 ^ 16 + q.epoch % 256 * 2 ^ 8 + b2n q.mismatch * 16 + b2n (inflight s n) * 8 + b2n q.expired * 4 + b2n q.holding * 2 +
    q.owner.num

/-- A write to SYS.SEQn (R50): the shadow lane's is rejected as a whole; MISMATCH and EXPIRED are acted on even when HOLD is
rejected. -/
def seqRegWrite (s : State) (l : LaneId) (n v : Nat) : State :=
  let off := 0x100 + 4 * n
  if s.sup.active ≠ l then reject s l .sys off rNOTOWNER
  else
    let h := nfld v 31 16
    let s := s.modSeq n fun q => { q with mismatch := q.mismatch && !nbit v 4, expired := q.expired && !nbit v 2 }
    if h ≠ (s.seq n).hold ∧ isLocked s l .sys then reject s l .sys off rLOCKED
    else if h < 50 ∨ 5000 < h then reject s l .sys off rRANGE
    else s.modSeq n fun q => { q with hold := h }

/-- SYS.LANESTAT as a lane reads it (R48). TAKING: from the loss of the active lane until the takeover is complete (R33, R605). -/
def laneStat (s : State) (l : LaneId) : Nat :=
  s.sup.causeB * 2 ^ 12 + s.sup.causeA * 2 ^ 8 + b2n s.sup.takeover.isSome * 16 + l.num * 8 + s.sup.active.num * 4 + s.sup.laneMode.code

/-- The kind of a start by its cause (R517): 0 cold, 1 warm, 2 rejoin. -/
def startKind (cause : Nat) : Nat := if cause = 7 then 2 else if 3 ≤ cause ∧ cause ≤ 6 then 1 else 0

/-- SYS.RSTCAUSE (R543). -/
def rstCause (s : State) : Nat :=
  b2n s.sup.retrain * 2 ^ 19 + b2n s.sup.imgNew * 2 ^ 18 + b2n s.sup.cfgNew * 2 ^ 17 + b2n s.sup.unclean * 2 ^ 16 +
    startKind s.sup.startCause * 2 ^ 8 + s.sup.startCause

/-- The registers of SYS that the state answers (R48, R543, R557). -/
def sysRead (s : State) (l : LaneId) (off : Nat) : Option (Nat × State) :=
  match off with
  | 0x04 => some (laneStat s l, s)
  | 0x08 => some (0, s)
  | 0x10 => some ((s.lane l).epoch, s)
  | 0x14 => some (s.sup.miscnt, s)
  | 0x18 => some (s.sup.misWord * 2 ^ 8 + s.sup.misSeq, s)
  | 0x1C => some (s.sup.tktime, s)
  | 0x20 => some (s.sup.tkcount, s)
  | 0x24 => some ((s.lane l).shdrop, s)
  | 0x2C => some (rstCause s, s)
  | 0x30 => some (s.sup.startUs, s)
  | 0x38 => some (modeWord s, s)
  | 0x40 => some (s.sup.wakeSrc, s)
  | 0x50 => some (match (s.lane l).wdEnd with
      | some t => (t - s.now) / 250
      | none => 0, s)
  | _ => if 0x100 ≤ off ∧ off < 0x1F8 ∧ off % 4 = 0 then some (seqReg s ((off - 0x100) / 4), s) else none

/-- The writes of SYS that have an effect of their own (R24, R50, R557), but for LANECTRL, RSTCMD and MODECMD. -/
def sysWrite (s : State) (l : LaneId) (c off v : Nat) : Option State :=
  if off = 0x48 then some (wdCfg s l v)
  else if off = 0x4C then some (wdKick s l c v)
  else if (off = 0x3C ∨ off = 0x44) ∧ s.sup.active ≠ l then some (reject s l .sys off rNOTOWNER)
  else if 0x100 ≤ off ∧ off < 0x1F8 ∧ off % 4 = 0 then some (seqRegWrite s l ((off - 0x100) / 4) v)
  else none

/-! ### Hold-up registers -/

/-- Whether finalisation is complete (R539 step 3, R550 step 2): a checkpoint since the entry, the recorder flushed, the
parcels written. -/
def finalDone (s : State) : Bool :=
  s.sup.ckptDone && (s.faulty .recd || (s.recd.state != .flushing && !s.recd.flushPend)) && (s.faulty .pcl || s.pcl.staging.isEmpty)

/-- HUSTAT (R544). -/
def hustat (s : State) : Nat :=
  let up := s.sup.power == .holdup
  let t := match s.pwr.huAt with
    | some t => if up then min ((s.now - t) / ms 1) 65535 else 0
    | none => 0
  let idle := ((List.range 48).all fun c => (s.chan c).phase == .idle) && (List.range 6).all fun b => (s.bank b).queue.isEmpty
  t * 2 ^ 16 + b2n (up && pnlSafe s) * 2 ^ 11 + b2n (up && finalDone s) * 2 ^ 10 + b2n (up && idle) * 2 ^ 9 + b2n up * 2 ^ 8 +
    b2n s.pwr.huReady * 16 + s.sup.power.code

/-! ### All blocks -/

/-- What a block answers to a read itself; `none`: the register's stored value. -/
def blockRead (s : State) (l : LaneId) (c : Nat) (b : Block) (off : Nat) : Option (Nat × State) :=
  match b with
  | .sys => sysRead s l off
  | .hal => halRead s l off
  | .evt => evtRead s l c off
  | .lpe => lpeRead s l off
  | .ddv => ddvRead s l off
  | .pvc => pvcRead s off
  | .lsw => lswRead s off
  | .hsi => match hsiRead s off with
    | some r => some r
    | none => lossRead s off
  | .pcl => pclRead s l off
  | .cam => camRead s off
  | .fus => fusRead s l off
  | .can => canRead s off
  | .lin => linRead s off
  | .snt => sntRead s l off
  | .ser => serRead s l off
  | .eth => ethRead s off
  | .tim => timRead s l off
  | .hst => hstRead s l off
  | .fab => fabRead s off
  | .recd => recRead s l c off
  | .pnl => pnlRead s off
  | .cfg => cfgRead s l off
  | .sec => secRead s off
  | .pwr => if off = 0x40 then some (hustat s, s) else pwrRead s off

/-- A read of a stored register (R6, R9): nothing where the map has none; RC fields are cleared. -/
def plainRead (s : State) (l : LaneId) (b : Block) (off : Nat) : Nat × State :=
  match b.descAt off with
  | none => (0, s)
  | some d =>
    let v := rget s l (b.base + off)
    if d.fields.any fun f => f.acc == .rc then
      (v, rset s l (b.base + off) (d.fields.foldl (fun w f => if f.acc == .rc then nset w f.hi f.lo 0 else w) v))
    else (v, s)

/-- A read of a word of register space by a core (R4–R9): the value, and the state after it. -/
def regRead (s : State) (l : LaneId) (c a : Nat) : Nat × State :=
  let b := blockOf a
  let off := a - b.base
  if 0xF0C00000 ≤ a then (0, s)
  else if off = 0x0C then cmderrRead s l a
  else if (b.descAt off).isNone then (0, s)
  else match blockRead s l c b off with
    | some r => (r.1 % 2 ^ 32, r.2)
    | none => plainRead s l b off

/-- What a block does with a write itself; `none`: by the register's description. -/
def blockWrite (s : State) (l : LaneId) (c : Nat) (b : Block) (off v : Nat) : Option State :=
  match b with
  | .sys => sysWrite s l c off v
  | .hal => halEffect s l off v
  | .evt => evtWrite s l c off v
  | .lpe => lpeWrite s l off v
  | .ddv | .pvc | .lsw => if isSeqCmd b off v then some (seqWrite s l b off v) else none
  | .hsi => hsiWrite s l off v
  | .pcl => pclWrite s l off v
  | .cam => camWrite s l off v
  | .fus => fusWrite s l off v
  | .can => canWrite s l off v
  | .lin => linWrite s l off v
  | .snt => sntWrite s l off v
  | .ser => serWrite s l off v
  | .eth => ethWrite s l off v
  | .tim => timWrite s l off v
  | .hst => hstWrite s l off v
  | .fab => fabWrite s l off v
  | .recd => recWrite s l c off v
  | .pnl => pnlWrite s l off v
  | .cfg => cfgWrite s l off v
  | .sec => secWrite s l off v
  | .pwr => pwrWrite s l off v

/-- A write by the register's description (R5, R6, R9, R12, R13). -/
def genericWrite (s : State) (l : LaneId) (b : Block) (off v : Nat) : State :=
  match b.descAt off with
  | none => s
  | some _ => if b.perLane then regPlain s l b off v else gated s l b off fun s => regPlain s l b off v

/-- A write of a word of register space by a core, but for LANECTRL, RSTCMD and MODECMD. -/
def regWriteBase (s : State) (l : LaneId) (c a v : Nat) : State :=
  let b := blockOf a
  let off := a - b.base
  if 0xF0C00000 ≤ a then s
  else if off = 0x0C then cmderrWrite s l a v
  else if (b.descAt off).isNone then s
  else (blockWrite s l c b off v).getD (genericWrite s l b off v)

/-! ### Engine areas -/

/-- The rings under R255 in GiB 0: the place of BASE, and the bytes of a record (R255, R259, R295, R361, R367, R412). -/
def recordRings : List (Nat × Nat) :=
  [(Block.hsi.base + 0x20, 64), (Block.hsi.base + 0x40, 128), (prRing, 128), (fusRing, 16448), (Block.lin.base + 0x20, 32),
   (Block.snt.base + 0x20, 16)] ++
  ((List.range 16).map fun n => (Block.can.base + canOff n 0x30, 80)) ++
  ((List.range 4).map fun n => (Block.ser.base + 0x110 + 0x40 * n, 32)) ++
  ((List.range 8).map fun r => (Block.eth.base + 0x800 + 0x20 * r, 2048))

/-- A buffer of `n` slots of `sz` bytes at `base` whose slots from `lo` up to `hi`, modulo `n`, belong to the engine: the slot
of it that holds an address. -/
def ownedSlot (base sz n lo hi a : Nat) : Option (Nat × Nat) :=
  if n = 0 ∨ a < base ∨ base + n * sz ≤ a then none
  else
    let k := (a - base) / sz
    if (k + n - lo % n) % n < (hi + n - lo % n) % n then some (base + k * sz, sz) else none

/-- The buffer of an engine that holds an address of GiB 0, with its length, when the engine owns it (case 6 of R120; R255,
R327, R413, R504). -/
def engineBuffer (s : State) (a : Nat) : Option (Nat × Nat) :=
  let ring (r : Nat × Nat) : Option (Nat × Nat) :=
    let n := rfld s .a (r.1 + 4) 16 0
    let wp := rfld s .a (r.1 + 8) 15 0
    let rp := rfld s .a (r.1 + 0xC) 15 0
    if wp = rp then ownedSlot (rget s .a r.1) r.2 n 0 n a |>.orElse fun _ => ownedSlot (rget s .a r.1) r.2 n 0 (n - 1) a |>.orElse
      fun _ => ownedSlot (rget s .a r.1) r.2 n (n - 1) n a
    else ownedSlot (rget s .a r.1) r.2 n wp rp a
  let tx (q : Nat) : Option (Nat × Nat) :=
    let r := Block.eth.base + 0x900 + 0x10 * q
    ownedSlot (rget s .a r) 2048 (rfld s .a (r + 4) 15 0) (rfld s .a (r + 0xC) 15 0) (rfld s .a (r + 8) 15 0) a
  let img (n : Nat) : Option (Nat × Nat) :=
    let x := s.pslot n
    if x.st = .loading ∧ x.img + 160 * x.first ≤ a ∧ a < x.img + 160 * (x.last + 1) then
      some (x.img + 160 * x.first, 160 * (x.last + 1 - x.first)) else none
  let cam (n : Nat) : Option (Nat × Nat) :=
    let wp := vpGet s n 0x3C
    ownedSlot (vpGet s n 0x30) (vpGet s n 0x34) (vpSlots s n) wp (wp + (s.vp n).claims.length) a
  ((List.range 8).findSome? cam).orElse fun _ => (recordRings.findSome? ring).orElse fun _ => ((List.range 4).findSome? tx).orElse fun _ => (List.range 8).findSome? img

/-- A store of the active lane into an engine area (R45, R120 case 6): into a buffer that its engine owns it leaves that
buffer's contents open. -/
def areaStore (s : State) (g a n v : Nat) : State :=
  match (if g = 0 then engineBuffer s a else none) with
  | some (base, len) => dramWrite { s with freeCtr := s.freeCtr + len } 0 base (freeBytes s.freeCtr len)
  | none => { s with dram := tmod s.dram g fun m => mwriteLE m a n v, dq := s.dq.heal g a n }

end Sys2Proof.Machine
end

