-- ==== Sys2Proof/Machine/Lanes.lean ====
section
/-! DEFINITION. Lane failures, takeover, strike, rejoin, hard faults of the shared engines (spec/01 R22–R40, spec/18 R537,
R538). -/

namespace Sys2Proof.Machine

/-- Change the supervisor's state. -/
def State.modSup (s : State) (f : Sup → Sup) : State := { s with sup := f s.sup }

/-- The block of a shared engine (R47). -/
def engineBlock : Engine → Block
  | .hsi => .hsi | .pcl => .pcl | .cam => .cam | .fus => .fus | .can => .can | .lin => .lin | .snt => .snt | .ser => .ser
  | .eth => .eth | .tim => .tim | .fab => .fab | .recd => .recd | .pnl => .pnl | .cfg => .cfg | .sec => .sec | .pwr => .pwr

/-- The failure cause that LANESTAT shows for a lane (R48). -/
def laneCause (s : State) : LaneId → Nat
  | .a => s.sup.causeA
  | .b => s.sup.causeB

/-- Record a lane's failure cause (R22). -/
def setCause (s : State) (l : LaneId) (c : Nat) : State :=
  s.modSup fun u => match l with
    | .a => { u with causeA := c }
    | .b => { u with causeB := c }

/-- A core stands still: it issues nothing and what it has outstanding is lost. -/
def Core.still (c : Core) : Core := { c with run := .stopped, wait := none, fence := none, loads := [], stores := [] }

/-- The cores of a lane stop. -/
def coresStop (s : State) (l : LaneId) : State :=
  s.modLane l fun x => { x with cores := tmap x.cores fun _ c => c.still }

/-- The commands of a lane that are on their way to the sequencers or wait there for the other lane's copy are gone. -/
def linksClear (s : State) (l : LaneId) : State :=
  (List.range 62).foldl (fun s n => s.modSeq n fun q => (q.setLink l []).setWaits l []) s

/-! ### Failures -/

/-- A lane goes down with a cause (R22): no owner ticks, no commands; the LANEFAIL record is the other lane's (R482). -/
def laneDown (s : State) (l : LaneId) (cause : Nat) : State :=
  let s := setCause (s.modLane l fun x => { x with live := false, wdEnd := none }) l cause
  s.work fun s => record s l.other .sys 0x10 (leBytes 1 l.num ++ leBytes 1 cause ++ leBytes 2 (s.lane l).epoch)

/-- The shadow lane is lost (R38): the active lane runs alone and its cores are told. -/
def peerLost (s : State) (cause : Nat) : State :=
  let o := s.sup.active
  let s := s.modSup fun u => { u with laneMode := .single o }
  s.work fun s => postRunning s o 5 (o.other.num * 256 + cause) (s.lane o).epoch

/-- Whether a lane is the only live one (R39, R49): the other is not healthy, or was found lost (R38), or this one is about to take
over from it. -/
def onlyLive (s : State) (l : LaneId) : Bool :=
  !(s.lane l.other).live || s.sup.laneMode == .single l ||
    (match s.sup.takeover with
    | some t => t.lane != l
    | none => false)

/-- A double fault (R39): the module is to start warm with cause DOUBLE_FAULT. HOLD-UP runs to its end first, and the warm start
that a supply return has called for (R542) serves for both. -/
def doubleFault (s : State) : State := s.modSup fun u => { u with
  warmPending := if u.power = .holdup ∧ u.warmPending = some 3 then some 3 else some 5, takeover := none, rejoin := none }

/-- The active lane is lost at an instant (R33 and steps 2 of R605): the other lane raises the lane epoch, and TAKING is set. -/
def takeoverStart (s : State) (l : LaneId) (since : Nat) : State :=
  (s.modLane l.other fun x => { x with epoch := (x.epoch + 1) % 65536 }).modSup fun u => { u with takeover := some ⟨l, since⟩ }

/-- A lane declares itself failed (R22, R34, R38, R39). -/
def laneFail (s : State) (l : LaneId) (cause : Nat) : State :=
  if !(s.lane l).live then s
  else
    let twice := onlyLive s l
    let alone := s.sup.laneMode == .single l.other || s.sup.takeover.isSome
    atOnce (fun s =>
      let s := laneDown s l cause
      if twice then doubleFault s
      else if alone then s
      else if l = s.sup.active then takeoverStart s l s.now
      else peerLost s cause) s

/-- LOCKSTEP_MISMATCH (R22). -/
def execLockstepMismatch (l : LaneId) (s : State) : Out := actUp s (laneFail s l 1)

/-- JOURNAL_WRITE_FAIL (R22). -/
def execJournalWriteFail (l : LaneId) (s : State) : Out := actUp s (laneFail s l 3)

/-- LANE_SUPPLY_FAIL (R22). -/
def execLaneSupplyFail (l : LaneId) (s : State) : Out := actUp s (laneFail s l 5)

/-- WATCHDOG_KICK (R24): core `c` of a lane writes `v` to WDKICK. -/
def execWatchdogKick (l : LaneId) (c : Fin 8) (v : Word) (s : State) : Out := actL s (wdKick s l c v.toNat)

/-- WATCHDOG_EXPIRY (R24). -/
def execWatchdogExpiry (l : LaneId) (s : State) : Out :=
  actUp s (if due (s.lane l).wdEnd s.now then laneFail s l 4 else s)

/-! ### The peer -/

/-- A lane strikes (R37). -/
def strikeLane (s : State) (l : LaneId) : State :=
  if (s.lane l).live then laneDown (s.modLane l fun x => { x with struck := true }) l 8 else s

/-- MIRROR_HEARTBEAT (R23, R37): a healthy lane's heartbeat reaches its peer, which strikes when it carries a higher epoch. -/
def execMirrorHeartbeat (l : LaneId) (s : State) : Out :=
  actUp s (if !(s.lane l).live then s
    else
      let s := s.modLane l fun x => { x with beat := some s.now }
      if (s.lane l.other).epoch < (s.lane l).epoch then strikeLane s l.other else s)

/-- PEER_SILENT (R23, R38): a healthy lane has missed its peer's heartbeat for 100 µs. -/
def execPeerSilent (l : LaneId) (s : State) : Out :=
  let p := l.other
  let t := (s.lane p).beat.getD 0
  actUp s (if !(s.lane l).live || !(s.lane p).live || onlyLive s l || onlyLive s p || decide (s.now < t + us 100) then s
    else atOnce (fun s =>
      let s := setCause s p 6
      let s := s.work fun s => record s l .sys 0x10 (leBytes 1 p.num ++ leBytes 1 6 ++ leBytes 2 (s.lane p).epoch)
      if p = s.sup.active then takeoverStart s p t else peerLost s 6) s)

/-- LANE_STRIKE (R37): a lane finds a lane epoch higher than its own, in an ownership field or in its peer. -/
def execLaneStrike (l : LaneId) (s : State) : Out :=
  let e := (s.lane l).epoch
  let higher : Bool := decide (e < s.sup.engEpoch ∨ e < (s.lane l.other).epoch) ||
    (List.range 62).any fun n => decide (e < (s.seq n).epoch)
  actUp s (if higher then strikeLane s l else s)

/-! ### Takeover -/

/-- The shared engines take an ownership change (R33). -/
def ownEngines (s : State) (l : LaneId) (e : Nat) : State :=
  if e < s.sup.engEpoch then s else s.modSup fun u => { u with engOwner := l, engEpoch := e }

/-- Every sequencer and every shared engine goes to a lane with its epoch (R33, R527, R529). -/
def ownAll (s : State) (l : LaneId) (e : Nat) : State :=
  ownEngines (s.work fun s => (List.range 62).foldl (fun s n => ownSeq s n l e) s) l e

/-- OWNERSHIP_CHANGE (R33, R35): a lane's ownership change reaches a sequencer, or the shared engines; it carries a new epoch. -/
def execOwnershipChange (l : LaneId) (t : Option (Fin 62)) (s : State) : Out :=
  let e := (s.lane l).epoch
  actUp s (if !(s.lane l).live then s
    else match t with
      | some n => if (s.seq n).epoch < e then s.work fun s => ownSeq s n l e else s
      | none => if s.sup.engEpoch < e then ownEngines s l e else s)

/-- The takeover by lane `l` to its end (R33, R605 steps 3 to 5), with the epoch that it raised at the loss. -/
def takeoverRun (s : State) (l : LaneId) (t : Loss) : State :=
  let e := (s.lane l).epoch
  let s := (ownAll s l e).modSup fun u => { u with active := l }
  let s := s.work fun s => beatNow (pclLaneEvt (lpeTakeover ((List.range 62).foldl (fun s n => refreshSeq s l n) s) l))
  let dur := min (4 * (s.now - t.since)) (2 ^ 24 - 1)
  let cause := laneCause s t.lane
  let s := s.modSup fun u => { u with
    takeover := none, laneMode := .single l, tktime := dur, tkcount := (u.tkcount + 1) % 2 ^ 32 }
  s.work fun s =>
    let s := record s l .sys 0x11 (leBytes 1 t.lane.num ++ leBytes 1 cause ++ leBytes 2 e ++ leBytes 4 dur)
    postRunning s l 1 (t.lane.num * 256 + cause) e

/-- The same, what it posts in the order of R92. -/
def takeover (s : State) (l : LaneId) (t : Loss) : State := atOnce (fun s => takeoverRun s l t) s

/-- TAKEOVER (R33): a takeover that is due runs. -/
def execTakeover (s : State) : Out :=
  actUp s (match s.sup.takeover with
    | some t => if (s.lane t.lane.other).live then takeover s t.lane.other t else s
    | none => s)

/-! ### Rejoin -/

/-- A rejoin begins (R40, R537): the failed lane is held in reset. -/
def rejoinStart (s : State) : State :=
  let p := s.sup.active.other
  let s := (coresStop (s.modLane p fun x => { x with live := false, struck := false, ready := false, wdEnd := none }) p).work fun s =>
    linksClear s p
  s.modSup fun u => { u with laneMode := .rejoin, rejoin := some ⟨p, laneCause s p, s.now⟩ }

/-- A write to SYS.LANECTRL (R49): each bit that is illegal is rejected with STATE. -/
def laneCtrl (s : State) (l : LaneId) (v : Nat) : State :=
  let s :=
    if !nbit v 0 then s
    else if (s.lane l).live && onlyLive s l then s.work fun s => reject s l .sys 8 rSTATE
    else laneFail s l 7
  if !nbit v 1 then s
  else if s.sup.active = l ∧ s.sup.laneMode = .single l then rejoinStart s
  else s.work fun s => reject s l .sys 8 rSTATE

/-- FAIL_SELF (R49). -/
def execFailSelf (l : LaneId) (s : State) : Out := actUp s (laneCtrl s l 1)

/-- REJOIN_PEER (R40, R49). -/
def execRejoinPeer (l : LaneId) (s : State) : Out := actUp s (laneCtrl s l 2)

/-- A rejoin fails (R538). -/
def rejoinFail (s : State) (cause : Nat) : State :=
  match s.sup.rejoin with
  | none => s
  | some r =>
    let s := setCause (s.modSup fun u => { u with rejoin := none, laneMode := .single u.active }) r.lane cause
    let o := s.sup.active
    s.work (atOnce fun s =>
      let s := record s o .sys 0x13 (leBytes 1 r.lane.num ++ leBytes 1 1 ++ leBytes 2 cause ++ leBytes 2 (s.lane o).epoch)
      postRunning s o 4 (r.lane.num * 256) cause)

/-- REJOIN_TEST_FAULT (R537 step 2, R538): the memory test after LOCKSTEP or ECC, else the supply check, finds a fault. -/
def execRejoinTestFault (s : State) : Out :=
  actUp s (match s.sup.rejoin with
    | some r => rejoinFail s (if r.cause = 1 ∨ r.cause = 2 then 2 else 5)
    | none => s)

/-- REJOIN_TIMEOUT (R538): the lane keeps the cause of its failure. -/
def execRejoinTimeout (s : State) : Out :=
  actUp s (match s.sup.rejoin with
    | some r => if r.start + ms 1000 ≤ s.now then rejoinFail s r.cause else s
    | none => s)

/-- Whether an entry of a lane's event table is firing. -/
def someFiring (s : State) (l : LaneId) : Bool :=
  (s.lane l).entries.any fun p => match p.2.snap with
    | some x => snapFiring s l x
    | none => false

/-- The state of the surviving lane is copied into the rejoining one (R537 steps 3 and 4): its blocks, memories, journal,
private GiB, and its command number at every sequencer, which the sequencers have received up to here. The rejoining lane's own jobs
are to be delivered again (R459). -/
def mirrorCopy (s : State) (o p : LaneId) : State :=
  let s := s.work fun s => (List.range 62).foldl (fun s n => deliverAll s o n) s
  let x := s.lane o
  let s := s.modLane p fun _ => { x with shdrop := 0, struck := false, live := true, ready := true, beat := some s.now, wdEnd := none }
  s.work fun s =>
    let s := { s with dram := tset s.dram (2 + p.num) (s.gib (2 + o.num)), dq := s.dq.heal (2 + p.num) 0 (2 ^ 30) }
    let s := { s with recd := match p with
      | .a => { s.recd with bufA := s.recd.bufB }
      | .b => { s.recd with bufB := s.recd.bufA } }
    let again (n : Nat) (y : HStream) : HStream := if unitLane (strGet s n 4) o then y else { y with jobs := y.replay }
    let s := s.both fun l t => t.modLane l fun x => { x with strs := tmap x.strs again }
    let s := (List.range 62).foldl (fun s n => s.modSeq n fun q => match p with
      | .a => { q with numA := q.numB, pastA := 0 }
      | .b => { q with numB := q.numA, pastB := 0 }) s
    wdStart (linksClear (linksClear s p) o) p

/-- The duration of a start in µs (R543). -/
def startDur (s : State) (since : Nat) : Nat := min ((s.now - since) / 250) (2 ^ 24 - 1)

/-- The START record (R482). -/
def recStart (s : State) : State :=
  let c := s.sup.startCause
  record s s.sup.active .sys 3 (leBytes 1 (startKind c) ++ leBytes 1 c ++ leBytes 2 0 ++ leBytes 4 (s.recd.pcyc % 2 ^ 24) ++
    leBytes 4 s.recd.ophrs)

/-- REJOIN_CATCH_UP (R152, R537): not while an entry of the surviving lane is firing or the fabric grants the mirror nothing (R476);
a beat of the copied GiB with an uncorrectable error fails the rejoin (R466). -/
def execRejoinCatchUp (s : State) : Out :=
  actUp s (match s.sup.rejoin with
    | none => s
    | some r =>
      let o := r.lane.other
      if !(s.lane o).live || someFiring s o || decide (r.start + ms 1000 ≤ s.now) || rqBlocked s 10 then s
      else match s.dq.bad.find? (beatIn (2 + o.num) 0 (2 ^ 30)) with
      | some b => rejoinFail (s.work fun s => eccCount s b) 2
      | none =>
        let s := mirrorCopy s o r.lane
        let s := s.modSup fun u => { u with
          rejoin := none, laneMode := .dual, startCause := 7, startUs := startDur s r.start, retrain := false, imgNew := false
          cfgNew := false, unclean := false }
        let e := (s.lane o).epoch
        s.work (atOnce fun s =>
          let s := record (recStart s) o .sys 0x13 (leBytes 1 r.lane.num ++ leBytes 1 0 ++ leBytes 2 r.cause ++ leBytes 2 e)
          postRunning s o 3 (r.lane.num * 256) e))

/-! ### Hard faults -/

/-- What a shared engine does at a hard fault beside R27: TIM enters FREE (R429), the panel stops its lines (R515), SEC and CFG
end what they are about (R574, R526), the estimate stops (R600). -/
def engineStops (s : State) (e : Engine) : State :=
  match e with
  | .tim => (timFreeze s).modTim fun t => { t with frozen := true }
  | .pnl => pnlFault s
  | .cfg => cfgFault s
  | .sec => secFault s
  | .pwr => pwrFault s
  | .can => canFault s
  | .lin => linFault s
  | .hsi | .pcl | .cam | .fus | .snt | .ser | .eth | .fab | .recd => s

/-- A hard fault of a shared engine (R27) with its fault code. -/
def engineFault (s : State) (e : Engine) (code : Nat) : State :=
  if s.faulty (engineBlock e) then s else atOnce (fun s => hardFault (engineStops s e) (engineBlock e) code) s

/-- ENGINE_HARD_FAULT (R27). -/
def execEngineHardFault (e : Engine) (code : BitVec 32) (s : State) : Out := act s (engineFault s e code.toNat)

/-- What an uncorrectable error does to its reader (R22, R466, R538). -/
def eccError (s : State) (r : EccReader) : State :=
  match r with
  | .laneMemory l => if s.lanesUp then laneFail s l 2 else s
  | .laneDram l beat =>
    let s := s.work fun s => eccCount s beat.toNat
    if s.lanesUp then laneFail s l 2 else s
  | .engine e code beat => s.work fun s => engineFault (eccCount s beat.toNat) e code.toNat
  | .mirror beat =>
    if s.lanesUp && s.sup.rejoin.isSome then rejoinFail (s.work fun s => eccCount s beat.toNat) 2 else s

/-- The beat of the DRAM that an uncorrectable error lies in. -/
def eccBeat : EccReader → Option (BitVec 26)
  | .laneMemory _ => none
  | .laneDram _ b | .engine _ _ b | .mirror b => some b

/-- ECC_UNCORRECTABLE (R22, R466, R538): the beat holds the error until it is written. -/
def execEccUncorrectable (r : EccReader) (s : State) : Out :=
  actOn s (eccError (match eccBeat r with
    | some b => { s with dq := s.dq.spoil b.toNat }
    | none => s) r)

/-- A reader has met a beat with an uncorrectable error (R466). The fault code of an engine is open. -/
def eccMeet (s : State) (m : DramReader × Nat) : State :=
  match m.1 with
  | .lane l => eccError s (.laneDram l (BitVec.ofNat 26 m.2))
  | .engine e => eccError { s with freeCtr := s.freeCtr + 1 } (.engine e (Config.freeWord s.freeCtr) (BitVec.ofNat 26 m.2))

/-- The errors that the commands since the last tick have met take their effect (R466). -/
def eccSettle (s : State) : State := s.dq.met.foldl eccMeet { s with dq := { s.dq with met := [] } }

end Sys2Proof.Machine
end

