-- ==== Sys2Proof/Machine/Modes.lean ====
section
/-! DEFINITION. The module modes RUN, SERVICE, BENCH and PARK (spec/19 R546–R554). -/

namespace Sys2Proof.Machine

/-- MODECMD codes (R547). -/
def modeOf (n : Nat) : ModMode :=
  match n with
  | 0 => .run
  | 1 => .service
  | 2 => .bench
  | _ => .park

/-- Whether the service session is open (R571): one that expires at this instant is not. -/
def sessOpen (s : State) : Bool :=
  match s.sec.session with
  | some e => decide (s.now < e.1)
  | none => false

/-- The reason with which a mode command is rejected in the state of the module (R547), 0 if none: STATE or NOSESSION. -/
def modeJudge (s : State) (t : ModMode) : Nat :=
  let m := s.sup.modMode
  if s.sup.power = .holdup ∨ m = t ∨ m = .park ∨ (m = .bench ∧ t = .park) ∨ (m = .service ∧ t = .run ∧ s.cfg.none_) ∨
      (t = .park ∧ (s.sup.power = .low ∨ s.sup.laneMode = .rejoin)) then rSTATE
  else if m = .run ∧ t = .service ∧ !sessOpen s then 0x10
  else 0

/-- The front-ends of both lanes hold what the sequencers hold. -/
def levelsBoth (s : State) : State := levelsFromSeqs (levelsFromSeqs s .a) .b

/-- BENCH is left (R549): every commanded level off, every cylinder idle, every duty 0. -/
def leaveBench (s : State) : State := levelsBoth (dutiesTo (switchesOff (benchIdle s) false) fun _ => 0)

/-- What SERVICE switches off (R548). -/
def serviceOff (s : State) : State :=
  let s := dutiesTo (switchesOff s false) fun _ => 0
  let s := (List.range 6).foldl bankDiscard s
  levelsBoth (lpeService (lpeService s .a) .b)

/-- SERVICE is entered (R548, R553). -/
def enterService (s : State) : State := hstResign (serviceOff s)

/-- BENCH is entered (R549, R553): the stages are isolated, the sequencers go on with the levels commanded. -/
def enterBench (s : State) : State := hstResign ((List.range 32).foldl benchLevel s)

/-- The filters of the supply groups are brought up to now (R230), before the mode changes what they see (R549). -/
def groupsSettle (s : State) : State := (List.range 4).foldl groupSettle s

/-- No watchdog runs (R24). -/
def watchdogsOff (s : State) : State := s.both fun l s => s.modLane l fun x => { x with wdEnd := none }

/-- PARK is entered (R550 steps 1 to 3): the CAN modes are kept for the wake (R553). -/
def enterPark (s : State) : State :=
  let s := s.modSup fun u => { u with
    phase := .parking, parkAt := s.now, ckptDone := false, canBefore := s.bus.can.map fun p => (p.1, p.2.mode) }
  s.work (atOnce fun s =>
    let s := levelsBoth (dutiesTo (banksWind (switchesOff (shedStop (watchdogsOff s)) false)) fun _ => 0)
    hstResign (pnlPark (pclHalt (recHoldup s id))))

/-- The module takes a mode from which the tables of R547 let it come. -/
def modeEnter (s : State) (t : ModMode) : State :=
  let m := s.sup.modMode
  let s := s.work fun s =>
    let s := if m = .bench ∨ t = .bench then groupsSettle s else s
    let s := if m = .bench then leaveBench s else s
    if t = .run ∨ t = .park then debugEnd s else s
  let s := s.modSup fun u => { u with modMode := t, modBefore := if t = .park then m else u.modBefore }
  match t with
  | .run => s
  | .service => s.work (atOnce enterService)
  | .bench => s.work (atOnce enterBench)
  | .park => enterPark s

/-- A write to SYS.MODECMD (R547). A session that expires at this instant ends first (R571). DESIGN CHOICE: a wrong key or code is
RANGE in every state. -/
def modeCmd (s : State) (l : LaneId) (v : Nat) : State := atOnce (s := s) fun s =>
  if s.sup.active ≠ l then s.work fun s => reject s l .sys 0x34 rNOTOWNER
  else if nfld v 31 16 ≠ 0x4D44 ∨ 3 < nfld v 3 0 then s.work fun s => reject s l .sys 0x34 rRANGE
  else
    let s := s.work sessExpire
    let r := modeJudge s (modeOf (nfld v 3 0))
    if r ≠ 0 then s.work fun s => reject s l .sys 0x34 r else modeEnter s (modeOf (nfld v 3 0))

/-- MODE_RUN (R547). -/
def execModeRun (l : LaneId) (s : State) : Out := actUp s (modeCmd s l 0x4D440000)
/-- MODE_SERVICE (R547, R548). -/
def execModeService (l : LaneId) (s : State) : Out := actUp s (modeCmd s l 0x4D440001)
/-- MODE_BENCH (R547, R549). -/
def execModeBench (l : LaneId) (s : State) : Out := actUp s (modeCmd s l 0x4D440002)
/-- MODE_PARK (R547, R550). -/
def execModePark (l : LaneId) (s : State) : Out := actUp s (modeCmd s l 0x4D440003)

/-! ### Parked -/

/-- The cameras and their links go off (R550 step 4, R553). -/
def camPark (s : State) : State :=
  (List.range 8).foldl (fun s n => (camPower (linkDrop (abandonFrame s n) n) n false).modLink n fun k => { k with st := .down, lost := none }) s

/-- The CAN channels go off (R379, R553). DESIGN CHOICE: a frame on the bus ends as at bus-off (R377); MODE reads OFF also where the
transceiver listens for the wake-up pattern. -/
def canPark (s : State) : State :=
  (List.range 16).foldl (fun s n => if canEn s n then canSetMode (canAttemptEnd s n true) n 7 else s) s

/-- The lanes stop (R550 step 4). -/
def lanesPark (s : State) : State := s.both fun l s => (coresStop s l).modLane l fun x => { x with live := false, beat := none }

/-- PARK step 4 (R550). A takeover or rejoin that has not ended by then does not. -/
def parkShut (s : State) : State :=
  let s := s.work fun s => timFreeze (canPark (camPark ((List.range 10).foldl ethDrop s)))
  (lanesPark s).modSup fun u => { u with
    phase := .parked, parkAt := s.now, takeover := none, rejoin := none
    laneMode := if u.rejoin.isSome then .single u.active else u.laneMode }

/-- PARK_SHUTDOWN (R550): steps 2 and 3 are done. -/
def execParkShutdown (s : State) : Out :=
  actUp s (if s.sup.phase == .parking && s.sup.power != .holdup && finalDone s && pnlSafe s then parkShut s else s)

/-- The module wakes on the first source (R551); during the entry sequence the wake waits for its end. -/
def wakeUp (s : State) (src : Nat) : State :=
  if s.sup.modMode = .park ∧ (s.sup.phase = .parking ∨ s.sup.phase = .parked) ∧ s.sup.power ≠ .holdup ∧
      s.sup.warmPending.isNone then
    s.modSup fun u => { u with wakeSrc := src, warmPending := some 6 }
  else s

/-- WAKE_INPUT (R551): a rising edge on WAKE1 (0) or WAKE2 (1). -/
def execWakeInput (k : Fin 2) (s : State) : Out :=
  actSup s (if nbit (rget s .a (Block.sys.base + 0x3C)) (16 + k) then wakeUp s (2 ^ k.val) else s)

/-- WAKE_TIMER (R551): TIMER minutes after step 4. -/
def execWakeTimer (s : State) : Out :=
  let t := nfld (rget s .a (Block.sys.base + 0x3C)) 15 0
  actSup s (if s.sup.phase = .parked ∧ t ≠ 0 ∧ s.sup.parkAt + t * ms 60000 ≤ s.now then wakeUp s 4 else s)

/-- CAN_WAKE (R373, R551): the wake-up pattern on a channel with WAKEEN, detected while the module is in PARK; WAKE is posted
(R401), which stopped cores drop (R96). -/
def execCanWake (n : Fin 16) (s : State) : Out :=
  let heard := sfld s .can (0x1000 + 0x1000 * n) 25 25 = 1 ∧ s.sup.modMode = .park ∧ !s.faulty .can
  actSup s (if heard then wakeUp (s.work fun s => postEngine s .can 5 n) (8 + n * 2 ^ 16) else s)

end Sys2Proof.Machine
end

