-- ==== Sys2Proof/Machine/Starting.lean ====
section
/-! DEFINITION. Cold start, warm start, power failure and hold-up, the journal, core start (spec/18, spec/03 R116–R119). -/

namespace Sys2Proof.Machine

/-! ### What outlives power -/

/-- A stream as a cold start finds it: CLOSED, with the jobs of the journal and their numbers. -/
def HStream.stored (x : HStream) : HStream :=
  match x.jobs.head?, x.jobs.getLast? with
  | some f, some g =>
    { session := x.session, seqA := g.1.seq, seqB := (f.1.seq + 2 ^ 32 - 1) % 2 ^ 32, jobs := x.replay }
  | _, _ => {}

/-- What a lane keeps without power: its journal. -/
def Lane.stored (x : Lane) : Lane :=
  { strs := (x.strs.filter fun p => !p.2.jobs.isEmpty).map fun p => (p.1, p.2.stored) }

/-- FNGEN (R264). -/
def fngenReg : Nat := Block.hsi.base + 0x10
/-- NEXTPID (R299). -/
def nextPidReg : Nat := Block.pcl.base + 0x14

/-- The module without power: the MRAMs (R536), the managed NAND (the recorder's and the yield store, both configuration
copies, the image slots), the keys, MINVER and BOOTSEL. `unclean`: a hold-up did not finish its step 5 (R543). -/
def offState (s : State) (unclean : Bool) : State :=
  { pending := s.pending
    freeCtr := s.freeCtr
    sup := { unclean := unclean, ckptSlot := s.sup.ckptSlot, ckptSeq := s.sup.ckptSeq }
    laneA := s.laneA.stored
    laneB := s.laneB.stored
    sregs := s.sregs.filter fun p => p.1 == fngenReg || p.1 == nextPidReg
    recd := { store := s.recd.store, seqEnd := s.recd.seqEnd, oldest := s.recd.oldest, flushed := s.recd.flushed,
              next := s.recd.flushed, seq := s.recd.seqEnd, ophrs := s.recd.ophrs, pcyc := s.recd.pcyc }
    pcl := { store := s.pcl.store, yidx := s.pcl.yidx, yold := s.pcl.yold, yexp := s.pcl.yexp, ysent := s.pcl.yexp }
    hst := { levels := tmap s.hst.levels fun _ x => { epoch := x.epoch, maxEpoch := x.epoch } }
    pnl := { marker := s.pnl.marker, stored := s.pnl.stored }
    sec := { keys := s.sec.keys, minver := s.sec.minver, bootsel := s.sec.bootsel, slots := s.sec.slots,
             imgHash := s.sec.imgHash }
    cfg := { copyA := s.cfg.copyA, copyB := s.cfg.copyB } }

/-! ### Configuration records -/

/-- A configuration record that is a command to a sequencer. DESIGN CHOICE: an enabled channel, whose output follows its class alone
(R533, R535), rejects a duty with STATE; a disabled one, as every channel at a cold start, takes it. -/
def cfgSeqWrite (s : State) (l : LaneId) (b : Block) (off v : Nat) : State :=
  if b = .pvc ∧ 0x100 ≤ off ∧ off % 0x20 = 4 ∧ pvEnabled s ((off - 0x100) / 0x20) then reject s l b off rSTATE
  else
    let r := seqJudge s l b off v
    if r ≠ 0 then reject s l b off r
    else match b with
      | .ddv => ddvExec s l off v
      | .pvc => pvcExec s l off v
      | _ => lswExec s l off v

/-- A configuration record is written from a lane (R520). -/
def cfgWrite1 (s : State) (l : LaneId) (a v : Nat) : State :=
  let b := blockOf a
  if isSeqCmd b (a - b.base) v then cfgSeqWrite s l b (a - b.base) v else regWriteBase s l 0 a v

/-- A write of a configuration record (R521): a rejection is counted in CFGREJ, not in CMDERR. -/
def cfgCounted (f : State → State) (a : Nat) (s : State) : State :=
  let err := (blockOf a).base + 0x0C
  let ea := rget s .a err
  let eb := rget s .b err
  let s := f (rset (rset s .a err 0) .b err 0)
  let bad := nbit (rget s .a err) 31 || nbit (rget s .b err) 31
  let s := rset (rset s .a err ea) .b err eb
  if bad then scount s .cfg 0x30 1 else s

/-- A configuration record is applied (R520): a register of each lane in both lanes, any other once; MODECMD is a command of the
active lane. -/
def cfgApply (s : State) (r : Nat × Nat) : State :=
  if r.1 = Block.sys.base + 0x34 then cfgCounted (fun s => modeCmd s s.sup.active r.2) r.1 s
  else s.work (cfgCounted (fun s =>
    if laneHeld r.1 then s.both fun l s => cfgWrite1 s l r.1 r.2 else cfgWrite1 s s.sup.active r.1 r.2) r.1)

/-- A copy is loaded and its records applied in body order (R520, R522, R529). -/
def cfgLoad (s : State) (p : LaneId × Nat) : State :=
  let s := s.modCfg fun g => { g with loaded := p.1, seq := p.2, none_ := false }
  (cfgRecords (cfgBody (cfgCopy s p.1))).foldl cfgApply s

/-! ### Images and cores -/

/-- The payload of the image in RUNSLOT (R561). -/
def payload (s : State) : List Byte := ((tfind s.sec.slots s.sec.runslot).getD []).drop 128

/-- Whether a slot holds a valid image (R562). -/
def slotValid (s : State) (t : Nat) : Bool :=
  match tfind s.sec.slots t with
  | some m => !s.faulty .sec && imgValid s m
  | none => false

/-- A segment of the payload enters a lane's memories (R116, R118). -/
def loadSeg (p : List Byte) (l : LaneId) (s : State) (k : Nat) : State :=
  let (region, core, flags, off, len, src) := segAt p k
  let bytes := if flags % 2 = 1 then List.replicate len (0 : Byte) else sliceB p src len
  match region with
  | 0 => s.modLane l fun x => { x with lmem := tmod x.lmem core fun m => mwriteN m off bytes }
  | 1 => s.modLane l fun x => { x with sram := mwriteN x.sram off bytes }
  | _ => dramWrite s (2 + l.num) off bytes

/-- The image is loaded into both lanes (R118): what no segment covers of core-local memory and lane SRAM reads 0. -/
def loadImage (s : State) : State :=
  let p := payload s
  let s := s.work fun s => s.both fun l s =>
    (List.range (leAt p 8 2)).foldl (loadSeg p l) (s.modLane l fun x => { x with lmem := [], sram := [] })
  s.modSup fun u => { u with loaded := true }

/-- A core starts, or stays stopped when CORE_MASK leaves it out (R52, R118, R119). -/
def bootCore (s : State) (p : List Byte) (l : LaneId) (c : Nat) : State :=
  let f (k : Nat) : Word := u32 (leAt p (0x40 + 16 * c + 4 * k) 4)
  s.modCore l c fun x =>
    if nbit (leAt p 6 1) c then
      { run := .running, pc := f 0, tvec := f 1, startarg := f 2, progend := f 3, cycle0 := s.now, startcnt := x.startcnt + 1 }
    else { startcnt := x.startcnt }

/-- The cores of a lane start in the same cycle (R118). -/
def bootLane (s : State) (l : LaneId) : State := (List.range 8).foldl (fun s c => bootCore s (payload s) l c) s

/-- Whether a lane passed the tests of the present start. -/
def lanePassed (s : State) : LaneId → Bool
  | .a => !s.sup.failA
  | .b => !s.sup.failB

/-- The cores of the lanes that passed start with the image that was loaded. -/
def bootLanes (s : State) : State :=
  if !s.sup.loaded then s
  else (s.work fun s => s.both fun l s => if lanePassed s l then bootLane s l else s).modSup fun u => { u with loaded := false }

/-- CORE_START (R118): the cores of a module that came up without output enable (R522) start. -/
def execCoreStart (s : State) : Out := actUp s (bootLanes s)

/-! ### Cold start -/

/-- A lane that passed comes up, at output enable or without (`out`): heartbeats, owner ticks, watchdog (R23, R24). -/
def laneUp (s : State) (l : LaneId) (e : Nat) (out : Bool) : State :=
  if !lanePassed s l then s
  else wdStart (s.modLane l fun x => { x with live := true, struck := false, ready := out, epoch := e, beat := some s.now }) l

/-- The module comes up in SERVICE without output enable (R522, R528, R564); from a warm start it enters it (R548). -/
def serviceUp (s : State) : State :=
  let s := if s.sup.phase = .warm ∧ s.sup.modMode ≠ .service then s.work fun s =>
      serviceOff (if s.sup.modMode = .bench then leaveBench (groupsSettle s) else s)
    else s
  let s := s.modSup fun u => { u with modMode := .service, phase := .running, active := if u.failA && !u.failB then .b else .a }
  (s.both fun l s => laneUp s l (s.lane l).epoch false).work fun s => recStart (hstListen s)

/-- The tests and the counters of a cold start (R494, R527, R528): a lane that fails is held off with cause ECC. -/
def coldBase (s : State) (cause : Nat) (t : StartTests) : State :=
  let s := offState s (decide (cause = 1) && s.sup.unclean)
  let s := s.modSup fun u => { u with
    phase := .cold, startCause := cause, failA := t.laneA, failB := t.laneB, causeA := if t.laneA then 2 else 0
    causeB := if t.laneB then 2 else 0 }
  let s := { s with recd := { s.recd with pcyc := s.recd.pcyc + 1 } }
  s.work fun s =>
    let s := rwrap (rwrap s .a fngenReg 1) .a nextPidReg 1
    let fault (s : State) (b : Bool) (e : Engine) : State :=
      if b then engineFault { s with freeCtr := s.freeCtr + 1 } e (Config.freeWord s.freeCtr).toNat else s
    fault (fault s t.sec .sec) t.cfg .cfg

/-- Step 4 of a cold start (R522, R526). -/
def coldConfig (s : State) : State :=
  let s := s.modCfg fun g => { g with seqA := cfgSeqOf s g.copyA, seqB := cfgSeqOf s g.copyB }
  match (if s.faulty .cfg then none else cfgNewest s) with
  | some p => (cfgLoad s p).modSup fun u => { u with cfgNew := true }
  | none => s.modCfg fun g => { g with none_ := true }

/-- The engines at a cold start, configured (R269, R335, R424, R510). -/
def coldEngines (s : State) : State := s.work fun s =>
  let s := (List.range 48).foldl (fun s n => fnArrive (sput s .hsi (fnOff n 0x10) (pattern 24 (fnQ s n 0 0 * 256))) n) s
  pwrCold (pnlCold (camCold (timCold (s.both fun l s => selsReset s l))))

/-- Step 5 of a cold start (R563, R564): without a valid image the recovery loader runs, unless SEC has failed (R574). -/
def coldImage (s : State) : State :=
  let b := s.sec.bootsel
  match (if slotValid s b then some b else if slotValid s (1 - b) then some (1 - b) else none) with
  | some r =>
    let s := s.modSec fun x => { x with
      runslot := r, image := true, fallback := r != b, imgHash := imgHash ((tfind x.slots r).getD []) }
    loadImage (s.modSup fun u => { u with imgNew := true })
  | none => s.modSec fun x => { x with recovery := !s.faulty .sec }

/-- A cold start up to output enable (R527, R528). -/
def coldStart (s : State) (cause : Nat) (t : StartTests) : State :=
  let s := coldImage (coldEngines (coldConfig (coldBase s cause t)))
  if s.sup.failA && s.sup.failB then serviceUp (s.modSup fun u => { u with loaded := false })
  else if s.cfg.none_ || !s.sec.image then serviceUp s
  else s

/-- POWER_ON (R527): the logic supply reaches a module that is off; the tests find `t`. -/
def execPowerOn (t : StartTests) (s : State) : Out := actSup s (if s.sup.phase = .off then coldStart s 1 t else s)

/-! ### Warm start -/

/-- The fields of shared registers that a warm start leaves although their reset column gives one value: what the engines show
that run on (R269, R301, R335, R363, R400, R428, R477), RUN of PCL and FUS, a PV channel's duty, which follows its reset class
(R533), and present conditions of the output stages. -/
def warmKeeps (b : Block) (off : Nat) (name : String) (ro : Bool) : Bool :=
  match b with
  | .pcl | .fus => ro || (off == 0 && name == "RUN")
  | .hsi | .cam | .can | .lin | .snt | .ser | .eth | .tim => ro
  | .pvc => (decide (0x100 ≤ off) && off % 0x20 == 4) || name == "SBNOW" || name == "OPENNOW"
  | .lsw => ["ON", "INRUSH", "GTRIP", "UV", "GRPTEMP"].contains name
  | .ddv => name == "VBSTLOW" || name == "BSTLIM"
  | _ => false

/-- A shared register, or one that the sequencers hold, after a warm start (R10, R12, R529): what the map does not keep returns to
its reset value, but for LOCK and `warmKeeps`. -/
def sharedWarm (a w : Nat) : Nat :=
  let b := blockOf a
  let off := a - b.base
  match b.descAt off with
  | none => w
  | some d => d.fields.foldl (fun w f =>
      if f.kept || f.acc == .w1s || warmKeeps b off f.name (f.acc == .ro) then w else nset w f.hi f.lo f.reset) w

/-- A lane's own register after a warm start (R10, R12). -/
def laneWarm (a w : Nat) : Nat :=
  let b := blockOf a
  match b.descAt (a - b.base) with
  | none => 0
  | some d => d.warmVal w

/-- Whether a register belongs to a transmit buffer of CAN that is pending or on the bus: it continues over a warm start (R400). -/
def txPends (s : State) (a : Nat) : Bool :=
  let off := a - Block.can.base
  blockOf a == .can && decide (0x1000 ≤ off) && decide (0x400 ≤ off % 0x1000) &&
    let b := a - (off % 0x1000 - 0x400) % 0x60
    let r := rget s .a (b + 8)
    (r == 1 || r == 2)

/-- The registers after a warm start. -/
def regsWarm (s : State) : State :=
  let s := { s with sregs := tmap s.sregs fun a w => if txPends s a then w else u32 (sharedWarm a w.toNat) }
  s.both fun l s => s.modLane l fun x => { x with regs := tmap x.regs fun a w => u32 (laneWarm a w.toNat) }

/-- A sequencer at step 0 of a warm start (R533, R534): its reset class, 50 ms to hold. DESIGN CHOICE: the lanes count their
commands from 0 again, so that their numbers agree (R26 states no reset of the count). -/
def seqStop (s : State) (n : Nat) : State :=
  (seqClass s n true).modSeq n fun q => { q with
    numA := 0, numB := 0, pastA := 0, pastB := 0
    mismatch := false, expired := false, off := false, holding := true, holdUntil := some (s.now + ms 50), lastTickA := none
    lastTickB := none }

/-- A lane at step 0: its cores stop, it sends nothing, its blocks restart (R152, R177, R536). -/
def laneStop (s : State) (l : LaneId) : State :=
  let s := (coresStop s l).modLane l fun x => { x with
    live := false, struck := false, ready := false, wdEnd := none, wdHalf := none, beat := none, shdrop := 0
    strs := tmap x.strs fun _ y => { y with jour := none, held := [], jobs := y.replay } }
  s.work fun s => lpeWarm (evtWarm (halWarm (linksClear s l) l) l) l

/-- What the outputs keep off through a warm start: those the hold-up sequence switched off (R535), all in SERVICE (R548). -/
def warmOutputs (s : State) (cause : Nat) : State :=
  let s := { s with out := { s.out with
    ls := tmap s.out.ls fun _ x => { x with code := 0, codeAt := max x.codeAt (s.now + 1) }
    pv := tmap s.out.pv fun _ x => { x with high := none } } }
  let s := if cause = 3 then switchesOff s true else s
  if s.sup.modMode = .service then dutiesTo (switchesOff s false) fun _ => 0 else s

/-- Step 0 of a warm start (R529); a lane that does not pass its step 1, the supply check, fails with cause SUPPLY (R22). -/
def warmStop (s : State) (cause : Nat) (t : StartTests) : State :=
  let s := s.modSup fun u => { u with
    phase := .warm, startAt := s.now, startCause := cause, retrain := t.training, imgNew := false, cfgNew := false, unclean := false
    failA := t.laneA, failB := t.laneB, causeA := if t.laneA then 5 else u.causeA, causeB := if t.laneB then 5 else u.causeB
    takeover := none, rejoin := none, warmPending := none, loaded := false
    modMode := if u.modMode = .park then u.modBefore else u.modMode }
  let s := (s.work regsWarm).both fun l s => laneStop s l
  s.work fun s => pclLaneEvt (fusWarm (fabWarm (pwrWarm (warmOutputs ((List.range 62).foldl seqStop s) cause))))

/-- Step 3 of a warm start (R526, R529, R530). -/
def warmConfig (s : State) : State :=
  match (if s.faulty .cfg then none else cfgNewest s) with
  | some p => if p.2 ≠ s.cfg.seq ∨ s.cfg.none_ then (cfgLoad s p).modSup fun u => { u with cfgNew := true } else s
  | none => s

/-- The wake: links and channels come back with their modes (R379), camera power under PWRBOOT (R551, R553). -/
def wakeEngines (s : State) : State :=
  let before := s.sup.canBefore
  let s := s.modSup fun u => { u with canBefore := [] }
  s.work fun s =>
    let s := (List.range 16).foldl (fun s n =>
      if canEn s n then
        let m := tget before n
        canSetMode (s.modCan n fun c => { c with tec := 0, rec_ := 0, busOff := m == 4 }) n m
      else s) s
    timWake (pnlStart (camBoot s))

/-- A warm start up to output enable (R529): the selectors start with the MINIDLE now in force (R204, R215); an image that is refused at
step 4, or a module that runs none (R564, R574), makes it a cold start (R532). -/
def warmStart (s : State) (cause : Nat) (t : StartTests) : State :=
  let s := (warmConfig (warmStop s cause t)).work fun s => s.both fun l s => selsReset s l
  let s := if cause = 6 then wakeEngines s else if cause = 3 then s.work pnlStart else s
  let s := s.modPwr fun p => { p with camShed := [] }
  let h := imgHash ((tfind s.sec.slots s.sec.runslot).getD [])
  if !s.sec.image then coldStart s 8 t
  else if h = s.sec.imgHash then loadImage s
  else if slotValid s s.sec.runslot then
    loadImage ((s.modSec fun x => { x with imgHash := h }).modSup fun u => { u with imgNew := true })
  else coldStart s 8 t

/-- The hold-up sequence ends through supply return (R542, R544). -/
def holdupReturn (s : State) : State :=
  let t := match s.pwr.huAt with
    | some t => min ((s.now - t) / ms 1) 65535
    | none => 0
  let s := s.work fun s => sput s .pwr 0x44 (t * 2 ^ 16 + 1)
  (s.modPwr fun p => { p with huAt := none, returned := none }).modSup fun u => { u with power := .normal }

/-- WARM_START (R529, R539, R542, R551): a warm start that is due begins: after a supply return when finalisation is complete,
after a double fault, after a wake once the module is parked. -/
def execWarmStart (t : StartTests) (s : State) : Out :=
  actSup s (if s.sup.phase = .off ∨ s.sup.phase = .cold then s
    else match s.sup.warmPending with
      | some 3 => if s.sup.power = .holdup ∧ finalDone s then warmStart (holdupReturn s) 3 t else s
      | some 6 => if s.sup.phase = .parked then warmStart s 6 t else s
      | some c => if s.sup.power ≠ .holdup then warmStart s c t else s
      | none => s)

/-- WARM_START_ESCALATE (R532): not at step 6 within 1 s. -/
def execWarmStartEscalate (t : StartTests) (s : State) : Out :=
  actSup s (if s.sup.phase = .warm ∧ s.sup.power ≠ .holdup ∧ s.sup.startAt + ms 1000 ≤ s.now then coldStart s 8 t else s)

/-! ### Output enable -/

/-- Output enable (R527 step 8, R529 step 6, R528, R535). -/
def outputEnable (s : State) : State :=
  let o : LaneId := if s.sup.failA then .b else .a
  let e := (max s.laneA.epoch s.laneB.epoch + 1) % 65536
  let s := s.modSup fun u => { u with
    phase := .running, active := o, laneMode := if u.failA || u.failB then .single o else .dual, startUs := startDur s u.startAt }
  let s := (ownAll s o e).work levelsBoth
  let s := bootLanes (s.both fun l s => laneUp s l e true)
  s.work fun s => recStart (hstListen s)

/-- OUTPUT_ENABLE (R527, R529): a cold start and a wake wait for HUREADY; `energy` is the bank's, in 0.1 J. Without a
configuration a warm start comes up in SERVICE too (R522). -/
def execOutputEnable (energy : BitVec 16) (s : State) : Out :=
  let ready := huReadyNow s energy.toNat
  actSup s (if s.sup.power = .holdup ∨ (s.sup.failA ∧ s.sup.failB) then s
    else if s.sup.phase = .warm ∧ s.cfg.none_ then serviceUp s
    else if s.sup.phase = .cold ∨ (s.sup.phase = .warm ∧ s.sup.startCause = 6) then
      if ready then outputEnable (bankEnergy s energy.toNat) else s
    else if s.sup.phase = .warm then outputEnable s
    else s)

/-! ### Start keys -/

/-- A write to SYS.RSTCMD (R518). -/
def rstCmd (s : State) (l : LaneId) (v : Nat) (t : StartTests) : State :=
  if s.sup.active ≠ l then s.work fun s => reject s l .sys 0x28 rNOTOWNER
  else if s.sup.power = .holdup then s.work fun s => reject s l .sys 0x28 rSTATE
  else if v = 0x5741524D then warmStart s 4 t
  else if v = 0x434F4C44 then coldStart s 2 t
  else s.work fun s => reject s l .sys 0x28 rRANGE

/-- RSTCMD_COLD (R518). -/
def execRstcmdCold (l : LaneId) (t : StartTests) (s : State) : Out := actUp s (rstCmd s l 0x434F4C44 t)
/-- RSTCMD_WARM (R518). -/
def execRstcmdWarm (l : LaneId) (t : StartTests) (s : State) : Out := actUp s (rstCmd s l 0x5741524D t)

/-! ### The journal and the supply -/

/-- Whether a checkpoint is due (R536): every 100 ms, and at finalisation. -/
def ckptDue (s : State) : Bool :=
  (s.sup.phase == .running || s.sup.phase == .parking || s.sup.phase == .warm) &&
    (decide (s.sup.ckptAt + ms 100 ≤ s.now) ||
      (!s.sup.ckptDone && (s.sup.power == .holdup || s.sup.phase == .parking)))

/-- JOURNAL_CHECKPOINT (R536): into the other slot, with the next sequence number. -/
def execJournalCheckpoint (s : State) : Out :=
  actOn s (if ckptDue s then
    s.modSup fun u => { u with ckptDone := true, ckptAt := s.now, ckptSlot := 1 - u.ckptSlot, ckptSeq := u.ckptSeq + 1 }
    else s)

/-- LOW_SUPPLY_ENTRY (R539). -/
def execLowSupplyEntry (s : State) : Out :=
  actOn s (if s.sup.power = .normal then
    (s.modSup fun u => { u with power := .low }).work fun s => postEngine s .pwr 3 0 else s)

/-- LOW_SUPPLY_EXIT (R539). -/
def execLowSupplyExit (s : State) : Out :=
  actOn s (if s.sup.power = .low then s.modSup fun u => { u with power := .normal } else s)

/-- What HOLD-UP does in a module whose journal may be written (R539 steps 1 to 3, R540, R541). -/
def holdupStops (s : State) (v1 v2 : Nat) : State :=
  let s := recHoldup s fun s => record s s.sup.active .pwr 4 (leBytes 2 v1 ++ leBytes 2 v2)
  let s := dutiesTo (banksWind (switchesOff s true)) fun n => rfld s .a (pvReg n 0xC) 15 0
  hstResign (imgAbandon (cfgAbandon (pclHalt s)))

/-- What HOLD-UP adds to a PARK entry that has done its step 1 and is at step 2 (R552): its record, and the writes that end. -/
def holdupOnPark (s : State) (v1 v2 : Nat) : State :=
  imgAbandon (cfgAbandon (record s s.sup.active .pwr 4 (leBytes 2 v1 ++ leBytes 2 v2)))

/-- HOLD-UP is entered (R538, R539–R541); `v1`, `v2` are VLOG1 and VLOG2 in 10 mV. A cold start writes nothing to the
journal; a PARK entry goes on from the step that it has reached (R552). -/
def holdupEnter (s : State) (v1 v2 : Nat) : State :=
  let s := s.modSup fun u => { u with
    power := .holdup, rejoin := none, laneMode := if u.rejoin.isSome then .single u.active else u.laneMode, warmPending := none
    ckptDone := u.ckptDone && u.phase == .parking }
  s.work (atOnce fun s =>
    let s := watchdogsOff (shedStop (s.modPwr fun p => { p with huAt := some s.now, returned := none }))
    let s := postEngine (rwrap s .a (Block.pwr.base + 0x48) 1) .pwr 1 (v1 + v2 * 2 ^ 16)
    let s := if s.sup.phase = .cold then s else if s.sup.phase = .parking then holdupOnPark s v1 v2 else holdupStops s v1 v2
    pnlHoldup (camHoldup s))

/-- HOLD_UP_ENTRY (R539): both VLOG inputs below VHU for 2 ms. -/
def execHoldUpEntry (v1 v2 : BitVec 16) (s : State) : Out :=
  actOn s (if s.sup.power = .holdup then s else holdupEnter s v1.toNat v2.toNat)

/-- SUPPLY_RETURN (R542): both above VRET for 5 ms during HOLD-UP. During a cold start the module still switches off (R541). -/
def execSupplyReturn (s : State) : Out :=
  actOn s (if s.sup.power ≠ .holdup ∨ s.pwr.returned.isSome then s
    else
      let s := s.work fun s => postEngine (s.modPwr fun p => { p with returned := some s.now }) .pwr 2 0
      if s.sup.phase = .cold then s else s.modSup fun u => { u with warmPending := some 3 })

/-- Whether the hold-up sequence has come to its step 5 (R539, R541, R542). -/
def holdupOver (s : State) : Bool :=
  s.sup.power == .holdup &&
    if s.sup.phase == .cold then pnlSafe s
    else s.pwr.returned.isNone && ((finalDone s && pnlSafe s) ||
      (match s.pwr.huAt with
      | some t => decide (t + ms 250 ≤ s.now)
      | none => false))

/-- HOLD_UP_SWITCH_OFF (R539 step 5). -/
def execHoldUpSwitchOff (s : State) : Out := actSup s (if !s.dark && holdupOver s then offState s false else s)

/-- HOLD_UP_ENERGY_OUT (R541). -/
def execHoldUpEnergyOut (s : State) : Out := actSup s (if !s.dark && s.sup.power == .holdup then offState s true else s)

/-- PARK_POWER_LOSS (R552). -/
def execParkPowerLoss (s : State) : Out := actSup s (if s.sup.phase = .parked then offState s false else s)

end Sys2Proof.Machine
end

