-- ==== Sys2Proof/Machine/Bus.lean ====
section
/-! DEFINITION. Writes of a word of register space by a core, and the rows of the table for registers without a row of their
own (spec/00 R4–R17). -/

namespace Sys2Proof.Machine

/-- A write of a word of register space: LANECTRL, RSTCMD (the tests of that start find nothing) and MODECMD beside what
BusBase does. -/
def regWriteAny (s : State) (l : LaneId) (c a v : Nat) : State :=
  if a = Block.sys.base + 0x08 then if s.lanesUp then laneCtrl s l v else s
  else if a = Block.sys.base + 0x28 then if s.lanesUp then rstCmd s l v ⟨false, false, false, false, false⟩ else s
  else if a = Block.sys.base + 0x34 then if s.lanesUp then modeCmd s l v else s
  else s.work fun s => regWriteBase s l c a v

/-- A write of a word of register space by a core, with MSEQ (R556). -/
def regWrite (s : State) (l : LaneId) (c a v : Nat) : State := closed s (regWriteAny s l c a v)

/-- A word address of register space. -/
def regAddr (a : BitVec 24) : Nat := 0xF0000000 + a.toNat / 4 * 4

/-- GENERIC_REGISTER_WRITE (R4–R17): core `c` of a lane writes `v` to the word of register space at an offset from
0xF000_0000. -/
def execGenericRegisterWrite (l : LaneId) (c : Fin 8) (a : BitVec 24) (v : Word) (s : State) : Out :=
  actOn s (regWriteAny s l c (regAddr a) v.toNat)

/-- READ_CLEAR (R9): a read of a word of register space by a core, with its effects. -/
def execReadClear (l : LaneId) (c : Fin 8) (a : BitVec 24) (s : State) : Out := act s (regRead s l c (regAddr a)).2

/-- LATCHED_PAIR_READ (R496): a read of the low half of a pair latches the high half for the reading lane. -/
def execLatchedPairRead (l : LaneId) (c : Fin 8) (a : BitVec 24) (s : State) : Out := act s (regRead s l c (regAddr a)).2

/-- BLOCK_LOCK (R12): 1 is written to the LOCK bit of a block beside what its register holds. -/
def execBlockLock (l : LaneId) (b : Block) (s : State) : Out :=
  let a := b.base + (match b with | .sys => 0x54 | _ => 0)
  actOn s (regWriteAny s l 0 a (2 ^ 31 + rget s l a % 2 ^ 31))

end Sys2Proof.Machine
end

