-- ==== Sys2Proof/Machine/Flags.lean ====
section
/-! DEFINITION. The flags of ST, predicates and conditions (R51, R53, R58, R62–R66). -/

namespace Sys2Proof.Machine

/-- A predicate; p0 reads 1 (R51). -/
def Core.pred (c : Core) (n : Nat) : Bool := if n = 0 then true else tget c.p n

/-- Write a predicate; a write to p0 is discarded (R51). -/
def Core.setPred (c : Core) (n : Nat) (b : Bool) : Core := if n = 0 then c else { c with p := tset c.p n b }

/-- Whether an instruction executes: p[G] XOR N (R53). -/
def Core.guard (c : Core) (i : Issue) : Bool := c.pred i.g.val != i.n

/-- The sticky ST.SAT after an operation that clamped or not (R58, R66). -/
def Core.orSat (c : Core) (b : Bool) : Core := { c with sat := c.sat || b }

/-- The sticky ST.AOV after an accumulator result that was clamped or not (R64, R66). -/
def Core.orAov (c : Core) (b : Bool) : Core := { c with aov := c.aov || b }

/-- The conditions of CMP and CMPI (R62). -/
def condHolds (k : Cond) (a b : Word) : Bool :=
  match k with
  | .eq => a == b
  | .ne => a != b
  | .lt => decide (a.toInt < b.toInt)
  | .ge => decide (b.toInt ≤ a.toInt)
  | .ltu => decide (a.toNat < b.toNat)
  | .geu => decide (b.toNat ≤ a.toNat)
  | .bs => (a &&& b) != 0
  | .bc => (a &&& b) == 0

/-- The operations of PLOG (R63). -/
def popApply (k : Pop) (a b : Bool) : Bool :=
  match k with
  | .and => a && b
  | .or => a || b
  | .xor => a != b
  | .andn => a && !b
  | .orn => a || !b
  | .xnor => a == b
  | .set => true
  | .clr => false

/-- ST as MFS reads it (R79). -/
def Core.st (c : Core) : Word := u32 (8 * b2n c.trap + 4 * b2n c.algn + 2 * b2n c.aov + b2n c.sat)

/-- PREDS as MFS reads it: p7–p0 (R79). -/
def Core.preds (c : Core) : Word := u32 ((List.range 8).foldl (fun n k => n + b2n (c.pred k) * 2 ^ k) 0)

/-- A signed value saturated to 32 bits, and whether it clamped (R58). -/
def sat32 (x : Int) : Word × Bool := (i32 (satI 32 x), clampsI 32 x)

end Sys2Proof.Machine
end

