-- ==== Sys2Proof/Machine/Operands.lean ====
section
/-! DEFINITION. Operand forms of Ranly: value registers, accumulators, halves, immediates, effective addresses. -/

namespace Sys2Proof.Machine

/-- A value register (R51: there is no hard-wired zero register). -/
def Core.getV (c : Core) (n : Nat) : Word := tget c.v n

/-- Write a value register. -/
def Core.setV (c : Core) (n : Nat) (w : Word) : Core := { c with v := tset c.v n w }

/-- An accumulator. -/
def Core.getA (c : Core) (n : Nat) : BitVec 40 := tget c.ac n

/-- Write an accumulator. -/
def Core.setA (c : Core) (n : Nat) (w : BitVec 40) : Core := { c with ac := tset c.ac n w }

/-- The program counter moves past an instruction of `len` bytes (R56). -/
def Core.advance (c : Core) (len : Nat) : Core := { c with pc := c.pc + u32 len }

/-- The high Q15 half of a word, signed (R67). -/
def hiQ (w : Word) : Int := (w.extractLsb' 16 16).toInt

/-- The low Q15 half of a word, signed. -/
def loQ (w : Word) : Int := (w.extractLsb' 0 16).toInt

/-- A word from two signed halves. -/
def packQ (h l : Int) : Word := BitVec.ofInt 16 h ++ BitVec.ofInt 16 l

/-- A 12-bit immediate, sign-extended (R60, R62). -/
def sx12 (k : BitVec 12) : Word := k.signExtend 32

/-- A 12-bit immediate, zero-extended (R60). -/
def zx12 (k : BitVec 12) : Word := k.zeroExtend 32

/-- The effective address of a load or store (R72). -/
def Core.ea (c : Core) (a : Nat) (k : BitVec 12) : Word := c.getV a + sx12 k

/-- Write the register of an outstanding load whose data has come (R77). -/
def Core.settle1 (c : Core) (r : Nat) : Core :=
  match c.loads.find? fun p => p.dst == r with
  | some p => { c.setV r p.value with loads := c.loads.filter fun q => q.dst != r }
  | none => c

/-- An instruction that uses registers with an outstanding load waits until those loads return (R77). -/
def Core.settle (c : Core) (rs : List Nat) : Core := rs.foldl Core.settle1 c

/-- Every outstanding load returns (R80, R82). -/
def Core.settleAll (c : Core) : Core := (c.loads.map PendLoad.dst).foldl Core.settle1 c

/-- The regions of the lane address map (R43, R73). -/
inductive Region where
  | own | sram | dram | regs | reserved | unmapped
  deriving DecidableEq, Repr

/-- The region of an address (R43). -/
def regionOf (a : Nat) : Region :=
  if a < 0x00100000 then .own
  else if a < 0x01000000 then .unmapped
  else if a < 0x01800000 then .sram
  else if a < 0x40000000 then .unmapped
  else if a < 0x80000000 then .dram
  else if a < 0xF0000000 then .unmapped
  else if a < 0xF0C00000 then .regs
  else .reserved

/-- The GiB of DRAM that the window shows at a WINBASE position (R45): 0 and 1 the engine areas, then the own and the
peer's private GiB (GiB 2 is Lane A's, GiB 3 Lane B's). -/
def windowGib (l : LaneId) (win : Nat) : Nat :=
  match win % 4 with
  | 0 => 0
  | 1 => 1
  | 2 => 2 + l.num
  | _ => 2 + l.other.num

end Sys2Proof.Machine
end

