-- ==== Sys2Proof/Machine/RanlyBase.lean ====
section
/-! DEFINITION. Issue, traps, the store buffer and the memory view of a Ranly core (spec/02). -/

namespace Sys2Proof.Machine

/-! ### Memory view -/

/-- Read `n` bytes of a data-memory region as a core sees them, without the store buffer. -/
def memRead (s : State) (l : LaneId) (c a n win : Nat) : Nat :=
  match regionOf a with
  | .own => mreadLE (tget (s.lane l).lmem c) a n
  | .sram => mreadLE (s.lane l).sram (a - 0x01000000) n
  | .dram => mreadLE (s.gib (windowGib l win)) (a - 0x40000000) n
  | _ => 0

/-- A store takes effect (R43, R45, R46, R73, R109): in core-local memory, lane SRAM, the DRAM window (an engine area
takes the active lane's stores only, the shadow's are counted in SHDROP; the peer's GiB ignores stores), a register
block, or nowhere (R6). -/
def applyStore (s : State) (l : LaneId) (c : Nat) (b : BufStore) : State :=
  match regionOf b.addr with
  | .own => s.modLane l fun x => { x with lmem := tmod x.lmem c fun m => mwriteLE m b.addr b.size b.data }
  | .sram => s.modLane l fun x => { x with sram := mwriteLE x.sram (b.addr - 0x01000000) b.size b.data }
  | .dram =>
    if b.win % 4 < 2 then
      if s.sup.active = l then areaStore s (b.win % 4) (b.addr - 0x40000000) b.size b.data
      else s.modLane l fun x => { x with shdrop := min (x.shdrop + 1) (2 ^ 32 - 1) }
    else if b.win % 4 = 2 then
      { s with dram := tmod s.dram (windowGib l 2) fun m => mwriteLE m (b.addr - 0x40000000) b.size b.data
               dq := s.dq.heal (windowGib l 2) (b.addr - 0x40000000) b.size }
    else s
  | .regs => regWrite s l c b.addr b.data
  | _ => s

/-- The first buffered store of a core that a test selects leaves the buffer and takes effect. -/
def drainFirst (s : State) (l : LaneId) (c : Nat) (p : BufStore → Bool) : State :=
  match (s.core l c).stores.find? p with
  | some b =>
    applyStore (s.modCore l c fun x => { x with stores := x.stores.eraseP p }) l c b
  | none => s

/-- Every buffered store that a test selects takes effect, in program order (R78, R109). -/
def drainAll (s : State) (l : LaneId) (c : Nat) (p : BufStore → Bool) : State :=
  (List.range (s.core l c).stores.length).foldl (fun s _ => drainFirst s l c p) s

/-- Stores to register space (R77, R78). -/
def BufStore.isReg (b : BufStore) : Bool := regionOf b.addr == .regs

/-- The stores that FENCE.L waits for: core-local memory, lane SRAM, per-lane register blocks (R110). -/
def BufStore.isLane (b : BufStore) : Bool :=
  match regionOf b.addr with
  | .own | .sram => true
  | .regs => (blockOf b.addr).perLane
  | _ => false

/-- The oldest store that FENCE.L waits for takes effect; before one to a per-lane register block, every earlier store to a
register block, so that none of these overtakes another (R78). -/
def drainLane (s : State) (l : LaneId) (c : Nat) : State :=
  match (s.core l c).stores.find? BufStore.isLane with
  | some b => drainFirst s l c (if b.isReg then BufStore.isReg else BufStore.isLane)
  | none => s

/-- FENCE.L (R110): earlier loads return, earlier stores to the lane's own memories and blocks take effect, in program order
(R78, R109). -/
def fenceL (s : State) (l : LaneId) (c : Nat) : State :=
  let s := s.modCore l c Core.settleAll
  (List.range (s.core l c).stores.length).foldl (fun s _ => drainLane s l c) s

/-- FENCE.E (R110): in addition every earlier store to DRAM and to the shared blocks. -/
def fenceE (s : State) (l : LaneId) (c : Nat) : State :=
  drainAll (s.modCore l c Core.settleAll) l c fun _ => true

/-- Stores to the DRAM window. -/
def BufStore.isDram (b : BufStore) : Bool := regionOf b.addr == .dram

/-- Whether a freeze or a fault of the fabric holds a lane's requests (R476, R477). -/
def laneBlocked (s : State) (l : LaneId) : Bool := rqBlocked s (8 + l.num)

/-- Whether the fabric holds a buffered store of a lane: a store of the shadow lane that R46 drops makes no request (R467). -/
def storeHeld (s : State) (l : LaneId) (b : BufStore) : Bool :=
  b.isDram && laneBlocked s l && !(decide (b.win % 4 < 2) && s.sup.active != l)

/-- While the fabric holds a lane's requests, nothing that needs an earlier DRAM access of the core to complete happens: of
`s` and the state `r` after it, `r` stands only if every DRAM load and store outstanding in `s` still is. -/
def stallGuard (s r : State) (l : LaneId) (c : Nat) : State :=
  let x := s.core l c
  let y := r.core l c
  if laneBlocked s l && !((x.loads.filter (·.dram)).isPrefixOf (y.loads.filter (·.dram)) &&
      (x.stores.filter (storeHeld s l)).isPrefixOf (y.stores.filter (storeHeld s l))) then s else r

/-- A core's fence completes. -/
def fenceDone (s : State) (l : LaneId) (c : Nat) : State :=
  match (s.core l c).fence with
  | none => s
  | some .lane => (fenceL s l c).modCore l c fun x => { x with fence := none }
  | some .engine => (fenceE s l c).modCore l c fun x => { x with fence := none }

/-! ### Traps -/

/-- Trap causes of R81 and R114. -/
def tILLEGAL : Nat := 1
/-- ALIGN (R81). -/
def tALIGN : Nat := 2
/-- ACCESS (R81). -/
def tACCESS : Nat := 3
/-- FETCH (R81). -/
def tFETCH : Nat := 4
/-- SYSADDR (R114). -/
def tSYSADDR : Nat := 0x10
/-- SYSARG (R114). -/
def tSYSARG : Nat := 0x11

/-- Trap entry (R82): earlier loads complete, TPC, TCAUSE (with LEN for an instruction of two words), TVAL and ST.TRAP
are written, and the core continues at TVEC. -/
def Core.enterTrap (c : Core) (code len : Nat) (tval : Word) : Core :=
  let c := c.settleAll
  { c with
    tpc := c.pc, tcause := u32 (code + (if len = 8 then 2 ^ 31 else 0)), tval := tval, trap := true
    pc := c.tvec &&& 0xFFFFFFFC }

/-- A trap of a core (R82). While ST.TRAP is 1 the core halts instead and CORE_HALTED goes to the other seven cores of
its lane (R83, R91). -/
def trap (s : State) (l : LaneId) (c code len : Nat) (tval : Word) : State :=
  let x := s.core l c
  if x.trap then
    let s := s.modCore l c fun x => { x.settleAll with run := .halted }
    (List.range 8).foldl (fun s k =>
      if k = c then s else postCore s l k ⟨2, 2, c, x.tcause.toNat % 256 * 256 + code % 256, false⟩) s
  else s.modCore l c fun x => x.enterTrap code len tval

/-! ### Issue -/

/-- A core issues an instruction of `len` bytes. A core that does not run issues nothing (R97, R83, R119). A pending
fence completes first (R110). A fetch outside core-local memory traps (R71, R73, R81). DESIGN CHOICE: TCAUSE.LEN of a trap on the
fetch of the first word is 0, for the word that would tell was not fetched; an extension word outside core-local memory traps
whatever the guard is, with TVAL its address, for R56 fetches the pair as one instruction. A guard-false instruction only
passes and waits for nothing (R53). The registers in `uses` that an outstanding load still owes are written first (R77); while the
fabric holds the lane's requests, an instruction that needs an earlier DRAM access waits (R476, R477). A write to RSTCMD that takes
effect stops the core. -/
def issue (i : Issue) (len : Nat) (uses : List VReg) (s : State) (k : State → State) : State :=
  let l := i.lane
  let c := i.core.val
  if (s.core l c).run ≠ .running then s
  else
    let s' := fenceDone s l c
    let x := s'.core l c
    let r : State :=
      if x.run ≠ .running then s'
      else if 0x100000 ≤ x.pc.toNat then trap s' l c tFETCH 4 x.pc
      else if 0x100000 < x.pc.toNat + len then trap s' l c tFETCH len (x.pc + 4)
      else if !x.guard i then s'.modCore l c fun x => x.advance len
      else if laneBlocked s' l && x.loads.any fun p => p.dram && uses.any fun u => u.val == p.dst then s'
      else k (s'.modCore l c fun x => x.settle (uses.map Fin.val))
    let r := if s.lanesUp && !r.lanesUp then r.modCore l c Core.still else stallGuard s r l c
    { r with pending := s.pending }

/-- An instruction that changes its own core only, then passes to the next. -/
def issueCore (i : Issue) (uses : List VReg) (s : State) (f : Core → Core) : State :=
  issue i 4 uses s fun s => s.modCore i.lane i.core fun c => (f c).advance 4

/-- The word of an R-format instruction (R53, spec/02 "Formats"). -/
def wordR (i : Issue) (op d a b f : Nat) : Word :=
  u32 (i.g.val * 2 ^ 29 + b2n i.n * 2 ^ 28 + op * 2 ^ 22 + d * 2 ^ 17 + a * 2 ^ 12 + b * 2 ^ 7 + f)

end Sys2Proof.Machine
end

