-- ==== Sys2Proof/Machine/RanlyFlow.lean ====
section
/-! DEFINITION. Branches, special registers, fences, the DRAM window, POST and TAKE, program events of a core
(spec/02 R69–R83, spec/03 R87–R96, R106–R121). -/

namespace Sys2Proof.Machine

/-- The target of a relative branch (R69). -/
def branchTo (pc : Word) (k : BitVec 22) : Word := pc + (k.signExtend 32) * 4

/-- B (R69). -/
def execB (i : Issue) (k : BitVec 22) (s : State) : Out :=
  nxt (issue i 4 [] s fun s => s.modCore i.lane i.core fun c => { c with pc := branchTo c.pc k })

/-- BL: the link goes to v31 (R69). -/
def execBl (i : Issue) (k : BitVec 22) (s : State) : Out :=
  nxt (issue i 4 [31] s fun s => s.modCore i.lane i.core fun c => { c.setV 31 (c.pc + 4) with pc := branchTo c.pc k })

/-- A jump: a target that is not word-aligned raises ALIGN (R71). -/
def jump (i : Issue) (t : Word) (f : Core → Core) (s : State) : State :=
  if t.toNat % 4 ≠ 0 then trap s i.lane i.core tALIGN 4 t
  else s.modCore i.lane i.core fun c => { f c with pc := t }

/-- JR (R70). -/
def execJr (i : Issue) (a : VReg) (s : State) : Out :=
  nxt (issue i 4 [a] s fun s => jump i ((s.core i.lane i.core).getV a) id s)

/-- JLR: vA is read before v31 is written (R70). -/
def execJlr (i : Issue) (a : VReg) (s : State) : Out :=
  nxt (issue i 4 [a, 31] s fun s => jump i ((s.core i.lane i.core).getV a) (fun c => c.setV 31 (c.pc + 4)) s)

/-- RTT: PC := TPC, ST.TRAP := 0 (R82). -/
def execRtt (i : Issue) (s : State) : Out :=
  nxt (issue i 4 [] s fun s => jump i (s.core i.lane i.core).tpc (fun c => { c with trap := false }) s)

/-- CYCLE: core clock cycles since core start, four to a tick of the HTB (R79, R123). -/
def cycleOf (s : State) (c : Core) : Nat := 4 * (s.now - c.cycle0)

/-- EVQSTAT (R95, R113): COUNT counts the visible entries. -/
def Core.evqstat (c : Core) : Word := u32 (c.lost * 2 ^ 24 + b2n c.ovf * 2 ^ 16 + (visible c.evq).length)

/-- The special registers as MFS reads them (R79, R113); an unallocated one reads 0. -/
def readSpr (s : State) (l : LaneId) (k : Nat) (c : Core) (sn : Nat) : Word :=
  match sn with
  | 0 => c.st
  | 1 => c.tcause
  | 2 => c.tpc
  | 3 => c.tval
  | 4 => c.tvec
  | 5 => c.evqstat
  | 6 => u32 l.num
  | 7 => u32 k
  | 8 => u32 (cycleOf s c)
  | 9 => c.cycleh
  | 10 => u32 c.winbase
  | 11 => c.preds
  | 32 => c.waittmo
  | 34 => c.startarg
  | 35 => c.progend
  | 36 => u32 c.startcnt
  | _ => 0

/-- MFS: a read of CYCLE latches its high half into CYCLEH (R79). -/
def execMfs (i : Issue) (d : VReg) (sn : Fin 128) (s : State) : Out :=
  nxt (issue i 4 [d] s fun s => s.modCore i.lane i.core fun c =>
    let w := readSpr s i.lane i.core c sn
    let c := if sn.val = 8 then { c with cycleh := u32 (cycleOf s c / 2 ^ 32) } else c
    (c.setV d w).advance 4)

/-- A write of a special register (R79, R80, R113): read-only and unallocated ones ignore it. -/
def Core.writeSpr (c : Core) (sn : Nat) (w : Word) : Core :=
  match sn with
  | 0 => { c with algn := bit w 2, aov := bit w 1, sat := bit w 0 }
  | 2 => { c with tpc := w }
  | 4 => { c with tvec := w &&& 0xFFFFFFFC }
  | 10 => { c with winbase := w.toNat % 4 }
  | 11 => (List.range 8).foldl (fun c k => c.setPred k (bit w k)) c
  | 32 => { c with waittmo := w }
  | 33 => if bit w 0 then { c with lost := 0, ovf := false } else c
  | _ => c

/-- MTS: earlier instructions and loads complete first (R80); WINBASE completes a FENCE.E as WIN does (R112). -/
def execMts (i : Issue) (a : VReg) (sn : Fin 128) (s : State) : Out :=
  nxt (issue i 4 [a] s fun s =>
    let s := s.modCore i.lane i.core Core.settleAll
    let s := if sn.val = 10 then fenceE s i.lane i.core else s
    s.modCore i.lane i.core fun c => (c.writeSpr sn (c.getV a)).advance 4)

/-- EVQ_CLEAR: a running core writes 1 to EVQCTL.CLR (R96). -/
def execEvqClear (l : LaneId) (c : Fin 8) (s : State) : Out :=
  nxt (if (s.core l c).run = .running then s.modCore l c fun x => x.writeSpr 33 1 else s)

/-- FENCE.L (R110): complete at once when the core has no load and no store outstanding that it waits for; else issue is blocked
until FENCE_COMPLETE. -/
def execFenceL (i : Issue) (s : State) : Out :=
  nxt (issueCore i [] s fun c =>
    if c.loads.isEmpty && !c.stores.any BufStore.isLane then c else { c with fence := some .lane })

/-- FENCE.E (R110): complete at once when the core has no load and no store outstanding. -/
def execFenceE (i : Issue) (s : State) : Out :=
  nxt (issueCore i [] s fun c => if c.loads.isEmpty && c.stores.isEmpty then c else { c with fence := some .engine })

/-- FENCE_COMPLETE: the accesses a fence waits for take effect and issue resumes (R110). -/
def execFenceComplete (l : LaneId) (c : Fin 8) (s : State) : Out :=
  nxt (stallGuard s (fenceDone s l c) l c)

/-- WIN: after a FENCE.E, the old position to vD and the new one from vA[1:0] (R112). -/
def execWin (i : Issue) (d a : VReg) (s : State) : Out :=
  nxt (issue i 4 [d, a] s fun s =>
    (fenceE s i.lane i.core).modCore i.lane i.core fun c =>
      ({ c.setV d (u32 c.winbase) with winbase := (c.getV a).toNat % 4 }).advance 4)

/-- The oldest entry that TAKE sees (R94, R95). -/
def Core.oldest (c : Core) : Option EvEntry := (visible c.evq).head?

/-- Word 0 of an entry (R88). -/
def EvEntry.word0 (e : EvEntry) : Word := u32 (2 ^ 31 + e.src * 2 ^ 24 + e.code * 2 ^ 16 + e.arg)

/-- TAKE: an odd D raises SYSARG; the oldest visible entry goes to vD and v(D+1), or 0 to both (R94). -/
def execTake (i : Issue) (d : VReg) (s : State) : Out :=
  nxt (issue i 4 [d, d + 1] s fun s =>
    if d.val % 2 = 1 then trap s i.lane i.core tSYSARG 4 (wordR i 0x31 d 0 0 0)
    else s.modCore i.lane i.core fun c =>
      (match c.oldest with
        | some e => { (c.setV d e.word0).setV (d + 1) (u32 e.data) with evq := c.evq.drop 1 }
        | none => (c.setV d 0).setV (d + 1) 0).advance 4)

/-- POST: a FENCE.L, then a CORE entry in the queue of core vA[2:0] of the same lane, hidden until POST_VISIBLE; the
status of R95 goes to vD. DESIGN CHOICE: a stopped or halted core answers NOTRUN even when its queue holds 63 entries (R95 ranks
neither). -/
def execPost (i : Issue) (d a b : VReg) (s : State) : Out :=
  nxt (issue i 4 [d, a, b] s fun s =>
    let s := fenceL s i.lane i.core
    let x := s.core i.lane i.core
    let va := (x.getV a).toNat
    let t := s.core i.lane (va % 8)
    let e : EvEntry := ⟨0, va / 2 ^ 24, i.lane.num * 256 + i.core, (x.getV b).toNat, true⟩
    let st : Nat := if !t.isRunning then 2 else if 63 ≤ t.evq.length then 1 else 0
    let s := if st = 0 then s.modCore i.lane (va % 8) fun y => { y with evq := y.evq ++ [e] } else s
    s.modCore i.lane i.core fun c => (c.setV d (u32 st)).advance 4)

/-- The first hidden entry of a queue becomes visible. -/
def reveal : List EvEntry → List EvEntry
  | [] => []
  | e :: q => if e.hidden then { e with hidden := false } :: q else e :: reveal q

/-- POST_VISIBLE: the oldest delivered entry that is not visible yet becomes visible (R95). -/
def execPostVisible (l : LaneId) (c : Fin 8) (s : State) : Out :=
  nxt (s.modCore l c fun x => { x with evq := reveal x.evq })

/-- EVENT_POSTING: a hardware posting reaches a core's queue in each lane when its source is mirrored, in the one lane
for LANE postings (R89, R90, R93). Reserved source classes and CORE do not come from hardware. -/
def execEventPosting (l : LaneId) (c : Fin 8) (src : Fin 7) (code : BitVec 8) (arg : BitVec 16) (data : Word)
    (s : State) : Out :=
  let e : EvEntry := ⟨src, code.toNat, arg.toNat, data.toNat, false⟩
  nxt (if src.val = 0 then s
    else if src.val = 2 then postCore s l c e
    else s.both fun l s => postCore s l c e)

/-- The state of a core after a reserved encoding: every register that instructions write holds an open value (R120
case 1, R121); the program counter stays a multiple of 4 (R52). -/
def reservedCore (n : Nat) (c : Core) : Core :=
  { c with
    v := (List.range 32).map fun k => (k, Config.freeWord (n + k))
    ac := (List.range 4).map fun k => (k, BitVec.ofNat 40 ((Config.freeWord (n + 32 + k)).toNat * 256 +
      (Config.freeByte (n + 32 + k)).toNat))
    p := (List.range 8).map fun k => (k, bit (Config.freeWord (n + 36)) k)
    pc := Config.freeWord (n + 37) &&& 0xFFFFFFFC
    sat := bit (Config.freeWord (n + 36)) 8
    aov := bit (Config.freeWord (n + 36)) 9
    algn := bit (Config.freeWord (n + 36)) 10
    trap := bit (Config.freeWord (n + 36)) 11
    tcause := Config.freeWord (n + 38)
    tpc := Config.freeWord (n + 39)
    tval := Config.freeWord (n + 40)
    tvec := Config.freeWord (n + 41) &&& 0xFFFFFFFC
    winbase := (Config.freeWord (n + 42)).toNat % 4
    waittmo := Config.freeWord (n + 43)
    cycleh := Config.freeWord (n + 44)
    evq := c.evq.drop (Config.freeWord (n + 45)).toNat }

/-- The registers that no listed undefined case reaches, for a write fails a lane, starts the module or changes its mode, and so the
lane epoch or ownership (R121): LANECTRL, RSTCMD, MODECMD. -/
def BufStore.ofSupervisor (b : BufStore) : Bool :=
  decide (b.addr = Block.sys.base + 0x08 ∨ b.addr = Block.sys.base + 0x28 ∨ b.addr = Block.sys.base + 0x34)

/-- The word stores that a reserved encoding may have made (R121: memory and registers that the core could write with
legal instructions): open in number, place and value, at most 16, each taking effect as a store of the core. -/
def reservedStores (s : State) (l : LaneId) (c n : Nat) : State :=
  (List.range ((Config.freeWord (n + 46)).toNat % 17)).foldl (fun s k =>
    let b : BufStore := ⟨(Config.freeWord (n + 50 + 2 * k)).toNat / 4 * 4, 4, (Config.freeWord (n + 51 + 2 * k)).toNat,
      (s.core l c).winbase⟩
    if b.ofSupervisor then s else applyStore s l c b) s

/-- RESERVED_ENCODING: the effect of the instruction is open, confined under R121 (R120 case 1); one of opcode 0x08, which
the operand tells beside the issue, has an extension word (R56). -/
def execReservedEncoding (r : Issue × Bool) (s : State) : Out :=
  let i := r.1
  nxt (issue i (if r.2 then 8 else 4) [] s fun s =>
    let n := s.freeCtr
    let s := fenceE { s with freeCtr := n + 100 } i.lane i.core
    reservedStores (s.modCore i.lane i.core (reservedCore n)) i.lane i.core n)

end Sys2Proof.Machine
end

