-- ==== Sys2Proof/Machine/Waits.lean ====
section
/-! DEFINITION. Waits of a core (R97–R101) and LCSWAP (R106, R114). -/

namespace Sys2Proof.Machine

/-- The outcome that applies to a wait now, first of NOSYNC, the position, EVENT (R97, R99); `hit` is what a position
reached counts as: 0 REACHED, 1 PASSED. -/
def waitOutcome (s : State) (l : LaneId) (c : Core) (target : Option (Nat × Nat)) (event : Bool) (hit : Nat) : Option Nat :=
  let ev : Option Nat := if event && !(visible c.evq).isEmpty then some 2 else none
  match target with
  | none => ev
  | some t =>
    if !inSync s l t.1 then some 4
    else if reached (hyP s l t.1) t.2 then some hit
    else ev

/-- A wait issues (R97–R101): it ends at once with the outcome that applies, or suspends the core with the time limit of
WAITTMO in ns. -/
def waitIssue (i : Issue) (d : VReg) (target : Option (Nat × Nat)) (event : Bool) (s : State) : State :=
  s.modCore i.lane i.core fun c =>
    match waitOutcome s i.lane c target event 1 with
    | some o => (c.setV d (u32 o)).advance 4
    | none => { c.advance 4 with
        run := .waiting
        wait := some { dst := d, target := target, event := event,
                       deadline := if c.waittmo = 0 then none else some (s.now + (c.waittmo.toNat + 3) / 4) } }

/-- The target that vA and vB name (R97). -/
def waitTarget (va vb : Word) : Nat × Nat := (fld vb 31 28, va.toNat * 2 ^ 24 + fld vb 23 0)

/-- A position wait: vB[27:24] ≠ 0 raises SYSARG (R114); `f` is the function field. -/
def waitPos (i : Issue) (d a b : VReg) (f : Nat) (event : Bool) (s : State) : State :=
  issue i 4 [d, a, b] s fun s =>
    let c := s.core i.lane i.core
    if fld (c.getV b) 27 24 ≠ 0 then trap s i.lane i.core tSYSARG 4 (wordR i 0x30 d a b f)
    else waitIssue i d (some (waitTarget (c.getV a) (c.getV b))) event s

/-- WAITE (R97). -/
def execWaite (i : Issue) (d : VReg) (s : State) : Out := nxt (issue i 4 [d] s fun s => waitIssue i d none true s)
/-- WAITA (R97). -/
def execWaita (i : Issue) (d a b : VReg) (s : State) : Out := nxt (waitPos i d a b 1 false s)
/-- WAITAE (R97). -/
def execWaitae (i : Issue) (d a b : VReg) (s : State) : Out := nxt (waitPos i d a b 2 true s)

/-- WAIT_END (R101): the condition of a core's wait holds; it resumes with the outcome. -/
def execWaitEnd (l : LaneId) (c : Fin 8) (s : State) : Out :=
  let x := s.core l c
  nxt (match (if x.run = .waiting then x.wait else none) with
    | none => s
    | some w => match waitOutcome s l x w.target w.event 0 with
      | some o => s.modCore l c fun y => y.endWait o
      | none => s)

/-- WAIT_TIMEOUT (R99, R100): WAITTMO has elapsed; an outcome that applies as well goes first. -/
def execWaitTimeout (l : LaneId) (c : Fin 8) (s : State) : Out :=
  let x := s.core l c
  nxt (match (if x.run = .waiting then x.wait else none) with
    | none => s
    | some w =>
      if due w.deadline s.now then s.modCore l c fun y => y.endWait ((waitOutcome s l x w.target w.event 0).getD 3) else s)

/-- Whether a buffer is word-aligned and lies wholly within core-local memory or wholly within lane SRAM (R114). -/
def sysBuffer (a n : Nat) : Bool :=
  decide (a % 4 = 0 ∧ (a + n ≤ 0x100000 ∨ (0x01000000 ≤ a ∧ a + n ≤ 0x01800000)))

/-- LCSWAP (R106, R107, R114): the image is read as by the core's own loads at this place (R111). DESIGN CHOICE: of a bad context
number and a bad buffer the number is reported. -/
def execLcswap (i : Issue) (d a b : VReg) (s : State) : Out :=
  nxt (issue i 4 [d, a, b] s fun s =>
    let c := s.core i.lane i.core
    let va := (c.getV a).toNat
    let vb := (c.getV b).toNat
    if 512 ≤ va then trap s i.lane i.core tSYSARG 4 (wordR i 0x33 d a b 0)
    else if !sysBuffer vb 256 then trap s i.lane i.core tSYSADDR 4 (c.getV b)
    else
      let s := fenceL s i.lane i.core
      let image := (List.range 64).map fun k => memRead s i.lane i.core (vb + 4 * k) 4 0
      let r := lcSwapIn s i.lane va image
      r.1.modCore i.lane i.core fun c => (c.setV d (u32 r.2)).advance 4)

end Sys2Proof.Machine
end

