-- ==== Sys2Proof/Machine/JobCore.lean ====
section
/-! DEFINITION. The program's side of the job streams: JPUT, JTAKE, JDONE (spec/03 R102–R104). -/

namespace Sys2Proof.Machine

/-- Bytes as a core's own loads read them, `n` from an address. -/
def readBytes (s : State) (l : LaneId) (c a n : Nat) : List Byte :=
  (List.range n).map fun k => BitVec.ofNat 8 (memRead s l c (a + k) 1 0)

/-- Bytes as a core's own stores write them. -/
def writeBytes (s : State) (l : LaneId) (c a : Nat) (bs : List Byte) : State :=
  bs.zipIdx.foldl (fun s p => applyStore s l c ⟨a + p.2, 1, p.1.toNat, 0⟩) s

/-- JPUT (R102, R114). DESIGN CHOICE: bits [15:10] of the header's STREAM are ignored; a payload length above 1,408 answers LENGTH
before the place of the payload is looked at. -/
def execJput (i : Issue) (d a : VReg) (s : State) : Out :=
  nxt (issue i 4 [d, a] s fun s =>
    let l := i.lane
    let c := i.core.val
    let va := ((s.core l c).getV a).toNat
    if !sysBuffer va 32 then trap s l c tSYSADDR 4 (u32 va)
    else
      let s := fenceL s l c
      let h := readBytes s l c va 32
      let len := leAt h 2 2
      let n := leAt h 12 2 % 1024
      if len ≤ 1408 ∧ !sysBuffer va (32 + len) then trap s l c tSYSADDR 4 (u32 va)
      else
        let x := s.str l n
        let r := sendBad s n len x
        let s := if r ≠ 0 then s
          else
            let y := sendJob s n (leAt h 20 2) (readBytes s l c (va + 32) len) x
            let s := writeBytes (s.modStr l n fun _ => y.1) l c (va + 16) (leBytes 4 y.2.seq)
            if l = s.sup.active then txNew s n x y.2 else s
        s.modCore l c fun c => (c.setV d (u32 r)).advance 4)

/-- The oldest job that no core has taken is taken (R103). -/
def takeFirst : List (Job × Bool) → List (Job × Bool)
  | [] => []
  | (j, false) :: t => (j, true) :: t
  | y :: t => y :: takeFirst t

/-- Whether a core takes the jobs of a unit (R42): those of a core in that core alone. -/
def unitCore (u : Nat) (l : LaneId) (c : Nat) : Bool := unitLane u l && (unitKind u != 0 || nfld u 2 0 == c)

/-- JTAKE (R42, R103, R114). DESIGN CHOICE: of a bad stream number and a bad buffer the number is reported. -/
def execJtake (i : Issue) (d a b : VReg) (s : State) : Out :=
  nxt (issue i 4 [d, a, b] s fun s =>
    let l := i.lane
    let c := i.core.val
    let va := ((s.core l c).getV a).toNat
    let vb := ((s.core l c).getV b).toNat
    if 1024 ≤ va then trap s l c tSYSARG 4 (wordR i 0x32 d a b 1)
    else if !sysBuffer vb 1440 then trap s l c tSYSADDR 4 (u32 vb)
    else
      let s := fenceL s l c
      let x := s.str l va
      let cfg := strGet s va 0
      let done (s : State) (v : Nat) : State := s.modCore l c fun c => (c.setV d (u32 v)).advance 4
      if nfld cfg 28 26 ≠ c then done s 0xFFFFFFFF
      else match (if unitCore (strGet s va 4) l c then x.jobs.find? fun j => !j.2 else none) with
        | none => done s 0
        | some j =>
          let s := s.modStr l va fun x => { x with jobs := takeFirst x.jobs }
          let bs := jobBytes j.1
          done (writeBytes s l c vb bs) bs.length)

/-- The completion of a job leaves the module (R104, R450): the mark for the standby module, COMPLETE with STRn.CFG.CMPL. -/
def jobDone (s : State) (n seq : Nat) : State :=
  let s := HEff.run n s (.jrep seq [])
  if nbit (strGet s n 0) 25 then HEff.run n s (.reply 5 seq 0 0) else s

/-- JDONE (R104, R114, R450): a completed job leaves; for the unit of one lane both lanes' journals take the mark. The active
lane's completion leaves the module. A job replayed from an earlier session does not move SEQB. -/
def execJdone (i : Issue) (d a b : VReg) (s : State) : Out :=
  nxt (issue i 4 [d, a, b] s fun s =>
    let l := i.lane
    let c := i.core.val
    let va := ((s.core l c).getV a).toNat
    let vb := ((s.core l c).getV b).toNat
    if 1024 ≤ va then trap s l c tSYSARG 4 (wordR i 0x32 d a b 2)
    else
      let taken := (s.str l va).jobs.filter (·.2)
      let r : Nat := match taken with
        | j :: _ => if j.1.seq = vb then 0 else if taken.any fun k => k.1.seq == vb then 1 else 2
        | [] => 2
      let ses : Nat := match taken with
        | j :: _ => j.1.session
        | [] => 0
      let f (x : HStream) : HStream := { x with
        jobs := x.jobs.eraseP fun y => y.1.seq == vb && y.1.session == ses, seqB := if ses = x.session then vb else x.seqB }
      let own := decide (unitKind (strGet s va 4) < 2)
      let s := if r ≠ 0 then s
        else
          let s := if own then s.modStrs va f else s.modStr l va f
          if (own || l == s.sup.active) && ses == (s.str l va).session then jobDone s va vb else s
      s.modCore l c fun c => (c.setV d (u32 r)).advance 4)

end Sys2Proof.Machine
end

