-- ==== Sys2Proof/Machine/RanlyAlu.lean ====
section
/-! DEFINITION. Integer instructions, constants, compares and predicate logic (spec/02 R58–R63). -/

namespace Sys2Proof.Machine

/-- An ALU instruction: vD := f vA vB (R58). -/
def alu (i : Issue) (d a b : VReg) (f : Word → Word → Word) (s : State) : Out :=
  nxt (issueCore i [a, b, d] s fun c => c.setV d (f (c.getV a) (c.getV b)))

/-- An ALU instruction that may set ST.SAT (R58, R59). -/
def aluSat (i : Issue) (d a b : VReg) (f : Word → Word → Word × Bool) (s : State) : Out :=
  nxt (issueCore i [a, b, d] s fun c => (c.setV d (f (c.getV a) (c.getV b)).1).orSat (f (c.getV a) (c.getV b)).2)

/-- ILL: the ILLEGAL trap with the instruction word (R57, R81). `w` holds bits [21:0]. -/
def execIll (i : Issue) (w : BitVec 22) (s : State) : Out :=
  nxt (issue i 4 [] s fun s =>
    trap s i.lane i.core tILLEGAL 4 (u32 (i.g.val * 2 ^ 29 + b2n i.n * 2 ^ 28 + w.toNat)))

/-- ADD (R58). -/
def execAdd (i : Issue) (d a b : VReg) (s : State) : Out := alu i d a b (fun x y => x + y) s

/-- SUB (R58). -/
def execSub (i : Issue) (d a b : VReg) (s : State) : Out := alu i d a b (fun x y => x - y) s

/-- AND (R58). -/
def execAnd (i : Issue) (d a b : VReg) (s : State) : Out := alu i d a b (fun x y => x &&& y) s

/-- OR (R58). -/
def execOr (i : Issue) (d a b : VReg) (s : State) : Out := alu i d a b (fun x y => x ||| y) s

/-- XOR (R58). -/
def execXor (i : Issue) (d a b : VReg) (s : State) : Out := alu i d a b (fun x y => x ^^^ y) s

/-- ANDN (R58). -/
def execAndn (i : Issue) (d a b : VReg) (s : State) : Out := alu i d a b (fun x y => x &&& ~~~y) s

/-- SHL by b[4:0] (R58). -/
def execShl (i : Issue) (d a b : VReg) (s : State) : Out := alu i d a b (fun x y => x <<< (y.toNat % 32)) s

/-- SHR by b[4:0] (R58). -/
def execShr (i : Issue) (d a b : VReg) (s : State) : Out := alu i d a b (fun x y => x >>> (y.toNat % 32)) s

/-- SAR by b[4:0] (R58). -/
def execSar (i : Issue) (d a b : VReg) (s : State) : Out := alu i d a b (fun x y => x.sshiftRight (y.toNat % 32)) s

/-- ROR by b[4:0] (R58). -/
def execRor (i : Issue) (d a b : VReg) (s : State) : Out := alu i d a b (fun x y => x.rotateRight (y.toNat % 32)) s

/-- MIN, signed (R58). -/
def execMin (i : Issue) (d a b : VReg) (s : State) : Out := alu i d a b (fun x y => if x.toInt ≤ y.toInt then x else y) s

/-- MAX, signed (R58). -/
def execMax (i : Issue) (d a b : VReg) (s : State) : Out := alu i d a b (fun x y => if x.toInt ≤ y.toInt then y else x) s

/-- MINU (R58). -/
def execMinu (i : Issue) (d a b : VReg) (s : State) : Out := alu i d a b (fun x y => if x.toNat ≤ y.toNat then x else y) s

/-- MAXU (R58). -/
def execMaxu (i : Issue) (d a b : VReg) (s : State) : Out := alu i d a b (fun x y => if x.toNat ≤ y.toNat then y else x) s

/-- ADDS: sat32 of the signed sum (R58). -/
def execAdds (i : Issue) (d a b : VReg) (s : State) : Out := aluSat i d a b (fun x y => sat32 (x.toInt + y.toInt)) s

/-- SUBS: sat32 of the signed difference (R58). -/
def execSubs (i : Issue) (d a b : VReg) (s : State) : Out := aluSat i d a b (fun x y => sat32 (x.toInt - y.toInt)) s

/-- MUL: low 32 bits (R58). -/
def execMul (i : Issue) (d a b : VReg) (s : State) : Out := alu i d a b (fun x y => x * y) s

/-- MULH: high 32 bits of the signed product (R58). -/
def execMulh (i : Issue) (d a b : VReg) (s : State) : Out :=
  alu i d a b (fun x y => i32 (x.toInt * y.toInt / 2 ^ 32)) s

/-- MULHU: high 32 bits of the unsigned product (R58). -/
def execMulhu (i : Issue) (d a b : VReg) (s : State) : Out :=
  alu i d a b (fun x y => u32 (x.toNat * y.toNat / 2 ^ 32)) s

/-- DIV (R58, R59): truncated toward zero; 0xFFFF_FFFF when b = 0; the most negative number by −1 gives itself. -/
def execDiv (i : Issue) (d a b : VReg) (s : State) : Out :=
  alu i d a b (fun x y => if y = 0 then 0xFFFFFFFF else i32 (x.toInt.tdiv y.toInt)) s

/-- DIVU (R58, R59). -/
def execDivu (i : Issue) (d a b : VReg) (s : State) : Out :=
  alu i d a b (fun x y => if y = 0 then 0xFFFFFFFF else u32 (x.toNat / y.toNat)) s

/-- REM (R58, R59): the sign of the dividend; a when b = 0. -/
def execRem (i : Issue) (d a b : VReg) (s : State) : Out :=
  alu i d a b (fun x y => if y = 0 then x else i32 (x.toInt.tmod y.toInt)) s

/-- REMU (R58, R59). -/
def execRemu (i : Issue) (d a b : VReg) (s : State) : Out :=
  alu i d a b (fun x y => if y = 0 then x else u32 (x.toNat % y.toNat)) s

/-- The leading zeros of a number of `n` bits. -/
def clzN : Nat → Nat → Nat
  | 0, _ => 0
  | n + 1, x => if x < 2 ^ n then 1 + clzN n x else 0

/-- CLZ (R58); B is 0. -/
def execClz (i : Issue) (d a : VReg) (s : State) : Out := alu i d a a (fun x _ => u32 (clzN 32 x.toNat)) s

/-- ABS: sat32 of the absolute value (R58); B is 0. -/
def execAbs (i : Issue) (d a : VReg) (s : State) : Out := aluSat i d a a (fun x _ => sat32 x.toInt.natAbs) s

/-- SEXTB (R58); B is 0. -/
def execSextb (i : Issue) (d a : VReg) (s : State) : Out := alu i d a a (fun x _ => (x.extractLsb' 0 8).signExtend 32) s

/-- SEXTH (R58); B is 0. -/
def execSexth (i : Issue) (d a : VReg) (s : State) : Out := alu i d a a (fun x _ => (x.extractLsb' 0 16).signExtend 32) s

/-- ADDI: K sign-extended (R60). -/
def execAddi (i : Issue) (d a : VReg) (k : BitVec 12) (s : State) : Out := alu i d a a (fun x _ => x + sx12 k) s

/-- ANDI: K zero-extended (R60). -/
def execAndi (i : Issue) (d a : VReg) (k : BitVec 12) (s : State) : Out := alu i d a a (fun x _ => x &&& zx12 k) s

/-- ORI: K zero-extended (R60). -/
def execOri (i : Issue) (d a : VReg) (k : BitVec 12) (s : State) : Out := alu i d a a (fun x _ => x ||| zx12 k) s

/-- XORI: K zero-extended (R60). -/
def execXori (i : Issue) (d a : VReg) (k : BitVec 12) (s : State) : Out := alu i d a a (fun x _ => x ^^^ zx12 k) s

/-- The four shifts of SHI (R60). -/
def shApply (k : ShKind) (x : Word) (n : Nat) : Word :=
  match k with
  | .shl => x <<< n
  | .shr => x >>> n
  | .sar => x.sshiftRight n
  | .ror => x.rotateRight n

/-- SHI: shift by K[4:0], the kind in K[11:10] (R60). -/
def execShi (i : Issue) (d a : VReg) (k : ShKind) (n : Fin 32) (s : State) : Out := alu i d a a (fun x _ => shApply k x n) s

/-- MOVL (R61). -/
def execMovl (i : Issue) (d : VReg) (k : BitVec 16) (s : State) : Out := alu i d d d (fun _ _ => k.zeroExtend 32) s

/-- MOVH: the upper half, keeping the lower (R61). -/
def execMovh (i : Issue) (d : VReg) (k : BitVec 16) (s : State) : Out :=
  alu i d d d (fun x _ => k ++ x.extractLsb' 0 16) s

/-- MOVW: the extension word; the instruction is 8 bytes (R56, R61). -/
def execMovw (i : Issue) (d : VReg) (w : Word) (s : State) : Out :=
  nxt (issue i 8 [d] s fun s => s.modCore i.lane i.core fun c => (c.setV d w).advance 8)

/-- CMP (R62). -/
def execCmp (i : Issue) (p : PReg) (k : Cond) (a b : VReg) (s : State) : Out :=
  nxt (issueCore i [a, b] s fun c => c.setPred p (condHolds k (c.getV a) (c.getV b)))

/-- CMPI: K sign-extended from 11 bits (R62). -/
def execCmpi (i : Issue) (p : PReg) (k : Cond) (a : VReg) (imm : BitVec 11) (s : State) : Out :=
  nxt (issueCore i [a] s fun c => c.setPred p (condHolds k (c.getV a) (imm.signExtend 32)))

/-- PLOG (R63). -/
def execPlog (i : Issue) (p pa pb : PReg) (k : Pop) (s : State) : Out :=
  nxt (issueCore i [] s fun c => c.setPred p (popApply k (c.pred pa) (c.pred pb)))

end Sys2Proof.Machine
end

