-- ==== Sys2Proof/Machine/RanlyMem.lean ====
section
/-! DEFINITION. Loads, stores, the return of loads and the drain of stores (spec/02 R72–R78, R109). -/

namespace Sys2Proof.Machine

/-- Whether a store writes byte `a`. -/
def BufStore.covers (b : BufStore) (win a : Nat) : Bool :=
  decide (b.addr ≤ a ∧ a < b.addr + b.size) && (b.win % 4 == win % 4 || regionOf b.addr != .dram)

/-- A load from the DRAM window meets the uncorrectable errors of its beats (R466). -/
def dramLoad (s : State) (l : LaneId) (a n win : Nat) : State :=
  if regionOf a = .dram then dramMeet s (.lane l) (windowGib l win) (a - 0x40000000) n else s

/-- A load of `n` bytes from data memory (R77): bytes of one buffered store that covers all of them are forwarded; with
a partial overlap the overlapped stores take effect first. -/
def loadData (s : State) (l : LaneId) (c a n win : Nat) : Nat × State :=
  let hits := (s.core l c).stores.filter fun b => (List.range n).any fun k => b.covers win (a + k)
  match hits.getLast? with
  | none => (memRead s l c a n win, dramLoad s l a n win)
  | some b =>
    if (List.range n).all fun k => b.covers win (a + k) then (b.data / 256 ^ (a - b.addr) % 256 ^ n, s)
    else
      let s := drainAll s l c fun x => regionOf x.addr == regionOf a
      (memRead s l c a n win, dramLoad s l a n win)

/-- A load from register space (R75, R77, R6): the core's earlier stores to block registers take effect first, the
register is read once with its side effects, and the addressed bytes are returned. -/
def loadReg (s : State) (l : LaneId) (c a n : Nat) : Nat × State :=
  let s := drainAll s l c BufStore.isReg
  if regionOf a = .reserved then (0, s)
  else
    let r := regRead s l c (a / 4 * 4)
    (r.1 / 256 ^ (a % 4) % 256 ^ n, keep s r.2)

/-- The trap of an access, if any: ACCESS before ALIGN (R73, R74). -/
def accessTrap (c : Core) (a n : Nat) (store : Bool) : Option Nat :=
  match regionOf a with
  | .unmapped => some tACCESS
  | .regs => if store && n != 4 then some tACCESS else if a % n ≠ 0 then some tALIGN else none
  | .reserved => if a % n ≠ 0 then some tALIGN else none
  | _ => if a % n ≠ 0 ∧ c.algn then some tALIGN else none

/-- A load (R72–R77): its value is read at issue and written to vD when the load returns. With four loads outstanding
one returns first, the oldest that can. A misaligned load with ST.ALGN = 0 gives an open value (R76, R120 case 2). -/
def load (i : Issue) (d a : VReg) (k : BitVec 12) (n : Nat) (ext : Nat → Word) (s : State) : State :=
  issue i 4 [d, a] s fun s =>
    let l := i.lane
    let c := i.core.val
    let x := s.core l c
    let ea := (x.ea a k).toNat
    match accessTrap x ea n false with
    | some t => trap s l c t 4 (u32 ea)
    | none =>
      let r : Nat × State :=
        if ea % n ≠ 0 then ((Config.freeWord s.freeCtr).toNat % 256 ^ n, { s with freeCtr := s.freeCtr + 1 })
        else match regionOf ea with
          | .regs | .reserved => loadReg s l c ea n
          | _ => loadData s l c ea n x.winbase
      r.2.modCore l c fun y =>
        let y := if 4 ≤ y.loads.length then (match y.loads.find? fun p => !(p.dram && laneBlocked s l) with
          | some p => y.settle1 p.dst
          | none => y.settleAll) else y
        ({ y with loads := y.loads ++ [PendLoad.mk d (ext r.1) (regionOf ea == Region.dram)] }).advance 4

/-- A store (R72–R78): it retires into the store buffer; with eight entries the oldest that can takes effect first. A
misaligned store with ST.ALGN = 0 stores open bytes (R76, R120 case 2). -/
def store (i : Issue) (v a : VReg) (k : BitVec 12) (n : Nat) (s : State) : State :=
  issue i 4 [v, a] s fun s =>
    let l := i.lane
    let c := i.core.val
    let x := s.core l c
    let ea := (x.ea a k).toNat
    match accessTrap x ea n true with
    | some t => trap s l c t 4 (u32 ea)
    | none =>
      let free (b : BufStore) : Bool := !storeHeld s l b
      if 8 ≤ x.stores.length ∧ !x.stores.any free then s else
      let s := if 8 ≤ x.stores.length then drainFirst s l c free else s
      let d := if ea % n ≠ 0 then (Config.freeWord s.freeCtr).toNat % 256 ^ n else (x.getV v).toNat % 256 ^ n
      let s := if ea % n ≠ 0 then { s with freeCtr := s.freeCtr + 1 } else s
      s.modCore l c fun y => ({ y with stores := y.stores ++ [BufStore.mk ea n d y.winbase] }).advance 4

/-- LDB: signed byte (R72). -/
def execLdb (i : Issue) (d a : VReg) (k : BitVec 12) (s : State) : Out :=
  nxt (load i d a k 1 (fun v => (BitVec.ofNat 8 v).signExtend 32) s)

/-- LDBU: unsigned byte (R72). -/
def execLdbu (i : Issue) (d a : VReg) (k : BitVec 12) (s : State) : Out := nxt (load i d a k 1 u32 s)

/-- LDH: signed halfword (R72). -/
def execLdh (i : Issue) (d a : VReg) (k : BitVec 12) (s : State) : Out :=
  nxt (load i d a k 2 (fun v => (BitVec.ofNat 16 v).signExtend 32) s)

/-- LDHU: unsigned halfword (R72). -/
def execLdhu (i : Issue) (d a : VReg) (k : BitVec 12) (s : State) : Out := nxt (load i d a k 2 u32 s)

/-- LDW: word (R72). -/
def execLdw (i : Issue) (d a : VReg) (k : BitVec 12) (s : State) : Out := nxt (load i d a k 4 u32 s)

/-- STB (R72). -/
def execStb (i : Issue) (v a : VReg) (k : BitVec 12) (s : State) : Out := nxt (store i v a k 1 s)

/-- STH (R72). -/
def execSth (i : Issue) (v a : VReg) (k : BitVec 12) (s : State) : Out := nxt (store i v a k 2 s)

/-- STW (R72). -/
def execStw (i : Issue) (v a : VReg) (k : BitVec 12) (s : State) : Out := nxt (store i v a k 4 s)

/-- LOAD_RETURN: the load outstanding for a register returns and is written (R77). -/
def execLoadReturn (l : LaneId) (c : Fin 8) (d : VReg) (s : State) : Out :=
  nxt (if (s.core l c).loads.any fun p => p.dst == d.val && p.dram && laneBlocked s l then s
    else s.modCore l c fun x => x.settle1 d)

/-- The regions within which a core's stores keep program order (R109); core-local memory is one of its own. -/
def sameOrder (a b : BufStore) : Bool := regionOf a.addr == regionOf b.addr

/-- STORE_DRAIN: the buffered store at a place of the buffer takes effect, unless an earlier one of its region still
waits (R78, R109). -/
def execStoreDrain (l : LaneId) (c : Fin 8) (k : Fin 8) (s : State) : Out :=
  let q := (s.core l c).stores
  nxt (match q[k.val]? with
    | none => s
    | some b =>
      if (q.take k).any (fun e => sameOrder e b) || storeHeld s l b then s
      else applyStore (s.modCore l c fun x => { x with stores := x.stores.eraseIdx k }) l c b)

end Sys2Proof.Machine
end

