-- ==== Sys2Proof/Machine/RanlyQ15.lean ====
section
/-! DEFINITION. Packed Q15 and accumulator instructions (spec/02 R64–R68). -/

namespace Sys2Proof.Machine

/-- A packed operation: each half of vD from the same halves of vA and vB, saturated to 16 bits (R67). -/
def packed (i : Issue) (d a b : VReg) (f : Int → Int → Int) (s : State) : Out :=
  nxt (issueCore i [a, b, d] s fun c =>
    let h := f (hiQ (c.getV a)) (hiQ (c.getV b))
    let l := f (loQ (c.getV a)) (loQ (c.getV b))
    (c.setV d (packQ (sat16 h) (sat16 l))).orSat (clampsI 16 h || clampsI 16 l))

/-- A packed move of halves (R67). -/
def packMove (i : Issue) (d a b : VReg) (f : Word → Word → Word) (s : State) : Out :=
  nxt (issueCore i [a, b, d] s fun c => c.setV d (f (c.getV a) (c.getV b)))

/-- PADD (R67). -/
def execPadd (i : Issue) (d a b : VReg) (s : State) : Out := packed i d a b (fun x y => x + y) s

/-- PSUB (R67). -/
def execPsub (i : Issue) (d a b : VReg) (s : State) : Out := packed i d a b (fun x y => x - y) s

/-- PMULR (R67). -/
def execPmulr (i : Issue) (d a b : VReg) (s : State) : Out := packed i d a b (fun x y => (x * y + 2 ^ 14) / 2 ^ 15) s

/-- PABS (R67); B is 0. -/
def execPabs (i : Issue) (d a : VReg) (s : State) : Out := packed i d a a (fun x _ => x.natAbs) s

/-- PNEG (R67); B is 0. -/
def execPneg (i : Issue) (d a : VReg) (s : State) : Out := packed i d a a (fun x _ => -x) s

/-- PMIN (R67). -/
def execPmin (i : Issue) (d a b : VReg) (s : State) : Out := packed i d a b (fun x y => min x y) s

/-- PMAX (R67). -/
def execPmax (i : Issue) (d a b : VReg) (s : State) : Out := packed i d a b (fun x y => max x y) s

/-- PSHRA: by b[3:0] of each half, no rounding (R67). -/
def execPshra (i : Issue) (d a b : VReg) (s : State) : Out :=
  packed i d a b (fun x y => x / (2 ^ (y % 16).toNat : Nat)) s

/-- PSHLS: by b[3:0] of each half, saturating (R67). -/
def execPshls (i : Issue) (d a b : VReg) (s : State) : Out :=
  packed i d a b (fun x y => x * (2 ^ (y % 16).toNat : Nat)) s

/-- PACKLL (R67). -/
def execPackll (i : Issue) (d a b : VReg) (s : State) : Out := packMove i d a b (fun x y => packQ (loQ x) (loQ y)) s

/-- PACKHH (R67). -/
def execPackhh (i : Issue) (d a b : VReg) (s : State) : Out := packMove i d a b (fun x y => packQ (hiQ x) (hiQ y)) s

/-- PACKHL (R67). -/
def execPackhl (i : Issue) (d a b : VReg) (s : State) : Out := packMove i d a b (fun x y => packQ (hiQ x) (loQ y)) s

/-- PSWAP (R67); B is 0. -/
def execPswap (i : Issue) (d a : VReg) (s : State) : Out := packMove i d a a (fun x _ => packQ (loQ x) (hiQ x)) s

/-- An accumulator result: formed exactly, saturated once to 40 bits, AOV on clamping (R64). -/
def accum (i : Issue) (ac : Fin 4) (a b : VReg) (f : Int → Word → Word → Int) (s : State) : Out :=
  nxt (issueCore i [a, b] s fun c =>
    let x := f (c.getA ac).toInt (c.getV a) (c.getV b)
    (c.setA ac (BitVec.ofInt 40 (satI 40 x))).orAov (clampsI 40 x))

/-- An accumulator written without saturation (R68). -/
def accSet (i : Issue) (ac : Fin 4) (a b : VReg) (f : Int → Word → Word → Int) (s : State) : Out :=
  nxt (issueCore i [a, b] s fun c => c.setA ac (BitVec.ofInt 40 (f (c.getA ac).toInt (c.getV a) (c.getV b))))

/-- MAC.LL (R68). -/
def execMacLl (i : Issue) (ac : Fin 4) (a b : VReg) (s : State) : Out := accum i ac a b (fun x u v => x + loQ u * loQ v) s

/-- MAC.LH (R68). -/
def execMacLh (i : Issue) (ac : Fin 4) (a b : VReg) (s : State) : Out := accum i ac a b (fun x u v => x + loQ u * hiQ v) s

/-- MAC.HL (R68). -/
def execMacHl (i : Issue) (ac : Fin 4) (a b : VReg) (s : State) : Out := accum i ac a b (fun x u v => x + hiQ u * loQ v) s

/-- MAC.HH (R68). -/
def execMacHh (i : Issue) (ac : Fin 4) (a b : VReg) (s : State) : Out := accum i ac a b (fun x u v => x + hiQ u * hiQ v) s

/-- MSU.LL (R68). -/
def execMsuLl (i : Issue) (ac : Fin 4) (a b : VReg) (s : State) : Out := accum i ac a b (fun x u v => x - loQ u * loQ v) s

/-- MSU.LH (R68). -/
def execMsuLh (i : Issue) (ac : Fin 4) (a b : VReg) (s : State) : Out := accum i ac a b (fun x u v => x - loQ u * hiQ v) s

/-- MSU.HL (R68). -/
def execMsuHl (i : Issue) (ac : Fin 4) (a b : VReg) (s : State) : Out := accum i ac a b (fun x u v => x - hiQ u * loQ v) s

/-- MSU.HH (R68). -/
def execMsuHh (i : Issue) (ac : Fin 4) (a b : VReg) (s : State) : Out := accum i ac a b (fun x u v => x - hiQ u * hiQ v) s

/-- MAC2 (R68). -/
def execMac2 (i : Issue) (ac : Fin 4) (a b : VReg) (s : State) : Out :=
  accum i ac a b (fun x u v => x + loQ u * loQ v + hiQ u * hiQ v) s

/-- MAC2X (R68). -/
def execMac2x (i : Issue) (ac : Fin 4) (a b : VReg) (s : State) : Out :=
  accum i ac a b (fun x u v => x + loQ u * hiQ v + hiQ u * loQ v) s

/-- MSU2 (R68). -/
def execMsu2 (i : Issue) (ac : Fin 4) (a b : VReg) (s : State) : Out :=
  accum i ac a b (fun x u v => x - loQ u * loQ v - hiQ u * hiQ v) s

/-- MUL.LL (R68). -/
def execMulLl (i : Issue) (ac : Fin 4) (a b : VReg) (s : State) : Out := accSet i ac a b (fun _ u v => loQ u * loQ v) s

/-- MUL2 (R68). -/
def execMul2 (i : Issue) (ac : Fin 4) (a b : VReg) (s : State) : Out :=
  accSet i ac a b (fun _ u v => loQ u * loQ v + hiQ u * hiQ v) s

/-- ACLR (R68). -/
def execAclr (i : Issue) (ac : Fin 4) (s : State) : Out := nxt (issueCore i [] s fun c => c.setA ac 0)

/-- ACLDQ: a Q15 value into Q9.30 (R68); B is 0. -/
def execAcldq (i : Issue) (ac : Fin 4) (a : VReg) (s : State) : Out := accSet i ac a a (fun _ u _ => loQ u * 2 ^ 15) s

/-- ACSET: acc[31:0] := a, acc[39:32] := b[7:0] (R68). -/
def execAcset (i : Issue) (ac : Fin 4) (a b : VReg) (s : State) : Out :=
  nxt (issueCore i [a, b] s fun c => c.setA ac ((c.getV b).extractLsb' 0 8 ++ c.getV a))

/-- EXT: extraction with left shift s (R65, R68); sets ST.SAT on clamping, leaves the accumulator (R66). -/
def execExt (i : Issue) (d : VReg) (ac : Fin 4) (sh : Fin 8) (s : State) : Out :=
  nxt (issueCore i [d] s fun c =>
    let y := extRaw (c.getA ac).toInt sh
    (c.setV d (i32 (sat16 y))).orSat (clampsI 16 y))

/-- ACRD: acc[31:0] (R68). -/
def execAcrd (i : Issue) (d : VReg) (ac : Fin 4) (s : State) : Out :=
  nxt (issueCore i [d] s fun c => c.setV d ((c.getA ac).extractLsb' 0 32))

/-- ACRH: acc[39:32] sign-extended (R68). -/
def execAcrh (i : Issue) (d : VReg) (ac : Fin 4) (s : State) : Out :=
  nxt (issueCore i [d] s fun c => c.setV d (((c.getA ac).extractLsb' 32 8).signExtend 32))

/-- ACSAR: arithmetic shift right by b[4:0] (R68); A is 0. -/
def execAcsar (i : Issue) (ac : Fin 4) (b : VReg) (s : State) : Out :=
  nxt (issueCore i [b] s fun c => c.setA ac ((c.getA ac).sshiftRight ((c.getV b).toNat % 32)))

end Sys2Proof.Machine
end

