-- ==== Sys2Proof/Machine/Dispatch.lean ====
section
/-! DEFINITION. The dispatch: one arm per command of the table, each one call of its meaning. -/

namespace Sys2Proof.Machine

/-- The effect of a command on everything but the queue. -/
def exec (i : Instr) (s : State) : Host.Outcome State Fault Refusal :=
  match i with
  | .genericRegisterWrite l c a v => Sys2Proof.Machine.execGenericRegisterWrite l c a v s
  | .readClear l c a => Sys2Proof.Machine.execReadClear l c a s
  | .blockLock l b => Sys2Proof.Machine.execBlockLock l b s
  | .latchedPairRead l c a => Sys2Proof.Machine.execLatchedPairRead l c a s
  | .failSelf l => Sys2Proof.Machine.execFailSelf l s
  | .rejoinPeer l => Sys2Proof.Machine.execRejoinPeer l s
  | .rejoinCatchUp => Sys2Proof.Machine.execRejoinCatchUp s
  | .rejoinTimeout => Sys2Proof.Machine.execRejoinTimeout s
  | .lockstepMismatch l => Sys2Proof.Machine.execLockstepMismatch l s
  | .eccUncorrectable r => Sys2Proof.Machine.execEccUncorrectable r s
  | .journalWriteFail l => Sys2Proof.Machine.execJournalWriteFail l s
  | .laneSupplyFail l => Sys2Proof.Machine.execLaneSupplyFail l s
  | .watchdogKick l c v => Sys2Proof.Machine.execWatchdogKick l c v s
  | .watchdogExpiry l => Sys2Proof.Machine.execWatchdogExpiry l s
  | .mirrorHeartbeat l => Sys2Proof.Machine.execMirrorHeartbeat l s
  | .peerSilent l => Sys2Proof.Machine.execPeerSilent l s
  | .takeover => Sys2Proof.Machine.execTakeover s
  | .laneStrike l => Sys2Proof.Machine.execLaneStrike l s
  | .ownershipChange l t => Sys2Proof.Machine.execOwnershipChange l t s
  | .ownerTick l n => Sys2Proof.Machine.execOwnerTick l n s
  | .sequencerCommand l n => Sys2Proof.Machine.execSequencerCommand l n s
  | .missingCopyTimeout l n => Sys2Proof.Machine.execMissingCopyTimeout l n s
  | .holdTimerExpiry n => Sys2Proof.Machine.execHoldTimerExpiry n s
  | .engineHardFault e code => Sys2Proof.Machine.execEngineHardFault e code s
  | .ill iss w => Sys2Proof.Machine.execIll iss w s
  | .add iss d a b => Sys2Proof.Machine.execAdd iss d a b s
  | .sub iss d a b => Sys2Proof.Machine.execSub iss d a b s
  | .and iss d a b => Sys2Proof.Machine.execAnd iss d a b s
  | .or iss d a b => Sys2Proof.Machine.execOr iss d a b s
  | .xor iss d a b => Sys2Proof.Machine.execXor iss d a b s
  | .andn iss d a b => Sys2Proof.Machine.execAndn iss d a b s
  | .shl iss d a b => Sys2Proof.Machine.execShl iss d a b s
  | .shr iss d a b => Sys2Proof.Machine.execShr iss d a b s
  | .sar iss d a b => Sys2Proof.Machine.execSar iss d a b s
  | .ror iss d a b => Sys2Proof.Machine.execRor iss d a b s
  | .min iss d a b => Sys2Proof.Machine.execMin iss d a b s
  | .max iss d a b => Sys2Proof.Machine.execMax iss d a b s
  | .minu iss d a b => Sys2Proof.Machine.execMinu iss d a b s
  | .maxu iss d a b => Sys2Proof.Machine.execMaxu iss d a b s
  | .adds iss d a b => Sys2Proof.Machine.execAdds iss d a b s
  | .subs iss d a b => Sys2Proof.Machine.execSubs iss d a b s
  | .mul iss d a b => Sys2Proof.Machine.execMul iss d a b s
  | .mulh iss d a b => Sys2Proof.Machine.execMulh iss d a b s
  | .mulhu iss d a b => Sys2Proof.Machine.execMulhu iss d a b s
  | .div iss d a b => Sys2Proof.Machine.execDiv iss d a b s
  | .divu iss d a b => Sys2Proof.Machine.execDivu iss d a b s
  | .rem iss d a b => Sys2Proof.Machine.execRem iss d a b s
  | .remu iss d a b => Sys2Proof.Machine.execRemu iss d a b s
  | .clz iss d a => Sys2Proof.Machine.execClz iss d a s
  | .abs iss d a => Sys2Proof.Machine.execAbs iss d a s
  | .sextb iss d a => Sys2Proof.Machine.execSextb iss d a s
  | .sexth iss d a => Sys2Proof.Machine.execSexth iss d a s
  | .addi iss d a k => Sys2Proof.Machine.execAddi iss d a k s
  | .andi iss d a k => Sys2Proof.Machine.execAndi iss d a k s
  | .ori iss d a k => Sys2Proof.Machine.execOri iss d a k s
  | .xori iss d a k => Sys2Proof.Machine.execXori iss d a k s
  | .shi iss d a k n => Sys2Proof.Machine.execShi iss d a k n s
  | .movl iss d k => Sys2Proof.Machine.execMovl iss d k s
  | .movh iss d k => Sys2Proof.Machine.execMovh iss d k s
  | .movw iss d w => Sys2Proof.Machine.execMovw iss d w s
  | .cmp iss p k a b => Sys2Proof.Machine.execCmp iss p k a b s
  | .cmpi iss p k a imm => Sys2Proof.Machine.execCmpi iss p k a imm s
  | .plog iss p pa pb k => Sys2Proof.Machine.execPlog iss p pa pb k s
  | .padd iss d a b => Sys2Proof.Machine.execPadd iss d a b s
  | .psub iss d a b => Sys2Proof.Machine.execPsub iss d a b s
  | .pmulr iss d a b => Sys2Proof.Machine.execPmulr iss d a b s
  | .pabs iss d a => Sys2Proof.Machine.execPabs iss d a s
  | .pneg iss d a => Sys2Proof.Machine.execPneg iss d a s
  | .pmin iss d a b => Sys2Proof.Machine.execPmin iss d a b s
  | .pmax iss d a b => Sys2Proof.Machine.execPmax iss d a b s
  | .pshra iss d a b => Sys2Proof.Machine.execPshra iss d a b s
  | .pshls iss d a b => Sys2Proof.Machine.execPshls iss d a b s
  | .packll iss d a b => Sys2Proof.Machine.execPackll iss d a b s
  | .packhh iss d a b => Sys2Proof.Machine.execPackhh iss d a b s
  | .packhl iss d a b => Sys2Proof.Machine.execPackhl iss d a b s
  | .pswap iss d a => Sys2Proof.Machine.execPswap iss d a s
  | .macLl iss ac a b => Sys2Proof.Machine.execMacLl iss ac a b s
  | .macLh iss ac a b => Sys2Proof.Machine.execMacLh iss ac a b s
  | .macHl iss ac a b => Sys2Proof.Machine.execMacHl iss ac a b s
  | .macHh iss ac a b => Sys2Proof.Machine.execMacHh iss ac a b s
  | .msuLl iss ac a b => Sys2Proof.Machine.execMsuLl iss ac a b s
  | .msuLh iss ac a b => Sys2Proof.Machine.execMsuLh iss ac a b s
  | .msuHl iss ac a b => Sys2Proof.Machine.execMsuHl iss ac a b s
  | .msuHh iss ac a b => Sys2Proof.Machine.execMsuHh iss ac a b s
  | .mac2 iss ac a b => Sys2Proof.Machine.execMac2 iss ac a b s
  | .mac2x iss ac a b => Sys2Proof.Machine.execMac2x iss ac a b s
  | .msu2 iss ac a b => Sys2Proof.Machine.execMsu2 iss ac a b s
  | .mulLl iss ac a b => Sys2Proof.Machine.execMulLl iss ac a b s
  | .mul2 iss ac a b => Sys2Proof.Machine.execMul2 iss ac a b s
  | .aclr iss ac => Sys2Proof.Machine.execAclr iss ac s
  | .acldq iss ac a => Sys2Proof.Machine.execAcldq iss ac a s
  | .acset iss ac a b => Sys2Proof.Machine.execAcset iss ac a b s
  | .ext iss d ac sh => Sys2Proof.Machine.execExt iss d ac sh s
  | .acrd iss d ac => Sys2Proof.Machine.execAcrd iss d ac s
  | .acrh iss d ac => Sys2Proof.Machine.execAcrh iss d ac s
  | .acsar iss ac b => Sys2Proof.Machine.execAcsar iss ac b s
  | .mfs iss d sn => Sys2Proof.Machine.execMfs iss d sn s
  | .mts iss a sn => Sys2Proof.Machine.execMts iss a sn s
  | .ldb iss d a k => Sys2Proof.Machine.execLdb iss d a k s
  | .ldbu iss d a k => Sys2Proof.Machine.execLdbu iss d a k s
  | .ldh iss d a k => Sys2Proof.Machine.execLdh iss d a k s
  | .ldhu iss d a k => Sys2Proof.Machine.execLdhu iss d a k s
  | .ldw iss d a k => Sys2Proof.Machine.execLdw iss d a k s
  | .stb iss v a k => Sys2Proof.Machine.execStb iss v a k s
  | .sth iss v a k => Sys2Proof.Machine.execSth iss v a k s
  | .stw iss v a k => Sys2Proof.Machine.execStw iss v a k s
  | .loadReturn l c d => Sys2Proof.Machine.execLoadReturn l c d s
  | .storeDrain l c k => Sys2Proof.Machine.execStoreDrain l c k s
  | .b iss k => Sys2Proof.Machine.execB iss k s
  | .bl iss k => Sys2Proof.Machine.execBl iss k s
  | .jr iss a => Sys2Proof.Machine.execJr iss a s
  | .jlr iss a => Sys2Proof.Machine.execJlr iss a s
  | .rtt iss => Sys2Proof.Machine.execRtt iss s
  | .waite iss d => Sys2Proof.Machine.execWaite iss d s
  | .waita iss d a b => Sys2Proof.Machine.execWaita iss d a b s
  | .waitae iss d a b => Sys2Proof.Machine.execWaitae iss d a b s
  | .waitEnd l c => Sys2Proof.Machine.execWaitEnd l c s
  | .waitTimeout l c => Sys2Proof.Machine.execWaitTimeout l c s
  | .take iss d => Sys2Proof.Machine.execTake iss d s
  | .post iss d a b => Sys2Proof.Machine.execPost iss d a b s
  | .postVisible l c => Sys2Proof.Machine.execPostVisible l c s
  | .eventPosting l c src code arg data => Sys2Proof.Machine.execEventPosting l c src code arg data s
  | .evqClear l c => Sys2Proof.Machine.execEvqClear l c s
  | .jput iss d a => Sys2Proof.Machine.execJput iss d a s
  | .jtake iss d a b => Sys2Proof.Machine.execJtake iss d a b s
  | .jdone iss d a b => Sys2Proof.Machine.execJdone iss d a b s
  | .lcswap iss d a b => Sys2Proof.Machine.execLcswap iss d a b s
  | .fenceL iss => Sys2Proof.Machine.execFenceL iss s
  | .fenceE iss => Sys2Proof.Machine.execFenceE iss s
  | .fenceComplete l c => Sys2Proof.Machine.execFenceComplete l c s
  | .win iss d a => Sys2Proof.Machine.execWin iss d a s
  | .reservedEncoding iss => Sys2Proof.Machine.execReservedEncoding iss s
  | .coreStart => Sys2Proof.Machine.execCoreStart s
  | .angEdge ch rise => Sys2Proof.Machine.execAngEdge ch rise s
  | .halyardStall l n => Sys2Proof.Machine.execHalyardStall l n s
  | .halyardConfig l n r v => Sys2Proof.Machine.execHalyardConfig l n r v s
  | .feedIncrement l n v => Sys2Proof.Machine.execFeedIncrement l n v s
  | .feedCommit l n v => Sys2Proof.Machine.execFeedCommit l n v s
  | .entryArm l e => Sys2Proof.Machine.execEntryArm l e s
  | .entryFire l e => Sys2Proof.Machine.execEntryFire l e s
  | .occurrenceComplete l e => Sys2Proof.Machine.execOccurrenceComplete l e s
  | .entryCommit l c e => Sys2Proof.Machine.execEntryCommit l c e s
  | .entryCancel l c e => Sys2Proof.Machine.execEntryCancel l c e s
  | .fireEn l on => Sys2Proof.Machine.execFireEn l on s
  | .periodicRequest l c => Sys2Proof.Machine.execPeriodicRequest l c s
  | .sampleStep l => Sys2Proof.Machine.execSampleStep l s
  | .lpeEnable l c => Sys2Proof.Machine.execLpeEnable l c s
  | .lpeDisable l c => Sys2Proof.Machine.execLpeDisable l c s
  | .lpeHold l c => Sys2Proof.Machine.execLpeHold l c s
  | .lpeResume l c => Sys2Proof.Machine.execLpeResume l c s
  | .injStart l n => Sys2Proof.Machine.execInjStart l n s
  | .injStop l n => Sys2Proof.Machine.execInjStop l n s
  | .capArm l n => Sys2Proof.Machine.execCapArm l n s
  | .capTrignow l n => Sys2Proof.Machine.execCapTrignow l n s
  | .capAbort l n => Sys2Proof.Machine.execCapAbort l n s
  | .ddvStart l c p sel e => Sys2Proof.Machine.execDdvStart l c p sel e s
  | .ddvStop l c => Sys2Proof.Machine.execDdvStop l c s
  | .ddvClr l c => Sys2Proof.Machine.execDdvClr l c s
  | .ddvEnable l c => Sys2Proof.Machine.execDdvEnable l c s
  | .ddvDisable l c => Sys2Proof.Machine.execDdvDisable l c s
  | .bankRequest l b => Sys2Proof.Machine.execBankRequest l b s
  | .peakEnd c hit vbst => Sys2Proof.Machine.execPeakEnd c hit vbst s
  | .transitionEnd c fell dip => Sys2Proof.Machine.execTransitionEnd c fell dip s
  | .holdEnd c vbst => Sys2Proof.Machine.execHoldEnd c vbst s
  | .releaseEnd c fell => Sys2Proof.Machine.execReleaseEnd c fell s
  | .requestDeadline c => Sys2Proof.Machine.execRequestDeadline c s
  | .holdEndRevision l c => Sys2Proof.Machine.execHoldEndRevision l c s
  | .profileWrite l b p w v => Sys2Proof.Machine.execProfileWrite l b p w v s
  | .ddmFrac l m v => Sys2Proof.Machine.execDdmFrac l m v s
  | .holdloss c => Sys2Proof.Machine.execHoldloss c s
  | .valveShort c => Sys2Proof.Machine.execValveShort c s
  | .bhsOvercurrent b => Sys2Proof.Machine.execBhsOvercurrent b s
  | .bhsfltClear l b => Sys2Proof.Machine.execBhsfltClear l b s
  | .boostLimit => Sys2Proof.Machine.execBoostLimit s
  | .vbstLow => Sys2Proof.Machine.execVbstLow s
  | .pvEnable l n => Sys2Proof.Machine.execPvEnable l n s
  | .pvDisable l n => Sys2Proof.Machine.execPvDisable l n s
  | .pvClr l n => Sys2Proof.Machine.execPvClr l n s
  | .pvDutyWrite l n v => Sys2Proof.Machine.execPvDutyWrite l n v s
  | .pvConversion n j => Sys2Proof.Machine.execPvConversion n j s
  | .pvShort n => Sys2Proof.Machine.execPvShort n s
  | .pvShortbat n holds => Sys2Proof.Machine.execPvShortbat n holds s
  | .pvOpen n holds => Sys2Proof.Machine.execPvOpen n holds s
  | .pvOver n => Sys2Proof.Machine.execPvOver n s
  | .lsOn l n => Sys2Proof.Machine.execLsOn l n s
  | .lsOff l n => Sys2Proof.Machine.execLsOff l n s
  | .lsClr l n => Sys2Proof.Machine.execLsClr l n s
  | .lsLimitTimeout n low => Sys2Proof.Machine.execLsLimitTimeout n low s
  | .lsRetry n => Sys2Proof.Machine.execLsRetry n s
  | .inrushWindowEnd n => Sys2Proof.Machine.execInrushWindowEnd n s
  | .lsOvertemp n abs => Sys2Proof.Machine.execLsOvertemp n abs s
  | .lsThermalRestart n => Sys2Proof.Machine.execLsThermalRestart n s
  | .lsOpenload n => Sys2Proof.Machine.execLsOpenload n s
  | .groupTrip k => Sys2Proof.Machine.execGroupTrip k s
  | .groupDieTrip g => Sys2Proof.Machine.execGroupDieTrip g s
  | .groupRestart die g => Sys2Proof.Machine.execGroupRestart die g s
  | .moduleShed ovr => Sys2Proof.Machine.execModuleShed ovr s
  | .lsUndervoltage k => Sys2Proof.Machine.execLsUndervoltage k s
  | .lsUvRestart k => Sys2Proof.Machine.execLsUvRestart k s
  | .directedConversion l g v => Sys2Proof.Machine.execDirectedConversion l g v s
  | .directedConversionDone g raw => Sys2Proof.Machine.execDirectedConversionDone g raw s
  | .lossImpact n xs => Sys2Proof.Machine.execLossImpact n xs s
  | .lossWindowOpen l mask sector => Sys2Proof.Machine.execLossWindowOpen l mask sector s
  | .lossWindowClose l mask sector => Sys2Proof.Machine.execLossWindowClose l mask sector s
  | .windowTimeout n => Sys2Proof.Machine.execWindowTimeout n s
  | .lossRecordWrite n => Sys2Proof.Machine.execLossRecordWrite n s
  | .inputFault iss => Sys2Proof.Machine.execInputFault iss s
  | .inputFaultClear iss => Sys2Proof.Machine.execInputFaultClear iss s
  | .adcSnapshot g => Sys2Proof.Machine.execAdcSnapshot g s
  | .fnTick => Sys2Proof.Machine.execFnTick s
  | .fnCtgtWrite l n v => Sys2Proof.Machine.execFnCtgtWrite l n v s
  | .fnTtgtWrite l n v => Sys2Proof.Machine.execFnTtgtWrite l n v s
  | .fnLimWrite l n v => Sys2Proof.Machine.execFnLimWrite l n v s
  | .fnRateWrite l n v => Sys2Proof.Machine.execFnRateWrite l n v s
  | .fnCtlWrite l n v => Sys2Proof.Machine.execFnCtlWrite l n v s
  | .fnBindWrite l n hi v => Sys2Proof.Machine.execFnBindWrite l n hi v s
  | .loadcp l p => Sys2Proof.Machine.execLoadcp l p s
  | .boundContextReport l c => Sys2Proof.Machine.execBoundContextReport l c s
  | .parcelCreate l stage tag => Sys2Proof.Machine.execParcelCreate l stage tag s
  | .parcelStep l stage => Sys2Proof.Machine.execParcelStep l stage s
  | .fixCommit l v => Sys2Proof.Machine.execFixCommit l v s
  | .qualSubmit l v => Sys2Proof.Machine.execQualSubmit l v s
  | .measurementAttribute => Sys2Proof.Machine.execMeasurementAttribute s
  | .closingGraceEnd c => Sys2Proof.Machine.execClosingGraceEnd c s
  | .parcelExpire c => Sys2Proof.Machine.execParcelExpire c s
  | .pclFlush l => Sys2Proof.Machine.execPclFlush l s
  | .pclRun l on => Sys2Proof.Machine.execPclRun l on s
  | .yieldStored => Sys2Proof.Machine.execYieldStored s
  | .yieldBatchSend => Sys2Proof.Machine.execYieldBatchSend s
  | .yread l => Sys2Proof.Machine.execYread l s
  | .yreadDone => Sys2Proof.Machine.execYreadDone s
  | .linkDown n => Sys2Proof.Machine.execLinkDown n s
  | .linkTrained n gear => Sys2Proof.Machine.execLinkTrained n gear s
  | .i2cTransaction l n v => Sys2Proof.Machine.execI2cTransaction l n v s
  | .i2cDone n ack cnt data => Sys2Proof.Machine.execI2cDone n ack cnt data s
  | .camTrig l n => Sys2Proof.Machine.execCamTrig l n s
  | .cameraTrigger l n => Sys2Proof.Machine.execCameraTrigger l n s
  | .triggerPulseEnd n => Sys2Proof.Machine.execTriggerPulseEnd n s
  | .pwron l n => Sys2Proof.Machine.execPwron l n s
  | .pwroff l n => Sys2Proof.Machine.execPwroff l n s
  | .cameraPowerFault n => Sys2Proof.Machine.execCameraPowerFault n s
  | .vpBind l n v => Sys2Proof.Machine.execVpBind l n v s
  | .frameStart n vc => Sys2Proof.Machine.execFrameStart n vc s
  | .linePacket n vc dt px crc ovr => Sys2Proof.Machine.execLinePacket n vc dt px crc ovr s
  | .frameEnd n vc => Sys2Proof.Machine.execFrameEnd n vc s
  | .frameStatusWrite n drops => Sys2Proof.Machine.execFrameStatusWrite n drops s
  | .missingFrame n => Sys2Proof.Machine.execMissingFrame n s
  | .camCommit l n => Sys2Proof.Machine.execCamCommit l n s
  | .vpRun l n on => Sys2Proof.Machine.execVpRun l n on s
  | .fusionUnit n b => Sys2Proof.Machine.execFusionUnit n b s
  | .fusInject l n => Sys2Proof.Machine.execFusInject l n s
  | .listIncomplete n => Sys2Proof.Machine.execListIncomplete n s
  | .sourceStale n => Sys2Proof.Machine.execSourceStale n s
  | .listProcess => Sys2Proof.Machine.execListProcess s
  | .trackAgeOut k => Sys2Proof.Machine.execTrackAgeOut k s
  | .fusionOutput => Sys2Proof.Machine.execFusionOutput s
  | .outnow l => Sys2Proof.Machine.execOutnow l s
  | .fusTest l => Sys2Proof.Machine.execFusTest l s
  | .fusEndtest l => Sys2Proof.Machine.execFusEndtest l s
  | .fusReinit l => Sys2Proof.Machine.execFusReinit l s
  | .fusRun l on => Sys2Proof.Machine.execFusRun l on s
  | .canReceive n id ide rtr fdf brs esi len b age => Sys2Proof.Machine.execCanReceive n id ide rtr fdf brs esi len b age s
  | .canError n code tx heavy => Sys2Proof.Machine.execCanError n code tx heavy s
  | .protocolException n => Sys2Proof.Machine.execProtocolException n s
  | .canBusOff n => Sys2Proof.Machine.execCanBusOff n s
  | .busoffRecovered n => Sys2Proof.Machine.execBusoffRecovered n s
  | .recover l n => Sys2Proof.Machine.execRecover l n s
  | .canMode l n m => Sys2Proof.Machine.execCanMode l n m s
  | .canModeChange n => Sys2Proof.Machine.execCanModeChange n s
  | .txreq l n b => Sys2Proof.Machine.execTxreq l n b s
  | .txcancel l n b => Sys2Proof.Machine.execTxcancel l n b s
  | .canFrameStart n => Sys2Proof.Machine.execCanFrameStart n s
  | .canTxEnd n r => Sys2Proof.Machine.execCanTxEnd n r s
  | .timeReference n => Sys2Proof.Machine.execTimeReference n s
  | .canWake n => Sys2Proof.Machine.execCanWake n s
  | .linStart l n t => Sys2Proof.Machine.execLinStart l n t s
  | .linSwitch l n t => Sys2Proof.Machine.execLinSwitch l n t s
  | .linStop l n => Sys2Proof.Machine.execLinStop l n s
  | .linSleep l n => Sys2Proof.Machine.execLinSleep l n s
  | .linWakeup l n => Sys2Proof.Machine.execLinWakeup l n s
  | .linSlot n => Sys2Proof.Machine.execLinSlot n s
  | .linResponse n b framing => Sys2Proof.Machine.execLinResponse n b framing s
  | .linWake n len => Sys2Proof.Machine.execLinWake n len s
  | .sentFrame n cal status nib crc bad flen age => Sys2Proof.Machine.execSentFrame n cal status nib crc bad flen age s
  | .serByte n b framing parity brk age => Sys2Proof.Machine.execSerByte n b framing parity brk age s
  | .serIdle n => Sys2Proof.Machine.execSerIdle n s
  | .serTxd l n v => Sys2Proof.Machine.execSerTxd l n v s
  | .ppsEdge k rise => Sys2Proof.Machine.execPpsEdge k rise s
  | .ppsStampRead l k => Sys2Proof.Machine.execPpsStampRead l k s
  | .ethReceive p b fcs age => Sys2Proof.Machine.execEthReceive p b fcs age s
  | .ethLinkDown p => Sys2Proof.Machine.execEthLinkDown p s
  | .txRingDoorbell l q v => Sys2Proof.Machine.execTxRingDoorbell l q v s
  | .ethTxDone q age => Sys2Proof.Machine.execEthTxDone q age s
  | .fdbAgeing => Sys2Proof.Machine.execFdbAgeing s
  | .flushfdb l => Sys2Proof.Machine.execFlushfdb l s
  | .frerReset k => Sys2Proof.Machine.execFrerReset k s
  | .pathdown k p => Sys2Proof.Machine.execPathdown k p s
  | .trackerCommit l iss v => Sys2Proof.Machine.execTrackerCommit l iss v s
  | .trackerTimeout iss => Sys2Proof.Machine.execTrackerTimeout iss s
  | .timSwitch l j => Sys2Proof.Machine.execTimSwitch l j s
  | .forcefree l => Sys2Proof.Machine.execForcefree l s
  | .revertSwitch => Sys2Proof.Machine.execRevertSwitch s
  | .timNowRead l => Sys2Proof.Machine.execTimNowRead l s
  | .jobReceive b => Sys2Proof.Machine.execJobReceive b s
  | .jobAccept n => Sys2Proof.Machine.execJobAccept n s
  | .ackReceive b => Sys2Proof.Machine.execAckReceive b s
  | .gapReceive b => Sys2Proof.Machine.execGapReceive b s
  | .stateReceive b => Sys2Proof.Machine.execStateReceive b s
  | .completeReceive b => Sys2Proof.Machine.execCompleteReceive b s
  | .jrepReceive b => Sys2Proof.Machine.execJrepReceive b s
  | .jrepackReceive b => Sys2Proof.Machine.execJrepackReceive b s
  | .jsyncReceive b => Sys2Proof.Machine.execJsyncReceive b s
  | .jsyncendReceive b => Sys2Proof.Machine.execJsyncendReceive b s
  | .heartbeatReceive b => Sys2Proof.Machine.execHeartbeatReceive b s
  | .heartbeatSend k => Sys2Proof.Machine.execHeartbeatSend k s
  | .memberLost k r => Sys2Proof.Machine.execMemberLost k r s
  | .jobRetransmit n => Sys2Proof.Machine.execJobRetransmit n s
  | .jobBackoff n => Sys2Proof.Machine.execJobBackoff n s
  | .streamOpen l n => Sys2Proof.Machine.execStreamOpen l n s
  | .streamClose l n => Sys2Proof.Machine.execStreamClose l n s
  | .streamPause l n => Sys2Proof.Machine.execStreamPause l n s
  | .streamResume l n => Sys2Proof.Machine.execStreamResume l n s
  | .resign l => Sys2Proof.Machine.execResign l s
  | .hoistListen k => Sys2Proof.Machine.execHoistListen k s
  | .creditRefill => Sys2Proof.Machine.execCreditRefill s
  | .burstGrant ws ce => Sys2Proof.Machine.execBurstGrant ws ce s
  | .weightWrite l n v => Sys2Proof.Machine.execWeightWrite l n v s
  | .weightHold l on => Sys2Proof.Machine.execWeightHold l on s
  | .fabricFreeze l on => Sys2Proof.Machine.execFabricFreeze l on s
  | .scrubRead beat err => Sys2Proof.Machine.execScrubRead beat err s
  | .recordEnter l code origin data => Sys2Proof.Machine.execRecordEnter l code origin data s
  | .pwcmd l c v => Sys2Proof.Machine.execPwcmd l c v s
  | .recFlush l => Sys2Proof.Machine.execRecFlush l s
  | .flushDone => Sys2Proof.Machine.execFlushDone s
  | .recFreeze l => Sys2Proof.Machine.execRecFreeze l s
  | .thaw l => Sys2Proof.Machine.execThaw l s
  | .freezeTimeout => Sys2Proof.Machine.execFreezeTimeout s
  | .recRead l => Sys2Proof.Machine.execRecRead l s
  | .readDone => Sys2Proof.Machine.execReadDone s
  | .recNonce l => Sys2Proof.Machine.execRecNonce l s
  | .recClear l => Sys2Proof.Machine.execRecClear l s
  | .nonceExpiry p => Sys2Proof.Machine.execNonceExpiry p s
  | .ophrsTick => Sys2Proof.Machine.execOphrsTick s
  | .panelUpdate l full first last => Sys2Proof.Machine.execPanelUpdate l full first last s
  | .updateLoaded => Sys2Proof.Machine.execUpdateLoaded s
  | .panelFrame => Sys2Proof.Machine.execPanelFrame s
  | .panelLineSend => Sys2Proof.Machine.execPanelLineSend s
  | .pbsyTimeout => Sys2Proof.Machine.execPbsyTimeout s
  | .panelPowered => Sys2Proof.Machine.execPanelPowered s
  | .panelPowerHold => Sys2Proof.Machine.execPanelPowerHold s
  | .panelDischarge l => Sys2Proof.Machine.execPanelDischarge l s
  | .dischargeDone => Sys2Proof.Machine.execDischargeDone s
  | .crackCheck r => Sys2Proof.Machine.execCrackCheck r s
  | .recheck l => Sys2Proof.Machine.execRecheck l s
  | .tempStale => Sys2Proof.Machine.execTempStale s
  | .powerOn t => Sys2Proof.Machine.execPowerOn t s
  | .rstcmdCold l t => Sys2Proof.Machine.execRstcmdCold l t s
  | .rstcmdWarm l t => Sys2Proof.Machine.execRstcmdWarm l t s
  | .warmStart t => Sys2Proof.Machine.execWarmStart t s
  | .outputEnable energy => Sys2Proof.Machine.execOutputEnable energy s
  | .warmStartEscalate t => Sys2Proof.Machine.execWarmStartEscalate t s
  | .cfgWrite l => Sys2Proof.Machine.execCfgWrite l s
  | .cfgWriteDone ok => Sys2Proof.Machine.execCfgWriteDone ok s
  | .journalCheckpoint => Sys2Proof.Machine.execJournalCheckpoint s
  | .lowSupplyEntry => Sys2Proof.Machine.execLowSupplyEntry s
  | .lowSupplyExit => Sys2Proof.Machine.execLowSupplyExit s
  | .holdUpEntry v1 v2 => Sys2Proof.Machine.execHoldUpEntry v1 v2 s
  | .supplyReturn => Sys2Proof.Machine.execSupplyReturn s
  | .holdUpSwitchOff => Sys2Proof.Machine.execHoldUpSwitchOff s
  | .holdUpEnergyOut => Sys2Proof.Machine.execHoldUpEnergyOut s
  | .modeRun l => Sys2Proof.Machine.execModeRun l s
  | .modeService l => Sys2Proof.Machine.execModeService l s
  | .modeBench l => Sys2Proof.Machine.execModeBench l s
  | .modePark l => Sys2Proof.Machine.execModePark l s
  | .parkShutdown => Sys2Proof.Machine.execParkShutdown s
  | .wakeInput k => Sys2Proof.Machine.execWakeInput k s
  | .wakeTimer => Sys2Proof.Machine.execWakeTimer s
  | .parkPowerLoss => Sys2Proof.Machine.execParkPowerLoss s
  | .secNonce l p => Sys2Proof.Machine.execSecNonce l p s
  | .sessionOpen l => Sys2Proof.Machine.execSessionOpen l s
  | .endsession l => Sys2Proof.Machine.execEndsession l s
  | .dbgunlock l => Sys2Proof.Machine.execDbgunlock l s
  | .dbglock l => Sys2Proof.Machine.execDbglock l s
  | .sessionExpiry dbg => Sys2Proof.Machine.execSessionExpiry dbg s
  | .imgwrite l => Sys2Proof.Machine.execImgwrite l s
  | .imageWriteDone ok => Sys2Proof.Machine.execImageWriteDone ok s
  | .activate l t => Sys2Proof.Machine.execActivate l t s
  | .raisemin l => Sys2Proof.Machine.execRaisemin l s
  | .keywrite l k => Sys2Proof.Machine.execKeywrite l k s
  | .keyrevoke l k => Sys2Proof.Machine.execKeyrevoke l k s
  | .cameraBrownout => Sys2Proof.Machine.execCameraBrownout s
  | .brownoutRelease => Sys2Proof.Machine.execBrownoutRelease s
  | .valveSupplyUv k => Sys2Proof.Machine.execValveSupplyUv k s
  | .valveSupplyOver k mean => Sys2Proof.Machine.execValveSupplyOver k mean s
  | .sensorSupplyFault n => Sys2Proof.Machine.execSensorSupplyFault n s
  | .sensorSupplyRestart l m => Sys2Proof.Machine.execSensorSupplyRestart l m s
  | .dissEstimate cpu cam boost ls pv bk bank => Sys2Proof.Machine.execDissEstimate cpu cam boost ls pv bk bank s
  | .dissShed => Sys2Proof.Machine.execDissShed s
  | .ownerTicksAbsent n => Sys2Proof.Machine.execOwnerTicksAbsent n s
  | .boostLimitEnd => Sys2Proof.Machine.execBoostLimitEnd s
  | .vbstRecovered => Sys2Proof.Machine.execVbstRecovered s
  | .ownFaultEnd n => Sys2Proof.Machine.execOwnFaultEnd n s
  | .lossSensorFault n fault => Sys2Proof.Machine.execLossSensorFault n fault s
  | .positionHistorySample => Sys2Proof.Machine.execPositionHistorySample s
  | .serByteSent n => Sys2Proof.Machine.execSerByteSent n s
  | .ethLinkUp p role sqi => Sys2Proof.Machine.execEthLinkUp p role sqi s
  | .egressFrameSent p => Sys2Proof.Machine.execEgressFrameSent p s
  | .slewComplete => Sys2Proof.Machine.execSlewComplete s
  | .rejoinTestFault => Sys2Proof.Machine.execRejoinTestFault s
  | .valveSupplyReturn k => Sys2Proof.Machine.execValveSupplyReturn k s
  | .bankWeak e => Sys2Proof.Machine.execBankWeak e s
  | .tambStale => Sys2Proof.Machine.execTambStale s

end Sys2Proof.Machine
end

