-- ==== Sys2Proof/Machine/Dram.lean ====
section
/-! DEFINITION. What waited for the DRAM while the fabric granted its requester nothing (spec/15 R476, R477). -/

namespace Sys2Proof.Machine

/-- A ring record that waited is taken, or goes on waiting; an engine with a hard fault writes nothing more (R27). -/
def drainRec (s : State) (w : RingRec) : State :=
  if s.faulty (blockOf w.ring) then s
  else
    let placed := !ringHeld s w.rq && ringRoom s w.ring && blockOf w.ring == .can
    let t := ringSend s w
    if placed then canPlaced t w.fresh (ringNext s w.ring w.esz) else t

/-- All that waited is taken in its order, as far as the fabric grants it. -/
def dramDrain (s : State) : State :=
  let t := s.dq.wait.foldl drainRec { s with dq := { s.dq with wait := [], frames := [] } }
  s.dq.frames.foldl (fun s n => flushMissing s n 64) t

end Sys2Proof.Machine
end

