-- ==== Sys2Proof/Machine/Step.lean ====
section
/-! DEFINITION. A step of the module: the command at the front of its queue, or a tick of the HTB. -/

namespace Sys2Proof.Machine

/-- A tick of the HTB of a module with power (R123): the halyards (R136) and the local clock (R419) move on, and MSEQ with the clock's
state (R556); then what waited for the DRAM goes on (R476) and the uncorrectable errors that were met take their effect (R466). While
the module is parked only the HTB and the free-running clock move on (R550). -/
def tick (s : State) : State :=
  if s.sup.phase = .off then s
  else
    let s := { s with now := s.now + 1 }
    if s.sup.phase = .parked then { s with tim := { s.tim with count := ((s.tim.count : Int) + s.tim.addend).toNat } }
    else modeStep s (eccSettle (s.work fun s => dramDrain (timTick (hyTick (hyTick s .a) .b))))

/-- A step: the command that has waited longest, on the module with the rest of the queue; without any, a tick. -/
def step (s : State) : Host.Outcome State Fault Refusal :=
  match s.pending with
  | c :: rest => exec c { s with pending := rest }
  | [] => .next (tick s)

/-- The command that a word spells, put at the front of the queue. -/
def State.withFetchWord (s : State) (nbits w : Nat) : State :=
  match Sys2Proof.decodeTableWord nbits w with
  | some c => { s with pending := c :: s.pending }
  | none => s

end Sys2Proof.Machine
end

