-- ==== Sys2Proof/Safety.lean ====
section
/-! DEFINITION. What the states of a module have in common, in the terms the statements use. -/

namespace Sys2Proof

/-- The commands of the cores: the instructions of Ranly and what completes them. -/
def Instr.ofCore : Instr → Bool
  | .ill _ _ | .add _ _ _ _ | .sub _ _ _ _ | .and _ _ _ _ | .or _ _ _ _ | .xor _ _ _ _ | .andn _ _ _ _ | .shl _ _ _ _
  | .shr _ _ _ _ | .sar _ _ _ _ | .ror _ _ _ _ | .min _ _ _ _ | .max _ _ _ _ | .minu _ _ _ _ | .maxu _ _ _ _
  | .adds _ _ _ _ | .subs _ _ _ _ | .mul _ _ _ _ | .mulh _ _ _ _ | .mulhu _ _ _ _ | .div _ _ _ _ | .divu _ _ _ _
  | .rem _ _ _ _ | .remu _ _ _ _ | .clz _ _ _ | .abs _ _ _ | .sextb _ _ _ | .sexth _ _ _ | .addi _ _ _ _
  | .andi _ _ _ _ | .ori _ _ _ _ | .xori _ _ _ _ | .shi _ _ _ _ _ | .movl _ _ _ | .movh _ _ _ | .movw _ _ _
  | .cmp _ _ _ _ _ | .cmpi _ _ _ _ _ | .plog _ _ _ _ _ | .padd _ _ _ _ | .psub _ _ _ _ | .pmulr _ _ _ _ | .pabs _ _ _
  | .pneg _ _ _ | .pmin _ _ _ _ | .pmax _ _ _ _ | .pshra _ _ _ _ | .pshls _ _ _ _ | .packll _ _ _ _ | .packhh _ _ _ _
  | .packhl _ _ _ _ | .pswap _ _ _ | .macLl _ _ _ _ | .macLh _ _ _ _ | .macHl _ _ _ _ | .macHh _ _ _ _
  | .msuLl _ _ _ _ | .msuLh _ _ _ _ | .msuHl _ _ _ _ | .msuHh _ _ _ _ | .mac2 _ _ _ _ | .mac2x _ _ _ _ | .msu2 _ _ _ _
  | .mulLl _ _ _ _ | .mul2 _ _ _ _ | .aclr _ _ | .acldq _ _ _ | .acset _ _ _ _ | .ext _ _ _ _ | .acrd _ _ _
  | .acrh _ _ _ | .acsar _ _ _ | .mfs _ _ _ | .mts _ _ _ | .ldb _ _ _ _ | .ldbu _ _ _ _ | .ldh _ _ _ _ | .ldhu _ _ _ _
  | .ldw _ _ _ _ | .stb _ _ _ _ | .sth _ _ _ _ | .stw _ _ _ _ | .loadReturn _ _ _ | .storeDrain _ _ _ | .b _ _
  | .bl _ _ | .jr _ _ | .jlr _ _ | .rtt _ | .waite _ _ | .waita _ _ _ _ | .waitae _ _ _ _ | .waitEnd _ _
  | .waitTimeout _ _ | .take _ _ | .post _ _ _ _ | .postVisible _ _ | .eventPosting _ _ _ _ _ _ | .evqClear _ _
  | .jput _ _ _ | .jtake _ _ _ _ | .jdone _ _ _ _ | .lcswap _ _ _ _ | .fenceL _ | .fenceE _ | .fenceComplete _ _
  | .win _ _ _ | .reservedEncoding _ => true
  | _ => false

/-- The issue and the length of a core's instruction: MOVW, reserved or not, has an extension word (R56). -/
def Instr.issued : Instr → Option (Issue × Nat)
  | .ill i _ | .add i _ _ _ | .sub i _ _ _ | .and i _ _ _ | .or i _ _ _ | .xor i _ _ _ | .andn i _ _ _ | .shl i _ _ _
  | .shr i _ _ _ | .sar i _ _ _ | .ror i _ _ _ | .min i _ _ _ | .max i _ _ _ | .minu i _ _ _ | .maxu i _ _ _ | .adds i _ _ _
  | .subs i _ _ _ | .mul i _ _ _ | .mulh i _ _ _ | .mulhu i _ _ _ | .div i _ _ _ | .divu i _ _ _ | .rem i _ _ _ | .remu i _ _ _
  | .clz i _ _ | .abs i _ _ | .sextb i _ _ | .sexth i _ _ | .addi i _ _ _ | .andi i _ _ _ | .ori i _ _ _ | .xori i _ _ _
  | .shi i _ _ _ _ | .movl i _ _ | .movh i _ _ | .cmp i _ _ _ _ | .cmpi i _ _ _ _ | .plog i _ _ _ _ | .padd i _ _ _
  | .psub i _ _ _ | .pmulr i _ _ _ | .pabs i _ _ | .pneg i _ _ | .pmin i _ _ _ | .pmax i _ _ _ | .pshra i _ _ _
  | .pshls i _ _ _ | .packll i _ _ _ | .packhh i _ _ _ | .packhl i _ _ _ | .pswap i _ _ | .macLl i _ _ _ | .macLh i _ _ _
  | .macHl i _ _ _ | .macHh i _ _ _ | .msuLl i _ _ _ | .msuLh i _ _ _ | .msuHl i _ _ _ | .msuHh i _ _ _ | .mac2 i _ _ _
  | .mac2x i _ _ _ | .msu2 i _ _ _ | .mulLl i _ _ _ | .mul2 i _ _ _ | .aclr i _ | .acldq i _ _ | .acset i _ _ _ | .ext i _ _ _
  | .acrd i _ _ | .acrh i _ _ | .acsar i _ _ | .mfs i _ _ | .mts i _ _ | .ldb i _ _ _ | .ldbu i _ _ _ | .ldh i _ _ _
  | .ldhu i _ _ _ | .ldw i _ _ _ | .stb i _ _ _ | .sth i _ _ _ | .stw i _ _ _ | .b i _ | .bl i _ | .jr i _ | .jlr i _ | .rtt i
  | .waite i _ | .waita i _ _ _ | .waitae i _ _ _ | .take i _ | .post i _ _ _ | .jput i _ _ | .jtake i _ _ _ | .jdone i _ _ _
  | .lcswap i _ _ _ | .fenceL i | .fenceE i | .win i _ _ => some (i, 4)
  | .movw i _ _ | .reservedEncoding (i, true) => some (i, 8)
  | .reservedEncoding (i, false) => some (i, 4)
  | _ => none

/-- The commands that may change what the supervisor holds: lanes, takeover, rejoin, starts, modes, power, and the writes of a word
of register space. -/
def Instr.ofSupervisor : Instr → Bool
  | .genericRegisterWrite _ _ _ _ | .blockLock _ _ | .failSelf _ | .rejoinPeer _ | .rejoinCatchUp | .rejoinTimeout
  | .lockstepMismatch _ | .eccUncorrectable _ | .journalWriteFail _ | .laneSupplyFail _ | .watchdogExpiry _
  | .mirrorHeartbeat _ | .peerSilent _ | .takeover | .laneStrike _ | .ownershipChange _ _ | .coreStart | .canWake _
  | .powerOn _ | .rstcmdCold _ _ | .rstcmdWarm _ _ | .warmStart _ | .outputEnable _ | .warmStartEscalate _
  | .journalCheckpoint | .lowSupplyEntry | .lowSupplyExit | .holdUpEntry _ _ | .supplyReturn | .holdUpSwitchOff
  | .holdUpEnergyOut | .modeRun _ | .modeService _ | .modeBench _ | .modePark _ | .parkShutdown | .wakeInput _
  | .wakeTimer | .parkPowerLoss | .rejoinTestFault => true
  | _ => false

end Sys2Proof

namespace Sys2Proof.Machine

/-- While the lanes stand still none is healthy and neither a takeover nor a rejoin runs; no lane is healthy and struck (R37). -/
def lanesSound (s : State) : Bool :=
  (s.lanesUp || (!s.laneA.live && !s.laneB.live && s.sup.takeover.isNone && s.sup.rejoin.isNone)) && !(s.laneA.live && s.laneA.struck) && !(s.laneB.live && s.laneB.struck)

/-- A takeover is due only while neither lane is lost, and from the active lane (R33, R38). -/
def takeoverSound (s : State) : Bool :=
  match s.sup.takeover with
  | some t => (s.sup.laneMode == .dual || (s.sup.laneMode == .rejoin && s.sup.rejoin.isNone)) && t.lane == s.sup.active
  | none => true

/-- A rejoin runs only in REJOIN, of the lane that is not active, which is not healthy yet (R40, R537). -/
def rejoinSound (s : State) : Bool :=
  match s.sup.rejoin with
  | some r => s.sup.laneMode == .rejoin && r.lane == s.sup.active.other &&
      !(match r.lane with
        | .a => s.laneA.live
        | .b => s.laneB.live)
  | none => true

/-- The rules of the lane pair (R33, R37, R38, R40) in a state. -/
def LaneInv (s : State) : Prop := lanesSound s = true ∧ takeoverSound s = true ∧ rejoinSound s = true

/-- An instruction of `len` bytes is issued with its effect: the core runs, no fence is pending, the instruction lies in
core-local memory (R71), its guard holds (R53), and the fabric does not hold the lane's requests (R476, R477). -/
def coreReady (s : State) (i : Issue) (len : Nat) : Prop :=
  (s.core i.lane i.core).run = .running ∧ (s.core i.lane i.core).fence = none ∧
    (s.core i.lane i.core).pc.toNat + len ≤ 0x100000 ∧ 0 < len ∧ (s.core i.lane i.core).guard i = true ∧
    laneBlocked s i.lane = false

/-- The core runs, no fence is pending, and the fabric does not hold its lane's requests (R476, R477). -/
def coreFree (s : State) (i : Issue) : Prop :=
  (s.core i.lane i.core).run = .running ∧ (s.core i.lane i.core).fence = none ∧ laneBlocked s i.lane = false

/-- What no command of an engine changes: the queue, the HTB, what the supervisor holds of the module and its lanes. -/
def supFrame (s t : State) : Prop :=
  t.pending = s.pending ∧ t.now = s.now ∧ t.sup.phase = s.sup.phase ∧ t.sup.modMode = s.sup.modMode ∧
    t.sup.power = s.sup.power ∧ t.sup.laneMode = s.sup.laneMode ∧ t.sup.active = s.sup.active ∧
    t.sup.takeover = s.sup.takeover ∧ t.sup.rejoin = s.sup.rejoin ∧ t.sup.engOwner = s.sup.engOwner ∧
    t.sup.engEpoch = s.sup.engEpoch ∧ (∀ l, (t.lane l).live = (s.lane l).live ∧ (t.lane l).ready = (s.lane l).ready ∧
      (t.lane l).struck = (s.lane l).struck ∧ (t.lane l).epoch = (s.lane l).epoch)

/-- The parts of the state that a command may be said to leave alone. -/
inductive Part where
  | seqs | hardflt | ringDrop | dram | dq | tim | ang | recd | pcl | cam | fus | bus | eth | hst | hsi | fab | pnl | sec | cfg | pwr | out
  | free | mism | regs | cores | events | lmem | sram | shdrop | dog | hy | entries | lpe | sels | levels | strs
  deriving DecidableEq, Repr

/-- A core but for its event queue and that queue's counts (R88, R93). -/
def Core.bare (c : Core) : Core := { c with evq := [], lost := 0, ovf := false }

/-- A part of the state holds in `t` what it holds in `s`: registers and cores read the same, the rest is the same. -/
def Part.same (s t : State) : Part → Prop
  | .seqs => t.seqs = s.seqs
  | .hardflt => t.hardflt = s.hardflt
  | .ringDrop => t.ringDrop = s.ringDrop
  | .dram => t.dram = s.dram
  | .dq => t.dq = s.dq
  | .tim => t.tim = s.tim
  | .ang => t.ang = s.ang
  | .recd => t.recd = s.recd
  | .pcl => t.pcl = s.pcl
  | .cam => t.cam = s.cam
  | .fus => t.fus = s.fus
  | .bus => t.bus = s.bus
  | .eth => t.eth = s.eth
  | .hst => t.hst = s.hst
  | .hsi => t.hsi = s.hsi
  | .fab => t.fab = s.fab
  | .pnl => t.pnl = s.pnl
  | .sec => t.sec = s.sec
  | .cfg => t.cfg = s.cfg
  | .pwr => t.pwr = s.pwr
  | .out => t.out = s.out
  | .free => t.freeCtr = s.freeCtr
  | .mism => t.sup.miscnt = s.sup.miscnt ∧ t.sup.misWord = s.sup.misWord ∧ t.sup.misSeq = s.sup.misSeq
  | .regs => ∀ l a, rget t l a = rget s l a
  | .cores => ∀ l c, (t.core l c).bare = (s.core l c).bare
  | .events => ∀ l c, (t.core l c).evq = (s.core l c).evq ∧ (t.core l c).lost = (s.core l c).lost ∧
      (t.core l c).ovf = (s.core l c).ovf
  | .lmem => ∀ l, (t.lane l).lmem = (s.lane l).lmem
  | .sram => ∀ l, (t.lane l).sram = (s.lane l).sram
  | .shdrop => ∀ l, (t.lane l).shdrop = (s.lane l).shdrop
  | .dog => ∀ l, (t.lane l).wdEnd = (s.lane l).wdEnd ∧ (t.lane l).wdHalf = (s.lane l).wdHalf
  | .hy => ∀ l, (t.lane l).hy = (s.lane l).hy
  | .entries => ∀ l, (t.lane l).entries = (s.lane l).entries
  | .lpe => ∀ l, (t.lane l).lpe = (s.lane l).lpe
  | .sels => ∀ l, (t.lane l).sels = (s.lane l).sels
  | .levels => ∀ l, (t.lane l).levels = (s.lane l).levels
  | .strs => ∀ l, (t.lane l).strs = (s.lane l).strs

/-- Only the listed parts may change. -/
def only (ps : List Part) (s t : State) : Prop := ∀ p, p ∉ ps → p.same s t

/-- Only the registers at the listed addresses may change. -/
def regsBut (as : List Nat) (s t : State) : Prop := ∀ l a, a ∉ as → rget t l a = rget s l a

/-- A command ends in a next state of which `P` holds. -/
def Ends (i : Instr) (s : State) (P : State → Prop) : Prop := ∃ t, exec i s = .next t ∧ P t

/-- The same for a command that leaves what `supFrame` names and every part but the listed ones. -/
def EndsIn (ps : List Part) (i : Instr) (s : State) (P : State → Prop) : Prop :=
  ∃ t, exec i s = .next t ∧ supFrame s t ∧ only ps s t ∧ P t

/-- A lane may command a shared engine: it owns the engines (R13, R33), the engine has no hard fault (R27), and the module is
neither off nor parked. -/
def engineReady (s : State) (l : LaneId) (b : Block) : Prop := s.dark = false ∧ s.owns l = true ∧ s.faulty b = false

/-! ### Postings and rings -/

/-- A posting of a shared engine, when its CTRL.EVEN is 1, has reached the core of CTRL.EVCORE in both lanes (R20, R89); no other
core changed. -/
def posted (s t : State) (b : Block) (code data : Nat) : Prop := ∀ l c, t.core l c =
  if sfld s b 0 0 0 = 1 ∧ c = sfld s b 0 10 8 then (s.core l c).post ⟨3, code, b.arg, data % 2 ^ 32, false⟩ else s.core l c

/-- GiB 0 of DRAM holds the bytes `bs` from address `a` on and is otherwise unchanged; the other GiB are unchanged. The memory is
read and written in its canonical form. -/
def dramTook (s t : State) (a : Nat) (bs : List Byte) : Prop :=
  (∀ g, g ≠ 0 → t.gib g = s.gib g) ∧ ((s.gib 0).wf = true → dramRead t 0 a bs.length = bs ∧
    ∀ x, (x < a ∨ a + bs.length ≤ x) → mread (t.gib 0) x = mread (s.gib 0) x)

/-- The ring whose registers stand at `r` has taken a record of `esz` bytes from requester `n`, or dropped it when SIZE − 1 records
were unread (R255); while the fabric holds the requester the record waits behind the earlier ones (R476, R477). `mk` forms the
record from "one was dropped just before". -/
def ringTook (s t : State) (n r esz : Nat) (mk : Bool → List Byte) : Prop :=
  let size := rfld s .a (r + 4) 16 0
  let wp := rfld s .a (r + 8) 15 0
  let unread := (wp + size - rfld s .a (r + 0xC) 15 0 % size) % size
  let stays : Prop := t.dram = s.dram ∧ rget t .a (r + 8) = rget s .a (r + 8)
  (ringHeld s n = true → stays ∧ ∃ w, t.dq.wait = s.dq.wait ++ [w] ∧ w.rq = n ∧ w.ring = r ∧ w.esz = esz ∧
    w.fresh = mk false ∧ w.after = mk true) ∧
  (ringHeld s n = false → size = 0 → stays) ∧
  (ringHeld s n = false → size ≠ 0 → unread + 1 < size →
    dramTook s t (rget s .a r + esz * wp) (mk (tget s.ringDrop r)) ∧
    rget t .a (r + 8) = (wp + 1) % size ∧ tget t.ringDrop r = false ∧ rget t .a (r + 0x14) = rget s .a (r + 0x14)) ∧
  (ringHeld s n = false → size ≠ 0 → size ≤ unread + 1 → stays ∧ tget t.ringDrop r = true ∧
    rget t .a (r + 0x14) = min (rget s .a (r + 0x14) + 1) (2 ^ 32 - 1))

/-- A command on a shared engine is rejected: its lane's CMDERR of the block shows the reason (R14, R15), all else stays. -/
def Rejects (b : Block) (l : LaneId) (r : Nat) (i : Instr) (s : State) : Prop :=
  EndsIn [.regs] i s fun t => regsBut [b.base + 0xC] s t ∧ nfld (rget t l (b.base + 0xC)) 7 0 = r ∧
    nbit (rget t l (b.base + 0xC)) 31 = true ∧
    nfld (rget t l (b.base + 0xC)) 23 16 = min (nfld (rget s l (b.base + 0xC)) 23 16 + 1) 255

/-- Every memory of the module is in its canonical form. -/
def MemInv (s : State) : Prop :=
  (∀ g, (s.gib g).wf = true) ∧ ∀ l : LaneId, (s.lane l).sram.wf = true ∧ ∀ c, (tget (s.lane l).lmem c).wf = true

/-! ### The cores -/

/-- The state after an instruction of `len` bytes that changed its own core by `g`: the registers it uses were settled first (R77),
and the program counter stands behind it. -/
def State.ran (s : State) (i : Issue) (uses : List VReg) (len : Nat) (g : Core → Core) : State :=
  s.modCore i.lane i.core fun c => (g (c.settle (uses.map Fin.val))).advance len

/-- The core of an instruction once the registers it uses are settled (R77). -/
def State.at (s : State) (i : Issue) (uses : List VReg) : Core := (s.core i.lane i.core).settle (uses.map Fin.val)

/-- The word of an instruction in the R format (spec/02 "Formats"), from its guard down. -/
def rWord (i : Issue) (op : BitVec 6) (d a b : VReg) (f : BitVec 7) : Word :=
  BitVec.ofNat 3 i.g ++ BitVec.ofBool i.n ++ op ++ BitVec.ofNat 5 d ++ BitVec.ofNat 5 a ++ BitVec.ofNat 5 b ++ f

/-- A core in its trap handler (R82): earlier loads have returned; TPC, TCAUSE, TVAL and ST.TRAP tell of the trap; the core goes on
at TVEC. -/
def Core.trapped (c : Core) (code : Nat) (tval : Word) : Core :=
  { c.settleAll with
    tpc := c.pc, tcause := BitVec.ofNat 32 code, tval := tval, trap := true, pc := c.tvec &&& 0xFFFFFFFC }

/-- A core that a second trap halts (R83). -/
def Core.halted (c : Core) : Core := { c.settleAll with run := .halted }

/-- The load instructions: constructor, size, extension of the bytes to a word (R72). -/
def loadForms : List ((Issue → VReg → VReg → BitVec 12 → Instr) × Nat × (Nat → Word)) :=
  [(.ldb, 1, fun v => (BitVec.ofNat 8 v).signExtend 32), (.ldbu, 1, fun v => (BitVec.ofNat 8 v).setWidth 32),
   (.ldh, 2, fun v => (BitVec.ofNat 16 v).signExtend 32), (.ldhu, 2, fun v => (BitVec.ofNat 16 v).setWidth 32),
   (.ldw, 4, fun v => BitVec.ofNat 32 v)]

/-- The store instructions: constructor, size (R72). -/
def storeForms : List ((Issue → VReg → VReg → BitVec 12 → Instr) × Nat) := [(.stb, 1), (.sth, 2), (.stw, 4)]

/-- The effective address of a load or store (R72). -/
def effAddr (c : Core) (a : VReg) (k : BitVec 12) : Nat := (c.getV a + k.signExtend 32).toNat

/-- An address outside every region of the lane address map (R43, R73). -/
def unmappedAddr (a : Nat) : Prop :=
  (0x00100000 ≤ a ∧ a < 0x01000000) ∨ (0x01800000 ≤ a ∧ a < 0x40000000) ∨ (0x80000000 ≤ a ∧ a < 0xF0000000)

/-- A buffer that a system instruction may name (R114). -/
def goodBuffer (a n : Nat) : Prop := a % 4 = 0 ∧ (a + n ≤ 0x00100000 ∨ (0x01000000 ≤ a ∧ a + n ≤ 0x01800000))

/-- The rows of R81 and R114: an instruction at its issue, the registers it uses, the trap it raises and its TVAL. -/
inductive TrapCase (s : State) : Instr → Issue → List VReg → Nat → Word → Prop where
  | ill (i : Issue) (w : BitVec 22) :
      TrapCase s (.ill i w) i [] 1 (BitVec.ofNat 3 i.g ++ BitVec.ofBool i.n ++ (0 : BitVec 6) ++ w)
  | jr (i : Issue) (a : VReg) : ((s.at i [a]).getV a).toNat % 4 ≠ 0 → TrapCase s (.jr i a) i [a] 2 ((s.at i [a]).getV a)
  | jlr (i : Issue) (a : VReg) : ((s.at i [a, 31]).getV a).toNat % 4 ≠ 0 →
      TrapCase s (.jlr i a) i [a, 31] 2 ((s.at i [a, 31]).getV a)
  | rtt (i : Issue) : (s.at i []).tpc.toNat % 4 ≠ 0 → TrapCase s (.rtt i) i [] 2 (s.at i []).tpc
  | loadUnmapped (mk : Issue → VReg → VReg → BitVec 12 → Instr) (n : Nat) (e : Nat → Word) (i : Issue) (d a : VReg) (k : BitVec 12) :
      (mk, n, e) ∈ loadForms → unmappedAddr (effAddr (s.at i [d, a]) a k) →
      TrapCase s (mk i d a k) i [d, a] 3 (BitVec.ofNat 32 (effAddr (s.at i [d, a]) a k))
  | loadMisaligned (mk : Issue → VReg → VReg → BitVec 12 → Instr) (n : Nat) (e : Nat → Word) (i : Issue) (d a : VReg)
      (k : BitVec 12) :
      (mk, n, e) ∈ loadForms → ¬ unmappedAddr (effAddr (s.at i [d, a]) a k) → effAddr (s.at i [d, a]) a k % n ≠ 0 →
      (0xF0000000 ≤ effAddr (s.at i [d, a]) a k ∨ (s.at i [d, a]).algn = true) →
      TrapCase s (mk i d a k) i [d, a] 2 (BitVec.ofNat 32 (effAddr (s.at i [d, a]) a k))
  | storeUnmapped (mk : Issue → VReg → VReg → BitVec 12 → Instr) (n : Nat) (i : Issue) (v a : VReg) (k : BitVec 12) :
      (mk, n) ∈ storeForms → unmappedAddr (effAddr (s.at i [v, a]) a k) →
      TrapCase s (mk i v a k) i [v, a] 3 (BitVec.ofNat 32 (effAddr (s.at i [v, a]) a k))
  | storeNarrow (mk : Issue → VReg → VReg → BitVec 12 → Instr) (n : Nat) (i : Issue) (v a : VReg) (k : BitVec 12) :
      (mk, n) ∈ storeForms → n ≠ 4 → 0xF0000000 ≤ effAddr (s.at i [v, a]) a k → effAddr (s.at i [v, a]) a k < 0xF0C00000 →
      TrapCase s (mk i v a k) i [v, a] 3 (BitVec.ofNat 32 (effAddr (s.at i [v, a]) a k))
  | storeMisaligned (mk : Issue → VReg → VReg → BitVec 12 → Instr) (n : Nat) (i : Issue) (v a : VReg) (k : BitVec 12) :
      (mk, n) ∈ storeForms → ¬ unmappedAddr (effAddr (s.at i [v, a]) a k) → effAddr (s.at i [v, a]) a k % n ≠ 0 →
      (effAddr (s.at i [v, a]) a k < 0xF0000000 → (s.at i [v, a]).algn = true) →
      (n = 4 ∨ effAddr (s.at i [v, a]) a k < 0xF0000000 ∨ 0xF0C00000 ≤ effAddr (s.at i [v, a]) a k) →
      TrapCase s (mk i v a k) i [v, a] 2 (BitVec.ofNat 32 (effAddr (s.at i [v, a]) a k))
  | take (i : Issue) (d : VReg) : d.val % 2 = 1 → TrapCase s (.take i d) i [d, d + 1] 0x11 (rWord i 0x31 d 0 0 0)
  | waita (i : Issue) (d a b : VReg) : ((s.at i [d, a, b]).getV b).extractLsb' 24 4 ≠ 0 →
      TrapCase s (.waita i d a b) i [d, a, b] 0x11 (rWord i 0x30 d a b 1)
  | waitae (i : Issue) (d a b : VReg) : ((s.at i [d, a, b]).getV b).extractLsb' 24 4 ≠ 0 →
      TrapCase s (.waitae i d a b) i [d, a, b] 0x11 (rWord i 0x30 d a b 2)
  | jput (i : Issue) (d a : VReg) : ¬ goodBuffer ((s.at i [d, a]).getV a).toNat 32 →
      TrapCase s (.jput i d a) i [d, a] 0x10 ((s.at i [d, a]).getV a)
  | jputPayload (i : Issue) (d a : VReg) : (s.core i.lane i.core).stores = [] → goodBuffer ((s.at i [d, a]).getV a).toNat 32 →
      leAt (readBytes s i.lane i.core ((s.at i [d, a]).getV a).toNat 32) 2 2 ≤ 1408 →
      ¬ goodBuffer ((s.at i [d, a]).getV a).toNat (32 + leAt (readBytes s i.lane i.core ((s.at i [d, a]).getV a).toNat 32) 2 2) →
      TrapCase s (.jput i d a) i [d, a] 0x10 ((s.at i [d, a]).getV a)
  | jtakeStream (i : Issue) (d a b : VReg) : 1024 ≤ ((s.at i [d, a, b]).getV a).toNat →
      TrapCase s (.jtake i d a b) i [d, a, b] 0x11 (rWord i 0x32 d a b 1)
  | jtakeBuffer (i : Issue) (d a b : VReg) : ((s.at i [d, a, b]).getV a).toNat < 1024 →
      ¬ goodBuffer ((s.at i [d, a, b]).getV b).toNat 1440 → TrapCase s (.jtake i d a b) i [d, a, b] 0x10 ((s.at i [d, a, b]).getV b)
  | jdone (i : Issue) (d a b : VReg) : 1024 ≤ ((s.at i [d, a, b]).getV a).toNat →
      TrapCase s (.jdone i d a b) i [d, a, b] 0x11 (rWord i 0x32 d a b 2)
  | lcswapContext (i : Issue) (d a b : VReg) : 512 ≤ ((s.at i [d, a, b]).getV a).toNat →
      TrapCase s (.lcswap i d a b) i [d, a, b] 0x11 (rWord i 0x33 d a b 0)
  | lcswapImage (i : Issue) (d a b : VReg) : ((s.at i [d, a, b]).getV a).toNat < 512 →
      ¬ goodBuffer ((s.at i [d, a, b]).getV b).toNat 256 → TrapCase s (.lcswap i d a b) i [d, a, b] 0x10 ((s.at i [d, a, b]).getV b)

/-! ### Commands to the shared engines -/

/-- The commands of a lane that write a register of a shared engine (R13): the lane, the engine, the offset of the register. -/
def ownedCommand : Instr → Option (LaneId × Block × Nat)
  | .fnCtgtWrite l n _ => some (l, .hsi, 0x1000 + 0x40 * n)
  | .fnTtgtWrite l n _ => some (l, .hsi, 0x1004 + 0x40 * n)
  | .fnLimWrite l n _ => some (l, .hsi, 0x1008 + 0x40 * n)
  | .fnRateWrite l n _ => some (l, .hsi, 0x100C + 0x40 * n)
  | .fnCtlWrite l n _ => some (l, .hsi, 0x1018 + 0x40 * n)
  | .fnBindWrite l n false _ => some (l, .hsi, 0x101C + 0x40 * n)
  | .fnBindWrite l n true _ => some (l, .hsi, 0x1020 + 0x40 * n)
  | .loadcp l _ => some (l, .hsi, 8)
  | .fixCommit l _ => some (l, .pcl, 0x30)
  | .qualSubmit l _ => some (l, .pcl, 0x58)
  | .pclFlush l | .yread l => some (l, .pcl, 8)
  | .pclRun l _ => some (l, .pcl, 0)
  | .i2cTransaction l n _ => some (l, .cam, clOff n 0x10)
  | .camTrig l _ | .pwron l _ | .pwroff l _ | .camCommit l _ => some (l, .cam, 8)
  | .vpBind l n _ => some (l, .cam, vpOff n 8)
  | .vpRun l n _ => some (l, .cam, vpOff n 0)
  | .fusInject l _ | .outnow l | .fusTest l | .fusEndtest l | .fusReinit l => some (l, .fus, 8)
  | .fusRun l _ => some (l, .fus, 0)
  | .recover l _ | .canMode l _ _ | .txreq l _ _ | .txcancel l _ _ => some (l, .can, 8)
  | .linStart l _ _ | .linSwitch l _ _ | .linStop l _ | .linSleep l _ | .linWakeup l _ => some (l, .lin, 8)
  | .serTxd l n _ => some (l, .ser, 0x108 + 0x40 * n)
  | .txRingDoorbell l q _ => some (l, .eth, 0x908 + 0x10 * q)
  | .flushfdb l => some (l, .eth, 8)
  | .trackerCommit l i _ => some (l, .tim, 0x114 + 0x40 * i)
  | .timSwitch l _ | .forcefree l => some (l, .tim, 8)
  | .weightWrite l n _ => some (l, .fab, 0x100 + 0x20 * n)
  | .weightHold l _ | .fabricFreeze l _ => some (l, .fab, 0)
  | .pwcmd l _ _ => some (l, .recd, 0x128)
  | .recFlush l | .recFreeze l | .thaw l | .recRead l | .recNonce l | .recClear l => some (l, .recd, 8)
  | .panelUpdate l _ _ _ | .panelDischarge l | .recheck l => some (l, .pnl, 8)
  | .cfgWrite l => some (l, .cfg, 8)
  | .sensorSupplyRestart l _ => some (l, .pwr, 0x5C)
  | _ => none

end Sys2Proof.Machine
end

