-- ==== Sys2Proof/WellFormed.lean ====
section
/-! DEFINITION. The operands that a command of the table can carry: what no bus, link or pin can deliver is ill-formed. Meanings
answer for ill-formed commands too; nothing rests on their answer. -/

namespace Sys2Proof

/-- The payload lengths of a CAN FD frame (spec/12, the classic and FD formats). -/
def canFdLength (n : Nat) : Bool :=
  decide (n ≤ 8) || n == 12 || n == 16 || n == 20 || n == 24 || n == 32 || n == 48 || n == 64

/-- A CAN frame (spec/12): an 11-bit identifier without IDE, a remote frame without FDF and without data, a length that its
format has, as many bytes as it says. -/
def canFrameOk (id : BitVec 29) (ide rtr fdf brs esi : Bool) (len n : Nat) : Bool :=
  (ide || decide (id.toNat < 2048)) && !(rtr && fdf) && n == (if rtr then 0 else len) &&
    (if fdf then canFdLength len else decide (len ≤ 8) && !brs && !esi)

/-- Whether a command's operands are operands of it. -/
def Instr.wellFormed : Instr → Bool
  | .canReceive _ id ide rtr fdf brs esi len bs _ => canFrameOk id ide rtr fdf brs esi len.val bs.length
  | .linResponse _ bs _ => decide (bs.length ≤ 9)
  | .linWake _ len => decide (Machine.us 150 ≤ len ∧ len ≤ Machine.ms 5)
  | .linePacket _ _ _ px _ _ => decide (px.length ≤ 65535)
  | .ethReceive _ bs _ _ => decide (0 < bs.length)
  | _ => true

end Sys2Proof
end

