-- ==== Sys2Proof/Certificates/Slice0/Obligations.lean ====
section
/-! DEFINITION. The statements about the model, for the provers. Each says in its comment what of the spec it states; what rests on a
choice of the model names the log entry. -/

open Sys2Proof Sys2Proof.Machine

/-- With command c at the front of the queue, a step is exec of c on the state with the rest of the queue (log entry 1: the
model's own queue); with an empty queue a step is one tick of the HTB (log entry 2). -/
def Obligations.StepRunsTheFrontCommand : Prop :=
  ∀ (s : State) (c : Instr) (rest : List Instr), (s.pending = c :: rest → step s = exec c { s with pending := rest }) ∧
    (s.pending = [] → step s = .next (tick s))

/-- On an empty queue (log entry 2: the tick is the model's own) the HTB count rises by exactly one while the module has power
(R123). On a module that is not parked each extrapolated halyard takes its update (R136), the local clock advances (R419), and
nothing else of the state changes: no register, sequencer, output stage, engine, core, memory, lane or supervisor field. A
switch of the clock that a cycle's command left to its end (R425, R426) may change TIM's registers and post; what waited for the
DRAM (R476) goes on and may change memory, rings and their postings, and only these; uncorrectable errors that were met act at
the tick (R466) and are shut out here. While the module is parked only the HTB and the free-running clock move (R550); a module
that is off does not change. -/
def Obligations.IdleTickMovesClocks : Prop :=
  ∀ s : State, s.pending = [] → ∃ t, step s = .next t ∧ (s.sup.phase = .off → t = s) ∧
    (s.sup.phase = .parked →
      t = { s with now := s.now + 1, tim := { s.tim with count := ((s.tim.count : Int) + s.tim.addend).toNat } }) ∧
    (s.sup.phase ≠ .off → s.sup.phase ≠ .parked → s.dq.met = [] → t.pending = [] ∧ t.now = s.now + 1 ∧
      (∀ l : LaneId, ∀ n < 16, t.hy l n = if extrapolates (hySrc s l n) = true then
        hyUpdate (rfld s l (hyReg n 0x14) 3 0) (s.now + 1) (s.hy l n) else s.hy l n) ∧
      (s.dq.wait = [] → s.dq.frames = [] → s.tim.forced = false →
        t = { s with now := s.now + 1, tim := t.tim, laneA := { s.laneA with hy := t.laneA.hy }, laneB := { s.laneB with hy := t.laneB.hy } }) ∧
      (s.dq.wait = [] → s.dq.frames = [] → only [.events, .hy, .regs, .tim] s t ∧ t.sup = { s.sup with mseq := t.sup.mseq }) ∧
      only [.bus, .cam, .dq, .dram, .events, .hy, .regs, .ringDrop, .tim] s t ∧ t.sup = { s.sup with mseq := t.sup.mseq } ∧
      ∀ l : LaneId, (t.lane l).live = (s.lane l).live ∧ (t.lane l).ready = (s.lane l).ready ∧ (t.lane l).struck = (s.lane l).struck ∧
        (t.lane l).epoch = (s.lane l).epoch ∧ (t.lane l).beat = (s.lane l).beat)

/-- At reset the module is off, its queue is empty, the HTB is 0, every register of the map reads the reset value of its row,
every core reads 0 in each value register and accumulator, p0 reads 1 and p1 to p7 read 0 (R51, R52), ST reads 4 and WINBASE 2
(R79), every sequencer holds for 1 ms (R50), no lane is healthy. Reset values of the map that are spelled out: PNL GEOM, TLIM0
and HUBUDGET (R515), REC FRZTMO (R496), SYS CMDERR 0. -/
def Obligations.ResetLeavesTheSpecsValues : Prop :=
  let r := State.reset
  r.sup.phase = .off ∧ r.pending = [] ∧ r.now = 0 ∧ r.laneA.live = false ∧ r.laneB.live = false ∧
  (∀ l a, rget r l a = resetAt a) ∧
  (∀ l c, let x := r.core l c
    x.run = .stopped ∧ (∀ n, x.getV n = 0) ∧ (∀ n, x.getA n = 0) ∧ (∀ n, x.pred n = decide (n = 0)) ∧ x.st = 4 ∧ x.preds = 1 ∧
    x.winbase = 2 ∧ x.waittmo = 0 ∧ x.evq = [] ∧ x.evqstat = 0) ∧
  (∀ n, (r.seq n).hold = 100 ∧ (r.seq n).holdUntil = none) ∧
  (∀ l a, mread (tget (r.lane l).lmem a) a = 0) ∧ resetAt 0xF0980010 = 0x01800280 ∧ resetAt 0xF098002C = 0x0F0A0500 ∧
  resetAt 0xF098001C = 100 ∧ resetAt 0xF090003C = 60 ∧ resetAt 0xF000000C = 0

/-- For every command and every state: the next state has the queue that the state had (log entry 1). -/
def Obligations.QueueUntouched : Prop :=
  ∀ (i : Instr) (s t : State), exec i s = .next t → t.pending = s.pending

/-- LaneInv (R33, R37, R38, R40) and MemInv, the canonical form of every memory (addresses rising, no byte listed that an
unlisted address reads as: the model's own form, log entry 3), hold of State.reset. -/
def Obligations.InvariantsAtReset : Prop :=
  LaneInv State.reset ∧ MemInv State.reset

/-- For every state whose memories (core-local memories, lane SRAM, the GiBs of DRAM; R43, R44, R45) are in the model's
canonical form, and every step, be it a command of any family or a tick, all memories are in it afterwards. The form is the
model's own (log entry 3); the statements on what a memory holds after a write rest on it. -/
def Obligations.MemoriesStayCanonical : Prop :=
  ∀ s t : State, MemInv s → step s = .next t → MemInv t

/-- For every state in which the rules of the lane pair hold (no healthy lane while the lanes stand still, no lane healthy and
struck, a takeover due only in DUAL and from the active lane, a rejoin only in REJOIN and of the other lane, which is not
healthy; R33, R37, R38, R40, R537), and every step of the machine, be it a command of any family or a tick, they hold
afterwards. -/
def Obligations.LaneInvKept : Prop :=
  ∀ s t : State, LaneInv s → step s = .next t → LaneInv t

/-- R556: a command that is not a core's, on a module that stays powered and takes no cold start, advances MSEQ by one, modulo
256, exactly when a field of MODEWORD below it differs between the state before and the state after. -/
def Obligations.MseqCountsModeChanges : Prop :=
  ∀ (i : Instr) (s t : State), i.ofCore = false → exec i s = .next t → t.sup.phase ≠ .off → t.recd.pcyc = s.recd.pcyc →
    s.sup.mseq < 256 →
    (modeFields s = modeFields t → t.sup.mseq = s.sup.mseq) ∧
    (modeFields s ≠ modeFields t → t.sup.mseq = (s.sup.mseq + 1) % 256)

/-- R527: while the module is off no command but POWER_ON changes anything: its cores are stopped and its engines have no supply
(stated for the commands that are not a core's, in every state whose phase is off). -/
def Obligations.OffModuleIgnoresCommands : Prop :=
  ∀ (i : Instr) (s : State), s.sup.phase = .off → i.ofCore = false → (∀ t, i ≠ .powerOn t) → exec i s = .next s

/-- R19, R33, R547: of all commands, only those of the supervisor (lane failures and rejoin, ownership, starts, module mode,
supply, and a core's write of register space) and of a core can change which lane is active, the lane mode, the lanes' epochs
and health, the ownership of the engines, the module mode, the power state, the HTB. -/
def Obligations.EnginesLeaveTheSupervisor : Prop :=
  ∀ (i : Instr) (s : State), i.ofCore = false → i.ofSupervisor = false → ∃ t, exec i s = .next t ∧ supFrame s t

/-- R13, R14, R17: for every command that writes a register of a shared engine, from the lane that does not own the engines, the
only effect is the record of the rejection in that lane's CMDERR of the block: CMD_REJECT set, REJ_COUNT one more (to 255),
REJ_OFFSET bits [9:2] of the offset, REJ_REASON 3. -/
def Obligations.NotOwnerIsRejected : Prop :=
  ∀ (i : Instr) (s : State) (l : LaneId) (b : Block) (off : Nat), ownedCommand i = some (l, b, off) → s.dark = false →
    s.owns l = false → EndsIn [.regs] i s fun t => regsBut [b.base + 0xC] s t ∧
      rget t l (b.base + 0xC) =
        (2 ^ 31 + min (nfld (rget s l (b.base + 0xC)) 23 16 + 1) 255 * 2 ^ 16 + off / 4 % 256 * 2 ^ 8 + 3) % 2 ^ 32 ∧
      rget t l.other (b.base + 0xC) = rget s l.other (b.base + 0xC)

/-- R27: for every command that writes a register of a shared engine with a hard fault, from the owning lane, the only effect is
the record of the rejection with reason 5 in CMDERR. -/
def Obligations.FaultyEngineIsBusy : Prop :=
  ∀ (i : Instr) (s : State) (l : LaneId) (b : Block) (off : Nat), ownedCommand i = some (l, b, off) → s.dark = false →
    s.owns l = true → s.faulty b = true → EndsIn [.regs] i s fun t => regsBut [b.base + 0xC] s t ∧
      nbit (rget t l (b.base + 0xC)) 31 = true ∧ nfld (rget t l (b.base + 0xC)) 7 0 = 5 ∧
      nfld (rget t l (b.base + 0xC)) 15 8 = off / 4 % 256

/-- R5, R6, R9, R12 to R17, R496: a write of a register without an effect of its own, in a block of the lane or in an engine
that it owns, completes: RW and RWL fields take what is written when no locked RWL field would change and every field is in
range; else RWL fields stay, RW fields too on RANGE, and CMDERR tells LOCKED or RANGE; W1C and W1S act in each case; RO and RC
fields and all bits outside the fields stay. From the lane that does not own the engine, or after its hard fault, CMDERR alone
tells of it. CMDERR itself takes a write from either lane. An offset without a register ignores writes and reads. BLOCK_LOCK
sets the bit of every block. READ_CLEAR clears the RC fields of a register, and no others. A read of the low half of a pair
latches the high half for the reading lane. -/
def Obligations.GenericRegisters : Prop :=
  (∀ (s : State) (l : LaneId) (c : Fin 8) (a : BitVec 24) (v : Word) (b : Block) (off : Nat) (d : RegDesc), s.dark = false →
    regAddr a = b.base + off → b = blockOf (regAddr a) → b.descAt off = some d → off ≠ 0xC → regAddr a < 0xF0C00000 →
    blockWrite s l c b off v.toNat = none → (b = .sys → off ≠ 8 ∧ off ≠ 0x28 ∧ off ≠ 0x34) →
    let i := Instr.genericRegisterWrite l c a v
    let old := rget s l (regAddr a)
    let lock := isLocked s l b
    let locked : Prop := lock = true ∧ ∃ f ∈ d.fields, f.acc = .rwl ∧ f.get v.toNat ≠ f.get old
    let beyond : Prop := ∃ f ∈ d.fields, (f.acc = .rw ∨ f.acc = .rwl ∧ lock = false) ∧ f.ok v.toNat = false
    let takes (rw rwl : Bool) (t : State) : Prop := let new := rget t l (regAddr a)
      (∀ f ∈ d.fields, f.get new = if f.acc = .w1c then f.get old &&& (2 ^ (f.hi + 1 - f.lo) - 1 - f.get v.toNat)
        else if f.acc = .w1s then f.get old ||| f.get v.toNat
        else if f.acc = .rw ∧ rw = true ∨ f.acc = .rwl ∧ rwl = true then f.get v.toNat else f.get old) ∧
      ∀ k < 32, (∀ f ∈ d.fields, k < f.lo ∨ f.hi < k) → nbit new k = nbit old k
    let told (r : Nat) (t : State) : Prop := nfld (rget t l (b.base + 0xC)) 7 0 = r ∧
      nfld (rget t l (b.base + 0xC)) 15 8 = off / 4 % 256 ∧ nbit (rget t l (b.base + 0xC)) 31 = true
    ((b.perLane = true ∨ engineReady s l b) →
      (¬ locked → ¬ beyond → EndsIn [.regs] i s fun t => regsBut [regAddr a] s t ∧ takes true true t) ∧
      (locked → EndsIn [.regs] i s fun t => regsBut [regAddr a, b.base + 0xC] s t ∧ takes true false t ∧ told 2 t) ∧
      (¬ locked → beyond → EndsIn [.regs] i s fun t => regsBut [regAddr a, b.base + 0xC] s t ∧ takes false false t ∧ told 4 t)) ∧
    (b.perLane = false → s.owns l = false → EndsIn [.regs] i s fun t => regsBut [b.base + 0xC] s t ∧ told 3 t) ∧
    (b.perLane = false → s.owns l = true → s.faulty b = true → EndsIn [.regs] i s fun t =>
      regsBut [b.base + 0xC] s t ∧ told 5 t)) ∧
  (∀ (s : State) (l : LaneId) (c : Fin 8) (a : BitVec 24) (v : Word) (b : Block) (off : Nat),
    (0xF0C00000 ≤ regAddr a ∨ regAddr a = b.base + off ∧ b = blockOf (regAddr a) ∧ off ≠ 0xC ∧ b.descAt off = none) →
    (EndsIn [] (.genericRegisterWrite l c a v) s fun t => t.sup = s.sup) ∧ EndsIn [] (.readClear l c a) s fun t => t.sup = s.sup) ∧
  (∀ (s : State) (l : LaneId) (b : Block), s.dark = false →
    let e := b.base + 0xC
    let at_ (off : Nat) : BitVec 24 := BitVec.ofNat 24 (b.base - 0xF0000000 + off)
    ((b.perLane = true ∨ engineReady s l b) → Ends (.blockLock l b) s fun t => supFrame s t ∧ isLocked t l b = true) ∧
    (∀ (c : Fin 8) (v : Word), EndsIn [.regs] (.genericRegisterWrite l c (at_ 0xC) v) s fun t => regsBut [e] s t ∧
      rget t l.other e = rget s l.other e ∧ rget t l e % 2 ^ 31 = rget s l e % 2 ^ 31 ∧
      nbit (rget t l e) 31 = (nbit (rget s l e) 31 && !nbit v.toNat 31)) ∧
    ∀ c : Fin 8, EndsIn [.regs] (.readClear l c (at_ 0xC)) s fun t => regsBut [e] s t ∧ nfld (rget t l e) 23 16 = 0 ∧
      rget t l e % 65536 = rget s l e % 65536 ∧ nbit (rget t l e) 31 = nbit (rget s l e) 31 ∧
      rget t l.other e = rget s l.other e) ∧
  (∀ (s : State) (l : LaneId) (c : Fin 8) (a : BitVec 24) (b : Block) (off : Nat) (d : RegDesc), s.dark = false →
    regAddr a = b.base + off → b = blockOf (regAddr a) → b.descAt off = some d → off ≠ 0xC → regAddr a < 0xF0C00000 →
    blockRead s l c b off = none → EndsIn [.regs] (.readClear l c a) s fun t => regsBut [regAddr a] s t ∧
      ∀ f ∈ d.fields, f.get (rget t l (regAddr a)) = if f.acc = .rc then 0 else f.get (rget s l (regAddr a))) ∧
  (∀ (s : State) (l : LaneId) (c : Fin 8), s.dark = false →
    let pair (b : Block) (lo hi : Nat) (x y : Nat) : Prop :=
      (regRead s l c (b.base + lo)).1 = x ∧
      EndsIn [.regs] (.latchedPairRead l c (BitVec.ofNat 24 (b.base - 0xF0000000 + lo))) s fun t => regsBut [b.base + hi] s t ∧
        rget t l (b.base + hi) = y ∧ rget t l.other (b.base + hi) = rget s l.other (b.base + hi)
    let wide (b : Block) (lo v : Nat) : Prop := pair b lo (lo + 4) (v % 2 ^ 32) (v / 2 ^ 32 % 2 ^ 32)
    wide .recd 0x10 s.recd.seq ∧ wide .recd 0x18 s.recd.oldest ∧ wide .recd 0x20 s.recd.flushed ∧ wide .recd 0x28 s.recd.next ∧
    wide .cfg 0x18 s.cfg.seq ∧ wide .cfg 0x20 s.cfg.seqA ∧ wide .cfg 0x28 s.cfg.seqB ∧ wide .pcl 0xA0 s.pcl.yidx ∧
    wide .pcl 0xA8 s.pcl.yexp ∧ wide .hal 4 s.now ∧
    ∀ n : Fin 16, pair .hal (0x120 + 0x40 * n) (0x124 + 0x40 * n) (hyP s l n % 2 ^ 24) (hyP s l n / 2 ^ 24 % 2 ^ 32))

/-- R58 and R59: an ALU instruction that is ready completes; vD takes the result of its row of the table, computed as the row
says from the contents of vA and vB; ADDS, SUBS and ABS set ST.SAT when they clamp and no other function touches ST; nothing
else of the machine changes but the program counter and the registers that outstanding loads owed to the registers used. -/
def Obligations.AluResults : Prop :=
  ∀ (s : State) (i : Issue) (d a b : VReg), coreReady s i 4 →
    let R (mk : Issue → VReg → VReg → VReg → Instr) (f : Word → Word → Word) : Prop :=
      exec (mk i d a b) s = .next (s.ran i [a, b, d] 4 fun c => c.setV d (f (c.getV a) (c.getV b)))
    let U (mk : Issue → VReg → VReg → Instr) (f : Word → Word) : Prop :=
      exec (mk i d a) s = .next (s.ran i [a, d] 4 fun c => c.setV d (f (c.getV a)))
    let clamp (v : Int) : Int := max (-2147483648) (min 2147483647 v)
    let sat (c : Core) (v : Int) : Core :=
      { c.setV d (BitVec.ofInt 32 (clamp v)) with sat := c.sat || decide (v < -2147483648 ∨ 2147483647 < v) }
    R .add (fun x y => BitVec.ofNat 32 (x.toNat + y.toNat)) ∧ R .sub (fun x y => BitVec.ofInt 32 (x.toInt - y.toInt)) ∧
    R .and (fun x y => x &&& y) ∧ R .or (fun x y => x ||| y) ∧ R .xor (fun x y => x ^^^ y) ∧ R .andn (fun x y => x &&& ~~~y) ∧
    R .shl (fun x y => BitVec.ofNat 32 (x.toNat * 2 ^ (y.toNat % 32))) ∧
    R .shr (fun x y => BitVec.ofNat 32 (x.toNat / 2 ^ (y.toNat % 32))) ∧
    R .sar (fun x y => BitVec.ofInt 32 (x.toInt / 2 ^ (y.toNat % 32))) ∧
    R .ror (fun x y => x >>> (y.toNat % 32) ||| x <<< (32 - y.toNat % 32)) ∧
    R .min (fun x y => if y.toInt < x.toInt then y else x) ∧ R .max (fun x y => if x.toInt < y.toInt then y else x) ∧
    R .minu (fun x y => if y.toNat < x.toNat then y else x) ∧ R .maxu (fun x y => if x.toNat < y.toNat then y else x) ∧
    exec (.adds i d a b) s = .next (s.ran i [a, b, d] 4 fun c => sat c ((c.getV a).toInt + (c.getV b).toInt)) ∧
    exec (.subs i d a b) s = .next (s.ran i [a, b, d] 4 fun c => sat c ((c.getV a).toInt - (c.getV b).toInt)) ∧
    R .mul (fun x y => BitVec.ofInt 32 (x.toInt * y.toInt)) ∧
    R .mulh (fun x y => (BitVec.ofInt 64 (x.toInt * y.toInt)).extractLsb' 32 32) ∧
    R .mulhu (fun x y => (BitVec.ofNat 64 (x.toNat * y.toNat)).extractLsb' 32 32) ∧
    R .div (fun x y => if y = 0 then 0xFFFFFFFF else x.sdiv y) ∧ R .divu (fun x y => if y = 0 then 0xFFFFFFFF else x / y) ∧
    R .rem (fun x y => if y = 0 then x else x.srem y) ∧ R .remu (fun x y => if y = 0 then x else x % y) ∧
    U .clz (fun x => if x = 0 then 32 else BitVec.ofNat 32 (31 - x.toNat.log2)) ∧
    exec (.abs i d a) s = .next (s.ran i [a, d] 4 fun c => sat c (c.getV a).toInt.natAbs) ∧
    U .sextb (fun x => (x.setWidth 8).signExtend 32) ∧ U .sexth (fun x => (x.setWidth 16).signExtend 32)

/-- R60, R61: ADDI adds K sign-extended, ANDI, ORI and XORI use K zero-extended, SHI shifts by its five-bit amount, MOVL zero-
extends K, MOVH replaces the upper half and keeps the lower, MOVW writes its extension word and is 8 bytes long (R56); each
completes when it is ready and changes only vD and the program counter. -/
def Obligations.ImmediateResults : Prop :=
  ∀ (s : State) (i : Issue) (d a : VReg) (k : BitVec 12) (n : Fin 32) (h : BitVec 16) (w : Word),
    (coreReady s i 4 →
      let R (x : Instr) (f : Word → Word) : Prop := exec x s = .next (s.ran i [a, d] 4 fun c => c.setV d (f (c.getV a)))
      R (.addi i d a k) (fun x => BitVec.ofInt 32 (x.toInt + k.toInt)) ∧
      R (.andi i d a k) (fun x => BitVec.ofNat 32 (x.toNat &&& k.toNat)) ∧
      R (.ori i d a k) (fun x => BitVec.ofNat 32 (x.toNat ||| k.toNat)) ∧
      R (.xori i d a k) (fun x => BitVec.ofNat 32 (x.toNat ^^^ k.toNat)) ∧
      R (.shi i d a .shl n) (fun x => BitVec.ofNat 32 (x.toNat * 2 ^ n.val)) ∧
      R (.shi i d a .shr n) (fun x => BitVec.ofNat 32 (x.toNat / 2 ^ n.val)) ∧
      R (.shi i d a .sar n) (fun x => BitVec.ofInt 32 (x.toInt / 2 ^ n.val)) ∧
      R (.shi i d a .ror n) (fun x => x >>> n.val ||| x <<< (32 - n.val)) ∧
      exec (.movl i d h) s = .next (s.ran i [d] 4 fun c => c.setV d (BitVec.ofNat 32 h.toNat)) ∧
      exec (.movh i d h) s =
        .next (s.ran i [d] 4 fun c => c.setV d (BitVec.ofNat 32 (h.toNat * 65536 + (c.getV d).toNat % 65536)))) ∧
    (coreReady s i 8 → exec (.movw i d w) s = .next (s.ran i [d] 8 fun c => c.setV d w))

/-- R62, R63 and R51: CMP, CMPI (K sign-extended to 32 bits first) and PLOG write pPD with the value of their row; a write to p0
is discarded; nothing else changes but the program counter. -/
def Obligations.ComparePredicates : Prop :=
  ∀ (s : State) (i : Issue) (p pa pb : PReg) (a b : VReg) (k : BitVec 11), coreReady s i 4 →
    let write (c : Core) (v : Prop) [Decidable v] : Core := if p = 0 then c else { c with p := tset c.p p (decide v) }
    let P (c : Core) (n : PReg) : Prop := n = 0 ∨ tget c.p n = true
    let C (q : Cond) (f : Word → Word → Bool) : Prop :=
      exec (.cmp i p q a b) s = .next (s.ran i [a, b] 4 fun c => write c (f (c.getV a) (c.getV b) = true)) ∧
      exec (.cmpi i p q a k) s = .next (s.ran i [a] 4 fun c => write c (f (c.getV a) (k.signExtend 32) = true))
    let L (q : Pop) (f : Bool → Bool → Bool) : Prop :=
      exec (.plog i p pa pb q) s = .next (s.ran i [] 4 fun c => write c (f (c.pred pa) (c.pred pb) = true))
    C .eq (fun x y => decide (x = y)) ∧ C .ne (fun x y => decide (x ≠ y)) ∧ C .lt (fun x y => decide (x.toInt < y.toInt)) ∧
    C .ge (fun x y => decide (y.toInt ≤ x.toInt)) ∧ C .ltu (fun x y => decide (x.toNat < y.toNat)) ∧
    C .geu (fun x y => decide (y.toNat ≤ x.toNat)) ∧ C .bs (fun x y => decide (x &&& y ≠ 0)) ∧
    C .bc (fun x y => decide (x &&& y = 0)) ∧
    L .and (fun x y => x && y) ∧ L .or (fun x y => x || y) ∧ L .xor (fun x y => xor x y) ∧ L .andn (fun x y => x && !y) ∧
    L .orn (fun x y => x || !y) ∧ L .xnor (fun x y => !(xor x y)) ∧ L .set (fun _ _ => true) ∧ L .clr (fun _ _ => false) ∧
    (∀ c : Core, c.pred 0 = true) ∧ (∀ (c : Core) (n : PReg), c.pred n = true ↔ P c n)

/-- R67: each packed operation works on the high and the low halves independently, saturates each half to 16 bits where its row
says so and then sets ST.SAT once; the moves of halves set no flag; nothing else changes but the program counter. -/
def Obligations.PackedResults : Prop :=
  ∀ (s : State) (i : Issue) (d a b : VReg), coreReady s i 4 →
    let hi (w : Word) : Int := (w.extractLsb' 16 16).toInt
    let lo (w : Word) : Int := (w.extractLsb' 0 16).toInt
    let clamp (v : Int) : Int := max (-32768) (min 32767 v)
    let out (v : Int) : Prop := v < -32768 ∨ 32767 < v
    let pack (x y : Int) : Word := BitVec.ofInt 16 x ++ BitVec.ofInt 16 y
    let both (c : Core) (h l : Int) : Core :=
      { c.setV d (pack (clamp h) (clamp l)) with sat := c.sat || decide (out h ∨ out l) }
    let R (mk : Issue → VReg → VReg → VReg → Instr) (f : Int → Int → Int) : Prop :=
      exec (mk i d a b) s = .next (s.ran i [a, b, d] 4 fun c =>
        both c (f (hi (c.getV a)) (hi (c.getV b))) (f (lo (c.getV a)) (lo (c.getV b))))
    let U (mk : Issue → VReg → VReg → Instr) (f : Int → Int) : Prop :=
      exec (mk i d a) s = .next (s.ran i [a, d] 4 fun c => both c (f (hi (c.getV a))) (f (lo (c.getV a))))
    let M (mk : Issue → VReg → VReg → VReg → Instr) (f : Word → Word → Word) : Prop :=
      exec (mk i d a b) s = .next (s.ran i [a, b, d] 4 fun c => c.setV d (f (c.getV a) (c.getV b)))
    R .padd (fun x y => x + y) ∧ R .psub (fun x y => x - y) ∧ R .pmulr (fun x y => (x * y + 16384) / 32768) ∧
    U .pabs (fun x => (x.natAbs : Int)) ∧ U .pneg (fun x => -x) ∧ R .pmin (fun x y => min x y) ∧ R .pmax (fun x y => max x y) ∧
    R .pshra (fun x y => x / 2 ^ (y % 16).toNat) ∧ R .pshls (fun x y => x * 2 ^ (y % 16).toNat) ∧
    M .packll (fun x y => x.extractLsb' 0 16 ++ y.extractLsb' 0 16) ∧
    M .packhh (fun x y => x.extractLsb' 16 16 ++ y.extractLsb' 16 16) ∧
    M .packhl (fun x y => x.extractLsb' 16 16 ++ y.extractLsb' 0 16) ∧
    exec (.pswap i d a) s =
      .next (s.ran i [a, d] 4 fun c => c.setV d ((c.getV a).extractLsb' 0 16 ++ (c.getV a).extractLsb' 16 16))

/-- R64, R65, R66, R68: a MAC or MSU forms its result exactly from the accumulator and all its products and clamps once to 40
bits, setting ST.AOV when it clamps; MUL.LL, MUL2, ACLR, ACLDQ, ACSET and ACSAR write the accumulator and no flag; EXT rounds
half up, clamps to 16 bits, sets ST.SAT when it clamps and leaves the accumulator; ACRD and ACRH read it. -/
def Obligations.AccumulatorResults : Prop :=
  ∀ (s : State) (i : Issue) (n : Fin 4) (d a b : VReg) (k : Fin 8), coreReady s i 4 →
    let hi (w : Word) : Int := (w.extractLsb' 16 16).toInt
    let lo (w : Word) : Int := (w.extractLsb' 0 16).toInt
    let sat40 (c : Core) (v : Int) : Core :=
      { c.setA n (BitVec.ofInt 40 (max (-549755813888) (min 549755813887 v))) with
        aov := c.aov || decide (v < -549755813888 ∨ 549755813887 < v) }
    let M (mk : Issue → Fin 4 → VReg → VReg → Instr) (f : Int → Int → Int → Int → Int) : Prop :=
      exec (mk i n a b) s = .next (s.ran i [a, b] 4 fun c =>
        sat40 c ((c.getA n).toInt + f (hi (c.getV a)) (lo (c.getV a)) (hi (c.getV b)) (lo (c.getV b))))
    let W (x : Instr) (us : List VReg) (f : Core → BitVec 40) : Prop := exec x s = .next (s.ran i us 4 fun c => c.setA n (f c))
    M .macLl (fun _ al _ bl => al * bl) ∧ M .macLh (fun _ al bh _ => al * bh) ∧ M .macHl (fun ah _ _ bl => ah * bl) ∧
    M .macHh (fun ah _ bh _ => ah * bh) ∧ M .msuLl (fun _ al _ bl => -(al * bl)) ∧ M .msuLh (fun _ al bh _ => -(al * bh)) ∧
    M .msuHl (fun ah _ _ bl => -(ah * bl)) ∧ M .msuHh (fun ah _ bh _ => -(ah * bh)) ∧
    M .mac2 (fun ah al bh bl => al * bl + ah * bh) ∧ M .mac2x (fun ah al bh bl => al * bh + ah * bl) ∧
    M .msu2 (fun ah al bh bl => -(al * bl) - ah * bh) ∧
    W (.mulLl i n a b) [a, b] (fun c => BitVec.ofInt 40 (lo (c.getV a) * lo (c.getV b))) ∧
    W (.mul2 i n a b) [a, b] (fun c => BitVec.ofInt 40 (lo (c.getV a) * lo (c.getV b) + hi (c.getV a) * hi (c.getV b))) ∧
    W (.aclr i n) [] (fun _ => 0) ∧ W (.acldq i n a) [a] (fun c => BitVec.ofInt 40 (lo (c.getV a) * 32768)) ∧
    W (.acset i n a b) [a, b] (fun c => (c.getV b).setWidth 8 ++ c.getV a) ∧
    W (.acsar i n b) [b] (fun c => BitVec.ofInt 40 ((c.getA n).toInt / 2 ^ ((c.getV b).toNat % 32))) ∧
    exec (.ext i d n k) s = .next (s.ran i [d] 4 fun c =>
      let y : Int := ((c.getA n).toInt * 2 ^ k.val + 16384) / 32768
      { c.setV d (BitVec.ofInt 32 (max (-32768) (min 32767 y))) with sat := c.sat || decide (y < -32768 ∨ 32767 < y) }) ∧
    exec (.acrd i d n) s = .next (s.ran i [d] 4 fun c => c.setV d ((c.getA n).setWidth 32)) ∧
    exec (.acrh i d n) s = .next (s.ran i [d] 4 fun c => c.setV d (((c.getA n).extractLsb' 32 8).signExtend 32))

/-- R69, R70, R82: B and BL go to their own address plus 4 times the sign-extended offset, BL and JLR write the address of the
following instruction to v31, JLR reads vA before it writes v31, RTT goes to TPC and clears ST.TRAP whether or not it was set;
nothing else changes. -/
def Obligations.BranchesAndJumps : Prop :=
  ∀ (s : State) (i : Issue) (a : VReg) (k : BitVec 22), coreReady s i 4 →
    let goes (us : List VReg) (f : Core → Core) : State := s.modCore i.lane i.core fun c => f (c.settle (us.map Fin.val))
    exec (.b i k) s = .next (goes [] fun c => { c with pc := BitVec.ofInt 32 (c.pc.toInt + 4 * k.toInt) }) ∧
    exec (.bl i k) s =
      .next (goes [31] fun c => { c.setV 31 (c.pc + 4) with pc := BitVec.ofInt 32 (c.pc.toInt + 4 * k.toInt) }) ∧
    (((s.at i [a]).getV a).toNat % 4 = 0 → exec (.jr i a) s = .next (goes [a] fun c => { c with pc := c.getV a })) ∧
    (((s.at i [a, 31]).getV a).toNat % 4 = 0 →
      exec (.jlr i a) s = .next (goes [a, 31] fun c => { c.setV 31 (c.pc + 4) with pc := c.getV a })) ∧
    ((s.core i.lane i.core).tpc.toNat % 4 = 0 →
      exec (.rtt i) s = .next (goes [] fun c => { c with pc := c.tpc, trap := false }))

/-- R82: for every case of R71, R73, R74, R81 and R114 (ILL, misaligned jumps, unmapped, narrow and misaligned accesses, the
arguments of the system instructions), an instruction that is ready on a core with ST.TRAP = 0 completes with the trap entry as
its only effect: earlier loads returned, TPC, TCAUSE and TVAL written, ST.TRAP set, the core at TVEC; memory, registers and the
rest of the machine are as before. ILL (R57) always does so. Every instruction whose first word lies outside core-local memory
is a FETCH trap (R71) with TVAL its address, and one whose extension word alone does with TVAL that of the extension word: LEN 0
and 1 there are the model's choice (DESIGN CHOICE, stated at issue). The lane address map of R43 and the priority of R74 decide
the cause. -/
def Obligations.TrapEntry : Prop :=
  (∀ (s : State) (x : Instr) (i : Issue) (us : List VReg) (code : Nat) (tval : Word), TrapCase s x i us code tval → coreReady s i 4 →
    (s.core i.lane i.core).trap = false →
    exec x s = .next (s.modCore i.lane i.core fun c => (c.settle (us.map Fin.val)).trapped code tval)) ∧
  (∀ (s : State) (i : Issue) (w : BitVec 22), coreReady s i 4 → (s.core i.lane i.core).trap = false →
    exec (.ill i w) s = .next (s.modCore i.lane i.core fun c =>
      c.trapped 1 (BitVec.ofNat 3 i.g ++ BitVec.ofBool i.n ++ (0 : BitVec 6) ++ w))) ∧
  (∀ (s : State) (x : Instr) (i : Issue) (n : Nat), x.issued = some (i, n) → coreFree s i → (s.core i.lane i.core).trap = false →
    let pc := (s.core i.lane i.core).pc
    (0x100000 ≤ pc.toNat → exec x s = .next (s.modCore i.lane i.core fun c => c.trapped 4 pc)) ∧
    (pc.toNat = 0xFFFFC → n = 8 → exec x s = .next (s.modCore i.lane i.core fun c => c.trapped (2 ^ 31 + 4) (pc + 4))))

/-- R83, R91: in every case in which TrapEntry takes a trap, with ST.TRAP = 1 the core halts instead, its pc and trap registers
as they were, and CORE_HALTED (SRC 2, code 2, ARG the core, DATA the two causes) reaches the other seven cores of its lane. A
core that is halted, stopped or waiting issues no instruction. -/
def Obligations.SecondTrapHalts : Prop :=
  let halts (s : State) (x : Instr) (i : Issue) (code : Nat) : Prop := Ends x s fun t =>
      (t.core i.lane i.core).run = .halted ∧ (t.core i.lane i.core).pc = (s.core i.lane i.core).pc ∧
      (t.core i.lane i.core).tcause = (s.core i.lane i.core).tcause ∧ (t.core i.lane i.core).tpc = (s.core i.lane i.core).tpc ∧
      (t.core i.lane i.core).tval = (s.core i.lane i.core).tval ∧ (t.core i.lane i.core).trap = true ∧
      (∀ k : Fin 8, k ≠ i.core → t.core i.lane k = (s.core i.lane k).post
        ⟨2, 2, i.core, (s.core i.lane i.core).tcause.toNat % 256 * 256 + code, false⟩) ∧
      (∀ k, t.core i.lane.other k = s.core i.lane.other k) ∧ supFrame s t ∧ only [.cores, .events] s t
  (∀ (s : State) (x : Instr) (i : Issue) (us : List VReg) (code : Nat) (tval : Word), TrapCase s x i us code tval → coreReady s i 4 →
    (s.core i.lane i.core).trap = true → halts s x i code) ∧
  (∀ (s : State) (x : Instr) (i : Issue) (n : Nat), x.issued = some (i, n) →
    (coreFree s i → (s.core i.lane i.core).trap = true → 0x100000 < (s.core i.lane i.core).pc.toNat + n → halts s x i 4) ∧
    ((s.core i.lane i.core).run ≠ .running → exec x s = .next s))

/-- R53: whatever its opcode, reserved ones among them, an instruction whose guard is false and that is fetched from core-local
memory (R71) changes no register, predicate, accumulator or ST field, makes no access and raises no trap; the program counter
passes over it and its extension word (R56), and it waits for nothing. -/
def Obligations.GuardFalseOnlyPasses : Prop :=
  ∀ (s : State) (x : Instr) (i : Issue) (n : Nat), x.issued = some (i, n) → (s.core i.lane i.core).run = .running →
    (s.core i.lane i.core).fence = none → (s.core i.lane i.core).pc.toNat + n ≤ 0x100000 → (s.core i.lane i.core).guard i = false →
    exec x s = .next (s.modCore i.lane i.core fun c => { c with pc := c.pc + BitVec.ofNat 32 n })

/-- R79, R80, R96, R113: MFS writes the value of sN to vD, 0 for an unallocated one, and reading CYCLE latches its high half;
MTS completes earlier loads first and writes ST (not TRAP), TPC, TVEC (bits [1:0] 0), WINBASE, PREDS (not p0), WAITTMO and
EVQCTL.CLR, and leaves every read-only and unallocated register; nothing else changes but the program counter. That CYCLE counts
four cycles to a tick of the HTB is the model's reading of 1.0 GHz and 4 ns (log entry 21). An MTS to WINBASE first completes a
FENCE.E, as WIN does (R112). -/
def Obligations.SpecialRegisters : Prop :=
  ∀ (s : State) (i : Issue) (d a : VReg) (n : Fin 128), coreReady s i 4 →
    let R (m : Fin 128) (f : Core → Word) : Prop := exec (.mfs i d m) s = .next (s.ran i [d] 4 fun c => c.setV d (f c))
    let W (m : Fin 128) (f : Core → Word → Core) : Prop :=
      exec (.mts i a m) s = .next (s.modCore i.lane i.core fun c =>
        (f (c.settle [a.val]).settleAll ((c.settle [a.val]).settleAll.getV a)).advance 4)
    let b (x : Bool) : BitVec 1 := BitVec.ofBool x
    let cyc (c : Core) : Nat := 4 * (s.now - c.cycle0)
    R 0 (fun c => (0 : BitVec 28) ++ b c.trap ++ b c.algn ++ b c.aov ++ b c.sat) ∧ R 1 (fun c => c.tcause) ∧ R 2 (fun c => c.tpc) ∧
    R 3 (fun c => c.tval) ∧ R 4 (fun c => c.tvec) ∧
    R 5 (fun c => BitVec.ofNat 32
      (c.lost * 16777216 + (if c.ovf then 65536 else 0) + (c.evq.takeWhile fun e => !e.hidden).length)) ∧
    R 6 (fun _ => match i.lane with
      | .a => 0
      | .b => 1) ∧
    R 7 (fun _ => BitVec.ofNat 32 i.core) ∧
    exec (.mfs i d 8) s = .next (s.ran i [d] 4 fun c =>
      { c.setV d (BitVec.ofNat 32 (cyc c)) with cycleh := BitVec.ofNat 32 (cyc c / 4294967296) }) ∧
    R 9 (fun c => c.cycleh) ∧ R 10 (fun c => BitVec.ofNat 32 c.winbase) ∧
    R 11 (fun c => (0 : BitVec 24) ++ b (c.pred 7) ++ b (c.pred 6) ++ b (c.pred 5) ++ b (c.pred 4) ++ b (c.pred 3) ++ b (c.pred 2) ++
      b (c.pred 1) ++ b true) ∧
    R 32 (fun c => c.waittmo) ∧ R 33 (fun _ => 0) ∧ R 34 (fun c => c.startarg) ∧ R 35 (fun c => c.progend) ∧
    R 36 (fun c => BitVec.ofNat 32 c.startcnt) ∧
    ((12 ≤ n.val ∧ n.val ≤ 31 ∨ 37 ≤ n.val) → R n fun _ => 0) ∧
    W 0 (fun c w => { c with algn := w.getLsbD 2, aov := w.getLsbD 1, sat := w.getLsbD 0 }) ∧
    W 2 (fun c w => { c with tpc := w }) ∧ W 4 (fun c w => { c with tvec := w &&& 0xFFFFFFFC }) ∧
    ((s.core i.lane i.core).stores = [] → W 10 fun c w => { c with winbase := w.toNat % 4 }) ∧
    (let u := fenceE (s.modCore i.lane i.core fun x => (x.settle [a.val]).settleAll) i.lane i.core;
      u.lanesUp = s.lanesUp → exec (.mts i a 10) s = .next (u.modCore i.lane i.core fun c =>
        ({ c with winbase := (c.getV a).toNat % 4 }).advance 4)) ∧
    W 11 (fun c w => (List.range 8).foldl (fun c k => c.setPred k (w.getLsbD k)) c) ∧ W 32 (fun c w => { c with waittmo := w }) ∧
    W 33 (fun c w => if w.getLsbD 0 then { c with lost := 0, ovf := false } else c) ∧
    ((n.val = 1 ∨ n.val = 3 ∨ 5 ≤ n.val ∧ n.val ≤ 9 ∨ 12 ≤ n.val ∧ n.val ≤ 31 ∨ 34 ≤ n.val) → W n fun c _ => c)

/-- R72, R73, R75, R77, R6: a load that raises no trap becomes outstanding with the bytes it read at its place in program order,
extended as its row says: from memory when no buffered store of the core covers a byte of it, from the buffered store at its
place, 0 from reserved register space, from block registers one read of the containing register (both stated where no store to a
block register is buffered: such stores take effect first, STORE_DRAIN); with four loads outstanding the oldest returns first.
Nothing else changes but the program counter (and, for block registers, what reading the register does; for DRAM, that the lane
has met the uncorrectable errors of the beats it read, R466). A misaligned access to memory with ST.ALGN = 0 reads an open value
(R76, log entry 5). -/
def Obligations.LoadsRead : Prop :=
  ∀ (s : State) (i : Issue) (d a : VReg) (k : BitVec 12), coreReady s i 4 →
    ∀ f ∈ loadForms, let n := f.2.1
    let c := s.at i [d, a]
    let ea := effAddr c a k
    let room (x : Core) : Core := match x.loads with
      | l1 :: _ :: _ :: _ :: _ => x.settle1 l1.dst
      | _ => x
    let out (v : Nat) (m : Bool) (x : Core) : Core :=
      ({ room x with loads := (room x).loads ++ [PendLoad.mk d (f.2.2 v) m] }).advance 4
    let ends (v : Nat) (m : Bool) : Prop :=
      exec (f.1 i d a k) s = .next (s.modCore i.lane i.core fun x => out v m (x.settle [d.val, a.val]))
    let free : Prop := ∀ b ∈ c.stores, ∀ j < n, b.covers c.winbase (ea + j) = false
    (ea < 0x100000 → ea % n = 0 → free → ends (mreadLE (tget (s.lane i.lane).lmem i.core) ea n) false) ∧
    (0x1000000 ≤ ea → ea < 0x1800000 → ea % n = 0 → free → ends (mreadLE (s.lane i.lane).sram (ea - 0x1000000) n) false) ∧
    (0x40000000 ≤ ea → ea < 0x80000000 → ea % n = 0 → free → let g := windowGib i.lane c.winbase
      exec (f.1 i d a k) s = .next ({ s with dq := s.dq.meet (.lane i.lane) g (ea - 0x40000000) n }.modCore i.lane i.core fun x =>
        out (mreadLE (s.gib g) (ea - 0x40000000) n) true (x.settle [d.val, a.val]))) ∧
    ((ea < 0x100000 ∨ 0x1000000 ≤ ea ∧ ea < 0x1800000) → ea % n = 0 → ∀ q b, c.stores = q ++ [b] → b.addr = ea → b.size = n →
      ends (b.data % 256 ^ n) false) ∧
    ((ea < 0x100000 ∨ 0x1000000 ≤ ea ∧ ea < 0x1800000 ∨ 0x40000000 ≤ ea ∧ ea < 0x80000000) → ea % n ≠ 0 → c.algn = false →
      exec (f.1 i d a k) s = .next ({ s with freeCtr := s.freeCtr + 1 }.modCore i.lane i.core fun x =>
        out ((Config.freeWord s.freeCtr).toNat % 256 ^ n) (decide (0x40000000 ≤ ea)) (x.settle [d.val, a.val]))) ∧
    (0xF0C00000 ≤ ea → ea % n = 0 → (∀ b ∈ c.stores, b.isReg = false) → ends 0 false) ∧
    (0xF0000000 ≤ ea → ea < 0xF0C00000 → ea % n = 0 → (∀ b ∈ c.stores, b.isReg = false) →
      let s' := s.modCore i.lane i.core fun x => x.settle [d.val, a.val]
      let r := regRead s' i.lane i.core (ea / 4 * 4)
      exec (f.1 i d a k) s =
        .next ((keep s' r.2).modCore i.lane i.core (out (r.1 / 256 ^ (ea % 4) % 256 ^ n) false)))

/-- R72, R73, R77: a store that raises no trap enters the store buffer with its address, size, the low bytes of vD and the
window in force, and changes no memory yet; with eight entries the oldest takes effect first. A misaligned store with ST.ALGN =
0 carries open bytes (R76, log entry 5). -/
def Obligations.StoresBuffer : Prop :=
  ∀ (s : State) (i : Issue) (v a : VReg) (k : BitVec 12), coreReady s i 4 →
    ∀ f ∈ storeForms, let n := f.2
    let c := s.at i [v, a]
    let ea := effAddr c a k
    let data : Nat := (c.getV v).toNat % 256 ^ n
    let put (x : Nat) (y : Core) : Core := ({ y with stores := y.stores ++ [BufStore.mk ea n x y.winbase] }).advance 4
    let place : Prop := ea < 0x100000 ∨ 0x1000000 ≤ ea ∧ ea < 0x1800000 ∨ 0x40000000 ≤ ea ∧ ea < 0x80000000 ∨
      0xF0000000 ≤ ea ∧ ea < 0xF0C00000 ∧ n = 4 ∨ 0xF0C00000 ≤ ea
    (place → ea % n = 0 → c.stores.length < 8 →
      exec (f.1 i v a k) s = .next (s.modCore i.lane i.core fun y => put data (y.settle [v.val, a.val]))) ∧
    ((ea < 0x100000 ∨ 0x1000000 ≤ ea ∧ ea < 0x1800000 ∨ 0x40000000 ≤ ea ∧ ea < 0x80000000) → ea % n ≠ 0 → c.algn = false →
      c.stores.length < 8 → exec (f.1 i v a k) s = .next ({ s with freeCtr := s.freeCtr + 1 }.modCore i.lane i.core fun y =>
        put ((Config.freeWord s.freeCtr).toNat % 256 ^ n) (y.settle [v.val, a.val]))) ∧
    (place → ea % n = 0 → ∀ b q, c.stores = b :: q → 7 ≤ q.length → (regionOf b.addr = .own ∨ regionOf b.addr = .sram) →
      exec (f.1 i v a k) s = .next ((applyStore (s.modCore i.lane i.core fun y => { y.settle [v.val, a.val] with stores := q })
        i.lane i.core b).modCore i.lane i.core (put data)))

/-- R77, R78, R109, R43, R45, R46: the oldest outstanding load of a register returns into it; the buffered store at a place that
no earlier one of its region precedes leaves the buffer and takes effect: in core-local memory, lane SRAM or the lane's own
private GiB exactly its bytes change, a store into the peer's GiB changes nothing, a shadow lane's store into an engine area
only counts in SHDROP, a store to reserved register space changes nothing. Every other byte of memory is as before. -/
def Obligations.LoadReturnsStoreDrains : Prop :=
  (∀ (s : State) (l : LaneId) (c : Fin 8) (d : VReg) (p : PendLoad), (s.core l c).loads.find? (fun p => p.dst == d.val) = some p →
    laneBlocked s l = false → exec (.loadReturn l c d) s = .next (s.modCore l c fun x =>
      { x.setV d p.value with loads := x.loads.filter fun q => q.dst != d.val })) ∧
  (∀ (s : State) (l : LaneId) (c k : Fin 8) (b : BufStore), (s.core l c).stores[k.val]? = some b →
    (∀ e ∈ (s.core l c).stores.take k, regionOf e.addr ≠ regionOf b.addr) → laneBlocked s l = false →
    let u := s.modCore l c fun x => { x with stores := x.stores.eraseIdx k }
    let wrote (m m' : Memory) (at_ : Nat) : Prop := mreadLE m' at_ b.size = b.data % 256 ^ b.size ∧
      (∀ x, x < at_ ∨ at_ + b.size ≤ x → mread m' x = mread m x) ∧ m'.wf = true
    let gone (t : State) : Prop := t.core l c = u.core l c ∧ supFrame s t
    (b.addr < 0x100000 → Memory.wf (tget (s.lane l).lmem c) = true → Ends (.storeDrain l c k) s fun t => gone t ∧
      only [.cores, .lmem] s t ∧ wrote (tget (s.lane l).lmem c) (tget (t.lane l).lmem c) b.addr ∧
      ∀ m n, (m ≠ l ∨ n ≠ c.val) → tget (t.lane m).lmem n = tget (s.lane m).lmem n) ∧
    (0x1000000 ≤ b.addr → b.addr < 0x1800000 → (s.lane l).sram.wf = true → Ends (.storeDrain l c k) s fun t => gone t ∧
      only [.cores, .sram] s t ∧ wrote (s.lane l).sram (t.lane l).sram (b.addr - 0x1000000) ∧
      (t.lane l.other).sram = (s.lane l.other).sram) ∧
    (0x40000000 ≤ b.addr → b.addr < 0x80000000 → b.win % 4 = 2 → (s.gib (2 + l.num)).wf = true →
      Ends (.storeDrain l c k) s fun t => gone t ∧ only [.cores, .dram, .dq] s t ∧
        wrote (s.gib (2 + l.num)) (t.gib (2 + l.num)) (b.addr - 0x40000000) ∧ ∀ g, g ≠ 2 + l.num → t.gib g = s.gib g) ∧
    ((0x40000000 ≤ b.addr ∧ b.addr < 0x80000000 ∧ b.win % 4 = 3 ∨ 0xF0C00000 ≤ b.addr) → exec (.storeDrain l c k) s = .next u) ∧
    (0x40000000 ≤ b.addr → b.addr < 0x80000000 → b.win % 4 < 2 → s.sup.active ≠ l → Ends (.storeDrain l c k) s fun t => gone t ∧
      only [.cores, .shdrop] s t ∧ (t.lane l).shdrop = min ((s.lane l).shdrop + 1) 4294967295))

/-- R97 to R101: a wait that is ready ends at once with NOSYNC (4), PASSED (1) or EVENT (2), in that order, or suspends the
core, its time limit WAITTMO ns of the HTB rounded up to ticks (log entry 21), the program counter behind it; WAIT_END resumes a
waiting core with NOSYNC, REACHED (0) or EVENT when one applies; WAIT_TIMEOUT resumes it with TIMEOUT (3) at its deadline when
none of them does. A position has been reached by the rule of R98. -/
def Obligations.WaitsOfCores : Prop :=
  let passed (s : State) (l : LaneId) (q : Nat × Nat) : Prop := (hyP s l q.1 + 2 ^ 56 - q.2 % 2 ^ 56) % 2 ^ 56 < 2 ^ 55
  let entry (c : Core) : Prop := ∃ e r, c.evq = e :: r ∧ e.hidden = false
  (∀ (s : State) (i : Issue) (d a b : VReg), coreReady s i 4 →
    let go (us : List VReg) (o : Word) : State := s.ran i us 4 fun c => c.setV d o
    let sleep (us : List VReg) (q : Option (Nat × Nat)) (ev : Bool) : State := s.ran i us 4 fun c =>
      { c with run := .waiting, wait := some ⟨d, q, ev,
        if c.waittmo = 0 then none else some (s.now + (c.waittmo.toNat + 3) / 4)⟩ }
    let c := s.at i [d, a, b]
    let q : Nat × Nat := (((c.getV b).extractLsb' 28 4).toNat, (c.getV a).toNat * 2 ^ 24 + ((c.getV b).extractLsb' 0 24).toNat)
    (entry (s.core i.lane i.core) → exec (.waite i d) s = .next (go [d] 2)) ∧
    (¬ entry (s.core i.lane i.core) → exec (.waite i d) s = .next (sleep [d] none true)) ∧
    ((c.getV b).extractLsb' 24 4 = 0 →
      (inSync s i.lane q.1 = false → exec (.waita i d a b) s = .next (go [d, a, b] 4) ∧
        exec (.waitae i d a b) s = .next (go [d, a, b] 4)) ∧
      (inSync s i.lane q.1 = true → passed s i.lane q → exec (.waita i d a b) s = .next (go [d, a, b] 1) ∧
        exec (.waitae i d a b) s = .next (go [d, a, b] 1)) ∧
      (inSync s i.lane q.1 = true → ¬ passed s i.lane q → exec (.waita i d a b) s = .next (sleep [d, a, b] (some q) false) ∧
        (entry (s.core i.lane i.core) → exec (.waitae i d a b) s = .next (go [d, a, b] 2)) ∧
        (¬ entry (s.core i.lane i.core) → exec (.waitae i d a b) s = .next (sleep [d, a, b] (some q) true))))) ∧
  (∀ (s : State) (l : LaneId) (c : Fin 8) (w : WaitInfo), (s.core l c).run = .waiting → (s.core l c).wait = some w →
    let up (o : Nat) : Host.Outcome State Fault Refusal := .next (s.modCore l c fun x =>
      { x.setV w.dst (BitVec.ofNat 32 o) with run := .running, wait := none })
    (∀ q, w.target = some q → inSync s l q.1 = false → exec (.waitEnd l c) s = up 4) ∧
    (∀ q, w.target = some q → inSync s l q.1 = true → passed s l q → exec (.waitEnd l c) s = up 0) ∧
    (∀ q, w.target = some q → inSync s l q.1 = true → ¬ passed s l q → w.event = true → entry (s.core l c) →
      exec (.waitEnd l c) s = up 2) ∧
    (w.target = none → w.event = true → entry (s.core l c) → exec (.waitEnd l c) s = up 2) ∧
    (∀ x, w.deadline = some x → x ≤ s.now → (w.event = false ∨ ¬ entry (s.core l c)) →
      (∀ q, w.target = some q → inSync s l q.1 = true ∧ ¬ passed s l q) → exec (.waitTimeout l c) s = up 3))

/-- R88 to R96: TAKE with an even D removes the oldest visible entry and writes its words, or 0 to both registers; POST (stores
of the core first, R110) places a CORE entry that is not visible yet and answers 0, 1 (63 entries) or 2 (target not running);
POST_VISIBLE shows the oldest hidden entry; a hardware posting enters when there is room (the 64th slot for LANE postings only),
else LOST and OVF tell of it, and so it does at a stopped or halted core; a mirrored source reaches the same core of both lanes,
a LANE posting the one lane; EVQCTL.CLR clears LOST and OVF. -/
def Obligations.EventQueues : Prop :=
  (∀ (s : State) (i : Issue) (d a b : VReg), coreReady s i 4 →
    let c := s.core i.lane i.core
    (d.val % 2 = 0 → (∀ e q, c.evq = e :: q → e.hidden = false → exec (.take i d) s = .next (s.ran i [d, d + 1] 4 fun x =>
        { (x.setV d (BitVec.ofNat 32 (2 ^ 31 + e.src * 2 ^ 24 + e.code * 2 ^ 16 + e.arg))).setV (d + 1) (BitVec.ofNat 32 e.data) with
          evq := q })) ∧
      ((∀ e q, c.evq = e :: q → e.hidden = true) →
        exec (.take i d) s = .next (s.ran i [d, d + 1] 4 fun x => (x.setV d 0).setV (d + 1) 0))) ∧
    (let u := fenceL (s.modCore i.lane i.core fun x => x.settle [d.val, a.val, b.val]) i.lane i.core
      let va := ((u.core i.lane i.core).getV a).toNat
      let y := u.core i.lane (va % 8)
      let done (s : State) (v : Word) : State := s.modCore i.lane i.core fun x => (x.setV d v).advance 4
      u.lanesUp = s.lanesUp →
      ((y.run = .stopped ∨ y.run = .halted) → exec (.post i d a b) s = .next (done u 2)) ∧
      ((y.run = .running ∨ y.run = .waiting) → 63 ≤ y.evq.length → exec (.post i d a b) s = .next (done u 1)) ∧
      ((y.run = .running ∨ y.run = .waiting) → y.evq.length < 63 → exec (.post i d a b) s =
        .next (done (u.modCore i.lane (va % 8) fun x => { x with evq := x.evq ++
          [⟨0, va / 2 ^ 24, i.lane.num * 256 + i.core, ((u.core i.lane i.core).getV b).toNat, true⟩] }) 0)))) ∧
  (∀ (s : State) (l : LaneId) (c : Fin 8) (p q : List EvEntry) (e : EvEntry), (s.core l c).evq = p ++ e :: q →
    (∀ x ∈ p, x.hidden = false) → e.hidden = true →
    exec (.postVisible l c) s = .next (s.modCore l c fun x => { x with evq := p ++ { e with hidden := false } :: q })) ∧
  (∀ (s : State) (l : LaneId) (c : Fin 8) (k : Fin 7) (code : BitVec 8) (arg : BitVec 16) (data : Word),
    let e : EvEntry := ⟨k, code.toNat, arg.toNat, data.toNat, false⟩
    let got (x y : Core) : Prop :=
      if x.run = .stopped ∨ x.run = .halted ∨ (if k.val = 2 then 64 else 63) ≤ x.evq.length then
        y = { x with lost := min (x.lost + 1) 255, ovf := true }
      else y = { x with evq := x.evq ++ [e] }
    (k.val ≠ 0 → Ends (.eventPosting l c k code arg data) s fun t => supFrame s t ∧ only [.events] s t ∧
      got (s.core l c) (t.core l c) ∧ (k.val ≠ 2 → got (s.core l.other c) (t.core l.other c)) ∧
      (k.val = 2 → t.core l.other c = s.core l.other c) ∧ ∀ m n, n ≠ c.val → t.core m n = s.core m n) ∧
    ((s.core l c).run = .running →
      exec (.evqClear l c) s = .next (s.modCore l c fun x => { x with lost := 0, ovf := false })))

/-- R110, R112, R120 case 1, R121: a fence with nothing outstanding that it waits for completes and the core goes on; else it
lets nothing issue until FENCE_COMPLETE, which returns the loads and lets exactly the stores it waits for take effect, one after
the other in the order that R78 and R109 ask for: a FENCE.E all of them in program order; a FENCE.L those to the lane's own
memories and per-lane blocks, before the latter every earlier store to a register block. For buffers of memory stores the bytes
are stated: every byte stored, nothing else. WIN completes a FENCE.E, returns the old WINBASE and sets the new one; a reserved
encoding completes with its effect open: every register of the core that instructions write holds an open value and an open
number of word stores is made (the model's form of case 1, log entry 5). -/
def Obligations.FencesAndWindow : Prop :=
  (∀ (s : State) (i : Issue) (d a : VReg) (x : Bool),
    (coreReady s i 4 →
      let c := s.core i.lane i.core
      (c.loads = [] → (∀ b ∈ c.stores, b.isLane = false) → exec (.fenceL i) s = .next (s.ran i [] 4 fun c => c)) ∧
      (c.loads = [] → c.stores = [] → exec (.fenceE i) s = .next (s.ran i [] 4 fun c => c)) ∧
      ((c.loads ≠ [] ∨ ∃ b ∈ c.stores, b.isLane = true) →
        exec (.fenceL i) s = .next (s.ran i [] 4 fun c => { c with fence := some .lane })) ∧
      ((c.loads ≠ [] ∨ c.stores ≠ []) → exec (.fenceE i) s = .next (s.ran i [] 4 fun c => { c with fence := some .engine })) ∧
      (let u := fenceE (s.modCore i.lane i.core fun x => x.settle [d.val, a.val]) i.lane i.core;
        u.lanesUp = s.lanesUp → exec (.win i d a) s = .next (u.modCore i.lane i.core fun c =>
          ({ c.setV d (BitVec.ofNat 32 c.winbase) with winbase := (c.getV a).toNat % 4 }).advance 4))) ∧
    (coreReady s i (if x then 8 else 4) →
      let z := fenceE { s with freeCtr := s.freeCtr + 100 } i.lane i.core
      let r := reservedStores (z.modCore i.lane i.core (reservedCore s.freeCtr)) i.lane i.core s.freeCtr
      exec (.reservedEncoding (i, x)) s =
        .next { (if s.lanesUp && !r.lanesUp then r.modCore i.lane i.core Core.still else r) with pending := s.pending })) ∧
  (∀ (s : State) (l : LaneId) (c : Fin 8), laneBlocked s l = false →
    let x := s.core l c
    let put (m : Memory) (b : BufStore) : Memory := mwriteLE m b.addr b.size b.data
    let putAt (k : Nat) (m : Memory) (b : BufStore) : Memory := mwriteLE m (b.addr - k) b.size b.data
    let own := x.stores.filter fun b => decide (b.addr < 0x100000)
    let sram := x.stores.filter fun b => decide (0x1000000 ≤ b.addr ∧ b.addr < 0x1800000)
    let far := x.stores.filter fun b => decide (0x40000000 ≤ b.addr)
    let done (t : State) : Prop := (t.core l c).fence = none ∧ (t.core l c).loads = [] ∧ supFrame s t ∧
      tget (t.lane l).lmem c = own.foldl put (tget (s.lane l).lmem c) ∧ (t.lane l).sram = sram.foldl (putAt 0x1000000) (s.lane l).sram ∧
      (∀ n, n ≠ c.val → tget (t.lane l).lmem n = tget (s.lane l).lmem n) ∧ (t.lane l.other).sram = (s.lane l.other).sram
    ((∀ b ∈ x.stores, b.addr < 0x100000 ∨ 0x1000000 ≤ b.addr ∧ b.addr < 0x1800000 ∨
        0x40000000 ≤ b.addr ∧ b.addr < 0x80000000 ∧ b.win % 4 = 2) →
      (x.fence = some .lane → Ends (.fenceComplete l c) s fun t => done t ∧ (t.core l c).stores = far ∧
        only [.cores, .lmem, .sram] s t) ∧
      (x.fence = some .engine → Ends (.fenceComplete l c) s fun t => done t ∧ (t.core l c).stores = [] ∧
        only [.cores, .lmem, .sram, .dram, .dq] s t ∧
        t.gib (2 + l.num) = far.foldl (putAt 0x40000000) (s.gib (2 + l.num)))) ∧
    (x.loads = [] → (x.fence = some .lane ∧ (∀ b ∈ x.stores, b.isLane = false) ∨ x.fence = some .engine ∧ x.stores = []) →
      exec (.fenceComplete l c) s = .next (s.modCore l c fun x => { x with fence := none })) ∧
    (x.loads = [] → ∀ p b q, x.stores = p ++ b :: q →
      let u := applyStore (s.modCore l c fun y => { y with stores := p ++ q }) l c b
      (u.core l c).stores = p ++ q → (u.core l c).loads = [] → (u.core l c).fence = x.fence → laneBlocked u l = false →
      (x.fence = some .engine ∧ p = [] ∨ x.fence = some .lane ∧ (∀ e ∈ p, e.isLane = false) ∧ b.isLane = true ∧
          (b.isReg = true → ∀ e ∈ p, e.isReg = false) ∨
        x.fence = some .lane ∧ b.isReg = true ∧ b.isLane = false ∧ (∀ e ∈ p, e.isLane = false ∧ e.isReg = false) ∧
          (∃ m r n, q = m ++ r :: n ∧ r.isLane = true ∧ r.isReg = true ∧ ∀ e ∈ m, e.isLane = false)) →
      exec (.fenceComplete l c) s = exec (.fenceComplete l c) u))

/-- R102, R103, R104, R106, R111: with buffers that raise no trap, JPUT answers 3, 2 or 1 and sends nothing, or assigns the next
sequence number, queues the job and answers 0; the active lane's job leaves as a message of its stream (R105); JTAKE answers
0xFFFFFFFF to a core that is not the taker, 0 when no accepted job waits that its unit executes here (R42), else the length of
the oldest one, which is written to the buffer and marked taken; JDONE answers 0 and removes the oldest taken job when its
number is named, 1 for a younger taken one, 2 otherwise, and for the unit of a lane or a core both lanes' journals take the
mark; LCSWAP puts the image in the shadow half and answers 0, or 1 when one was waiting; into an OFF context it answers 2 and
nothing waits. Stated for a core with no buffered stores. -/
def Obligations.StreamInstructions : Prop :=
  ∀ (s : State) (i : Issue) (d a b : VReg), coreReady s i 4 → (s.core i.lane i.core).stores = [] →
    let l := i.lane
    let at_ (us : List VReg) : State := (s.modCore l i.core fun x => (x.settle (us.map Fin.val)).settleAll)
    let ans (s : State) (v : Word) : State := s.modCore l i.core fun x => (x.setV d v).advance 4
    let va := ((s.at i [d, a, b]).getV a).toNat
    let vb := ((s.at i [d, a, b]).getV b).toNat
    let u := at_ [d, a, b]
    (let p := ((s.at i [d, a]).getV a).toNat
      let w := at_ [d, a]
      let h := readBytes w l i.core p 32
      let len := leAt h 2 2
      let n := leAt h 12 2 % 1024
      let x := s.str l n
      goodBuffer p 32 →
      (1408 < len → exec (.jput i d a) s = .next (ans w 3)) ∧
      (len ≤ 1408 → goodBuffer p (32 + len) →
        (¬ (nbit (strGet s n 0) 31 = true ∧ x.st = .opened) → exec (.jput i d a) s = .next (ans w 2)) ∧
        (nbit (strGet s n 0) 31 = true → x.st = .opened → nfld (strGet s n 0) 23 16 ≤ x.sent.length →
          exec (.jput i d a) s = .next (ans w 1)) ∧
        (nbit (strGet s n 0) 31 = true → x.st = .opened → x.sent.length < nfld (strGet s n 0) 23 16 →
          Ends (.jput i d a) s fun t => supFrame s t ∧ only [.cores, .strs, .hst, .lmem, .sram] s t ∧ (t.core l i.core).getV d = 0 ∧
            (MemInv s → readBytes t l i.core (p + 16) 4 = leBytes 4 ((x.seqA + 1) % 2 ^ 32)) ∧
            ((l ≠ s.sup.active ∨ x.refused.isSome = true) → t.hst = s.hst) ∧
            (l = s.sup.active → x.refused = none → nfld (strGet s n 0) 30 29 = 0 → s.faulty .eth = false →
              ∃ j, (t.str l n).sent.getLast? = some j ∧ t.hst = { s.hst with out := s.hst.out ++
                [⟨.udp (sfld s .hst 0x14 31 31 == 1) (unitIp s (sfld s .hst 0x14 31 31 == 1) j.dest) (sfld s .hst 0x14 15 0),
                  jobBytes j⟩] }) ∧
            (t.str l n).seqA = (x.seqA + 1) % 2 ^ 32 ∧ (t.str l n).sent.length = x.sent.length + 1 ∧
            (∀ m, m ≠ n → t.str l m = s.str l m) ∧ (∀ m, t.str l.other m = s.str l.other m) ∧
            ∀ j, (t.str l n).sent.getLast? = some j → j.seq = (x.seqA + 1) % 2 ^ 32 ∧ j.stream = n ∧
              j.body = readBytes w l i.core (p + 32) len))) ∧
    (va < 1024 → goodBuffer vb 1440 →
      let x := s.str l va
      (nfld (strGet s va 0) 28 26 ≠ i.core → exec (.jtake i d a b) s = .next (ans u 0xFFFFFFFF)) ∧
      (nfld (strGet s va 0) 28 26 = i.core → unitCore (strGet s va 4) l i.core = true →
        (x.jobs.all (fun j => j.2) = true → exec (.jtake i d a b) s = .next (ans u 0)) ∧
        (∀ p j q, x.jobs = p ++ (j, false) :: q → p.all (fun j => j.2) = true → Ends (.jtake i d a b) s fun t =>
          supFrame s t ∧ only [.cores, .strs, .lmem, .sram] s t ∧ (t.core l i.core).getV d = BitVec.ofNat 32 (32 + j.body.length) ∧
            (MemInv s → j.body.length ≤ 1408 → readBytes t l i.core vb (32 + j.body.length) = jobBytes j) ∧
            (t.str l va).jobs = p ++ (j, true) :: q ∧ ∀ m, m ≠ va → t.str l m = s.str l m)) ∧
      (nfld (strGet s va 0) 28 26 = i.core → unitCore (strGet s va 4) l i.core = false → exec (.jtake i d a b) s = .next (ans u 0))) ∧
    (va < 1024 →
      let x := s.str l va
      let taken := x.jobs.filter fun j => j.2
      let w := s.modCore l i.core fun y => y.settle [d.val, a.val, b.val]
      (∀ j q, taken = j :: q → j.1.seq = vb → Ends (.jdone i d a b) s fun t => supFrame s t ∧ only [.cores, .strs, .hst] s t ∧
        (t.core l i.core).getV d = 0 ∧ (t.str l va).jobs.length + 1 = x.jobs.length ∧
        ((t.str l va).seqB = if j.1.session = x.session then vb else x.seqB) ∧
        (unitKind (strGet s va 4) < 2 → ∀ k : LaneId, (t.str k va).jobs =
          (s.str k va).jobs.eraseP fun y => y.1.seq == vb && y.1.session == j.1.session) ∧
        (2 ≤ unitKind (strGet s va 4) → t.str l.other va = s.str l.other va) ∧ ∀ m, m ≠ va → t.str l m = s.str l m) ∧
      (∀ j q, taken = j :: q → j.1.seq ≠ vb → (∃ k ∈ q, k.1.seq = vb) → exec (.jdone i d a b) s = .next (ans w 1)) ∧
      ((∀ k ∈ taken, k.1.seq ≠ vb) → exec (.jdone i d a b) s = .next (ans w 2))) ∧
    (va < 512 → goodBuffer vb 256 → lcState s l va ≠ 0 → Ends (.lcswap i d a b) s fun t => supFrame s t ∧
      only [.cores, .regs] s t ∧ (t.core l i.core).getV d = (if rbit s l (lcReg va) 5 then 1 else 0) ∧
      rbit t l (lcReg va) 5 = true ∧ (∀ k < 64, rget t l (lcShadow va k) =
        memRead u l i.core (vb + 4 * k) 4 0 &&& Machine.wordBits (nfld (memRead u l i.core vb 4 0) 3 0) k) ∧
      (∀ k < 64, rget t l (lcLive va k) = rget s l (lcLive va k))) ∧
    (va < 512 → goodBuffer vb 256 → lcState s l va = 0 → Ends (.lcswap i d a b) s fun t => supFrame s t ∧
      (t.core l i.core).getV d = 2 ∧ rbit t l (lcReg va) 5 = false)

/-- R22, R34, R38, R39, R466: while the lanes run, LOCKSTEP_MISMATCH, JOURNAL_WRITE_FAIL, WATCHDOG_EXPIRY when its count is
over, LANE_SUPPLY_FAIL, FAIL_SELF when another lane is live, and an uncorrectable error of a lane's own memories or of the DRAM
take a healthy lane down with the cause of R22; the failure of the only live lane leads to a warm start (cause 5, unless HOLD-UP
awaits that of a supply return), the active lane's loss to a takeover, for which the other lane raises its epoch, the shadow's
to SINGLE of the active lane, whose running cores get PEER_LOST (stated where the recorder has room, so that it posts nothing).
Ownership, module mode, power, the other lane, and everything outside the recorder, registers, queues and watchdogs stay. -/
def Obligations.LaneFailures : Prop :=
  ∀ (s : State) (l : LaneId), s.lanesUp = true → (s.lane l).live = true →
    let twice : Prop := (s.lane l.other).live = false ∨ s.sup.laneMode = .single l ∨ ∃ k, s.sup.takeover = some k ∧ k.lane ≠ l
    let lost : Prop := s.sup.laneMode = .single l.other ∨ s.sup.takeover ≠ none
    let fails (i : Instr) (cause : Nat) (ps : List Part := []) : Prop := Ends i s fun t =>
      only ([.recd, .regs, .events, .dog] ++ ps) s t ∧ t.pending = s.pending ∧ t.now = s.now ∧ t.sup.phase = s.sup.phase ∧
      t.sup.modMode = s.sup.modMode ∧ t.sup.power = s.sup.power ∧ t.sup.active = s.sup.active ∧
      t.sup.engOwner = s.sup.engOwner ∧ t.sup.engEpoch = s.sup.engEpoch ∧
      (t.lane l).live = false ∧ (t.lane l).wdEnd = none ∧ (t.lane l.other).live = (s.lane l.other).live ∧
      (∀ k, (t.lane k).struck = (s.lane k).struck) ∧ (t.lane l).epoch = (s.lane l).epoch ∧
      (twice ∨ lost ∨ l ≠ s.sup.active → (t.lane l.other).epoch = (s.lane l.other).epoch) ∧
      laneCause t l = cause ∧ laneCause t l.other = laneCause s l.other ∧
      (twice → (s.sup.power ≠ .holdup → t.sup.warmPending = some 5) ∧ t.sup.takeover = none ∧ t.sup.rejoin = none ∧
        t.sup.laneMode = s.sup.laneMode) ∧
      (¬ twice → lost → t.sup.takeover = s.sup.takeover ∧ t.sup.laneMode = s.sup.laneMode ∧
        t.sup.warmPending = s.sup.warmPending) ∧
      (¬ twice → ¬ lost → l = s.sup.active → (t.lane l.other).epoch = ((s.lane l.other).epoch + 1) % 65536 ∧
        nbit (laneStat t l.other) 4 = true ∧
        t.sup.takeover = some ⟨l, s.now⟩ ∧ t.sup.laneMode = s.sup.laneMode ∧ t.sup.warmPending = s.sup.warmPending) ∧
      (¬ twice → ¬ lost → l ≠ s.sup.active →
        t.sup.takeover = s.sup.takeover ∧ t.sup.laneMode = .single s.sup.active ∧ t.sup.warmPending = s.sup.warmPending ∧
        (s.recd.next - s.recd.flushed + 8 < 8192 → ∀ c : Fin 8, t.core s.sup.active c =
          if (s.core s.sup.active c).isRunning then
            (s.core s.sup.active c).post ⟨2, 5, l.num * 256 + cause, (s.lane s.sup.active).epoch, false⟩
          else s.core s.sup.active c))
    fails (.lockstepMismatch l) 1 ∧ fails (.eccUncorrectable (.laneMemory l)) 2 ∧
    (∀ beat, fails (.eccUncorrectable (.laneDram l beat)) 2 [.dq] ∧
      Ends (.eccUncorrectable (.laneDram l beat)) s fun t => t.dq = s.dq.spoil beat.toNat ∧ sfld t .fab 0x1C 31 6 = beat.toNat ∧
        sget t .fab 0x18 = min (sget s .fab 0x18 + 1) (2 ^ 32 - 1)) ∧
    fails (.journalWriteFail l) 3 ∧ (due (s.lane l).wdEnd s.now = true → fails (.watchdogExpiry l) 4) ∧
    fails (.laneSupplyFail l) 5 ∧ (¬ twice → fails (.failSelf l) 7)

/-- R23, R24, R37, R38: a WDKICK of 0xA55A is kept for its core, 0x5AA5 from the same core restarts a running count at WDCFG.TMO
µs, any other value discards the half; a heartbeat is noted, and a peer of a lower epoch strikes; 100 µs of silence in DUAL give
the peer cause 6 and lead to a takeover, for which the lane raises its epoch, or to SINGLE, the silent lane itself going on
until it strikes; a lane that finds a higher epoch in an ownership field or its peer strikes with cause 8. -/
def Obligations.WatchdogHeartbeatStrike : Prop :=
  ∀ (s : State) (l : LaneId), s.lanesUp = true →
    (∀ (c : Fin 8) (v : Word), EndsIn [.dog] (.watchdogKick l c v) s fun t =>
      (t.lane l).wdHalf = (if v = 0xA55A then some c.val else none) ∧ (t.lane l.other).wdHalf = (s.lane l.other).wdHalf ∧
      (t.lane l.other).wdEnd = (s.lane l.other).wdEnd ∧
      (t.lane l).wdEnd = if v = 0x5AA5 ∧ (s.lane l).wdHalf = some c.val ∧ (s.lane l).wdEnd.isSome
        then some (s.now + 250 * nfld (rget s l 0xF0000048) 19 0) else (s.lane l).wdEnd) ∧
    let strikes (i : Instr) (k : LaneId) : Prop := Ends i s fun t => only [.recd, .regs, .events, .dog] s t ∧
      (t.lane k).live = false ∧ (t.lane k).struck = true ∧ laneCause t k = 8 ∧ (t.lane k.other).live = (s.lane k.other).live ∧
      (∀ j, (t.lane j).epoch = (s.lane j).epoch) ∧ t.sup.laneMode = s.sup.laneMode ∧ t.sup.active = s.sup.active ∧
      t.sup.takeover = s.sup.takeover
    ((s.lane l).live = true →
      Ends (.mirrorHeartbeat l) s (fun t => (t.lane l).beat = some s.now ∧ (t.lane l).live = true ∧
        ((s.lane l).epoch ≤ (s.lane l.other).epoch → only [] s t ∧ (t.lane l.other) = s.lane l.other ∧ t.sup.laneMode = s.sup.laneMode)) ∧
      ((s.lane l.other).epoch < (s.lane l).epoch → (s.lane l.other).live = true → strikes (.mirrorHeartbeat l) l.other) ∧
      ((s.lane l).epoch < s.sup.engEpoch ∨ (s.lane l).epoch < (s.lane l.other).epoch ∨
        (∃ n : Fin 62, (s.lane l).epoch < (s.seq n).epoch) → strikes (.laneStrike l) l) ∧
      ((s.lane l.other).live = true → s.sup.laneMode = .dual → s.sup.takeover = none →
        ((s.lane l.other).beat.getD 0) + 25000 ≤ s.now → Ends (.peerSilent l) s fun t =>
          only [.recd, .regs, .events] s t ∧ laneCause t l.other = 6 ∧ (∀ k, (t.lane k).live = (s.lane k).live) ∧
          (l.other = s.sup.active → t.sup.takeover = some ⟨l.other, (s.lane l.other).beat.getD 0⟩ ∧ t.sup.laneMode = .dual ∧
            (t.lane l).epoch = ((s.lane l).epoch + 1) % 65536) ∧
          (l = s.sup.active → t.sup.takeover = none ∧ t.sup.laneMode = .single l)))

/-- R30, R33, R35, R48: a takeover that is due gives the surviving lane, with the epoch that it raised at the loss, every
sequencer and the engines whose held epoch is not above it, makes it active in SINGLE, counts in TKCOUNT and leaves TKTIME; an
ownership change with a new epoch sets owner and epoch of one sequencer, or owner and epoch of the engines; a tick of the owner
restarts the hold timer; a missing one shows as HOLDING. LANESTAT.TAKING reads 1 before the takeover and 0 after. One step makes
steps 3 to 5 (DESIGN CHOICE, log entry 6). -/
def Obligations.TakeoverAndOwnership : Prop :=
  ∀ (s : State) (l : LaneId),
    (∀ k, s.lanesUp = true → s.sup.takeover = some k → k.lane = l.other → (s.lane l).live = true →
      let e := (s.lane l).epoch
      Ends .takeover s fun t => nbit (laneStat s l) 4 = true ∧ nbit (laneStat t l) 4 = false ∧
        only [.seqs, .hst, .pcl, .lpe, .regs, .events, .out, .recd, .dog] s t ∧ t.pending = s.pending ∧
        t.sup.active = l ∧ t.sup.laneMode = .single l ∧ t.sup.takeover = none ∧ (t.lane l).epoch = e ∧
        (t.lane l.other).epoch = (s.lane l.other).epoch ∧ (∀ j, (t.lane j).live = (s.lane j).live) ∧
        t.sup.tktime = min (4 * (s.now - k.since)) (2 ^ 24 - 1) ∧ t.sup.tkcount = (s.sup.tkcount + 1) % 2 ^ 32 ∧
        t.sup.modMode = s.sup.modMode ∧ t.sup.power = s.sup.power ∧ t.sup.phase = s.sup.phase ∧
        (s.sup.engEpoch ≤ e → t.sup.engOwner = l ∧ t.sup.engEpoch = e) ∧
        (∀ n : Fin 62, (s.seq n).epoch ≤ e → (t.seq n).owner = l ∧ (t.seq n).epoch = e)) ∧
    (s.lanesUp = true → (s.lane l).live = true →
      (∀ n : Fin 62, (s.seq n).epoch < (s.lane l).epoch → EndsIn [.seqs] (.ownershipChange l (some n)) s fun t =>
        t.seqs = tset s.seqs n { s.seq n with
          owner := l, epoch := (s.lane l).epoch }) ∧
      (s.sup.engEpoch < (s.lane l).epoch → Ends (.ownershipChange l none) s fun t =>
        only [] s t ∧ t.sup.engOwner = l ∧ t.sup.engEpoch = (s.lane l).epoch ∧ t.sup.active = s.sup.active)) ∧
    (∀ n : Fin 62, s.dark = false →
      ((s.lane l).live = true → EndsIn [.seqs] (.ownerTick l n) s fun t =>
        (∀ m : Fin 62, m ≠ n → t.seq m = s.seq m) ∧
        ((s.seq n).owner = l → (s.seq n).epoch ≤ (s.lane l).epoch → (t.seq n).holding = false ∧
          (t.seq n).holdUntil = some (s.now + if s.sup.phase = .warm then 12500000 else 2500 * (s.seq n).hold)) ∧
        ((s.seq n).owner ≠ l → (t.seq n).holding = (s.seq n).holding ∧ (t.seq n).holdUntil = (s.seq n).holdUntil)) ∧
      ((s.seq n).holdUntil.isSome = true → (s.seq n).owner = l →
        (∀ u, (match l with
          | .a => (s.seq n).lastTickA
          | .b => (s.seq n).lastTickB) = some u → u + 5000 ≤ s.now) →
        EndsIn [.seqs] (.ownerTicksAbsent n) s fun t => t.seqs = tset s.seqs n { s.seq n with holding := true }))

/-- R40, R49, R537, R538: REJOIN_PEER from the active lane in SINGLE holds the other lane in reset and enters REJOIN; the catch-
up, within 1 s and while no entry of the surviving lane fires, copies the surviving lane into the rejoining one and ends in DUAL
with the survivor's epoch, cause 7; a test fault gives cause ECC or SUPPLY, 1 s without an end keeps the cause of the failure,
an uncorrectable error of the mirror, or one met in the copied GiB, gives ECC: back to SINGLE with REJOIN_FAILED. FAIL_SELF of
the only live lane and REJOIN_PEER outside SINGLE are rejected with STATE. That the rejoin keeps or takes these causes is
DEDUCED (log entry 7). -/
def Obligations.Rejoin : Prop :=
  ∀ (s : State) (l : LaneId), s.lanesUp = true →
    (s.sup.active = l → s.sup.laneMode = .single l → Ends (.rejoinPeer l) s fun t =>
      only [.cores, .dog, .seqs] s t ∧ t.sup.laneMode = .rejoin ∧
      t.sup.rejoin = some ⟨l.other, laneCause s l.other, s.now⟩ ∧ t.sup.active = l ∧ (t.lane l.other).live = false ∧
      (t.lane l.other).struck = false ∧ t.lane l = s.lane l ∧
      (∀ c : Fin 8, (t.core l.other c).run = .stopped)) ∧
    (¬ (s.sup.active = l ∧ s.sup.laneMode = .single l) → EndsIn [.regs] (.rejoinPeer l) s fun t =>
      regsBut [0xF000000C] s t ∧ nfld (rget t l 0xF000000C) 7 0 = 1) ∧
    ((s.lane l).live = true → (s.lane l.other).live = false ∨ s.sup.laneMode = .single l → EndsIn [.regs] (.failSelf l) s fun t =>
      regsBut [0xF000000C] s t ∧ nfld (rget t l 0xF000000C) 7 0 = 1) ∧
    (∀ r, s.sup.rejoin = some r → r.lane = l.other →
      let failed (i : Instr) (cause : Nat) (ps : List Part := []) : Prop := Ends i s fun t =>
        only ([.recd, .regs, .events] ++ ps) s t ∧ t.sup.rejoin = none ∧ t.sup.laneMode = .single s.sup.active ∧
        laneCause t l.other = cause ∧ t.sup.active = s.sup.active ∧ (∀ k, (t.lane k).live = (s.lane k).live)
      failed .rejoinTestFault (if r.cause = 1 ∨ r.cause = 2 then 2 else 5) ∧
      (r.start + 250000000 ≤ s.now → failed .rejoinTimeout r.cause) ∧
      (∀ beat, failed (.eccUncorrectable (.mirror beat)) 2 [.dq]) ∧
      (someFiring s l = true ∨ rqBlocked s 10 = true → exec .rejoinCatchUp s = .next s) ∧
      let starts : Prop := (s.lane l).live = true ∧ someFiring s l = false ∧ s.now < r.start + 250000000 ∧ rqBlocked s 10 = false
      -- a beat of the copied GiB that holds an uncorrectable error fails the rejoin (R466)
      (starts → (∃ b ∈ s.dq.bad, beatIn (2 + l.num) 0 (2 ^ 30) b = true) → failed .rejoinCatchUp 2) ∧
      (starts → (∀ b ∈ s.dq.bad, beatIn (2 + l.num) 0 (2 ^ 30) b = false) → Ends .rejoinCatchUp s fun t =>
        t.sup.rejoin = none ∧ t.sup.laneMode = .dual ∧ t.sup.startCause = 7 ∧ t.sup.active = s.sup.active ∧
        (t.lane l.other).live = true ∧ (t.lane l.other).struck = false ∧ (t.lane l.other).epoch = (s.lane l).epoch ∧
        (t.lane l).epoch = (s.lane l).epoch ∧ (t.lane l.other).sram = (t.lane l).sram ∧
        (t.lane l.other).lmem = (t.lane l).lmem ∧ t.gib (2 + l.other.num) = t.gib (2 + l.num) ∧
        (t.lane l.other).hy = (t.lane l).hy ∧ (t.lane l.other).entries = (t.lane l).entries ∧
        (∀ n : Fin 62, (t.seq n).numA = (t.seq n).numB)))

/-- R27, R429, R515, R526, R574, R600, R466: ENGINE_HARD_FAULT, or an uncorrectable error that an engine reads, marks an engine
that had no hard fault; its further commands are BUSY (FaultyEngineIsBusy), TIM goes FREE, PWR's estimate reads 0, the LIN
schedules stop, the CAN channels leave the bus, and for the engines that post nothing else the fault code 0xFF reaches the core
of CTRL.EVCORE in each lane whatever EVEN holds; a second fault changes nothing. Other engines, lanes and memories stay. -/
def Obligations.EngineHardFaults : Prop :=
  ∀ (s : State) (e : Engine) (code : BitVec 32), s.dark = false →
    (s.faulty (engineBlock e) = true → EndsIn [] (.engineHardFault e code) s fun _ => True) ∧
    (s.faulty (engineBlock e) = false →
      let parts := [Part.hardflt, .recd, .regs, .events, .tim, .pnl, .cfg, .sec, .pwr, .bus]
      EndsIn parts (.engineHardFault e code) s (fun t =>
        (∀ b, t.faulty b = decide (s.faulty b = true ∨ b = engineBlock e)) ∧
        (e = .tim → t.tim.cstate = .free) ∧ (e = .lin → ∀ n, (t.linCh n).st ≠ .running) ∧
        (e = .can → ∀ n, (t.canCh n).on = none) ∧ (e ≠ .can → e ≠ .lin → t.bus = s.bus) ∧ (e = .pwr → t.pwr.dissnow = 0 ∧ t.pwr.shedding = false) ∧
        (e ∈ [Engine.hsi, .pcl, .cam, .fus, .can, .lin, .snt, .ser, .eth, .fab] → s.recd.next - s.recd.flushed + 8 < 8192 →
          t.tim = s.tim ∧ t.pnl = s.pnl ∧ t.cfg = s.cfg ∧ t.sec = s.sec ∧ t.pwr = s.pwr ∧
          ∀ (l : LaneId) (c : Nat), t.core l c = if c = sfld s (engineBlock e) 0 10 8
            then (s.core l c).post ⟨3, 0xFF, (engineBlock e).arg, code.toNat, false⟩ else s.core l c)) ∧
      ∀ beat, EndsIn (.dq :: parts) (.eccUncorrectable (.engine e code beat)) s fun t => t.faulty (engineBlock e) = true ∧
        t.dq = s.dq.spoil beat.toNat)

/-- R494, R518, R527 to R533, R118, R119: POWER_ON of an off module, the cold key from the active lane outside HOLD-UP, and a
warm start that takes 1 s are cold starts: HTB 0, one more power cycle, cause, failed lanes with cause ECC; they end waiting for
output enable, or in SERVICE with the lanes that passed up. The warm key (4) and a double fault (5) are warm starts, stated
where the running image and the configuration are unchanged (a module that runs no image starts cold, R564): cores stopped,
takeover and rejoin gone, 50 ms for each hold timer, image loaded, shared DRAM, epochs, owner kept; a supply return (3) and a
wake (6) begin one too. OUTPUT_ENABLE, which at a cold start and a wake waits for HUREADY, gives ownership to a lane that passed
with a new epoch, or brings a warm start without configuration up in SERVICE; it starts its cores at the addresses of the image
header, a core outside CORE_MASK staying stopped; CORE_START does the last for a module without output enable. What a checkpoint
holds and a start in SERVICE without cores are DESIGN CHOICE (log entries 8, 9). -/
def Obligations.Starts : Prop :=
  ∀ (s : State) (l : LaneId) (t : StartTests),
    let cold (i : Instr) (cause : Nat) : Prop := Ends i s fun u =>
      u.pending = s.pending ∧ u.now = 0 ∧ u.recd.pcyc = s.recd.pcyc + 1 ∧ u.sup.startCause = cause ∧ u.sup.power = .normal ∧
      u.sup.failA = t.laneA ∧ u.sup.failB = t.laneB ∧ laneCause u .a = (if t.laneA then 2 else 0) ∧
      laneCause u .b = (if t.laneB then 2 else 0) ∧ u.sup.mseq = 0 ∧
      (u.sup.phase = .cold ∧ u.sup.modMode = .run ∧ u.laneA.live = false ∧ u.laneB.live = false ∨
        u.sup.phase = .running ∧ u.sup.modMode = .service ∧ u.laneA.live = !t.laneA ∧ u.laneB.live = !t.laneB) ∧
      (t.laneA = true → t.laneB = true → u.sup.phase = .running)
    let begun (c : Nat) (u : State) : Prop :=
      u.sup.phase = .warm ∧ u.sup.startAt = s.now ∧ u.now = s.now ∧ u.sup.startCause = c ∧ u.sup.warmPending = none ∧
      u.sup.takeover = none ∧ u.sup.rejoin = none ∧ u.laneA.live = false ∧ u.laneB.live = false ∧ u.sup.power ≠ .holdup ∧
      u.sup.modMode = (if s.sup.modMode = .park then s.sup.modBefore else s.sup.modMode) ∧
      (∀ j, (u.lane j).epoch = (s.lane j).epoch) ∧ u.sup.engOwner = s.sup.engOwner ∧ u.sup.engEpoch = s.sup.engEpoch
    let warm (i : Instr) (c : Nat) : Prop := Ends i s fun u => begun c u ∧ u.pending = s.pending ∧ u.sup.loaded = true ∧
      u.gib 0 = s.gib 0 ∧ u.gib 1 = s.gib 1 ∧ (∀ j (k : Fin 8), (u.core j k).run = .stopped) ∧
      ∀ n : Fin 62, (u.seq n).holdUntil = some (s.now + 12500000) ∧ (u.seq n).holding = true
    let same : Prop := s.sec.image = true ∧ imgHash ((tfind s.sec.slots s.sec.runslot).getD []) = s.sec.imgHash ∧
      ∀ p, cfgNewest s = some p → p.2 = s.cfg.seq ∧ s.cfg.none_ = false
    let booted (up : LaneId → Bool) (u : State) : Prop := ∀ (j : LaneId) (k : Fin 8), up j = true →
      if nbit (leAt (payload s) 6 1) k then (u.core j k).run = .running ∧
          (u.core j k).pc = u32 (leAt (payload s) (0x40 + 16 * k) 4) ∧ (u.core j k).tvec = u32 (leAt (payload s) (0x44 + 16 * k) 4) ∧
          (u.core j k).startarg = u32 (leAt (payload s) (0x48 + 16 * k) 4) ∧
          (u.core j k).progend = u32 (leAt (payload s) (0x4C + 16 * k) 4) ∧ (u.core j k).cycle0 = s.now ∧
          (u.core j k).startcnt = (s.core j k).startcnt + 1
        else (u.core j k).run = .stopped ∧ (u.core j k).startcnt = (s.core j k).startcnt
    (s.sup.phase = .off → cold (.powerOn t) 1) ∧
    (s.lanesUp = true → s.sup.active = l → s.sup.power ≠ .holdup →
      cold (.rstcmdCold l t) 2 ∧ (same → warm (.rstcmdWarm l t) 4) ∧ (s.sec.image = false → cold (.rstcmdWarm l t) 8)) ∧
    (s.lanesUp = true → s.sup.active ≠ l → EndsIn [.regs] (.rstcmdCold l t) s fun u =>
      regsBut [0xF000000C] s u ∧ nfld (rget u l 0xF000000C) 7 0 = 3) ∧
    (s.sup.phase = .warm → s.sup.power ≠ .holdup → s.sup.startAt + 250000000 ≤ s.now → cold (.warmStartEscalate t) 8) ∧
    (s.sup.phase ≠ .off → s.sup.phase ≠ .cold → same →
      (s.sup.power ≠ .holdup → s.sup.warmPending = some 5 → warm (.warmStart t) 5) ∧
      (s.sup.power = .holdup → s.sup.warmPending = some 3 → finalDone s = true →
        Ends (.warmStart t) s fun u => begun 3 u ∧ u.sup.power = .normal) ∧
      (s.sup.phase = .parked → s.sup.power ≠ .holdup → s.sup.warmPending = some 6 → Ends (.warmStart t) s (begun 6))) ∧
    (∀ energy : BitVec 16, s.sup.power ≠ .holdup → ¬ (s.sup.failA = true ∧ s.sup.failB = true) →
      let o : LaneId := if s.sup.failA then .b else .a
      let e := (max s.laneA.epoch s.laneB.epoch + 1) % 65536
      let ready := 105 ≤ energy.toNat ∨ (s.pwr.huReady = true ∧ 95 ≤ energy.toNat)
      let enabled : Prop := Ends (.outputEnable energy) s fun u => u.sup.phase = .running ∧ u.sup.active = o ∧ u.now = s.now ∧
        u.pending = s.pending ∧ u.sup.laneMode = (if s.sup.failA || s.sup.failB then .single o else .dual) ∧ u.sup.modMode = s.sup.modMode ∧
        (∀ j, lanePassed s j = true → (u.lane j).live = true ∧ (u.lane j).struck = false ∧ (u.lane j).epoch = e) ∧
        (s.sup.engEpoch ≤ e → u.sup.engOwner = o ∧ u.sup.engEpoch = e) ∧
        (∀ n : Fin 62, (s.seq n).epoch ≤ e → (u.seq n).owner = o ∧ (u.seq n).epoch = e) ∧
        (s.sup.loaded = true → booted (lanePassed s) u)
      let waits := s.sup.phase = .cold ∨ (s.sup.phase = .warm ∧ s.cfg.none_ = false ∧ s.sup.startCause = 6)
      (waits → ready → enabled) ∧ (waits → ¬ ready → Ends (.outputEnable energy) s fun u => u = s) ∧
      (s.sup.phase = .warm → s.cfg.none_ = false → s.sup.startCause ≠ 6 → enabled) ∧
      (s.sup.phase = .warm → s.cfg.none_ = true → Ends (.outputEnable energy) s fun u => u.sup.phase = .running ∧
        u.sup.modMode = .service ∧ u.now = s.now ∧ u.pending = s.pending ∧
        (∀ j, lanePassed s j = true → (u.lane j).live = true ∧ (u.lane j).epoch = (s.lane j).epoch))) ∧
    (s.lanesUp = true → s.sup.loaded = true → Ends .coreStart s fun u => booted (lanePassed s) u ∧ u.sup.loaded = false ∧
      only [.cores, .events] s u ∧ u.pending = s.pending ∧ u.sup.phase = s.sup.phase ∧ u.sup.modMode = s.sup.modMode ∧
      (∀ j, (u.lane j).live = (s.lane j).live)) ∧
    (s.dark = false → ckptDue s = true → Ends .journalCheckpoint s fun u => only [] s u ∧ u.pending = s.pending ∧
      u.sup.ckptAt = s.now ∧ u.sup.ckptDone = true ∧ u.sup.ckptSlot = 1 - s.sup.ckptSlot ∧ u.sup.ckptSeq = s.sup.ckptSeq + 1)

/-- R539 to R542, R546 to R552, R373: each supply event changes the power state as R539 says; HOLD-UP stops the watchdogs, ends
a rejoin, discards the bank queues, gives each PV channel its HUDUTY, switches off every load switch without HOLDUP_KEEP (a PARK
entry goes on from its step, R552); the switch-off leaves nothing but what the MRAMs and the NAND hold, every register but FNGEN
and NEXTPID at its reset value; the mode commands of the active lane take the modes R547 allows, SERVICE with every switch and
duty off; parking ends with the lanes stopped; each wake source is noted and a warm start of cause 6 is due. A command of the
lane that is not active is rejected with NOT_OWNER. -/
def Obligations.SupplyAndModes : Prop :=
  ∀ s : State,
    let off (u : State) : Prop := u.sup.phase = .off ∧ u.now = 0 ∧ u.pending = s.pending ∧ u.dram = [] ∧ u.laneA.live = false ∧
      u.laneB.live = false ∧ u.recd.store = s.recd.store ∧ u.recd.flushed = s.recd.flushed ∧ u.cfg.copyA = s.cfg.copyA ∧
      u.cfg.copyB = s.cfg.copyB ∧ u.sec.keys = s.sec.keys ∧ u.sec.minver = s.sec.minver ∧ u.sec.slots = s.sec.slots ∧
      u.pcl.store = s.pcl.store ∧ u.pnl.marker = s.pnl.marker ∧
      ∀ l a, a ≠ 0xF0400010 → a ≠ 0xF0480014 → rget u l a = resetAt a
    let quiet (u : State) : Prop := u.pending = s.pending ∧ u.now = s.now ∧ u.sup.active = s.sup.active ∧
      u.sup.engOwner = s.sup.engOwner ∧ (∀ j, (u.lane j).epoch = (s.lane j).epoch ∧ (u.lane j).live = (s.lane j).live)
    (s.dark = false →
      (s.sup.power = .normal → Ends .lowSupplyEntry s fun u => quiet u ∧ only [.events] s u ∧ u.sup.power = .low) ∧
      (s.sup.power = .low → Ends .lowSupplyExit s fun u => quiet u ∧ only [] s u ∧ u.sup.power = .normal) ∧
      (∀ v1 v2, s.sup.power ≠ .holdup → Ends (.holdUpEntry v1 v2) s fun u => quiet u ∧ u.sup.power = .holdup ∧
        u.sup.rejoin = none ∧ u.sup.warmPending = none ∧ (s.sup.phase ≠ .parking → u.sup.ckptDone = false) ∧ u.pwr.huAt = some s.now ∧
        (∀ j, (u.lane j).wdEnd = none) ∧
        (s.sup.phase = .parking → u.out = s.out ∧ u.sup.ckptDone = s.sup.ckptDone ∧ u.sup.phase = .parking ∧
          (∀ n : Fin 24, rget u .a (pvReg n 4) = rget s .a (pvReg n 4)) ∧
          ∀ n : Fin 32, rget u .a (lsReg n 4) = rget s .a (lsReg n 4)) ∧
        (s.sup.phase ≠ .cold → s.sup.phase ≠ .parking → (∀ b : Fin 6, (u.bank b).queue = []) ∧
          (∀ n : Fin 24, rfld u .a (pvReg n 4) 15 0 = rfld s .a (pvReg n 0xC) 15 0) ∧
          (∀ n : Fin 32, rbit s .a (lsReg n 0) 15 = false → lsBit u n 0 = false ∧ lsBit u n 2 = false) ∧
          (∀ n : Fin 32, rbit s .a (lsReg n 0) 15 = true → lsBit u n 0 = lsBit s n 0))) ∧
      (s.sup.power = .holdup → s.pwr.returned = none → s.sup.phase ≠ .cold → Ends .supplyReturn s fun u => quiet u ∧
        only [.events, .pwr] s u ∧ u.sup.power = .holdup ∧ u.sup.warmPending = some 3 ∧ u.pwr.returned = some s.now) ∧
      (s.sup.power = .holdup → s.sup.phase ≠ .cold → s.pwr.returned = none →
        (finalDone s = true ∧ pnlSafe s = true ∨ ∃ t, s.pwr.huAt = some t ∧ t + 62500000 ≤ s.now) →
        Ends .holdUpSwitchOff s fun u => off u ∧ u.sup.unclean = false) ∧
      (s.sup.power = .holdup → Ends .holdUpEnergyOut s fun u => off u ∧ u.sup.unclean = true)) ∧
    (s.sup.phase = .parked → Ends .parkPowerLoss s off) ∧
    (∀ l, s.lanesUp = true → s.sup.active = l → s.sup.power ≠ .holdup →
      (s.sup.modMode = .bench ∨ s.sup.modMode = .service ∧ s.cfg.none_ = false → Ends (.modeRun l) s fun u => quiet u ∧
        u.sup.modMode = .run ∧ u.sup.phase = s.sup.phase ∧ u.sup.laneMode = s.sup.laneMode) ∧
      (s.sup.modMode = .run ∧ sessOpen s = true ∨ s.sup.modMode = .bench → Ends (.modeService l) s fun u => quiet u ∧
        u.sup.modMode = .service ∧ u.sup.phase = s.sup.phase ∧ (∀ b : Fin 6, (u.bank b).queue = []) ∧
        (∀ n : Fin 24, rfld u .a (pvReg n 4) 15 0 = 0) ∧ (∀ n : Fin 32, lsBit u n 0 = false ∧ lsBit u n 2 = false)) ∧
      (s.sup.modMode = .run ∨ s.sup.modMode = .service → Ends (.modeBench l) s fun u => quiet u ∧
        u.sup.modMode = .bench ∧ u.sup.phase = s.sup.phase ∧ u.out.banks = s.out.banks ∧ u.out.chans = s.out.chans ∧
        u.out.pv = s.out.pv ∧ ∀ n : Fin 32, lsBit u n 2 = lsBit s n 2 ∧
          lsBit u n 0 = (lsBit s n 2 && !lsBit s n 4 && !lsBit s n 5)) ∧
      (s.sup.modMode = .run ∨ s.sup.modMode = .service → s.sup.power = .normal → s.sup.laneMode ≠ .rejoin →
        Ends (.modePark l) s fun u => quiet u ∧ u.sup.modMode = .park ∧ u.sup.modBefore = s.sup.modMode ∧
          u.sup.phase = .parking ∧ u.sup.parkAt = s.now ∧ (∀ j, (u.lane j).wdEnd = none) ∧
          (∀ n : Fin 24, rfld u .a (pvReg n 4) 15 0 = 0) ∧ (∀ n : Fin 32, lsBit u n 0 = false ∧ lsBit u n 2 = false))) ∧
    (∀ l, s.lanesUp = true → s.sup.active ≠ l → ∀ i ∈ [Instr.modeRun l, .modeService l, .modeBench l, .modePark l],
      EndsIn [.regs] i s fun u => regsBut [0xF000000C] s u ∧ nfld (rget u l 0xF000000C) 7 0 = 3) ∧
    (s.sup.phase = .parking → s.sup.power ≠ .holdup → finalDone s = true → pnlSafe s = true → Ends .parkShutdown s fun u =>
      u.sup.phase = .parked ∧ u.sup.parkAt = s.now ∧ u.laneA.live = false ∧ u.laneB.live = false ∧ u.sup.modMode = s.sup.modMode ∧
      (∀ j (c : Fin 8), (u.core j c).run = .stopped)) ∧
    (s.sup.modMode = .park → (s.sup.phase = .parking ∨ s.sup.phase = .parked) → s.sup.power ≠ .holdup → s.sup.warmPending = none →
      let wakes (i : Instr) (src : Nat) : Prop := Ends i s fun u => quiet u ∧ only [.events] s u ∧ u.sup.warmPending = some 6 ∧
        u.sup.wakeSrc = src ∧ u.sup.phase = s.sup.phase
      (∀ k : Fin 2, nbit (rget s .a 0xF000003C) (16 + k) = true → wakes (.wakeInput k) (2 ^ k.val)) ∧
      (s.sup.phase = .parked → nfld (rget s .a 0xF000003C) 15 0 ≠ 0 →
        s.sup.parkAt + nfld (rget s .a 0xF000003C) 15 0 * 15000000000 ≤ s.now → wakes .wakeTimer 4) ∧
      (∀ n : Fin 16, s.faulty .can = false → nbit (rget s .a (0xF0601000 + 4096 * n)) 25 = true → wakes (.canWake n) (8 + n * 65536)))

/-- R25, R26, R28, R30 to R32, R198, R240: the oldest command of a lane's link reaches the sequencer and leaves the link; a
lower epoch is discarded; in DUAL it waits 20 µs for the other lane's copy, or is compared with it, a difference being counted
with the index of its first word; only the owner's takes effect, stated for load switch ON and OFF, a PV enable and duty, a
rail, and a start that its bank can take at once (BANK_REQUEST), which takes a copy of its profile into P0; a copy whose partner
is missing counts as a mismatch with WORD 0xFF while the other lane ticks; an expired hold timer discards a bank's queue or
gives a PV channel or a load switch the value of its reset class (a SAFE channel keeps what it has when the time passes during a
warm start, R533; in SERVICE all are off), an inrush sequence running on (R29). -/
def Obligations.SequencerLinks : Prop :=
  ∀ (s : State) (l : LaneId) (n : Fin 62), s.dark = false →
    (∀ c rest, (s.seq n).link l = c :: rest →
      Ends (.sequencerCommand l n) s (fun t => supFrame s t ∧ only [.events, .mism, .out, .recd, .regs, .sels, .seqs] s t ∧
        (t.seq n).link l = rest ∧ (t.seq n).link l.other = (s.seq n).link l.other ∧ ∀ m : Fin 62, m ≠ n → t.seq m = s.seq m) ∧
      (c.epoch < (s.seq n).epoch → EndsIn [.seqs] (.sequencerCommand l n) s fun t => t.seqs = tset s.seqs n ((s.seq n).setLink l rest)) ∧
      ((s.seq n).epoch ≤ c.epoch → (s.seq n).owner ≠ l →
        (comparing s = false → EndsIn [.seqs] (.sequencerCommand l n) s fun t =>
          t.seqs = tset s.seqs n ((s.seq n).setLink l rest)) ∧
        (comparing s = true → ((s.seq n).waits l.other).find? (fun d => d.num == c.num) = none → (s.seq n).past l.other < c.num →
          EndsIn [.seqs] (.sequencerCommand l n) s fun t =>
            (t.seq n).waits l = (s.seq n).waits l ++ [{ c with due := some (s.now + 5000) }]) ∧
        (∀ d k, comparing s = true → ((s.seq n).waits l.other).find? (fun d => d.num == c.num) = some d →
          firstDiff (if l = s.sup.active then c.words else d.words) (if l = s.sup.active then d.words else c.words) 0 = some k →
          EndsIn [.seqs, .mism, .recd, .regs, .events] (.sequencerCommand l n) s fun t => (t.seq n).mismatch = true ∧
            t.sup.miscnt = min (s.sup.miscnt + 1) (2 ^ 32 - 1) ∧ t.sup.misWord = k ∧ t.sup.misSeq = n)) ∧
      ((s.seq n).epoch ≤ c.epoch → (s.seq n).owner = l → c.rej = 0 → outFrozen s = false → comparing s = false →
        (∀ k : Fin 32, n.val = 30 + k.val → s.sup.modMode ≠ .service →
          (c.words = [0xF0380008, 2 ^ 28 + k.val] → lsBit s k 4 = false → lsBit s k 5 = false → lsBit s k 2 = false →
            groupDown s k = false → (s.ls k).hot = false → (s.ls k).thenOff = false →
            EndsIn [.seqs, .regs, .out] (.sequencerCommand l n) s fun t => regsBut [lsReg k 4] s t ∧ lsBit t k 0 = true ∧
              lsBit t k 2 = true ∧ (t.ls k).retry = 0 ∧ (t.ls k).onSince = s.now) ∧
          (c.words = [0xF0380008, 2 ^ 29 + k.val] → EndsIn [.seqs, .regs, .out] (.sequencerCommand l n) s fun t =>
            regsBut [lsReg k 4] s t ∧ lsBit t k 0 = false ∧ lsBit t k 2 = false)) ∧
        (∀ k : Fin 24, n.val = 6 + k.val → s.sup.modMode ≠ .service →
          (∀ v : Word, c.words = [pvReg k 4, v.toNat] → regVerdict s l .pvc (0x104 + 0x20 * k) v.toNat = 0 →
            EndsIn [.seqs, .regs] (.sequencerCommand l n) s fun t => rfld t .a (pvReg k 4) 15 0 = v.toNat % 65536) ∧
          (c.words = [0xF0340008, 2 ^ 28 + k.val] → pvLatched s k = false →
            imaxSum s (k.val / 12) (some k.val) + rfld s .a (pvReg k 0) 31 24 ≤ supLimit (rget s .a 0xF0340010) (k.val / 12) →
            EndsIn [.seqs, .regs, .out] (.sequencerCommand l n) s fun t => regsBut [pvReg k 0x14] s t ∧ pvEnabled t k = true ∧
              (tget t.out.pv k).t0 = s.now)) ∧
        (∀ b : Fin 6, ∀ arg : Nat, n.val = b.val → nfld arg 5 0 / 8 = b.val → c.words = [1, arg, 1] →
          (s.bank b).queue = [] → bankClosed s b = false → (s.bank b).rail ≠ 3 → bhsFlt s b = false →
          rbit s .a (dvReg (nfld arg 5 0) 4) 5 = false → rbit s .a (dvReg (nfld arg 5 0) 4) 4 = false →
          2 ^ 31 ≤ rget s .a (profReg b (nfld arg 9 6) 0) →
          blockedBy s (nfld arg 5 0) (rget s .a (profReg b (nfld arg 9 6) 0)) = none →
          (c.extra.getD 3 0 ≠ 0 → s.now ≤ c.extra.getD 4 0) → EndsIn [.seqs, .out, .regs] (.bankRequest l b) s fun t =>
            (t.chan (nfld arg 5 0)).phase = .p0 ∧ (t.chan (nfld arg 5 0)).since = s.now ∧
            (t.chan (nfld arg 5 0)).prof = (List.range 6).map (fun w => rget s .a (profReg b (nfld arg 9 6) w)) ∧
            (t.bank b).queue = [] ∧ regsBut [dvReg (nfld arg 5 0) 0x10] s t))) ∧
    (∀ c rest, (s.seq n).waits l = c :: rest → due c.due s.now = true →
      EndsIn [.seqs, .mism, .recd, .regs, .events] (.missingCopyTimeout l n) s fun t => (t.seq n).waits l = rest ∧
        ((s.lane l.other).live = true → s.sup.laneMode = .dual →
          (∃ u, (match l.other with
            | .a => (s.seq n).lastTickA
            | .b => (s.seq n).lastTickB) = some u ∧ s.now ≤ u + 5000) →
          (t.seq n).mismatch = true ∧ t.sup.misWord = 255 ∧ t.sup.misSeq = n ∧
            t.sup.miscnt = min (s.sup.miscnt + 1) (2 ^ 32 - 1))) ∧
    (due (s.seq n).holdUntil s.now = true → EndsIn [.seqs, .out, .regs] (.holdTimerExpiry n) s fun t =>
      (t.seq n).expired = true ∧ (t.seq n).off = true ∧ (t.seq n).holding = false ∧ (t.seq n).holdUntil = none ∧
      (n.val < 6 → (t.bank n).queue = []) ∧
      (∀ k : Fin 24, n.val = 6 + k.val → rfld t .a (pvReg k 4) 15 0 =
        if rfld s .a (pvReg k 0) 9 8 = 2 ∧ s.sup.phase = .warm then rfld s .a (pvReg k 4) 15 0
        else if rfld s .a (pvReg k 0) 9 8 = 2 ∧ s.sup.modMode ≠ .service then rfld s .a (pvReg k 0xC) 15 0 else 0) ∧
      (∀ k : Fin 32, n.val = 30 + k.val →
        ¬ (rfld s .a (lsReg k 0) 13 12 = 2 ∧ (s.sup.phase = .warm ∨ rbit s .a (lsReg k 0) 14 = true ∧ s.sup.modMode ≠ .service)) →
        lsBit t k 2 = false ∧ (lsInrush s k = false → lsBit t k 0 = false) ∧
        (lsInrush s k = true → lsBit t k 0 = lsBit s k 0 ∧ (t.ls k).thenOff = true ∧ (t.ls k).winEnd = (s.ls k).winEnd)))

/-- R26, R28, R195, R202, R208, R209, R217, R228, R193, R201, R204, R206, R224, R227, R239, R232: from a live lane that owns the
sequencer, with nothing of its own on the way and no copy of the other lane ahead, each command of DDV, PVC and LSW is judged,
sent with the lane's next command number and epoch, its register address and value (a START with its decision 1 or 2, by the
stroke selector when SEL is set and the channel has a DDM), and, when it is rejected, recorded with the reason of the rule in
CMDERR and sent as rejected; one that is not rejected, when SEQUENCER_COMMAND brings it to its sequencer outside DUAL, HOLD-UP
and PARK, has the effect that its rule gives it; nothing but the sequencer, the lane's levels, selectors and registers, then the
stage itself, changes. A write of the other lane in DUAL is sent as a copy that awaits the verdict. DDM_FRAC writes D in the
lane itself. -/
def Obligations.OutputCommandsAreSent : Prop :=
  ∀ (s : State) (l : LaneId), s.dark = false → (s.lane l).live = true →
    let sends (i : Instr) (n : Fin 62) (b : Block) (off v : Nat) (more : List Nat) (rej : Nat) (P : State → Prop) : Prop :=
      (s.seq n).link l = [] → partner s l n = none →
      let start : Prop := b = .ddv ∧ off = 8 ∧ nfld v 31 28 = 1
      ((s.seq n).owner = l ∨ comparing s = false ∨ start → EndsIn [.seqs, .levels, .sels, .regs] i s fun t =>
        (∃ x, (t.seq n).link l = [{
          num := (s.seq n).num l + 1, epoch := (s.lane l).epoch, words := [b.base + off, v] ++ more, rej := rej, extra := x }]) ∧
        (t.seq n).num l = (s.seq n).num l + 1 ∧ (∀ m : Fin 62, m ≠ n → t.seq m = s.seq m) ∧
        (rej = 0 → more = [] → regsBut [] s t) ∧
        (rej ≠ 0 → regsBut [b.base + 0xC] s t ∧ nfld (rget t l (b.base + 0xC)) 7 0 = rej ∧ nbit (rget t l (b.base + 0xC)) 31 = true) ∧
        (rej = 0 → (s.seq n).owner = l → comparing s = false → outFrozen s = false → (s.seq n).epoch ≤ (s.lane l).epoch →
          EndsIn [.seqs, .out, .regs, .events, .sels] (.sequencerCommand l n) t fun u => (u.seq n).link l = [] ∧ P u)) ∧
      ((s.seq n).owner ≠ l → comparing s = true → ¬ start → EndsIn [.seqs, .levels] i s fun t =>
        (t.seq n).link l = [{ num := (s.seq n).num l + 1, epoch := (s.lane l).epoch, words := [b.base + off, v], judged := false }] ∧
        (t.seq n).num l = (s.seq n).num l + 1 ∧ ∀ m : Fin 62, m ≠ n → t.seq m = s.seq m)
    let free : Prop := s.sup.modMode ≠ .service
    (∀ n : Fin 32, let q := Fin.ofNat 62 (30 + n)
      let dark (u : State) : Prop := lsBit u n 0 = false ∧ lsBit u n 2 = false
      (free → sends (.lsOn l n) q .lsw 8 (2 ^ 28 + n) [] (if lsBit s n 4 || lsBit s n 5 then 0x10 else 0) fun u =>
        lsBit u n 2 = true ∧ (lsBit s n 2 = false → (s.ls n).thenOff = false → groupDown s n = false → (s.ls n).hot = false →
          lsBit u n 0 = true ∧ (u.ls n).retry = 0 ∧ (u.ls n).onSince = s.now)) ∧
      (free → sends (.lsOff l n) q .lsw 8 (2 ^ 29 + n) [] 0 dark) ∧
      sends (.lsClr l n) q .lsw 8 (3 * 2 ^ 28 + n) [] 0 (fun u => rfld u .a (lsReg n 4) 5 4 = 0 ∧ rfld u .a (lsReg n 4) 10 7 = 0 ∧
        (lsBit s n 4 || lsBit s n 5 → dark u)) ∧
      (¬ free → sends (.lsOn l n) q .lsw 8 (2 ^ 28 + n) [] 1 (fun _ => True) ∧
        sends (.lsOff l n) q .lsw 8 (2 ^ 29 + n) [] 1 fun _ => True)) ∧
    (∀ g : Fin 4, ∀ v : Word, sends (.directedConversion l g v) (Fin.ofNat 62 (30 + 8 * g)) .lsw (0x80 + 0x10 * g) v.toNat []
      (if (tget s.out.dirs g.val).isSome then 5 else 0) fun u => let b := tget s.out.scan g
        tget u.out.dirs g.val = some ⟨v.toNat % 8, 250 + if s.now < b then b else b + ((s.now - b) / 625 + 1) * 625⟩) ∧
    (∀ n : BitVec 5, n.toNat < 24 → let k := n.toNat
      let q := Fin.ofNat 62 (6 + k)
      sends (.pvEnable l n) q .pvc 8 (2 ^ 28 + k) [] (if pvLatched s k then 0x11
        else if supLimit (rget s .a 0xF0340010) (k / 12) < imaxSum s (k / 12) (some k) + rfld s .a (pvReg k 0) 31 24 then 0x10 else 0)
        (fun u => pvEnabled u k = true ∧ tget u.out.pv k = { t0 := s.now } ∧ regsBut [pvReg k 0x14] s u) ∧
      sends (.pvDisable l n) q .pvc 8 (2 ^ 29 + k) [] 0 (fun u => pvEnabled u k = false ∧ rfld u .a (pvReg k 0x14) 4 3 = 0 ∧
        regsBut [pvReg k 0x14] s u) ∧
      sends (.pvClr l n) q .pvc 8 (3 * 2 ^ 28 + k) [] 0 fun u => pvLatched u k = false ∧ rfld u .a (pvReg k 0x14) 11 8 = 0 ∧
        regsBut [pvReg k 0x14] s u) ∧
    (∀ n : BitVec 5, 24 ≤ n.toNat → sends (.pvEnable l n) 29 .pvc 8 (2 ^ 28 + n.toNat) [] 4 (fun _ => True) ∧
      sends (.pvDisable l n) 29 .pvc 8 (2 ^ 29 + n.toNat) [] 4 (fun _ => True) ∧
      sends (.pvClr l n) 29 .pvc 8 (3 * 2 ^ 28 + n.toNat) [] 4 fun _ => True) ∧
    (∀ n : Fin 24, ∀ v : Word, sends (.pvDutyWrite l n v) (Fin.ofNat 62 (6 + n)) .pvc (0x104 + 0x20 * n) v.toNat []
      (if s.sup.modMode = .service then 1 else 0) fun u => rfld u .a (pvReg n 4) 15 0 = v.toNat % 65536) ∧
    (∀ c : BitVec 6, c.toNat < 48 → let k := c.toNat
      let q := Fin.ofNat 62 (k / 8)
      let b := k / 8
      (∀ p e, sends (.ddvStart l c p false e) q .ddv 8 (2 ^ 28 + e.toNat * 4096 + p.toNat * 64 + k)
          (if rbit s .a (dvReg k 4) 5 then [] else [1]) (if rbit s .a (dvReg k 4) 5 then 0x11 else 0) fun u =>
        s.now < 2 ^ 64 → (s.bank b).queue = [] → bankClosed s b = false → (s.bank b).rail ≠ 3 → bhsFlt s b = false →
        rbit s .a (dvReg k 4) 4 = false → 2 ^ 31 ≤ rget s .a (profReg b p.toNat 0) →
        blockedBy s k (rget s .a (profReg b p.toNat 0)) = none →
          (u.chan k).phase = .p0 ∧ (u.chan k).since = s.now ∧
          (u.chan k).prof = (List.range 6).map (fun w => rget s .a (profReg b p.toNat w)) ∧ (u.bank b).queue = []) ∧
      (∀ p e m, rbit s .a (dvReg k 4) 5 = false → ddmOf s k = some m → rbit s l (ddmReg m 0) 4 = true →
        let r := selRun (rfld s l (ddmReg m 8) 16 0) (rfld s l (ddmReg m 0) 11 8) (rfld s l (ddmReg m 0) 15 12) (s.sel l m)
        sends (.ddvStart l c p true e) q .ddv 8 (2 ^ 28 + e.toNat * 4096 + 1024 + p.toNat * 64 + k) [if r.2.1 then 1 else 2] 0
          (fun u => r.2.1 = false → u.out = s.out) ∧
        ((s.seq q).owner = l → (s.seq q).link l = [] → partner s l q = none →
          Ends (.ddvStart l c p true e) s fun t => t.sel l m = r.1)) ∧
      sends (.ddvStop l c) q .ddv 8 (2 * 2 ^ 28 + k) [] 0 (fun u =>
        ((s.chan k).phase = .p2 → (u.chan k).phase = .p3 ∧ (u.chan k).since = s.now) ∧
        ((s.chan k).phase = .p0 ∨ (s.chan k).phase = .p1 → u.chan k = { s.chan k with ends := {} }) ∧
        ((s.chan k).phase = .idle → ∀ r ∈ (u.bank b).queue, r.ch ≠ k)) ∧
      sends (.ddvClr l c) q .ddv 8 (3 * 2 ^ 28 + k) [] 0 (fun u => regsBut [dvReg k 4] s u ∧ rbit u .a (dvReg k 4) 4 = false) ∧
      sends (.ddvEnable l c) q .ddv 8 (4 * 2 ^ 28 + k) [] 0 (fun u => regsBut [dvReg k 4] s u ∧ rbit u .a (dvReg k 4) 5 = false) ∧
      sends (.ddvDisable l c) q .ddv 8 (5 * 2 ^ 28 + k) [] 0 fun u => rbit u .a (dvReg k 4) 5 = true ∧
        (u.chan k).phase = .idle ∧ ∀ r ∈ (u.bank b).queue, r.ch ≠ k) ∧
    (∀ c : BitVec 6, 48 ≤ c.toNat → sends (.ddvStop l c) 5 .ddv 8 (2 * 2 ^ 28 + c.toNat) [] 4 (fun _ => True) ∧
      sends (.ddvClr l c) 5 .ddv 8 (3 * 2 ^ 28 + c.toNat) [] 4 (fun _ => True) ∧
      sends (.ddvEnable l c) 5 .ddv 8 (4 * 2 ^ 28 + c.toNat) [] 4 (fun _ => True) ∧
      sends (.ddvDisable l c) 5 .ddv 8 (5 * 2 ^ 28 + c.toNat) [] 4 (fun _ => True) ∧
      ∀ p e, sends (.ddvStart l c p false e) 5 .ddv 8 (2 ^ 28 + e.toNat * 4096 + p.toNat * 64 + c.toNat) [] 4 fun _ => True) ∧
    (∀ b : Fin 6, sends (.bhsfltClear l b) (Fin.ofNat 62 b) .ddv 4 (2 ^ (16 + b.val)) [] 0 fun u => bhsFlt u b = false ∧
      regsBut [0xF0300004] s u ∧ u.out = s.out) ∧
    (∀ (b : Fin 6) (p : Fin 16) (w : Fin 8) (v : Word),
      sends (.profileWrite l b p w v) (Fin.ofNat 62 b) .ddv (0x2000 + 0x200 * b + 0x20 * p + 4 * w) v.toNat []
        (if regVerdict s l .ddv (0x2000 + 0x200 * b + 0x20 * p + 4 * w) v.toNat = 2 then 2
        else if w = 0 then
          (if 2 ^ 31 ≤ v.toNat ∧ profBad (profMask 0 v.toNat :: (List.range 5).map fun i => rget s .a (profReg b p (i + 1))) = true
            then 0x10 else 0)
        else if w ≤ 5 ∧ 2 ^ 31 ≤ rget s .a (profReg b p 0) then 1 else 0) fun u =>
          rget u .a (profReg b p w) = profMask w v.toNat ∧ regsBut [profReg b p w] s u ∧ u.out = s.out) ∧
    (∀ (m : Fin 4) (v : Word), EndsIn [.regs] (.ddmFrac l m v) s fun t =>
      (v.toNat % 2 ^ 17 ≤ 32768 → regsBut [ddmReg m 8] s t ∧ rfld t l (ddmReg m 8) 16 0 = v.toNat % 2 ^ 17) ∧
      (32768 < v.toNat % 2 ^ 17 → regsBut [ddmReg m 8, 0xF030000C] s t ∧ nfld (rget t l 0xF030000C) 7 0 = 4 ∧
        rfld t l (ddmReg m 8) 16 0 = rfld s l (ddmReg m 8) 16 0))

/-- R189, R192, R193, R202, R208, R209, R227, R232, R239: of the owner, not compared, not rejected, outside HOLD-UP and PARK:
STOP ends a hold (P3 from now) and lifts the hold ends of a stroke that is still opening; CLR, ENABLE, DISABLE change the flags
of the channel, DISABLE also taking its request from the queue; a profile word is stored with its reserved bits 0; BHSFLT is
cleared; RAIL applies; PV DISABLE and CLR, LS CLR clear their flags; a directed conversion ends 1 µs after the next slot
boundary of its group and delays the group's scan by as much. -/
def Obligations.OutputCommandsTakeEffect : Prop :=
  ∀ (s : State) (l : LaneId) (n : Fin 62), s.dark = false → outFrozen s = false → comparing s = false → (s.seq n).owner = l →
    let runs (words : List Nat) (P : State → Prop) : Prop := ∀ c rest, (s.seq n).link l = c :: rest → c.words = words →
      (s.seq n).epoch ≤ c.epoch → c.rej = 0 →
      EndsIn [.seqs, .out, .regs, .events, .sels] (.sequencerCommand l n) s fun t => (t.seq n).link l = rest ∧ P t
    (∀ c : Fin 48, n.val = c.val / 8 →
      runs [0xF0300008, 2 * 2 ^ 28 + c] (fun t =>
        ((s.chan c).phase = .p2 → (t.chan c).phase = .p3 ∧ (t.chan c).since = s.now) ∧
        ((s.chan c).phase = .p0 ∨ (s.chan c).phase = .p1 → t.chan c = { s.chan c with ends := {} } ∧ regsBut [] s t)) ∧
      runs [0xF0300008, 3 * 2 ^ 28 + c] (fun t => regsBut [dvReg c 4] s t ∧ rget t .a (dvReg c 4) = nset (rget s .a (dvReg c 4)) 4 4 0) ∧
      runs [0xF0300008, 4 * 2 ^ 28 + c] (fun t => regsBut [dvReg c 4] s t ∧ rget t .a (dvReg c 4) = nset (rget s .a (dvReg c 4)) 5 5 0) ∧
      runs [0xF0300008, 5 * 2 ^ 28 + c] fun t => rbit t .a (dvReg c 4) 5 = true ∧ ∀ r ∈ (t.bank (c.val / 8)).queue, r.ch ≠ c.val) ∧
    (∀ b : Fin 6, n.val = b.val →
      (∀ (p : Fin 16) (w : Fin 8) (v : Word), seqJudge s l .ddv (0x2000 + 0x200 * b + 0x20 * p + 4 * w) v.toNat = 0 →
        runs [profReg b p w, v.toNat] fun t => regsBut [profReg b p w] s t ∧ rget t .a (profReg b p w) = profMask w v.toNat ∧
          t.out = s.out) ∧
      runs [0xF0300004, 2 ^ (16 + b.val)] (fun t => bhsFlt t b = false ∧ regsBut [0xF0300004] s t ∧ t.out = s.out) ∧
      (∀ v : Word, seqJudge s l .ddv (0x100 + 0x20 * b) v.toNat = 0 → bhsFlt s b = false → inP0 s b = false →
        runs [bankReg b 0, v.toNat] fun t => (t.bank b).rail = v.toNat % 4 ∧ rfld t .a (bankReg b 0) 1 0 = v.toNat % 4 ∧
          (v.toNat % 4 = 3 → (t.bank b).queue = []))) ∧
    (∀ k : Fin 24, n.val = 6 + k.val →
      runs [0xF0340008, 2 * 2 ^ 28 + k] (fun t => pvEnabled t k = false ∧ rfld t .a (pvReg k 0x14) 4 3 = 0 ∧ regsBut [pvReg k 0x14] s t) ∧
      runs [0xF0340008, 3 * 2 ^ 28 + k] fun t => pvLatched t k = false ∧ rfld t .a (pvReg k 0x14) 11 8 = 0 ∧
        regsBut [pvReg k 0x14] s t) ∧
    (∀ k : Fin 32, n.val = 30 + k.val →
      runs [0xF0380008, 3 * 2 ^ 28 + k] (fun t => rfld t .a (lsReg k 4) 5 4 = 0 ∧ rfld t .a (lsReg k 4) 10 7 = 0 ∧
        regsBut [lsReg k 4] s t ∧ (lsBit s k 4 || lsBit s k 5 → lsBit t k 0 = false ∧ lsBit t k 2 = false))) ∧
    (∀ (g : Fin 4) (v : Word), n.val = 30 + 8 * g.val → (tget s.out.dirs g.val).isSome = false →
      runs [sgReg g 0, v.toNat] fun t => tget t.out.dirs g.val = some ⟨v.toNat % 8, slotNext s g + 250⟩ ∧ tget t.out.scan g = tget s.out.scan g + 250 ∧
        regsBut [sgReg g 0] s t)

/-- R190, R195, R196, R199 to R202, R207 to R211: outside BENCH, P0 ends at IPEAK or TTPMAX with its TTP and flags, P1 at IHOLD
or P1MAX with the dip that was seen, P2 at its hold end, REGEN at or above 62 V counting in REGENFB, P3 below IREL or at P3MAX;
a request at its deadline is dropped and counted, unless it is at the head and the peak ends in the same cycle; HOLDLOSS, a
short and a high-side overcurrent set their flags and act; LIMIT follows the energy bucket, which 120 W empty at 80 W more than
fills it, VBSTLOW its event; a hold end is revised when its prediction moved by more than 1 µs, at most every 16.384 µs. -/
def Obligations.StrokePhases : Prop :=
  ∀ (s : State) (c : Fin 48), s.dark = false → stageBench s = false →
    let ch := s.chan c
    let b := c.val / 8
    let age := s.now - ch.since
    (∀ hit (vbst : BitVec 16), ch.phase = .p0 → (hit = true ∨ ch.pw 1 31 16 ≤ age * 2 / 5) →
      EndsIn [.events, .out, .regs, .sels] (.peakEnd c hit vbst) s fun t => (t.chan c).phase = .p1 ∧ (t.chan c).since = s.now ∧
        rget t .a (dvReg c 8) = min (ch.pw 1 31 16) (age * 2 / 5) ∧
        (ch.pw 1 31 16 ≤ age * 2 / 5 → rbit t .a (dvReg c 4) 9 = true) ∧
        (age * 2 / 5 < ch.pw 1 31 16 → age * 2 / 5 < ch.pw 1 15 0 → rbit t .a (dvReg c 4) 8 = true)) ∧
    (∀ fell (dip : Option (BitVec 16)), ch.phase = .p1 → (fell = true ∨ 250 * ch.pw 2 15 0 ≤ age) →
      EndsIn [.events, .out, .regs, .sels] (.transitionEnd c fell dip) s fun t => (t.chan c).since = s.now ∧
        (t.chan c).phase = (if holdEnd { ch with phase := .p2, since := s.now } ≤ s.now then .p3 else .p2) ∧
        rget t .a (dvReg c 0xC) = (match dip with
          | some d => if ch.pw 2 23 16 = 0 then 0 else 65536 + d.toNat
          | none => 0) ∧
        (dip = none → ch.pw 2 23 16 ≠ 0 → rbit t .a (dvReg c 4) 11 = true)) ∧
    (∀ vbst : BitVec 16, ch.phase = .p2 → holdEnd ch ≤ s.now → EndsIn [.events, .out, .regs, .sels] (.holdEnd c vbst) s fun t =>
      (t.chan c).phase = .p3 ∧ (t.chan c).since = s.now ∧ rget t .a 0xF0300018 =
        if ch.pw 0 19 18 = 2 ∧ 6200 ≤ vbst.toNat then min (rget s .a 0xF0300018 + 1) (2 ^ 32 - 1) else rget s .a 0xF0300018) ∧
    (∀ fell, ch.phase = .p3 → (fell = true ∨ 250 * ch.pw 5 31 16 ≤ age) → (∀ k : Fin 6, (s.bank k).queue = []) →
      EndsIn [.out, .regs] (.releaseEnd c fell) s fun t => t.chan c = { ch with phase := .idle }) ∧
    (∀ r ∈ (s.bank b).queue, r.ch = c.val → r.deadline ≤ s.now →
      (r.deadline < s.now ∨ peakEndsNow s b = false ∨ (s.bank b).queue.head?.map (·.ch) ≠ some c.val) →
      (∀ q ∈ (s.bank b).queue, q.ch ≠ c.val → s.now ≤ q.deadline) → (∀ q ∈ (s.bank b).queue, q.ch = c.val → q = r) →
      EndsIn [.events, .out, .regs, .sels] (.requestDeadline c) s fun t => (∀ q ∈ (t.bank b).queue, q.ch ≠ c.val) ∧
        rbit t .a (dvReg c 4) 13 = true ∧ rget t .a (bankReg b 8) = min (rget s .a (bankReg b 8) + 1) (2 ^ 32 - 1) ∧
        rget t .a (dvReg c 0x14) = min (rget s .a (dvReg c 0x14) + 1) (2 ^ 32 - 1)) ∧
    (∀ r q, (s.bank b).queue = r :: q → r.ch = c.val → r.deadline = s.now → peakEndsNow s b = true →
      EndsIn [] (.requestDeadline c) s fun t => t.sup = s.sup) ∧
    (ch.phase = .p2 → ch.since + 5000 ≤ s.now → EndsIn [.events, .regs] (.holdloss c) s fun t => regsBut [dvReg c 4] s t ∧
      rbit t .a (dvReg c 4) 10 = true ∧ (rfld s .a (dvReg c 0) 13 12 = 1 → rbit t .a (dvReg c 4) 4 = true) ∧
      (rfld s .a (dvReg c 0) 13 12 = 2 → rbit t .a (dvReg c 4) 5 = true)) ∧
    (ch.phase ≠ .idle → EndsIn [.events, .out, .regs, .sels] (.valveShort c) s fun t => rbit t .a (dvReg c 4) 12 = true ∧
      rbit t .a (dvReg c 4) 5 = true ∧ ∀ q ∈ (t.bank b).queue, q.ch ≠ c.val) ∧
    (∀ k : Fin 6, bhsFlt s k = false → EndsIn [.events, .out, .regs, .sels] (.bhsOvercurrent k) s fun t => bhsFlt t k = true ∧
      (t.bank k).rail = 3 ∧ (t.bank k).queue = [] ∧ rfld t .a (bankReg k 0) 1 0 = 3) ∧
    (boostOn s = true → rbit s .a 0xF0300004 8 = false → s.out.bkt ≤ 80000 * (4 * (s.now - s.out.bktAt)) →
      EndsIn [.events, .out, .regs] .boostLimit s fun t => regsBut [0xF0300004] s t ∧ bucketNow t = 0 ∧
        rget t .a 0xF0300004 = nset (rget s .a 0xF0300004) 8 8 1) ∧
    (rbit s .a 0xF0300004 8 = true → s.out.bktAt < s.now → EndsIn [.out, .regs] .boostLimitEnd s fun t =>
      regsBut [0xF0300004] s t ∧ rget t .a 0xF0300004 = nset (rget s .a 0xF0300004) 8 8 0 ∧ 0 < bucketNow t) ∧
    (boostOn s = false ∨ rbit s .a 0xF0300004 8 = true ∨ 80000 * (4 * (s.now - s.out.bktAt)) < s.out.bkt → EndsIn [] .boostLimit s fun _ => True) ∧
    (rbit s .a 0xF0300004 8 = false ∨ s.now ≤ s.out.bktAt → EndsIn [] .boostLimitEnd s fun _ => True) ∧
    (rbit s .a 0xF0300004 9 = false → EndsIn [.events, .regs] .vbstLow s fun t => regsBut [0xF0300004] s t ∧
      rget t .a 0xF0300004 = nset (rget s .a 0xF0300004) 9 9 1) ∧
    EndsIn [.events, .out, .regs, .sels] .vbstRecovered s (fun t => rget t .a 0xF0300004 = nset (rget s .a 0xF0300004) 9 9 0) ∧
    (∀ l m tgt, (s.seq b).owner = l → (s.lane l).live = true → (s.seq b).epoch ≤ (s.lane l).epoch → outFrozen s = false →
      ddmOf s c = some m → ch.rev + 4096 ≤ s.now → energised ch.phase = true → ch.ends.pos = some tgt →
      let p := predict s l (rfld s l (ddmReg m 0) 3 0) tgt
      (ch.ends.at_ + 250 < p ∨ p + 250 < ch.ends.at_) → EndsIn [.out] (.holdEndRevision l c) s fun t =>
        t.chan c = { ch with ends := { ch.ends with at_ := p }, rev := s.now })

/-- R225, R230 to R238, R244: outside BENCH, a switch in current limit for TLIM counts a trip and retries after 2 ms inside its
window while retries are left, else latches off; overtemperature takes it off until it has cooled, or latches it; a group or die
trip takes its commanded channels off, those with an own fault latching, and a restart brings them back; undervoltage (VBAT_Pk
below 6 V, or 16 V with SYSV) does so without latching, and ends 0.5 V above; a group whose filtered current passes GLIM trips
and restarts when it has fallen below GREST of it; while the sum of the filters exceeds MODLIM one load is shed at a time; a PV
channel that is short latches, and each of its diagnostics sets its flag, OVER once MEAS has been above IMAX for 1 ms. -/
def Obligations.SwitchAndValveEvents : Prop :=
  ∀ s : State, s.dark = false → stageBench s = false →
    let cnt (t : State) (a : Nat) : Prop := rget t .a a = min (rget s .a a + 1) (2 ^ 32 - 1)
    (∀ n : Fin 32, let x := s.ls n
      (∀ low, lsBit s n 0 = true → EndsIn [.events, .out, .regs] (.lsLimitTimeout n low) s fun t =>
        regsBut [lsReg n 4, lsReg n 0x10] s t ∧ cnt t (lsReg n 0x10) ∧ lsBit t n 0 = false ∧ (low = true → lsBit t n 7 = true) ∧
        (x.winEnd.isSome = true → x.retry < rfld s .a (lsReg n 0) 19 16 → (t.ls n).retryAt = some (s.now + 500000) ∧
          lsBit t n 4 = lsBit s n 4) ∧
        (x.winEnd.isSome = false ∨ rfld s .a (lsReg n 0) 19 16 ≤ x.retry → lsBit t n 4 = true ∧ (t.ls n).retryAt = none)) ∧
      (due x.retryAt s.now = true → EndsIn [.out, .regs] (.lsRetry n) s fun t => regsBut [lsReg n 4] s t ∧ (t.ls n).retryAt = none ∧
        (x.thenOff = false ∨ x.winEnd.isSome = true → lsBit t n 0 = true ∧ (t.ls n).retry = x.retry + 1) ∧
        (x.thenOff = true → x.winEnd = none → lsBit t n 0 = false ∧ (t.ls n).thenOff = false)) ∧
      (due x.winEnd s.now = true → EndsIn [.out, .regs] (.inrushWindowEnd n) s fun t => regsBut [lsReg n 4] s t ∧
        lsBit t n 6 = false ∧ (t.ls n).winEnd = none ∧
        lsBit t n 0 = (lsBit s n 0 && !(x.thenOff && x.retryAt.isNone))) ∧
      (∀ abs, lsBit s n 0 = true → EndsIn [.events, .out, .regs] (.lsOvertemp n abs) s fun t =>
        regsBut [lsReg n 4, lsReg n 0x10] s t ∧ cnt t (lsReg n 0x10) ∧ lsBit t n 0 = false ∧ lsBit t n 9 = true ∧
        (t.ls n).hot = true ∧ (abs = true ∨ rbit s .a (lsReg n 0) 11 = true → lsBit t n 4 = true)) ∧
      (lsBit s n 0 = false → lsBit s n 4 = false → EndsIn [.events, .out, .regs] (.lsOvertemp n true) s fun t =>
        regsBut [lsReg n 4] s t ∧ lsBit t n 0 = false ∧ lsBit t n 9 = true ∧ lsBit t n 4 = true ∧ (t.ls n).own = true) ∧
      (lsBit s n 0 = false → EndsIn [] (.lsOvertemp n false) s fun _ => True) ∧
      (x.hot = true → EndsIn [.out, .regs] (.lsThermalRestart n) s fun t => (t.ls n).hot = false ∧ regsBut [lsReg n 4] s t ∧
        (lsBit s n 2 = true → x.thenOff = false → lsBit s n 4 = false → lsBit s n 5 = false → groupDown s n = false →
          lsBit t n 0 = true ∧ (lsBit s n 0 = false → x.fresh = true → (t.ls n).retry = 0 ∧
            (t.ls n).winEnd = if rfld s .a (lsReg n 0) 27 20 = 0 then none else some (s.now + 250000 * rfld s .a (lsReg n 0) 27 20)) ∧
          (x.fresh = false → (t.ls n).retry = x.retry ∧ (t.ls n).winEnd = x.winEnd)) ∧
        (x.thenOff = true → x.winEnd = none → lsBit t n 0 = false)) ∧
      (x.own = true → lsBit s n 0 = true → x.onSince + 2500000 ≤ s.now → EndsIn [.out] (.ownFaultEnd n) s fun t =>
        t.ls n = { x with own := false, code := lsCode s n, codeAt := s.now + 1 }) ∧
      (lsBit s n 0 = true ∧ x.onSince + 25000000 ≤ s.now ∨ lsBit s n 0 = false ∧ rbit s .a (lsReg n 0) 10 = true →
        EndsIn [.regs] (.lsOpenload n) s fun t => regsBut [lsReg n 4] s t ∧
          rget t .a (lsReg n 4) = nset (rget s .a (lsReg n 4)) 10 10 1)) ∧
    (∀ k : Fin 4,
      let trips (hit : Nat → Bool) (but : List Nat) (t : State) : Prop :=
        (∀ n : Fin 32, hit n = true → lsBit s n 2 = true → lsBit s n 4 = false → lsBit s n 5 = false →
          lsBit t n 0 = false ∧ lsBit t n 4 = (s.ls n).own) ∧
        (∀ n : Fin 32, hit n = false → rget t .a (lsReg n 4) = rget s .a (lsReg n 4)) ∧
        regsBut (but ++ (List.range 32).map fun n => lsReg n 4) s t
      let wakes (hit : Nat → Bool) (down : Nat → Bool) (t : State) : Prop := ∀ n : Fin 32, hit n = true → lsBit s n 2 = true →
        lsBit s n 4 = false → lsBit s n 5 = false → (s.ls n).hot = false → down n = false → lsBit t n 0 = true
      (∀ inst, rbit s .a (grpReg k 4) 1 = false → inst = true ∨ amps (rfld s .a (grpReg k 0) 7 0) < groupF s k →
        EndsIn [.events, .out, .regs] (.groupTrip (k, inst)) s fun t =>
        trips (fun n => supplyGroup n == k.val) [grpReg k 4, grpReg k 8] t ∧ rfld t .a (grpReg k 4) 1 0 = 3 ∧
        cnt t (grpReg k 8) ∧ tget t.out.tripAt k = s.now) ∧
      (groupF s k ≤ amps (rfld s .a (grpReg k 0) 7 0) → EndsIn [] (.groupTrip (k, false)) s fun _ => True) ∧
      (rbit s .a (sgReg k 8) 1 = false → EndsIn [.events, .out, .regs] (.groupDieTrip k) s fun t =>
        trips (fun n => n / 8 == k.val) [sgReg k 8] t ∧ rfld t .a (sgReg k 8) 1 0 = 3) ∧
      (rbit s .a (grpReg k 4) 1 = true → groupCalm s k = true → tget s.out.tripAt k + 250000 * rfld s .a (grpReg k 0) 31 24 ≤ s.now →
        EndsIn [.events, .out, .regs] (.groupRestart false k) s fun t => rbit t .a (grpReg k 4) 1 = false ∧
          wakes (fun n => supplyGroup n == k.val) (fun n => rbit s .a (grpReg k 4) 2 || rbit s .a (sgReg (n / 8) 8) 1) t) ∧
      (rbit s .a (sgReg k 8) 1 = true → EndsIn [.events, .out, .regs] (.groupRestart true k) s fun t =>
        rbit t .a (sgReg k 8) 1 = false ∧ wakes (fun n => n / 8 == k.val)
          (fun n => rbit s .a (grpReg (supplyGroup n) 4) 1 || rbit s .a (grpReg (supplyGroup n) 4) 2) t) ∧
      (rbit s .a (grpReg k 4) 2 = false → EndsIn [.events, .out, .regs] (.lsUndervoltage k) s fun t =>
        if vbatP s k < uvLimit s then
          rbit t .a (grpReg k 4) 2 = true ∧ ∀ n : Fin 32, supplyGroup n = k.val → lsBit t n 0 = false ∧ lsBit t n 4 = lsBit s n 4
        else t = s) ∧
      (rbit s .a (grpReg k 4) 2 = true → EndsIn [.events, .out, .regs] (.lsUvRestart k) s fun t =>
        if uvLimit s + 50 ≤ vbatP s k then
          rbit t .a (grpReg k 4) 2 = false ∧ wakes (fun n => supplyGroup n == k.val)
            (fun n => rbit s .a (grpReg k 4) 1 || rbit s .a (sgReg (n / 8) 8) 1) t
        else t = s) ∧
      uvLimit s = (if rbit s s.sup.active 0xF0380000 1 then 1600 else 600) ∧
      (∀ (raw : BitVec 16) d, tget s.out.dirs k.val = some d → d.at_ ≤ s.now → d.ch < 8 →
        EndsIn [.out, .regs] (.directedConversionDone k raw) s fun t => tget t.out.dirs k.val = none ∧ regsBut [sgReg k 4] s t ∧
          rget t .a (sgReg k 4) = 2 ^ 31 + d.ch * 65536 + senseCode s (8 * k + d.ch) raw.toNat)) ∧
    (moduleF s ≤ amps (rfld s .a 0xF0380010 7 0) → EndsIn [.regs] (.moduleShed false) s fun t => regsBut [0xF0380004] s t ∧
      nbit (rget t .a 0xF0380004) 8 = false) ∧
    (∀ ovr, ovr ≠ moduleOver s → EndsIn [] (.moduleShed ovr) s fun _ => True) ∧
    (amps (rfld s .a 0xF0380010 7 0) < moduleF s → outFrozen s = false → shedStep s = false →
      (shedCandidate s = none → EndsIn [.regs] (.moduleShed true) s fun t => regsBut [0xF0380004] s t ∧
        nbit (rget t .a 0xF0380004) 8 = true) ∧
      (∀ n, shedCandidate s = some n → EndsIn [.events, .out, .regs] (.moduleShed true) s fun t =>
        regsBut [0xF0380004, lsReg n 4] s t ∧ lsBit t n 0 = false ∧ lsBit t n 5 = true ∧ t.out.shedLast = some (s.now, n))) ∧
    (∀ n : Fin 24, let st := pvReg n 0x14
      (pvEnabled s n = true → pvLatched s n = false → EndsIn [.events, .regs] (.pvShort n) s fun t => regsBut [st] s t ∧
        pvLatched t n = true ∧ rbit t .a st 10 = true) ∧
      (pvEnabled s n = true → pvDuty s n = 0 → EndsIn [.events, .regs] (.pvShortbat n true) s fun t => regsBut [st] s t ∧
        rbit t .a st 4 = true ∧ rbit t .a st 11 = true) ∧
      (pvEnabled s n = true → pvLatched s n = false → 3277 ≤ pvDuty s n → EndsIn [.events, .regs] (.pvOpen n true) s fun t =>
        regsBut [st] s t ∧ rbit t .a st 3 = true ∧ rbit t .a st 9 = true) ∧
      EndsIn [.regs] (.pvShortbat n false) s (fun t => regsBut [st] s t ∧ rbit t .a st 4 = false) ∧
      EndsIn [.regs] (.pvOpen n false) s (fun t => regsBut [st] s t ∧ rbit t .a st 3 = false) ∧
      (∀ h, (tget s.out.pv n).high = some h →
        (160 * rfld s .a (pvReg n 0) 31 24 < rfld s .a (pvReg n 0x10) 15 0 → h + 250000 ≤ s.now →
          EndsIn [.events, .regs] (.pvOver n) s fun t => regsBut [st] s t ∧ rbit t .a st 8 = true) ∧
        (s.now < h + 250000 → EndsIn [] (.pvOver n) s fun _ => True)))

/-- R124 to R129, R134, R136: an edge of an ANG channel that ANGMODE does not turn off reaches each TOOTH halyard of both lanes
that listens to it: faster than 2 µs it sets the flag and ends SYNC; without a pattern the third edge enters SYNC at tooth 0 at
the smallest position at or beyond the last one; in SYNC a forward edge advances tooth and position by the distance of the
teeth; STALLTMO without an edge stalls and ends SYNC; configuration is taken while the source is OFF (OFF itself always) and in
range, else rejected with STATE or RANGE, LOCKED ahead of both; it never takes the position back; FEEDD is stored, FEEDT commits
a sample. -/
def Obligations.Halyards : Prop :=
  ∀ (s : State) (l : LaneId) (n : Fin 16), let h := s.hy l n
    (∀ (ch : Fin 16) (rise : Bool), s.dark = false →
      (nfld (sget s .hal 0x14) (2 * ch + 1) (2 * ch) = 0 → EndsIn [] (.angEdge ch rise) s fun _ => True) ∧
      (nfld (sget s .hal 0x14) (2 * ch + 1) (2 * ch) ≠ 0 →
        EndsIn [.ang, .cam, .cores, .dram, .dq, .entries, .events, .hsi, .hy, .lpe, .pcl, .regs, .ringDrop, .sels, .seqs] (.angEdge ch rise) s (fun t => t.ang = tset s.ang ch rise) ∧
        (hySrc s l n = 1 → hyInput s l n = ch → rfld s l (hyReg n 0) 21 20 = (if rise then 1 else 2) →
          let fast := ∃ u, h.edgeA = some u ∧ s.now - u < 500
          let slots := hySlots s l n
          Ends (.angEdge ch rise) s fun t =>
            (fast → rbit t l (hyReg n 0x2C) 9 = true ∧ (h.sync = .sync → (t.hy l n).sync = .seek ∧ (t.hy l n).speed = 0)) ∧
            (¬ fast → (t.hy l n).edgeA = some s.now ∧ (t.hy l n).stall = false) ∧
            (¬ fast → hyPattern s l n = none → h.sync = .seek → h.seen + 1 < 3 → (t.hy l n).sync = .seek ∧
              (t.hy l n).edges = (s.now :: h.edges).take 3 ∧ (t.hy l n).seen = h.seen + 1) ∧
            (¬ fast → hyPattern s l n = none → h.sync = .seek → 3 ≤ h.seen + 1 → (t.hy l n).sync = .sync ∧
              (t.hy l n).idx = some 0 ∧ (t.hy l n).pub = max h.pub (65536 *
                turnUp ((rfld s l (hyReg n 8) 23 0 + slots.getD 0 0) % 2 ^ 24) (h.pub / 65536))) ∧
            (¬ fast → hyPattern s l n = none → h.sync = .sync → h.backlog = 0 → (t.hy l n).sync = .sync ∧
              (t.hy l n).idx = some ((h.idx.getD 0 + 1) % max 1 slots.length) ∧
              (t.hy l n).q = h.q + slotDist slots (h.idx.getD 0) ∧ (t.hy l n).t = s.now)))) ∧
    (s.dark = false →
      (extrapolates (hySrc s l n) = true → h.stall = false → h.stallBase + 250 * rfld s l (hyReg n 0x1C) 19 0 ≤ s.now →
        EndsIn [.cores, .entries, .hy, .regs] (.halyardStall l n) s fun t => (t.hy l n).stall = true ∧
          (t.hy l n).sync = (if h.sync = .sync then .seek else h.sync) ∧ (t.hy l n).pub = h.pub) ∧
      (∀ v : Word, hySrc s l n = 5 → EndsIn [.hy] (.feedIncrement l n v) s fun t =>
        t.hy l n = { h with feedd := v } ∧ t.hy l.other n = s.hy l.other n) ∧
      (∀ v : Word, hySrc s l n ≠ 5 → EndsIn [.regs] (.feedIncrement l n v) s fun t =>
        regsBut [0xF010000C] s t ∧ nfld (rget t l 0xF010000C) 7 0 = 1) ∧
      (∀ (r : HalReg) (v : Word), let m := halMask r v.toNat
        let locked := rbit s l 0xF0100000 31 = true ∧ m ≠ rget s l (0xF0100000 + halOff n r)
        let off := r = .cfg ∧ nfld m 3 0 = 0
        let rejected (k : Nat) := EndsIn [.regs] (.halyardConfig l n r v) s fun t =>
          regsBut [0xF010000C] s t ∧ nfld (rget t l 0xF010000C) 7 0 = k
        (locked → rejected 2) ∧ (¬ locked → hySrc s l n ≠ 0 → ¬ off → rejected 1) ∧
        (¬ locked → (hySrc s l n = 0 ∨ off) → halBad n r m = true → rejected 4) ∧
        (¬ locked → (hySrc s l n = 0 ∨ off) → halBad n r m = false →
          (r ≠ .cfg → EndsIn [.regs] (.halyardConfig l n r v) s fun t =>
            regsBut [0xF0100000 + halOff n r] s t ∧ rget t l (0xF0100000 + halOff n r) = m) ∧
          (r = .cfg → EndsIn [.cores, .entries, .hy, .regs] (.halyardConfig l n r v) s fun t => rget t l (hyReg n 0) = m ∧
            (t.hy l n).sync = (if nfld m 3 0 = 0 then .off else .seek) ∧ (t.hy l n).speed = 0 ∧
            (s.hy l n).pub ≤ (t.hy l n).pub ∧ (t.hy l n).backlog = 0)))) ∧
    (∀ v : Word, s.lanesUp = true → hySrc s l n = 5 → let at_ := extend32 s.now v.toNat
      ((∀ u, h.sampleT = some u → u < at_) →
        EndsIn [.cam, .dram, .dq, .entries, .events, .hsi, .hy, .lpe, .pcl, .regs, .ringDrop, .sels, .seqs] (.feedCommit l n v) s fun t =>
          (t.hy l n).sampleT = some at_ ∧ (t.hy l n).samples = h.samples + 1 ∧
          (h.sync = .seek → h.samples = 0 → 0 ≤ h.feedd.toInt → h.backlog = 0 →
            (t.hy l n).sync = .seek ∧ (t.hy l n).firstInc = h.feedd.toInt.toNat) ∧
          (h.sync = .seek → h.samples ≠ 0 → (t.hy l n).sync = .sync)) ∧
      (∀ u, h.sampleT = some u → at_ ≤ u → Ends (.feedCommit l n v) s fun t => nfld (rget t l 0xF010000C) 7 0 = 0x10 ∧
        t.hy l n = h))

/-- R139 to R151, R154: an enabled entry whose halyard is in SYNC and near its position takes its snapshot when the scan visits
it; at the limit of 1,024 it waits and counts once; one that is already past is skipped, or fires late; the first in the order
of R144 of those that have reached their position fires in a live lane, an EVENT action posting to its core; completion counts
OCC and advances a repeating entry or disables the other; a commit stores the staging words with the next generation and tells
WSTAT, a commit out of range is rejected; a cancel ends an armed entry, or is too late once its halyard has reached it; FIRE_EN
= 0 disarms what is not firing. -/
def Obligations.EventTable : Prop :=
  ∀ (s : State) (l : LaneId) (e : Fin 4096), s.lanesUp = true → let x := s.ent l e
    (evtOn s l = true → s.now % 4096 = e → x.en = true → x.snap = none → inSync s l x.hyOf = true →
      (hyReached s l x.hyOf x.q = false →
        (x.q + 2 ^ 56 - hyP s l x.hyOf) % 2 ^ 56 ≤ rfld s l (hyReg x.hyOf 0x18) 23 0 → armedCount s l < 1024 →
        EndsIn [.entries] (.entryArm l e) s fun t => t.ent l e = { x with held := false, snap := some x.snapshot } ∧
          (∀ k : Fin 4096, k ≠ e → t.ent l k = s.ent l k) ∧ (t.lane l.other).entries = (s.lane l.other).entries) ∧
      (hyReached s l x.hyOf x.q = false →
        (x.q + 2 ^ 56 - hyP s l x.hyOf) % 2 ^ 56 ≤ rfld s l (hyReg x.hyOf 0x18) 23 0 → 1024 ≤ armedCount s l → x.held = false →
        EndsIn [.entries, .regs] (.entryArm l e) s fun t => t.ent l e = { x with held := true } ∧
          rget t l 0xF0140030 = min (rget s l 0xF0140030 + 1) (2 ^ 32 - 1) ∧ rbit t l 0xF0140004 16 = true) ∧
      (hyReached s l x.hyOf x.q = true → bit x.w2 15 = true → Ends (.entryArm l e) s fun t => supFrame s t ∧
        rget t l 0xF0140028 = min (rget s l 0xF0140028 + 1) (2 ^ 32 - 1) ∧ rbit t l 0xF0140004 18 = true ∧
        rget t l 0xF0140034 = (rget s l 0xF0140034 + 1) % 2 ^ 32 ∧
        t.ent l e = { x with held := false, missed := false, lastLate := true,
                             snap := some { x.snapshot with firing := true } }) ∧
      (hyReached s l x.hyOf x.q = true → bit x.w2 15 = false → EndsIn [.entries, .regs] (.entryArm l e) s fun t =>
        rget t l 0xF0140024 = min (rget s l 0xF0140024 + 1) (2 ^ 32 - 1) ∧ rbit t l 0xF0140004 17 = true ∧
        (t.ent l e).missed = true ∧ (x.repeats = false → (t.ent l e).en = false))) ∧
    (∀ y, (s.lane l).live = true → x.snap = some y → y.firing = false → hyReached s l y.hy y.q = true →
      (∀ m ∈ fireDue s l, fireBefore (y.hy, posKey s l y.hy y.q, e.val) m = true) →
      Ends (.entryFire l e) s (fun t => supFrame s t ∧ t.ent l e = { x with missed := false, lastLate := false, snap := some { y with firing := true } } ∧
        rget t l 0xF0140034 = (rget s l 0xF0140034 + 1) % 2 ^ 32) ∧
      (y.act = 1 → EndsIn [.entries, .regs, .events] (.entryFire l e) s fun t => regsBut [0xF0140034] s t ∧
        t.core l y.core = (s.core l y.core).post ⟨1, y.arg % 256, e + y.gen % 16 * 4096, y.turn, false⟩)) ∧
    (∀ y, x.snap = some y → y.firing = true → y.commit = none → x.lastLate = false →
      let done := { x with snap := none, occ := (x.occ + 1) % 65536, fgen := y.gen }
      let z := if x.repeats then { done with w1 := x.w1 + u32 x.step } else { done with w2 := setBit x.w2 14 false }
      (evtOn s l && isMissed s l z) = false → EndsIn [.entries] (.occurrenceComplete l e) s fun t => t.ent l e = z) ∧
    (∀ c : Fin 8, let b (k : Nat) : Word := tget (s.core l c).wbuf k
      let gen := (fld x.w2 23 16 + 1) % 256
      (commitBad (b 0) (b 2) (b 3) = true → EndsIn [.regs] (.entryCommit l c e) s fun t =>
        regsBut [0xF014000C] s t ∧ nfld (rget t l 0xF014000C) 7 0 = 4) ∧
      (commitBad (b 0) (b 2) (b 3) = false →
        let words := { x with w0 := b 0, w1 := b 1, w2 := setFld (b 2) 23 16 (fld x.w2 23 16 + 1), w3 := b 3, held := false }
        let keep := words.repeats && x.en
        let new := if keep then { words with w1 := x.w1 } else words
        (x.snap = none → (keep && hyReached s l new.hyOf new.q) = false → (evtOn s l && isMissed s l new) = false →
          EndsIn [.entries, .cores] (.entryCommit l c e) s fun t => t.ent l e = new ∧
            (t.core l c).wstat = u32 (gen * 2 ^ 20 + e * 2 ^ 8)) ∧
        (∀ y, x.snap = some y → EndsIn [.entries, .cores] (.entryCommit l c e) s fun t =>
          (t.ent l e).snap = some { y with commit := some x.en } ∧ (t.ent l e).w0 = b 0 ∧ (t.ent l e).w3 = b 3 ∧
          (t.ent l e).w1 = new.w1 ∧ (t.ent l e).w2 = new.w2 ∧ (t.core l c).wstat = u32 (gen * 2 ^ 20 + e * 2 ^ 8 + 1))) ∧
      (x.snap = none → EndsIn [.cores] (.entryCancel l c e) s fun t =>
        (t.core l c).wstat = u32 (fld x.w2 23 16 * 2 ^ 20 + e * 2 ^ 8 + 3)) ∧
      (∀ y, x.snap = some y → (y.firing = true ∨ hyReached s l y.hy y.q = true) → EndsIn [.cores] (.entryCancel l c e) s fun t =>
        (t.core l c).wstat = u32 (fld x.w2 23 16 * 2 ^ 20 + e * 2 ^ 8 + 4)) ∧
      (∀ y, x.snap = some y → y.firing = false → hyReached s l y.hy y.q = false → y.commit = none →
        let off := { x with snap := none }
        let z := if x.repeats then { off with w1 := x.w1 + u32 x.step } else { off with w2 := setBit x.w2 14 false }
        (evtOn s l && isMissed s l z) = false → EndsIn [.entries, .cores] (.entryCancel l c e) s fun t => t.ent l e = z ∧
          (t.core l c).wstat = u32 (fld x.w2 23 16 * 2 ^ 20 + e * 2 ^ 8 + 2))) ∧
    Ends (.fireEn l true) s (fun t => supFrame s t ∧ rbit t l 0xF0140000 0 = true ∧ rbit t l 0xF0140000 31 = rbit s l 0xF0140000 31) ∧
    (rbit s l 0xF0140000 0 = true → EndsIn [.entries, .regs] (.fireEn l false) s fun t => rbit t l 0xF0140000 0 = false ∧
      (x.snap.all (fun y => !y.firing && !hyReached s l y.hy y.q) → (t.ent l e).snap = none) ∧
      (∀ y, x.snap = some y → y.firing = true ∨ hyReached s l y.hy y.q = true → (t.ent l e).snap = x.snap) ∧
      (t.ent l e).en = x.en ∧ (t.ent l e).held = false)

/-- R164 to R166, R171, R178, R179, R182 to R184, R221: a periodic request of a context in service joins the queue with its
sources, or counts as an overrun; the engine takes the oldest; an invalid measurement holds the context at its output; else, in
RUN without injection, ramp limit or pending image, the output is the law's, clamped to HIGH over LOW (stated for a constant
set-point); ENABLE, DISABLE, HOLD and RESUME move the state; an injector starts on a context in RUN, which is in INJECT from its
next sample; a capture channel arms, is triggered, is aborted; a conversion of an enabled PV channel that is due stores its
mean. -/
def Obligations.LoopContexts : Prop :=
  ∀ (s : State) (l : LaneId), s.lanesUp = true →
    (∀ c : Fin 512, let st := lcState s l c
      let w := lcWords s l c
      let queue := (s.lane l).lpe.queue
      (nfld (lwd w 0) 9 8 = 1 → nfld (lwd w 0) 31 16 ≠ 0 → 250 * nfld (lwd w 1) 15 0 ≤ s.now →
        (s.now - 250 * nfld (lwd w 1) 15 0) % (250 * nfld (lwd w 0) 31 16) = 0 → st ≠ 0 →
        (queue.any (fun r => r.ctx == c.val) = false → queue.length < 64 → EndsIn [.lpe] (.periodicRequest l c) s fun t =>
          (t.lane l).lpe = { (s.lane l).lpe with queue := reqJoin (sampleReq s l c) queue } ∧
          ((∀ r ∈ queue, r.at_ = s.now → r.ctx ≤ c) → (t.lane l).lpe.queue = queue ++ [sampleReq s l c]) ∧
          (t.lane l.other).lpe = (s.lane l.other).lpe) ∧
        (queue.any (fun r => r.ctx == c.val) = false → queue.length = 64 → EndsIn [.events, .lpe, .regs] (.periodicRequest l c) s fun t =>
          rget t l 0xF0200014 = min (rget s l 0xF0200014 + 1) (2 ^ 32 - 1) ∧ rbit t l 0xF0200004 17 = true ∧
          (t.lane l).lpe.queue.length = 64) ∧
        (queue.any (fun r => r.ctx == c.val) = true → EndsIn [.events, .regs] (.periodicRequest l c) s fun t =>
          rget t l 0xF0200010 = min (rget s l 0xF0200010 + 1) (2 ^ 32 - 1) ∧ rbit t l (lcReg c) 13 = true)) ∧
      (st = 0 → firstBad c w = none → EndsIn [.events, .recd, .regs] (.lpeEnable l c) s fun t => lcState t l c = 1 ∧
        nbit (rget t l (lcLive c 43)) 10 = true ∧ (∀ k : Fin 20, rget t l (lcLive c (44 + k)) = 0) ∧
        (∀ k : Fin 43, rget t l (lcLive c k) = rget s l (lcLive c k))) ∧
      (st ≠ 0 → EndsIn [.regs] (.lpeEnable l c) s fun t => regsBut [0xF020000C] s t ∧ nfld (rget t l 0xF020000C) 7 0 = 1) ∧
      (st ≠ 0 → Ends (.lpeDisable l c) s fun t => supFrame s t ∧ lcState t l c = 0) ∧
      (st ≠ 0 → st ≠ 4 → EndsIn [.events, .lpe, .recd, .regs] (.lpeHold l c) s fun t => lcState t l c = 4 ∧
        rfld t l (lcReg c) 4 3 = if st = 1 then 1 else 0) ∧
      (st = 4 → EndsIn [.events, .recd, .regs] (.lpeResume l c) s fun t =>
        lcState t l c = (if rfld s l (lcReg c) 4 3 = 0 then 2 else 1) ∧
        (2 ≤ rfld s l (lcReg c) 4 3 → nbit (rget t l (lcLive c 43)) 10 = true)) ∧
      (∀ r rest, queue = r :: rest → r.ctx = c →
        Ends (.sampleStep l) s (fun t => supFrame s t ∧ (t.lane l).lpe.queue = rest ∧
          rget t l 0xF020001C = (rget s l 0xF020001C + 1) % 2 ^ 32) ∧
        (st = 0 → EndsIn [.lpe, .regs] (.sampleStep l) s fun t => lcState t l c = 0 ∧
          ∀ k : Fin 64, rget t l (lcLive c k) = rget s l (lcLive c k)) ∧
        (∀ n, rbit s l (lcReg c) 5 = false → st = 2 → injOn s l c = some n → (∀ p ∈ lcMeas w, (lcRead s l r w p.2).2 = true) →
          lfl w 43 10 10 = 0 → (tget (s.lane l).lpe.injs n).k + 1 < rfld s l (injReg n 0x10) 23 0 →
          Ends (.sampleStep l) s fun t => lcState t l c = 3 ∧
            (tget (t.lane l).lpe.injs n).k = (tget (s.lane l).lpe.injs n).k + 1) ∧
        (rbit s l (lcReg c) 5 = false → st = 2 → injOn s l c = none → (∀ p ∈ lcMeas w, (lcRead s l r w p.2).2 = true) → lfl w 43 10 10 = 0 →
          selKind (lwd w 3) = 0 → lfl w 0 7 7 = 0 → tget (s.lane l).lpe.dirty c = false →
          let y := (lcRead s l r w (lwd w 2)).1
          let sp := lqL w 4
          let o := law (setL w 40 sp) y (sat16 (sat16 sp - y)) (sat16 sp)
            ((lcMeas w).tail.map fun p => (lcRead s l r (setL w 40 sp) p.2).1)
          Ends (.sampleStep l) s fun t => lcState t l c = 2 ∧
            rfld t l (lcLive c 41) 15 0 = pattern 16 (min (max (sat16 o.2.1) (lqL w 6)) (lqH w 6)) ∧
            rfld t l (lcLive c 40) 31 16 = pattern 16 y) ∧
        (rbit s l (lcReg c) 5 = false → st ≠ 0 → st ≠ 4 → (∃ p ∈ lcMeas w, (lcRead s l r w p.2).2 = false) →
          tget (s.lane l).lpe.dirty c = false →
          Ends (.sampleStep l) s fun t => lcState t l c = 4 ∧ rfld t l (lcReg c) 4 3 = 2 ∧ rbit t l (lcReg c) 11 = true ∧
            rget t l (lcLive c 41) = rget s l (lcLive c 41)))) ∧
    (∀ n : Fin 4, let j := tget (s.lane l).lpe.injs n
      let c := nfld (rget s l (injReg n 0)) 8 0
      (injOn s l c = none → lcState s l c = 2 → injOk s l n = true → EndsIn [.lpe] (.injStart l n) s fun t =>
        (tget (t.lane l).lpe.injs n).busy = true ∧ (tget (t.lane l).lpe.injs n).ctx = c ∧
        (tget (t.lane l).lpe.injs n).k = 0) ∧
      (injOn s l c ≠ none ∨ lcState s l c ≠ 2 ∨ injOk s l n = false → EndsIn [.regs] (.injStart l n) s fun t =>
        regsBut [0xF020000C] s t ∧ nfld (rget t l 0xF020000C) 7 0 =
          if injOn s l c = none then (if lcState s l c = 2 then 4 else 1) else if injOn s l c = some n.val then 1 else 0x11) ∧
      (j.busy = true → injOn s l j.ctx = some n.val → EndsIn [.events, .lpe, .regs] (.injStop l n) s fun t =>
        lcState t l j.ctx = 2 ∧ (tget (t.lane l).lpe.injs n).busy = false ∧ rbit t l (injReg n 8) 2 = true) ∧
      (((s.cap l n).state = 0 ∨ (s.cap l n).state = 3) → EndsIn [.lpe] (.capArm l n) s fun t =>
        t.cap l n = { state := 1, fill := 0x8000 } ∧ ∀ m : Fin 4, m ≠ n → t.cap l m = s.cap l m) ∧
      (((s.cap l n).state = 1 ∨ (s.cap l n).state = 2) → EndsIn [.regs] (.capArm l n) s fun t =>
        regsBut [0xF020000C] s t ∧ nfld (rget t l 0xF020000C) 7 0 = 5) ∧
      ((s.cap l n).state = 1 → rbit s l (capReg n 0) 12 = true → EndsIn [.lpe] (.capTrignow l n) s fun t =>
        t.cap l n = { s.cap l n with trig := true }) ∧
      (((s.cap l n).state = 1 ∨ (s.cap l n).state = 2) → EndsIn [.events, .lpe, .regs] (.capAbort l n) s fun t =>
        t.cap l n = { s.cap l n with state := 0, trig := false } ∧ rbit t l (capReg n 0xC) 4 = true)) ∧
    (∀ (n : Fin 24) (k : Nat),
      (pvEnabled s n = true → (tget s.out.pv n).conv < k → k ≤ pvConvs s n →
        let meas := (if stageBench s then (pvOnTime s n).1 * rfld s .a 0xF0000044 15 0 / max 1 (pvOnTime s n).2
          else pvMean s n (k * rfld s .a (pvReg n 0) 15 12)) % 65536
        EndsIn [.events, .lpe, .out, .regs] (.pvConversion n k) s fun t => rget t l (pvReg n 0x10) = meas ∧
        t.out = { s.out with pv := tset s.out.pv n { tget s.out.pv n with
          conv := k
          high := if 160 * rfld s .a (pvReg n 0) 31 24 < meas then some ((tget s.out.pv n).high.getD s.now) else none } }) ∧
      (pvEnabled s n = false ∨ k ≤ (tget s.out.pv n).conv ∨ pvConvs s n < k → EndsIn [] (.pvConversion n k) s fun _ => True))

/-- R248, R251 to R255, R258 to R267, R270: an input whose condition has persisted for 10 ms, or been absent for 100 ms, and a
loss sensor found faulty, or recovered, set or clear the flag and post INFAULT; the owning lane's writes of a function slot
store target, limits, rate, owner, then checkpoint number, and bindings within the rules of R262, R263 and R265, a change
advancing FNGEN; LOADCP loads the selected slots; a tick moves each target by at most RATE; a sample at or above the threshold
begins an impact and counts, one below does not; counting windows open, close, time out, and their records, like snapshots, go
to their rings. -/
def Obligations.HarvestSensing : Prop :=
  ∀ s : State, s.dark = false → s.faulty .hsi = false →
    let R (off : Nat) : Nat := 0xF0400000 + off
    (∀ i : Fin 36, (inFaulty s i = false → inHas s i 500 true = true → EndsIn [.events, .regs] (.inputFault i) s fun t => posted s t .hsi 3 i ∧
        regsBut [R (inOff i + 0x14)] s t ∧ rfld t .a (R (inOff i + 0x14)) 1 0 = 3) ∧
      (inFaulty s i = true → inHas s i 5000 false = true → EndsIn [.events, .regs] (.inputFaultClear i) s fun t =>
        posted s t .hsi 3 (i + 256) ∧ regsBut [R (inOff i + 0x14)] s t ∧ inFaulty t i = false) ∧
      (inFaulty s i = true ∨ inHas s i 500 true = false → EndsIn [] (.inputFault i) s fun _ => True) ∧
      (inFaulty s i = false ∨ inHas s i 5000 false = false → EndsIn [] (.inputFaultClear i) s fun _ => True)) ∧
    (∀ (n : Fin 16) (fault : Bool), sfld s .hsi (lsnOff n 8) 1 1 = b2n (!fault) →
      EndsIn [.events, .hsi, .regs] (.lossSensorFault n fault) s fun t => posted s t .hsi 3 (48 + n + b2n (!fault) * 256) ∧
        regsBut [R (lsnOff n 8)] s t ∧ sfld t .hsi (lsnOff n 8) 1 1 = b2n fault ∧
        (fault = true → sfld t .hsi (lsnOff n 8) 0 0 = 1 ∧ ∀ w ∈ (t.loss n).win, w.sensflt = true)) ∧
    (∀ (n : Fin 16) (x : BitVec 14), let c := s.loss n
      sfld s .hsi (lsnOff n 0) 0 0 = 1 → c.k = s.now / 500 → c.imp = none → c.armed = true → 1 < sfld s .hsi (lsnOff n 0) 15 8 →
      (sfld s .hsi (lsnOff n 4) 12 0 ≤ x.toInt.natAbs → EndsIn [.hsi, .regs] (.lossImpact n [x]) s fun t =>
        (t.loss n).imp = some { tick := 500 * c.k, e := x.toInt.natAbs, retrig := false } ∧ (t.loss n).armed = false ∧
        (t.loss n).k = c.k + 1 ∧ (t.loss n).kc = c.k ∧
        rget t .a (R (lsnOff n 0xC)) = min (rget s .a (R (lsnOff n 0xC)) + 1) (2 ^ 32 - 1)) ∧
      (x.toInt.natAbs < sfld s .hsi (lsnOff n 4) 12 0 → EndsIn [.hsi, .regs] (.lossImpact n [x]) s fun t =>
        (t.loss n).imp = none ∧ (t.loss n).k = c.k + 1 ∧ rget t .a (R (lsnOff n 0xC)) = rget s .a (R (lsnOff n 0xC)))) ∧
    (∀ (l : LaneId) (mask : BitVec 16) (sec : BitVec 6), s.owns l = true →
      EndsIn [.hsi] (.lossWindowOpen l mask sec) s (fun t => ∀ n : Fin 16,
        (nbit mask.toNat n = true → sfld s .hsi (lsnOff n 0) 0 0 = 1 → (t.loss n).win = some {
            opened := s.now, sector := sec.toNat, sensflt := sfld s .hsi (lsnOff n 8) 1 1 == 1 } ∧
          (t.loss n).closed = (s.loss n).closed ++
            (s.loss n).win.toList.map fun w => { w with closed := some s.now, chained := true, timeout := false }) ∧
        (nbit mask.toNat n = false → t.loss n = s.loss n)) ∧
      EndsIn [.hsi, .regs] (.lossWindowClose l mask sec) s fun t => ∀ n : Fin 16,
        (∀ w, nbit mask.toNat n = true → sfld s .hsi (lsnOff n 0) 0 0 = 1 → (s.loss n).win = some w →
          (w.sector = sec.toNat → (t.loss n).win = none ∧ (t.loss n).closed = (s.loss n).closed ++
            [{ w with closed := some s.now, chained := false, timeout := false }]) ∧
          (w.sector ≠ sec.toNat → t.loss n = s.loss n ∧ sfld t .hsi (lsnOff n 8) 3 3 = 1)) ∧
        (nbit mask.toNat n = false → t.loss n = s.loss n)) ∧
    (∀ (n : Fin 16) w, (s.loss n).win = some w → let stop := w.opened + 250000 * sfld s .hsi (lsnOff n 0) 23 16
      stop ≤ s.now → EndsIn [.hsi] (.windowTimeout n) s fun t => (t.loss n).win = none ∧
        (t.loss n).closed = (s.loss n).closed ++ [{ w with closed := some stop, chained := false, timeout := true }]) ∧
    (∀ (n : Fin 16) w rest, (s.loss n).closed = w :: rest → s.now / 500 < (s.loss n).k → winReady s n w = true →
      EndsIn [.dram, .dq, .events, .hsi, .pcl, .regs, .ringDrop] (.lossRecordWrite n) s fun t => (t.loss n).closed = rest ∧
        t.hsi.lossSeq = (s.hsi.lossSeq + 1) % 2 ^ 32 ∧ ringTook s t 12 lossRing 64 (winBytes s.hsi.lossSeq n w)) ∧
    (∀ (g : Fin 32) tick rest, s.hsi.trig = (tick, g.val) :: rest →
      EndsIn [.dram, .dq, .events, .hsi, .pcl, .regs, .ringDrop] (.adcSnapshot g) s fun t => t.hsi.trig = rest ∧
        t.hsi.snapSeq = (s.hsi.snapSeq + 1) % 2 ^ 32 ∧ ringTook s t 12 snapRing 128 (snapBytes s s.hsi.snapSeq g tick)) ∧
    ((s.hsi.msIdx + 1) * 250000 ≤ s.now → EndsIn [.hsi, .regs] .fnTick s fun t => t.hsi.msIdx = s.hsi.msIdx + 1 ∧
      ∀ n : Fin 48, let rate : Int := sget s .hsi (fnOff n 0xC) % 65536
        let at_ := signed 24 (sget s .hsi (fnOff n 0x10))
        let goal := fnQ s n 0 0 * 256
        sget t .hsi (fnOff n 0x10) = pattern 24 (if rate = 0 then goal else at_ + clampI (-rate) rate (goal - at_))) ∧
    (∀ (l : LaneId) (n : Fin 48) (v : Word), s.owns l = true →
      let gen (t : State) (off : Nat) : Prop := sget t .hsi 0x10 =
        if sget t .hsi (fnOff n off) = sget s .hsi (fnOff n off) then sget s .hsi 0x10 else (sget s .hsi 0x10 + 1) % 2 ^ 32
      let target (i : Instr) : Prop := EndsIn [.events, .recd, .regs] i s fun t => gen t 0 ∧
        sget t .hsi (fnOff n 0) = pattern 16 (clampI (fnQ s n 8 0) (fnQ s n 8 16) (signed 16 v.toNat))
      let refused (i : Instr) (r : Nat) : Prop := EndsIn [.regs] i s fun t => regsBut [R 0xC] s t ∧
        nfld (rget t l (R 0xC)) 7 0 = r
      (fnOwner s n = 0 → target (.fnCtgtWrite l n v) ∧ refused (.fnTtgtWrite l n v) 0x10) ∧
      (fnOwner s n = 1 → target (.fnTtgtWrite l n v) ∧ refused (.fnCtgtWrite l n v) 0x10) ∧
      (fnOwner s n = 2 → ∀ i ∈ [Instr.fnCtgtWrite l n v, .fnTtgtWrite l n v, .fnLimWrite l n v, .fnRateWrite l n v,
        .fnBindWrite l n false v, .fnBindWrite l n true v], refused i 0x11) ∧
      (fnOwner s n ≠ 2 →
        (signed 16 v.toNat ≤ signed 16 (v.toNat / 65536) → EndsIn [.events, .recd, .regs] (.fnLimWrite l n v) s fun t =>
          sget t .hsi (fnOff n 8) = v.toNat) ∧
        (signed 16 (v.toNat / 65536) < signed 16 v.toNat → refused (.fnLimWrite l n v) 4) ∧
        EndsIn [.events, .recd, .regs] (.fnRateWrite l n v) s (fun t => gen t 0xC ∧ sget t .hsi (fnOff n 0xC) = v.toNat % 65536) ∧
        EndsIn [.events, .recd, .regs] (.fnBindWrite l n false v) s (fun t => gen t 0x1C ∧
          sget t .hsi (fnOff n 0x1C) = v.toNat &&& 0x81FF81FF) ∧
        EndsIn [.events, .recd, .regs] (.fnBindWrite l n true v) s (fun t => gen t 0x20 ∧
          sget t .hsi (fnOff n 0x20) = v.toNat &&& 0x81FF81FF)) ∧
      (v.toNat % 4 ≠ 3 → EndsIn [.events, .recd, .regs] (.fnCtlWrite l n v) s fun t =>
        let held := v.toNat % 4 = 2 ∧ nfld v.toNat 7 4 ≠ sfld s .hsi (fnOff n 0x18) 7 4
        fnOwner t n = v.toNat % 4 ∧ (¬ held → sfld t .hsi (fnOff n 0x18) 7 4 = nfld v.toNat 7 4) ∧
        (held → sfld t .hsi (fnOff n 0x18) 7 4 = sfld s .hsi (fnOff n 0x18) 7 4 ∧ nfld (rget t l (R 0xC)) 7 0 = 0x11)) ∧
      (v.toNat % 4 = 3 → refused (.fnCtlWrite l n v) 4)) ∧
    (∀ (l : LaneId) (p : Fin 16), s.owns l = true →
      let cp (n w : Nat) : Nat := sget s .hsi (0x2000 + 0x200 * p + 8 * n + 4 * w)
      (∀ n : Fin 48, nbit (lcpMask s) n = true → signed 16 (cp n 1) ≤ signed 16 (cp n 1 / 65536)) →
      EndsIn [.events, .recd, .regs] (.loadcp l p) s fun t => sget t .hsi 0x10 = (sget s .hsi 0x10 + 1) % 2 ^ 32 ∧
        ∀ n : Fin 48, nbit (lcpMask s) n = true → fnOwner s n ≠ 2 → sget t .hsi (fnOff n 8) = cp n 1 ∧
          sget t .hsi (fnOff n 0xC) = cp n 0 / 65536 ∧ sfld t .hsi (fnOff n 0x18) 7 4 = p ∧
          sget t .hsi (fnOff n 0x28) = (sget s .hsi 0x10 + 1) % 2 ^ 32) ∧
    (∀ (l : LaneId) (c : Fin 512), s.sup.active = l →
      ((∃ n : Fin 48, fnBinds s c n = true) → EndsIn [.events, .recd, .regs] (.boundContextReport l c) s fun t =>
        sget t .hsi 0x10 = (sget s .hsi 0x10 + 1) % 2 ^ 32) ∧
      ((∀ n : Fin 48, fnBinds s c n = false) → EndsIn [] (.boundContextReport l c) s fun _ => True))

/-- R275 to R280, R288 to R298: a PARCEL action of the owning lane waits in the queue until the position history has come to it;
the history takes one sample of each wanted halyard; a measurement whose exit lies on one parcel goes to it whole, with no
parcel it counts; a parcel past MAXLIFE closes, a closing one is written to ring and staging buffer when its grace is over;
FLUSH ends all; RUN starts after its checks and stops; a fix, a quality measurement, a yield read are taken within their ranges;
a staged record takes the next YIDX; a batch of stored records leaves on the export stream. -/
def Obligations.Parcels : Prop :=
  ∀ s : State, s.dark = false → s.faulty .pcl = false →
    let frame := [Part.dram, .dq, .events, .pcl, .regs, .ringDrop]
    (∀ (l : LaneId) (stage : Fin 16) (tag : BitVec 11), pclRuns s = true → s.owns l = true → s.pcl.queue = [] →
      let act_ (arg : Nat) : PAct := {
        arg := arg, tick := s.now, htb := s.now, width := sfld s .pcl 0x18 16 0, fix := s.pcl.fix, fixNew := s.pcl.fixNew, fngen := sget s .hsi 0x10
        sync := inSync s l (stgHy s (nfld arg 3 0)), clock := localCount s, state := s.tim.cstate.code }
      let arg := stage.val + tag.toNat * 16 + 32768
      (entryReady s (.act (act_ stage)) = false → EndsIn frame (.parcelStep l stage) s fun t =>
        t.pcl = { s.pcl with queue := [.act (act_ stage)] }) ∧
      (entryReady s (.act (act_ arg)) = false → EndsIn frame (.parcelCreate l stage tag) s fun t =>
        t.pcl = { s.pcl with queue := [.act (act_ arg)] }) ∧
      (stgEn s stage = false → EndsIn frame (.parcelStep l stage) s fun t => t.pcl = s.pcl ∧
        sget t .pcl 0x60 = min (sget s .pcl 0x60 + 1) (2 ^ 32 - 1))) ∧
    (s.now % 4096 = 0 → s.pcl.queue = [] → EndsIn frame .positionHistorySample s fun t => ∀ n : Fin 16,
      tget t.pcl.hist n = if histWanted s n = true ∧ histNewest s n ≠ some s.now
        then ((s.now, hyPos s s.sup.engOwner n) :: tget s.pcl.hist n).take 16384 else tget s.pcl.hist n) ∧
    (∀ m a b, s.sup.power ≠ .holdup → s.pcl.queue = [.meas m] → entryReady s (.meas m) = true → histAt s (stgHy s m.stage) m.ta = some a →
      histAt s (stgHy s m.stage) m.tb = some b →
      ((∀ p ∈ s.pcl.parcels, parcelAmt s m.stage a b p.2 = 0) → EndsIn frame .measurementAttribute s fun t =>
        t.pcl = { s.pcl with queue := [] } ∧ sget t .pcl 0x6C = min (sget s .pcl 0x6C + 1) (2 ^ 32 - 1)) ∧
      (∀ c p, s.pcl.parcels = [(c, p)] → parcelAmt s m.stage a b p ≠ 0 → m.kind = .mass → 0 < m.vals.getD 0 0 →
        p.mass + (m.vals.getD 0 0).toNat ≤ 2 ^ 32 - 1 →
        EndsIn frame .measurementAttribute s fun t => t.pcl.queue = [] ∧
          (tget t.pcl.parcels c).mass = p.mass + (m.vals.getD 0 0).toNat)) ∧
    (∀ (c : Fin 1024) p, tfind s.pcl.parcels c.val = some p →
      (due p.closing s.now = true → stagingRoom s = true → s.pcl.parcels.wf = true → EndsIn frame (.closingGraceEnd c) s fun t =>
        tfind t.pcl.parcels c.val = none ∧ ringTook s t 5 prRing 128 (fun _ => parcelBytes s p) ∧
        t.pcl.staging = if s.sup.modMode = .bench then s.pcl.staging else s.pcl.staging ++ [parcelBytes s p]) ∧
      (p.closing = none → p.tick + 250000000 * sfld s .pcl 0x38 9 0 ≤ s.now → EndsIn [.pcl] (.parcelExpire c) s fun t =>
        tget t.pcl.parcels c.val = { p with
          closing := some (s.now + 75000000), endshare := p.r, life := min ((s.now - p.tick) / 2500000) 65535
          flags := p.flags ||| 64 })) ∧
    (∀ l : LaneId, s.owns l = true →
      (s.pcl.parcels.wf = true → s.pcl.staging.length + s.pcl.parcels.length ≤ 4096 → EndsIn frame (.pclFlush l) s fun t =>
        t.pcl.parcels = [] ∧ (s.sup.modMode ≠ .bench → t.pcl.staging.length = s.pcl.staging.length + s.pcl.parcels.length)) ∧
      (sfld s .pcl 0 1 1 = 0 → (∀ k : Fin 12, stgEn s k = true → chainEnds s 12 k = true ∧ stgS s k ≠ 0 ∧
          ∀ r, stgRet s k = some r → stgEn s r = true) →
        EndsIn frame (.pclRun l true) s fun t => sfld t .pcl 0 1 1 = 1 ∧
          t.pcl = { s.pcl with ref := none, fixNew := false, snapPrev := [] }) ∧
      (sfld s .pcl 0 1 1 = 1 → EndsIn frame (.pclRun l false) s fun t => sfld t .pcl 0 1 1 = 0 ∧ t.pcl.queue = []) ∧
      (∀ v : Word, EndsIn [.pcl, .regs] (.fixCommit l v) s fun t => regsBut [] s t ∧ t.pcl = { s.pcl with
        fixNew := true
        fix := some (sget s .pcl 0x20 + sget s .pcl 0x24 * 2 ^ 32, sget s .pcl 0x28 + sget s .pcl 0x2C * 2 ^ 32,
          extend32 s.now v.toNat) }) ∧
      (∀ v : Word, let a := extend32 s.now (sget s .pcl 0x50)
        let b := extend32 s.now (sget s .pcl 0x54)
        let q (off lo : Nat) : Int := signed 16 (sfld s .pcl off (lo + 15) lo)
        (a < b → v.toNat % 16 < 12 → pclRuns s = true → s.pcl.queue.length < 224 →
          EndsIn [.pcl] (.qualSubmit l v) s fun t => t.pcl = { s.pcl with queue := s.pcl.queue ++ [.meas {
            kind := .qual, stage := v.toNat % 16, ta := a, tb := b, vals := [q 0x48 0, q 0x48 16, q 0x4C 0, q 0x4C 16] }] }) ∧
        (b ≤ a ∨ 12 ≤ v.toNat % 16 → EndsIn [.regs] (.qualSubmit l v) s fun t => regsBut [0xF048000C] s t ∧
          nfld (rget t l 0xF048000C) 7 0 = 4)) ∧
      (let idx := sget s .pcl 0xC0 + sget s .pcl 0xC4 * 2 ^ 32
        let n := sfld s .pcl 0xCC 6 0
        (s.pcl.read = none → 0 < n → n ≤ 64 → s.pcl.yold ≤ idx → idx + n ≤ s.pcl.yidx → EndsIn [.pcl] (.yread l) s fun t =>
          t.pcl = { s.pcl with read := some { idx := idx, cnt := n, buf := sget s .pcl 0xC8 } }) ∧
        (s.pcl.read.isSome = true → EndsIn [.regs] (.yread l) s fun t => nfld (rget t l 0xF048000C) 7 0 = 5))) ∧
    (s.pcl.read = none ∨ rqBlocked s 13 = true → EndsIn [] .yreadDone s fun _ => True) ∧
    (∀ r, s.pcl.read = some r → rqBlocked s 13 = false → (s.gib 0).wf = true → (∀ k b, tfind s.pcl.store k = some b → b.length = 128) →
      EndsIn [.dram, .dq, .events, .pcl] .yreadDone s fun t => posted s t .pcl 4 r.cnt ∧ t.pcl = { s.pcl with read := none } ∧
        ∀ k b, k < r.cnt → tfind s.pcl.store (r.idx + k) = some b → dramRead t 0 (r.buf + 128 * k) 128 = b) ∧
    (∀ b q, s.pcl.queue = [] → s.pcl.staging = b :: q → s.sup.modMode ≠ .bench → s.pcl.yidx - s.pcl.yold < 402653184 → EndsIn [.pcl] .yieldStored s fun t =>
      t.pcl.staging = q ∧ tfind t.pcl.store s.pcl.yidx = some b ∧ t.pcl.yidx = s.pcl.yidx + 1 ∧ t.pcl.yold = s.pcl.yold) ∧
    (let cfg := sget s .pcl 0xB0
      let n := nfld cfg 9 0
      let first := max s.pcl.ysent s.pcl.yold
      let cnt := min (s.pcl.yidx - first) (nfld cfg 19 16)
      nfld cfg 31 31 = 1 → cnt ≠ 0 → s.sup.modMode ≠ .bench → hstUp s = true →
      (nfld cfg 19 16 ≤ s.pcl.yidx - first ∨ tget s.pcl.storedAt first + 25000000 ≤ s.now) →
      sendBad s n (128 * cnt) (s.str s.sup.active n) = 0 →
      EndsIn [.hst, .pcl, .strs] .yieldBatchSend s fun t => t.pcl = { s.pcl with
          ysent := first + cnt, yjobs := tset s.pcl.yjobs (n * 2 ^ 32 + ((s.str s.sup.active n).seqA + 1) % 2 ^ 32) (first + cnt) } ∧ ∀ l : LaneId,
        (t.str l n).seqA = ((s.str l n).seqA + 1) % 2 ^ 32 ∧ ∃ j : Job, (t.str l n).sent = (s.str l n).sent ++ [j] ∧
          j.kind = 0x8001 ∧ j.body = (List.range cnt).flatMap fun k => sliceB (tget s.pcl.store (first + k)) 0 128)

/-- R306, R308, R310, R311, R330, R336: a link that was UP goes DOWN and from the next tick trains again (log entry 47), sets
LINKLOST, posts LINK and ends the open frames of its pipelines; a trained link is UP in its gear; an I²C transaction starts on a
link that is UP, is rejected BUSY or STATE else, and ends as DONE with the bytes read or as NACK (with 16 bytes the count does
not fit its field: a free value, log entry 5); a trigger, from a command or an event entry, counts, drives the output of a link
that is UP, opens a slot in each pipeline in trigger mode; PWRON and PWROFF switch a supply, PWRON on one that is on is
rejected, an over-current latches it off. A brown-out keeps PWRON and PWROFF for its end (log entry 26). -/
def Obligations.CameraLinks : Prop :=
  ∀ s : State, s.dark = false → s.faulty .cam = false → ∀ n : Fin 8,
    let R (off : Nat) : Nat := 0xF0500000 + clOff n off
    let k := s.link n
    (linkUp s n = true → EndsIn [.cam, .events, .regs] (.linkDown n) s fun t => (t.link n).st = .down ∧ (t.link n).shown s.now = .down ∧
        (t.link n).shown (s.now + 1) = .training ∧
      posted s t .cam 2 (n + k.gear * 2 ^ 9) ∧ regsBut [R 4] s t ∧ sfld t .cam (clOff n 4) 9 9 = 1 ∧
      (∀ m : Fin 8, m ≠ n → t.link m = s.link m) ∧
      ∀ (v : Fin 8) (f : CFrame), vpOf s v n = true → Claim.frame f ∈ (t.vp v).claims → f.ended = true) ∧
    (linkUp s n = false → EndsIn [] (.linkDown n) s fun _ => True) ∧
    (∀ gear : Fin 4, k.shown s.now = .training → 0 < gear.val → gear.val ≤ sfld s .cam (clOff n 0) 1 0 →
      EndsIn [.cam, .events] (.linkTrained n gear) s fun t => t.link n = { k with st := .up, gear := gear, lost := none } ∧
        posted s t .cam 2 (n + 2 ^ 8 + gear * 2 ^ 9)) ∧
    (∀ (l : LaneId) (v : Word), s.owns l = true → let wl := nfld v.toNat 19 16
      let rl := nfld v.toNat 11 8
      (k.i2c = none → linkUp s n = true → wl ≤ 8 → rl ≤ 8 → 0 < wl + rl → EndsIn [.cam, .regs] (.i2cTransaction l n v) s fun t =>
        t.link n = { k with i2c := some (i2cXfer s n v.toNat) } ∧ regsBut [R 0x24] s t ∧ sget t .cam (clOff n 0x24) = 1) ∧
      (k.i2c.isSome = true → Rejects .cam l 5 (.i2cTransaction l n v) s) ∧
      (k.i2c = none → linkUp s n = false → Rejects .cam l 1 (.i2cTransaction l n v) s)) ∧
    (∀ (y : I2cXfer) (cnt : Fin 16) (data : BitVec 64), k.i2c = some y → let rl := y.rlen
      EndsIn [.cam, .events, .free, .regs] (.i2cDone n true cnt data) s (fun t => t.link n = { k with i2c := none } ∧
        posted s t .cam 4 (n + 2 * 2 ^ 8) ∧ regsBut [R 0x1C, R 0x20, R 0x24] s t ∧ sfld t .cam (clOff n 0x24) 1 0 = 2 ∧
        (y.len < 16 → sfld t .cam (clOff n 0x24) 11 8 = y.len ∧ t.freeCtr = s.freeCtr) ∧
        (0 < rl → sget t .cam (clOff n 0x1C) = data.toNat % 2 ^ (8 * rl) % 2 ^ 32 ∧
          sget t .cam (clOff n 0x20) = data.toNat % 2 ^ (8 * rl) / 2 ^ 32)) ∧
      EndsIn [.cam, .events, .regs] (.i2cDone n false cnt data) s fun t => t.link n = { k with i2c := none } ∧
        posted s t .cam 4 (n + 3 * 2 ^ 8) ∧ regsBut [R 0x24] s t ∧ sfld t .cam (clOff n 0x24) 1 0 = 3) ∧
    (∀ l : LaneId, s.owns l = true → ∀ i ∈ [Instr.camTrig l n, .cameraTrigger l n],
      (s.lanesUp = false → EndsIn [] i s fun _ => True) ∧
      (s.lanesUp = true → EndsIn [.cam, .dram, .dq, .events, .regs] i s fun t => let cfg := sget s .cam (clOff n 0)
        sget t .cam (clOff n 0x2C) = (if nbit cfg 8 then (sget s .cam (clOff n 0x2C) + 1) % 2 ^ 32 else sget s .cam (clOff n 0x2C)) ∧
        t.link n = (if nbit cfg 8 = true ∧ linkUp s n = true then { k with pulse := some (s.now + 250 * nfld cfg 23 16) } else k) ∧
        ∀ v : Fin 8, (vpOf s v n = true → vpRuns s v = true → nbit (vpGet s v 0x18) 0 = true → (s.vp v).slots.length < 4 →
            t.vp v = { s.vp v with slots := (s.vp v).slots ++ [s.now + 250 * nfld (vpGet s v 0x20) 23 0] }) ∧
          (vpOf s v n = false → t.vp v = s.vp v))) ∧
    (∀ e, k.pulse = some e → e ≤ s.now → EndsIn [.cam] (.triggerPulseEnd n) s fun t => t.link n = { k with pulse := none } ∧
      ∀ m : Fin 8, m ≠ n → t.link m = s.link m) ∧
    (∀ l : LaneId, s.owns l = true →
      (s.pwr.brownout = false → k.power = false → EndsIn [.cam, .pwr] (.pwron l n) s fun t =>
        t.link n = { k with power := true } ∧ t.pwr = { s.pwr with camShed := tset s.pwr.camShed n false }) ∧
      (s.pwr.brownout = false → k.power = true → Rejects .cam l 1 (.pwron l n) s) ∧
      (s.pwr.brownout = true → tget s.pwr.camOn n = false → EndsIn [.pwr] (.pwron l n) s fun t => tget t.pwr.camOn n = true) ∧
      (s.pwr.brownout = false → EndsIn [.cam] (.pwroff l n) s fun t => t.link n = { k with power := false } ∧ t.cam.vps = s.cam.vps) ∧
      (s.pwr.brownout = true → EndsIn [.pwr] (.pwroff l n) s fun t => tget t.pwr.camOn n = false)) ∧
    (k.power = true → s.pwr.brownout = false → EndsIn [.cam, .events, .regs] (.cameraPowerFault n) s fun t =>
      t.link n = { k with power := false } ∧ posted s t .cam 3 n ∧ regsBut [R 4] s t ∧ sfld t .cam (clOff n 4) 8 8 = 1)

/-- R312 to R314, R327 to R333: BIND names a camera channel and is rejected while RUN, when BOUND or VCTAKEN; RUN starts a bound
pipeline whose TIMEOUT exceeds TOL and whose layout is sound, and stops it; a frame start on a bound running pipeline with a
free slot claims it with the parameters in force, after a copy of the shadow set when a COMMIT waits; a line of full width
enters the frame, one beyond HEIGHT is dropped, one of another data type is counted; a frame end pads the missing lines; a
processed frame's status word is written last, WP advances, FRAME is posted; an expected start that has passed its TIMEOUT
claims a missing-frame record; COMMIT waits for a frame start. -/
def Obligations.Pipelines : Prop :=
  ∀ s : State, s.dark = false → s.faulty .cam = false → ∀ n : Fin 8,
    let x := s.vp n
    let get (t : State) (off : Nat) : Nat := sget t .cam (vpOff n off)
    (∀ (l : LaneId) (v : Word), s.owns l = true → isLocked s l .cam = false →
      let taken := ∃ m : Fin 8, m ≠ n ∧ nbit (vpGet s m 8) 31 = true ∧ nfld (vpGet s m 8) 10 8 = nfld v.toNat 10 8 ∧
        nfld (vpGet s m 8) 4 0 = nfld v.toNat 4 0
      (vpRuns s n = true → Rejects .cam l 1 (.vpBind l n v) s) ∧
      (vpRuns s n = false → nbit v.toNat 31 = true → nbit (vpGet s n 8) 31 = true → Rejects .cam l 0x10 (.vpBind l n v) s) ∧
      (vpRuns s n = false → nbit v.toNat 31 = true → nbit (vpGet s n 8) 31 = false → taken → Rejects .cam l 0x11 (.vpBind l n v) s) ∧
      (vpRuns s n = false → (nbit v.toNat 31 = true → nbit (vpGet s n 8) 31 = false ∧ ¬ taken) →
        EndsIn [.regs] (.vpBind l n v) s fun t => regsBut [0xF0500000 + vpOff n 8] s t ∧ nfld (get t 8) 31 31 = nfld v.toNat 31 31 ∧
          nfld (get t 8) 10 8 = nfld v.toNat 10 8 ∧ nfld (get t 8) 4 0 = nfld v.toNat 4 0)) ∧
    (∀ l : LaneId, s.owns l = true →
      (vpRuns s n = false → nbit (vpGet s n 8) 31 = true → nfld (vpGet s n 0x24) 23 0 < nfld (vpGet s n 0x28) 23 0 →
        layoutBad s n (nextParams s n) = false →
        EndsIn [.cam, .regs] (.vpRun l n true) s fun t => vpRuns t n = true ∧ regsBut [0xF0500000 + vpOff n 0] s t ∧
          t.vp n = { x with claims := [], slots := [], expect := none }) ∧
      (vpRuns s n = false → nbit (vpGet s n 8) 31 = false → Rejects .cam l 1 (.vpRun l n true) s) ∧
      (vpRuns s n = false → nbit (vpGet s n 8) 31 = true → nfld (vpGet s n 0x28) 23 0 ≤ nfld (vpGet s n 0x24) 23 0 →
        Rejects .cam l 4 (.vpRun l n true) s) ∧
      EndsIn [.cam, .regs] (.vpRun l n false) s (fun t => vpRuns t n = false ∧ t.vp n = { x with claims := [], slots := [], expect := none }) ∧
      (dpcDisorder s n = false → (layoutKey (shadowOf s n) n = layoutKey x.live n ∨ layoutBad s n (shadowOf s n) = false) →
        EndsIn [.cam] (.camCommit l n) s fun t => t.vp n = { x with commits := x.commits ++ [s.now] }) ∧
      (dpcDisorder s n = true → Rejects .cam l 0x13 (.camCommit l n) s)) ∧
    (∀ (c : Fin 8) (vc : Fin 32), linkUp s c = true →
      (boundVp s c vc = none → EndsIn [.regs] (.frameStart c vc) s fun t => regsBut [0xF0500000 + clOff c 8] s t ∧
        sget t .cam (clOff c 8) = min (sget s .cam (clOff c 8) + 1) (2 ^ 32 - 1)) ∧
      (boundVp s c vc = some n.val →
        (vpRuns s n = true → x.claims = [] → nbit (vpGet s n 0x18) 0 = false → 1 < vpSlots s n → vpTaken s n + 1 < vpSlots s n →
          EndsIn [.cam, .events, .regs] (.frameStart c vc) s fun t => let copy := x.commits.any fun u => decide (u < s.now)
            let live := if copy then shadowOf s n else x.live
            let pgen := if copy then (x.pgen + 1) % 256 else x.pgen
            let late := ∃ e, x.expect = some e ∧ e + 250 * nfld (vpGet s n 0x24) 23 0 < s.now
            t.vp n = { x with
              live := live, pgen := pgen, commits := if copy then x.commits.filter fun u => decide (s.now ≤ u) else x.commits
              expect := some (s.now + 250 * nfld (vpGet s n 0x1C) 23 0)
              claims := (t.vp n).claims } ∧
            ∃ f, (t.vp n).claims = [.frame f] ∧ f.sof = s.now ∧ f.expect = x.expect.getD 0 % 2 ^ 32 ∧ f.pgen = pgen ∧
              f.lines = [] ∧ f.ended = false ∧ f.par = paramsWith s n live ∧ (late → f.flags = 16) ∧ (¬ late → f.flags = 0)) ∧
        (∀ (dt : BitVec 6) (px : List (BitVec 16)) (ovr crc : Bool), let raw := nfld (vpGet s n 0x10) 2 0
          (dt.toNat ≠ 0x2A + raw → EndsIn [.regs] (.linePacket c vc dt px crc ovr) s fun t =>
            regsBut [0xF0500000 + clOff c 0xC] s t ∧ sget t .cam (clOff c 0xC) = min (sget s .cam (clOff c 0xC) + 1) (2 ^ 32 - 1)) ∧
          (∀ f, dt.toNat = 0x2A + raw → raw ≤ 4 → vpRuns s n = true → x.claims = [.frame f] → f.ended = false →
            EndsIn [.cam] (.linePacket c vc dt px crc ovr) s fun t => ∃ g, t.vp n = { x with claims := [.frame g] } ∧
              (f.h n ≤ f.lines.length → g = { f with dropl := f.dropl + 1, flags := f.flags ||| 8 }) ∧
              (f.lines.length < f.h n → px.length = f.w n → crc = false → ovr = false →
                let b := 8 + 2 * nfld (f.vp n 0x10) 2 0
                g = { f with lines := f.lines ++ [px.map fun p => p.toNat % 2 ^ b * 2 ^ (16 - b)] }))) ∧
        (∀ f, x.claims = [.frame f] → f.ended = false → EndsIn [.cam] (.frameEnd c vc) s fun t =>
          ∃ g, t.vp n = { x with claims := [.frame g] } ∧ g.ended = true ∧ g.pad = f.h n - f.lines.length ∧
            g.lines.length = max f.lines.length (f.h n) ∧ g.lines.take f.lines.length = f.lines ∧
            g.flags = if f.lines.length < f.h n then f.flags ||| 4 else f.flags))) ∧
    (∀ drops : List (Nat × Nat), rqBlocked s (n / 2) = true ∨ (x.claims.head?.all fun c => match c with
      | .frame f => !f.ended
      | .missing _ => true) = true → EndsIn [] (.frameStatusWrite n drops) s fun _ => True) ∧
    (∀ f (drops : List (Nat × Nat)), rqBlocked s (n / 2) = false → x.claims = [.frame f] → f.ended = true →
      EndsIn [.cam, .dram, .dq, .events, .free, .regs] (.frameStatusWrite n drops) s fun t => let wp := vpGet s n 0x3C
        t.vp n = { x with claims := [], fseq := (x.fseq + 1) % 2 ^ 32, dropBefore := false } ∧
        regsBut [0xF0500000 + vpOff n 0x3C] s t ∧ get t 0x3C = (wp + 1) % max 1 (vpSlots s n) ∧
        posted s t .cam 1 (n + wp * 2 ^ 8) ∧ t.freeCtr = s.freeCtr + 1536 ∧
        ((s.gib 0).wf = true → dramRead t 0 (vpGet s n 0x30 + vpGet s n 0x34 * wp) 4 = leBytes 4 x.fseq)) ∧
    (∀ e, vpRuns s n = true → x.claims = [] → 1 < vpSlots s n → vpTaken s n + 1 < vpSlots s n →
      e + 250 * nfld (vpGet s n 0x28) 23 0 < s.now →
      let rec_ (t : State) := let wp := vpGet s n 0x3C
        posted s t .cam 1 (n + wp * 2 ^ 8 + 2 ^ 16) ∧ get t 0x3C = (wp + 1) % vpSlots s n ∧
        dramTook s t (vpGet s n 0x30 + vpGet s n 0x34 * wp) (statusBytes x.fseq 32 x.pgen 0 0 (e % 2 ^ 32) 0 0 0 0 0 0)
      let next := e + 250 * nfld (vpGet s n 0x1C) 23 0
      -- the record is written at once, or waits as a claim while the fabric grants the pipeline nothing
      let all := [Part.cam, .dram, .dq, .events, .regs]
      let held (t : State) : Prop := t.dram = s.dram ∧ get t 0x3C = vpGet s n 0x3C ∧ n.val ∈ t.dq.frames
      (∀ r, nbit (vpGet s n 0x18) 0 = true → x.slots = e :: r → EndsIn all (.missingFrame n) s fun t =>
        if rqBlocked s (n / 2) then held t ∧ t.vp n = { x with slots := r, claims := [.missing e] }
        else rec_ t ∧ t.vp n = { x with slots := r, fseq := (x.fseq + 1) % 2 ^ 32 }) ∧
      (nbit (vpGet s n 0x18) 0 = false → x.expect = some e → EndsIn all (.missingFrame n) s fun t =>
        if rqBlocked s (n / 2) then held t ∧ t.vp n = { x with expect := some next, claims := [.missing e] }
        else rec_ t ∧ t.vp n = { x with fseq := (x.fseq + 1) % 2 ^ 32, expect := some next }))

/-- R343 to R347, R351, R357 to R362, R364: a unit over a source's transport, or one injected from DRAM, that is wrong counts in
BADCNT; a part of a list is assembled; a unit that is the whole list of a source in ACQ with a fresh estimator enters the
reorder buffer at arrival − LAT and starts the estimator; a list not complete after PERIOD is discarded, a source silent for 3
PERIOD goes STALE; in HOLD-UP none of that acts; the list whose TV + HOLDWIN has come is processed (one that the state leaves
out, or of a source gone OFF or STALE, is not), and an object that no track takes starts one; a track ages out at DROPAGE; a due
output numbers itself, enters the ring and posts; OUTNOW, TEST, ENDTEST, REINIT and RUN do what R357, R359 and R362 say or are
rejected with STATE. -/
def Obligations.Fusion : Prop :=
  ∀ s : State, s.dark = false → s.faulty .fus = false →
    let R (off : Nat) : Nat := 0xF0580000 + off
    let lat (n : Nat) : Int := fsGet s n 0x24 % 2 ^ 24 * 1000
    let stands := s.sup.power = .holdup
    let unit (i : Instr) (ps : List Part) (n : Nat) (b : List Byte) : Prop := let x := s.fsrc n
      (stands → EndsIn ps i s fun _ => True) ∧
      (¬ stands → parseUnit (nfld (fsGet s n 0) 23 16) b = none → EndsIn (ps ++ [.regs]) i s fun t => regsBut [R (fsOff n 0x38)] s t ∧
        sfld t .fus (fsOff n 0x38) 31 16 = min (sfld s .fus (fsOff n 0x38) 31 16 + 1) 65535 ∧
        sfld t .fus (fsOff n 0x38) 15 0 = sfld s .fus (fsOff n 0x38) 15 0) ∧
      (∀ h first objs, parseUnit (nfld (fsGet s n 0) 23 16) b = some (h, first, objs) → x.asm = none →
        (objs.length < h.nobj → ¬ stands → EndsIn (ps ++ [.fus]) i s fun t => ∃ a : FAsm, t.fsrc n = { x with asm := some a } ∧ a.lseq = h.lseq ∧
          a.first = s.now ∧ a.tsrc = h.tsrc ∧ ∀ k o, objs[k]? = some o → tfind a.objs (first + k) = some o) ∧
        (first = 0 → objs.length = h.nobj → x.clk = .acq → x.fresh = true → x.lseq = none → fusWorks s = true →
          s.fus.lastTv = none → s.fus.buf = [] → EndsIn (ps ++ [.fus]) i s fun t =>
            t.fus.buf = [{ src := n, tv := localCount s - lat n, frame := h.frame, objs := objs }] ∧
            t.fsrc n = { x with
              lseq := some h.lseq, last := some s.now, period := h.period, fresh := false
              off := diff64 (localCount s) h.tsrc - lat n, rate := 0, tref := h.tsrc, tprev := h.tsrc, good := 0 }))
    (∀ (n : Fin 16) (b : List Byte), nfld (fsGet s n 0) 31 31 = 1 → nfld (fsGet s n 0) 29 28 ≠ 2 → unit (.fusionUnit n b) [] n b) ∧
    (∀ (l : LaneId) (n : Fin 16), s.owns l = true → let a := sget s .fus 0x68
      (nfld (fsGet s n 0) 31 31 = 1 → nfld (fsGet s n 0) 29 28 = 2 →
        unit (.fusInject l n) [.dq] n (dramRead s 0 a (48 + 64 * leAt (dramRead s 0 a 48) 8 1))) ∧
      (nfld (fsGet s n 0) 31 31 = 0 ∨ nfld (fsGet s n 0) 29 28 ≠ 2 → Rejects .fus l 1 (.fusInject l n) s)) ∧
    (stands → ∀ i : Instr, i = .listProcess ∨ i = .fusionOutput ∨ (∃ n, i = .listIncomplete n ∨ i = .sourceStale n) ∨
      (∃ k, i = .trackAgeOut k) → EndsIn [] i s fun _ => True) ∧
    (∀ (n : Fin 16) a, ¬ stands → (s.fsrc n).asm = some a → a.first + 250 * a.period ≤ s.now →
      EndsIn [.fus, .regs] (.listIncomplete n) s fun t => t.fsrc n = { s.fsrc n with asm := none } ∧
        regsBut [R (fsOff n 0x38)] s t ∧ sfld t .fus (fsOff n 0x38) 15 0 = min (sfld s .fus (fsOff n 0x38) 15 0 + 1) 65535) ∧
    (∀ (n : Fin 16) u, ¬ stands → (s.fsrc n).last = some u → u + 750 * (s.fsrc n).period ≤ s.now → (s.fsrc n).clk ≠ .off →
      (s.fsrc n).clk ≠ .stale → EndsIn [.events, .fus] (.sourceStale n) s fun t => t.fsrc n = { s.fsrc n with clk := .stale } ∧
        posted s t .fus 2 (n + 4 * 2 ^ 8)) ∧
    (∀ x rest, s.fus.buf = x :: rest → fusWorks s = true → x.tv + sfld s .fus 0x28 6 0 * 1000000 ≤ localCount s →
      let test := nfld (fsGet s x.src 0) 30 30
      (s.fus.state = .test → test = 0 → EndsIn [.fus, .regs] .listProcess s fun t => t.fus = { s.fus with buf := rest } ∧
        sget t .fus 0x90 = min (sget s .fus 0x90 + 1) (2 ^ 32 - 1)) ∧
      (s.fus.state ≠ .test ∧ test = 1 ∨ s.fus.state = .test ∧ test = 1 ∧ contributes s x.src = false ∨
          s.fus.state ≠ .test ∧ contributes s x.src = false → EndsIn [.fus] .listProcess s fun t => t.fus = { s.fus with buf := rest }) ∧
      ((s.fus.state = .test ↔ test = 1) → contributes s x.src = true → EndsIn [.events, .fus, .regs] .listProcess s fun t => t.fus.buf = rest ∧
        t.fus.lastTv = some x.tv ∧ t.fus.mask = (s.fus.mask ||| 2 ^ x.src) ∧
        (∀ o, s.fus.tracks = [] → x.frame = 1 → x.objs = [o] → o.free = false → sfld s .fus 0x18 15 0 ≤ o.conf →
          o.varx ≠ notMeasured → o.vary ≠ notMeasured → ∃ k : Track, t.fus.tracks = [(0, k)] ∧
            k.tid = (if s.fus.tid % 65536 = 65535 then 1 else s.fus.tid + 1) ∧ k.p = o.conf * sfld s .fus 0x20 15 0 / 32768 ∧
            k.count = 1 ∧ k.last = x.tv ∧ k.age (localCount s) = 0 ∧ k.assoc = [(x.src, x.tv)]))) ∧
    (∀ (k : Fin 256) tr, ¬ stands → tfind s.fus.tracks k.val = some tr → s.fus.tracks.wf = true →
      sfld s .fus 0x2C 31 16 ≤ tr.age (localCount s) → EndsIn [.fus] (.trackAgeOut k) s fun t =>
        tfind t.fus.tracks k.val = none ∧ ∀ j, j ≠ k.val → tfind t.fus.tracks j = tfind s.fus.tracks j) ∧
    (fusWorks s = true → outDue s = true → listDue s = false →
      EndsIn [.dram, .dq, .events, .fus, .regs, .ringDrop] .fusionOutput s fun t => t.fus.oseq = (s.fus.oseq + 1) % 2 ^ 32 ∧
        t.fus.mask = 0 ∧ t.fus.outPend = false ∧ t.fus.lastOut = some (localCount s) ∧ sget t .fus 0x80 = s.fus.oseq % 2 ^ 32 ∧
        let size := sfld s .fus 0x54 16 0
        let wp := sfld s .fus 0x58 15 0
        let unread := (wp + size - sfld s .fus 0x5C 15 0 % size) % size
        (ringHeld s 4 = true → t.dram = s.dram ∧ sget t .fus 0x58 = sget s .fus 0x58 ∧ ∃ w, t.dq.wait = s.dq.wait ++ [w] ∧
          w.rq = 4 ∧ w.ring = R 0x50 ∧ w.fresh.take 4 = leBytes 4 s.fus.oseq) ∧
        (ringHeld s 4 = false → unread + 1 < size → sget t .fus 0x58 = (wp + 1) % size ∧
          posted s t .fus 1 (wp % 64 + (s.fus.tracks.filter fun p => sfld s .fus 0x1C 31 16 ≤ p.2.p).length * 2 ^ 16) ∧
          ((s.gib 0).wf = true → dramRead t 0 (sget s .fus 0x50 + 16448 * wp) 4 = leBytes 4 s.fus.oseq)) ∧
        (ringHeld s 4 = false → 0 < size → size ≤ unread + 1 → t.dram = s.dram ∧ sget t .fus 0x64 = min (sget s .fus 0x64 + 1) (2 ^ 32 - 1))) ∧
    (∀ l : LaneId, s.owns l = true → let st := s.fus.state
      (sfld s .fus 0x10 29 28 = 2 → fusRuns s = true → EndsIn [.fus] (.outnow l) s fun t => t.fus = { s.fus with outPend := true }) ∧
      (sfld s .fus 0x10 29 28 ≠ 2 ∨ fusRuns s = false → EndsIn [] (.outnow l) s fun _ => True) ∧
      (st ≠ .test → EndsIn [.events, .fus] (.fusTest l) s fun t => posted s t .fus 3 2 ∧
        t.fus = { s.fus with tracks := [], state := .test, entered := s.now }) ∧
      (st = .test → Rejects .fus l 1 (.fusTest l) s) ∧
      (st = .test → EndsIn [.events, .fus] (.fusEndtest l) s fun t => posted s t .fus 3 3 ∧
        t.fus = { s.fus with tracks := [], state := .recovery, entered := s.now }) ∧
      (st ≠ .test → Rejects .fus l 1 (.fusEndtest l) s) ∧
      (st = .normal ∨ st = .recovery → EndsIn [.events, .fus] (.fusReinit l) s fun t =>
        (st = .normal → posted s t .fus 3 3) ∧ t.fus = { s.fus with tracks := [], state := .recovery, entered := s.now }) ∧
      (st = .start ∨ st = .test → Rejects .fus l 1 (.fusReinit l) s) ∧
      (fusRuns s = false → EndsIn [.events, .fus, .regs] (.fusRun l true) s fun t => fusRuns t = true ∧
        regsBut [R 0] s t ∧ (st ≠ .start → posted s t .fus 3 0) ∧ t.fus = { s.fus with
          state := .start, entered := s.now, runAt := localCount s, outIdx := 0, lastOut := none, lastTv := none }) ∧
      (fusRuns s = true → EndsIn [.fus, .regs] (.fusRun l false) s fun t => fusRuns t = false ∧ regsBut [R 0] s t ∧
        t.fus = { s.fus with tracks := [], buf := [], outPend := false }))

/-- R369, R375 to R385: a frame received without error on an enabled channel enters its ring with stamps and flags; of a pair
the first copy enters the lower channel's ring, and a matching one on the other channel within PAIRWIN is discarded, counted in
DUPCNT and marks that entry PAIRED; in AUTORATE a frame counts towards the lock, which takes the candidate's rate; the most
urgent frame starts when the bus is idle; it ends sent, lost or in error with the result the buffer's settings give; errors
count, past 255 the channel is bus-off, recovering by AUTOREC or RECOVER and, when recovered, back in its mode with both counts
0; MODE waits for the idle bus; TXREQ and TXCANCEL act on a buffer or are rejected; every TMPER a reference message waits, or is
counted as left out. -/
def Obligations.CanChannels : Prop :=
  ∀ s : State, s.dark = false → s.faulty .can = false → ∀ n : Fin 16,
    let R (off : Nat) : Nat := 0xF0600000 + canOff n off
    let c := s.canCh n
    let up := canEn s n = true ∧ c.busOff = false
    let bus := [Part.bus, .dram, .dq, .events, .regs, .ringDrop]
    let count (t : State) (off : Nat) : Prop := sget t .can (canOff n off) = min (sget s .can (canOff n off) + 1) (2 ^ 32 - 1)
    (∀ (id : BitVec 29) (ide rtr fdf brs esi : Bool) (len : Fin 65) (b : List (BitVec 8)) (age : Nat),
      let i := Instr.canReceive n id ide rtr fdf brs esi len b age
      let entry (auto : Nat) := canEntry n (stampAt s age).1 (stampAt s age).2 (canId ide rtr id.toNat)
        (len + b2n fdf * 2 ^ 8 + b2n brs * 2 ^ 9 + b2n esi * 2 ^ 10 + auto * 2 ^ 12 + b2n rtr * 2 ^ 20) b
      i.wellFormed = true → up → (∀ m : Fin 16, pairs s m n = false) → nbit (canGet s n 0x28) 31 = false →
      (fdf = true → nbit (canGet s n 0) 28 = true) →
      (c.mode < 4 → c.mode ≠ 2 → EndsIn [.bus, .dram, .dq, .events, .fus, .hst, .pcl, .recd, .regs, .ringDrop, .strs] i s fun t =>
        ringTook s t 7 (R 0x30) 80 (entry 0) ∧
        t.canCh n = { c with rec_ := if c.mode = 3 then c.rec_ else if 127 < c.rec_ then 127 else c.rec_ - 1 }) ∧
      (c.mode < 4 → c.mode ≠ 2 → fdf = false → EndsIn bus i s fun _ => True) ∧
      (c.mode = 2 → fdf = false → c.good + 1 < nfld (canGet s n 0) 13 8 → EndsIn bus i s fun t => ringTook s t 7 (R 0x30) 80 (entry 1) ∧
        (t.canCh n).good = c.good + 1 ∧ canMode t n = 2) ∧
      (c.mode = 2 → fdf = false → nfld (canGet s n 0) 13 8 ≤ c.good + 1 → c.cand < 8 → let m := nfld (canGet s n 0x14) 10 8
        m ≠ 2 → EndsIn bus i s fun t => (t.canCh n).locked = true ∧ canMode t n = m ∧
          canGet t n 4 = canGet s n (0x80 + 8 * c.cand) ∧ canGet t n 8 = canGet s n (0x84 + 8 * c.cand))) ∧
    (∀ (m : Fin 16) (id : BitVec 29) (ide rtr fdf brs esi : Bool) (len : Fin 65) (b : List (BitVec 8)) (age : Nat),
      let i := Instr.canReceive n id ide rtr fdf brs esi len b age
      let w := canId ide rtr id.toNat
      let bs := if rtr then [] else b.take len
      let entry := canEntry n (stampAt s age).1 (stampAt s age).2 w
        (len + b2n fdf * 2 ^ 8 + b2n brs * 2 ^ 9 + b2n esi * 2 ^ 10 + (if m = n then 0 else 2 ^ 15) + b2n rtr * 2 ^ 20) bs
      let live := (s.canCh m).pairs.filter fun e => decide (s.now ≤ e.at_ + us (nfld (canGet s m 0x28) 9 0))
      let first := live.find? fun e => e.ch != n.val && e.key == pairKey w fdf len bs
      let dup := 0xF0600000 + canOff m 0x50
      i.wellFormed = true → up → c.mode < 4 → c.mode ≠ 2 → (fdf = true → nbit (canGet s n 0) 28 = true) → (fdf = true → len.val ≠ 64) →
      (if m = n then nbit (canGet s n 0x28) 31 = true ∧ ∀ k : Fin 16, pairs s k n = false
        else pairs s m n = true ∧ ∀ k : Fin 16, k < m → pairs s k n = false) →
      (first = none → EndsIn [.bus, .dram, .dq, .events, .fus, .regs, .ringDrop] i s fun t =>
        ringTook s t 7 (0xF0600000 + canOff m 0x30) 80 entry ∧
        rfld t .a dup 31 16 = min (rfld s .a dup 31 16 + if 16 ≤ live.length then 1 else 0) 65535 ∧
        (t.canCh m).pairs.map (fun e => (e.at_, e.ch, e.key)) = ((if 16 ≤ live.length then live.tail else live).map fun e => (e.at_, e.ch, e.key)) ++
          [(s.now, n.val, pairKey w fdf len bs)]) ∧
      (∀ e, first = some e → e.at_ ≠ s.now ∨ n ≠ m → EndsIn [.bus, .dram, .dq, .events, .fus, .regs] i s fun t =>
        rfld t .a dup 15 0 = min (rfld s .a dup 15 0 + 1) 65535 ∧ (t.canCh m).pairs = live.erase e ∧
        (∀ a, e.addr = some a → (s.gib 0).wf = true → mread (t.gib 0) (a + 13) = mread (s.gib 0) (a + 13) ||| 0x40) ∧
        (e.addr = none → t.dq.wait = s.dq.wait.map fun w => if w.rq = 7 ∧ w.fresh = e.ent then
          { w with fresh := markPaired w.fresh, after := markPaired w.after } else w))) ∧
    (up → c.mode = 0 → c.on = none →
      (canPick (canReady s n) = none → EndsIn [] (.canFrameStart n) s fun _ => True) ∧
      (canPick (canReady s n) = some none → EndsIn [.bus] (.canFrameStart n) s fun t => t.canCh n = { c with
        on := some { buf := none, id := tmIdWord s n, lc := (stampAt s 0).1, htb := s.now, dom := s.tim.cstate.code } }) ∧
      (∀ b : Fin 32, canPick (canReady s n) = some (some b.val) → EndsIn [.bus, .regs] (.canFrameStart n) s fun t =>
        regsBut [0xF0600000 + txOff n b 8, R 0x2C] s t ∧ txResult t n b = 2 ∧ t.canCh n = { c with
          on := some { buf := some b.val, id := txGet s n b 0, lc := (stampAt s 0).1, htb := s.now, dom := s.tim.cstate.code } })) ∧
    (∀ (o : CanOn) (b : Fin 32), up → c.on = some o → o.buf = some b.val →
      let note (r : Nat) (t : State) : Prop := nbit (txGet s n b 4) 12 = true → posted s t .can 2 (n + b * 2 ^ 8 + r * 2 ^ 16)
      (nbit (canGet s n 0) 26 = false → EndsIn [.bus, .events, .regs] (.canTxEnd n .sent) s fun t => txResult t n b = 3 ∧ note 3 t ∧
        regsBut [0xF0600000 + txOff n b 8, 0xF0600000 + txOff n b 0xC] s t ∧ txGet t n b 0xC = nset o.id 30 30 0 % 2 ^ 32 ∧
        t.canCh n = { c with on := none, tec := c.tec - 1 }) ∧
      (nbit (canGet s n 0) 26 = true → nbit (txGet s n b 4) 8 = false → nbit o.id 30 = false → (∀ m : Fin 16, pairs s m n = false) →
        EndsIn bus (.canTxEnd n .sent) s fun t => txResult t n b = 3 ∧
          ringTook s t 7 (R 0x30) 80 (canEntry n o.lc o.htb o.id (nfld (txGet s n b 4) 6 0 + 2 ^ 11) (txData s n b))) ∧
      (∀ err : Bool, let i := Instr.canTxEnd n (if err then .error else .lost)
        (o.cancel = true → EndsIn [.bus, .events, .regs] i s fun t => txResult t n b = 4 ∧ note 4 t ∧ t.canCh n = { c with on := none }) ∧
        (o.cancel = false → err = true → nbit (txGet s n b 4) 11 = true → EndsIn [.bus, .events, .regs] i s fun t =>
          txResult t n b = 5 ∧ note 5 t ∧ t.canCh n = { c with on := none }) ∧
        (o.cancel = false → (err = false ∨ nbit (txGet s n b 4) 11 = false) → EndsIn [.bus, .regs] i s fun t =>
          txResult t n b = 1 ∧ regsBut [0xF0600000 + txOff n b 8] s t ∧ t.canCh n = { c with on := none }))) ∧
    (∀ o : CanOn, up → c.on = some o → o.buf = none → EndsIn bus (.canTxEnd n .sent) s fun t =>
      canGet t n 0x20 = o.lc / 10 ^ 9 % 2 ^ 32 ∧ canGet t n 0x24 = (o.lc % 10 ^ 9 + o.dom * 2 ^ 30) % 2 ^ 32 ∧
      t.canCh n = { c with on := none, tec := c.tec - 1, tmPend := none, tmLast := if o.cancel then c.tmLast else some o.lc }) ∧
    (∀ (code : BitVec 8) (tx heavy : Bool), up → EndsIn bus (.canError n code tx heavy) s fun t => count t 0x48 ∧
      (t.canCh n).code = code.toNat ∧ (c.mode ≠ 3 → tx = true → (t.canCh n).tec = c.tec + 8 ∧ (t.canCh n).rec_ = c.rec_) ∧
      (c.mode ≠ 3 → tx = false → (t.canCh n).rec_ = min 255 (c.rec_ + if heavy then 8 else 1) ∧ (t.canCh n).tec = c.tec) ∧
      (c.mode = 3 → (t.canCh n).tec = c.tec ∧ (t.canCh n).rec_ = c.rec_)) ∧
    (up → EndsIn [.regs] (.protocolException n) s fun t => regsBut [R 0x54] s t ∧ count t 0x54) ∧
    (up → 255 < c.tec → EndsIn bus (.canBusOff n) s fun t => (t.canCh n).busOff = true ∧ (t.canCh n).before = c.mode ∧ count t 0x4C ∧
      canMode t n = if nbit (canGet s n 0) 27 then 4 else c.mode) ∧
    (canEn s n = true → c.mode = 4 → EndsIn bus (.busoffRecovered n) s fun t => canMode t n = c.before ∧
      (t.canCh n).tec = 0 ∧ (t.canCh n).rec_ = 0 ∧ (t.canCh n).busOff = false ∧
      ((∀ m : Fin 16, pairs s m n = false) → sfld s .can (canOff n 0x34) 16 0 = 0 → posted s t .can 3 (n + c.before * 2 ^ 8))) ∧
    (∀ m, c.req = some m → up → c.mode ≠ 4 → c.on = none →
      (m ≠ c.mode → EndsIn bus (.canModeChange n) s fun t => canMode t n = m ∧ (t.canCh n).req = none) ∧
      (m = c.mode → EndsIn [.bus] (.canModeChange n) s fun t => t.canCh n = { c with req := none })) ∧
    (∀ l : LaneId, s.owns l = true →
      (∀ m : Fin 8, (m.val ≤ 3 → canEn s n = true → c.mode ≠ 4 → (m = 2 → arCount s n ≠ 0) →
          EndsIn [.bus] (.canMode l n m) s fun t => t.canCh n = { c with req := some m }) ∧
        (3 < m.val → Rejects .can l 4 (.canMode l n m) s) ∧
        (m.val ≤ 3 → canEn s n = false ∨ c.mode = 4 ∨ (m = 2 ∧ arCount s n = 0) → Rejects .can l 1 (.canMode l n m) s)) ∧
      (c.busOff = true → canEn s n = true → c.mode ≠ 4 → EndsIn bus (.recover l n) s fun t => canMode t n = 4) ∧
      (c.busOff = false ∨ canEn s n = false ∨ c.mode = 4 → Rejects .can l 1 (.recover l n) s) ∧
      (∀ b : Fin 32, let r := txResult s n b
        let f := txGet s n b 4
        (r ≠ 1 → r ≠ 2 → (nbit f 8 = false → nfld f 6 0 ≤ 8) →
          (nbit f 8 = true → nbit (canGet s n 0) 28 = true ∧ nbit (txGet s n b 0) 30 = false ∧ canFdLength (nfld f 6 0) = true) →
          EndsIn [.regs] (.txreq l n b) s fun t => regsBut [0xF0600000 + txOff n b 8] s t ∧ txResult t n b = 1) ∧
        (r = 1 ∨ r = 2 → Rejects .can l 1 (.txreq l n b) s) ∧
        (r ≠ 1 → r ≠ 2 → nbit f 8 = true → nbit (canGet s n 0) 28 = false → Rejects .can l 4 (.txreq l n b) s) ∧
        (r = 1 → EndsIn [.events, .regs] (.txcancel l n b) s fun t => txResult t n b = 4 ∧ regsBut [0xF0600000 + txOff n b 8] s t ∧
          (nbit f 12 = true → posted s t .can 2 (n + b * 2 ^ 8 + 4 * 2 ^ 16))) ∧
        (∀ o, r = 2 → c.on = some o → EndsIn [.bus] (.txcancel l n b) s fun t => t.canCh n = { c with on := some { o with cancel := true } }) ∧
        (r ≠ 1 → r ≠ 2 → EndsIn [] (.txcancel l n b) s fun _ => True))) ∧
    (nbit (canGet s n 0x18) 31 = true → c.tmNext ≤ localCount s → let next := c.tmNext + nfld (canGet s n 0x1C) 15 0 * 10 ^ 6
      (canMode s n = 0 → c.tmPend = none → EndsIn [.bus] (.timeReference n) s fun t => t.canCh n = { c with
        tmNext := next, tmSkip := false
        tmPend := some (match (if c.tmSkip then none else c.tmLast) with
          | some lc => (lc / 10 ^ 9 % 2 ^ 32, lc % 10 ^ 9 + s.tim.cstate.code * 2 ^ 30)
          | none => (0xFFFFFFFF, 0x3FFFFFFF + s.tim.cstate.code * 2 ^ 30)) }) ∧
      (canMode s n ≠ 0 ∨ c.tmPend.isSome = true → EndsIn [.bus, .regs] (.timeReference n) s fun t => regsBut [R 0x58] s t ∧ count t 0x58 ∧
        t.canCh n = { c with tmNext := next, tmSkip := true }))

/-- R387 to R390, R392 to R394, R396 to R398: LIN START, SWITCH, STOP, SLEEP and WAKEUP move a schedule or are rejected; a
response is answered into the ring with its status, a PUBLISH only when it was disturbed; an error counting in ERRCNT; at the
end of its time a slot gives way to STOP, to SLEEP with the go-to-sleep frame, to a SWITCH that came before its last cycle, or
to the next valid slot, whose break takes stamp, identifier and data; WAKEUP in SLEEP holds a dominant pulse of 1 ms; a wake
level in SLEEP is posted; a valid SENT frame stores its value and enters the ring when RINGFAST, an invalid one counts; serial
messages are assembled as SLOW says, and enter the ring and LASTSLOW, or count in SLOWERR (the field layout of R393 is J2716's);
a serial byte joins the open entry, which 20 bytes, a flag or an idle gap close into the ring; TXD fills a FIFO of 256, which
drains; a selected pulse edge is stamped, counted and posted, and the stamp is read as one. -/
def Obligations.LinSentSerial : Prop :=
  ∀ s : State, s.dark = false →
    let bus := [Part.bus, .dram, .dq, .events, .regs, .ringDrop]
    (∀ n : Fin 6, s.faulty .lin = false → let c := s.linCh n
      let w := linSlot s n c.table c.slot
      let len := nfld w 27 24
      let counted (t : State) (k : Nat) : Prop := sget t .lin (0x108 + 0x40 * n) = min (sget s .lin (0x108 + 0x40 * n) + k) (2 ^ 32 - 1)
      let asleep (t : State) : Prop := t.linCh n = { c with
        st := .sleep, sleep := false, switchTo := none, lc := (stampAt s 0).1, htb := s.now, pid := 0x3C, data := 0 :: List.replicate 7 255,
        answered := true }
      let entry (status : Nat) (d : List Nat) (drop : Bool) : List Byte := leBytes 4 c.lc ++ leBytes 4 c.htb ++
        leBytes 4 (linPid (nfld w 21 16) + len * 2 ^ 8 + status * 2 ^ 12 + n * 2 ^ 16 + c.slot * 2 ^ 24 + c.table * 2 ^ 29 +
          b2n drop * 2 ^ 15) ++ sliceB (d.map (BitVec.ofNat 8)) 0 8 ++ List.replicate 12 0
      (∀ (b : List (BitVec 8)) (framing : Bool), let got := b.map (·.toNat)
        c.st = .running → c.answered = false →
        (∀ status, nbit w 29 = true → (got = [] ∧ framing = false ∧ status = 1) ∨ (framing = true ∧ status = 4) ∨
            (framing = false ∧ got ≠ [] ∧ got.length < len + 1 ∧ status = 2) ∨
            (framing = false ∧ len + 1 ≤ got.length ∧ got.getD len 0 ≠ linCheck w (got.take len) ∧ status = 3) ∨
            (framing = false ∧ len + 1 ≤ got.length ∧ got.getD len 0 = linCheck w (got.take len) ∧ status = 0) →
          EndsIn bus (.linResponse n b framing) s fun t => ringTook s t 7 0xF0640020 32 (entry status (got.take len)) ∧
            t.linCh n = { c with answered := true } ∧ counted t (if status = 0 then 0 else 1)) ∧
        (nbit w 29 = false → framing = false → got = c.data ++ [linCheck w c.data] →
          EndsIn [.bus] (.linResponse n b framing) s fun t => t.linCh n = { c with answered := true }) ∧
        (nbit w 29 = false → framing = true ∨ got ≠ c.data ++ [linCheck w c.data] →
          EndsIn bus (.linResponse n b framing) s fun t => ringTook s t 7 0xF0640020 32 (entry 5 c.data) ∧
            t.linCh n = { c with answered := true } ∧ counted t 1)) ∧
      (c.st = .running → c.slotEnd ≤ s.now →
        (c.answered = false → nbit w 29 = true → EndsIn bus (.linSlot n) s fun t => ringTook s t 7 0xF0640020 32 (entry 1 []) ∧ counted t 1) ∧
        (let bus := if c.answered = false ∧ nbit w 29 = true then bus else [Part.bus];
          let begins (t : State) (table k : Nat) : Prop := (t.linCh n).st = .running ∧ (t.linCh n).table = table ∧
            (t.linCh n).slot = k ∧ (t.linCh n).slotEnd = s.now + 250000 * nfld (linSlot s n table k) 7 0 ∧ (t.linCh n).answered = false ∧
            let v := linSlot s n table k
            (t.linCh n).pid = linPid (nfld v 21 16) ∧ (t.linCh n).data = (linData s n (nfld v 21 16)).take (nfld v 27 24) ∧
            (t.linCh n).lc = (stampAt s 0).1 ∧ (t.linCh n).htb = s.now
          (c.stop = true → EndsIn bus (.linSlot n) s fun t => (t.linCh n).st = .stopped ∧ (t.linCh n).stop = false) ∧
          (c.stop = false → c.sleep = true → EndsIn bus (.linSlot n) s asleep) ∧
          (∀ table at_, c.stop = false → c.sleep = false → c.switchTo = some (table, at_) → 
            (at_ + 1 < c.slotEnd → EndsIn bus (.linSlot n) s fun t => begins t table 0 ∧ (t.linCh n).switchTo = none) ∧
            (c.slotEnd ≤ at_ + 1 → EndsIn bus (.linSlot n) s fun t => begins t c.table
              (if c.slot + 1 < 32 ∧ nbit (linSlot s n c.table (c.slot + 1)) 31 = true then c.slot + 1 else 0) ∧
              (t.linCh n).switchTo = c.switchTo)) ∧
          (c.stop = false → c.sleep = false → c.switchTo = none → EndsIn bus (.linSlot n) s fun t => begins t c.table
            (if c.slot + 1 < 32 ∧ nbit (linSlot s n c.table (c.slot + 1)) 31 = true then c.slot + 1 else 0)))) ∧
      (∀ l : LaneId, s.owns l = true → linEn s n = true →
        (∀ k : Fin 4, let valid := nbit (linSlot s n k 0) 31
          (c.st ≠ .running → valid = true → EndsIn [.bus] (.linStart l n k) s fun t => (t.linCh n).st = .running ∧
            (t.linCh n).table = k ∧ (t.linCh n).slot = 0 ∧ (t.linCh n).slotEnd = s.now + 250000 * nfld (linSlot s n k 0) 7 0) ∧
          (c.st = .running → Rejects .lin l 1 (.linStart l n k) s) ∧
          (c.st ≠ .running → valid = false → Rejects .lin l 4 (.linStart l n k) s) ∧
          (c.st = .running → valid = true → EndsIn [.bus] (.linSwitch l n k) s fun t => t.linCh n = { c with switchTo := some (k.val, s.now) }) ∧
          (c.st ≠ .running → Rejects .lin l 1 (.linSwitch l n k) s)) ∧
        (c.st = .running → EndsIn [.bus] (.linStop l n) s fun t => t.linCh n = { c with stop := true }) ∧
        (c.st ≠ .running → Rejects .lin l 1 (.linStop l n) s) ∧
        (c.st = .running → EndsIn [.bus] (.linSleep l n) s fun t => t.linCh n = { c with sleep := true }) ∧
        (c.st = .stopped → EndsIn [.bus] (.linSleep l n) s asleep) ∧
        (c.st = .sleep → Rejects .lin l 1 (.linSleep l n) s ∧ EndsIn [.bus] (.linWakeup l n) s fun t =>
          t.linCh n = { c with pulse := some (s.now + 250000) }) ∧
        (c.st ≠ .sleep → Rejects .lin l 1 (.linWakeup l n) s)) ∧
      (∀ l : LaneId, s.owns l = true → linEn s n = false → ∀ i ∈ [Instr.linStart l n 0, .linSwitch l n 0, .linStop l n, .linSleep l n,
        .linWakeup l n], Rejects .lin l 1 i s) ∧
      (∀ len_ : Nat, (Instr.linWake n len_).wellFormed = true → linEn s n = true → c.st = .sleep →
        EndsIn [.events] (.linWake n len_) s fun t => posted s t .lin 2 n)) ∧
    (∀ (n : Fin 24) (cal : Nat) (status : BitVec 4) (nib : List (BitVec 4)) (crc : BitVec 4) (bad : Bool) (flen age : Nat),
      s.faulty .snt = false → let cfg := sentCfg s n
      let i := Instr.sentFrame n cal status nib crc bad flen age
      let ns := nib.map (·.toNat)
      let data := (status.toNat * 2 ^ 24 + ns.foldl (fun v d => 16 * v + d % 16) 0) % 2 ^ 32
      let invalid := sentBad cfg (s.sentCh n) cal ns crc.toNat bad flen
      nbit cfg 31 = true →
      (invalid = false → Ends i s fun t => supFrame s t ∧ sget t .snt (0x104 + 0x20 * n) = data ∧
        (t.sentCh n).cal = some cal ∧ (t.sentCh n).flen = some flen ∧ (t.sentCh n).lastHtb = (s.now - age) % 2 ^ 32) ∧
      (invalid = true → Ends i s fun t => supFrame s t ∧ (t.sentCh n).cal = some cal ∧ (t.sentCh n).bits = [] ∧
        sfld t .snt (0x110 + 0x20 * n) 15 0 = min (sfld s .snt (0x110 + 0x20 * n) 15 0 + 1) 65535) ∧
      ((∀ (l : LaneId) (h : Fin 16), evtOn s l = false ∧ ¬ (hySrc s l h = 3 ∧ hyInput s l h = n)) →
        (invalid = false → nbit cfg 30 = true → nfld cfg 29 28 = 0 → EndsIn bus i s fun t =>
          ringTook s t 7 0xF0660020 16 fun drop => leBytes 4 (stampAt s age).1 ++ leBytes 4 (s.now - age) ++ leBytes 4 data ++
            leBytes 4 (n + b2n drop * 2 ^ 16)) ∧
        (invalid = false → nbit cfg 30 = false → nfld cfg 29 28 ≠ 0 →
          let bits := (s.sentCh n).bits ++ [(nbit status.toNat 3, nbit status.toNat 2)]
          let bits := bits.drop (bits.length - 18)
          (sentSerial (nfld cfg 29 28) bits = none → EndsIn [.bus, .regs] i s fun t => regsBut [0xF0660104 + 0x20 * n] s t ∧
            (t.sentCh n).bits = bits) ∧
          (∀ kind id v, sentSerial (nfld cfg 29 28) bits = some (kind, id, v, false) → EndsIn [.bus, .regs] i s fun t =>
            regsBut [0xF0660104 + 0x20 * n, 0xF0660110 + 0x20 * n] s t ∧ (t.sentCh n).bits = [] ∧
            sfld t .snt (0x110 + 0x20 * n) 31 16 = min (sfld s .snt (0x110 + 0x20 * n) 31 16 + 1) 65535) ∧
          (∀ kind id v, sentSerial (nfld cfg 29 28) bits = some (kind, id, v, true) → EndsIn bus i s fun t =>
            sget t .snt (0x10C + 0x20 * n) = (id * 2 ^ 16 + v) % 2 ^ 32 ∧ (t.sentCh n).bits = [] ∧
            ringTook s t 7 0xF0660020 16 fun drop => leBytes 4 (stampAt s age).1 ++ leBytes 4 (s.now - age) ++ leBytes 4 v ++
              leBytes 4 (n + kind * 2 ^ 5 + id * 2 ^ 8 + b2n drop * 2 ^ 16))) ∧
        (invalid = true → nbit cfg 30 = false → EndsIn [.bus, .regs] i s fun t => regsBut [0xF0660110 + 0x20 * n] s t))) ∧
    (∀ n : Fin 4, s.faulty .ser = false → let p := s.port n
      let cfg := serCfg s n
      let ring := 0xF0680110 + 0x40 * n.val
      let entry (p : SerPort) (bs : List Byte) (flags : Nat) (drop : Bool) : List Byte := leBytes 4 p.lc ++ leBytes 4 p.htb ++
        leBytes 4 (bs.length + b2n p.idleBefore * 2 ^ 8 + flags + b2n drop * 2 ^ 12) ++ sliceB bs 0 20
      (∀ (b : BitVec 8) (framing parity brk : Bool) (age : Nat), nbit cfg 31 = true →
        let c : Byte := if nbit cfg 18 then b &&& 0x7F else b
        let i := Instr.serByte n b framing parity brk age
        let bits := b2n framing * 4 + b2n parity * 2 + b2n brk
        let flags := b2n framing * 2 ^ 9 + b2n parity * 2 ^ 10 + b2n brk * 2 ^ 11
        let idle : Bool := match p.lastEnd with
          | some u => decide (u + serGap cfg ≤ s.now - age)
          | none => true
        let first : SerPort := { p with bytes := [c], lc := (stampAt s age).1, htb := s.now - age, idleBefore := idle, lastEnd := some s.now }
        let next : SerPort := { p with bytes := p.bytes ++ [c], lastEnd := some s.now }
        let shut (q t : SerPort) : Prop := t = { q with bytes := [], idleBefore := false }
        let told (t : State) : Prop := sget t .ser (0x104 + 0x40 * n) / 2 ^ 16 % 8 = (sget s .ser (0x104 + 0x40 * n) / 2 ^ 16 % 8) ||| bits
        (bits = 0 → p.bytes = [] → EndsIn [.bus] i s fun t => t.port n = first) ∧
        (bits = 0 → p.bytes ≠ [] → idle = true → EndsIn bus i s fun t => t.port n = first ∧ ringTook s t 7 ring 32 (entry p p.bytes 0)) ∧
        (bits = 0 → p.bytes ≠ [] → idle = false → p.bytes.length < 19 → EndsIn [.bus] i s fun t => t.port n = next) ∧
        (p.bytes ≠ [] → idle = false → bits ≠ 0 ∨ p.bytes.length = 19 → EndsIn bus i s fun t => shut next (t.port n) ∧ told t ∧
          ringTook s t 7 ring 32 (entry p (p.bytes ++ [c]) flags)) ∧
        (p.bytes = [] → bits ≠ 0 → EndsIn bus i s fun t => shut first (t.port n) ∧ told t ∧ ringTook s t 7 ring 32 (entry first [c] flags)) ∧
        (p.bytes ≠ [] → bits ≠ 0 → idle = true → EndsIn bus i s fun t => shut first (t.port n) ∧ told t)) ∧
      (∀ u, p.lastEnd = some u → u + serGap cfg ≤ s.now → p.bytes ≠ [] → EndsIn bus (.serIdle n) s fun t =>
        t.port n = { p with bytes := [], idleBefore := false } ∧ ringTook s t 7 ring 32 (entry p p.bytes 0)) ∧
      (∀ (l : LaneId) (v : Word), s.owns l = true →
        (p.fifo.length < 256 → EndsIn [.bus] (.serTxd l n v) s fun t => t.port n = { p with fifo := p.fifo ++ [v.setWidth 8] }) ∧
        (256 ≤ p.fifo.length → Rejects .ser l 5 (.serTxd l n v) s)) ∧
      (nbit cfg 31 = true → EndsIn [.bus] (.serByteSent n) s fun t => t.port n = { p with fifo := p.fifo.tail })) ∧
    (∀ k : Fin 2, let cfg := sget s .ser (0x400 + 0x20 * k)
      let st := 0xF0680414 + 0x20 * k.val
      let p : Pps := tget s.bus.pps k
      (∀ rise : Bool, s.faulty .ser = false → nbit cfg 31 = true → nbit cfg (if rise then 0 else 1) = true →
        let stamped (t : State) : Prop := tget t.bus.pps k = { sec := s.tim.count / 2 ^ 32 / 10 ^ 9, ns := s.tim.count / 2 ^ 32 % 10 ^ 9, htb := htb s, unread := true } ∧
          rfld t .a st 31 16 = (rfld s .a st 31 16 + 1) % 65536 ∧ (p.unread = true → rbit t .a st 0 = true)
        EndsIn [.bus, .events, .regs, .tim] (.ppsEdge k rise) s stamped ∧
        ((∀ i : Fin 2, nfld (dtGet s i 0) 29 28 ≠ k.val + 1) → EndsIn [.bus, .events, .regs] (.ppsEdge k rise) s fun t =>
          stamped t ∧ regsBut [st] s t ∧ posted s t .ser 2 k)) ∧
      (∀ l : LaneId, let a := 0xF0680400 + 0x20 * k.val
        EndsIn [.bus, .regs] (.ppsStampRead l k) s fun t => regsBut [a + 4, a + 0xC, a + 0x10] s t ∧
          rget t l (a + 4) = p.sec % 2 ^ 32 ∧ rget t l (a + 0xC) = p.htb % 2 ^ 32 ∧ rget t l (a + 0x10) = p.htb / 2 ^ 32 % 2 ^ 32 ∧
          tget t.bus.pps k = { p with unread := false }))

/-- R406 to R416, R431: a frame of wrong length or FCS counts in RXERR, a good one in RXCNT; one outside its VLANs counts in
DROP; one for the module goes to the ring its steering names or is dropped by a rule, a link-local one whatever the VLANs say;
of a stream with REC the vector recovery algorithm passes or discards it; a known unicast goes to the queue of its port, its
source learned, any other to the queues of the VLAN's ports, a full queue counting in DROP; TWP hands over slots within SIZE; a
finished slot gets its result, the stamp of a DIRECT frame with TSREQ to one port or NOTS, TRP advances; a DIRECT frame enters
the queues of its mask, one of a stream with GEN those of GPORTS with the next R-TAG; a sent frame leaves the most urgent queue;
link changes are posted; addresses age out or are flushed; a silent stream takes any number again, a silent member port is
reported. -/
def Obligations.EthernetSwitch : Prop :=
  ∀ s : State, s.dark = false → s.faulty .eth = false →
    let R (off : Nat) : Nat := 0xF0700000 + off
    let count (t : State) (off : Nat) : Prop := sget t .eth off = min (sget s .eth off + 1) (2 ^ 32 - 1)
    let counts (i : Instr) (offs : List Nat) : Prop := EndsIn [.regs] i s fun t => regsBut (offs.map R) s t ∧ ∀ o ∈ offs, count t o
    let took (t : State) (mask : Nat → Bool) (untag pcp vid : Nat) (b : List Byte) : Prop := ∀ q : Fin 10, let x := s.ethPort q
      let old := tget x.queue pcp
      (t.ethPort q = if mask q = true ∧ x.link = true ∧ old.length < 64 then
        { x with queue := tset x.queue pcp (old ++ [(if nbit untag q then none else some vid, b)]) } else x) ∧
      (mask q = true → x.link = true → 64 ≤ old.length → count t (ethOff q 0x20))
    let all := [Part.dram, .dq, .eth, .events, .regs, .ringDrop]
    (∀ (p : Fin 10) (b : List (BitVec 8)) (fcs : Bool) (age : Nat), (s.ethPort p).link = true →
      let i := Instr.ethReceive p b fcs age
      let f := parseFrame b (nfld (ethGet s p 0) 11 0) (nfld (ethGet s p 0) 22 20)
      let out := match f.seq with
        | some n => withRTag f.b n
        | none => f.b
      (fcs = false ∨ b.length < 60 ∨ 1596 < b.length → counts i [ethOff p 0x1C]) ∧
      (fcs = true → 60 ≤ b.length → b.length ≤ 1596 →
        EndsIn [.dram, .dq, .eth, .events, .fus, .hst, .pcl, .recd, .regs, .ringDrop, .strs] i s (fun t => count t (ethOff p 0x14)) ∧
        (∀ r, isLinkLocal f.da = true → streamOf s f = none → steer s f = .ring r → EndsIn all i s fun t =>
          ringTook s t 6 (R (0x800 + 0x20 * r)) 2048 (rxSlot s f p age none) ∧ t.eth = s.eth) ∧
        (isLinkLocal f.da = false → nbit (ethGet s p 0) 19 = true → f.tagged = false → counts i [ethOff p 0x14]) ∧
        (isLinkLocal f.da = false → (nbit (ethGet s p 0) 19 = true → f.tagged = true) →
          (vlanOf s f.vid = none → counts i [ethOff p 0x14, ethOff p 0x20]) ∧
          (∀ member untag, vlanOf s f.vid = some (member, untag) →
            (nbit member p = false → counts i [ethOff p 0x14, ethOff p 0x20]) ∧
            (∀ r, nbit member p = true → nbit member 10 = true → f.da = ownMac s → streamOf s f = none → steer s f = .ring r → r < 8 →
              EndsIn [.dram, .dq, .eth, .events, .regs, .ringDrop] i s fun t =>
                ringTook s t 6 (R (0x800 + 0x20 * r)) 2048 (rxSlot s f p age none) ∧
                (isGroup f.sa = false → s.eth.fdb = [] → t.eth.fdb = [{ vid := f.vid, mac := f.sa, port := p, seen := s.now }])) ∧
            (nbit member p = true → nbit member 10 = true → f.da = ownMac s → streamOf s f = none → steer s f = .drop →
              EndsIn [.eth, .regs] i s fun t => regsBut [R (ethOff p 0x14)] s t ∧ t.eth.ports = s.eth.ports) ∧
            (nbit member p = true → nbit member 10 = false → f.da ≠ ownMac s →
              isGroup f.da = true ∨ (f.sa ≠ f.da ∧ ∀ e ∈ s.eth.fdb, ¬ (e.vid = f.vid ∧ e.mac = f.da)) → EndsIn [.eth, .regs] i s fun t =>
                took t (fun q => q != p.val && nbit member q) untag f.pcp f.vid out) ∧
            (∀ k n r, nbit member p = true → nbit member 10 = true → f.da = ownMac s → streamOf s f = some k → f.seq = some n →
              nbit (frerGet s k 4) 30 = true → nbit (frerGet s k 8) p = true → (s.frer k).passAt ≠ s.now → steer s f = .ring r →
              let x := s.frer k
              let h := nfld (frerGet s k 0xC) 21 16
              let dl := signed 16 ((n + 2 ^ 16 - x.rec_) % 2 ^ 16)
              let passes (last hist : Nat) : Prop := EndsIn all i s fun t => count t (0xC14 + 0x20 * k) ∧
                sfld t .eth (0xC10 + 0x20 * k) 31 16 = last % 65536 ∧ (t.frer k).rec_ = last ∧ (t.frer k).hist = hist ∧
                (t.frer k).takeAny = false ∧ (t.frer k).passAt = s.now ∧ tget (t.frer k).seen p = s.now ∧
                ringTook s t 6 (R (0x800 + 0x20 * r)) 2048 (rxSlot s f p age (some k))
              let discards (hi lo : Nat) : Prop := EndsIn [.eth, .regs] i s fun t =>
                sfld t .eth (0xC18 + 0x20 * k) hi lo = min (sfld s .eth (0xC18 + 0x20 * k) hi lo + 1) 65535 ∧
                t.frer k = { x with seen := tset x.seen p s.now }
              (x.takeAny = true → passes n 1) ∧
              (x.takeAny = false →
                (h ≤ dl.natAbs → discards 31 16) ∧
                (dl.natAbs < h → dl ≤ 0 → nbit x.hist dl.natAbs = true → discards 15 0) ∧
                (dl.natAbs < h → dl ≤ 0 → nbit x.hist dl.natAbs = false → passes x.rec_ (x.hist + 2 ^ dl.natAbs)) ∧
                (dl.natAbs < h → 0 < dl → passes n ((x.hist * 2 ^ dl.natAbs ||| 1) % 2 ^ h)))) ∧
            (∀ (e : FdbEntry) (q : Fin 10), nbit member p = true → f.da ≠ ownMac s → isGroup f.da = false → f.sa ≠ f.da →
              (s.eth.fdb.find? fun x => x.vid == f.vid && x.mac == f.da) = some e → e.port = q.val → q ≠ p → nbit member q = true →
              (s.ethPort q).link = true → (tget (s.ethPort q).queue f.pcp).length < 64 → EndsIn [.eth, .regs] i s fun t =>
                t.ethPort q = { s.ethPort q with
                  queue := tset (s.ethPort q).queue f.pcp (tget (s.ethPort q).queue f.pcp ++ [(if nbit untag q then none else some f.vid, out)]) } ∧
                (∀ k : Fin 10, k ≠ q → t.ethPort k = s.ethPort k) ∧ regsBut [R (ethOff p 0x14)] s t))))) ∧
    (∀ (l : LaneId) (q : Fin 4) (v : Word), s.owns l = true → let size := sfld s .eth (0x904 + 0x10 * q) 15 0
      (v.toNat % 65536 < size → EndsIn [.regs] (.txRingDoorbell l q v) s fun t => regsBut [R (0x908 + 0x10 * q)] s t ∧
        sget t .eth (0x908 + 0x10 * q) = v.toNat % 65536) ∧
      (size ≤ v.toNat % 65536 → Rejects .eth l 4 (.txRingDoorbell l q v) s)) ∧
    (∀ (q : Fin 4) (age : Nat), rqBlocked s 6 = true ∨ txOwned s q = false ∨ (∃ r : Fin 4, q < r ∧ txOwned s r = true) →
      EndsIn [] (.ethTxDone q age) s fun _ => True) ∧
    (∀ (q : Fin 4) (age : Nat), rqBlocked s 6 = false → txOwned s q = true → (∀ r : Fin 4, q < r → txOwned s r = false) →
      let i := Instr.ethTxDone q age
      let trp := sget s .eth (0x90C + 0x10 * q)
      let a := sget s .eth (0x900 + 0x10 * q) + 2048 * trp
      let ctrl := mreadLE (s.gib 0) a 4
      let len := nfld ctrl 10 0
      let good := 60 ≤ len ∧ len ≤ 1596
      let pcp := nfld ctrl 26 24
      -- a frame to be stamped, for the one port p, and the frames queued there before it
      let stamped (p : Nat) : Prop := nbit ctrl 30 = true ∧ nbit ctrl 29 = true ∧
        onePort (nfld (mreadLE (s.gib 0) (a + 4) 4) 25 16) = some p
      let full (p : Nat) : Prop := 64 ≤ (tget (s.ethPort p).queue pcp).length
      let waits : Prop := good ∧ ∃ p, stamped p ∧ (s.ethPort p).link = true ∧ ¬ full p ∧
        ∃ k : Fin 8, pcp ≤ k ∧ tget (s.ethPort p).queue k ≠ []
      (waits → EndsIn [] i s fun _ => True) ∧
      (¬ waits → EndsIn [.dram, .dq, .eth, .events, .regs] i s fun t =>
        sget t .eth (0x90C + 0x10 * q) = (trp + 1) % max 1 (sfld s .eth (0x904 + 0x10 * q) 15 0) ∧
        (nbit ctrl 31 = true → posted s t .eth 4 (q + trp * 2 ^ 8)) ∧
        (¬ good → dramTook s t (a + 8) (leBytes 4 3)) ∧
        (good → nbit ctrl 30 = false → dramTook s t (a + 8) (leBytes 4 1)) ∧
        (good → nbit ctrl 30 = true → nbit ctrl 29 = false ∨ onePort (nfld (mreadLE (s.gib 0) (a + 4) 4) 25 16) = none →
          dramTook s t (a + 8) (leBytes 4 5)) ∧
        (let dest := mreadLE (s.gib 0) (a + 4) 4
          let vid := nfld dest 11 0
          let f : EthFrame := { vid := vid, pcp := nfld ctrl 26 24, tagged := true, seq := none, b := dramRead s 0 (a + 0x20) len }
          (good → nbit ctrl 29 = true → nbit ctrl 30 = false ∨ onePort (nfld dest 25 16) = none →
            took t (nbit (nfld dest 25 16)) (((vlanOf s vid).map (·.2)).getD 0) f.pcp vid f.b) ∧
          (∀ k, good → nbit ctrl 29 = false → streamOf s f = some k → nbit (frerGet s k 4) 31 = true →
            took t (nbit (nfld (frerGet s k 8) 25 16)) (((vlanOf s vid).map (·.2)).getD 0) f.pcp vid (withRTag f.b (s.frer k).gen) ∧
            t.frer k = { s.frer k with gen := ((s.frer k).gen + 1) % 65536 })) ∧
        (∀ p, good → stamped p →
          ((s.ethPort p).link = false ∨ full p → dramTook s t (a + 8) (leBytes 4 3)) ∧
          (full p → count t (ethOff p 0x20)) ∧
          ((s.ethPort p).link = true → ¬ full p → count t (ethOff p 0x18) ∧ dramTook s t (a + 8) (leBytes 4 1 ++ (leBytes 4 (phyStamp s age).2 ++
            stampBytes (phyStamp s age).1 (ethLat s p 1))))))) ∧
    (∀ p : Fin 10, let x := s.ethPort p
      (∀ k : Fin 8, x.link = true → tget x.queue k ≠ [] → (∀ j : Fin 8, k < j → tget x.queue j = []) →
        EndsIn [.eth, .regs] (.egressFrameSent p) s fun t => regsBut [R (ethOff p 0x18)] s t ∧ count t (ethOff p 0x18) ∧
          t.ethPort p = { x with queue := tset x.queue k (tget x.queue k).tail }) ∧
      ((∀ k : Fin 8, tget x.queue k = []) → EndsIn [] (.egressFrameSent p) s fun _ => True) ∧
      (∀ (role : Bool) (sqi : Fin 8), x.link = false → nbit (ethGet s p 0) 31 = true →
        EndsIn [.eth, .events] (.ethLinkUp p role sqi) s fun t => posted s t .eth 2 (p + 2 ^ 8) ∧ t.ethPort p = { x with
          link := true, sqi := sqi, role := if nbit (ethGet s p 0) 29 then role else nbit (ethGet s p 0) 30 }) ∧
      (x.link = true → EndsIn [.eth, .events, .regs] (.ethLinkDown p) s fun t => posted s t .eth 2 p ∧
        regsBut [R (ethOff p 4)] s t ∧ sfld t .eth (ethOff p 4) 0 0 = 1 ∧ t.ethPort p = { x with link := false })) ∧
    EndsIn [.eth] .fdbAgeing s (fun t => t.eth.ports = s.eth.ports ∧ ∀ e : FdbEntry, e ∈ t.eth.fdb ↔
      e ∈ s.eth.fdb ∧ s.now < e.seen + 250000000 * sfld s .eth 0x18 15 0) ∧
    (∀ l : LaneId, s.owns l = true → EndsIn [.eth] (.flushfdb l) s fun t => t.eth = { s.eth with fdb := [] }) ∧
    (∀ k : Fin 32, let x := s.frer k
      let ms := 250000 * nfld (frerGet s k 0xC) 15 0
      (x.takeAny = false → nbit (frerGet s k 4) 30 = true → x.passAt + ms ≤ s.now → EndsIn [.eth, .regs] (.frerReset k) s fun t =>
        t.frer k = { x with takeAny := true } ∧ regsBut [R (0xC1C + 0x20 * k)] s t ∧ count t (0xC1C + 0x20 * k)) ∧
      (∀ p : Fin 10, nbit (frerGet s k 4) 30 = true → nbit (frerGet s k 8) p = true → nbit (sget s .eth (0xC10 + 0x20 * k)) p = false →
        tget x.seen p + ms ≤ s.now → EndsIn [.events, .regs] (.pathdown k p) s fun t => posted s t .eth 3 (k + p * 2 ^ 8) ∧
          regsBut [R (0xC10 + 0x20 * k)] s t ∧ nbit (sget t .eth (0xC10 + 0x20 * k)) p = true))

/-- R421 to R425, R427, R430: a commit of a program tracker's offset that is not older than 1 s is its first measurement or runs
the servo; a tracker without a measurement for TMO loses VALID, the active one with no other VALID leads to HOLDOVER; SWITCH and
the return to PREF take a VALID tracker's offset as q, step forward out of FREE, or are refused beyond QMAX; FORCEFREE takes the
free addend; a switch that waits in its cycle comes before a commit and holds what follows by itself off until the cycle ends
(stated without one; a SWITCH that was brought forward does no more); reading NOWLO latches the rest; a tick advances the clock
by addend and slew step. -/
def Obligations.LocalClock : Prop :=
  ∀ s : State, s.dark = false →
    -- no switch of the clock waits in this cycle
    let alone : Prop := ∀ c ∈ s.pending, c ≠ .revertSwitch ∧ (∀ l j, c ≠ .timSwitch l j) ∧ (∀ l, c ≠ .forcefree l) ∧
      ∀ i, c ≠ .trackerTimeout i
    -- what follows from VALID has followed
    let settled : Prop := s.tim.forced = true ∨ match timActive s with
      | some i => (s.trk i).valid = true
      | none => sfld s .tim 0 5 5 = 0 ∨ s.tim.frozen = true ∨ (s.trk 0).valid = false ∧ (s.trk 1).valid = false
    (s.faulty .tim = false →
      (∀ (l : LaneId) (i : Fin 2) (v : Word), s.owns l = true → let x := s.trk i
        let age := (localCount s + 2 ^ 32 - x.mtime.toNat) % 2 ^ 32
        let m : Int := signed 64 (v.toNat * 2 ^ 32 + x.offlo.toNat) * 2 ^ 16
        (nfld (dtGet s i 0) 29 28 ≠ 0 → Rejects .tim l 1 (.trackerCommit l i v) s) ∧
        (nfld (dtGet s i 0) 29 28 = 0 → 10 ^ 9 < age → Rejects .tim l 0x11 (.trackerCommit l i v) s) ∧
        (nfld (dtGet s i 0) 29 28 = 0 → age ≤ 10 ^ 9 → dtEn s i = true → s.tim.frozen = false → alone →
          (x.first = true → settled → EndsIn [.tim] (.trackerCommit l i v) s fun t => t.trk i = { x with
            first := false, d := m, integ := 0, count := (x.count + 1) % 65536
            timeout := some (s.now + 250000 * nfld (dtGet s i 0) 15 0) }) ∧
          (x.first = false → EndsIn [.events, .regs, .tim] (.trackerCommit l i v) s fun t =>
            let e := m - timRef s i age
            let mx : Int := nfld (dtGet s i 0xC) 19 0 * 2 ^ 48
            let integ := clampI (-mx) mx (x.integ + dtGet s i 8 * e)
            let y := clampI (-mx) mx (integ + dtGet s i 4 * e)
            (t.trk i).err = e ∧ (t.trk i).integ = integ ∧ (t.trk i).y = y ∧ (t.trk i).count = (x.count + 1) % 65536 ∧
            (t.trk i).a = timNom + timNom * y / (10 ^ 9 * 2 ^ 48)))) ∧
      (∀ i : Fin 2, trkLate s i = true → s.tim.frozen = false → alone → EndsIn [.events, .regs, .tim] (.trackerTimeout i) s fun t =>
        (t.trk i).valid = false ∧ (t.trk i).integ = (s.trk i).integ ∧
        (s.tim.forced = false → timActive s = some i.val → (s.trk (1 - i.val)).valid = false → t.tim.cstate = .holdover ∧ t.tim.addend = s.tim.addend)) ∧
      (∀ (l : LaneId) (j : Fin 2), let d := (s.trk j).d
        let steps := s.tim.cstate = .free ∧ sfld s .tim 0 4 4 = 1 ∧ (sget s .tim 0x48 : Int) * 2 ^ 32 < d
        let far := (sget s .tim 0x44 : Int) * 2 ^ 32 < d.natAbs
        let taken (t : State) : Prop := t.tim.cstate = (if j = 0 then .dt0 else .dt1) ∧ t.tim.addend = (s.trk j).a ∧
          sget t .tim 0x54 = (sget s .tim 0x54 + 1) % 2 ^ 32 ∧ sfld t .tim 4 0 0 = 1 ∧
          (¬ steps → t.tim.q = d ∧ t.tim.count = s.tim.count) ∧
          (steps → t.tim.q = 0 ∧ t.tim.count = s.tim.count + (d / 2 ^ 32).toNat * 2 ^ 32 ∧
            sget t .tim 0x50 = (sget s .tim 0x50 + 1) % 2 ^ 32)
        (s.owns l = true → s.tim.ahead = some j.val → EndsIn [.tim] (.timSwitch l j) s fun t => t.tim = { s.tim with ahead := none }) ∧
        (s.owns l = true → s.tim.ahead ≠ some j.val → (s.trk j).valid = true → timActive s ≠ some j.val →
          (steps ∨ ¬ far → EndsIn [.events, .regs, .tim] (.timSwitch l j) s taken) ∧
          (¬ steps → far → EndsIn [.events, .regs, .tim] (.timSwitch l j) s fun t => t.tim.cstate = s.tim.cstate ∧
            t.tim.q = s.tim.q ∧ posted s t .tim 4 j ∧ nfld (rget t l 0xF078000C) 7 0 = 0x10 ∧ regsBut [0xF078000C] s t)) ∧
        (s.owns l = true → s.tim.ahead ≠ some j.val → (s.trk j).valid = false ∨ timActive s = some j.val → Rejects .tim l 1 (.timSwitch l j) s) ∧
        (sfld s .tim 0 1 1 = j.val → sfld s .tim 0 6 6 = 1 → sfld s .tim 0 5 5 = 1 → timActive s = some (1 - j.val) → (s.trk j).valid = true →
          s.tim.frozen = false → s.tim.forced = false → alone → (s.trk j).validSince + 250000000 * sfld s .tim 0x4C 15 0 ≤ s.now → ¬ far →
          EndsIn [.events, .regs, .tim] .revertSwitch s taken)) ∧
      (∀ l : LaneId, s.owns l = true → (s.tim.cstate ≠ .free → EndsIn [.events, .tim] (.forcefree l) s fun t =>
          t.tim.cstate = .free ∧ t.tim.addend = timNom * (10 ^ 9 + signed 32 (sget s .tim 0x38)) / 10 ^ 9 ∧ posted s t .tim 1 3) ∧
        (s.tim.cstate = .free → Rejects .tim l 1 (.forcefree l) s))) ∧
    (∀ l : LaneId, EndsIn [.regs] (.timNowRead l) s fun t =>
      regsBut ([0x14, 0x18, 0x1C, 0x20, 0x24, 0x28, 0x2C].map (0xF0780000 + ·)) s t ∧
      rget t l 0xF0780014 = s.tim.count / 2 ^ 64 % 2 ^ 32 ∧ rget t l 0xF0780018 = s.tim.count % 2 ^ 32 / 2 ^ 16 ∧
      rget t l 0xF078001C = s.tim.count / 2 ^ 32 / 10 ^ 9 % 2 ^ 32 ∧ rget t l 0xF0780024 = s.tim.count / 2 ^ 32 % 10 ^ 9 ∧
      rget t l 0xF0780028 = s.now % 2 ^ 32 ∧ rget t l 0xF078002C = s.now / 2 ^ 32 % 2 ^ 32) ∧
    -- the slew steps belong to the ticks, the last one too
    (EndsIn [] .slewComplete s fun t => t.sup = s.sup) ∧
    (s.tim.forced = false → (timTick s).tim.q = s.tim.q - slewStep s ∧ (timTick s).tim.cstate = s.tim.cstate ∧
      (timTick s).tim.count = ((s.tim.count : Int) + s.tim.addend + slewStep s).toNat)

/-- R437, R442 to R445, R447 to R450: an unsound message counts in BADCNT; a job for an open receive stream of the module's own
unit is stale, a duplicate, held, beyond the window, refused, or the next, which is journaled; when the own places (of a lane's
job both lanes) and a standby have confirmed it is accepted, counted, posted and acknowledged; every answer names its message
(log entry 48 keeps what HST sends); ACK releases, GAP and STATE put off the sending, COMPLETE is posted; the unacknowledged
jobs are repeated RETRY times, then the stream is STALLED; a refused one is sent again every BACKOFF; OPEN, CLOSE, PAUSE and
RESUME move a stream or are rejected with STATE. -/
def Obligations.StreamMessages : Prop :=
  ∀ s : State, s.dark = false → hstUp s = true → let A := s.sup.active
    let up (t : State) (off : Nat) : Prop := regsBut [0xF0800000 + off] s t ∧ ∀ l : LaneId, rget t l (0xF0800000 + off) =
      min (rget s l (0xF0800000 + off) + 1) (2 ^ 32 - 1)
    let count (i : Instr) (off : Nat) : Prop := EndsIn [.regs] i s fun t => up t off
    let out (n : Nat) (js : List Job) : HstSt := (js.foldl (fun u y => strSend u n y.dest (jobBytes y)) s).hst
    let told (s t : State) (n code data : Nat) : Prop := ∀ l, rbit s l 0xF0800000 0 = true → unitLane (strGet s n 4) l = true →
      t.core l (nfld (strGet s n 0) 28 26) = (s.core l (nfld (strGet s n 0) 28 26)).post ⟨4, code, n, data % 2 ^ 32, false⟩
    (∀ b : List (BitVec 8), msgOk b = false → ∀ i ∈ [Instr.jobReceive b, .ackReceive b, .gapReceive b, .stateReceive b,
      .completeReceive b, .jrepReceive b, .jrepackReceive b, .jsyncReceive b, .jsyncendReceive b], count i 0x54) ∧
    (∀ b : List (BitVec 8), msgOk b = true → let j := msgJob b
      let n := j.stream
      let x := s.str A n
      (leAt b 1 1 = 1 → strGet s n 4 = j.dest → unitKind j.dest ≠ 3 → nbit (strGet s n 0) 31 = false → j.session = x.session →
        let y := { x with epoch := j.epoch }
        (j.epoch < x.epoch → EndsIn [.regs, .strs] (.jobReceive b) s fun t => t.str A n = x ∧ up t 0x58) ∧
        (x.epoch ≤ j.epoch → x.jour = none →
          (seqOff x j.seq < 0 → EndsIn [.hst, .regs, .strs] (.jobReceive b) s fun t => t.str A n = y ∧ up t 0x48 ∧
            let open_ := x.jobs.any fun z => z.1.seq == j.seq && z.1.session == j.session
            t.hst = (strReply s n 2 x.seqA (if open_ then 1 else 3) 0).hst) ∧
          (seqOff x j.seq = 0 → refuse s n j y = 0 → EndsIn [.strs] (.jobReceive b) s fun t =>
            t.str A n = { y with jour := some (j, false, true) }) ∧
          (seqOff x j.seq = 0 → refuse s n j y ≠ 0 → EndsIn [.events, .hst, .regs, .strs] (.jobReceive b) s fun t => t.str A n = y ∧
            up t 0x50 ∧ told s t n 4 (refuse s n j y) ∧ t.hst = (strReply s n 4 j.seq 0 (refuse s n j y)).hst) ∧
          (0 < seqOff x j.seq → seqOff x j.seq ≤ 8 → x.held.length < 8 → (∀ h ∈ x.held, h.seq ≠ j.seq) →
            EndsIn [.regs, .strs] (.jobReceive b) s fun t => t.str A n = { y with held := x.held ++ [j] }) ∧
          (8 < seqOff x j.seq ∨ (0 < seqOff x j.seq ∧ 8 ≤ x.held.length ∧ ∀ h ∈ x.held, h.seq ≠ j.seq) →
            EndsIn [.hst, .regs, .strs] (.jobReceive b) s fun t => t.str A n = y ∧ up t 0x4C ∧
              t.hst = (strReply s n 3 ((x.seqA + 1) % 2 ^ 32) 0 0).hst))) ∧
      (nbit (strGet s n 0) 31 = true → j.session = x.session →
        (leAt b 1 1 = 2 → lvlOfUnit s j.src = none → x.epoch ≤ j.epoch →
          let gone (y : Job) : Prop := 0 ≤ signed 32 (j.seq + 2 ^ 32 - y.seq % 2 ^ 32)
          EndsIn [.events, .hst, .pcl, .strs] (.ackReceive b) s fun t => told s t n 2 j.seq ∧ (t.str A n).epoch = j.epoch ∧
            (x.refused = none → t.hst = s.hst) ∧ t.pcl = yieldAcked s.pcl n (x.sent.filter fun y => decide (gone y)) ∧
            (∀ y, y ∈ (t.str A n).sent ↔ y ∈ x.sent ∧ ¬ gone y) ∧ ((∃ y ∈ x.sent, gone y) → (t.str A n).seqB = j.seq ∧ (t.str A n).tries = 0)) ∧
        (leAt b 1 1 = 3 → EndsIn [.events, .hst, .strs] (.gapReceive b) s fun t => told s t n 3 j.seq ∧
          let again := x.sent.filter fun y => decide (0 ≤ signed 32 (y.seq + 2 ^ 32 - j.seq % 2 ^ 32))
          t.hst = out n again ∧ t.str A n = { x with
            rtoAt := s.now + 2500 * nfld (strGet s n 0xC) 31 16, txTo := again.foldl (fun _ y => y.seq) x.txTo }) ∧
        (leAt b 1 1 = 4 → (∃ y ∈ x.sent, y.seq = j.seq) → EndsIn [.events, .strs] (.stateReceive b) s fun t => told s t n 4 j.reason ∧
          t.str A n = { x with refused := some (j.seq, s.now + 250000 * nfld (strGet s n 0xC) 7 0) }) ∧
        (leAt b 1 1 = 5 → EndsIn [.events] (.completeReceive b) s fun t => told s t n 5 j.seq)) ∧
      (nbit (strGet s n 0) 31 = true → j.session ≠ x.session → (leAt b 1 1 = 2 → count (.ackReceive b) 0x58) ∧
        (leAt b 1 1 = 3 → count (.gapReceive b) 0x58) ∧ (leAt b 1 1 = 4 → count (.stateReceive b) 0x58) ∧
        (leAt b 1 1 = 5 → count (.completeReceive b) 0x58))) ∧
    (∀ n : Fin 1024, let x := s.str A n
      (let two := 2 ≤ unitKind (strGet s n 4) ∨ s.sup.laneMode = .dual;
        (¬ two → EndsIn [] (.jobAccept n) s fun _ => True) ∧
        (∀ j own, two → x.jour = some (j, own, true) → (∀ h ∈ x.held, h.seq ≠ (j.seq + 1) % 2 ^ 32) →
          EndsIn [.events, .hst, .regs, .strs] (.jobAccept n) s fun t => told s t n 1 j.seq ∧ regsBut [0xF0800044] s t ∧
            sget t .hst 0x44 = (sget s .hst 0x44 + 1) % 2 ^ 32 ∧
            t.str A n = { x with jour := none, seqA := j.seq, jobs := x.jobs ++ [(j, false)] } ∧
            t.hst.out = (strReply s n 2 j.seq (if oneCopy s j then 4 else 0) 0).hst.out) ∧
        (∀ j own, two → x.jour = some (j, own, false) → EndsIn [.strs] (.jobAccept n) s fun t =>
          t.str A n = { x with jour := some (j, true, false) })) ∧
      (∀ j rest, x.st = .opened → x.refused = none → x.rtoAt ≤ s.now → x.sent = j :: rest → let w := strGet s n 0xC
        (x.tries < nfld w 15 12 → EndsIn [.hst, .strs] (.jobRetransmit n) s fun t => t.hst = out n x.sent ∧
          t.str A n = { x with tries := x.tries + 1, rtoAt := s.now + 2500 * nfld w 31 16 }) ∧
        (nfld w 15 12 ≤ x.tries → EndsIn [.events, .strs] (.jobRetransmit n) s fun t => t.str A n = { x with st := .stalled } ∧
          told s t n 6 j.seq)) ∧
      (∀ q u, x.refused = some (q, u) → u ≤ s.now → EndsIn [.hst, .strs] (.jobBackoff n) s fun t =>
        t.hst = out n (x.sent.filter fun y => y.seq == q) ∧ t.str A n = { x with refused := some (q, s.now + 250000 * nfld (strGet s n 0xC) 7 0) }) ∧
      (let send := nbit (strGet s n 0) 31
        let unfinished := if send then x.sent ≠ [] else x.seqA ≠ x.seqB ∨ x.jobs ≠ []
        (x.st = .closed → EndsIn [.strs] (.streamOpen A n) s fun t => ∀ l : LaneId,
          t.str l n = { st := .opened, session := nfld (strGet s n 0) 15 0, jobs := (s.str l n).jobs }) ∧
        (x.st ≠ .closed → Rejects .hst A 1 (.streamOpen A n) s) ∧
        (x.st ≠ .closed → ¬ unfinished → EndsIn [.strs] (.streamClose A n) s fun t => ∀ l : LaneId,
          t.str l n = { s.str l n with st := .closed, jour := none, held := [] }) ∧
        (x.st = .closed ∨ unfinished → Rejects .hst A 1 (.streamClose A n) s) ∧
        (x.st = .opened → EndsIn [.strs] (.streamPause A n) s fun t => ∀ l : LaneId,
          t.str l n = { s.str l n with st := .paused }) ∧
        (x.st ≠ .opened → Rejects .hst A 1 (.streamPause A n) s) ∧
        (x.st = .paused → (x.jour.isSome = true ∨ ∀ h ∈ x.held, h.seq ≠ (x.seqA + 1) % 2 ^ 32) → EndsIn [.events, .regs, .strs] (.streamResume A n) s fun t =>
          t.str A n = { x with st := .opened }) ∧
        (x.st = .stalled → EndsIn [.hst, .strs] (.streamResume A n) s fun t => t.hst = out n x.sent ∧ ∀ l : LaneId,
          t.str l n = { s.str l n with
            st := .opened, tries := 0, rtoAt := s.now + 2500 * nfld (strGet s n 0xC) 31 16
            txTo := (s.str l n).sent.foldl (fun _ y => y.seq) (s.str l n).txTo }) ∧
        (x.st = .opened ∨ x.st = .closed → Rejects .hst A 1 (.streamResume A n) s) ∧
        ∀ i ∈ [Instr.streamOpen A.other n, .streamClose A.other n, .streamPause A.other n, .streamResume A.other n, .resign A.other],
          Rejects .hst A.other 3 i s))

/-- R446, R449, R451, R452, R454, R456, R457, R461: a standby module journals the copies that a JREP of its session brings and
drops those up to its number when it says completed; a JREPACK confirms the job being journaled; a sound heartbeat of another
member is heard, one of a higher epoch strikes an ensign or a standby, while listening it tells the ensign; the module sends its
own every HBPER, but not once PARK has begun (R553); a member unheard for MISSN × HBPER is gone, and a standby that lost its
ensign takes over with the epoch raised by one, which stays at 65,535 (the model's choice, log entry 80), and FOCOUNT; records
of a resynchronisation come in order and end it when their number is right; the end of the listening joins an ensign or forms
the hoist; RESIGN ends the ensign's part. -/
def Obligations.HoistLevels : Prop :=
  ∀ s : State, s.dark = false → hstUp s = true → let A := s.sup.active
    let wide := [Part.events, .hst, .recd, .regs, .strs]
    (∀ b : List (BitVec 8), msgOk b = true → let j := msgJob b
      let n := j.stream
      let x := s.str A n
      (∀ k, leAt b 1 1 = 6 → lvlOfUnit s (strGet s n 4) = some k → (s.lvl k).role = 2 → j.epoch = (s.lvl k).epoch → j.session = x.session →
        (j.body = [] → EndsIn [.strs] (.jrepReceive b) s fun t => ∀ l : LaneId, t.str l n = { s.str l n with
          seqB := j.seq, copies := (s.str l n).copies.filter fun c => c.session != j.session || seqAfter c.seq j.seq }) ∧
        (j.body ≠ [] → msgOk j.body = true → EndsIn [.hst, .strs] (.jrepReceive b) s fun t =>
          (t.lvl k).jmark = ((s.lvl k).jmark + 1) % 2 ^ 32 ∧ ∀ l : LaneId, t.str l n = { s.str l n with
            seqA := j.seq, epoch := max (s.str l n).epoch (msgJob j.body).epoch, copies := (s.str l n).copies ++ [msgJob j.body]
            held := (s.str l n).held.filter fun h => h.seq != j.seq })) ∧
      (∀ k y, leAt b 1 1 = 7 → lvlOfUnit s (strGet s n 4) = some k → j.epoch = (s.lvl k).epoch → (s.lvl k).role = 0 → j.session = x.session →
        x.jour = some (y, false, false) → y.seq = j.seq → EndsIn [.events, .regs, .strs] (.jrepackReceive b) s fun t =>
          t.str A n = { x with jour := some (y, false, true) }) ∧
      (leAt b 1 1 = 6 ∨ leAt b 1 1 = 7 → (lvlOfUnit s (strGet s n 4)).isSome = true → j.session ≠ x.session →
        let counted (i : Instr) : Prop := EndsIn [.regs] i s fun t => regsBut [0xF0800058] s t ∧
          ∀ l : LaneId, rget t l 0xF0800058 = min (rget s l 0xF0800058 + 1) (2 ^ 32 - 1)
        (leAt b 1 1 = 6 → counted (.jrepReceive b)) ∧ (leAt b 1 1 = 7 → counted (.jrepackReceive b))) ∧
      (∀ k, leAt b 1 1 = 8 → syncLevel s j (j.seq == 0) = some k → EndsIn wide (.jsyncReceive b) s fun t =>
        (t.lvl k).syncing = true ∧ (t.lvl k).recs =
          if (s.lvl k).syncing = true ∧ (s.lvl k).recs.length = j.seq then (s.lvl k).recs ++ [j.body]
          else if j.seq = 0 then [j.body] else []) ∧
      (∀ k, leAt b 1 1 = 9 → syncLevel s j (j.seq == 0) = some k →
        ((s.lvl k).recs.length ≠ j.seq → EndsIn [.hst] (.jsyncendReceive b) s fun t => t.lvl k = { s.lvl k with recs := [] }) ∧
        ((s.lvl k).recs.length = j.seq → EndsIn wide (.jsyncendReceive b) s fun t => (t.lvl k).syncing = false ∧
          (t.lvl k).recs = [] ∧ (t.lvl k).epoch = (s.lvl k).epoch))) ∧
    (∀ b : List (BitVec 8), let r := leAt b 11 1
      let st := leAt b 10 1
      (hbOk b = false → EndsIn [.regs] (.heartbeatReceive b) s fun t => regsBut [0xF0800054] s t ∧
        ∀ l : LaneId, rget t l 0xF0800054 = min (rget s l 0xF0800054 + 1) (2 ^ 32 - 1)) ∧
      (∀ k, hbOk b = true → lvlOfHoist s (leAt b 2 2) = some k → (r ≠ ownRank s k ∨ speaks s k = false) →
        EndsIn wide (.heartbeatReceive b) s (fun t => tfind (t.lvl k).heard r = some s.now ∧
          tget (t.lvl k).unfit r = (nbit st 2 || nbit st 3)) ∧
        ((s.lvl k).listen.isSome = true → EndsIn [.events, .hst] (.heartbeatReceive b) s fun t =>
          (t.lvl k).ensign = (if st % 4 = 0 ∧ nbit st 2 = false then some r else (s.lvl k).ensign)) ∧
        ((s.lvl k).listen = none → (s.lvl k).epoch < leAt b 8 2 → (s.lvl k).role = 0 ∨ (s.lvl k).role = 2 →
          EndsIn wide (.heartbeatReceive b) s fun t => (t.lvl k).role = 3 ∧ (t.lvl k).syncing = true ∧
            (t.lvl k).epoch = leAt b 8 2 ∧ (t.lvl k).recs = []))) ∧
    (∀ k : Fin 6, let x := s.lvl k
      lvlOn s k = true →
      (speaks s k = true → s.sup.phase = .running → x.hbNext ≤ s.now → EndsIn [.hst] (.heartbeatSend k) s fun t => t.lvl k = { x with
        hbNext := s.now + 250 * sfld s .hst (0x104 + 0x40 * k.val) 23 0, hbSeq := (x.hbSeq + 1) % 2 ^ 32 } ∧
        t.hst.out = (sendBeat s k (resigning s)).hst.out) ∧
      (∀ (r : Fin 32) u, tfind x.heard r.val = some u → u + lvlMiss s k ≤ s.now →
        (x.heard.wf = true → EndsIn wide (.memberLost k r) s fun t => tfind (t.lvl k).heard r.val = none) ∧
        (x.ensign = some r.val → x.role = 2 → r.val ≠ ownRank s k → EndsIn wide (.memberLost k r) s fun t => (t.lvl k).ensign = some (ownRank s k) ∧
          (t.lvl k).epoch = min (x.epoch + 1) 65535 ∧ sget t .hst 0x5C = (sget s .hst 0x5C + 1) % 2 ^ 32)) ∧
      (∀ u, x.listen = some u → u ≤ s.now → k.val = 0 ∨ lvlOn s (k.val - 1) = false ∨ (s.lvl (k.val - 1)).listen = none →
        EndsIn wide (.hoistListen k) s fun t => (t.lvl k).listen = none ∧
          (x.ensign.isSome = true → (t.lvl k).syncing = true ∧ (t.lvl k).epoch = max x.epoch x.maxEpoch) ∧
          (x.ensign = none → (t.lvl k).epoch = min (max x.epoch x.maxEpoch + 1) 65535 ∧
            (t.lvl k).ensign = (liveRanks s k).find? fun r => eligible s k r))) ∧
    ((lvlOn s 0 = true ∧ (s.lvl 0).role = 0 ∧ (s.lvl 0).listen = none) → EndsIn wide (.resign A) s fun t =>
      (t.lvl 0).role = 3 ∧ (t.lvl 0).syncing = true ∧ (t.lvl 0).ensign = none) ∧
    (lvlOn s 0 = false ∨ (s.lvl 0).role ≠ 0 ∨ (s.lvl 0).listen.isSome = true → Rejects .hst A 1 (.resign A) s)

/-- R465, R468 to R471, R474 to R476: at a new window every counter takes its weight, or under WHOLD the one in force; the
waiting request of the highest credit, the lower number among equals, gets its burst, which lowers its credit and is counted;
scrub errors count, and a beat holds an uncorrectable one until it is written (R466); a weight waits for the refill; FREEZE
holds the requesters of its mask, and a blocked lane's load from DRAM waits. R586 to R597: a brown-out switches the cameras off
and its release restores what was on and not shed; supply events are posted; the estimate sums its parts against the budget and
takes the bank's energy; DTRIP after the estimate rose above the budget, and every 1 ms from then on, a shed takes the first
candidate, unless the shed of R231 in that step took it. R523: a checked copy is written over the older one, which is not valid
from then on, and ends DONE, FAILED or BAD. -/
def Obligations.FabricPowerAndConfiguration : Prop :=
  ∀ s : State, s.dark = false →
    (s.faulty .fab = false → let R (off : Nat) : Nat := 0xF0880000 + off
      (s.fab.window < s.now / 1280 → EndsIn [.fab, .regs] .creditRefill s fun t => regsBut [R 0x20] s t ∧ t.fab.window = s.now / 1280 ∧
        (let past := match s.fab.flight with
            | some x => min s.fab.beats ((x.2 - 16 * 1280 * (s.now / 1280) + 4) / 5)
            | none => 0
          sget t .fab 0x20 = min (s.fab.beats - past) 8191 ∧ t.fab.beats = past) ∧
        ∀ n : Fin 16, let x := s.rq n
          let w := rfld s .a (rqReg n 0) 7 0
          let c := if sfld s .fab 0 2 2 = 1 then x.live.getD w else if x.wAt = some s.now then x.before else w
          t.rq n = { x with credit := c, live := some c }) ∧
      (∀ (ws : List (Fin 16 × Fin 16 × BitVec 24)) (ce : Fin 17) (t : State), s.fab.window < s.now / 1280 →
        exec .creditRefill s = .next t → exec (.burstGrant ws ce) s = exec (.burstGrant ws ce) t) ∧
      (∀ (ws : List (Fin 16 × Fin 16 × BitVec 24)) (ce : Fin 17), (∀ w ∈ ws, w.2.1.val < rqBurst w.1) → s.now / 1280 ≤ s.fab.window →
        let busy : Prop := ∃ x, s.fab.flight = some x ∧ 16 * (s.now + 1) ≤ x.2
        let free := match s.fab.flight with
          | some x => x.2
          | none => 0
        let waits (n : Nat) : Prop := (∃ w ∈ ws, w.1.val = n) ∧ rqFrozen s n = false
        (busy ∨ (∀ n : Fin 16, ¬ waits n) → EndsIn [.fab] (.burstGrant ws ce) s fun t => t.fab.flight = s.fab.flight ∧
          ∀ n : Fin 16, t.rq n = { s.rq n with wait := (ws.find? fun w => w.1 == n).map fun w => (w.2.2.toNat, s.now) }) ∧
        (¬ busy → (∃ n : Fin 16, waits n) → EndsIn [.fab, .regs] (.burstGrant ws ce) s fun t => ∃ n w, n < 16 ∧ waits n ∧
          (ws.find? fun w => w.1.val == n) = some w ∧ let burst := w.2.1.val + 1
          (∀ m, waits m → (s.rq m).credit ≤ (s.rq n).credit) ∧
          (0 < (s.rq n).credit → ∀ m, waits m → (s.rq m).credit = (s.rq n).credit → n ≤ m) ∧
          (t.rq n).credit = (s.rq n).credit - burst ∧ t.fab.flight = some (n, max (16 * s.now) free + 5 * burst) ∧
          rget t .a (rqReg n 0xC) = max (rget s .a (rqReg n 0xC)) w.2.2.toNat ∧
          rget t .a (rqReg n 0x14) = (if (s.rq n).credit = 0 then min (rget s .a (rqReg n 0x14) + burst) (2 ^ 32 - 1) else rget s .a (rqReg n 0x14)) ∧
          sget t .fab 0x14 = min (sget s .fab 0x14 + min ce.val burst) (2 ^ 32 - 1) ∧
          t.fab.beats = s.fab.beats + burst ∧ rget t .a (rqReg n 0x10) = (rget s .a (rqReg n 0x10) + burst) % 2 ^ 32 ∧
          (∀ m : Fin 16, m.val ≠ n → (t.rq m).credit = (s.rq m).credit) ∧
          t.fab.last = (if (s.rq n).credit = 0 then n else s.fab.last))) ∧
      (∀ (beat : BitVec 26) (err : Option Bool),
        let bad := err = some true ∨ beat.toNat ∈ s.dq.bad
        (bad → EndsIn [.dq, .regs] (.scrubRead beat err) s fun t => regsBut [R 0x18, R 0x1C] s t ∧ sget t .fab 0x1C / 64 = beat.toNat ∧
          sget t .fab 0x18 = min (sget s .fab 0x18 + 1) (2 ^ 32 - 1) ∧ ∀ b, b ∈ t.dq.bad ↔ b ∈ s.dq.bad ∨ b = beat.toNat) ∧
        (¬ bad → err = none → EndsIn [] (.scrubRead beat err) s fun _ => True) ∧
        (¬ bad → err = some false → EndsIn [.regs] (.scrubRead beat err) s fun t => regsBut [R 0x14] s t ∧
          sget t .fab 0x14 = min (sget s .fab 0x14 + 1) (2 ^ 32 - 1))) ∧
      -- a store or an engine's write clears the errors of its beats, a read meets them
      (∀ (g a : Nat) (bs : List (BitVec 8)) (b : Nat), b ∈ (dramWrite s g a bs).dq.bad ↔ b ∈ s.dq.bad ∧ beatIn g a bs.length b = false) ∧
      (∀ (r : DramReader) (g a n b : Nat), b ∈ s.dq.bad → beatIn g a n b = true → (r, b) ∈ (dramMeet s r g a n).dq.met) ∧
      (∀ l : LaneId, s.owns l = true →
        (∀ (n : Fin 16) (v : Word), EndsIn [.fab, .regs] (.weightWrite l n v) s fun t => regsBut [rqReg n 0] s t ∧
          rfld t .a (rqReg n 0) 7 0 = v.toNat % 256 ∧ (t.rq n).credit = (s.rq n).credit ∧
          ((s.rq n).wAt ≠ some s.now → (t.rq n).wAt = some s.now ∧ (t.rq n).before = rfld s .a (rqReg n 0) 7 0)) ∧
        (∀ on : Bool, EndsIn [.regs] (.weightHold l on) s (fun t => regsBut [R 0] s t ∧ sfld t .fab 0 2 2 = b2n on ∧
            sfld t .fab 0 1 1 = sfld s .fab 0 1 1) ∧
          EndsIn [.fab, .regs] (.fabricFreeze l on) s fun t => regsBut [R 0] s t ∧ sfld t .fab 0 2 2 = sfld s .fab 0 2 2 ∧
            (∀ n : Fin 16, rqFrozen t n = (on && nbit (sget s .fab 0x10) n)) ∧
            (on = true → fabFreeze s = false → s.fab.flight = none → fabDrained t = true)))) ∧
    (∀ (l : LaneId) (c : Fin 8) (d : VReg), laneBlocked s l = true →
      ((s.core l c).loads.any fun p => p.dst == d.val && p.dram) = true → exec (.loadReturn l c d) s = .next s) ∧
    (s.pwr.brownout = false → EndsIn [.cam, .events, .pwr, .regs] .cameraBrownout s fun t => t.pwr = { s.pwr with
        brownout := true, camOn := (List.range 8).map fun n => (n, (s.link n).power) } ∧ ∀ n : Fin 8, (t.link n).power = false ∧
      ((s.link n).power = true → linkUp s n = true → (t.link n).st = .down ∧ (t.link n).lost = some s.now) ∧
      ((∀ k : Fin 8, (s.link k).power = true → linkUp s k = false) → posted s t .pwr 9 1)) ∧
    (s.pwr.brownout = true → EndsIn [.cam, .events, .pwr] .brownoutRelease s fun t => posted s t .pwr 9 0 ∧
      t.pwr = { s.pwr with brownout := false, camOn := [] } ∧ ∀ n : Fin 8, t.link n = { s.link n with
        power := (s.link n).power || tget s.pwr.camOn n && !tget s.pwr.camShed n }) ∧
    -- the threshold is 16 V with SYSV = 1, else 6 V; the voltage comes from the world
    (∀ k : Fin 2, let low := vbatV s k < if rbit s s.sup.active 0xF0380000 1 = true then 1600 else 600
      (tget s.pwr.vsuv k = false → EndsIn [.events, .pwr] (.valveSupplyUv k) s fun t => if low then posted s t .pwr 7 (k + 2 ^ 8) ∧
        t.pwr = { s.pwr with vsuv := tset s.pwr.vsuv k true } else t = s) ∧
      EndsIn [.pwr] (.valveSupplyReturn k) s (fun t => t.pwr = if low then s.pwr else { s.pwr with vsuv := tset s.pwr.vsuv k false }) ∧
      (∀ mean : BitVec 16, 300 < mean.toNat → sfld s .pwr 4 (4 + k) (4 + k) = 0 → EndsIn [.events, .pwr, .regs] (.valveSupplyOver k mean) s fun t =>
        t.pwr = { s.pwr with vsupi := tset s.pwr.vsupi k mean.toNat } ∧ posted s t .pwr 7 k ∧ regsBut [0xF0B00004] s t ∧ sfld t .pwr 4 (4 + k) (4 + k) = 1) ∧
      (∀ mean : BitVec 16, mean.toNat ≤ 300 → EndsIn [.pwr] (.valveSupplyOver k mean) s fun t =>
        t.pwr = { s.pwr with vsupi := tset s.pwr.vsupi k mean.toNat })) ∧
    (∀ n : Fin 12, ssOn s n = true → EndsIn [.events, .regs] (.sensorSupplyFault n) s fun t => posted s t .pwr 6 n ∧
      regsBut [0xF0B0005C] s t ∧ ssOn t n = false) ∧
    (∀ (l : LaneId) (m : BitVec 12), s.owns l = true → s.faulty .pwr = false → EndsIn [.regs] (.sensorSupplyRestart l m) s fun t =>
      regsBut [0xF0B0005C] s t ∧ ∀ n : Fin 12, nbit (sget t .pwr 0x5C) n = (nbit (sget s .pwr 0x5C) n && !m.getLsbD n)) ∧
    (∀ cpu cam boost ls pv bk bank : BitVec 16, s.faulty .pwr = false → s.sup.modMode ≠ .bench → s.pwr.estAt + 250000 ≤ s.now →
      EndsIn [.pwr] (.dissEstimate cpu cam boost ls pv bk bank) s fun t => t.pwr.estAt = s.now ∧ t.pwr.budnow = budget s ∧
        t.pwr.energy = bank.toNat ∧ t.pwr.huReady = (decide (105 ≤ bank.toNat) || (s.pwr.huReady && decide (95 ≤ bank.toNat))) ∧
        let d := min (cpu.toNat + cam.toNat * 5 / 48 + boost.toNat / 10 + ls.toNat + pv.toNat + bk.toNat) 65535
        t.pwr.dissnow = d ∧ (d + sfld s .pwr 0x18 15 0 ≤ budget s → t.pwr.shedding = false) ∧
        (d ≤ budget s → t.pwr.overSince = none) ∧
        (budget s < d → outFrozen s = false → s.pwr.overSince = none → t.pwr.overSince = some s.now)) ∧
    (s.faulty .pwr = false → outFrozen s = false →
      let due : Prop := s.pwr.shedding = true ∨ ∃ u, s.pwr.overSince = some u ∧ u + 250000000 * sfld s .pwr 0x18 23 16 ≤ s.now
      let early : Prop := ∃ u, s.pwr.shedAt = some u ∧ s.now < u + 250000
      let above := s.pwr.budnow < s.pwr.dissnow + sfld s .pwr 0x18 15 0
      let sheds (n : Nat) (t : State) : Prop := sget t .pwr 0x6C = min (sget s .pwr 0x6C + n) (2 ^ 32 - 1) ∧ t.pwr.shedAt = some s.now
      (sfld s .pwr 0 1 1 = 0 ∨ ¬ due ∨ early ∨ ¬ above → EndsIn [] .dissShed s fun _ => True) ∧
      (sfld s .pwr 0 1 1 = 1 → due → ¬ early → above →
        (s.out.shedLast = none →
          (∀ p n rest, dissCandidates s = (p, 1, n) :: rest → s.pwr.brownout = false → EndsIn [.cam, .events, .pwr, .regs] .dissShed s fun t =>
            sheds 1 t ∧ (t.link n).power = false ∧ tget t.pwr.camShed n = true ∧ (linkUp s n = false → posted s t .pwr 4 n)) ∧
          (∀ p n rest, dissCandidates s = (p, 0, n) :: rest → EndsIn [.events, .out, .pwr, .regs] .dissShed s fun t => sheds 1 t ∧
            lsBit t n 0 = false ∧ lsBit t n 5 = true) ∧
          (dissCandidates s = [] → s.pwr.dissat = false → EndsIn [.events, .pwr] .dissShed s fun t => sheds 0 t ∧ t.pwr.dissat = true ∧
            posted s t .pwr 5 s.pwr.dissnow)) ∧
        (∀ e, s.out.shedLast = some e → shedStep s = true → rfld s .a (lsReg e.2 0) 31 28 ≠ 0 →
          (∀ c ∈ dissCandidates s, c.2.1 = 1 → c.1 < rfld s .a (lsReg e.2 0) 31 28) →
          EndsIn [.pwr] .dissShed s fun t => sheds 0 t ∧ t.pwr.shedding = true))) ∧
    (∀ e : BitVec 16, e.toNat < 95 → s.pwr.bankWeak = false → EndsIn [.events, .pwr] (.bankWeak e) s fun t => posted s t .pwr 8 e.toNat ∧
      t.pwr = { s.pwr with bankWeak := true, huReady := false, energy := e.toNat }) ∧
    (s.pwr.tambAt + 15000000000 ≤ s.now → EndsIn [.pwr] .tambStale s fun t => t.pwr = { s.pwr with tambStale := true }) ∧
    (∀ l : LaneId, s.owns l = true → s.faulty .cfg = false →
      let n := sget s .cfg 0x14
      let c := dramRead s 0 (sget s .cfg 0x10) n
      let target : LaneId := match cfgNewest s with
        | some p => p.1.other
        | none => .a
      let seq := match cfgNewest s with
        | some p => p.2 + 1
        | none => 1
      let sized := 152 ≤ n ∧ n ≤ 4194384 ∧ n = 144 + cfgLen c
      (s.cfg.writing.isSome = true ∨ s.faulty .sec = true → Rejects .cfg l 5 (.cfgWrite l) s) ∧
      (s.cfg.writing = none → s.faulty .sec = false →
        (s.sup.power = .holdup → Rejects .cfg l 1 (.cfgWrite l) s) ∧
        (s.sup.power ≠ .holdup → ¬ sized → Rejects .cfg l 4 (.cfgWrite l) s) ∧
        (s.sup.power ≠ .holdup → sized → cfgChecks s c = true → EndsIn [.cfg, .dq] (.cfgWrite l) s fun t =>
          t.cfg.writing = some ⟨target, seq, some (cfgSeal c seq), (cfgCopy s target, cfgSeqOf s (cfgCopy s target))⟩ ∧ cfgCopy t target.other = cfgCopy s target.other ∧
          (match target with
            | .a => t.cfg.seqA
            | .b => t.cfg.seqB) = 0) ∧
        (s.sup.power ≠ .holdup → sized → cfgChecks s c = false → EndsIn [.cfg, .dq] (.cfgWrite l) s fun t =>
          t.cfg = { s.cfg with writing := some { target := target, seq := seq } }))) ∧
    (∀ w : CfgWrite, s.cfg.writing = some w → rqBlocked s 15 = false →
      let ends (t : State) (r : Nat) : Prop := posted s t .cfg 1 r ∧ t.cfg.writing = none ∧ t.cfg.result = r
      (∀ ok : Bool, w.bytes = none → EndsIn [.cfg, .events] (.cfgWriteDone ok) s fun t => ends t 2) ∧
      (∀ c, w.bytes = some c → EndsIn [.cfg, .events] (.cfgWriteDone false) s fun t => ends t 3) ∧
      (∀ c, w.bytes = some c → EndsIn [.cfg, .events, .regs] (.cfgWriteDone true) s fun t => ends t 1 ∧ cfgCopy t w.target = c ∧
        cfgCopy t w.target.other = cfgCopy s w.target.other ∧ sget t .cfg 0x34 = (sget s .cfg 0x34 + 1) % 2 ^ 32))

/-- R480 to R493: a hardware record, or a program record of PWCMD, enters both buffers at NEXT with the bytes of R480 and takes
the next SEQ, and starts a flush or leaves one pending under R485; with 8,192 unflushed records it is tallied and counted and
FULL is posted; the flush that makes room again writes a GAP record; while FROZEN it is tallied only. FLUSH, the end of a flush,
which reads the other lane's buffer where a record is bad, FREEZE, THAW, the expiry of FRZTMO (a GAP record, then a flush that
is pending), READ and its end, NONCE, CLEAR with a token, the expiry of a nonce and the tick of OPHRS do what the rules say, or
are rejected with BUSY, STATE, RANGE, 0x10 TOKEN or 0x11 NONCE. A GAP record carries no lane in ORIGIN (the model's choice, log
entry 44), and a nonce is a free value (log entry 5). -/
def Obligations.Recorder : Prop :=
  ∀ s : State, (s.sup.phase ≠ .off → s.recd.ophrsFrac + 9000000000 ≤ s.now → EndsIn [.recd] .ophrsTick s fun t =>
      t.recd = { s.recd with ophrs := (s.recd.ophrs + 1) % 2 ^ 32, ophrsFrac := s.recd.ophrsFrac + 9000000000 }) ∧ (s.dark = false →
    (∀ (p : Fin 4) n, tfind s.sec.nonces p.val = some n → n.until_ ≤ s.now → s.sec.nonces.wf = true →
      EndsIn [.sec] (.nonceExpiry p) s fun t => ∀ j, tfind t.sec.nonces j = if j = p.val then none else tfind s.sec.nonces j) ∧
    (s.faulty .recd = false → let R (off : Nat) : Nat := 0xF0900000 + off
      let r := s.recd
      let unflushed := r.next - r.flushed
      -- the record in both buffers, with what of R480 the submission fixes
      let holds (t : State) (code origin : Nat) (data : List Byte) : Prop := let b := (tfind t.recd.bufA r.next).getD []
        b.length = 64 ∧
        leAt b 0 8 = (if sfld s .recd 0 1 1 = 1 then r.ophrs % 2 ^ 32 + r.pcyc % 2 ^ 24 * 2 ^ 32 else r.seq % 2 ^ 48) ∧
        leAt b 8 2 = code % 2 ^ 16 ∧ leAt b 10 2 = origin % 2 ^ 16 ∧ leAt b 16 8 = localCount s ∧ sliceB b 24 40 = sliceB data 0 40 ∧
        (leAt b 12 1 = sfld s .recd 0 1 1 + 2 * b2n (flushClass code) + 4 * s.tim.cstate.code) ∧
        (∀ i, tfind t.recd.bufA i = if i = r.next then some b else tfind r.bufA i) ∧
        (∀ i, tfind t.recd.bufB i = if i = r.next then some b else tfind r.bufB i) ∧ t.recd.next = r.next + 1 ∧
        t.recd.seq = (r.seq + 1) % 2 ^ 48 ∧ (r.seqEnd ≤ r.seq → t.recd.seqEnd = r.seq + 4096) ∧
        t.recd.store = r.store ∧ t.recd.oldest = r.oldest ∧ t.recd.flushed = r.flushed
      let puts (t : State) (code origin : Nat) (data : List Byte) : Prop := holds t code origin data ∧
        if flushClass code = true ∨ unflushed + 1 = 6144 then t.recd.state = .flushing ∧
          (r.state = .recording → t.recd.flushTo = r.next + 1 ∧ t.recd.flushStart = s.now ∧ t.recd.flushPend = r.flushPend) ∧
          (r.state = .flushing → r.flushStart ≠ s.now → t.recd.flushTo = r.flushTo ∧ t.recd.flushPend = true) ∧
          (r.state = .flushing → r.flushStart = s.now → t.recd.flushTo = r.next + 1 ∧ t.recd.flushPend = r.flushPend)
        else t.recd.state = r.state ∧ t.recd.flushPend = r.flushPend
      let tallied (t : State) (code : Nat) : Prop := t.recd.bufA = r.bufA ∧ t.recd.bufB = r.bufB ∧ t.recd.next = r.next ∧
        t.recd.seq = r.seq ∧ t.recd.state = r.state ∧ t.recd.total = min (r.total + 1) (2 ^ 32 - 1) ∧
        let seen := r.tally.any fun p => p.1 == code
        (seen = true → t.recd.tally = r.tally.map fun p => if p.1 = code then (p.1, min (p.2 + 1) 65535) else p) ∧
        (seen = true → t.recd.distinct = r.distinct ∧ t.recd.more = r.more) ∧
        (seen = false → r.tally.length < 8 → t.recd.tally = r.tally ++ [(code, 1)] ∧ t.recd.distinct = min (r.distinct + 1) 65535 ∧
          t.recd.more = r.more) ∧
        (seen = false → 8 ≤ r.tally.length → t.recd.tally = r.tally ∧ t.recd.distinct = r.distinct ∧ t.recd.more = true)
      let gap (t : State) : Prop := let g := (tfind t.recd.bufA r.next).getD []
        g.length = 64 ∧ leAt g 8 2 = 2 ∧
        leAt g 24 4 = r.total % 2 ^ 32 ∧ nbit (leAt g 30 1) 1 = true
      let submits (i : Instr) (code origin : Nat) (data : List Byte) : Prop :=
        (r.state ≠ .frozen → unflushed < 8192 → r.full = false → EndsIn [.recd] i s fun t => puts t code origin data) ∧
        (r.state ≠ .frozen → unflushed + 1 < 8192 → r.full = true → EndsIn [.recd] i s fun t => gap t ∧
          let b := (tfind t.recd.bufA (r.next + 1)).getD []
          b.length = 64 ∧ leAt b 8 2 = code % 2 ^ 16 ∧ t.recd.next = r.next + 2 ∧ t.recd.full = false ∧
          t.recd.tally = [] ∧ t.recd.total = 0) ∧
        (r.state ≠ .frozen → unflushed + 1 = 8192 → r.full = true → EndsIn [.events, .recd, .regs] i s fun t => gap t ∧
          t.recd.next = r.next + 1 ∧ t.recd.full = true ∧ t.recd.tally = [(code, 1)] ∧ t.recd.total = 1) ∧
        (r.state ≠ .frozen → 8192 ≤ unflushed → EndsIn [.events, .recd, .regs] i s fun t => tallied t code ∧ t.recd.full = true ∧
          regsBut [R 0x70] s t ∧ sget t .recd 0x70 = min (sget s .recd 0x70 + 1) (2 ^ 32 - 1) ∧
          (r.full = false → posted s t .recd 4 (min (sget t .recd 0x70) 65535))) ∧
        (r.state = .frozen → EndsIn [.recd] i s fun t => tallied t code ∧ t.recd.flushPend = (r.flushPend || flushClass code))
      let thawed (t : State) : Prop := holds t 2 0x90 (gapData r r.full false) ∧ t.recd.frozenUntil = none ∧ t.recd.tally = [] ∧
        t.recd.total = 0 ∧ t.recd.distinct = 0 ∧ t.recd.more = false ∧ t.recd.flushPend = false ∧
        leAt (gapData r r.full false) 0 4 = r.total % 2 ^ 32 ∧ leAt (gapData r r.full false) 4 2 = r.distinct % 2 ^ 16 ∧
        (r.flushPend = true ∨ unflushed + 1 = 6144 → t.recd.state = .flushing ∧ t.recd.flushTo = r.next + 1) ∧
        (¬ (r.flushPend = true ∨ unflushed + 1 = 6144) → t.recd.state = .recording)
      (∀ (l : LaneId) (code : BitVec 16) (o : BitVec 12) (d : BitVec 320),
        (hwCode code.toNat = true → submits (.recordEnter l code o d) code.toNat (o.toNat + 4096 * l.num) (leBytes 40 d.toNat)) ∧
        (hwCode code.toNat = false → EndsIn [] (.recordEnter l code o d) s fun _ => True)) ∧
      (∀ (l : LaneId) (c : Fin 8) (v : Word), s.owns l = true → let code := v.toNat % 65536
        (code < 0x8000 → Rejects .recd l 4 (.pwcmd l c v) s) ∧
        (0x8000 ≤ code → submits (.pwcmd l c v) code (0xFFF + 4096 * l.num + 8192 * c)
          ((List.range 10).map fun k => leBytes 4 (tget (s.core l c).pwbuf k).toNat).flatten)) ∧
      (∀ l : LaneId, s.owns l = true →
        (r.state = .recording → EndsIn [.recd] (.recFlush l) s fun t =>
          t.recd = { r with state := .flushing, flushTo := r.next, flushStart := s.now }) ∧
        (r.state = .flushing → r.flushStart = s.now → EndsIn [.recd] (.recFlush l) s fun t => t.recd = { r with flushTo := r.next }) ∧
        (r.state = .frozen ∨ (r.state = .flushing ∧ r.flushStart ≠ s.now) → EndsIn [.recd] (.recFlush l) s fun t =>
          t.recd = { r with flushPend := true }) ∧
        (r.state = .recording → EndsIn [.recd] (.recFreeze l) s fun t =>
          t.recd = { r with state := .frozen, frozenUntil := some (s.now + 250000000 * sfld s .recd 0x3C 15 0) }) ∧
        (r.state = .flushing → Rejects .recd l 5 (.recFreeze l) s) ∧ (r.state = .frozen → Rejects .recd l 1 (.recFreeze l) s) ∧
        (r.state = .frozen → EndsIn [.recd] (.thaw l) s thawed) ∧ (r.state ≠ .frozen → Rejects .recd l 1 (.thaw l) s) ∧
        (let idx := sget s .recd 0x40 + sget s .recd 0x44 * 2 ^ 32
          let cnt := sfld s .recd 0x4C 8 0
          (r.read.isSome = true → Rejects .recd l 5 (.recRead l) s) ∧
          (r.read = none → idx < r.oldest ∨ r.next < idx + cnt ∨ cnt = 0 ∨ 256 < cnt → Rejects .recd l 4 (.recRead l) s) ∧
          (r.read = none → r.oldest ≤ idx → idx + cnt ≤ r.next → 1 ≤ cnt → cnt ≤ 256 → EndsIn [.recd] (.recRead l) s fun t =>
            t.recd = { r with read := some ⟨idx, cnt, sget s .recd 0x48⟩ })) ∧
        (s.faulty .sec = true ∨ tokenBusy s 3 = true → Rejects .recd l 5 (.recNonce l) s) ∧
        (s.faulty .sec = false → tokenBusy s 3 = false → EndsIn [.free, .sec] (.recNonce l) s fun t => t.freeCtr = s.freeCtr + 1 ∧ t.sec = { s.sec with
          nonces := tset s.sec.nonces 3 ⟨Config.freeNonce s.freeCtr, s.now + 75000000000⟩ }) ∧
        (r.state = .flushing ∨ s.faulty .sec = true → Rejects .recd l 5 (.recClear l) s) ∧
        (r.state ≠ .flushing → s.faulty .sec = false →
          let tok := dramRead s 0 (sget s .recd 0x50) (sfld s .recd 0x54 9 0)
          let spent (t : State) (read : Bool) : Prop := t.sec = { s.sec with
            nonces := tdel s.sec.nonces 3, checked := if read then tset s.sec.checked 3 s.now else s.sec.checked }
          let refused (n : Nat) : Prop := EndsIn [.dq, .regs, .sec] (.recClear l) s fun t => spent t (n == 0x10) ∧ regsBut [R 0xC] s t ∧
            nfld (rget t l (R 0xC)) 7 0 = n ∧ nbit (rget t l (R 0xC)) 31 = true
          (nonceOf s 3 = none → refused 0x11) ∧
          (∀ n, nonceOf s 3 = some n → tokenOk s 3 n.value tok = none → refused 0x10) ∧
          (∀ n k life, nonceOf s 3 = some n → tokenOk s 3 n.value tok = some (k, life) →
            EndsIn [.dq, .events, .recd, .sec] (.recClear l) s fun t => spent t true ∧ posted s t .recd 3 k ∧ t.recd.store = [] ∧
              t.recd.oldest = r.next ∧ t.recd.flushed = r.next ∧ t.recd.next = r.next + 1 ∧ t.recd.seq = (r.seq + 1) % 2 ^ 48 ∧
              t.recd.state = .flushing ∧ t.recd.flushTo = r.next + 1 ∧ t.recd.tally = [] ∧ t.recd.total = 0 ∧ t.recd.full = false ∧
              t.recd.frozenUntil = none ∧ let b := (tfind t.recd.bufA r.next).getD []
                t.recd.bufA = [(r.next, b)] ∧ t.recd.bufB = [(r.next, b)] ∧
                leAt b 8 2 = 1 ∧ leAt b 24 8 = k % 2 ^ 64 ∧ leAt b 40 8 = (r.next - r.oldest) % 2 ^ 64 ∧ leAt b 48 4 = r.total % 2 ^ 32))) ∧
      (∀ u, r.state = .frozen → r.frozenUntil = some u → u ≤ s.now → EndsIn [.recd] .freezeTimeout s thawed) ∧
      (r.state = .flushing → EndsIn [.events, .recd, .regs] .flushDone s fun t => regsBut [R 0x74, R 0x78] s t ∧
        t.recd.flushed = r.flushTo ∧ t.recd.oldest = max r.oldest (r.flushTo - 16777216) ∧ posted s t .recd 2 (r.flushTo - r.flushed) ∧
        sget t .recd 0x74 = (sget s .recd 0x74 + 1) % 2 ^ 32 ∧
        (let room := r.next - r.flushTo < 8192;
          (r.full = false ∨ ¬ room → t.recd.next = r.next ∧ (r.flushPend = false → t.recd.state = .recording) ∧
            (r.flushPend = true → t.recd.state = .flushing ∧ t.recd.flushTo = r.next ∧ t.recd.flushPend = false)) ∧
          (r.full = true → room → gap t ∧ t.recd.next = r.next + 1 ∧ t.recd.full = false ∧ t.recd.tally = [] ∧ t.recd.total = 0 ∧
            (r.flushPend = true → t.recd.state = .flushing ∧ t.recd.flushTo = r.next + 1))) ∧
        -- a record whose beat in the active lane's buffer is bad comes from the other lane's
        ∀ i, t.recd.oldest ≤ i → tfind t.recd.store i = if r.flushed ≤ i ∧ i < r.flushTo then
          (tfind (r.buf (if Config.recordBad s.sup.active.num i r.pcyc s.now then s.sup.active.other else s.sup.active)) i).or (tfind r.store i)
          else tfind r.store i) ∧
      (let held := fun q : RecRead => rqBlocked s 11 = true ∨ q.idx < r.flushed ∧ rqBlocked s 13 = true;
      (r.read = none ∨ (∃ q, r.read = some q ∧ held q) → EndsIn [] .readDone s fun _ => True) ∧
      (∀ q, r.read = some q → ¬ held q → EndsIn [.dram, .dq, .events, .free, .recd] .readDone s fun t => t.recd = { r with read := none } ∧
        posted s t .recd 1 (q.cnt + if q.idx < r.oldest then 2 ^ 17 else 0) ∧
        ((∀ k, k < q.cnt → ∃ b, recAt s (q.idx + k) = some b ∧ b.length = 64) → t.freeCtr = s.freeCtr ∧
          dramTook s t q.buf ((List.range q.cnt).map fun k => (recAt s (q.idx + k)).getD []).flatten)))))

/-- R499, R500, R502, R504 to R510, R512, R513: UPDATE takes the first free slot and the next UID, or is rejected with RANGE,
STATE or QFULL; once its lines are read the dirty ones become its lines and targets, and the panel powers up when DISCHARGED; a
pending update that stands alone starts its lines at a boundary, each with the K of its pixels; the end of a frame takes on the
lines of the updates whose own frame it ends (R502) and finishes those at K, and the last one leaves IDLE with PWRHOLD running;
stopped lines lead to HUABORT and a discharge, the last of whose lines switches VGH off; lines go out with their drive codes;
PBSY, PWRHOLD, DISCHARGE, the end of the sequence, the loop, RECHECK and TEMPSTALE do what the rules say. RECHECK reads the loop
from the world (log entry 5). -/
def Obligations.Panel : Prop :=
  ∀ s : State, s.dark = false → s.faulty .pnl = false →
    let R (off : Nat) : Nat := 0xF0980000 + off
    let p := s.pnl
    let height := sfld s .pnl 0x10 24 16
    let width := sfld s .pnl 0x10 9 0
    let mayPower := p.checked = true ∧ s.sup.power ≠ .holdup ∧ s.sup.modMode ≠ .park
    let waits := ∃ x ∈ p.slots, x.2.st = .pending
    let discharged (t : State) : Prop := t.pnl.st = .discharged ∧ t.pnl.discharging = true ∧ t.pnl.disAt = s.now ∧
      t.pnl.powerup = false ∧ t.pnl.holdEnd = none ∧ t.pnl.frameEnd = none ∧ t.pnl.nextLine = 0 ∧ t.pnl.marker = p.marker
    (∀ (l : LaneId) (full : Bool) (first last : BitVec 9), s.owns l = true → let i : Instr := .panelUpdate l full first last
      let inside := first.toNat ≤ last.toNat ∧ last.toNat < height
      let legal := p.st ≠ .cracked ∧ s.sup.power ≠ .holdup
      (¬ legal → Rejects .pnl l 1 i s) ∧
      -- slot 0 is kept for the clearing refresh when one is sure to follow the discharge (the model's, log entry 82)
      let free (n : Nat) : Prop := n < 8 ∧ (s.pslot n).st = .free ∧ ¬ (n = 0 ∧ p.startDue = true ∧ p.aborted = true)
      (legal → (∀ n, ¬ free n) → Rejects .pnl l 0x10 i s) ∧
      (legal → (∃ n, free n) → ¬ inside → Rejects .pnl l 4 i s) ∧
      (∀ n, inside → legal → free n → (∀ m, m < n → ¬ free m) →
        EndsIn [.pnl, .regs] i s fun t => let u := if p.uid = 65535 then 1 else p.uid + 1
          regsBut [R 0x34] s t ∧ sget t .pnl 0x34 = u % 2 ^ 32 ∧ t.pnl.uid = u ∧ t.pnl.st = p.st ∧ t.pnl.targets = p.targets ∧
          t.pslot n = { st := .loading, uid := u, order := p.order + 1, full := full, first := first.toNat, last := last.toNat, img := sget s .pnl 0x14 } ∧
          ∀ m, m ≠ n → t.pslot m = s.pslot m)) ∧
    ((∀ x ∈ p.slots, x.2.st ≠ .loading) ∨ rqBlocked s 14 = true → EndsIn [] .updateLoaded s fun _ => True) ∧
    (∀ n x, p.slots = [(n, x)] → x.st = .loading → rqBlocked s 14 = false →
      let line (i : Nat) : List Byte := dramRead s 0 (x.img + 160 * i) 160
      let dirty (i : Nat) : Prop := x.first ≤ i ∧ i ≤ x.last ∧
        (x.full = true ∨ ∃ c, c < width ∧ pixel (line i) c ≠ pixel (pnlTarget s i) c)
      ((∀ i, ¬ dirty i) → EndsIn [.dq, .events, .pnl] .updateLoaded s fun t => t.pslot n = {} ∧ posted s t .pnl 1 x.uid ∧
        t.pnl.targets = p.targets ∧ t.pnl.st = p.st) ∧
      ((∃ i, dirty i) → EndsIn [.dq, .events, .pnl] .updateLoaded s fun t => (t.pslot n).st = .pending ∧ (t.pslot n).uid = x.uid ∧
        (∀ i, (dirty i → tfind (t.pslot n).lines i = some (line i) ∧ pnlTarget t i = line i) ∧
          (¬ dirty i → tfind (t.pslot n).lines i = none ∧ pnlTarget t i = pnlTarget s i)) ∧ t.pnl.holdEnd = none ∧
        (p.st = .discharged → p.discharging = false → mayPower → t.pnl.st = .updating ∧ t.pnl.powerup = true ∧
          t.pnl.marker = true ∧ posted s t .pnl 2 1) ∧
        (p.st ≠ .discharged ∨ p.discharging = true → t.pnl.st = p.st ∧ t.pnl.powerup = p.powerup ∧ t.pnl.marker = p.marker))) ∧
    -- an update that stands alone starts
    (∀ n x (i : Instr), p.slots = [(n, x)] → x.st = .pending → x.lines.wf = true → x.lines ≠ [] → p.lines = [] → p.thenOff = false →
      (i = .panelFrame ∧ p.st = .idle ∨ i = .panelPowered ∧ p.st = .updating ∧ p.powerup = true) →
      let b := ((tlims (sget s .pnl 0x2C) (sget s .pnl 0x30)).filter fun y => decide (10 * y ≤ pnlTemp s)).length
      let k (l : Nat) (c : List Byte) : Nat := lineLen s { x with band := b } (pnlShown s l) c
      (∀ q ∈ x.lines, 0 < k q.1 q.2) → EndsIn [.events, .pnl, .regs] i s fun t => regsBut [R 4, R 0x28] s t ∧
        sget t .pnl 0x28 = pattern 16 (pnlTemp s) ∧ t.pnl.st = .updating ∧
        t.pnl.powerup = (p.powerup && p.st == .idle) ∧ (t.pslot n).st = .running ∧ (t.pslot n).band = b ∧
        (t.pslot n).fper = sfld s .pnl (0x60 + 4 * b) 5 0 ∧ t.pnl.frameEnd = some (s.now + 250000 * sfld s .pnl (0x60 + 4 * b) 5 0) ∧
        t.pnl.nextLine = 0 ∧ (∀ q ∈ x.lines, tfind t.pnl.lines q.1 = some ⟨n, 0, k q.1 q.2, pnlShown s q.1, q.2⟩) ∧
        (∀ l, tfind x.lines l = none → tfind t.pnl.lines l = none) ∧ t.pnl.disp = p.disp ∧ (p.st = .idle → posted s t .pnl 2 1)) ∧
    -- a frame goes on, or ends
    (∀ u, p.st = .updating → p.powerup = false → p.frameEnd = some u →
      (s.now < u ∨ p.nextLine < height → EndsIn [] .panelFrame s fun _ => True) ∧
      (u ≤ s.now → height ≤ p.nextLine → p.lines.wf = true →
        -- the frame of a line's own update has ended (R502), or goes on
        let next (x : PLine) : Nat := if slotOver s x.slot = true then x.k + 1 else x.k
        (p.stopLines = true → (∀ q ∈ p.lines, slotOver s q.2.slot = true ∨ q.2.len ≤ q.2.k) →
          EndsIn [.events, .free, .pnl, .regs] .panelFrame s fun t => discharged t ∧ t.pnl.aborted = true ∧
            t.pnl.lines = [] ∧ sfld t .pnl 4 8 8 = 1 ∧ regsBut [R 4] s t) ∧
        (p.stopLines = true → (∃ q ∈ p.lines, slotOver s q.2.slot = false ∧ q.2.k < q.2.len) →
          EndsIn [.events, .free, .pnl] .panelFrame s fun t => t.pnl.st = .updating ∧ t.pnl.stopLines = true ∧
            ∀ l x, tfind p.lines l = some x → tfind t.pnl.lines l =
              if slotOver s x.slot = false ∧ x.k < x.len then some x else none) ∧
        (p.stopLines = false → (∀ x ∈ p.slots, x.2.st ≠ .pending) → EndsIn [.events, .pnl, .regs] .panelFrame s fun t =>
          (∀ l x, tfind p.lines l = some x → (next x < x.len → tfind t.pnl.lines l = some { x with k := next x } ∧ pnlShown t l = pnlShown s l) ∧
            (x.len ≤ next x → tfind t.pnl.lines l = none ∧ pnlShown t l = x.new)) ∧
          (∀ l, tfind p.lines l = none → tfind t.pnl.lines l = none ∧ pnlShown t l = pnlShown s l) ∧
          ((∃ q ∈ p.lines, next q.2 < q.2.len) → t.pnl.st = .updating ∧ t.pnl.nextLine = 0) ∧
          ((∀ q ∈ p.lines, q.2.len ≤ next q.2) → (p.thenOff = true → discharged t) ∧ (p.thenOff = false → t.pnl.st = .idle ∧
            t.pnl.holdEnd = some (s.now + 250000 * sfld s .pnl 0x18 31 16) ∧ ∀ n, (t.pslot n).st ≠ .running))))) ∧
    ((p.frameEnd = none ∧ p.discharging = false) ∨ height ≤ p.nextLine → EndsIn [] .panelLineSend s (fun _ => True) ∧
      EndsIn [] .pbsyTimeout s fun _ => True) ∧
    (¬ (p.frameEnd = none ∧ p.discharging = false) → p.nextLine < height →
      (EndsIn [.pnl] .panelLineSend s fun t => ∃ codes : List Nat, codes.length = width ∧ t.pnl = { p with
        rails := if p.discharging = true ∧ height ≤ p.nextLine + 1 then p.rails.erase .vgh else p.rails
        wire := some (p.nextLine, codes), nextLine := p.nextLine + 1, lineAt := s.now, lineTmo := false } ∧
        (tfind p.lines p.nextLine = none → ∀ c ∈ codes, c = 0) ∧
        ∀ x, tfind p.lines p.nextLine = some x → ∀ j, j < width → codes[j]? = some (waveFrame s (s.pslot x.slot).band
          (waveOf (s.pslot x.slot).full (s.pslot x.slot).clear (pixel x.old j) (pixel x.new j)) x.k)) ∧
      (p.lineTmo = false → p.lineAt + 250000 < s.now → EndsIn [.events, .pnl, .regs] .pbsyTimeout s fun t =>
        t.pnl = { p with lineTmo := true } ∧ sfld t .pnl 4 9 9 = 1 ∧ regsBut [R 4, R 0x3C] s t ∧ posted s t .pnl 5 p.nextLine ∧
        sget t .pnl 0x3C = min (sget s .pnl 0x3C + 1) (2 ^ 32 - 1))) ∧
    (p.powerup = false → EndsIn [] .panelPowered s fun _ => True) ∧
    (∀ u, p.st = .idle → p.holdEnd = some u → u ≤ s.now →
      ((∀ x ∈ p.slots, x.2.st ≠ .pending ∧ x.2.st ≠ .loading) → EndsIn [.events, .pnl] .panelPowerHold s fun t => discharged t ∧
        posted s t .pnl 2 2) ∧
      ((∃ x ∈ p.slots, x.2.st = .pending ∨ x.2.st = .loading) → EndsIn [] .panelPowerHold s fun _ => True)) ∧
    (∀ l : LaneId, s.owns l = true →
      (p.st = .idle → EndsIn [.events, .pnl] (.panelDischarge l) s fun t => discharged t ∧ posted s t .pnl 2 2) ∧
      (p.st ≠ .idle → Rejects .pnl l 1 (.panelDischarge l) s) ∧ (p.st ≠ .cracked → Rejects .pnl l 1 (.recheck l) s) ∧
      (p.st = .cracked → let r := sense s (R 0x38)
        (1800 < r → EndsIn [.regs] (.recheck l) s fun t => regsBut [R 0x38] s t ∧ sget t .pnl 0x38 = min r 65535) ∧
        (r ≤ 1800 → p.discharging = false → EndsIn [.events, .pnl, .regs] (.recheck l) s fun t => sget t .pnl 0x38 = min r 65535 ∧
          (p.marker = false → t.pnl.st = .discharged ∧ t.pnl.disp = p.stored ∧ t.pnl.startDue = false ∧ t.pnl.marker = false ∧
            t.pnl.slots = p.slots ∧ (p.slots = [] → t.pnl.targets = p.stored) ∧ posted s t .pnl 2 2) ∧
          (p.marker = true → p.slots = [] → (t.pslot 0).st = .pending ∧ (t.pslot 0).uid = 0 ∧ (t.pslot 0).clear = true ∧ t.pnl.marker = true ∧
            (∀ i, i < height → tfind (t.pslot 0).lines i = some (List.replicate 160 0)) ∧ (∀ i, pnlTarget t i = List.replicate 160 0) ∧
            (mayPower → t.pnl.st = .updating ∧ t.pnl.powerup = true) ∧ (¬ mayPower → t.pnl.st = .discharged))))) ∧
    (p.discharging = true → (s.now < p.disAt + 4500000 ∨ p.nextLine < height → EndsIn [] .dischargeDone s fun _ => True) ∧
      (p.disAt + 4500000 ≤ s.now → height ≤ p.nextLine → p.startDue = false → EndsIn [.events, .pnl] .dischargeDone s fun t =>
        t.pnl.discharging = false ∧ (p.st ≠ .discharged ∨ ¬ waits → t.pnl.rails = []) ∧ t.pnl.stored = (if p.marker = true ∧ p.aborted = false then p.disp else p.stored) ∧
        (p.st = .discharged → waits → mayPower → t.pnl.st = .updating ∧ t.pnl.powerup = true ∧ t.pnl.marker = true ∧ posted s t .pnl 2 1) ∧
        (p.st ≠ .discharged ∨ ¬ waits → t.pnl.st = p.st ∧ t.pnl.marker = (p.marker && p.aborted)))) ∧
    (∀ r : BitVec 20, (s.now < p.crackNext → EndsIn [] (.crackCheck r) s fun _ => True) ∧
      (p.crackNext ≤ s.now → let measured (t : State) : Prop := regsBut [R 0x38] s t ∧ sget t .pnl 0x38 = min r.toNat 65535
        (r.toNat ≤ 2000 → p.st ≠ .discharged ∨ ¬ waits → EndsIn [.pnl, .regs] (.crackCheck r) s fun t => measured t ∧
          t.pnl = { p with crackNext := s.now + 2500000000, checked := true }) ∧
        (2000 < r.toNat → p.st ≠ .cracked → EndsIn [.events, .free, .pnl, .regs] (.crackCheck r) s fun t => measured t ∧
          t.pnl.st = .cracked ∧ t.pnl.lines = [] ∧ (∀ n, (t.pslot n).st = .free) ∧ t.pnl.powerup = false ∧ t.pnl.discharging = false ∧
          t.pnl.frameEnd = none ∧ t.pnl.holdEnd = none ∧ t.pnl.marker = p.marker ∧ t.pnl.rails = [] ∧ t.pnl.aborted = false ∧
          (p.slots = [] → p.lines = [] → ∀ l c, t.core l c = if sfld s .pnl 0 0 0 = 1 ∧ c = sfld s .pnl 0 10 8 then
            ((s.core l c).post ⟨3, 2, 0x98, 3, false⟩).post ⟨3, 4, 0x98, min r.toNat 65535, false⟩ else s.core l c)))) ∧
    (p.tempAt + 15000000000 ≤ s.now → EndsIn [.pnl, .regs] .tempStale s fun t => t.pnl = { p with tempStale := true } ∧
      regsBut [R 0x28] s t ∧ sget t .pnl 0x28 = pattern 16 (pnlSensor s)) ∧
    (s.now < p.tempAt + 15000000000 → EndsIn [] .tempStale s fun _ => True)

/-- R559, R560, R565, R566, R569 to R574: a command of the lane that does not own the engines is rejected with NOT_OWNER; after
a hard fault all but ENDSESSION and DBGLOCK are rejected with BUSY; a nonce (a free value, log entry 5) replaces the earlier one
of its purpose and lasts 300 s, or is rejected with BUSY while a token of it is checked; the recovery loader offers NONCE, OPEN,
IMGWRITE and ACTIVATE alone and answers the rest with STATE (log entry 81); a token is valid as R569 says, and its check
consumes the nonce either way; OPEN and DBGUNLOCK open the session and the debug port for LIFE, which end by command or at their
time; IMGWRITE checks the image, empties the other slot and ends with its result; ACTIVATE, RAISEMIN, KEYWRITE and KEYREVOKE act
or are rejected as the rules say. A token check lasts the tick of its command and an image check takes no time (log entry 43);
that an image has slot bit 1 − RUNSLOT follows R565. -/
def Obligations.Security : Prop :=
  ∀ s : State, s.dark = false →
    let R (off : Nat) : Nat := 0xF0A80000 + off
    let x := s.sec
    let expired (t : State) : Prop := t.sec = { x with session := none, sessEnded := some s.now } ∧ posted s t .sec 2 0
    let all := x.recovery = false
    let locked (t : State) : Prop := t.sec = { x with dbg := none } ∧ posted s t .sec 2 2
    let live := ∃ u k, x.session = some (u, k) ∧ s.now < u
    let admin := ∃ u k, x.session = some (u, k) ∧ s.now < u ∧ nbit (s.key k).mask 5 = true
    let refused (p : Nat) (l : LaneId) (i : Instr) (n : Nat) : Prop := EndsIn [.dq, .regs, .sec] i s fun t => regsBut [R 0xC] s t ∧
      t.sec = { x with nonces := tdel x.nonces p, checked := if n = 0x10 then tset x.checked p s.now else x.checked } ∧ nfld (rget t l (R 0xC)) 7 0 = n ∧ nbit (rget t l (R 0xC)) 31 = true
    let tok := dramRead s 0 (sget s .sec 0x28) (sfld s .sec 0x2C 9 0)
    -- a valid token
    (∀ (p : Nat) (v : BitVec 128) (t : List Byte) (k life : Nat), tokenOk s p v t = some (k, life) ↔
      t.length = 96 ∧ t.take 4 = [0x54, 0x4F, 0x4B, 0x4E] ∧ leAt t 4 1 = p ∧ leAt t 5 1 = k ∧ leAt t 6 2 = life ∧
        leAt t 8 8 = Config.serial.toNat ∧ leAt t 16 16 = v.toNat ∧ (p = 3 → life = 0) ∧ (p ≠ 3 → 1 ≤ life ∧ life ≤ 3600) ∧ k < 4 ∧
        (s.key k).st = .active ∧ nbit (s.key k).mask (if p = 1 then 2 else if p = 2 then 3 else 4) = true ∧
        keyVerify s k (t.take 32) (sliceB t 32 64) = true) ∧
    (∀ (l : LaneId) (p k : Fin 4) (b : Fin 2),
      (s.owns l = false → ∀ i ∈ [.secNonce l p, .sessionOpen l, .endsession l, .dbgunlock l, .dbglock l, .imgwrite l, .activate l b, .raisemin l,
        .keywrite l k, .keyrevoke l k], Rejects .sec l 3 i s) ∧
      (s.owns l = true → s.faulty .sec = true → ∀ i ∈ [.secNonce l p, .sessionOpen l, .dbgunlock l, .imgwrite l, .activate l b, .raisemin l,
        .keywrite l k, .keyrevoke l k], Rejects .sec l 5 i s) ∧
      (s.owns l = true → s.faulty .sec = false → x.recovery = true → ∀ i ∈ [.endsession l, .dbgunlock l, .dbglock l, .raisemin l,
        .keywrite l k, .keyrevoke l k], Rejects .sec l 1 i s)) ∧
    (∀ l : LaneId, s.owns l = true → all →
      (x.session.isSome = true → EndsIn [.events, .sec] (.endsession l) s fun t => t.sec = { x with session := none } ∧ posted s t .sec 2 0) ∧
      (x.session = none → EndsIn [] (.endsession l) s fun _ => True) ∧
      (x.dbg.isSome = true → EndsIn [.events, .sec] (.dbglock l) s locked) ∧
      (x.dbg = none → EndsIn [] (.dbglock l) s fun _ => True)) ∧
    (∀ u k, x.session = some (u, k) → (u ≤ s.now → EndsIn [.events, .sec] (.sessionExpiry false) s expired) ∧
      (s.now < u → EndsIn [] (.sessionExpiry false) s fun _ => True)) ∧
    (∀ u, x.dbg = some u → (u ≤ s.now → EndsIn [.events, .sec] (.sessionExpiry true) s locked) ∧
      (s.now < u → EndsIn [] (.sessionExpiry true) s fun _ => True)) ∧
    (x.writing = none ∨ rqBlocked s 15 = true → ∀ ok, EndsIn [] (.imageWriteDone ok) s fun _ => True) ∧
    (∀ w (ok : Bool), x.writing = some w → rqBlocked s 15 = false → EndsIn [.events, .sec] (.imageWriteDone ok) s fun t =>
      let r := if w.bytes = none then 2 else if ok then 1 else 3
      posted s t .sec 1 r ∧ t.sec.writing = none ∧ t.sec.result = r ∧ t.sec.bootsel = x.bootsel ∧ t.sec.runslot = x.runslot ∧
        t.sec.slots = match w.bytes, ok with
          | some m, true => tset x.slots w.slot m
          | _, _ => x.slots) ∧
    (∀ l : LaneId, s.owns l = true → s.faulty .sec = false →
      (Rejects .sec l 4 (.secNonce l 0) s) ∧
      (∀ p : Fin 4, p ≠ 0 → tokenBusy s p = true → Rejects .sec l 5 (.secNonce l p) s) ∧
      (∀ p : Fin 4, p ≠ 0 → tokenBusy s p = false → EndsIn [.free, .sec] (.secNonce l p) s fun t => t.freeCtr = s.freeCtr + 1 ∧ t.sec = { x with
        lastPurpose := p, nonces := tset x.nonces p ⟨Config.freeNonce s.freeCtr, s.now + 75000000000⟩ }) ∧
      (nonceOf s 1 = none → refused 1 l (.sessionOpen l) 0x11) ∧
      (∀ n, nonceOf s 1 = some n → (tokenOk s 1 n.value tok = none → refused 1 l (.sessionOpen l) 0x10) ∧
        ∀ k life, tokenOk s 1 n.value tok = some (k, life) → EndsIn [.dq, .events, .sec] (.sessionOpen l) s fun t => posted s t .sec 2 1 ∧
          t.sec = { x with nonces := tdel x.nonces 1, checked := tset x.checked 1 s.now, session := some (s.now + 250000000 * life, k) }) ∧
      (all → s.sup.modMode ≠ .service → s.sup.modMode ≠ .bench → Rejects .sec l 1 (.dbgunlock l) s) ∧
      (all → s.sup.modMode = .service ∨ s.sup.modMode = .bench → (nonceOf s 2 = none → refused 2 l (.dbgunlock l) 0x11) ∧
        ∀ n, nonceOf s 2 = some n → (tokenOk s 2 n.value tok = none → refused 2 l (.dbgunlock l) 0x10) ∧
          ∀ k life, tokenOk s 2 n.value tok = some (k, life) → EndsIn [.dq, .events, .sec] (.dbgunlock l) s fun t => posted s t .sec 2 3 ∧
            t.sec = { x with nonces := tdel x.nonces 2, checked := tset x.checked 2 s.now, dbg := some (s.now + 250000000 * life) }) ∧
      -- a session that ends at this instant ends first
      (∀ u k i, x.session = some (u, k) → u ≤ s.now → i = .imgwrite l ∨ (∃ b, i = .activate l b) ∨ (all ∧ ∃ k, i = .keyrevoke l k) →
        EndsIn [.events, .regs, .sec] i s fun t => expired t ∧ regsBut [R 0xC] s t ∧ nfld (rget t l (R 0xC)) 7 0 = 0x12) ∧
      (x.session = none → Rejects .sec l 0x12 (.imgwrite l) s) ∧
      (live → let m := dramRead s 0 (sget s .sec 0x20) (sget s .sec 0x24)
        (x.writing.isSome = true → Rejects .sec l 5 (.imgwrite l) s) ∧
        (x.writing = none → s.sup.power = .holdup → Rejects .sec l 1 (.imgwrite l) s) ∧
        (x.writing = none → s.sup.power ≠ .holdup → imgValid s m = true → EndsIn [.dq, .sec] (.imgwrite l) s fun t => t.sec = { x with
          writing := some ⟨1 - x.runslot, some m⟩, slots := tdel x.slots (1 - x.runslot) }) ∧
        (x.writing = none → s.sup.power ≠ .holdup → imgValid s m = false → EndsIn [.dq, .sec] (.imgwrite l) s fun t => t.sec = { x with
          writing := some ⟨1 - x.runslot, none⟩ })) ∧
      (∀ b : Fin 2, (x.session = none → x.sessEnded ≠ some s.now → Rejects .sec l 1 (.activate l b) s) ∧
        (live → tfind x.slots b = none → Rejects .sec l 1 (.activate l b) s) ∧
        (∀ m, live → tfind x.slots b = some m → (imgValid s m = false → Rejects .sec l 1 (.activate l b) s) ∧
          (imgValid s m = true → EndsIn [.sec] (.activate l b) s fun t => t.sec = { x with bootsel := b }))) ∧
      (∀ m, all → tfind x.slots x.runslot = some m → (leAt m 12 4 < x.minver → Rejects .sec l 4 (.raisemin l) s) ∧
        (x.minver ≤ leAt m 12 4 → EndsIn [.sec] (.raisemin l) s fun t => t.sec = { x with minver := leAt m 12 4 })) ∧
      (∀ k : Fin 4, all → let first := s.sup.modMode = .service ∧ ∀ j, j < 4 → (s.key j).st = .empty
        let b := dramRead s 0 (sget s .sec 0x20) 68
        let loads := EndsIn [.dq, .sec] (.keywrite l k) s fun t => t.sec = { x with
          keys := tset x.keys k ⟨.active, b.take 32, (b.drop 32).take 32, leAt b 64 4⟩ }
        let others := ∃ j, j < 4 ∧ j ≠ k.val ∧ (s.key j).st = .active ∧ nbit (s.key j).mask 0 = true
        (first → loads) ∧ (¬ first → admin → (s.key k).st = .empty → loads) ∧
        (¬ first → admin → (s.key k).st ≠ .empty → Rejects .sec l 1 (.keywrite l k) s) ∧
        (¬ first → x.session = none → Rejects .sec l 0x12 (.keywrite l k) s) ∧
        (live → ¬ admin → (¬ first → Rejects .sec l 0x12 (.keywrite l k) s) ∧ Rejects .sec l 0x12 (.keyrevoke l k) s) ∧
        (x.session = none → Rejects .sec l 0x12 (.keyrevoke l k) s) ∧
        (admin → ¬ others → Rejects .sec l 1 (.keyrevoke l k) s) ∧
        (admin → others → EndsIn [.sec] (.keyrevoke l k) s fun t => (s.key k).x = (t.key k).x ∧ (t.key k).st = .revoked ∧
          (∀ j, j ≠ k.val → t.key j = s.key j) ∧ ∃ keys, t.sec = { x with keys := keys })))
end

