-- ==== Sys2Proof/Laws/State.lean ====
section
/-! SUPPORT. One lemma per field and update of State. -/

namespace Sys2Proof.Machine

@[simp] theorem State.modSup_pending (s : State) (f : Sup → Sup) : (s.modSup f).pending = s.pending := rfl
@[simp] theorem State.modSup_now (s : State) (f : Sup → Sup) : (s.modSup f).now = s.now := rfl
@[simp] theorem State.modSup_freeCtr (s : State) (f : Sup → Sup) : (s.modSup f).freeCtr = s.freeCtr := rfl
@[simp] theorem State.modSup_laneA (s : State) (f : Sup → Sup) : (s.modSup f).laneA = s.laneA := rfl
@[simp] theorem State.modSup_laneB (s : State) (f : Sup → Sup) : (s.modSup f).laneB = s.laneB := rfl
@[simp] theorem State.modSup_seqs (s : State) (f : Sup → Sup) : (s.modSup f).seqs = s.seqs := rfl
@[simp] theorem State.modSup_sregs (s : State) (f : Sup → Sup) : (s.modSup f).sregs = s.sregs := rfl
@[simp] theorem State.modSup_hardflt (s : State) (f : Sup → Sup) : (s.modSup f).hardflt = s.hardflt := rfl
@[simp] theorem State.modSup_ringDrop (s : State) (f : Sup → Sup) : (s.modSup f).ringDrop = s.ringDrop := rfl
@[simp] theorem State.modSup_dq (s : State) (f : Sup → Sup) : (s.modSup f).dq = s.dq := rfl
@[simp] theorem State.modSup_dram (s : State) (f : Sup → Sup) : (s.modSup f).dram = s.dram := rfl
@[simp] theorem State.modSup_tim (s : State) (f : Sup → Sup) : (s.modSup f).tim = s.tim := rfl
@[simp] theorem State.modSup_ang (s : State) (f : Sup → Sup) : (s.modSup f).ang = s.ang := rfl
@[simp] theorem State.modSup_recd (s : State) (f : Sup → Sup) : (s.modSup f).recd = s.recd := rfl
@[simp] theorem State.modSup_pcl (s : State) (f : Sup → Sup) : (s.modSup f).pcl = s.pcl := rfl
@[simp] theorem State.modSup_cam (s : State) (f : Sup → Sup) : (s.modSup f).cam = s.cam := rfl
@[simp] theorem State.modSup_fus (s : State) (f : Sup → Sup) : (s.modSup f).fus = s.fus := rfl
@[simp] theorem State.modSup_bus (s : State) (f : Sup → Sup) : (s.modSup f).bus = s.bus := rfl
@[simp] theorem State.modSup_eth (s : State) (f : Sup → Sup) : (s.modSup f).eth = s.eth := rfl
@[simp] theorem State.modSup_hst (s : State) (f : Sup → Sup) : (s.modSup f).hst = s.hst := rfl
@[simp] theorem State.modSup_hsi (s : State) (f : Sup → Sup) : (s.modSup f).hsi = s.hsi := rfl
@[simp] theorem State.modSup_fab (s : State) (f : Sup → Sup) : (s.modSup f).fab = s.fab := rfl
@[simp] theorem State.modSup_pnl (s : State) (f : Sup → Sup) : (s.modSup f).pnl = s.pnl := rfl
@[simp] theorem State.modSup_sec (s : State) (f : Sup → Sup) : (s.modSup f).sec = s.sec := rfl
@[simp] theorem State.modSup_cfg (s : State) (f : Sup → Sup) : (s.modSup f).cfg = s.cfg := rfl
@[simp] theorem State.modSup_pwr (s : State) (f : Sup → Sup) : (s.modSup f).pwr = s.pwr := rfl
@[simp] theorem State.modSup_out (s : State) (f : Sup → Sup) : (s.modSup f).out = s.out := rfl

@[simp] theorem State.modSeq_pending (s : State) (n : Nat) (f : Seq → Seq) : (s.modSeq n f).pending = s.pending := rfl
@[simp] theorem State.modSeq_now (s : State) (n : Nat) (f : Seq → Seq) : (s.modSeq n f).now = s.now := rfl
@[simp] theorem State.modSeq_freeCtr (s : State) (n : Nat) (f : Seq → Seq) : (s.modSeq n f).freeCtr = s.freeCtr := rfl
@[simp] theorem State.modSeq_sup (s : State) (n : Nat) (f : Seq → Seq) : (s.modSeq n f).sup = s.sup := rfl
@[simp] theorem State.modSeq_laneA (s : State) (n : Nat) (f : Seq → Seq) : (s.modSeq n f).laneA = s.laneA := rfl
@[simp] theorem State.modSeq_laneB (s : State) (n : Nat) (f : Seq → Seq) : (s.modSeq n f).laneB = s.laneB := rfl
@[simp] theorem State.modSeq_sregs (s : State) (n : Nat) (f : Seq → Seq) : (s.modSeq n f).sregs = s.sregs := rfl
@[simp] theorem State.modSeq_hardflt (s : State) (n : Nat) (f : Seq → Seq) : (s.modSeq n f).hardflt = s.hardflt := rfl
@[simp] theorem State.modSeq_ringDrop (s : State) (n : Nat) (f : Seq → Seq) : (s.modSeq n f).ringDrop = s.ringDrop := rfl
@[simp] theorem State.modSeq_dq (s : State) (n : Nat) (f : Seq → Seq) : (s.modSeq n f).dq = s.dq := rfl
@[simp] theorem State.modSeq_dram (s : State) (n : Nat) (f : Seq → Seq) : (s.modSeq n f).dram = s.dram := rfl
@[simp] theorem State.modSeq_tim (s : State) (n : Nat) (f : Seq → Seq) : (s.modSeq n f).tim = s.tim := rfl
@[simp] theorem State.modSeq_ang (s : State) (n : Nat) (f : Seq → Seq) : (s.modSeq n f).ang = s.ang := rfl
@[simp] theorem State.modSeq_recd (s : State) (n : Nat) (f : Seq → Seq) : (s.modSeq n f).recd = s.recd := rfl
@[simp] theorem State.modSeq_pcl (s : State) (n : Nat) (f : Seq → Seq) : (s.modSeq n f).pcl = s.pcl := rfl
@[simp] theorem State.modSeq_cam (s : State) (n : Nat) (f : Seq → Seq) : (s.modSeq n f).cam = s.cam := rfl
@[simp] theorem State.modSeq_fus (s : State) (n : Nat) (f : Seq → Seq) : (s.modSeq n f).fus = s.fus := rfl
@[simp] theorem State.modSeq_bus (s : State) (n : Nat) (f : Seq → Seq) : (s.modSeq n f).bus = s.bus := rfl
@[simp] theorem State.modSeq_eth (s : State) (n : Nat) (f : Seq → Seq) : (s.modSeq n f).eth = s.eth := rfl
@[simp] theorem State.modSeq_hst (s : State) (n : Nat) (f : Seq → Seq) : (s.modSeq n f).hst = s.hst := rfl
@[simp] theorem State.modSeq_hsi (s : State) (n : Nat) (f : Seq → Seq) : (s.modSeq n f).hsi = s.hsi := rfl
@[simp] theorem State.modSeq_fab (s : State) (n : Nat) (f : Seq → Seq) : (s.modSeq n f).fab = s.fab := rfl
@[simp] theorem State.modSeq_pnl (s : State) (n : Nat) (f : Seq → Seq) : (s.modSeq n f).pnl = s.pnl := rfl
@[simp] theorem State.modSeq_sec (s : State) (n : Nat) (f : Seq → Seq) : (s.modSeq n f).sec = s.sec := rfl
@[simp] theorem State.modSeq_cfg (s : State) (n : Nat) (f : Seq → Seq) : (s.modSeq n f).cfg = s.cfg := rfl
@[simp] theorem State.modSeq_pwr (s : State) (n : Nat) (f : Seq → Seq) : (s.modSeq n f).pwr = s.pwr := rfl
@[simp] theorem State.modSeq_out (s : State) (n : Nat) (f : Seq → Seq) : (s.modSeq n f).out = s.out := rfl

@[simp] theorem State.modTim_pending (s : State) (f : Tim → Tim) : (s.modTim f).pending = s.pending := rfl
@[simp] theorem State.modTim_now (s : State) (f : Tim → Tim) : (s.modTim f).now = s.now := rfl
@[simp] theorem State.modTim_freeCtr (s : State) (f : Tim → Tim) : (s.modTim f).freeCtr = s.freeCtr := rfl
@[simp] theorem State.modTim_sup (s : State) (f : Tim → Tim) : (s.modTim f).sup = s.sup := rfl
@[simp] theorem State.modTim_laneA (s : State) (f : Tim → Tim) : (s.modTim f).laneA = s.laneA := rfl
@[simp] theorem State.modTim_laneB (s : State) (f : Tim → Tim) : (s.modTim f).laneB = s.laneB := rfl
@[simp] theorem State.modTim_seqs (s : State) (f : Tim → Tim) : (s.modTim f).seqs = s.seqs := rfl
@[simp] theorem State.modTim_sregs (s : State) (f : Tim → Tim) : (s.modTim f).sregs = s.sregs := rfl
@[simp] theorem State.modTim_hardflt (s : State) (f : Tim → Tim) : (s.modTim f).hardflt = s.hardflt := rfl
@[simp] theorem State.modTim_ringDrop (s : State) (f : Tim → Tim) : (s.modTim f).ringDrop = s.ringDrop := rfl
@[simp] theorem State.modTim_dq (s : State) (f : Tim → Tim) : (s.modTim f).dq = s.dq := rfl
@[simp] theorem State.modTim_dram (s : State) (f : Tim → Tim) : (s.modTim f).dram = s.dram := rfl
@[simp] theorem State.modTim_ang (s : State) (f : Tim → Tim) : (s.modTim f).ang = s.ang := rfl
@[simp] theorem State.modTim_recd (s : State) (f : Tim → Tim) : (s.modTim f).recd = s.recd := rfl
@[simp] theorem State.modTim_pcl (s : State) (f : Tim → Tim) : (s.modTim f).pcl = s.pcl := rfl
@[simp] theorem State.modTim_cam (s : State) (f : Tim → Tim) : (s.modTim f).cam = s.cam := rfl
@[simp] theorem State.modTim_fus (s : State) (f : Tim → Tim) : (s.modTim f).fus = s.fus := rfl
@[simp] theorem State.modTim_bus (s : State) (f : Tim → Tim) : (s.modTim f).bus = s.bus := rfl
@[simp] theorem State.modTim_eth (s : State) (f : Tim → Tim) : (s.modTim f).eth = s.eth := rfl
@[simp] theorem State.modTim_hst (s : State) (f : Tim → Tim) : (s.modTim f).hst = s.hst := rfl
@[simp] theorem State.modTim_hsi (s : State) (f : Tim → Tim) : (s.modTim f).hsi = s.hsi := rfl
@[simp] theorem State.modTim_fab (s : State) (f : Tim → Tim) : (s.modTim f).fab = s.fab := rfl
@[simp] theorem State.modTim_pnl (s : State) (f : Tim → Tim) : (s.modTim f).pnl = s.pnl := rfl
@[simp] theorem State.modTim_sec (s : State) (f : Tim → Tim) : (s.modTim f).sec = s.sec := rfl
@[simp] theorem State.modTim_cfg (s : State) (f : Tim → Tim) : (s.modTim f).cfg = s.cfg := rfl
@[simp] theorem State.modTim_pwr (s : State) (f : Tim → Tim) : (s.modTim f).pwr = s.pwr := rfl
@[simp] theorem State.modTim_out (s : State) (f : Tim → Tim) : (s.modTim f).out = s.out := rfl

@[simp] theorem State.modPcl_pending (s : State) (f : PclSt → PclSt) : (s.modPcl f).pending = s.pending := rfl
@[simp] theorem State.modPcl_now (s : State) (f : PclSt → PclSt) : (s.modPcl f).now = s.now := rfl
@[simp] theorem State.modPcl_freeCtr (s : State) (f : PclSt → PclSt) : (s.modPcl f).freeCtr = s.freeCtr := rfl
@[simp] theorem State.modPcl_sup (s : State) (f : PclSt → PclSt) : (s.modPcl f).sup = s.sup := rfl
@[simp] theorem State.modPcl_laneA (s : State) (f : PclSt → PclSt) : (s.modPcl f).laneA = s.laneA := rfl
@[simp] theorem State.modPcl_laneB (s : State) (f : PclSt → PclSt) : (s.modPcl f).laneB = s.laneB := rfl
@[simp] theorem State.modPcl_seqs (s : State) (f : PclSt → PclSt) : (s.modPcl f).seqs = s.seqs := rfl
@[simp] theorem State.modPcl_sregs (s : State) (f : PclSt → PclSt) : (s.modPcl f).sregs = s.sregs := rfl
@[simp] theorem State.modPcl_hardflt (s : State) (f : PclSt → PclSt) : (s.modPcl f).hardflt = s.hardflt := rfl
@[simp] theorem State.modPcl_ringDrop (s : State) (f : PclSt → PclSt) : (s.modPcl f).ringDrop = s.ringDrop := rfl
@[simp] theorem State.modPcl_dq (s : State) (f : PclSt → PclSt) : (s.modPcl f).dq = s.dq := rfl
@[simp] theorem State.modPcl_dram (s : State) (f : PclSt → PclSt) : (s.modPcl f).dram = s.dram := rfl
@[simp] theorem State.modPcl_tim (s : State) (f : PclSt → PclSt) : (s.modPcl f).tim = s.tim := rfl
@[simp] theorem State.modPcl_ang (s : State) (f : PclSt → PclSt) : (s.modPcl f).ang = s.ang := rfl
@[simp] theorem State.modPcl_recd (s : State) (f : PclSt → PclSt) : (s.modPcl f).recd = s.recd := rfl
@[simp] theorem State.modPcl_cam (s : State) (f : PclSt → PclSt) : (s.modPcl f).cam = s.cam := rfl
@[simp] theorem State.modPcl_fus (s : State) (f : PclSt → PclSt) : (s.modPcl f).fus = s.fus := rfl
@[simp] theorem State.modPcl_bus (s : State) (f : PclSt → PclSt) : (s.modPcl f).bus = s.bus := rfl
@[simp] theorem State.modPcl_eth (s : State) (f : PclSt → PclSt) : (s.modPcl f).eth = s.eth := rfl
@[simp] theorem State.modPcl_hst (s : State) (f : PclSt → PclSt) : (s.modPcl f).hst = s.hst := rfl
@[simp] theorem State.modPcl_hsi (s : State) (f : PclSt → PclSt) : (s.modPcl f).hsi = s.hsi := rfl
@[simp] theorem State.modPcl_fab (s : State) (f : PclSt → PclSt) : (s.modPcl f).fab = s.fab := rfl
@[simp] theorem State.modPcl_pnl (s : State) (f : PclSt → PclSt) : (s.modPcl f).pnl = s.pnl := rfl
@[simp] theorem State.modPcl_sec (s : State) (f : PclSt → PclSt) : (s.modPcl f).sec = s.sec := rfl
@[simp] theorem State.modPcl_cfg (s : State) (f : PclSt → PclSt) : (s.modPcl f).cfg = s.cfg := rfl
@[simp] theorem State.modPcl_pwr (s : State) (f : PclSt → PclSt) : (s.modPcl f).pwr = s.pwr := rfl
@[simp] theorem State.modPcl_out (s : State) (f : PclSt → PclSt) : (s.modPcl f).out = s.out := rfl

@[simp] theorem State.modFus_pending (s : State) (f : FusSt → FusSt) : (s.modFus f).pending = s.pending := rfl
@[simp] theorem State.modFus_now (s : State) (f : FusSt → FusSt) : (s.modFus f).now = s.now := rfl
@[simp] theorem State.modFus_freeCtr (s : State) (f : FusSt → FusSt) : (s.modFus f).freeCtr = s.freeCtr := rfl
@[simp] theorem State.modFus_sup (s : State) (f : FusSt → FusSt) : (s.modFus f).sup = s.sup := rfl
@[simp] theorem State.modFus_laneA (s : State) (f : FusSt → FusSt) : (s.modFus f).laneA = s.laneA := rfl
@[simp] theorem State.modFus_laneB (s : State) (f : FusSt → FusSt) : (s.modFus f).laneB = s.laneB := rfl
@[simp] theorem State.modFus_seqs (s : State) (f : FusSt → FusSt) : (s.modFus f).seqs = s.seqs := rfl
@[simp] theorem State.modFus_sregs (s : State) (f : FusSt → FusSt) : (s.modFus f).sregs = s.sregs := rfl
@[simp] theorem State.modFus_hardflt (s : State) (f : FusSt → FusSt) : (s.modFus f).hardflt = s.hardflt := rfl
@[simp] theorem State.modFus_ringDrop (s : State) (f : FusSt → FusSt) : (s.modFus f).ringDrop = s.ringDrop := rfl
@[simp] theorem State.modFus_dq (s : State) (f : FusSt → FusSt) : (s.modFus f).dq = s.dq := rfl
@[simp] theorem State.modFus_dram (s : State) (f : FusSt → FusSt) : (s.modFus f).dram = s.dram := rfl
@[simp] theorem State.modFus_tim (s : State) (f : FusSt → FusSt) : (s.modFus f).tim = s.tim := rfl
@[simp] theorem State.modFus_ang (s : State) (f : FusSt → FusSt) : (s.modFus f).ang = s.ang := rfl
@[simp] theorem State.modFus_recd (s : State) (f : FusSt → FusSt) : (s.modFus f).recd = s.recd := rfl
@[simp] theorem State.modFus_pcl (s : State) (f : FusSt → FusSt) : (s.modFus f).pcl = s.pcl := rfl
@[simp] theorem State.modFus_cam (s : State) (f : FusSt → FusSt) : (s.modFus f).cam = s.cam := rfl
@[simp] theorem State.modFus_bus (s : State) (f : FusSt → FusSt) : (s.modFus f).bus = s.bus := rfl
@[simp] theorem State.modFus_eth (s : State) (f : FusSt → FusSt) : (s.modFus f).eth = s.eth := rfl
@[simp] theorem State.modFus_hst (s : State) (f : FusSt → FusSt) : (s.modFus f).hst = s.hst := rfl
@[simp] theorem State.modFus_hsi (s : State) (f : FusSt → FusSt) : (s.modFus f).hsi = s.hsi := rfl
@[simp] theorem State.modFus_fab (s : State) (f : FusSt → FusSt) : (s.modFus f).fab = s.fab := rfl
@[simp] theorem State.modFus_pnl (s : State) (f : FusSt → FusSt) : (s.modFus f).pnl = s.pnl := rfl
@[simp] theorem State.modFus_sec (s : State) (f : FusSt → FusSt) : (s.modFus f).sec = s.sec := rfl
@[simp] theorem State.modFus_cfg (s : State) (f : FusSt → FusSt) : (s.modFus f).cfg = s.cfg := rfl
@[simp] theorem State.modFus_pwr (s : State) (f : FusSt → FusSt) : (s.modFus f).pwr = s.pwr := rfl
@[simp] theorem State.modFus_out (s : State) (f : FusSt → FusSt) : (s.modFus f).out = s.out := rfl

@[simp] theorem State.modFab_pending (s : State) (f : FabSt → FabSt) : (s.modFab f).pending = s.pending := rfl
@[simp] theorem State.modFab_now (s : State) (f : FabSt → FabSt) : (s.modFab f).now = s.now := rfl
@[simp] theorem State.modFab_freeCtr (s : State) (f : FabSt → FabSt) : (s.modFab f).freeCtr = s.freeCtr := rfl
@[simp] theorem State.modFab_sup (s : State) (f : FabSt → FabSt) : (s.modFab f).sup = s.sup := rfl
@[simp] theorem State.modFab_laneA (s : State) (f : FabSt → FabSt) : (s.modFab f).laneA = s.laneA := rfl
@[simp] theorem State.modFab_laneB (s : State) (f : FabSt → FabSt) : (s.modFab f).laneB = s.laneB := rfl
@[simp] theorem State.modFab_seqs (s : State) (f : FabSt → FabSt) : (s.modFab f).seqs = s.seqs := rfl
@[simp] theorem State.modFab_sregs (s : State) (f : FabSt → FabSt) : (s.modFab f).sregs = s.sregs := rfl
@[simp] theorem State.modFab_hardflt (s : State) (f : FabSt → FabSt) : (s.modFab f).hardflt = s.hardflt := rfl
@[simp] theorem State.modFab_ringDrop (s : State) (f : FabSt → FabSt) : (s.modFab f).ringDrop = s.ringDrop := rfl
@[simp] theorem State.modFab_dq (s : State) (f : FabSt → FabSt) : (s.modFab f).dq = s.dq := rfl
@[simp] theorem State.modFab_dram (s : State) (f : FabSt → FabSt) : (s.modFab f).dram = s.dram := rfl
@[simp] theorem State.modFab_tim (s : State) (f : FabSt → FabSt) : (s.modFab f).tim = s.tim := rfl
@[simp] theorem State.modFab_ang (s : State) (f : FabSt → FabSt) : (s.modFab f).ang = s.ang := rfl
@[simp] theorem State.modFab_recd (s : State) (f : FabSt → FabSt) : (s.modFab f).recd = s.recd := rfl
@[simp] theorem State.modFab_pcl (s : State) (f : FabSt → FabSt) : (s.modFab f).pcl = s.pcl := rfl
@[simp] theorem State.modFab_cam (s : State) (f : FabSt → FabSt) : (s.modFab f).cam = s.cam := rfl
@[simp] theorem State.modFab_fus (s : State) (f : FabSt → FabSt) : (s.modFab f).fus = s.fus := rfl
@[simp] theorem State.modFab_bus (s : State) (f : FabSt → FabSt) : (s.modFab f).bus = s.bus := rfl
@[simp] theorem State.modFab_eth (s : State) (f : FabSt → FabSt) : (s.modFab f).eth = s.eth := rfl
@[simp] theorem State.modFab_hst (s : State) (f : FabSt → FabSt) : (s.modFab f).hst = s.hst := rfl
@[simp] theorem State.modFab_hsi (s : State) (f : FabSt → FabSt) : (s.modFab f).hsi = s.hsi := rfl
@[simp] theorem State.modFab_pnl (s : State) (f : FabSt → FabSt) : (s.modFab f).pnl = s.pnl := rfl
@[simp] theorem State.modFab_sec (s : State) (f : FabSt → FabSt) : (s.modFab f).sec = s.sec := rfl
@[simp] theorem State.modFab_cfg (s : State) (f : FabSt → FabSt) : (s.modFab f).cfg = s.cfg := rfl
@[simp] theorem State.modFab_pwr (s : State) (f : FabSt → FabSt) : (s.modFab f).pwr = s.pwr := rfl
@[simp] theorem State.modFab_out (s : State) (f : FabSt → FabSt) : (s.modFab f).out = s.out := rfl

@[simp] theorem State.modPnl_pending (s : State) (f : PnlSt → PnlSt) : (s.modPnl f).pending = s.pending := rfl
@[simp] theorem State.modPnl_now (s : State) (f : PnlSt → PnlSt) : (s.modPnl f).now = s.now := rfl
@[simp] theorem State.modPnl_freeCtr (s : State) (f : PnlSt → PnlSt) : (s.modPnl f).freeCtr = s.freeCtr := rfl
@[simp] theorem State.modPnl_sup (s : State) (f : PnlSt → PnlSt) : (s.modPnl f).sup = s.sup := rfl
@[simp] theorem State.modPnl_laneA (s : State) (f : PnlSt → PnlSt) : (s.modPnl f).laneA = s.laneA := rfl
@[simp] theorem State.modPnl_laneB (s : State) (f : PnlSt → PnlSt) : (s.modPnl f).laneB = s.laneB := rfl
@[simp] theorem State.modPnl_seqs (s : State) (f : PnlSt → PnlSt) : (s.modPnl f).seqs = s.seqs := rfl
@[simp] theorem State.modPnl_sregs (s : State) (f : PnlSt → PnlSt) : (s.modPnl f).sregs = s.sregs := rfl
@[simp] theorem State.modPnl_hardflt (s : State) (f : PnlSt → PnlSt) : (s.modPnl f).hardflt = s.hardflt := rfl
@[simp] theorem State.modPnl_ringDrop (s : State) (f : PnlSt → PnlSt) : (s.modPnl f).ringDrop = s.ringDrop := rfl
@[simp] theorem State.modPnl_dq (s : State) (f : PnlSt → PnlSt) : (s.modPnl f).dq = s.dq := rfl
@[simp] theorem State.modPnl_dram (s : State) (f : PnlSt → PnlSt) : (s.modPnl f).dram = s.dram := rfl
@[simp] theorem State.modPnl_tim (s : State) (f : PnlSt → PnlSt) : (s.modPnl f).tim = s.tim := rfl
@[simp] theorem State.modPnl_ang (s : State) (f : PnlSt → PnlSt) : (s.modPnl f).ang = s.ang := rfl
@[simp] theorem State.modPnl_recd (s : State) (f : PnlSt → PnlSt) : (s.modPnl f).recd = s.recd := rfl
@[simp] theorem State.modPnl_pcl (s : State) (f : PnlSt → PnlSt) : (s.modPnl f).pcl = s.pcl := rfl
@[simp] theorem State.modPnl_cam (s : State) (f : PnlSt → PnlSt) : (s.modPnl f).cam = s.cam := rfl
@[simp] theorem State.modPnl_fus (s : State) (f : PnlSt → PnlSt) : (s.modPnl f).fus = s.fus := rfl
@[simp] theorem State.modPnl_bus (s : State) (f : PnlSt → PnlSt) : (s.modPnl f).bus = s.bus := rfl
@[simp] theorem State.modPnl_eth (s : State) (f : PnlSt → PnlSt) : (s.modPnl f).eth = s.eth := rfl
@[simp] theorem State.modPnl_hst (s : State) (f : PnlSt → PnlSt) : (s.modPnl f).hst = s.hst := rfl
@[simp] theorem State.modPnl_hsi (s : State) (f : PnlSt → PnlSt) : (s.modPnl f).hsi = s.hsi := rfl
@[simp] theorem State.modPnl_fab (s : State) (f : PnlSt → PnlSt) : (s.modPnl f).fab = s.fab := rfl
@[simp] theorem State.modPnl_sec (s : State) (f : PnlSt → PnlSt) : (s.modPnl f).sec = s.sec := rfl
@[simp] theorem State.modPnl_cfg (s : State) (f : PnlSt → PnlSt) : (s.modPnl f).cfg = s.cfg := rfl
@[simp] theorem State.modPnl_pwr (s : State) (f : PnlSt → PnlSt) : (s.modPnl f).pwr = s.pwr := rfl
@[simp] theorem State.modPnl_out (s : State) (f : PnlSt → PnlSt) : (s.modPnl f).out = s.out := rfl

@[simp] theorem State.modSec_pending (s : State) (f : SecSt → SecSt) : (s.modSec f).pending = s.pending := rfl
@[simp] theorem State.modSec_now (s : State) (f : SecSt → SecSt) : (s.modSec f).now = s.now := rfl
@[simp] theorem State.modSec_freeCtr (s : State) (f : SecSt → SecSt) : (s.modSec f).freeCtr = s.freeCtr := rfl
@[simp] theorem State.modSec_sup (s : State) (f : SecSt → SecSt) : (s.modSec f).sup = s.sup := rfl
@[simp] theorem State.modSec_laneA (s : State) (f : SecSt → SecSt) : (s.modSec f).laneA = s.laneA := rfl
@[simp] theorem State.modSec_laneB (s : State) (f : SecSt → SecSt) : (s.modSec f).laneB = s.laneB := rfl
@[simp] theorem State.modSec_seqs (s : State) (f : SecSt → SecSt) : (s.modSec f).seqs = s.seqs := rfl
@[simp] theorem State.modSec_sregs (s : State) (f : SecSt → SecSt) : (s.modSec f).sregs = s.sregs := rfl
@[simp] theorem State.modSec_hardflt (s : State) (f : SecSt → SecSt) : (s.modSec f).hardflt = s.hardflt := rfl
@[simp] theorem State.modSec_ringDrop (s : State) (f : SecSt → SecSt) : (s.modSec f).ringDrop = s.ringDrop := rfl
@[simp] theorem State.modSec_dq (s : State) (f : SecSt → SecSt) : (s.modSec f).dq = s.dq := rfl
@[simp] theorem State.modSec_dram (s : State) (f : SecSt → SecSt) : (s.modSec f).dram = s.dram := rfl
@[simp] theorem State.modSec_tim (s : State) (f : SecSt → SecSt) : (s.modSec f).tim = s.tim := rfl
@[simp] theorem State.modSec_ang (s : State) (f : SecSt → SecSt) : (s.modSec f).ang = s.ang := rfl
@[simp] theorem State.modSec_recd (s : State) (f : SecSt → SecSt) : (s.modSec f).recd = s.recd := rfl
@[simp] theorem State.modSec_pcl (s : State) (f : SecSt → SecSt) : (s.modSec f).pcl = s.pcl := rfl
@[simp] theorem State.modSec_cam (s : State) (f : SecSt → SecSt) : (s.modSec f).cam = s.cam := rfl
@[simp] theorem State.modSec_fus (s : State) (f : SecSt → SecSt) : (s.modSec f).fus = s.fus := rfl
@[simp] theorem State.modSec_bus (s : State) (f : SecSt → SecSt) : (s.modSec f).bus = s.bus := rfl
@[simp] theorem State.modSec_eth (s : State) (f : SecSt → SecSt) : (s.modSec f).eth = s.eth := rfl
@[simp] theorem State.modSec_hst (s : State) (f : SecSt → SecSt) : (s.modSec f).hst = s.hst := rfl
@[simp] theorem State.modSec_hsi (s : State) (f : SecSt → SecSt) : (s.modSec f).hsi = s.hsi := rfl
@[simp] theorem State.modSec_fab (s : State) (f : SecSt → SecSt) : (s.modSec f).fab = s.fab := rfl
@[simp] theorem State.modSec_pnl (s : State) (f : SecSt → SecSt) : (s.modSec f).pnl = s.pnl := rfl
@[simp] theorem State.modSec_cfg (s : State) (f : SecSt → SecSt) : (s.modSec f).cfg = s.cfg := rfl
@[simp] theorem State.modSec_pwr (s : State) (f : SecSt → SecSt) : (s.modSec f).pwr = s.pwr := rfl
@[simp] theorem State.modSec_out (s : State) (f : SecSt → SecSt) : (s.modSec f).out = s.out := rfl

@[simp] theorem State.modCfg_pending (s : State) (f : CfgSt → CfgSt) : (s.modCfg f).pending = s.pending := rfl
@[simp] theorem State.modCfg_now (s : State) (f : CfgSt → CfgSt) : (s.modCfg f).now = s.now := rfl
@[simp] theorem State.modCfg_freeCtr (s : State) (f : CfgSt → CfgSt) : (s.modCfg f).freeCtr = s.freeCtr := rfl
@[simp] theorem State.modCfg_sup (s : State) (f : CfgSt → CfgSt) : (s.modCfg f).sup = s.sup := rfl
@[simp] theorem State.modCfg_laneA (s : State) (f : CfgSt → CfgSt) : (s.modCfg f).laneA = s.laneA := rfl
@[simp] theorem State.modCfg_laneB (s : State) (f : CfgSt → CfgSt) : (s.modCfg f).laneB = s.laneB := rfl
@[simp] theorem State.modCfg_seqs (s : State) (f : CfgSt → CfgSt) : (s.modCfg f).seqs = s.seqs := rfl
@[simp] theorem State.modCfg_sregs (s : State) (f : CfgSt → CfgSt) : (s.modCfg f).sregs = s.sregs := rfl
@[simp] theorem State.modCfg_hardflt (s : State) (f : CfgSt → CfgSt) : (s.modCfg f).hardflt = s.hardflt := rfl
@[simp] theorem State.modCfg_ringDrop (s : State) (f : CfgSt → CfgSt) : (s.modCfg f).ringDrop = s.ringDrop := rfl
@[simp] theorem State.modCfg_dq (s : State) (f : CfgSt → CfgSt) : (s.modCfg f).dq = s.dq := rfl
@[simp] theorem State.modCfg_dram (s : State) (f : CfgSt → CfgSt) : (s.modCfg f).dram = s.dram := rfl
@[simp] theorem State.modCfg_tim (s : State) (f : CfgSt → CfgSt) : (s.modCfg f).tim = s.tim := rfl
@[simp] theorem State.modCfg_ang (s : State) (f : CfgSt → CfgSt) : (s.modCfg f).ang = s.ang := rfl
@[simp] theorem State.modCfg_recd (s : State) (f : CfgSt → CfgSt) : (s.modCfg f).recd = s.recd := rfl
@[simp] theorem State.modCfg_pcl (s : State) (f : CfgSt → CfgSt) : (s.modCfg f).pcl = s.pcl := rfl
@[simp] theorem State.modCfg_cam (s : State) (f : CfgSt → CfgSt) : (s.modCfg f).cam = s.cam := rfl
@[simp] theorem State.modCfg_fus (s : State) (f : CfgSt → CfgSt) : (s.modCfg f).fus = s.fus := rfl
@[simp] theorem State.modCfg_bus (s : State) (f : CfgSt → CfgSt) : (s.modCfg f).bus = s.bus := rfl
@[simp] theorem State.modCfg_eth (s : State) (f : CfgSt → CfgSt) : (s.modCfg f).eth = s.eth := rfl
@[simp] theorem State.modCfg_hst (s : State) (f : CfgSt → CfgSt) : (s.modCfg f).hst = s.hst := rfl
@[simp] theorem State.modCfg_hsi (s : State) (f : CfgSt → CfgSt) : (s.modCfg f).hsi = s.hsi := rfl
@[simp] theorem State.modCfg_fab (s : State) (f : CfgSt → CfgSt) : (s.modCfg f).fab = s.fab := rfl
@[simp] theorem State.modCfg_pnl (s : State) (f : CfgSt → CfgSt) : (s.modCfg f).pnl = s.pnl := rfl
@[simp] theorem State.modCfg_sec (s : State) (f : CfgSt → CfgSt) : (s.modCfg f).sec = s.sec := rfl
@[simp] theorem State.modCfg_pwr (s : State) (f : CfgSt → CfgSt) : (s.modCfg f).pwr = s.pwr := rfl
@[simp] theorem State.modCfg_out (s : State) (f : CfgSt → CfgSt) : (s.modCfg f).out = s.out := rfl

@[simp] theorem State.modPwr_pending (s : State) (f : PwrSt → PwrSt) : (s.modPwr f).pending = s.pending := rfl
@[simp] theorem State.modPwr_now (s : State) (f : PwrSt → PwrSt) : (s.modPwr f).now = s.now := rfl
@[simp] theorem State.modPwr_freeCtr (s : State) (f : PwrSt → PwrSt) : (s.modPwr f).freeCtr = s.freeCtr := rfl
@[simp] theorem State.modPwr_sup (s : State) (f : PwrSt → PwrSt) : (s.modPwr f).sup = s.sup := rfl
@[simp] theorem State.modPwr_laneA (s : State) (f : PwrSt → PwrSt) : (s.modPwr f).laneA = s.laneA := rfl
@[simp] theorem State.modPwr_laneB (s : State) (f : PwrSt → PwrSt) : (s.modPwr f).laneB = s.laneB := rfl
@[simp] theorem State.modPwr_seqs (s : State) (f : PwrSt → PwrSt) : (s.modPwr f).seqs = s.seqs := rfl
@[simp] theorem State.modPwr_sregs (s : State) (f : PwrSt → PwrSt) : (s.modPwr f).sregs = s.sregs := rfl
@[simp] theorem State.modPwr_hardflt (s : State) (f : PwrSt → PwrSt) : (s.modPwr f).hardflt = s.hardflt := rfl
@[simp] theorem State.modPwr_ringDrop (s : State) (f : PwrSt → PwrSt) : (s.modPwr f).ringDrop = s.ringDrop := rfl
@[simp] theorem State.modPwr_dq (s : State) (f : PwrSt → PwrSt) : (s.modPwr f).dq = s.dq := rfl
@[simp] theorem State.modPwr_dram (s : State) (f : PwrSt → PwrSt) : (s.modPwr f).dram = s.dram := rfl
@[simp] theorem State.modPwr_tim (s : State) (f : PwrSt → PwrSt) : (s.modPwr f).tim = s.tim := rfl
@[simp] theorem State.modPwr_ang (s : State) (f : PwrSt → PwrSt) : (s.modPwr f).ang = s.ang := rfl
@[simp] theorem State.modPwr_recd (s : State) (f : PwrSt → PwrSt) : (s.modPwr f).recd = s.recd := rfl
@[simp] theorem State.modPwr_pcl (s : State) (f : PwrSt → PwrSt) : (s.modPwr f).pcl = s.pcl := rfl
@[simp] theorem State.modPwr_cam (s : State) (f : PwrSt → PwrSt) : (s.modPwr f).cam = s.cam := rfl
@[simp] theorem State.modPwr_fus (s : State) (f : PwrSt → PwrSt) : (s.modPwr f).fus = s.fus := rfl
@[simp] theorem State.modPwr_bus (s : State) (f : PwrSt → PwrSt) : (s.modPwr f).bus = s.bus := rfl
@[simp] theorem State.modPwr_eth (s : State) (f : PwrSt → PwrSt) : (s.modPwr f).eth = s.eth := rfl
@[simp] theorem State.modPwr_hst (s : State) (f : PwrSt → PwrSt) : (s.modPwr f).hst = s.hst := rfl
@[simp] theorem State.modPwr_hsi (s : State) (f : PwrSt → PwrSt) : (s.modPwr f).hsi = s.hsi := rfl
@[simp] theorem State.modPwr_fab (s : State) (f : PwrSt → PwrSt) : (s.modPwr f).fab = s.fab := rfl
@[simp] theorem State.modPwr_pnl (s : State) (f : PwrSt → PwrSt) : (s.modPwr f).pnl = s.pnl := rfl
@[simp] theorem State.modPwr_sec (s : State) (f : PwrSt → PwrSt) : (s.modPwr f).sec = s.sec := rfl
@[simp] theorem State.modPwr_cfg (s : State) (f : PwrSt → PwrSt) : (s.modPwr f).cfg = s.cfg := rfl
@[simp] theorem State.modPwr_out (s : State) (f : PwrSt → PwrSt) : (s.modPwr f).out = s.out := rfl

@[simp] theorem State.modBank_pending (s : State) (n : Nat) (f : Bank → Bank) : (s.modBank n f).pending = s.pending := rfl
@[simp] theorem State.modBank_now (s : State) (n : Nat) (f : Bank → Bank) : (s.modBank n f).now = s.now := rfl
@[simp] theorem State.modBank_freeCtr (s : State) (n : Nat) (f : Bank → Bank) : (s.modBank n f).freeCtr = s.freeCtr := rfl
@[simp] theorem State.modBank_sup (s : State) (n : Nat) (f : Bank → Bank) : (s.modBank n f).sup = s.sup := rfl
@[simp] theorem State.modBank_laneA (s : State) (n : Nat) (f : Bank → Bank) : (s.modBank n f).laneA = s.laneA := rfl
@[simp] theorem State.modBank_laneB (s : State) (n : Nat) (f : Bank → Bank) : (s.modBank n f).laneB = s.laneB := rfl
@[simp] theorem State.modBank_seqs (s : State) (n : Nat) (f : Bank → Bank) : (s.modBank n f).seqs = s.seqs := rfl
@[simp] theorem State.modBank_sregs (s : State) (n : Nat) (f : Bank → Bank) : (s.modBank n f).sregs = s.sregs := rfl
@[simp] theorem State.modBank_hardflt (s : State) (n : Nat) (f : Bank → Bank) : (s.modBank n f).hardflt = s.hardflt := rfl
@[simp] theorem State.modBank_ringDrop (s : State) (n : Nat) (f : Bank → Bank) : (s.modBank n f).ringDrop = s.ringDrop := rfl
@[simp] theorem State.modBank_dq (s : State) (n : Nat) (f : Bank → Bank) : (s.modBank n f).dq = s.dq := rfl
@[simp] theorem State.modBank_dram (s : State) (n : Nat) (f : Bank → Bank) : (s.modBank n f).dram = s.dram := rfl
@[simp] theorem State.modBank_tim (s : State) (n : Nat) (f : Bank → Bank) : (s.modBank n f).tim = s.tim := rfl
@[simp] theorem State.modBank_ang (s : State) (n : Nat) (f : Bank → Bank) : (s.modBank n f).ang = s.ang := rfl
@[simp] theorem State.modBank_recd (s : State) (n : Nat) (f : Bank → Bank) : (s.modBank n f).recd = s.recd := rfl
@[simp] theorem State.modBank_pcl (s : State) (n : Nat) (f : Bank → Bank) : (s.modBank n f).pcl = s.pcl := rfl
@[simp] theorem State.modBank_cam (s : State) (n : Nat) (f : Bank → Bank) : (s.modBank n f).cam = s.cam := rfl
@[simp] theorem State.modBank_fus (s : State) (n : Nat) (f : Bank → Bank) : (s.modBank n f).fus = s.fus := rfl
@[simp] theorem State.modBank_bus (s : State) (n : Nat) (f : Bank → Bank) : (s.modBank n f).bus = s.bus := rfl
@[simp] theorem State.modBank_eth (s : State) (n : Nat) (f : Bank → Bank) : (s.modBank n f).eth = s.eth := rfl
@[simp] theorem State.modBank_hst (s : State) (n : Nat) (f : Bank → Bank) : (s.modBank n f).hst = s.hst := rfl
@[simp] theorem State.modBank_hsi (s : State) (n : Nat) (f : Bank → Bank) : (s.modBank n f).hsi = s.hsi := rfl
@[simp] theorem State.modBank_fab (s : State) (n : Nat) (f : Bank → Bank) : (s.modBank n f).fab = s.fab := rfl
@[simp] theorem State.modBank_pnl (s : State) (n : Nat) (f : Bank → Bank) : (s.modBank n f).pnl = s.pnl := rfl
@[simp] theorem State.modBank_sec (s : State) (n : Nat) (f : Bank → Bank) : (s.modBank n f).sec = s.sec := rfl
@[simp] theorem State.modBank_cfg (s : State) (n : Nat) (f : Bank → Bank) : (s.modBank n f).cfg = s.cfg := rfl
@[simp] theorem State.modBank_pwr (s : State) (n : Nat) (f : Bank → Bank) : (s.modBank n f).pwr = s.pwr := rfl

@[simp] theorem State.modChan_pending (s : State) (n : Nat) (f : Chan → Chan) : (s.modChan n f).pending = s.pending := rfl
@[simp] theorem State.modChan_now (s : State) (n : Nat) (f : Chan → Chan) : (s.modChan n f).now = s.now := rfl
@[simp] theorem State.modChan_freeCtr (s : State) (n : Nat) (f : Chan → Chan) : (s.modChan n f).freeCtr = s.freeCtr := rfl
@[simp] theorem State.modChan_sup (s : State) (n : Nat) (f : Chan → Chan) : (s.modChan n f).sup = s.sup := rfl
@[simp] theorem State.modChan_laneA (s : State) (n : Nat) (f : Chan → Chan) : (s.modChan n f).laneA = s.laneA := rfl
@[simp] theorem State.modChan_laneB (s : State) (n : Nat) (f : Chan → Chan) : (s.modChan n f).laneB = s.laneB := rfl
@[simp] theorem State.modChan_seqs (s : State) (n : Nat) (f : Chan → Chan) : (s.modChan n f).seqs = s.seqs := rfl
@[simp] theorem State.modChan_sregs (s : State) (n : Nat) (f : Chan → Chan) : (s.modChan n f).sregs = s.sregs := rfl
@[simp] theorem State.modChan_hardflt (s : State) (n : Nat) (f : Chan → Chan) : (s.modChan n f).hardflt = s.hardflt := rfl
@[simp] theorem State.modChan_ringDrop (s : State) (n : Nat) (f : Chan → Chan) : (s.modChan n f).ringDrop = s.ringDrop := rfl
@[simp] theorem State.modChan_dq (s : State) (n : Nat) (f : Chan → Chan) : (s.modChan n f).dq = s.dq := rfl
@[simp] theorem State.modChan_dram (s : State) (n : Nat) (f : Chan → Chan) : (s.modChan n f).dram = s.dram := rfl
@[simp] theorem State.modChan_tim (s : State) (n : Nat) (f : Chan → Chan) : (s.modChan n f).tim = s.tim := rfl
@[simp] theorem State.modChan_ang (s : State) (n : Nat) (f : Chan → Chan) : (s.modChan n f).ang = s.ang := rfl
@[simp] theorem State.modChan_recd (s : State) (n : Nat) (f : Chan → Chan) : (s.modChan n f).recd = s.recd := rfl
@[simp] theorem State.modChan_pcl (s : State) (n : Nat) (f : Chan → Chan) : (s.modChan n f).pcl = s.pcl := rfl
@[simp] theorem State.modChan_cam (s : State) (n : Nat) (f : Chan → Chan) : (s.modChan n f).cam = s.cam := rfl
@[simp] theorem State.modChan_fus (s : State) (n : Nat) (f : Chan → Chan) : (s.modChan n f).fus = s.fus := rfl
@[simp] theorem State.modChan_bus (s : State) (n : Nat) (f : Chan → Chan) : (s.modChan n f).bus = s.bus := rfl
@[simp] theorem State.modChan_eth (s : State) (n : Nat) (f : Chan → Chan) : (s.modChan n f).eth = s.eth := rfl
@[simp] theorem State.modChan_hst (s : State) (n : Nat) (f : Chan → Chan) : (s.modChan n f).hst = s.hst := rfl
@[simp] theorem State.modChan_hsi (s : State) (n : Nat) (f : Chan → Chan) : (s.modChan n f).hsi = s.hsi := rfl
@[simp] theorem State.modChan_fab (s : State) (n : Nat) (f : Chan → Chan) : (s.modChan n f).fab = s.fab := rfl
@[simp] theorem State.modChan_pnl (s : State) (n : Nat) (f : Chan → Chan) : (s.modChan n f).pnl = s.pnl := rfl
@[simp] theorem State.modChan_sec (s : State) (n : Nat) (f : Chan → Chan) : (s.modChan n f).sec = s.sec := rfl
@[simp] theorem State.modChan_cfg (s : State) (n : Nat) (f : Chan → Chan) : (s.modChan n f).cfg = s.cfg := rfl
@[simp] theorem State.modChan_pwr (s : State) (n : Nat) (f : Chan → Chan) : (s.modChan n f).pwr = s.pwr := rfl

@[simp] theorem State.modLs_pending (s : State) (n : Nat) (f : LsCh → LsCh) : (s.modLs n f).pending = s.pending := rfl
@[simp] theorem State.modLs_now (s : State) (n : Nat) (f : LsCh → LsCh) : (s.modLs n f).now = s.now := rfl
@[simp] theorem State.modLs_freeCtr (s : State) (n : Nat) (f : LsCh → LsCh) : (s.modLs n f).freeCtr = s.freeCtr := rfl
@[simp] theorem State.modLs_sup (s : State) (n : Nat) (f : LsCh → LsCh) : (s.modLs n f).sup = s.sup := rfl
@[simp] theorem State.modLs_laneA (s : State) (n : Nat) (f : LsCh → LsCh) : (s.modLs n f).laneA = s.laneA := rfl
@[simp] theorem State.modLs_laneB (s : State) (n : Nat) (f : LsCh → LsCh) : (s.modLs n f).laneB = s.laneB := rfl
@[simp] theorem State.modLs_seqs (s : State) (n : Nat) (f : LsCh → LsCh) : (s.modLs n f).seqs = s.seqs := rfl
@[simp] theorem State.modLs_sregs (s : State) (n : Nat) (f : LsCh → LsCh) : (s.modLs n f).sregs = s.sregs := rfl
@[simp] theorem State.modLs_hardflt (s : State) (n : Nat) (f : LsCh → LsCh) : (s.modLs n f).hardflt = s.hardflt := rfl
@[simp] theorem State.modLs_ringDrop (s : State) (n : Nat) (f : LsCh → LsCh) : (s.modLs n f).ringDrop = s.ringDrop := rfl
@[simp] theorem State.modLs_dq (s : State) (n : Nat) (f : LsCh → LsCh) : (s.modLs n f).dq = s.dq := rfl
@[simp] theorem State.modLs_dram (s : State) (n : Nat) (f : LsCh → LsCh) : (s.modLs n f).dram = s.dram := rfl
@[simp] theorem State.modLs_tim (s : State) (n : Nat) (f : LsCh → LsCh) : (s.modLs n f).tim = s.tim := rfl
@[simp] theorem State.modLs_ang (s : State) (n : Nat) (f : LsCh → LsCh) : (s.modLs n f).ang = s.ang := rfl
@[simp] theorem State.modLs_recd (s : State) (n : Nat) (f : LsCh → LsCh) : (s.modLs n f).recd = s.recd := rfl
@[simp] theorem State.modLs_pcl (s : State) (n : Nat) (f : LsCh → LsCh) : (s.modLs n f).pcl = s.pcl := rfl
@[simp] theorem State.modLs_cam (s : State) (n : Nat) (f : LsCh → LsCh) : (s.modLs n f).cam = s.cam := rfl
@[simp] theorem State.modLs_fus (s : State) (n : Nat) (f : LsCh → LsCh) : (s.modLs n f).fus = s.fus := rfl
@[simp] theorem State.modLs_bus (s : State) (n : Nat) (f : LsCh → LsCh) : (s.modLs n f).bus = s.bus := rfl
@[simp] theorem State.modLs_eth (s : State) (n : Nat) (f : LsCh → LsCh) : (s.modLs n f).eth = s.eth := rfl
@[simp] theorem State.modLs_hst (s : State) (n : Nat) (f : LsCh → LsCh) : (s.modLs n f).hst = s.hst := rfl
@[simp] theorem State.modLs_hsi (s : State) (n : Nat) (f : LsCh → LsCh) : (s.modLs n f).hsi = s.hsi := rfl
@[simp] theorem State.modLs_fab (s : State) (n : Nat) (f : LsCh → LsCh) : (s.modLs n f).fab = s.fab := rfl
@[simp] theorem State.modLs_pnl (s : State) (n : Nat) (f : LsCh → LsCh) : (s.modLs n f).pnl = s.pnl := rfl
@[simp] theorem State.modLs_sec (s : State) (n : Nat) (f : LsCh → LsCh) : (s.modLs n f).sec = s.sec := rfl
@[simp] theorem State.modLs_cfg (s : State) (n : Nat) (f : LsCh → LsCh) : (s.modLs n f).cfg = s.cfg := rfl
@[simp] theorem State.modLs_pwr (s : State) (n : Nat) (f : LsCh → LsCh) : (s.modLs n f).pwr = s.pwr := rfl

@[simp] theorem State.modVp_pending (s : State) (n : Nat) (f : Vp → Vp) : (s.modVp n f).pending = s.pending := rfl
@[simp] theorem State.modVp_now (s : State) (n : Nat) (f : Vp → Vp) : (s.modVp n f).now = s.now := rfl
@[simp] theorem State.modVp_freeCtr (s : State) (n : Nat) (f : Vp → Vp) : (s.modVp n f).freeCtr = s.freeCtr := rfl
@[simp] theorem State.modVp_sup (s : State) (n : Nat) (f : Vp → Vp) : (s.modVp n f).sup = s.sup := rfl
@[simp] theorem State.modVp_laneA (s : State) (n : Nat) (f : Vp → Vp) : (s.modVp n f).laneA = s.laneA := rfl
@[simp] theorem State.modVp_laneB (s : State) (n : Nat) (f : Vp → Vp) : (s.modVp n f).laneB = s.laneB := rfl
@[simp] theorem State.modVp_seqs (s : State) (n : Nat) (f : Vp → Vp) : (s.modVp n f).seqs = s.seqs := rfl
@[simp] theorem State.modVp_sregs (s : State) (n : Nat) (f : Vp → Vp) : (s.modVp n f).sregs = s.sregs := rfl
@[simp] theorem State.modVp_hardflt (s : State) (n : Nat) (f : Vp → Vp) : (s.modVp n f).hardflt = s.hardflt := rfl
@[simp] theorem State.modVp_ringDrop (s : State) (n : Nat) (f : Vp → Vp) : (s.modVp n f).ringDrop = s.ringDrop := rfl
@[simp] theorem State.modVp_dq (s : State) (n : Nat) (f : Vp → Vp) : (s.modVp n f).dq = s.dq := rfl
@[simp] theorem State.modVp_dram (s : State) (n : Nat) (f : Vp → Vp) : (s.modVp n f).dram = s.dram := rfl
@[simp] theorem State.modVp_tim (s : State) (n : Nat) (f : Vp → Vp) : (s.modVp n f).tim = s.tim := rfl
@[simp] theorem State.modVp_ang (s : State) (n : Nat) (f : Vp → Vp) : (s.modVp n f).ang = s.ang := rfl
@[simp] theorem State.modVp_recd (s : State) (n : Nat) (f : Vp → Vp) : (s.modVp n f).recd = s.recd := rfl
@[simp] theorem State.modVp_pcl (s : State) (n : Nat) (f : Vp → Vp) : (s.modVp n f).pcl = s.pcl := rfl
@[simp] theorem State.modVp_fus (s : State) (n : Nat) (f : Vp → Vp) : (s.modVp n f).fus = s.fus := rfl
@[simp] theorem State.modVp_bus (s : State) (n : Nat) (f : Vp → Vp) : (s.modVp n f).bus = s.bus := rfl
@[simp] theorem State.modVp_eth (s : State) (n : Nat) (f : Vp → Vp) : (s.modVp n f).eth = s.eth := rfl
@[simp] theorem State.modVp_hst (s : State) (n : Nat) (f : Vp → Vp) : (s.modVp n f).hst = s.hst := rfl
@[simp] theorem State.modVp_hsi (s : State) (n : Nat) (f : Vp → Vp) : (s.modVp n f).hsi = s.hsi := rfl
@[simp] theorem State.modVp_fab (s : State) (n : Nat) (f : Vp → Vp) : (s.modVp n f).fab = s.fab := rfl
@[simp] theorem State.modVp_pnl (s : State) (n : Nat) (f : Vp → Vp) : (s.modVp n f).pnl = s.pnl := rfl
@[simp] theorem State.modVp_sec (s : State) (n : Nat) (f : Vp → Vp) : (s.modVp n f).sec = s.sec := rfl
@[simp] theorem State.modVp_cfg (s : State) (n : Nat) (f : Vp → Vp) : (s.modVp n f).cfg = s.cfg := rfl
@[simp] theorem State.modVp_pwr (s : State) (n : Nat) (f : Vp → Vp) : (s.modVp n f).pwr = s.pwr := rfl
@[simp] theorem State.modVp_out (s : State) (n : Nat) (f : Vp → Vp) : (s.modVp n f).out = s.out := rfl

@[simp] theorem State.modLink_pending (s : State) (n : Nat) (f : CamLink → CamLink) : (s.modLink n f).pending = s.pending := rfl
@[simp] theorem State.modLink_now (s : State) (n : Nat) (f : CamLink → CamLink) : (s.modLink n f).now = s.now := rfl
@[simp] theorem State.modLink_freeCtr (s : State) (n : Nat) (f : CamLink → CamLink) : (s.modLink n f).freeCtr = s.freeCtr := rfl
@[simp] theorem State.modLink_sup (s : State) (n : Nat) (f : CamLink → CamLink) : (s.modLink n f).sup = s.sup := rfl
@[simp] theorem State.modLink_laneA (s : State) (n : Nat) (f : CamLink → CamLink) : (s.modLink n f).laneA = s.laneA := rfl
@[simp] theorem State.modLink_laneB (s : State) (n : Nat) (f : CamLink → CamLink) : (s.modLink n f).laneB = s.laneB := rfl
@[simp] theorem State.modLink_seqs (s : State) (n : Nat) (f : CamLink → CamLink) : (s.modLink n f).seqs = s.seqs := rfl
@[simp] theorem State.modLink_sregs (s : State) (n : Nat) (f : CamLink → CamLink) : (s.modLink n f).sregs = s.sregs := rfl
@[simp] theorem State.modLink_hardflt (s : State) (n : Nat) (f : CamLink → CamLink) : (s.modLink n f).hardflt = s.hardflt := rfl
@[simp] theorem State.modLink_ringDrop (s : State) (n : Nat) (f : CamLink → CamLink) : (s.modLink n f).ringDrop = s.ringDrop := rfl
@[simp] theorem State.modLink_dq (s : State) (n : Nat) (f : CamLink → CamLink) : (s.modLink n f).dq = s.dq := rfl
@[simp] theorem State.modLink_dram (s : State) (n : Nat) (f : CamLink → CamLink) : (s.modLink n f).dram = s.dram := rfl
@[simp] theorem State.modLink_tim (s : State) (n : Nat) (f : CamLink → CamLink) : (s.modLink n f).tim = s.tim := rfl
@[simp] theorem State.modLink_ang (s : State) (n : Nat) (f : CamLink → CamLink) : (s.modLink n f).ang = s.ang := rfl
@[simp] theorem State.modLink_recd (s : State) (n : Nat) (f : CamLink → CamLink) : (s.modLink n f).recd = s.recd := rfl
@[simp] theorem State.modLink_pcl (s : State) (n : Nat) (f : CamLink → CamLink) : (s.modLink n f).pcl = s.pcl := rfl
@[simp] theorem State.modLink_fus (s : State) (n : Nat) (f : CamLink → CamLink) : (s.modLink n f).fus = s.fus := rfl
@[simp] theorem State.modLink_bus (s : State) (n : Nat) (f : CamLink → CamLink) : (s.modLink n f).bus = s.bus := rfl
@[simp] theorem State.modLink_eth (s : State) (n : Nat) (f : CamLink → CamLink) : (s.modLink n f).eth = s.eth := rfl
@[simp] theorem State.modLink_hst (s : State) (n : Nat) (f : CamLink → CamLink) : (s.modLink n f).hst = s.hst := rfl
@[simp] theorem State.modLink_hsi (s : State) (n : Nat) (f : CamLink → CamLink) : (s.modLink n f).hsi = s.hsi := rfl
@[simp] theorem State.modLink_fab (s : State) (n : Nat) (f : CamLink → CamLink) : (s.modLink n f).fab = s.fab := rfl
@[simp] theorem State.modLink_pnl (s : State) (n : Nat) (f : CamLink → CamLink) : (s.modLink n f).pnl = s.pnl := rfl
@[simp] theorem State.modLink_sec (s : State) (n : Nat) (f : CamLink → CamLink) : (s.modLink n f).sec = s.sec := rfl
@[simp] theorem State.modLink_cfg (s : State) (n : Nat) (f : CamLink → CamLink) : (s.modLink n f).cfg = s.cfg := rfl
@[simp] theorem State.modLink_pwr (s : State) (n : Nat) (f : CamLink → CamLink) : (s.modLink n f).pwr = s.pwr := rfl
@[simp] theorem State.modLink_out (s : State) (n : Nat) (f : CamLink → CamLink) : (s.modLink n f).out = s.out := rfl

@[simp] theorem State.modLin_pending (s : State) (n : Nat) (f : LinCh → LinCh) : (s.modLin n f).pending = s.pending := rfl
@[simp] theorem State.modLin_now (s : State) (n : Nat) (f : LinCh → LinCh) : (s.modLin n f).now = s.now := rfl
@[simp] theorem State.modLin_freeCtr (s : State) (n : Nat) (f : LinCh → LinCh) : (s.modLin n f).freeCtr = s.freeCtr := rfl
@[simp] theorem State.modLin_sup (s : State) (n : Nat) (f : LinCh → LinCh) : (s.modLin n f).sup = s.sup := rfl
@[simp] theorem State.modLin_laneA (s : State) (n : Nat) (f : LinCh → LinCh) : (s.modLin n f).laneA = s.laneA := rfl
@[simp] theorem State.modLin_laneB (s : State) (n : Nat) (f : LinCh → LinCh) : (s.modLin n f).laneB = s.laneB := rfl
@[simp] theorem State.modLin_seqs (s : State) (n : Nat) (f : LinCh → LinCh) : (s.modLin n f).seqs = s.seqs := rfl
@[simp] theorem State.modLin_sregs (s : State) (n : Nat) (f : LinCh → LinCh) : (s.modLin n f).sregs = s.sregs := rfl
@[simp] theorem State.modLin_hardflt (s : State) (n : Nat) (f : LinCh → LinCh) : (s.modLin n f).hardflt = s.hardflt := rfl
@[simp] theorem State.modLin_ringDrop (s : State) (n : Nat) (f : LinCh → LinCh) : (s.modLin n f).ringDrop = s.ringDrop := rfl
@[simp] theorem State.modLin_dq (s : State) (n : Nat) (f : LinCh → LinCh) : (s.modLin n f).dq = s.dq := rfl
@[simp] theorem State.modLin_dram (s : State) (n : Nat) (f : LinCh → LinCh) : (s.modLin n f).dram = s.dram := rfl
@[simp] theorem State.modLin_tim (s : State) (n : Nat) (f : LinCh → LinCh) : (s.modLin n f).tim = s.tim := rfl
@[simp] theorem State.modLin_ang (s : State) (n : Nat) (f : LinCh → LinCh) : (s.modLin n f).ang = s.ang := rfl
@[simp] theorem State.modLin_recd (s : State) (n : Nat) (f : LinCh → LinCh) : (s.modLin n f).recd = s.recd := rfl
@[simp] theorem State.modLin_pcl (s : State) (n : Nat) (f : LinCh → LinCh) : (s.modLin n f).pcl = s.pcl := rfl
@[simp] theorem State.modLin_cam (s : State) (n : Nat) (f : LinCh → LinCh) : (s.modLin n f).cam = s.cam := rfl
@[simp] theorem State.modLin_fus (s : State) (n : Nat) (f : LinCh → LinCh) : (s.modLin n f).fus = s.fus := rfl
@[simp] theorem State.modLin_eth (s : State) (n : Nat) (f : LinCh → LinCh) : (s.modLin n f).eth = s.eth := rfl
@[simp] theorem State.modLin_hst (s : State) (n : Nat) (f : LinCh → LinCh) : (s.modLin n f).hst = s.hst := rfl
@[simp] theorem State.modLin_hsi (s : State) (n : Nat) (f : LinCh → LinCh) : (s.modLin n f).hsi = s.hsi := rfl
@[simp] theorem State.modLin_fab (s : State) (n : Nat) (f : LinCh → LinCh) : (s.modLin n f).fab = s.fab := rfl
@[simp] theorem State.modLin_pnl (s : State) (n : Nat) (f : LinCh → LinCh) : (s.modLin n f).pnl = s.pnl := rfl
@[simp] theorem State.modLin_sec (s : State) (n : Nat) (f : LinCh → LinCh) : (s.modLin n f).sec = s.sec := rfl
@[simp] theorem State.modLin_cfg (s : State) (n : Nat) (f : LinCh → LinCh) : (s.modLin n f).cfg = s.cfg := rfl
@[simp] theorem State.modLin_pwr (s : State) (n : Nat) (f : LinCh → LinCh) : (s.modLin n f).pwr = s.pwr := rfl
@[simp] theorem State.modLin_out (s : State) (n : Nat) (f : LinCh → LinCh) : (s.modLin n f).out = s.out := rfl

@[simp] theorem State.modCan_pending (s : State) (n : Nat) (f : CanCh → CanCh) : (s.modCan n f).pending = s.pending := rfl
@[simp] theorem State.modCan_now (s : State) (n : Nat) (f : CanCh → CanCh) : (s.modCan n f).now = s.now := rfl
@[simp] theorem State.modCan_freeCtr (s : State) (n : Nat) (f : CanCh → CanCh) : (s.modCan n f).freeCtr = s.freeCtr := rfl
@[simp] theorem State.modCan_sup (s : State) (n : Nat) (f : CanCh → CanCh) : (s.modCan n f).sup = s.sup := rfl
@[simp] theorem State.modCan_laneA (s : State) (n : Nat) (f : CanCh → CanCh) : (s.modCan n f).laneA = s.laneA := rfl
@[simp] theorem State.modCan_laneB (s : State) (n : Nat) (f : CanCh → CanCh) : (s.modCan n f).laneB = s.laneB := rfl
@[simp] theorem State.modCan_seqs (s : State) (n : Nat) (f : CanCh → CanCh) : (s.modCan n f).seqs = s.seqs := rfl
@[simp] theorem State.modCan_sregs (s : State) (n : Nat) (f : CanCh → CanCh) : (s.modCan n f).sregs = s.sregs := rfl
@[simp] theorem State.modCan_hardflt (s : State) (n : Nat) (f : CanCh → CanCh) : (s.modCan n f).hardflt = s.hardflt := rfl
@[simp] theorem State.modCan_ringDrop (s : State) (n : Nat) (f : CanCh → CanCh) : (s.modCan n f).ringDrop = s.ringDrop := rfl
@[simp] theorem State.modCan_dq (s : State) (n : Nat) (f : CanCh → CanCh) : (s.modCan n f).dq = s.dq := rfl
@[simp] theorem State.modCan_dram (s : State) (n : Nat) (f : CanCh → CanCh) : (s.modCan n f).dram = s.dram := rfl
@[simp] theorem State.modCan_tim (s : State) (n : Nat) (f : CanCh → CanCh) : (s.modCan n f).tim = s.tim := rfl
@[simp] theorem State.modCan_ang (s : State) (n : Nat) (f : CanCh → CanCh) : (s.modCan n f).ang = s.ang := rfl
@[simp] theorem State.modCan_recd (s : State) (n : Nat) (f : CanCh → CanCh) : (s.modCan n f).recd = s.recd := rfl
@[simp] theorem State.modCan_pcl (s : State) (n : Nat) (f : CanCh → CanCh) : (s.modCan n f).pcl = s.pcl := rfl
@[simp] theorem State.modCan_cam (s : State) (n : Nat) (f : CanCh → CanCh) : (s.modCan n f).cam = s.cam := rfl
@[simp] theorem State.modCan_fus (s : State) (n : Nat) (f : CanCh → CanCh) : (s.modCan n f).fus = s.fus := rfl
@[simp] theorem State.modCan_eth (s : State) (n : Nat) (f : CanCh → CanCh) : (s.modCan n f).eth = s.eth := rfl
@[simp] theorem State.modCan_hst (s : State) (n : Nat) (f : CanCh → CanCh) : (s.modCan n f).hst = s.hst := rfl
@[simp] theorem State.modCan_hsi (s : State) (n : Nat) (f : CanCh → CanCh) : (s.modCan n f).hsi = s.hsi := rfl
@[simp] theorem State.modCan_fab (s : State) (n : Nat) (f : CanCh → CanCh) : (s.modCan n f).fab = s.fab := rfl
@[simp] theorem State.modCan_pnl (s : State) (n : Nat) (f : CanCh → CanCh) : (s.modCan n f).pnl = s.pnl := rfl
@[simp] theorem State.modCan_sec (s : State) (n : Nat) (f : CanCh → CanCh) : (s.modCan n f).sec = s.sec := rfl
@[simp] theorem State.modCan_cfg (s : State) (n : Nat) (f : CanCh → CanCh) : (s.modCan n f).cfg = s.cfg := rfl
@[simp] theorem State.modCan_pwr (s : State) (n : Nat) (f : CanCh → CanCh) : (s.modCan n f).pwr = s.pwr := rfl
@[simp] theorem State.modCan_out (s : State) (n : Nat) (f : CanCh → CanCh) : (s.modCan n f).out = s.out := rfl

@[simp] theorem State.modLvl_pending (s : State) (n : Nat) (f : HLevel → HLevel) : (s.modLvl n f).pending = s.pending := rfl
@[simp] theorem State.modLvl_now (s : State) (n : Nat) (f : HLevel → HLevel) : (s.modLvl n f).now = s.now := rfl
@[simp] theorem State.modLvl_freeCtr (s : State) (n : Nat) (f : HLevel → HLevel) : (s.modLvl n f).freeCtr = s.freeCtr := rfl
@[simp] theorem State.modLvl_sup (s : State) (n : Nat) (f : HLevel → HLevel) : (s.modLvl n f).sup = s.sup := rfl
@[simp] theorem State.modLvl_laneA (s : State) (n : Nat) (f : HLevel → HLevel) : (s.modLvl n f).laneA = s.laneA := rfl
@[simp] theorem State.modLvl_laneB (s : State) (n : Nat) (f : HLevel → HLevel) : (s.modLvl n f).laneB = s.laneB := rfl
@[simp] theorem State.modLvl_seqs (s : State) (n : Nat) (f : HLevel → HLevel) : (s.modLvl n f).seqs = s.seqs := rfl
@[simp] theorem State.modLvl_sregs (s : State) (n : Nat) (f : HLevel → HLevel) : (s.modLvl n f).sregs = s.sregs := rfl
@[simp] theorem State.modLvl_hardflt (s : State) (n : Nat) (f : HLevel → HLevel) : (s.modLvl n f).hardflt = s.hardflt := rfl
@[simp] theorem State.modLvl_ringDrop (s : State) (n : Nat) (f : HLevel → HLevel) : (s.modLvl n f).ringDrop = s.ringDrop := rfl
@[simp] theorem State.modLvl_dq (s : State) (n : Nat) (f : HLevel → HLevel) : (s.modLvl n f).dq = s.dq := rfl
@[simp] theorem State.modLvl_dram (s : State) (n : Nat) (f : HLevel → HLevel) : (s.modLvl n f).dram = s.dram := rfl
@[simp] theorem State.modLvl_tim (s : State) (n : Nat) (f : HLevel → HLevel) : (s.modLvl n f).tim = s.tim := rfl
@[simp] theorem State.modLvl_ang (s : State) (n : Nat) (f : HLevel → HLevel) : (s.modLvl n f).ang = s.ang := rfl
@[simp] theorem State.modLvl_recd (s : State) (n : Nat) (f : HLevel → HLevel) : (s.modLvl n f).recd = s.recd := rfl
@[simp] theorem State.modLvl_pcl (s : State) (n : Nat) (f : HLevel → HLevel) : (s.modLvl n f).pcl = s.pcl := rfl
@[simp] theorem State.modLvl_cam (s : State) (n : Nat) (f : HLevel → HLevel) : (s.modLvl n f).cam = s.cam := rfl
@[simp] theorem State.modLvl_fus (s : State) (n : Nat) (f : HLevel → HLevel) : (s.modLvl n f).fus = s.fus := rfl
@[simp] theorem State.modLvl_bus (s : State) (n : Nat) (f : HLevel → HLevel) : (s.modLvl n f).bus = s.bus := rfl
@[simp] theorem State.modLvl_eth (s : State) (n : Nat) (f : HLevel → HLevel) : (s.modLvl n f).eth = s.eth := rfl
@[simp] theorem State.modLvl_hsi (s : State) (n : Nat) (f : HLevel → HLevel) : (s.modLvl n f).hsi = s.hsi := rfl
@[simp] theorem State.modLvl_fab (s : State) (n : Nat) (f : HLevel → HLevel) : (s.modLvl n f).fab = s.fab := rfl
@[simp] theorem State.modLvl_pnl (s : State) (n : Nat) (f : HLevel → HLevel) : (s.modLvl n f).pnl = s.pnl := rfl
@[simp] theorem State.modLvl_sec (s : State) (n : Nat) (f : HLevel → HLevel) : (s.modLvl n f).sec = s.sec := rfl
@[simp] theorem State.modLvl_cfg (s : State) (n : Nat) (f : HLevel → HLevel) : (s.modLvl n f).cfg = s.cfg := rfl
@[simp] theorem State.modLvl_pwr (s : State) (n : Nat) (f : HLevel → HLevel) : (s.modLvl n f).pwr = s.pwr := rfl
@[simp] theorem State.modLvl_out (s : State) (n : Nat) (f : HLevel → HLevel) : (s.modLvl n f).out = s.out := rfl

@[simp] theorem State.modLoss_pending (s : State) (n : Nat) (f : LossCh → LossCh) : (s.modLoss n f).pending = s.pending := rfl
@[simp] theorem State.modLoss_now (s : State) (n : Nat) (f : LossCh → LossCh) : (s.modLoss n f).now = s.now := rfl
@[simp] theorem State.modLoss_freeCtr (s : State) (n : Nat) (f : LossCh → LossCh) : (s.modLoss n f).freeCtr = s.freeCtr := rfl
@[simp] theorem State.modLoss_sup (s : State) (n : Nat) (f : LossCh → LossCh) : (s.modLoss n f).sup = s.sup := rfl
@[simp] theorem State.modLoss_laneA (s : State) (n : Nat) (f : LossCh → LossCh) : (s.modLoss n f).laneA = s.laneA := rfl
@[simp] theorem State.modLoss_laneB (s : State) (n : Nat) (f : LossCh → LossCh) : (s.modLoss n f).laneB = s.laneB := rfl
@[simp] theorem State.modLoss_seqs (s : State) (n : Nat) (f : LossCh → LossCh) : (s.modLoss n f).seqs = s.seqs := rfl
@[simp] theorem State.modLoss_sregs (s : State) (n : Nat) (f : LossCh → LossCh) : (s.modLoss n f).sregs = s.sregs := rfl
@[simp] theorem State.modLoss_hardflt (s : State) (n : Nat) (f : LossCh → LossCh) : (s.modLoss n f).hardflt = s.hardflt := rfl
@[simp] theorem State.modLoss_ringDrop (s : State) (n : Nat) (f : LossCh → LossCh) : (s.modLoss n f).ringDrop = s.ringDrop := rfl
@[simp] theorem State.modLoss_dq (s : State) (n : Nat) (f : LossCh → LossCh) : (s.modLoss n f).dq = s.dq := rfl
@[simp] theorem State.modLoss_dram (s : State) (n : Nat) (f : LossCh → LossCh) : (s.modLoss n f).dram = s.dram := rfl
@[simp] theorem State.modLoss_tim (s : State) (n : Nat) (f : LossCh → LossCh) : (s.modLoss n f).tim = s.tim := rfl
@[simp] theorem State.modLoss_ang (s : State) (n : Nat) (f : LossCh → LossCh) : (s.modLoss n f).ang = s.ang := rfl
@[simp] theorem State.modLoss_recd (s : State) (n : Nat) (f : LossCh → LossCh) : (s.modLoss n f).recd = s.recd := rfl
@[simp] theorem State.modLoss_pcl (s : State) (n : Nat) (f : LossCh → LossCh) : (s.modLoss n f).pcl = s.pcl := rfl
@[simp] theorem State.modLoss_cam (s : State) (n : Nat) (f : LossCh → LossCh) : (s.modLoss n f).cam = s.cam := rfl
@[simp] theorem State.modLoss_fus (s : State) (n : Nat) (f : LossCh → LossCh) : (s.modLoss n f).fus = s.fus := rfl
@[simp] theorem State.modLoss_bus (s : State) (n : Nat) (f : LossCh → LossCh) : (s.modLoss n f).bus = s.bus := rfl
@[simp] theorem State.modLoss_eth (s : State) (n : Nat) (f : LossCh → LossCh) : (s.modLoss n f).eth = s.eth := rfl
@[simp] theorem State.modLoss_hst (s : State) (n : Nat) (f : LossCh → LossCh) : (s.modLoss n f).hst = s.hst := rfl
@[simp] theorem State.modLoss_fab (s : State) (n : Nat) (f : LossCh → LossCh) : (s.modLoss n f).fab = s.fab := rfl
@[simp] theorem State.modLoss_pnl (s : State) (n : Nat) (f : LossCh → LossCh) : (s.modLoss n f).pnl = s.pnl := rfl
@[simp] theorem State.modLoss_sec (s : State) (n : Nat) (f : LossCh → LossCh) : (s.modLoss n f).sec = s.sec := rfl
@[simp] theorem State.modLoss_cfg (s : State) (n : Nat) (f : LossCh → LossCh) : (s.modLoss n f).cfg = s.cfg := rfl
@[simp] theorem State.modLoss_pwr (s : State) (n : Nat) (f : LossCh → LossCh) : (s.modLoss n f).pwr = s.pwr := rfl
@[simp] theorem State.modLoss_out (s : State) (n : Nat) (f : LossCh → LossCh) : (s.modLoss n f).out = s.out := rfl

@[simp] theorem State.modLane_pending (s : State) (l : LaneId) (f : Lane → Lane) : (s.modLane l f).pending = s.pending := by cases l <;> rfl
@[simp] theorem State.modLane_now (s : State) (l : LaneId) (f : Lane → Lane) : (s.modLane l f).now = s.now := by cases l <;> rfl
@[simp] theorem State.modLane_freeCtr (s : State) (l : LaneId) (f : Lane → Lane) : (s.modLane l f).freeCtr = s.freeCtr := by cases l <;> rfl
@[simp] theorem State.modLane_sup (s : State) (l : LaneId) (f : Lane → Lane) : (s.modLane l f).sup = s.sup := by cases l <;> rfl
@[simp] theorem State.modLane_seqs (s : State) (l : LaneId) (f : Lane → Lane) : (s.modLane l f).seqs = s.seqs := by cases l <;> rfl
@[simp] theorem State.modLane_sregs (s : State) (l : LaneId) (f : Lane → Lane) : (s.modLane l f).sregs = s.sregs := by cases l <;> rfl
@[simp] theorem State.modLane_hardflt (s : State) (l : LaneId) (f : Lane → Lane) : (s.modLane l f).hardflt = s.hardflt := by cases l <;> rfl
@[simp] theorem State.modLane_ringDrop (s : State) (l : LaneId) (f : Lane → Lane) : (s.modLane l f).ringDrop = s.ringDrop := by cases l <;> rfl
@[simp] theorem State.modLane_dq (s : State) (l : LaneId) (f : Lane → Lane) : (s.modLane l f).dq = s.dq := by cases l <;> rfl
@[simp] theorem State.modLane_dram (s : State) (l : LaneId) (f : Lane → Lane) : (s.modLane l f).dram = s.dram := by cases l <;> rfl
@[simp] theorem State.modLane_tim (s : State) (l : LaneId) (f : Lane → Lane) : (s.modLane l f).tim = s.tim := by cases l <;> rfl
@[simp] theorem State.modLane_ang (s : State) (l : LaneId) (f : Lane → Lane) : (s.modLane l f).ang = s.ang := by cases l <;> rfl
@[simp] theorem State.modLane_recd (s : State) (l : LaneId) (f : Lane → Lane) : (s.modLane l f).recd = s.recd := by cases l <;> rfl
@[simp] theorem State.modLane_pcl (s : State) (l : LaneId) (f : Lane → Lane) : (s.modLane l f).pcl = s.pcl := by cases l <;> rfl
@[simp] theorem State.modLane_cam (s : State) (l : LaneId) (f : Lane → Lane) : (s.modLane l f).cam = s.cam := by cases l <;> rfl
@[simp] theorem State.modLane_fus (s : State) (l : LaneId) (f : Lane → Lane) : (s.modLane l f).fus = s.fus := by cases l <;> rfl
@[simp] theorem State.modLane_bus (s : State) (l : LaneId) (f : Lane → Lane) : (s.modLane l f).bus = s.bus := by cases l <;> rfl
@[simp] theorem State.modLane_eth (s : State) (l : LaneId) (f : Lane → Lane) : (s.modLane l f).eth = s.eth := by cases l <;> rfl
@[simp] theorem State.modLane_hst (s : State) (l : LaneId) (f : Lane → Lane) : (s.modLane l f).hst = s.hst := by cases l <;> rfl
@[simp] theorem State.modLane_hsi (s : State) (l : LaneId) (f : Lane → Lane) : (s.modLane l f).hsi = s.hsi := by cases l <;> rfl
@[simp] theorem State.modLane_fab (s : State) (l : LaneId) (f : Lane → Lane) : (s.modLane l f).fab = s.fab := by cases l <;> rfl
@[simp] theorem State.modLane_pnl (s : State) (l : LaneId) (f : Lane → Lane) : (s.modLane l f).pnl = s.pnl := by cases l <;> rfl
@[simp] theorem State.modLane_sec (s : State) (l : LaneId) (f : Lane → Lane) : (s.modLane l f).sec = s.sec := by cases l <;> rfl
@[simp] theorem State.modLane_cfg (s : State) (l : LaneId) (f : Lane → Lane) : (s.modLane l f).cfg = s.cfg := by cases l <;> rfl
@[simp] theorem State.modLane_pwr (s : State) (l : LaneId) (f : Lane → Lane) : (s.modLane l f).pwr = s.pwr := by cases l <;> rfl
@[simp] theorem State.modLane_out (s : State) (l : LaneId) (f : Lane → Lane) : (s.modLane l f).out = s.out := by cases l <;> rfl

@[simp] theorem State.modCore_pending (s : State) (l : LaneId) (c : Nat) (f : Core → Core) : (s.modCore l c f).pending = s.pending := by cases l <;> rfl
@[simp] theorem State.modCore_now (s : State) (l : LaneId) (c : Nat) (f : Core → Core) : (s.modCore l c f).now = s.now := by cases l <;> rfl
@[simp] theorem State.modCore_freeCtr (s : State) (l : LaneId) (c : Nat) (f : Core → Core) : (s.modCore l c f).freeCtr = s.freeCtr := by cases l <;> rfl
@[simp] theorem State.modCore_sup (s : State) (l : LaneId) (c : Nat) (f : Core → Core) : (s.modCore l c f).sup = s.sup := by cases l <;> rfl
@[simp] theorem State.modCore_seqs (s : State) (l : LaneId) (c : Nat) (f : Core → Core) : (s.modCore l c f).seqs = s.seqs := by cases l <;> rfl
@[simp] theorem State.modCore_sregs (s : State) (l : LaneId) (c : Nat) (f : Core → Core) : (s.modCore l c f).sregs = s.sregs := by cases l <;> rfl
@[simp] theorem State.modCore_hardflt (s : State) (l : LaneId) (c : Nat) (f : Core → Core) : (s.modCore l c f).hardflt = s.hardflt := by cases l <;> rfl
@[simp] theorem State.modCore_ringDrop (s : State) (l : LaneId) (c : Nat) (f : Core → Core) : (s.modCore l c f).ringDrop = s.ringDrop := by cases l <;> rfl
@[simp] theorem State.modCore_dq (s : State) (l : LaneId) (c : Nat) (f : Core → Core) : (s.modCore l c f).dq = s.dq := by cases l <;> rfl
@[simp] theorem State.modCore_dram (s : State) (l : LaneId) (c : Nat) (f : Core → Core) : (s.modCore l c f).dram = s.dram := by cases l <;> rfl
@[simp] theorem State.modCore_tim (s : State) (l : LaneId) (c : Nat) (f : Core → Core) : (s.modCore l c f).tim = s.tim := by cases l <;> rfl
@[simp] theorem State.modCore_ang (s : State) (l : LaneId) (c : Nat) (f : Core → Core) : (s.modCore l c f).ang = s.ang := by cases l <;> rfl
@[simp] theorem State.modCore_recd (s : State) (l : LaneId) (c : Nat) (f : Core → Core) : (s.modCore l c f).recd = s.recd := by cases l <;> rfl
@[simp] theorem State.modCore_pcl (s : State) (l : LaneId) (c : Nat) (f : Core → Core) : (s.modCore l c f).pcl = s.pcl := by cases l <;> rfl
@[simp] theorem State.modCore_cam (s : State) (l : LaneId) (c : Nat) (f : Core → Core) : (s.modCore l c f).cam = s.cam := by cases l <;> rfl
@[simp] theorem State.modCore_fus (s : State) (l : LaneId) (c : Nat) (f : Core → Core) : (s.modCore l c f).fus = s.fus := by cases l <;> rfl
@[simp] theorem State.modCore_bus (s : State) (l : LaneId) (c : Nat) (f : Core → Core) : (s.modCore l c f).bus = s.bus := by cases l <;> rfl
@[simp] theorem State.modCore_eth (s : State) (l : LaneId) (c : Nat) (f : Core → Core) : (s.modCore l c f).eth = s.eth := by cases l <;> rfl
@[simp] theorem State.modCore_hst (s : State) (l : LaneId) (c : Nat) (f : Core → Core) : (s.modCore l c f).hst = s.hst := by cases l <;> rfl
@[simp] theorem State.modCore_hsi (s : State) (l : LaneId) (c : Nat) (f : Core → Core) : (s.modCore l c f).hsi = s.hsi := by cases l <;> rfl
@[simp] theorem State.modCore_fab (s : State) (l : LaneId) (c : Nat) (f : Core → Core) : (s.modCore l c f).fab = s.fab := by cases l <;> rfl
@[simp] theorem State.modCore_pnl (s : State) (l : LaneId) (c : Nat) (f : Core → Core) : (s.modCore l c f).pnl = s.pnl := by cases l <;> rfl
@[simp] theorem State.modCore_sec (s : State) (l : LaneId) (c : Nat) (f : Core → Core) : (s.modCore l c f).sec = s.sec := by cases l <;> rfl
@[simp] theorem State.modCore_cfg (s : State) (l : LaneId) (c : Nat) (f : Core → Core) : (s.modCore l c f).cfg = s.cfg := by cases l <;> rfl
@[simp] theorem State.modCore_pwr (s : State) (l : LaneId) (c : Nat) (f : Core → Core) : (s.modCore l c f).pwr = s.pwr := by cases l <;> rfl
@[simp] theorem State.modCore_out (s : State) (l : LaneId) (c : Nat) (f : Core → Core) : (s.modCore l c f).out = s.out := by cases l <;> rfl

@[simp] theorem State.modSup_sup (s : State) (f : Sup → Sup) : (s.modSup f).sup = f s.sup := rfl
@[simp] theorem State.modTim_tim (s : State) (f : Tim → Tim) : (s.modTim f).tim = f s.tim := rfl
@[simp] theorem State.modPcl_pcl (s : State) (f : PclSt → PclSt) : (s.modPcl f).pcl = f s.pcl := rfl
@[simp] theorem State.modFus_fus (s : State) (f : FusSt → FusSt) : (s.modFus f).fus = f s.fus := rfl
@[simp] theorem State.modFab_fab (s : State) (f : FabSt → FabSt) : (s.modFab f).fab = f s.fab := rfl
@[simp] theorem State.modPnl_pnl (s : State) (f : PnlSt → PnlSt) : (s.modPnl f).pnl = f s.pnl := rfl
@[simp] theorem State.modSec_sec (s : State) (f : SecSt → SecSt) : (s.modSec f).sec = f s.sec := rfl
@[simp] theorem State.modCfg_cfg (s : State) (f : CfgSt → CfgSt) : (s.modCfg f).cfg = f s.cfg := rfl
@[simp] theorem State.modPwr_pwr (s : State) (f : PwrSt → PwrSt) : (s.modPwr f).pwr = f s.pwr := rfl

@[simp] theorem State.modLane_lane_same (s : State) (l : LaneId) (f : Lane → Lane) : (s.modLane l f).lane l = f (s.lane l) := by
  cases l <;> rfl

@[simp] theorem State.modLane_lane_other (s : State) (l : LaneId) (f : Lane → Lane) :
    (s.modLane l f).lane l.other = s.lane l.other := by
  cases l <;> rfl

theorem State.modLane_lane (s : State) (l m : LaneId) (f : Lane → Lane) :
    (s.modLane l f).lane m = if m = l then f (s.lane l) else s.lane m := by
  cases l <;> cases m <;> rfl

theorem State.modLane_modLane (s : State) (l : LaneId) (f g : Lane → Lane) :
    (s.modLane l f).modLane l g = s.modLane l fun x => g (f x) := by
  cases l <;> rfl

end Sys2Proof.Machine
end

