-- ==== Sys2Proof/Laws/Tab.lean ====
section
/-! SUPPORT. Laws of tables and of memories. -/

namespace Sys2Proof.Machine

/-! ### Tables -/

@[simp] theorem tfind_tset_same {α : Type} (t : Tab α) (n : Nat) (v : α) : tfind (tset t n v) n = some v := by
  induction t with
  | nil => simp [tset, tfind]
  | cons p t ih =>
    obtain ⟨k, w⟩ := p
    simp only [tset]
    split
    · simp [tfind]
    · split
      · simp [tfind]
      · rename_i _ h
        simp [tfind, Ne.symm h, ih]

theorem tfind_tset_ne {α : Type} (t : Tab α) {n m : Nat} (h : m ≠ n) (v : α) : tfind (tset t n v) m = tfind t m := by
  induction t with
  | nil => simp [tset, tfind, Ne.symm h]
  | cons p t ih =>
    obtain ⟨k, w⟩ := p
    simp only [tset]
    split
    · simp [tfind, Ne.symm h]
    · split
      · rename_i _ hk
        subst hk
        simp [tfind, Ne.symm h]
      · simp [tfind, ih]

@[simp] theorem tget_tset_same {α : Type} [Inhabited α] (t : Tab α) (n : Nat) (v : α) : tget (tset t n v) n = v := by
  simp [tget]

theorem tget_tset_ne {α : Type} [Inhabited α] (t : Tab α) {n m : Nat} (h : m ≠ n) (v : α) :
    tget (tset t n v) m = tget t m := by
  simp [tget, tfind_tset_ne t h]

theorem tget_tset {α : Type} [Inhabited α] (t : Tab α) (n m : Nat) (v : α) :
    tget (tset t n v) m = if m = n then v else tget t m := by
  split
  · subst_vars; simp
  · exact tget_tset_ne t ‹_› v

@[simp] theorem tget_tmod_same {α : Type} [Inhabited α] (t : Tab α) (n : Nat) (f : α → α) :
    tget (tmod t n f) n = f (tget t n) := by
  simp [tmod]

theorem tget_tmod_ne {α : Type} [Inhabited α] (t : Tab α) {n m : Nat} (h : m ≠ n) (f : α → α) :
    tget (tmod t n f) m = tget t m := tget_tset_ne t h _

theorem tset_tset {α : Type} (t : Tab α) (n : Nat) (v w : α) : tset (tset t n v) n w = tset t n w := by
  induction t with
  | nil => simp [tset]
  | cons p t ih =>
    obtain ⟨k, x⟩ := p
    by_cases h1 : n < k
    · simp [tset, h1]
    · by_cases h2 : n = k
      · subst h2; simp [tset]
      · simp [tset, h1, h2, ih]

theorem tmod_tmod {α : Type} [Inhabited α] (t : Tab α) (n : Nat) (f g : α → α) :
    tmod (tmod t n f) n g = tmod t n fun x => g (f x) := by
  simp [tmod, tset_tset]

/-! ### Memories -/

/-- The canonical form as a chain. -/
theorem Memory.wf_cons (a : Nat) (v : Byte) (m : Memory) :
    Memory.wf ((a, v) :: m) = true ↔ v ≠ unlisted ∧ (∀ p ∈ m, a < p.1) ∧ m.wf = true := by
  induction m generalizing a v with
  | nil => simp [Memory.wf]
  | cons p t ih =>
    obtain ⟨b, w⟩ := p
    simp only [Memory.wf, Bool.and_eq_true, decide_eq_true_eq, List.mem_cons, forall_eq_or_imp]
    constructor
    · rintro ⟨⟨hv, hab⟩, ht⟩
      have := (ih b w).1 ht
      exact ⟨hv, ⟨hab, fun p hp => Nat.lt_trans hab (this.2.1 p hp)⟩, ht⟩
    · rintro ⟨hv, ⟨hab, _⟩, ht⟩
      exact ⟨⟨hv, hab⟩, ht⟩

theorem mdel_sub (m : Memory) (a : Nat) : ∀ p ∈ mdel m a, p ∈ m := by
  induction m with
  | nil => simp [mdel]
  | cons q t ih =>
    obtain ⟨k, v⟩ := q
    simp only [mdel]
    split
    · intro p hp; exact List.mem_cons_of_mem _ hp
    · intro p hp
      rcases List.mem_cons.1 hp with rfl | h
      · exact List.mem_cons_self
      · exact List.mem_cons_of_mem _ (ih p h)

theorem mdel_wf (m : Memory) (a : Nat) (h : m.wf = true) : (mdel m a).wf = true := by
  induction m with
  | nil => simp [mdel, Memory.wf]
  | cons q t ih =>
    obtain ⟨k, v⟩ := q
    obtain ⟨hv, hl, ht⟩ := (Memory.wf_cons k v t).1 h
    simp only [mdel]
    split
    · exact ht
    · exact (Memory.wf_cons _ _ _).2 ⟨hv, fun p hp => hl p (mdel_sub t a p hp), ih ht⟩

theorem mput_mem (m : Memory) (a : Nat) (b : Byte) : ∀ p ∈ mput m a b, p = (a, b) ∨ p ∈ m := by
  induction m with
  | nil => simp [mput]
  | cons q t ih =>
    obtain ⟨k, v⟩ := q
    simp only [mput]
    split
    · intro p hp; simpa using hp
    · split
      · intro p hp
        rcases List.mem_cons.1 hp with rfl | h
        · exact .inl rfl
        · exact .inr (List.mem_cons_of_mem _ h)
      · intro p hp
        rcases List.mem_cons.1 hp with rfl | h
        · exact .inr List.mem_cons_self
        · rcases ih p h with h | h
          · exact .inl h
          · exact .inr (List.mem_cons_of_mem _ h)

theorem mput_wf (m : Memory) (a : Nat) (b : Byte) (hb : b ≠ unlisted) (h : m.wf = true) : (mput m a b).wf = true := by
  induction m with
  | nil => simpa [mput, Memory.wf] using hb
  | cons q t ih =>
    obtain ⟨k, v⟩ := q
    obtain ⟨hv, hl, ht⟩ := (Memory.wf_cons k v t).1 h
    simp only [mput]
    split
    · rename_i hlt
      refine (Memory.wf_cons _ _ _).2 ⟨hb, fun p hp => ?_, h⟩
      rcases List.mem_cons.1 hp with rfl | hp
      · exact hlt
      · exact Nat.lt_trans hlt (hl p hp)
    · split
      · rename_i _ he
        subst he
        exact (Memory.wf_cons _ _ _).2 ⟨hb, hl, ht⟩
      · rename_i h1 h2
        refine (Memory.wf_cons _ _ _).2 ⟨hv, fun p hp => ?_, ih ht⟩
        rcases mput_mem t a b p hp with rfl | hp
        · simp; omega
        · exact hl p hp

/-- A byte write keeps the canonical form. -/
theorem mwrite_wf (m : Memory) (a : Nat) (b : Byte) (h : m.wf = true) : (mwrite m a b).wf = true := by
  unfold mwrite
  split
  · exact mdel_wf m a h
  · exact mput_wf m a b ‹_› h

/-- A write of several bytes keeps the canonical form. -/
theorem mwriteN_wf (bs : List Byte) (m : Memory) (a : Nat) (h : m.wf = true) : (mwriteN m a bs).wf = true := by
  induction bs generalizing m a with
  | nil => simpa [mwriteN] using h
  | cons b bs ih => exact ih _ _ (mwrite_wf m a b h)

/-- A store of a number keeps the canonical form. -/
theorem mwriteLE_wf (n : Nat) (m : Memory) (a v : Nat) (h : m.wf = true) : (mwriteLE m a n v).wf = true := by
  induction n generalizing m a v with
  | zero => simpa [mwriteLE] using h
  | succ n ih => exact ih _ _ _ (mwrite_wf m a _ h)

theorem mread_above (m : Memory) (a : Nat) (h : ∀ p ∈ m, a < p.1) : mread m a = unlisted := by
  induction m with
  | nil => rfl
  | cons q t ih =>
    obtain ⟨k, v⟩ := q
    have hk : a < k := h (k, v) List.mem_cons_self
    simp only [mread]
    rw [if_neg (by omega)]
    exact ih fun p hp => h p (List.mem_cons_of_mem _ hp)

/-- A byte reads as it was written. -/
theorem mread_mwrite_same (m : Memory) (a : Nat) (b : Byte) (h : m.wf = true) : mread (mwrite m a b) a = b := by
  unfold mwrite
  split
  · rename_i hb
    subst hb
    induction m with
    | nil => rfl
    | cons q t ih =>
      obtain ⟨k, v⟩ := q
      obtain ⟨_, hl, ht⟩ := (Memory.wf_cons k v t).1 h
      simp only [mdel]
      split
      · rename_i he
        subst he
        exact mread_above t k hl
      · rename_i he
        simp [mread, he, ih ht]
  · clear h
    induction m with
    | nil => simp [mput, mread]
    | cons q t ih =>
      obtain ⟨k, v⟩ := q
      simp only [mput]
      split
      · simp [mread]
      · split
        · simp [mread]
        · rename_i _ he
          simp [mread, Ne.symm he, ih]

/-- A byte write leaves every other byte. -/
theorem mread_mwrite_ne (m : Memory) {a c : Nat} (hc : c ≠ a) (b : Byte) (h : m.wf = true) :
    mread (mwrite m a b) c = mread m c := by
  unfold mwrite
  split
  · induction m with
    | nil => rfl
    | cons q t ih =>
      obtain ⟨k, v⟩ := q
      obtain ⟨_, _, ht⟩ := (Memory.wf_cons k v t).1 h
      simp only [mdel]
      split
      · rename_i he
        subst he
        simp [mread, Ne.symm hc]
      · simp [mread, ih ht]
  · clear h
    induction m with
    | nil => simp [mput, mread, Ne.symm hc]
    | cons q t ih =>
      obtain ⟨k, v⟩ := q
      simp only [mput]
      split
      · simp [mread, Ne.symm hc]
      · split
        · rename_i _ he
          subst he
          simp [mread, Ne.symm hc]
        · simp [mread, ih]

/-- Bytes below a write of several bytes, and those at or above its end, read as before. -/
theorem mread_mwriteN_out (bs : List Byte) (m : Memory) (a c : Nat) (h : m.wf = true) (hc : c < a ∨ a + bs.length ≤ c) :
    mread (mwriteN m a bs) c = mread m c := by
  induction bs generalizing m a with
  | nil => rfl
  | cons b bs ih =>
    simp only [List.length_cons] at hc
    rw [mwriteN, ih _ _ (mwrite_wf m a b h) (by omega), mread_mwrite_ne m (by omega) b h]

/-- The same for a store of a number of `n` bytes. -/
theorem mread_mwriteLE_out (n : Nat) (m : Memory) (a v c : Nat) (h : m.wf = true) (hc : c < a ∨ a + n ≤ c) :
    mread (mwriteLE m a n v) c = mread m c := by
  induction n generalizing m a v with
  | zero => rfl
  | succ n ih =>
    rw [mwriteLE, ih _ _ _ (mwrite_wf m a _ h) (by omega), mread_mwrite_ne m (by omega) _ h]

/-- A number reads back as it was stored, modulo its width. -/
theorem mreadLE_mwriteLE (n : Nat) (m : Memory) (a v : Nat) (h : m.wf = true) :
    mreadLE (mwriteLE m a n v) a n = v % 256 ^ n := by
  induction n generalizing m a v with
  | zero => simp [mreadLE, Nat.mod_one]
  | succ n ih =>
    have hw := mwrite_wf m a (BitVec.ofNat 8 v) h
    simp only [mreadLE, mwriteLE]
    rw [mread_mwriteLE_out n _ _ _ _ hw (by omega), mread_mwrite_same m a _ h, ih _ _ _ hw]
    simp only [BitVec.toNat_ofNat]
    have e : 256 ^ (n + 1) = 256 * 256 ^ n := by rw [Nat.pow_succ, Nat.mul_comm]
    rw [e, Nat.mod_mul]

end Sys2Proof.Machine
end

