-- ==== Sys2Proof/Laws/Reg.lean ====
section
/-! SUPPORT. Registers and postings: what a write of a register, a rejection and a posting change, and what they leave. -/

namespace Sys2Proof.Machine

/-! ### Registers -/

@[simp] theorem rset_pending (s : State) (l : LaneId) (a v : Nat) : (rset s l a v).pending = s.pending := by unfold rset; split <;> simp
@[simp] theorem rset_now (s : State) (l : LaneId) (a v : Nat) : (rset s l a v).now = s.now := by unfold rset; split <;> simp
@[simp] theorem rset_freeCtr (s : State) (l : LaneId) (a v : Nat) : (rset s l a v).freeCtr = s.freeCtr := by unfold rset; split <;> simp
@[simp] theorem rset_sup (s : State) (l : LaneId) (a v : Nat) : (rset s l a v).sup = s.sup := by unfold rset; split <;> simp
@[simp] theorem rset_seqs (s : State) (l : LaneId) (a v : Nat) : (rset s l a v).seqs = s.seqs := by unfold rset; split <;> simp
@[simp] theorem rset_hardflt (s : State) (l : LaneId) (a v : Nat) : (rset s l a v).hardflt = s.hardflt := by unfold rset; split <;> simp
@[simp] theorem rset_ringDrop (s : State) (l : LaneId) (a v : Nat) : (rset s l a v).ringDrop = s.ringDrop := by unfold rset; split <;> simp
@[simp] theorem rset_dq (s : State) (l : LaneId) (a v : Nat) : (rset s l a v).dq = s.dq := by unfold rset; split <;> simp
@[simp] theorem rset_dram (s : State) (l : LaneId) (a v : Nat) : (rset s l a v).dram = s.dram := by unfold rset; split <;> simp
@[simp] theorem rset_tim (s : State) (l : LaneId) (a v : Nat) : (rset s l a v).tim = s.tim := by unfold rset; split <;> simp
@[simp] theorem rset_ang (s : State) (l : LaneId) (a v : Nat) : (rset s l a v).ang = s.ang := by unfold rset; split <;> simp
@[simp] theorem rset_recd (s : State) (l : LaneId) (a v : Nat) : (rset s l a v).recd = s.recd := by unfold rset; split <;> simp
@[simp] theorem rset_pcl (s : State) (l : LaneId) (a v : Nat) : (rset s l a v).pcl = s.pcl := by unfold rset; split <;> simp
@[simp] theorem rset_cam (s : State) (l : LaneId) (a v : Nat) : (rset s l a v).cam = s.cam := by unfold rset; split <;> simp
@[simp] theorem rset_fus (s : State) (l : LaneId) (a v : Nat) : (rset s l a v).fus = s.fus := by unfold rset; split <;> simp
@[simp] theorem rset_bus (s : State) (l : LaneId) (a v : Nat) : (rset s l a v).bus = s.bus := by unfold rset; split <;> simp
@[simp] theorem rset_eth (s : State) (l : LaneId) (a v : Nat) : (rset s l a v).eth = s.eth := by unfold rset; split <;> simp
@[simp] theorem rset_hst (s : State) (l : LaneId) (a v : Nat) : (rset s l a v).hst = s.hst := by unfold rset; split <;> simp
@[simp] theorem rset_hsi (s : State) (l : LaneId) (a v : Nat) : (rset s l a v).hsi = s.hsi := by unfold rset; split <;> simp
@[simp] theorem rset_fab (s : State) (l : LaneId) (a v : Nat) : (rset s l a v).fab = s.fab := by unfold rset; split <;> simp
@[simp] theorem rset_pnl (s : State) (l : LaneId) (a v : Nat) : (rset s l a v).pnl = s.pnl := by unfold rset; split <;> simp
@[simp] theorem rset_sec (s : State) (l : LaneId) (a v : Nat) : (rset s l a v).sec = s.sec := by unfold rset; split <;> simp
@[simp] theorem rset_cfg (s : State) (l : LaneId) (a v : Nat) : (rset s l a v).cfg = s.cfg := by unfold rset; split <;> simp
@[simp] theorem rset_pwr (s : State) (l : LaneId) (a v : Nat) : (rset s l a v).pwr = s.pwr := by unfold rset; split <;> simp
@[simp] theorem rset_out (s : State) (l : LaneId) (a v : Nat) : (rset s l a v).out = s.out := by unfold rset; split <;> simp
@[simp] theorem rsetf_pending (s : State) (l : LaneId) (a hi lo v : Nat) : (rsetf s l a hi lo v).pending = s.pending := by simp [rsetf]
@[simp] theorem rsetf_now (s : State) (l : LaneId) (a hi lo v : Nat) : (rsetf s l a hi lo v).now = s.now := by simp [rsetf]
@[simp] theorem rsetf_freeCtr (s : State) (l : LaneId) (a hi lo v : Nat) : (rsetf s l a hi lo v).freeCtr = s.freeCtr := by simp [rsetf]
@[simp] theorem rsetf_sup (s : State) (l : LaneId) (a hi lo v : Nat) : (rsetf s l a hi lo v).sup = s.sup := by simp [rsetf]
@[simp] theorem rsetf_seqs (s : State) (l : LaneId) (a hi lo v : Nat) : (rsetf s l a hi lo v).seqs = s.seqs := by simp [rsetf]
@[simp] theorem rsetf_hardflt (s : State) (l : LaneId) (a hi lo v : Nat) : (rsetf s l a hi lo v).hardflt = s.hardflt := by simp [rsetf]
@[simp] theorem rsetf_ringDrop (s : State) (l : LaneId) (a hi lo v : Nat) : (rsetf s l a hi lo v).ringDrop = s.ringDrop := by simp [rsetf]
@[simp] theorem rsetf_dq (s : State) (l : LaneId) (a hi lo v : Nat) : (rsetf s l a hi lo v).dq = s.dq := by simp [rsetf]
@[simp] theorem rsetf_dram (s : State) (l : LaneId) (a hi lo v : Nat) : (rsetf s l a hi lo v).dram = s.dram := by simp [rsetf]
@[simp] theorem rsetf_tim (s : State) (l : LaneId) (a hi lo v : Nat) : (rsetf s l a hi lo v).tim = s.tim := by simp [rsetf]
@[simp] theorem rsetf_ang (s : State) (l : LaneId) (a hi lo v : Nat) : (rsetf s l a hi lo v).ang = s.ang := by simp [rsetf]
@[simp] theorem rsetf_recd (s : State) (l : LaneId) (a hi lo v : Nat) : (rsetf s l a hi lo v).recd = s.recd := by simp [rsetf]
@[simp] theorem rsetf_pcl (s : State) (l : LaneId) (a hi lo v : Nat) : (rsetf s l a hi lo v).pcl = s.pcl := by simp [rsetf]
@[simp] theorem rsetf_cam (s : State) (l : LaneId) (a hi lo v : Nat) : (rsetf s l a hi lo v).cam = s.cam := by simp [rsetf]
@[simp] theorem rsetf_fus (s : State) (l : LaneId) (a hi lo v : Nat) : (rsetf s l a hi lo v).fus = s.fus := by simp [rsetf]
@[simp] theorem rsetf_bus (s : State) (l : LaneId) (a hi lo v : Nat) : (rsetf s l a hi lo v).bus = s.bus := by simp [rsetf]
@[simp] theorem rsetf_eth (s : State) (l : LaneId) (a hi lo v : Nat) : (rsetf s l a hi lo v).eth = s.eth := by simp [rsetf]
@[simp] theorem rsetf_hst (s : State) (l : LaneId) (a hi lo v : Nat) : (rsetf s l a hi lo v).hst = s.hst := by simp [rsetf]
@[simp] theorem rsetf_hsi (s : State) (l : LaneId) (a hi lo v : Nat) : (rsetf s l a hi lo v).hsi = s.hsi := by simp [rsetf]
@[simp] theorem rsetf_fab (s : State) (l : LaneId) (a hi lo v : Nat) : (rsetf s l a hi lo v).fab = s.fab := by simp [rsetf]
@[simp] theorem rsetf_pnl (s : State) (l : LaneId) (a hi lo v : Nat) : (rsetf s l a hi lo v).pnl = s.pnl := by simp [rsetf]
@[simp] theorem rsetf_sec (s : State) (l : LaneId) (a hi lo v : Nat) : (rsetf s l a hi lo v).sec = s.sec := by simp [rsetf]
@[simp] theorem rsetf_cfg (s : State) (l : LaneId) (a hi lo v : Nat) : (rsetf s l a hi lo v).cfg = s.cfg := by simp [rsetf]
@[simp] theorem rsetf_pwr (s : State) (l : LaneId) (a hi lo v : Nat) : (rsetf s l a hi lo v).pwr = s.pwr := by simp [rsetf]
@[simp] theorem rsetf_out (s : State) (l : LaneId) (a hi lo v : Nat) : (rsetf s l a hi lo v).out = s.out := by simp [rsetf]
@[simp] theorem rsetb_pending (s : State) (l : LaneId) (a i : Nat) (v : Bool) : (rsetb s l a i v).pending = s.pending := by simp [rsetb, rsetf]
@[simp] theorem rsetb_now (s : State) (l : LaneId) (a i : Nat) (v : Bool) : (rsetb s l a i v).now = s.now := by simp [rsetb, rsetf]
@[simp] theorem rsetb_freeCtr (s : State) (l : LaneId) (a i : Nat) (v : Bool) : (rsetb s l a i v).freeCtr = s.freeCtr := by simp [rsetb, rsetf]
@[simp] theorem rsetb_sup (s : State) (l : LaneId) (a i : Nat) (v : Bool) : (rsetb s l a i v).sup = s.sup := by simp [rsetb, rsetf]
@[simp] theorem rsetb_seqs (s : State) (l : LaneId) (a i : Nat) (v : Bool) : (rsetb s l a i v).seqs = s.seqs := by simp [rsetb, rsetf]
@[simp] theorem rsetb_hardflt (s : State) (l : LaneId) (a i : Nat) (v : Bool) : (rsetb s l a i v).hardflt = s.hardflt := by simp [rsetb, rsetf]
@[simp] theorem rsetb_ringDrop (s : State) (l : LaneId) (a i : Nat) (v : Bool) : (rsetb s l a i v).ringDrop = s.ringDrop := by simp [rsetb, rsetf]
@[simp] theorem rsetb_dq (s : State) (l : LaneId) (a i : Nat) (v : Bool) : (rsetb s l a i v).dq = s.dq := by simp [rsetb, rsetf]
@[simp] theorem rsetb_dram (s : State) (l : LaneId) (a i : Nat) (v : Bool) : (rsetb s l a i v).dram = s.dram := by simp [rsetb, rsetf]
@[simp] theorem rsetb_tim (s : State) (l : LaneId) (a i : Nat) (v : Bool) : (rsetb s l a i v).tim = s.tim := by simp [rsetb, rsetf]
@[simp] theorem rsetb_ang (s : State) (l : LaneId) (a i : Nat) (v : Bool) : (rsetb s l a i v).ang = s.ang := by simp [rsetb, rsetf]
@[simp] theorem rsetb_recd (s : State) (l : LaneId) (a i : Nat) (v : Bool) : (rsetb s l a i v).recd = s.recd := by simp [rsetb, rsetf]
@[simp] theorem rsetb_pcl (s : State) (l : LaneId) (a i : Nat) (v : Bool) : (rsetb s l a i v).pcl = s.pcl := by simp [rsetb, rsetf]
@[simp] theorem rsetb_cam (s : State) (l : LaneId) (a i : Nat) (v : Bool) : (rsetb s l a i v).cam = s.cam := by simp [rsetb, rsetf]
@[simp] theorem rsetb_fus (s : State) (l : LaneId) (a i : Nat) (v : Bool) : (rsetb s l a i v).fus = s.fus := by simp [rsetb, rsetf]
@[simp] theorem rsetb_bus (s : State) (l : LaneId) (a i : Nat) (v : Bool) : (rsetb s l a i v).bus = s.bus := by simp [rsetb, rsetf]
@[simp] theorem rsetb_eth (s : State) (l : LaneId) (a i : Nat) (v : Bool) : (rsetb s l a i v).eth = s.eth := by simp [rsetb, rsetf]
@[simp] theorem rsetb_hst (s : State) (l : LaneId) (a i : Nat) (v : Bool) : (rsetb s l a i v).hst = s.hst := by simp [rsetb, rsetf]
@[simp] theorem rsetb_hsi (s : State) (l : LaneId) (a i : Nat) (v : Bool) : (rsetb s l a i v).hsi = s.hsi := by simp [rsetb, rsetf]
@[simp] theorem rsetb_fab (s : State) (l : LaneId) (a i : Nat) (v : Bool) : (rsetb s l a i v).fab = s.fab := by simp [rsetb, rsetf]
@[simp] theorem rsetb_pnl (s : State) (l : LaneId) (a i : Nat) (v : Bool) : (rsetb s l a i v).pnl = s.pnl := by simp [rsetb, rsetf]
@[simp] theorem rsetb_sec (s : State) (l : LaneId) (a i : Nat) (v : Bool) : (rsetb s l a i v).sec = s.sec := by simp [rsetb, rsetf]
@[simp] theorem rsetb_cfg (s : State) (l : LaneId) (a i : Nat) (v : Bool) : (rsetb s l a i v).cfg = s.cfg := by simp [rsetb, rsetf]
@[simp] theorem rsetb_pwr (s : State) (l : LaneId) (a i : Nat) (v : Bool) : (rsetb s l a i v).pwr = s.pwr := by simp [rsetb, rsetf]
@[simp] theorem rsetb_out (s : State) (l : LaneId) (a i : Nat) (v : Bool) : (rsetb s l a i v).out = s.out := by simp [rsetb, rsetf]
@[simp] theorem rcount_pending (s : State) (l : LaneId) (a hi lo n : Nat) : (rcount s l a hi lo n).pending = s.pending := by simp [rcount, rsetf]
@[simp] theorem rcount_now (s : State) (l : LaneId) (a hi lo n : Nat) : (rcount s l a hi lo n).now = s.now := by simp [rcount, rsetf]
@[simp] theorem rcount_freeCtr (s : State) (l : LaneId) (a hi lo n : Nat) : (rcount s l a hi lo n).freeCtr = s.freeCtr := by simp [rcount, rsetf]
@[simp] theorem rcount_sup (s : State) (l : LaneId) (a hi lo n : Nat) : (rcount s l a hi lo n).sup = s.sup := by simp [rcount, rsetf]
@[simp] theorem rcount_seqs (s : State) (l : LaneId) (a hi lo n : Nat) : (rcount s l a hi lo n).seqs = s.seqs := by simp [rcount, rsetf]
@[simp] theorem rcount_hardflt (s : State) (l : LaneId) (a hi lo n : Nat) : (rcount s l a hi lo n).hardflt = s.hardflt := by simp [rcount, rsetf]
@[simp] theorem rcount_ringDrop (s : State) (l : LaneId) (a hi lo n : Nat) : (rcount s l a hi lo n).ringDrop = s.ringDrop := by simp [rcount, rsetf]
@[simp] theorem rcount_dq (s : State) (l : LaneId) (a hi lo n : Nat) : (rcount s l a hi lo n).dq = s.dq := by simp [rcount, rsetf]
@[simp] theorem rcount_dram (s : State) (l : LaneId) (a hi lo n : Nat) : (rcount s l a hi lo n).dram = s.dram := by simp [rcount, rsetf]
@[simp] theorem rcount_tim (s : State) (l : LaneId) (a hi lo n : Nat) : (rcount s l a hi lo n).tim = s.tim := by simp [rcount, rsetf]
@[simp] theorem rcount_ang (s : State) (l : LaneId) (a hi lo n : Nat) : (rcount s l a hi lo n).ang = s.ang := by simp [rcount, rsetf]
@[simp] theorem rcount_recd (s : State) (l : LaneId) (a hi lo n : Nat) : (rcount s l a hi lo n).recd = s.recd := by simp [rcount, rsetf]
@[simp] theorem rcount_pcl (s : State) (l : LaneId) (a hi lo n : Nat) : (rcount s l a hi lo n).pcl = s.pcl := by simp [rcount, rsetf]
@[simp] theorem rcount_cam (s : State) (l : LaneId) (a hi lo n : Nat) : (rcount s l a hi lo n).cam = s.cam := by simp [rcount, rsetf]
@[simp] theorem rcount_fus (s : State) (l : LaneId) (a hi lo n : Nat) : (rcount s l a hi lo n).fus = s.fus := by simp [rcount, rsetf]
@[simp] theorem rcount_bus (s : State) (l : LaneId) (a hi lo n : Nat) : (rcount s l a hi lo n).bus = s.bus := by simp [rcount, rsetf]
@[simp] theorem rcount_eth (s : State) (l : LaneId) (a hi lo n : Nat) : (rcount s l a hi lo n).eth = s.eth := by simp [rcount, rsetf]
@[simp] theorem rcount_hst (s : State) (l : LaneId) (a hi lo n : Nat) : (rcount s l a hi lo n).hst = s.hst := by simp [rcount, rsetf]
@[simp] theorem rcount_hsi (s : State) (l : LaneId) (a hi lo n : Nat) : (rcount s l a hi lo n).hsi = s.hsi := by simp [rcount, rsetf]
@[simp] theorem rcount_fab (s : State) (l : LaneId) (a hi lo n : Nat) : (rcount s l a hi lo n).fab = s.fab := by simp [rcount, rsetf]
@[simp] theorem rcount_pnl (s : State) (l : LaneId) (a hi lo n : Nat) : (rcount s l a hi lo n).pnl = s.pnl := by simp [rcount, rsetf]
@[simp] theorem rcount_sec (s : State) (l : LaneId) (a hi lo n : Nat) : (rcount s l a hi lo n).sec = s.sec := by simp [rcount, rsetf]
@[simp] theorem rcount_cfg (s : State) (l : LaneId) (a hi lo n : Nat) : (rcount s l a hi lo n).cfg = s.cfg := by simp [rcount, rsetf]
@[simp] theorem rcount_pwr (s : State) (l : LaneId) (a hi lo n : Nat) : (rcount s l a hi lo n).pwr = s.pwr := by simp [rcount, rsetf]
@[simp] theorem rcount_out (s : State) (l : LaneId) (a hi lo n : Nat) : (rcount s l a hi lo n).out = s.out := by simp [rcount, rsetf]
@[simp] theorem rwrap_pending (s : State) (l : LaneId) (a n : Nat) : (rwrap s l a n).pending = s.pending := by simp [rwrap]
@[simp] theorem rwrap_now (s : State) (l : LaneId) (a n : Nat) : (rwrap s l a n).now = s.now := by simp [rwrap]
@[simp] theorem rwrap_freeCtr (s : State) (l : LaneId) (a n : Nat) : (rwrap s l a n).freeCtr = s.freeCtr := by simp [rwrap]
@[simp] theorem rwrap_sup (s : State) (l : LaneId) (a n : Nat) : (rwrap s l a n).sup = s.sup := by simp [rwrap]
@[simp] theorem rwrap_seqs (s : State) (l : LaneId) (a n : Nat) : (rwrap s l a n).seqs = s.seqs := by simp [rwrap]
@[simp] theorem rwrap_hardflt (s : State) (l : LaneId) (a n : Nat) : (rwrap s l a n).hardflt = s.hardflt := by simp [rwrap]
@[simp] theorem rwrap_ringDrop (s : State) (l : LaneId) (a n : Nat) : (rwrap s l a n).ringDrop = s.ringDrop := by simp [rwrap]
@[simp] theorem rwrap_dq (s : State) (l : LaneId) (a n : Nat) : (rwrap s l a n).dq = s.dq := by simp [rwrap]
@[simp] theorem rwrap_dram (s : State) (l : LaneId) (a n : Nat) : (rwrap s l a n).dram = s.dram := by simp [rwrap]
@[simp] theorem rwrap_tim (s : State) (l : LaneId) (a n : Nat) : (rwrap s l a n).tim = s.tim := by simp [rwrap]
@[simp] theorem rwrap_ang (s : State) (l : LaneId) (a n : Nat) : (rwrap s l a n).ang = s.ang := by simp [rwrap]
@[simp] theorem rwrap_recd (s : State) (l : LaneId) (a n : Nat) : (rwrap s l a n).recd = s.recd := by simp [rwrap]
@[simp] theorem rwrap_pcl (s : State) (l : LaneId) (a n : Nat) : (rwrap s l a n).pcl = s.pcl := by simp [rwrap]
@[simp] theorem rwrap_cam (s : State) (l : LaneId) (a n : Nat) : (rwrap s l a n).cam = s.cam := by simp [rwrap]
@[simp] theorem rwrap_fus (s : State) (l : LaneId) (a n : Nat) : (rwrap s l a n).fus = s.fus := by simp [rwrap]
@[simp] theorem rwrap_bus (s : State) (l : LaneId) (a n : Nat) : (rwrap s l a n).bus = s.bus := by simp [rwrap]
@[simp] theorem rwrap_eth (s : State) (l : LaneId) (a n : Nat) : (rwrap s l a n).eth = s.eth := by simp [rwrap]
@[simp] theorem rwrap_hst (s : State) (l : LaneId) (a n : Nat) : (rwrap s l a n).hst = s.hst := by simp [rwrap]
@[simp] theorem rwrap_hsi (s : State) (l : LaneId) (a n : Nat) : (rwrap s l a n).hsi = s.hsi := by simp [rwrap]
@[simp] theorem rwrap_fab (s : State) (l : LaneId) (a n : Nat) : (rwrap s l a n).fab = s.fab := by simp [rwrap]
@[simp] theorem rwrap_pnl (s : State) (l : LaneId) (a n : Nat) : (rwrap s l a n).pnl = s.pnl := by simp [rwrap]
@[simp] theorem rwrap_sec (s : State) (l : LaneId) (a n : Nat) : (rwrap s l a n).sec = s.sec := by simp [rwrap]
@[simp] theorem rwrap_cfg (s : State) (l : LaneId) (a n : Nat) : (rwrap s l a n).cfg = s.cfg := by simp [rwrap]
@[simp] theorem rwrap_pwr (s : State) (l : LaneId) (a n : Nat) : (rwrap s l a n).pwr = s.pwr := by simp [rwrap]
@[simp] theorem rwrap_out (s : State) (l : LaneId) (a n : Nat) : (rwrap s l a n).out = s.out := by simp [rwrap]
@[simp] theorem sput_pending (s : State) (b : Block) (o v : Nat) : (sput s b o v).pending = s.pending := by simp [sput]
@[simp] theorem sput_now (s : State) (b : Block) (o v : Nat) : (sput s b o v).now = s.now := by simp [sput]
@[simp] theorem sput_freeCtr (s : State) (b : Block) (o v : Nat) : (sput s b o v).freeCtr = s.freeCtr := by simp [sput]
@[simp] theorem sput_sup (s : State) (b : Block) (o v : Nat) : (sput s b o v).sup = s.sup := by simp [sput]
@[simp] theorem sput_seqs (s : State) (b : Block) (o v : Nat) : (sput s b o v).seqs = s.seqs := by simp [sput]
@[simp] theorem sput_hardflt (s : State) (b : Block) (o v : Nat) : (sput s b o v).hardflt = s.hardflt := by simp [sput]
@[simp] theorem sput_ringDrop (s : State) (b : Block) (o v : Nat) : (sput s b o v).ringDrop = s.ringDrop := by simp [sput]
@[simp] theorem sput_dq (s : State) (b : Block) (o v : Nat) : (sput s b o v).dq = s.dq := by simp [sput]
@[simp] theorem sput_dram (s : State) (b : Block) (o v : Nat) : (sput s b o v).dram = s.dram := by simp [sput]
@[simp] theorem sput_tim (s : State) (b : Block) (o v : Nat) : (sput s b o v).tim = s.tim := by simp [sput]
@[simp] theorem sput_ang (s : State) (b : Block) (o v : Nat) : (sput s b o v).ang = s.ang := by simp [sput]
@[simp] theorem sput_recd (s : State) (b : Block) (o v : Nat) : (sput s b o v).recd = s.recd := by simp [sput]
@[simp] theorem sput_pcl (s : State) (b : Block) (o v : Nat) : (sput s b o v).pcl = s.pcl := by simp [sput]
@[simp] theorem sput_cam (s : State) (b : Block) (o v : Nat) : (sput s b o v).cam = s.cam := by simp [sput]
@[simp] theorem sput_fus (s : State) (b : Block) (o v : Nat) : (sput s b o v).fus = s.fus := by simp [sput]
@[simp] theorem sput_bus (s : State) (b : Block) (o v : Nat) : (sput s b o v).bus = s.bus := by simp [sput]
@[simp] theorem sput_eth (s : State) (b : Block) (o v : Nat) : (sput s b o v).eth = s.eth := by simp [sput]
@[simp] theorem sput_hst (s : State) (b : Block) (o v : Nat) : (sput s b o v).hst = s.hst := by simp [sput]
@[simp] theorem sput_hsi (s : State) (b : Block) (o v : Nat) : (sput s b o v).hsi = s.hsi := by simp [sput]
@[simp] theorem sput_fab (s : State) (b : Block) (o v : Nat) : (sput s b o v).fab = s.fab := by simp [sput]
@[simp] theorem sput_pnl (s : State) (b : Block) (o v : Nat) : (sput s b o v).pnl = s.pnl := by simp [sput]
@[simp] theorem sput_sec (s : State) (b : Block) (o v : Nat) : (sput s b o v).sec = s.sec := by simp [sput]
@[simp] theorem sput_cfg (s : State) (b : Block) (o v : Nat) : (sput s b o v).cfg = s.cfg := by simp [sput]
@[simp] theorem sput_pwr (s : State) (b : Block) (o v : Nat) : (sput s b o v).pwr = s.pwr := by simp [sput]
@[simp] theorem sput_out (s : State) (b : Block) (o v : Nat) : (sput s b o v).out = s.out := by simp [sput]
@[simp] theorem sputf_pending (s : State) (b : Block) (o hi lo v : Nat) : (sputf s b o hi lo v).pending = s.pending := by simp [sputf, rsetf]
@[simp] theorem sputf_now (s : State) (b : Block) (o hi lo v : Nat) : (sputf s b o hi lo v).now = s.now := by simp [sputf, rsetf]
@[simp] theorem sputf_freeCtr (s : State) (b : Block) (o hi lo v : Nat) : (sputf s b o hi lo v).freeCtr = s.freeCtr := by simp [sputf, rsetf]
@[simp] theorem sputf_sup (s : State) (b : Block) (o hi lo v : Nat) : (sputf s b o hi lo v).sup = s.sup := by simp [sputf, rsetf]
@[simp] theorem sputf_seqs (s : State) (b : Block) (o hi lo v : Nat) : (sputf s b o hi lo v).seqs = s.seqs := by simp [sputf, rsetf]
@[simp] theorem sputf_hardflt (s : State) (b : Block) (o hi lo v : Nat) : (sputf s b o hi lo v).hardflt = s.hardflt := by simp [sputf, rsetf]
@[simp] theorem sputf_ringDrop (s : State) (b : Block) (o hi lo v : Nat) : (sputf s b o hi lo v).ringDrop = s.ringDrop := by simp [sputf, rsetf]
@[simp] theorem sputf_dq (s : State) (b : Block) (o hi lo v : Nat) : (sputf s b o hi lo v).dq = s.dq := by simp [sputf, rsetf]
@[simp] theorem sputf_dram (s : State) (b : Block) (o hi lo v : Nat) : (sputf s b o hi lo v).dram = s.dram := by simp [sputf, rsetf]
@[simp] theorem sputf_tim (s : State) (b : Block) (o hi lo v : Nat) : (sputf s b o hi lo v).tim = s.tim := by simp [sputf, rsetf]
@[simp] theorem sputf_ang (s : State) (b : Block) (o hi lo v : Nat) : (sputf s b o hi lo v).ang = s.ang := by simp [sputf, rsetf]
@[simp] theorem sputf_recd (s : State) (b : Block) (o hi lo v : Nat) : (sputf s b o hi lo v).recd = s.recd := by simp [sputf, rsetf]
@[simp] theorem sputf_pcl (s : State) (b : Block) (o hi lo v : Nat) : (sputf s b o hi lo v).pcl = s.pcl := by simp [sputf, rsetf]
@[simp] theorem sputf_cam (s : State) (b : Block) (o hi lo v : Nat) : (sputf s b o hi lo v).cam = s.cam := by simp [sputf, rsetf]
@[simp] theorem sputf_fus (s : State) (b : Block) (o hi lo v : Nat) : (sputf s b o hi lo v).fus = s.fus := by simp [sputf, rsetf]
@[simp] theorem sputf_bus (s : State) (b : Block) (o hi lo v : Nat) : (sputf s b o hi lo v).bus = s.bus := by simp [sputf, rsetf]
@[simp] theorem sputf_eth (s : State) (b : Block) (o hi lo v : Nat) : (sputf s b o hi lo v).eth = s.eth := by simp [sputf, rsetf]
@[simp] theorem sputf_hst (s : State) (b : Block) (o hi lo v : Nat) : (sputf s b o hi lo v).hst = s.hst := by simp [sputf, rsetf]
@[simp] theorem sputf_hsi (s : State) (b : Block) (o hi lo v : Nat) : (sputf s b o hi lo v).hsi = s.hsi := by simp [sputf, rsetf]
@[simp] theorem sputf_fab (s : State) (b : Block) (o hi lo v : Nat) : (sputf s b o hi lo v).fab = s.fab := by simp [sputf, rsetf]
@[simp] theorem sputf_pnl (s : State) (b : Block) (o hi lo v : Nat) : (sputf s b o hi lo v).pnl = s.pnl := by simp [sputf, rsetf]
@[simp] theorem sputf_sec (s : State) (b : Block) (o hi lo v : Nat) : (sputf s b o hi lo v).sec = s.sec := by simp [sputf, rsetf]
@[simp] theorem sputf_cfg (s : State) (b : Block) (o hi lo v : Nat) : (sputf s b o hi lo v).cfg = s.cfg := by simp [sputf, rsetf]
@[simp] theorem sputf_pwr (s : State) (b : Block) (o hi lo v : Nat) : (sputf s b o hi lo v).pwr = s.pwr := by simp [sputf, rsetf]
@[simp] theorem sputf_out (s : State) (b : Block) (o hi lo v : Nat) : (sputf s b o hi lo v).out = s.out := by simp [sputf, rsetf]
@[simp] theorem sputb_pending (s : State) (b : Block) (o i : Nat) (v : Bool) : (sputb s b o i v).pending = s.pending := by simp [sputb, rsetb, rsetf]
@[simp] theorem sputb_now (s : State) (b : Block) (o i : Nat) (v : Bool) : (sputb s b o i v).now = s.now := by simp [sputb, rsetb, rsetf]
@[simp] theorem sputb_freeCtr (s : State) (b : Block) (o i : Nat) (v : Bool) : (sputb s b o i v).freeCtr = s.freeCtr := by simp [sputb, rsetb, rsetf]
@[simp] theorem sputb_sup (s : State) (b : Block) (o i : Nat) (v : Bool) : (sputb s b o i v).sup = s.sup := by simp [sputb, rsetb, rsetf]
@[simp] theorem sputb_seqs (s : State) (b : Block) (o i : Nat) (v : Bool) : (sputb s b o i v).seqs = s.seqs := by simp [sputb, rsetb, rsetf]
@[simp] theorem sputb_hardflt (s : State) (b : Block) (o i : Nat) (v : Bool) : (sputb s b o i v).hardflt = s.hardflt := by simp [sputb, rsetb, rsetf]
@[simp] theorem sputb_ringDrop (s : State) (b : Block) (o i : Nat) (v : Bool) : (sputb s b o i v).ringDrop = s.ringDrop := by simp [sputb, rsetb, rsetf]
@[simp] theorem sputb_dq (s : State) (b : Block) (o i : Nat) (v : Bool) : (sputb s b o i v).dq = s.dq := by simp [sputb, rsetb, rsetf]
@[simp] theorem sputb_dram (s : State) (b : Block) (o i : Nat) (v : Bool) : (sputb s b o i v).dram = s.dram := by simp [sputb, rsetb, rsetf]
@[simp] theorem sputb_tim (s : State) (b : Block) (o i : Nat) (v : Bool) : (sputb s b o i v).tim = s.tim := by simp [sputb, rsetb, rsetf]
@[simp] theorem sputb_ang (s : State) (b : Block) (o i : Nat) (v : Bool) : (sputb s b o i v).ang = s.ang := by simp [sputb, rsetb, rsetf]
@[simp] theorem sputb_recd (s : State) (b : Block) (o i : Nat) (v : Bool) : (sputb s b o i v).recd = s.recd := by simp [sputb, rsetb, rsetf]
@[simp] theorem sputb_pcl (s : State) (b : Block) (o i : Nat) (v : Bool) : (sputb s b o i v).pcl = s.pcl := by simp [sputb, rsetb, rsetf]
@[simp] theorem sputb_cam (s : State) (b : Block) (o i : Nat) (v : Bool) : (sputb s b o i v).cam = s.cam := by simp [sputb, rsetb, rsetf]
@[simp] theorem sputb_fus (s : State) (b : Block) (o i : Nat) (v : Bool) : (sputb s b o i v).fus = s.fus := by simp [sputb, rsetb, rsetf]
@[simp] theorem sputb_bus (s : State) (b : Block) (o i : Nat) (v : Bool) : (sputb s b o i v).bus = s.bus := by simp [sputb, rsetb, rsetf]
@[simp] theorem sputb_eth (s : State) (b : Block) (o i : Nat) (v : Bool) : (sputb s b o i v).eth = s.eth := by simp [sputb, rsetb, rsetf]
@[simp] theorem sputb_hst (s : State) (b : Block) (o i : Nat) (v : Bool) : (sputb s b o i v).hst = s.hst := by simp [sputb, rsetb, rsetf]
@[simp] theorem sputb_hsi (s : State) (b : Block) (o i : Nat) (v : Bool) : (sputb s b o i v).hsi = s.hsi := by simp [sputb, rsetb, rsetf]
@[simp] theorem sputb_fab (s : State) (b : Block) (o i : Nat) (v : Bool) : (sputb s b o i v).fab = s.fab := by simp [sputb, rsetb, rsetf]
@[simp] theorem sputb_pnl (s : State) (b : Block) (o i : Nat) (v : Bool) : (sputb s b o i v).pnl = s.pnl := by simp [sputb, rsetb, rsetf]
@[simp] theorem sputb_sec (s : State) (b : Block) (o i : Nat) (v : Bool) : (sputb s b o i v).sec = s.sec := by simp [sputb, rsetb, rsetf]
@[simp] theorem sputb_cfg (s : State) (b : Block) (o i : Nat) (v : Bool) : (sputb s b o i v).cfg = s.cfg := by simp [sputb, rsetb, rsetf]
@[simp] theorem sputb_pwr (s : State) (b : Block) (o i : Nat) (v : Bool) : (sputb s b o i v).pwr = s.pwr := by simp [sputb, rsetb, rsetf]
@[simp] theorem sputb_out (s : State) (b : Block) (o i : Nat) (v : Bool) : (sputb s b o i v).out = s.out := by simp [sputb, rsetb, rsetf]
@[simp] theorem scount_pending (s : State) (b : Block) (o n : Nat) : (scount s b o n).pending = s.pending := by simp [scount, rcount, rsetf]
@[simp] theorem scount_now (s : State) (b : Block) (o n : Nat) : (scount s b o n).now = s.now := by simp [scount, rcount, rsetf]
@[simp] theorem scount_freeCtr (s : State) (b : Block) (o n : Nat) : (scount s b o n).freeCtr = s.freeCtr := by simp [scount, rcount, rsetf]
@[simp] theorem scount_sup (s : State) (b : Block) (o n : Nat) : (scount s b o n).sup = s.sup := by simp [scount, rcount, rsetf]
@[simp] theorem scount_seqs (s : State) (b : Block) (o n : Nat) : (scount s b o n).seqs = s.seqs := by simp [scount, rcount, rsetf]
@[simp] theorem scount_hardflt (s : State) (b : Block) (o n : Nat) : (scount s b o n).hardflt = s.hardflt := by simp [scount, rcount, rsetf]
@[simp] theorem scount_ringDrop (s : State) (b : Block) (o n : Nat) : (scount s b o n).ringDrop = s.ringDrop := by simp [scount, rcount, rsetf]
@[simp] theorem scount_dq (s : State) (b : Block) (o n : Nat) : (scount s b o n).dq = s.dq := by simp [scount, rcount, rsetf]
@[simp] theorem scount_dram (s : State) (b : Block) (o n : Nat) : (scount s b o n).dram = s.dram := by simp [scount, rcount, rsetf]
@[simp] theorem scount_tim (s : State) (b : Block) (o n : Nat) : (scount s b o n).tim = s.tim := by simp [scount, rcount, rsetf]
@[simp] theorem scount_ang (s : State) (b : Block) (o n : Nat) : (scount s b o n).ang = s.ang := by simp [scount, rcount, rsetf]
@[simp] theorem scount_recd (s : State) (b : Block) (o n : Nat) : (scount s b o n).recd = s.recd := by simp [scount, rcount, rsetf]
@[simp] theorem scount_pcl (s : State) (b : Block) (o n : Nat) : (scount s b o n).pcl = s.pcl := by simp [scount, rcount, rsetf]
@[simp] theorem scount_cam (s : State) (b : Block) (o n : Nat) : (scount s b o n).cam = s.cam := by simp [scount, rcount, rsetf]
@[simp] theorem scount_fus (s : State) (b : Block) (o n : Nat) : (scount s b o n).fus = s.fus := by simp [scount, rcount, rsetf]
@[simp] theorem scount_bus (s : State) (b : Block) (o n : Nat) : (scount s b o n).bus = s.bus := by simp [scount, rcount, rsetf]
@[simp] theorem scount_eth (s : State) (b : Block) (o n : Nat) : (scount s b o n).eth = s.eth := by simp [scount, rcount, rsetf]
@[simp] theorem scount_hst (s : State) (b : Block) (o n : Nat) : (scount s b o n).hst = s.hst := by simp [scount, rcount, rsetf]
@[simp] theorem scount_hsi (s : State) (b : Block) (o n : Nat) : (scount s b o n).hsi = s.hsi := by simp [scount, rcount, rsetf]
@[simp] theorem scount_fab (s : State) (b : Block) (o n : Nat) : (scount s b o n).fab = s.fab := by simp [scount, rcount, rsetf]
@[simp] theorem scount_pnl (s : State) (b : Block) (o n : Nat) : (scount s b o n).pnl = s.pnl := by simp [scount, rcount, rsetf]
@[simp] theorem scount_sec (s : State) (b : Block) (o n : Nat) : (scount s b o n).sec = s.sec := by simp [scount, rcount, rsetf]
@[simp] theorem scount_cfg (s : State) (b : Block) (o n : Nat) : (scount s b o n).cfg = s.cfg := by simp [scount, rcount, rsetf]
@[simp] theorem scount_pwr (s : State) (b : Block) (o n : Nat) : (scount s b o n).pwr = s.pwr := by simp [scount, rcount, rsetf]
@[simp] theorem scount_out (s : State) (b : Block) (o n : Nat) : (scount s b o n).out = s.out := by simp [scount, rcount, rsetf]
@[simp] theorem reject_pending (s : State) (l : LaneId) (b : Block) (o r : Nat) : (reject s l b o r).pending = s.pending := by simp [reject]
@[simp] theorem reject_now (s : State) (l : LaneId) (b : Block) (o r : Nat) : (reject s l b o r).now = s.now := by simp [reject]
@[simp] theorem reject_freeCtr (s : State) (l : LaneId) (b : Block) (o r : Nat) : (reject s l b o r).freeCtr = s.freeCtr := by simp [reject]
@[simp] theorem reject_sup (s : State) (l : LaneId) (b : Block) (o r : Nat) : (reject s l b o r).sup = s.sup := by simp [reject]
@[simp] theorem reject_seqs (s : State) (l : LaneId) (b : Block) (o r : Nat) : (reject s l b o r).seqs = s.seqs := by simp [reject]
@[simp] theorem reject_hardflt (s : State) (l : LaneId) (b : Block) (o r : Nat) : (reject s l b o r).hardflt = s.hardflt := by simp [reject]
@[simp] theorem reject_ringDrop (s : State) (l : LaneId) (b : Block) (o r : Nat) : (reject s l b o r).ringDrop = s.ringDrop := by simp [reject]
@[simp] theorem reject_dq (s : State) (l : LaneId) (b : Block) (o r : Nat) : (reject s l b o r).dq = s.dq := by simp [reject]
@[simp] theorem reject_dram (s : State) (l : LaneId) (b : Block) (o r : Nat) : (reject s l b o r).dram = s.dram := by simp [reject]
@[simp] theorem reject_tim (s : State) (l : LaneId) (b : Block) (o r : Nat) : (reject s l b o r).tim = s.tim := by simp [reject]
@[simp] theorem reject_ang (s : State) (l : LaneId) (b : Block) (o r : Nat) : (reject s l b o r).ang = s.ang := by simp [reject]
@[simp] theorem reject_recd (s : State) (l : LaneId) (b : Block) (o r : Nat) : (reject s l b o r).recd = s.recd := by simp [reject]
@[simp] theorem reject_pcl (s : State) (l : LaneId) (b : Block) (o r : Nat) : (reject s l b o r).pcl = s.pcl := by simp [reject]
@[simp] theorem reject_cam (s : State) (l : LaneId) (b : Block) (o r : Nat) : (reject s l b o r).cam = s.cam := by simp [reject]
@[simp] theorem reject_fus (s : State) (l : LaneId) (b : Block) (o r : Nat) : (reject s l b o r).fus = s.fus := by simp [reject]
@[simp] theorem reject_bus (s : State) (l : LaneId) (b : Block) (o r : Nat) : (reject s l b o r).bus = s.bus := by simp [reject]
@[simp] theorem reject_eth (s : State) (l : LaneId) (b : Block) (o r : Nat) : (reject s l b o r).eth = s.eth := by simp [reject]
@[simp] theorem reject_hst (s : State) (l : LaneId) (b : Block) (o r : Nat) : (reject s l b o r).hst = s.hst := by simp [reject]
@[simp] theorem reject_hsi (s : State) (l : LaneId) (b : Block) (o r : Nat) : (reject s l b o r).hsi = s.hsi := by simp [reject]
@[simp] theorem reject_fab (s : State) (l : LaneId) (b : Block) (o r : Nat) : (reject s l b o r).fab = s.fab := by simp [reject]
@[simp] theorem reject_pnl (s : State) (l : LaneId) (b : Block) (o r : Nat) : (reject s l b o r).pnl = s.pnl := by simp [reject]
@[simp] theorem reject_sec (s : State) (l : LaneId) (b : Block) (o r : Nat) : (reject s l b o r).sec = s.sec := by simp [reject]
@[simp] theorem reject_cfg (s : State) (l : LaneId) (b : Block) (o r : Nat) : (reject s l b o r).cfg = s.cfg := by simp [reject]
@[simp] theorem reject_pwr (s : State) (l : LaneId) (b : Block) (o r : Nat) : (reject s l b o r).pwr = s.pwr := by simp [reject]
@[simp] theorem reject_out (s : State) (l : LaneId) (b : Block) (o r : Nat) : (reject s l b o r).out = s.out := by simp [reject]

@[simp] theorem u32_toNat (v : Nat) : (u32 v).toNat = v % 2 ^ 32 := by simp [u32]

/-- A register reads as it was stored. -/
@[simp] theorem rget_rset_same (s : State) (l : LaneId) (a v : Nat) : rget (rset s l a v) l a = v % 2 ^ 32 := by
  unfold rget rset
  by_cases ha : laneHeld a = true <;> simp [ha]

/-- Storing a register leaves every other one. -/
theorem rget_rset_ne (s : State) (l m : LaneId) {a b : Nat} (h : b ≠ a) (v : Nat) : rget (rset s l a v) m b = rget s m b := by
  unfold rget rset
  by_cases ha : laneHeld a = true <;> by_cases hb : laneHeld b = true <;> cases l <;> cases m <;>
    simp [ha, hb, tfind_tset_ne _ h, State.lane, State.modLane]

/-- Storing a register of one lane leaves the other lane's. -/
theorem rget_rset_other (s : State) {l m : LaneId} {a : Nat} (ha : laneHeld a = true) (h : m ≠ l) (v b : Nat) :
    rget (rset s l a v) m b = rget s m b := by
  unfold rget rset
  simp only [ha, if_true]
  have : (s.modLane l fun x => { x with regs := tset x.regs a (u32 v) }).lane m = s.lane m := by
    rw [State.modLane_lane, if_neg h]
  simp [this]

/-- The rejection of a write is the writing lane's CMDERR of the block (R14-R16). -/
theorem rget_reject_same (s : State) (l : LaneId) (b : Block) (o r : Nat) :
    rget (reject s l b o r) l (b.base + 0x00C) =
      (2 ^ 31 + min (nfld (rget s l (b.base + 0x00C)) 23 16 + 1) 255 * 2 ^ 16 + o / 4 % 256 * 2 ^ 8 + r % 256) % 2 ^ 32 := by
  simp [reject]

theorem rget_reject_ne (s : State) (l m : LaneId) (b : Block) (o r : Nat) {a : Nat} (h : a ≠ b.base + 0x00C) :
    rget (reject s l b o r) m a = rget s m a := rget_rset_ne s l m h _

/-! ### Postings -/

@[simp] theorem postCore_pending (s : State) (l : LaneId) (c : Nat) (e : EvEntry) : (postCore s l c e).pending = s.pending := by simp [postCore]
@[simp] theorem postCore_now (s : State) (l : LaneId) (c : Nat) (e : EvEntry) : (postCore s l c e).now = s.now := by simp [postCore]
@[simp] theorem postCore_freeCtr (s : State) (l : LaneId) (c : Nat) (e : EvEntry) : (postCore s l c e).freeCtr = s.freeCtr := by simp [postCore]
@[simp] theorem postCore_sup (s : State) (l : LaneId) (c : Nat) (e : EvEntry) : (postCore s l c e).sup = s.sup := by simp [postCore]
@[simp] theorem postCore_seqs (s : State) (l : LaneId) (c : Nat) (e : EvEntry) : (postCore s l c e).seqs = s.seqs := by simp [postCore]
@[simp] theorem postCore_hardflt (s : State) (l : LaneId) (c : Nat) (e : EvEntry) : (postCore s l c e).hardflt = s.hardflt := by simp [postCore]
@[simp] theorem postCore_ringDrop (s : State) (l : LaneId) (c : Nat) (e : EvEntry) : (postCore s l c e).ringDrop = s.ringDrop := by simp [postCore]
@[simp] theorem postCore_dq (s : State) (l : LaneId) (c : Nat) (e : EvEntry) : (postCore s l c e).dq = s.dq := by simp [postCore]
@[simp] theorem postCore_dram (s : State) (l : LaneId) (c : Nat) (e : EvEntry) : (postCore s l c e).dram = s.dram := by simp [postCore]
@[simp] theorem postCore_tim (s : State) (l : LaneId) (c : Nat) (e : EvEntry) : (postCore s l c e).tim = s.tim := by simp [postCore]
@[simp] theorem postCore_ang (s : State) (l : LaneId) (c : Nat) (e : EvEntry) : (postCore s l c e).ang = s.ang := by simp [postCore]
@[simp] theorem postCore_recd (s : State) (l : LaneId) (c : Nat) (e : EvEntry) : (postCore s l c e).recd = s.recd := by simp [postCore]
@[simp] theorem postCore_pcl (s : State) (l : LaneId) (c : Nat) (e : EvEntry) : (postCore s l c e).pcl = s.pcl := by simp [postCore]
@[simp] theorem postCore_cam (s : State) (l : LaneId) (c : Nat) (e : EvEntry) : (postCore s l c e).cam = s.cam := by simp [postCore]
@[simp] theorem postCore_fus (s : State) (l : LaneId) (c : Nat) (e : EvEntry) : (postCore s l c e).fus = s.fus := by simp [postCore]
@[simp] theorem postCore_bus (s : State) (l : LaneId) (c : Nat) (e : EvEntry) : (postCore s l c e).bus = s.bus := by simp [postCore]
@[simp] theorem postCore_eth (s : State) (l : LaneId) (c : Nat) (e : EvEntry) : (postCore s l c e).eth = s.eth := by simp [postCore]
@[simp] theorem postCore_hst (s : State) (l : LaneId) (c : Nat) (e : EvEntry) : (postCore s l c e).hst = s.hst := by simp [postCore]
@[simp] theorem postCore_hsi (s : State) (l : LaneId) (c : Nat) (e : EvEntry) : (postCore s l c e).hsi = s.hsi := by simp [postCore]
@[simp] theorem postCore_fab (s : State) (l : LaneId) (c : Nat) (e : EvEntry) : (postCore s l c e).fab = s.fab := by simp [postCore]
@[simp] theorem postCore_pnl (s : State) (l : LaneId) (c : Nat) (e : EvEntry) : (postCore s l c e).pnl = s.pnl := by simp [postCore]
@[simp] theorem postCore_sec (s : State) (l : LaneId) (c : Nat) (e : EvEntry) : (postCore s l c e).sec = s.sec := by simp [postCore]
@[simp] theorem postCore_cfg (s : State) (l : LaneId) (c : Nat) (e : EvEntry) : (postCore s l c e).cfg = s.cfg := by simp [postCore]
@[simp] theorem postCore_pwr (s : State) (l : LaneId) (c : Nat) (e : EvEntry) : (postCore s l c e).pwr = s.pwr := by simp [postCore]
@[simp] theorem postCore_out (s : State) (l : LaneId) (c : Nat) (e : EvEntry) : (postCore s l c e).out = s.out := by simp [postCore]
@[simp] theorem postCore_sregs (s : State) (l : LaneId) (c : Nat) (e : EvEntry) : (postCore s l c e).sregs = s.sregs := by simp [postCore]
@[simp] theorem postOut_pending (s : State) (b : Block) (k c d : Nat) : (postOut s b k c d).pending = s.pending := by
  simp only [postOut, State.both]; split <;> split <;> simp
@[simp] theorem postOut_now (s : State) (b : Block) (k c d : Nat) : (postOut s b k c d).now = s.now := by
  simp only [postOut, State.both]; split <;> split <;> simp
@[simp] theorem postOut_freeCtr (s : State) (b : Block) (k c d : Nat) : (postOut s b k c d).freeCtr = s.freeCtr := by
  simp only [postOut, State.both]; split <;> split <;> simp
@[simp] theorem postOut_sup (s : State) (b : Block) (k c d : Nat) : (postOut s b k c d).sup = s.sup := by
  simp only [postOut, State.both]; split <;> split <;> simp
@[simp] theorem postOut_seqs (s : State) (b : Block) (k c d : Nat) : (postOut s b k c d).seqs = s.seqs := by
  simp only [postOut, State.both]; split <;> split <;> simp
@[simp] theorem postOut_hardflt (s : State) (b : Block) (k c d : Nat) : (postOut s b k c d).hardflt = s.hardflt := by
  simp only [postOut, State.both]; split <;> split <;> simp
@[simp] theorem postOut_ringDrop (s : State) (b : Block) (k c d : Nat) : (postOut s b k c d).ringDrop = s.ringDrop := by
  simp only [postOut, State.both]; split <;> split <;> simp
@[simp] theorem postOut_dq (s : State) (b : Block) (k c d : Nat) : (postOut s b k c d).dq = s.dq := by
  simp only [postOut, State.both]; split <;> split <;> simp
@[simp] theorem postOut_dram (s : State) (b : Block) (k c d : Nat) : (postOut s b k c d).dram = s.dram := by
  simp only [postOut, State.both]; split <;> split <;> simp
@[simp] theorem postOut_tim (s : State) (b : Block) (k c d : Nat) : (postOut s b k c d).tim = s.tim := by
  simp only [postOut, State.both]; split <;> split <;> simp
@[simp] theorem postOut_ang (s : State) (b : Block) (k c d : Nat) : (postOut s b k c d).ang = s.ang := by
  simp only [postOut, State.both]; split <;> split <;> simp
@[simp] theorem postOut_recd (s : State) (b : Block) (k c d : Nat) : (postOut s b k c d).recd = s.recd := by
  simp only [postOut, State.both]; split <;> split <;> simp
@[simp] theorem postOut_pcl (s : State) (b : Block) (k c d : Nat) : (postOut s b k c d).pcl = s.pcl := by
  simp only [postOut, State.both]; split <;> split <;> simp
@[simp] theorem postOut_cam (s : State) (b : Block) (k c d : Nat) : (postOut s b k c d).cam = s.cam := by
  simp only [postOut, State.both]; split <;> split <;> simp
@[simp] theorem postOut_fus (s : State) (b : Block) (k c d : Nat) : (postOut s b k c d).fus = s.fus := by
  simp only [postOut, State.both]; split <;> split <;> simp
@[simp] theorem postOut_bus (s : State) (b : Block) (k c d : Nat) : (postOut s b k c d).bus = s.bus := by
  simp only [postOut, State.both]; split <;> split <;> simp
@[simp] theorem postOut_eth (s : State) (b : Block) (k c d : Nat) : (postOut s b k c d).eth = s.eth := by
  simp only [postOut, State.both]; split <;> split <;> simp
@[simp] theorem postOut_hst (s : State) (b : Block) (k c d : Nat) : (postOut s b k c d).hst = s.hst := by
  simp only [postOut, State.both]; split <;> split <;> simp
@[simp] theorem postOut_hsi (s : State) (b : Block) (k c d : Nat) : (postOut s b k c d).hsi = s.hsi := by
  simp only [postOut, State.both]; split <;> split <;> simp
@[simp] theorem postOut_fab (s : State) (b : Block) (k c d : Nat) : (postOut s b k c d).fab = s.fab := by
  simp only [postOut, State.both]; split <;> split <;> simp
@[simp] theorem postOut_pnl (s : State) (b : Block) (k c d : Nat) : (postOut s b k c d).pnl = s.pnl := by
  simp only [postOut, State.both]; split <;> split <;> simp
@[simp] theorem postOut_sec (s : State) (b : Block) (k c d : Nat) : (postOut s b k c d).sec = s.sec := by
  simp only [postOut, State.both]; split <;> split <;> simp
@[simp] theorem postOut_cfg (s : State) (b : Block) (k c d : Nat) : (postOut s b k c d).cfg = s.cfg := by
  simp only [postOut, State.both]; split <;> split <;> simp
@[simp] theorem postOut_pwr (s : State) (b : Block) (k c d : Nat) : (postOut s b k c d).pwr = s.pwr := by
  simp only [postOut, State.both]; split <;> split <;> simp
@[simp] theorem postOut_out (s : State) (b : Block) (k c d : Nat) : (postOut s b k c d).out = s.out := by
  simp only [postOut, State.both]; split <;> split <;> simp
@[simp] theorem postOut_sregs (s : State) (b : Block) (k c d : Nat) : (postOut s b k c d).sregs = s.sregs := by
  simp only [postOut, State.both]; split <;> split <;> simp
@[simp] theorem postEngine_pending (s : State) (b : Block) (k d : Nat) : (postEngine s b k d).pending = s.pending := by
  simp only [postEngine, postEngineRaw, State.both]; split <;> simp
@[simp] theorem postEngine_now (s : State) (b : Block) (k d : Nat) : (postEngine s b k d).now = s.now := by
  simp only [postEngine, postEngineRaw, State.both]; split <;> simp
@[simp] theorem postEngine_freeCtr (s : State) (b : Block) (k d : Nat) : (postEngine s b k d).freeCtr = s.freeCtr := by
  simp only [postEngine, postEngineRaw, State.both]; split <;> simp
@[simp] theorem postEngine_sup (s : State) (b : Block) (k d : Nat) : (postEngine s b k d).sup = s.sup := by
  simp only [postEngine, postEngineRaw, State.both]; split <;> simp
@[simp] theorem postEngine_seqs (s : State) (b : Block) (k d : Nat) : (postEngine s b k d).seqs = s.seqs := by
  simp only [postEngine, postEngineRaw, State.both]; split <;> simp
@[simp] theorem postEngine_hardflt (s : State) (b : Block) (k d : Nat) : (postEngine s b k d).hardflt = s.hardflt := by
  simp only [postEngine, postEngineRaw, State.both]; split <;> simp
@[simp] theorem postEngine_ringDrop (s : State) (b : Block) (k d : Nat) : (postEngine s b k d).ringDrop = s.ringDrop := by
  simp only [postEngine, postEngineRaw, State.both]; split <;> simp
@[simp] theorem postEngine_dq (s : State) (b : Block) (k d : Nat) : (postEngine s b k d).dq = s.dq := by
  simp only [postEngine, postEngineRaw, State.both]; split <;> simp
@[simp] theorem postEngine_dram (s : State) (b : Block) (k d : Nat) : (postEngine s b k d).dram = s.dram := by
  simp only [postEngine, postEngineRaw, State.both]; split <;> simp
@[simp] theorem postEngine_tim (s : State) (b : Block) (k d : Nat) : (postEngine s b k d).tim = s.tim := by
  simp only [postEngine, postEngineRaw, State.both]; split <;> simp
@[simp] theorem postEngine_ang (s : State) (b : Block) (k d : Nat) : (postEngine s b k d).ang = s.ang := by
  simp only [postEngine, postEngineRaw, State.both]; split <;> simp
@[simp] theorem postEngine_recd (s : State) (b : Block) (k d : Nat) : (postEngine s b k d).recd = s.recd := by
  simp only [postEngine, postEngineRaw, State.both]; split <;> simp
@[simp] theorem postEngine_pcl (s : State) (b : Block) (k d : Nat) : (postEngine s b k d).pcl = s.pcl := by
  simp only [postEngine, postEngineRaw, State.both]; split <;> simp
@[simp] theorem postEngine_cam (s : State) (b : Block) (k d : Nat) : (postEngine s b k d).cam = s.cam := by
  simp only [postEngine, postEngineRaw, State.both]; split <;> simp
@[simp] theorem postEngine_fus (s : State) (b : Block) (k d : Nat) : (postEngine s b k d).fus = s.fus := by
  simp only [postEngine, postEngineRaw, State.both]; split <;> simp
@[simp] theorem postEngine_bus (s : State) (b : Block) (k d : Nat) : (postEngine s b k d).bus = s.bus := by
  simp only [postEngine, postEngineRaw, State.both]; split <;> simp
@[simp] theorem postEngine_eth (s : State) (b : Block) (k d : Nat) : (postEngine s b k d).eth = s.eth := by
  simp only [postEngine, postEngineRaw, State.both]; split <;> simp
@[simp] theorem postEngine_hst (s : State) (b : Block) (k d : Nat) : (postEngine s b k d).hst = s.hst := by
  simp only [postEngine, postEngineRaw, State.both]; split <;> simp
@[simp] theorem postEngine_hsi (s : State) (b : Block) (k d : Nat) : (postEngine s b k d).hsi = s.hsi := by
  simp only [postEngine, postEngineRaw, State.both]; split <;> simp
@[simp] theorem postEngine_fab (s : State) (b : Block) (k d : Nat) : (postEngine s b k d).fab = s.fab := by
  simp only [postEngine, postEngineRaw, State.both]; split <;> simp
@[simp] theorem postEngine_pnl (s : State) (b : Block) (k d : Nat) : (postEngine s b k d).pnl = s.pnl := by
  simp only [postEngine, postEngineRaw, State.both]; split <;> simp
@[simp] theorem postEngine_sec (s : State) (b : Block) (k d : Nat) : (postEngine s b k d).sec = s.sec := by
  simp only [postEngine, postEngineRaw, State.both]; split <;> simp
@[simp] theorem postEngine_cfg (s : State) (b : Block) (k d : Nat) : (postEngine s b k d).cfg = s.cfg := by
  simp only [postEngine, postEngineRaw, State.both]; split <;> simp
@[simp] theorem postEngine_pwr (s : State) (b : Block) (k d : Nat) : (postEngine s b k d).pwr = s.pwr := by
  simp only [postEngine, postEngineRaw, State.both]; split <;> simp
@[simp] theorem postEngine_out (s : State) (b : Block) (k d : Nat) : (postEngine s b k d).out = s.out := by
  simp only [postEngine, postEngineRaw, State.both]; split <;> simp
@[simp] theorem postEngine_sregs (s : State) (b : Block) (k d : Nat) : (postEngine s b k d).sregs = s.sregs := by
  simp only [postEngine, postEngineRaw, State.both]; split <;> simp

theorem modCore_regs (s : State) (l m : LaneId) (c : Nat) (f : Core → Core) : ((s.modCore l c f).lane m).regs = (s.lane m).regs := by
  cases l <;> cases m <;> rfl

theorem rget_modCore (s : State) (l m : LaneId) (c : Nat) (f : Core → Core) (a : Nat) : rget (s.modCore l c f) m a = rget s m a := by
  simp [rget, modCore_regs]

/-- A posting leaves every register. -/
@[simp] theorem rget_postCore (s : State) (l m : LaneId) (c : Nat) (e : EvEntry) (a : Nat) :
    rget (postCore s l c e) m a = rget s m a := rget_modCore s l m c _ a

@[simp] theorem rget_postOut (s : State) (b : Block) (k c d : Nat) (m : LaneId) (a : Nat) :
    rget (postOut s b k c d) m a = rget s m a := by
  simp only [postOut, State.both]
  split <;> split <;> simp

@[simp] theorem rget_postEngine (s : State) (b : Block) (k d : Nat) (m : LaneId) (a : Nat) :
    rget (postEngine s b k d) m a = rget s m a := by
  simp only [postEngine, postEngineRaw, State.both]
  split <;> simp

end Sys2Proof.Machine
end

