-- ==== Sys2Proof/Laws/Work.lean ====
section
/-! SUPPORT. What work of the engines and the end of a command leave unchanged: `keep`, `modeStep`, `closed`. -/

namespace Sys2Proof.Machine

/-! ### keep -/

@[simp] theorem keep_pending (s t : State) : (keep s t).pending = s.pending := rfl
@[simp] theorem keep_now (s t : State) : (keep s t).now = s.now := rfl
@[simp] theorem keep_freeCtr (s t : State) : (keep s t).freeCtr = t.freeCtr := rfl
@[simp] theorem keep_seqs (s t : State) : (keep s t).seqs = t.seqs := rfl
@[simp] theorem keep_sregs (s t : State) : (keep s t).sregs = t.sregs := rfl
@[simp] theorem keep_hardflt (s t : State) : (keep s t).hardflt = t.hardflt := rfl
@[simp] theorem keep_ringDrop (s t : State) : (keep s t).ringDrop = t.ringDrop := rfl
@[simp] theorem keep_dq (s t : State) : (keep s t).dq = t.dq := rfl
@[simp] theorem keep_dram (s t : State) : (keep s t).dram = t.dram := rfl
@[simp] theorem keep_tim (s t : State) : (keep s t).tim = t.tim := rfl
@[simp] theorem keep_ang (s t : State) : (keep s t).ang = t.ang := rfl
@[simp] theorem keep_recd (s t : State) : (keep s t).recd = t.recd := rfl
@[simp] theorem keep_pcl (s t : State) : (keep s t).pcl = t.pcl := rfl
@[simp] theorem keep_cam (s t : State) : (keep s t).cam = t.cam := rfl
@[simp] theorem keep_fus (s t : State) : (keep s t).fus = t.fus := rfl
@[simp] theorem keep_bus (s t : State) : (keep s t).bus = t.bus := rfl
@[simp] theorem keep_eth (s t : State) : (keep s t).eth = t.eth := rfl
@[simp] theorem keep_hst (s t : State) : (keep s t).hst = t.hst := rfl
@[simp] theorem keep_hsi (s t : State) : (keep s t).hsi = t.hsi := rfl
@[simp] theorem keep_fab (s t : State) : (keep s t).fab = t.fab := rfl
@[simp] theorem keep_pnl (s t : State) : (keep s t).pnl = t.pnl := rfl
@[simp] theorem keep_sec (s t : State) : (keep s t).sec = t.sec := rfl
@[simp] theorem keep_cfg (s t : State) : (keep s t).cfg = t.cfg := rfl
@[simp] theorem keep_pwr (s t : State) : (keep s t).pwr = t.pwr := rfl
@[simp] theorem keep_out (s t : State) : (keep s t).out = t.out := rfl
@[simp] theorem keep_sup_laneMode (s t : State) : (keep s t).sup.laneMode = s.sup.laneMode := rfl
@[simp] theorem keep_sup_active (s t : State) : (keep s t).sup.active = s.sup.active := rfl
@[simp] theorem keep_sup_causeA (s t : State) : (keep s t).sup.causeA = s.sup.causeA := rfl
@[simp] theorem keep_sup_causeB (s t : State) : (keep s t).sup.causeB = s.sup.causeB := rfl
@[simp] theorem keep_sup_miscnt (s t : State) : (keep s t).sup.miscnt = t.sup.miscnt := rfl
@[simp] theorem keep_sup_misWord (s t : State) : (keep s t).sup.misWord = t.sup.misWord := rfl
@[simp] theorem keep_sup_misSeq (s t : State) : (keep s t).sup.misSeq = t.sup.misSeq := rfl
@[simp] theorem keep_sup_tktime (s t : State) : (keep s t).sup.tktime = s.sup.tktime := rfl
@[simp] theorem keep_sup_tkcount (s t : State) : (keep s t).sup.tkcount = s.sup.tkcount := rfl
@[simp] theorem keep_sup_engOwner (s t : State) : (keep s t).sup.engOwner = s.sup.engOwner := rfl
@[simp] theorem keep_sup_engEpoch (s t : State) : (keep s t).sup.engEpoch = s.sup.engEpoch := rfl
@[simp] theorem keep_sup_takeover (s t : State) : (keep s t).sup.takeover = s.sup.takeover := rfl
@[simp] theorem keep_sup_rejoin (s t : State) : (keep s t).sup.rejoin = s.sup.rejoin := rfl
@[simp] theorem keep_sup_phase (s t : State) : (keep s t).sup.phase = s.sup.phase := rfl
@[simp] theorem keep_sup_startAt (s t : State) : (keep s t).sup.startAt = s.sup.startAt := rfl
@[simp] theorem keep_sup_startCause (s t : State) : (keep s t).sup.startCause = s.sup.startCause := rfl
@[simp] theorem keep_sup_startUs (s t : State) : (keep s t).sup.startUs = s.sup.startUs := rfl
@[simp] theorem keep_sup_warmPending (s t : State) : (keep s t).sup.warmPending = s.sup.warmPending := rfl
@[simp] theorem keep_sup_retrain (s t : State) : (keep s t).sup.retrain = s.sup.retrain := rfl
@[simp] theorem keep_sup_imgNew (s t : State) : (keep s t).sup.imgNew = s.sup.imgNew := rfl
@[simp] theorem keep_sup_cfgNew (s t : State) : (keep s t).sup.cfgNew = s.sup.cfgNew := rfl
@[simp] theorem keep_sup_unclean (s t : State) : (keep s t).sup.unclean = s.sup.unclean := rfl
@[simp] theorem keep_sup_failA (s t : State) : (keep s t).sup.failA = s.sup.failA := rfl
@[simp] theorem keep_sup_failB (s t : State) : (keep s t).sup.failB = s.sup.failB := rfl
@[simp] theorem keep_sup_loaded (s t : State) : (keep s t).sup.loaded = s.sup.loaded := rfl
@[simp] theorem keep_sup_modMode (s t : State) : (keep s t).sup.modMode = s.sup.modMode := rfl
@[simp] theorem keep_sup_modBefore (s t : State) : (keep s t).sup.modBefore = s.sup.modBefore := rfl
@[simp] theorem keep_sup_mseq (s t : State) : (keep s t).sup.mseq = s.sup.mseq := rfl
@[simp] theorem keep_sup_power (s t : State) : (keep s t).sup.power = s.sup.power := rfl
@[simp] theorem keep_sup_parkAt (s t : State) : (keep s t).sup.parkAt = s.sup.parkAt := rfl
@[simp] theorem keep_sup_ckptDone (s t : State) : (keep s t).sup.ckptDone = s.sup.ckptDone := rfl
@[simp] theorem keep_sup_ckptAt (s t : State) : (keep s t).sup.ckptAt = s.sup.ckptAt := rfl
@[simp] theorem keep_sup_ckptSlot (s t : State) : (keep s t).sup.ckptSlot = s.sup.ckptSlot := rfl
@[simp] theorem keep_sup_ckptSeq (s t : State) : (keep s t).sup.ckptSeq = s.sup.ckptSeq := rfl
@[simp] theorem keep_sup_wakeSrc (s t : State) : (keep s t).sup.wakeSrc = s.sup.wakeSrc := rfl
@[simp] theorem keep_sup_canBefore (s t : State) : (keep s t).sup.canBefore = s.sup.canBefore := rfl
@[simp] theorem keep_laneA_regs (s t : State) : (keep s t).laneA.regs = t.laneA.regs := rfl
@[simp] theorem keep_laneA_epoch (s t : State) : (keep s t).laneA.epoch = s.laneA.epoch := rfl
@[simp] theorem keep_laneA_live (s t : State) : (keep s t).laneA.live = s.laneA.live := rfl
@[simp] theorem keep_laneA_struck (s t : State) : (keep s t).laneA.struck = s.laneA.struck := rfl
@[simp] theorem keep_laneA_shdrop (s t : State) : (keep s t).laneA.shdrop = t.laneA.shdrop := rfl
@[simp] theorem keep_laneA_wdEnd (s t : State) : (keep s t).laneA.wdEnd = t.laneA.wdEnd := rfl
@[simp] theorem keep_laneA_wdHalf (s t : State) : (keep s t).laneA.wdHalf = t.laneA.wdHalf := rfl
@[simp] theorem keep_laneA_beat (s t : State) : (keep s t).laneA.beat = s.laneA.beat := rfl
@[simp] theorem keep_laneA_lmem (s t : State) : (keep s t).laneA.lmem = t.laneA.lmem := rfl
@[simp] theorem keep_laneA_sram (s t : State) : (keep s t).laneA.sram = t.laneA.sram := rfl
@[simp] theorem keep_laneA_hy (s t : State) : (keep s t).laneA.hy = t.laneA.hy := rfl
@[simp] theorem keep_laneA_entries (s t : State) : (keep s t).laneA.entries = t.laneA.entries := rfl
@[simp] theorem keep_laneA_lpe (s t : State) : (keep s t).laneA.lpe = t.laneA.lpe := rfl
@[simp] theorem keep_laneA_sels (s t : State) : (keep s t).laneA.sels = t.laneA.sels := rfl
@[simp] theorem keep_laneA_levels (s t : State) : (keep s t).laneA.levels = t.laneA.levels := rfl
@[simp] theorem keep_laneA_strs (s t : State) : (keep s t).laneA.strs = t.laneA.strs := rfl
@[simp] theorem keep_laneB_regs (s t : State) : (keep s t).laneB.regs = t.laneB.regs := rfl
@[simp] theorem keep_laneB_epoch (s t : State) : (keep s t).laneB.epoch = s.laneB.epoch := rfl
@[simp] theorem keep_laneB_live (s t : State) : (keep s t).laneB.live = s.laneB.live := rfl
@[simp] theorem keep_laneB_struck (s t : State) : (keep s t).laneB.struck = s.laneB.struck := rfl
@[simp] theorem keep_laneB_shdrop (s t : State) : (keep s t).laneB.shdrop = t.laneB.shdrop := rfl
@[simp] theorem keep_laneB_wdEnd (s t : State) : (keep s t).laneB.wdEnd = t.laneB.wdEnd := rfl
@[simp] theorem keep_laneB_wdHalf (s t : State) : (keep s t).laneB.wdHalf = t.laneB.wdHalf := rfl
@[simp] theorem keep_laneB_beat (s t : State) : (keep s t).laneB.beat = s.laneB.beat := rfl
@[simp] theorem keep_laneB_lmem (s t : State) : (keep s t).laneB.lmem = t.laneB.lmem := rfl
@[simp] theorem keep_laneB_sram (s t : State) : (keep s t).laneB.sram = t.laneB.sram := rfl
@[simp] theorem keep_laneB_hy (s t : State) : (keep s t).laneB.hy = t.laneB.hy := rfl
@[simp] theorem keep_laneB_entries (s t : State) : (keep s t).laneB.entries = t.laneB.entries := rfl
@[simp] theorem keep_laneB_lpe (s t : State) : (keep s t).laneB.lpe = t.laneB.lpe := rfl
@[simp] theorem keep_laneB_sels (s t : State) : (keep s t).laneB.sels = t.laneB.sels := rfl
@[simp] theorem keep_laneB_levels (s t : State) : (keep s t).laneB.levels = t.laneB.levels := rfl
@[simp] theorem keep_laneB_strs (s t : State) : (keep s t).laneB.strs = t.laneB.strs := rfl

theorem keep_lane (s t : State) (l : LaneId) : (keep s t).lane l = keepLane s.lanesUp (s.lane l) (t.lane l) := by
  cases l <;> rfl

@[simp] theorem keepLane_up (x y : Lane) : (keepLane true x y).cores = y.cores := rfl

/-- Work that leaves the cores as they are keeps them exactly. -/
theorem keepLane_same (up : Bool) (x y : Lane) (h : y.cores = x.cores) : (keepLane up x y).cores = y.cores := by
  simp [keepLane, h]

@[simp] theorem keep_lanesUp (s t : State) : (keep s t).lanesUp = s.lanesUp := rfl
@[simp] theorem keep_dark (s t : State) : (keep s t).dark = s.dark := rfl

/-! ### work -/

theorem State.work_eq (s : State) (f : State → State) : s.work f = keep s (f s) := rfl

/-! ### modeStep -/

@[simp] theorem modeStep_pending (s t : State) : (modeStep s t).pending = t.pending := by unfold modeStep; split <;> rfl
@[simp] theorem modeStep_now (s t : State) : (modeStep s t).now = t.now := by unfold modeStep; split <;> rfl
@[simp] theorem modeStep_freeCtr (s t : State) : (modeStep s t).freeCtr = t.freeCtr := by unfold modeStep; split <;> rfl
@[simp] theorem modeStep_laneA (s t : State) : (modeStep s t).laneA = t.laneA := by unfold modeStep; split <;> rfl
@[simp] theorem modeStep_laneB (s t : State) : (modeStep s t).laneB = t.laneB := by unfold modeStep; split <;> rfl
@[simp] theorem modeStep_seqs (s t : State) : (modeStep s t).seqs = t.seqs := by unfold modeStep; split <;> rfl
@[simp] theorem modeStep_sregs (s t : State) : (modeStep s t).sregs = t.sregs := by unfold modeStep; split <;> rfl
@[simp] theorem modeStep_hardflt (s t : State) : (modeStep s t).hardflt = t.hardflt := by unfold modeStep; split <;> rfl
@[simp] theorem modeStep_ringDrop (s t : State) : (modeStep s t).ringDrop = t.ringDrop := by unfold modeStep; split <;> rfl
@[simp] theorem modeStep_dq (s t : State) : (modeStep s t).dq = t.dq := by unfold modeStep; split <;> rfl
@[simp] theorem modeStep_dram (s t : State) : (modeStep s t).dram = t.dram := by unfold modeStep; split <;> rfl
@[simp] theorem modeStep_tim (s t : State) : (modeStep s t).tim = t.tim := by unfold modeStep; split <;> rfl
@[simp] theorem modeStep_ang (s t : State) : (modeStep s t).ang = t.ang := by unfold modeStep; split <;> rfl
@[simp] theorem modeStep_recd (s t : State) : (modeStep s t).recd = t.recd := by unfold modeStep; split <;> rfl
@[simp] theorem modeStep_pcl (s t : State) : (modeStep s t).pcl = t.pcl := by unfold modeStep; split <;> rfl
@[simp] theorem modeStep_cam (s t : State) : (modeStep s t).cam = t.cam := by unfold modeStep; split <;> rfl
@[simp] theorem modeStep_fus (s t : State) : (modeStep s t).fus = t.fus := by unfold modeStep; split <;> rfl
@[simp] theorem modeStep_bus (s t : State) : (modeStep s t).bus = t.bus := by unfold modeStep; split <;> rfl
@[simp] theorem modeStep_eth (s t : State) : (modeStep s t).eth = t.eth := by unfold modeStep; split <;> rfl
@[simp] theorem modeStep_hst (s t : State) : (modeStep s t).hst = t.hst := by unfold modeStep; split <;> rfl
@[simp] theorem modeStep_hsi (s t : State) : (modeStep s t).hsi = t.hsi := by unfold modeStep; split <;> rfl
@[simp] theorem modeStep_fab (s t : State) : (modeStep s t).fab = t.fab := by unfold modeStep; split <;> rfl
@[simp] theorem modeStep_pnl (s t : State) : (modeStep s t).pnl = t.pnl := by unfold modeStep; split <;> rfl
@[simp] theorem modeStep_sec (s t : State) : (modeStep s t).sec = t.sec := by unfold modeStep; split <;> rfl
@[simp] theorem modeStep_cfg (s t : State) : (modeStep s t).cfg = t.cfg := by unfold modeStep; split <;> rfl
@[simp] theorem modeStep_pwr (s t : State) : (modeStep s t).pwr = t.pwr := by unfold modeStep; split <;> rfl
@[simp] theorem modeStep_out (s t : State) : (modeStep s t).out = t.out := by unfold modeStep; split <;> rfl
@[simp] theorem modeStep_sup_laneMode (s t : State) : (modeStep s t).sup.laneMode = t.sup.laneMode := by unfold modeStep; split <;> rfl
@[simp] theorem modeStep_sup_active (s t : State) : (modeStep s t).sup.active = t.sup.active := by unfold modeStep; split <;> rfl
@[simp] theorem modeStep_sup_causeA (s t : State) : (modeStep s t).sup.causeA = t.sup.causeA := by unfold modeStep; split <;> rfl
@[simp] theorem modeStep_sup_causeB (s t : State) : (modeStep s t).sup.causeB = t.sup.causeB := by unfold modeStep; split <;> rfl
@[simp] theorem modeStep_sup_miscnt (s t : State) : (modeStep s t).sup.miscnt = t.sup.miscnt := by unfold modeStep; split <;> rfl
@[simp] theorem modeStep_sup_misWord (s t : State) : (modeStep s t).sup.misWord = t.sup.misWord := by unfold modeStep; split <;> rfl
@[simp] theorem modeStep_sup_misSeq (s t : State) : (modeStep s t).sup.misSeq = t.sup.misSeq := by unfold modeStep; split <;> rfl
@[simp] theorem modeStep_sup_tktime (s t : State) : (modeStep s t).sup.tktime = t.sup.tktime := by unfold modeStep; split <;> rfl
@[simp] theorem modeStep_sup_tkcount (s t : State) : (modeStep s t).sup.tkcount = t.sup.tkcount := by unfold modeStep; split <;> rfl
@[simp] theorem modeStep_sup_engOwner (s t : State) : (modeStep s t).sup.engOwner = t.sup.engOwner := by unfold modeStep; split <;> rfl
@[simp] theorem modeStep_sup_engEpoch (s t : State) : (modeStep s t).sup.engEpoch = t.sup.engEpoch := by unfold modeStep; split <;> rfl
@[simp] theorem modeStep_sup_takeover (s t : State) : (modeStep s t).sup.takeover = t.sup.takeover := by unfold modeStep; split <;> rfl
@[simp] theorem modeStep_sup_rejoin (s t : State) : (modeStep s t).sup.rejoin = t.sup.rejoin := by unfold modeStep; split <;> rfl
@[simp] theorem modeStep_sup_phase (s t : State) : (modeStep s t).sup.phase = t.sup.phase := by unfold modeStep; split <;> rfl
@[simp] theorem modeStep_sup_startAt (s t : State) : (modeStep s t).sup.startAt = t.sup.startAt := by unfold modeStep; split <;> rfl
@[simp] theorem modeStep_sup_startCause (s t : State) : (modeStep s t).sup.startCause = t.sup.startCause := by unfold modeStep; split <;> rfl
@[simp] theorem modeStep_sup_startUs (s t : State) : (modeStep s t).sup.startUs = t.sup.startUs := by unfold modeStep; split <;> rfl
@[simp] theorem modeStep_sup_warmPending (s t : State) : (modeStep s t).sup.warmPending = t.sup.warmPending := by unfold modeStep; split <;> rfl
@[simp] theorem modeStep_sup_retrain (s t : State) : (modeStep s t).sup.retrain = t.sup.retrain := by unfold modeStep; split <;> rfl
@[simp] theorem modeStep_sup_imgNew (s t : State) : (modeStep s t).sup.imgNew = t.sup.imgNew := by unfold modeStep; split <;> rfl
@[simp] theorem modeStep_sup_cfgNew (s t : State) : (modeStep s t).sup.cfgNew = t.sup.cfgNew := by unfold modeStep; split <;> rfl
@[simp] theorem modeStep_sup_unclean (s t : State) : (modeStep s t).sup.unclean = t.sup.unclean := by unfold modeStep; split <;> rfl
@[simp] theorem modeStep_sup_failA (s t : State) : (modeStep s t).sup.failA = t.sup.failA := by unfold modeStep; split <;> rfl
@[simp] theorem modeStep_sup_failB (s t : State) : (modeStep s t).sup.failB = t.sup.failB := by unfold modeStep; split <;> rfl
@[simp] theorem modeStep_sup_loaded (s t : State) : (modeStep s t).sup.loaded = t.sup.loaded := by unfold modeStep; split <;> rfl
@[simp] theorem modeStep_sup_modMode (s t : State) : (modeStep s t).sup.modMode = t.sup.modMode := by unfold modeStep; split <;> rfl
@[simp] theorem modeStep_sup_modBefore (s t : State) : (modeStep s t).sup.modBefore = t.sup.modBefore := by unfold modeStep; split <;> rfl
@[simp] theorem modeStep_sup_power (s t : State) : (modeStep s t).sup.power = t.sup.power := by unfold modeStep; split <;> rfl
@[simp] theorem modeStep_sup_parkAt (s t : State) : (modeStep s t).sup.parkAt = t.sup.parkAt := by unfold modeStep; split <;> rfl
@[simp] theorem modeStep_sup_ckptDone (s t : State) : (modeStep s t).sup.ckptDone = t.sup.ckptDone := by unfold modeStep; split <;> rfl
@[simp] theorem modeStep_sup_ckptAt (s t : State) : (modeStep s t).sup.ckptAt = t.sup.ckptAt := by unfold modeStep; split <;> rfl
@[simp] theorem modeStep_sup_ckptSlot (s t : State) : (modeStep s t).sup.ckptSlot = t.sup.ckptSlot := by unfold modeStep; split <;> rfl
@[simp] theorem modeStep_sup_ckptSeq (s t : State) : (modeStep s t).sup.ckptSeq = t.sup.ckptSeq := by unfold modeStep; split <;> rfl
@[simp] theorem modeStep_sup_wakeSrc (s t : State) : (modeStep s t).sup.wakeSrc = t.sup.wakeSrc := by unfold modeStep; split <;> rfl
@[simp] theorem modeStep_sup_canBefore (s t : State) : (modeStep s t).sup.canBefore = t.sup.canBefore := by unfold modeStep; split <;> rfl

@[simp] theorem modeStep_lane (s t : State) (l : LaneId) : (modeStep s t).lane l = t.lane l := by
  cases l <;> simp [State.lane]

@[simp] theorem modeStep_lanesUp (s t : State) : (modeStep s t).lanesUp = t.lanesUp := by simp [State.lanesUp]

/-! ### closed -/

@[simp] theorem closed_pending (s t : State) : (closed s t).pending = s.pending := by simp [closed]

@[simp] theorem closed_now (s t : State) : (closed s t).now = t.now := by simp [closed]
@[simp] theorem closed_freeCtr (s t : State) : (closed s t).freeCtr = t.freeCtr := by simp [closed]
@[simp] theorem closed_laneA (s t : State) : (closed s t).laneA = t.laneA := by simp [closed]
@[simp] theorem closed_laneB (s t : State) : (closed s t).laneB = t.laneB := by simp [closed]
@[simp] theorem closed_seqs (s t : State) : (closed s t).seqs = t.seqs := by simp [closed]
@[simp] theorem closed_sregs (s t : State) : (closed s t).sregs = t.sregs := by simp [closed]
@[simp] theorem closed_hardflt (s t : State) : (closed s t).hardflt = t.hardflt := by simp [closed]
@[simp] theorem closed_ringDrop (s t : State) : (closed s t).ringDrop = t.ringDrop := by simp [closed]
@[simp] theorem closed_dq (s t : State) : (closed s t).dq = t.dq := by simp [closed]
@[simp] theorem closed_dram (s t : State) : (closed s t).dram = t.dram := by simp [closed]
@[simp] theorem closed_tim (s t : State) : (closed s t).tim = t.tim := by simp [closed]
@[simp] theorem closed_ang (s t : State) : (closed s t).ang = t.ang := by simp [closed]
@[simp] theorem closed_recd (s t : State) : (closed s t).recd = t.recd := by simp [closed]
@[simp] theorem closed_pcl (s t : State) : (closed s t).pcl = t.pcl := by simp [closed]
@[simp] theorem closed_cam (s t : State) : (closed s t).cam = t.cam := by simp [closed]
@[simp] theorem closed_fus (s t : State) : (closed s t).fus = t.fus := by simp [closed]
@[simp] theorem closed_bus (s t : State) : (closed s t).bus = t.bus := by simp [closed]
@[simp] theorem closed_eth (s t : State) : (closed s t).eth = t.eth := by simp [closed]
@[simp] theorem closed_hst (s t : State) : (closed s t).hst = t.hst := by simp [closed]
@[simp] theorem closed_hsi (s t : State) : (closed s t).hsi = t.hsi := by simp [closed]
@[simp] theorem closed_fab (s t : State) : (closed s t).fab = t.fab := by simp [closed]
@[simp] theorem closed_pnl (s t : State) : (closed s t).pnl = t.pnl := by simp [closed]
@[simp] theorem closed_sec (s t : State) : (closed s t).sec = t.sec := by simp [closed]
@[simp] theorem closed_cfg (s t : State) : (closed s t).cfg = t.cfg := by simp [closed]
@[simp] theorem closed_pwr (s t : State) : (closed s t).pwr = t.pwr := by simp [closed]
@[simp] theorem closed_out (s t : State) : (closed s t).out = t.out := by simp [closed]
@[simp] theorem closed_sup_laneMode (s t : State) : (closed s t).sup.laneMode = t.sup.laneMode := by simp [closed]
@[simp] theorem closed_sup_active (s t : State) : (closed s t).sup.active = t.sup.active := by simp [closed]
@[simp] theorem closed_sup_causeA (s t : State) : (closed s t).sup.causeA = t.sup.causeA := by simp [closed]
@[simp] theorem closed_sup_causeB (s t : State) : (closed s t).sup.causeB = t.sup.causeB := by simp [closed]
@[simp] theorem closed_sup_miscnt (s t : State) : (closed s t).sup.miscnt = t.sup.miscnt := by simp [closed]
@[simp] theorem closed_sup_misWord (s t : State) : (closed s t).sup.misWord = t.sup.misWord := by simp [closed]
@[simp] theorem closed_sup_misSeq (s t : State) : (closed s t).sup.misSeq = t.sup.misSeq := by simp [closed]
@[simp] theorem closed_sup_tktime (s t : State) : (closed s t).sup.tktime = t.sup.tktime := by simp [closed]
@[simp] theorem closed_sup_tkcount (s t : State) : (closed s t).sup.tkcount = t.sup.tkcount := by simp [closed]
@[simp] theorem closed_sup_engOwner (s t : State) : (closed s t).sup.engOwner = t.sup.engOwner := by simp [closed]
@[simp] theorem closed_sup_engEpoch (s t : State) : (closed s t).sup.engEpoch = t.sup.engEpoch := by simp [closed]
@[simp] theorem closed_sup_takeover (s t : State) : (closed s t).sup.takeover = t.sup.takeover := by simp [closed]
@[simp] theorem closed_sup_rejoin (s t : State) : (closed s t).sup.rejoin = t.sup.rejoin := by simp [closed]
@[simp] theorem closed_sup_phase (s t : State) : (closed s t).sup.phase = t.sup.phase := by simp [closed]
@[simp] theorem closed_sup_startAt (s t : State) : (closed s t).sup.startAt = t.sup.startAt := by simp [closed]
@[simp] theorem closed_sup_startCause (s t : State) : (closed s t).sup.startCause = t.sup.startCause := by simp [closed]
@[simp] theorem closed_sup_startUs (s t : State) : (closed s t).sup.startUs = t.sup.startUs := by simp [closed]
@[simp] theorem closed_sup_warmPending (s t : State) : (closed s t).sup.warmPending = t.sup.warmPending := by simp [closed]
@[simp] theorem closed_sup_retrain (s t : State) : (closed s t).sup.retrain = t.sup.retrain := by simp [closed]
@[simp] theorem closed_sup_imgNew (s t : State) : (closed s t).sup.imgNew = t.sup.imgNew := by simp [closed]
@[simp] theorem closed_sup_cfgNew (s t : State) : (closed s t).sup.cfgNew = t.sup.cfgNew := by simp [closed]
@[simp] theorem closed_sup_unclean (s t : State) : (closed s t).sup.unclean = t.sup.unclean := by simp [closed]
@[simp] theorem closed_sup_failA (s t : State) : (closed s t).sup.failA = t.sup.failA := by simp [closed]
@[simp] theorem closed_sup_failB (s t : State) : (closed s t).sup.failB = t.sup.failB := by simp [closed]
@[simp] theorem closed_sup_loaded (s t : State) : (closed s t).sup.loaded = t.sup.loaded := by simp [closed]
@[simp] theorem closed_sup_modMode (s t : State) : (closed s t).sup.modMode = t.sup.modMode := by simp [closed]
@[simp] theorem closed_sup_modBefore (s t : State) : (closed s t).sup.modBefore = t.sup.modBefore := by simp [closed]
@[simp] theorem closed_sup_power (s t : State) : (closed s t).sup.power = t.sup.power := by simp [closed]
@[simp] theorem closed_sup_parkAt (s t : State) : (closed s t).sup.parkAt = t.sup.parkAt := by simp [closed]
@[simp] theorem closed_sup_ckptDone (s t : State) : (closed s t).sup.ckptDone = t.sup.ckptDone := by simp [closed]
@[simp] theorem closed_sup_ckptAt (s t : State) : (closed s t).sup.ckptAt = t.sup.ckptAt := by simp [closed]
@[simp] theorem closed_sup_ckptSlot (s t : State) : (closed s t).sup.ckptSlot = t.sup.ckptSlot := by simp [closed]
@[simp] theorem closed_sup_ckptSeq (s t : State) : (closed s t).sup.ckptSeq = t.sup.ckptSeq := by simp [closed]
@[simp] theorem closed_sup_wakeSrc (s t : State) : (closed s t).sup.wakeSrc = t.sup.wakeSrc := by simp [closed]
@[simp] theorem closed_sup_canBefore (s t : State) : (closed s t).sup.canBefore = t.sup.canBefore := by simp [closed]

/-! ### The ends of commands -/

theorem act_pending {s t u : State} (h : act s t = .next u) : u.pending = s.pending := by
  unfold act at h
  cases h
  split <;> simp

theorem actL_pending {s t u : State} (h : actL s t = .next u) : u.pending = s.pending := by
  unfold actL at h
  cases h
  split <;> simp

theorem actSup_pending {s t u : State} (h : actSup s t = .next u) : u.pending = s.pending := by
  unfold actSup at h
  cases h
  simp

theorem actOn_pending {s t u : State} (h : actOn s t = .next u) : u.pending = s.pending := by
  unfold actOn at h
  cases h
  split <;> simp

theorem actUp_pending {s t u : State} (h : actUp s t = .next u) : u.pending = s.pending := by
  unfold actUp at h
  cases h
  split <;> simp

/-- A command of the engines keeps what the supervisor holds of the lanes. -/
theorem act_active {s t u : State} (h : act s t = .next u) : u.sup.active = s.sup.active := by
  unfold act at h
  cases h
  split <;> simp

theorem actL_active {s t u : State} (h : actL s t = .next u) : u.sup.active = s.sup.active := by
  unfold actL at h
  cases h
  split <;> simp

theorem act_dark {s : State} (h : s.dark = true) (t : State) : act s t = .next s := by simp [act, h]

theorem act_lit {s : State} (h : s.dark = false) (t : State) : act s t = .next (modeStep s (keep s t)) := by simp [act, h]

theorem actL_up {s : State} (h : s.lanesUp = true) (t : State) : actL s t = .next (modeStep s (keep s t)) := by simp [actL, h]

theorem actL_down {s : State} (h : s.lanesUp = false) (t : State) : actL s t = .next s := by simp [actL, h]

theorem actOn_lit {s : State} (h : s.dark = false) (t : State) : actOn s t = .next (closed s t) := by simp [actOn, h]

theorem actUp_up {s : State} (h : s.lanesUp = true) (t : State) : actUp s t = .next (closed s t) := by simp [actUp, h]

end Sys2Proof.Machine
end

