-- ==== Sys2Proof/Laws/Core.lean ====
section
/-! SUPPORT. The cores: registers of a core, and what `issue` does with an instruction that is ready. -/

namespace Sys2Proof.Machine

/-! ### Registers of a core -/

@[simp] theorem Core.getV_setV_same (c : Core) (n : Nat) (w : Word) : (c.setV n w).getV n = w := by simp [Core.getV, Core.setV]

theorem Core.getV_setV_ne (c : Core) {n m : Nat} (h : m ≠ n) (w : Word) : (c.setV n w).getV m = c.getV m :=
  tget_tset_ne c.v h w

@[simp] theorem Core.getA_setA_same (c : Core) (n : Nat) (w : BitVec 40) : (c.setA n w).getA n = w := by
  simp [Core.getA, Core.setA]

theorem Core.getA_setA_ne (c : Core) {n m : Nat} (h : m ≠ n) (w : BitVec 40) : (c.setA n w).getA m = c.getA m :=
  tget_tset_ne c.ac h w

@[simp] theorem Core.getV_setA (c : Core) (n m : Nat) (w : BitVec 40) : (c.setA n w).getV m = c.getV m := rfl
@[simp] theorem Core.getA_setV (c : Core) (n m : Nat) (w : Word) : (c.setV n w).getA m = c.getA m := rfl
@[simp] theorem Core.getV_advance (c : Core) (k m : Nat) : (c.advance k).getV m = c.getV m := rfl
@[simp] theorem Core.getA_advance (c : Core) (k m : Nat) : (c.advance k).getA m = c.getA m := rfl
@[simp] theorem Core.getV_orSat (c : Core) (b : Bool) (m : Nat) : (c.orSat b).getV m = c.getV m := rfl
@[simp] theorem Core.getV_orAov (c : Core) (b : Bool) (m : Nat) : (c.orAov b).getV m = c.getV m := rfl
@[simp] theorem Core.getA_orSat (c : Core) (b : Bool) (m : Nat) : (c.orSat b).getA m = c.getA m := rfl
@[simp] theorem Core.getA_orAov (c : Core) (b : Bool) (m : Nat) : (c.orAov b).getA m = c.getA m := rfl

@[simp] theorem Core.pred_setPred_same (c : Core) {n : Nat} (h : n ≠ 0) (b : Bool) : (c.setPred n b).pred n = b := by
  simp [Core.pred, Core.setPred, h]

@[simp] theorem Core.setPred_zero (c : Core) (b : Bool) : c.setPred 0 b = c := rfl

@[simp] theorem Core.settle_nil (c : Core) (rs : List Nat) (h : c.loads = []) : c.settle rs = c := by
  induction rs generalizing c with
  | nil => rfl
  | cons r rs ih =>
    have : c.settle1 r = c := by simp [Core.settle1, h]
    show (c.settle1 r).settle rs = c
    rw [this]
    exact ih c h

theorem Core.settle1_run (c : Core) (r : Nat) : (c.settle1 r).run = c.run := by
  unfold Core.settle1; split <;> rfl

/-! ### A core of a lane -/

@[simp] theorem State.core_modCore_same (s : State) (l : LaneId) (c : Nat) (f : Core → Core) :
    (s.modCore l c f).core l c = f (s.core l c) := by
  simp [State.core, State.modCore]

theorem State.core_modCore (s : State) (l m : LaneId) (c d : Nat) (f : Core → Core) (h : m ≠ l ∨ d ≠ c) :
    (s.modCore l c f).core m d = s.core m d := by
  unfold State.core State.modCore
  rw [State.modLane_lane]
  by_cases hm : m = l
  · subst hm
    have hd : d ≠ c := h.resolve_left fun e => e rfl
    simp [tget_tmod_ne _ hd]
  · simp [hm]

theorem State.modCore_modCore (s : State) (l : LaneId) (c : Nat) (f g : Core → Core) :
    (s.modCore l c f).modCore l c g = s.modCore l c fun x => g (f x) := by
  simp only [State.modCore, State.modLane_modLane, tmod_tmod]

@[simp] theorem State.modCore_lanesUp (s : State) (l : LaneId) (c : Nat) (f : Core → Core) :
    (s.modCore l c f).lanesUp = s.lanesUp := by
  simp [State.lanesUp]

/-! ### Issue -/

/-- What `issue` does with a ready instruction. -/
theorem issue_ready {s : State} {i : Issue} {len : Nat} (h : coreReady s i len) (uses : List VReg) (k : State → State) :
    issue i len uses s k =
      let r := k (s.modCore i.lane i.core fun c => c.settle (uses.map Fin.val))
      let r := if s.lanesUp && !r.lanesUp then r.modCore i.lane i.core Core.still else r
      { r with pending := s.pending } := by
  obtain ⟨hr, hf, hp, hl, hg, hb⟩ := h
  have hfd : fenceDone s i.lane i.core = s := by simp [fenceDone, hf]
  unfold issue
  simp only [hr, hb, hfd, hg, stallGuard]
  have h1 : ¬ (0x100000 ≤ (s.core i.lane i.core).pc.toNat) := by omega
  have h2 : ¬ (0x100000 < (s.core i.lane i.core).pc.toNat + len) := by omega
  simp [h1, h2]

/-- A ready instruction that changes its own core only. -/
theorem issue_core {s : State} {i : Issue} {len : Nat} (h : coreReady s i len) (uses : List VReg) (f : Core → Core) :
    issue i len uses s (fun s => s.modCore i.lane i.core f) =
      s.modCore i.lane i.core fun c => f (c.settle (uses.map Fin.val)) := by
  rw [issue_ready h]
  simp only [State.modCore_lanesUp, State.modCore_modCore]
  have : (s.lanesUp && !s.lanesUp) = false := by cases s.lanesUp <;> rfl
  simp only [this]
  cases i.lane <;> rfl

theorem issueCore_ready {s : State} {i : Issue} (h : coreReady s i 4) (uses : List VReg) (f : Core → Core) :
    issueCore i uses s f = s.modCore i.lane i.core fun c => (f (c.settle (uses.map Fin.val))).advance 4 :=
  issue_core h uses _

/-- A core that does not run issues nothing (R83, R97, R119). -/
theorem issue_still {s : State} {i : Issue} (h : (s.core i.lane i.core).run ≠ .running) (len : Nat) (uses : List VReg)
    (k : State → State) : issue i len uses s k = s := by
  simp [issue, h]

theorem issue_pending (s : State) (i : Issue) (len : Nat) (uses : List VReg) (k : State → State) :
    (issue i len uses s k).pending = s.pending := by
  simp only [issue]
  split
  · rfl
  · split <;> rfl

end Sys2Proof.Machine
end

