-- ==== Sys2Proof/Laws/Only.lean ====
section
/-! SUPPORT. Frames: which parts of the state the shared operations leave alone, and how the ends of commands keep a frame. -/

namespace Sys2Proof.Machine

variable {ps : List Part}

theorem only_refl (ps : List Part) (s : State) : only ps s s := by
  intro p _
  cases p <;> simp [Part.same]

theorem only_trans {s t u : State} (h : only ps s t) (k : only ps t u) : only ps s u := by
  intro p hp
  have h := h p hp
  have k := k p hp
  cases p <;> simp_all [Part.same]

theorem only_mono {qs : List Part} {s t : State} (h : only ps s t) (hs : ∀ p ∈ ps, p ∈ qs) : only qs s t :=
  fun p hp => h p fun hq => hp (hs p hq)

/-! ### Fields -/

theorem only_seqs (h : Part.seqs ∈ ps) (s : State) (x : _) : only ps s { s with seqs := x } := by
  intro p hp
  cases p <;> first
    | exact absurd h hp
    | rfl
    | exact ⟨rfl, rfl, rfl⟩
    | (intro m; cases m <;> first | rfl | exact ⟨rfl, rfl⟩)
    | (intro m n; cases m <;> first | rfl | exact ⟨rfl, rfl, rfl⟩)

theorem only_hardflt (h : Part.hardflt ∈ ps) (s : State) (x : _) : only ps s { s with hardflt := x } := by
  intro p hp
  cases p <;> first
    | exact absurd h hp
    | rfl
    | exact ⟨rfl, rfl, rfl⟩
    | (intro m; cases m <;> first | rfl | exact ⟨rfl, rfl⟩)
    | (intro m n; cases m <;> first | rfl | exact ⟨rfl, rfl, rfl⟩)

theorem only_ringDrop (h : Part.ringDrop ∈ ps) (s : State) (x : _) : only ps s { s with ringDrop := x } := by
  intro p hp
  cases p <;> first
    | exact absurd h hp
    | rfl
    | exact ⟨rfl, rfl, rfl⟩
    | (intro m; cases m <;> first | rfl | exact ⟨rfl, rfl⟩)
    | (intro m n; cases m <;> first | rfl | exact ⟨rfl, rfl, rfl⟩)

theorem only_dram (h : Part.dram ∈ ps) (s : State) (x : _) : only ps s { s with dram := x } := by
  intro p hp
  cases p <;> first
    | exact absurd h hp
    | rfl
    | exact ⟨rfl, rfl, rfl⟩
    | (intro m; cases m <;> first | rfl | exact ⟨rfl, rfl⟩)
    | (intro m n; cases m <;> first | rfl | exact ⟨rfl, rfl, rfl⟩)

theorem only_dq (h : Part.dq ∈ ps) (s : State) (x : _) : only ps s { s with dq := x } := by
  intro p hp
  cases p <;> first
    | exact absurd h hp
    | rfl
    | exact ⟨rfl, rfl, rfl⟩
    | (intro m; cases m <;> first | rfl | exact ⟨rfl, rfl⟩)
    | (intro m n; cases m <;> first | rfl | exact ⟨rfl, rfl, rfl⟩)

theorem only_tim (h : Part.tim ∈ ps) (s : State) (x : _) : only ps s { s with tim := x } := by
  intro p hp
  cases p <;> first
    | exact absurd h hp
    | rfl
    | exact ⟨rfl, rfl, rfl⟩
    | (intro m; cases m <;> first | rfl | exact ⟨rfl, rfl⟩)
    | (intro m n; cases m <;> first | rfl | exact ⟨rfl, rfl, rfl⟩)

theorem only_ang (h : Part.ang ∈ ps) (s : State) (x : _) : only ps s { s with ang := x } := by
  intro p hp
  cases p <;> first
    | exact absurd h hp
    | rfl
    | exact ⟨rfl, rfl, rfl⟩
    | (intro m; cases m <;> first | rfl | exact ⟨rfl, rfl⟩)
    | (intro m n; cases m <;> first | rfl | exact ⟨rfl, rfl, rfl⟩)

theorem only_recd (h : Part.recd ∈ ps) (s : State) (x : _) : only ps s { s with recd := x } := by
  intro p hp
  cases p <;> first
    | exact absurd h hp
    | rfl
    | exact ⟨rfl, rfl, rfl⟩
    | (intro m; cases m <;> first | rfl | exact ⟨rfl, rfl⟩)
    | (intro m n; cases m <;> first | rfl | exact ⟨rfl, rfl, rfl⟩)

theorem only_pcl (h : Part.pcl ∈ ps) (s : State) (x : _) : only ps s { s with pcl := x } := by
  intro p hp
  cases p <;> first
    | exact absurd h hp
    | rfl
    | exact ⟨rfl, rfl, rfl⟩
    | (intro m; cases m <;> first | rfl | exact ⟨rfl, rfl⟩)
    | (intro m n; cases m <;> first | rfl | exact ⟨rfl, rfl, rfl⟩)

theorem only_cam (h : Part.cam ∈ ps) (s : State) (x : _) : only ps s { s with cam := x } := by
  intro p hp
  cases p <;> first
    | exact absurd h hp
    | rfl
    | exact ⟨rfl, rfl, rfl⟩
    | (intro m; cases m <;> first | rfl | exact ⟨rfl, rfl⟩)
    | (intro m n; cases m <;> first | rfl | exact ⟨rfl, rfl, rfl⟩)

theorem only_fus (h : Part.fus ∈ ps) (s : State) (x : _) : only ps s { s with fus := x } := by
  intro p hp
  cases p <;> first
    | exact absurd h hp
    | rfl
    | exact ⟨rfl, rfl, rfl⟩
    | (intro m; cases m <;> first | rfl | exact ⟨rfl, rfl⟩)
    | (intro m n; cases m <;> first | rfl | exact ⟨rfl, rfl, rfl⟩)

theorem only_bus (h : Part.bus ∈ ps) (s : State) (x : _) : only ps s { s with bus := x } := by
  intro p hp
  cases p <;> first
    | exact absurd h hp
    | rfl
    | exact ⟨rfl, rfl, rfl⟩
    | (intro m; cases m <;> first | rfl | exact ⟨rfl, rfl⟩)
    | (intro m n; cases m <;> first | rfl | exact ⟨rfl, rfl, rfl⟩)

theorem only_eth (h : Part.eth ∈ ps) (s : State) (x : _) : only ps s { s with eth := x } := by
  intro p hp
  cases p <;> first
    | exact absurd h hp
    | rfl
    | exact ⟨rfl, rfl, rfl⟩
    | (intro m; cases m <;> first | rfl | exact ⟨rfl, rfl⟩)
    | (intro m n; cases m <;> first | rfl | exact ⟨rfl, rfl, rfl⟩)

theorem only_hst (h : Part.hst ∈ ps) (s : State) (x : _) : only ps s { s with hst := x } := by
  intro p hp
  cases p <;> first
    | exact absurd h hp
    | rfl
    | exact ⟨rfl, rfl, rfl⟩
    | (intro m; cases m <;> first | rfl | exact ⟨rfl, rfl⟩)
    | (intro m n; cases m <;> first | rfl | exact ⟨rfl, rfl, rfl⟩)

theorem only_hsi (h : Part.hsi ∈ ps) (s : State) (x : _) : only ps s { s with hsi := x } := by
  intro p hp
  cases p <;> first
    | exact absurd h hp
    | rfl
    | exact ⟨rfl, rfl, rfl⟩
    | (intro m; cases m <;> first | rfl | exact ⟨rfl, rfl⟩)
    | (intro m n; cases m <;> first | rfl | exact ⟨rfl, rfl, rfl⟩)

theorem only_fab (h : Part.fab ∈ ps) (s : State) (x : _) : only ps s { s with fab := x } := by
  intro p hp
  cases p <;> first
    | exact absurd h hp
    | rfl
    | exact ⟨rfl, rfl, rfl⟩
    | (intro m; cases m <;> first | rfl | exact ⟨rfl, rfl⟩)
    | (intro m n; cases m <;> first | rfl | exact ⟨rfl, rfl, rfl⟩)

theorem only_pnl (h : Part.pnl ∈ ps) (s : State) (x : _) : only ps s { s with pnl := x } := by
  intro p hp
  cases p <;> first
    | exact absurd h hp
    | rfl
    | exact ⟨rfl, rfl, rfl⟩
    | (intro m; cases m <;> first | rfl | exact ⟨rfl, rfl⟩)
    | (intro m n; cases m <;> first | rfl | exact ⟨rfl, rfl, rfl⟩)

theorem only_sec (h : Part.sec ∈ ps) (s : State) (x : _) : only ps s { s with sec := x } := by
  intro p hp
  cases p <;> first
    | exact absurd h hp
    | rfl
    | exact ⟨rfl, rfl, rfl⟩
    | (intro m; cases m <;> first | rfl | exact ⟨rfl, rfl⟩)
    | (intro m n; cases m <;> first | rfl | exact ⟨rfl, rfl, rfl⟩)

theorem only_cfg (h : Part.cfg ∈ ps) (s : State) (x : _) : only ps s { s with cfg := x } := by
  intro p hp
  cases p <;> first
    | exact absurd h hp
    | rfl
    | exact ⟨rfl, rfl, rfl⟩
    | (intro m; cases m <;> first | rfl | exact ⟨rfl, rfl⟩)
    | (intro m n; cases m <;> first | rfl | exact ⟨rfl, rfl, rfl⟩)

theorem only_pwr (h : Part.pwr ∈ ps) (s : State) (x : _) : only ps s { s with pwr := x } := by
  intro p hp
  cases p <;> first
    | exact absurd h hp
    | rfl
    | exact ⟨rfl, rfl, rfl⟩
    | (intro m; cases m <;> first | rfl | exact ⟨rfl, rfl⟩)
    | (intro m n; cases m <;> first | rfl | exact ⟨rfl, rfl, rfl⟩)

theorem only_out (h : Part.out ∈ ps) (s : State) (x : _) : only ps s { s with out := x } := by
  intro p hp
  cases p <;> first
    | exact absurd h hp
    | rfl
    | exact ⟨rfl, rfl, rfl⟩
    | (intro m; cases m <;> first | rfl | exact ⟨rfl, rfl⟩)
    | (intro m n; cases m <;> first | rfl | exact ⟨rfl, rfl, rfl⟩)

theorem only_freeCtr (h : Part.free ∈ ps) (s : State) (x : Nat) : only ps s { s with freeCtr := x } := by
  intro p hp
  cases p <;> first
    | exact absurd h hp
    | rfl
    | exact ⟨rfl, rfl, rfl⟩
    | (intro m; cases m <;> first | rfl | exact ⟨rfl, rfl⟩)
    | (intro m n; cases m <;> first | rfl | exact ⟨rfl, rfl, rfl⟩)

/-! ### Lanes -/

theorem only_lane_lmem (h : Part.lmem ∈ ps) (s : State) (l : LaneId) (x : Lane → _) :
    only ps s (s.modLane l fun y => { y with lmem := x y }) := by
  intro p hp
  cases l <;> cases p <;> first
    | exact absurd h hp
    | rfl
    | exact ⟨rfl, rfl, rfl⟩
    | (intro m; cases m <;> first | rfl | exact ⟨rfl, rfl⟩)
    | (intro m n; cases m <;> first | rfl | exact ⟨rfl, rfl, rfl⟩)

theorem only_lane_sram (h : Part.sram ∈ ps) (s : State) (l : LaneId) (x : Lane → _) :
    only ps s (s.modLane l fun y => { y with sram := x y }) := by
  intro p hp
  cases l <;> cases p <;> first
    | exact absurd h hp
    | rfl
    | exact ⟨rfl, rfl, rfl⟩
    | (intro m; cases m <;> first | rfl | exact ⟨rfl, rfl⟩)
    | (intro m n; cases m <;> first | rfl | exact ⟨rfl, rfl, rfl⟩)

theorem only_lane_shdrop (h : Part.shdrop ∈ ps) (s : State) (l : LaneId) (x : Lane → _) :
    only ps s (s.modLane l fun y => { y with shdrop := x y }) := by
  intro p hp
  cases l <;> cases p <;> first
    | exact absurd h hp
    | rfl
    | exact ⟨rfl, rfl, rfl⟩
    | (intro m; cases m <;> first | rfl | exact ⟨rfl, rfl⟩)
    | (intro m n; cases m <;> first | rfl | exact ⟨rfl, rfl, rfl⟩)

theorem only_lane_hy (h : Part.hy ∈ ps) (s : State) (l : LaneId) (x : Lane → _) :
    only ps s (s.modLane l fun y => { y with hy := x y }) := by
  intro p hp
  cases l <;> cases p <;> first
    | exact absurd h hp
    | rfl
    | exact ⟨rfl, rfl, rfl⟩
    | (intro m; cases m <;> first | rfl | exact ⟨rfl, rfl⟩)
    | (intro m n; cases m <;> first | rfl | exact ⟨rfl, rfl, rfl⟩)

theorem only_lane_entries (h : Part.entries ∈ ps) (s : State) (l : LaneId) (x : Lane → _) :
    only ps s (s.modLane l fun y => { y with entries := x y }) := by
  intro p hp
  cases l <;> cases p <;> first
    | exact absurd h hp
    | rfl
    | exact ⟨rfl, rfl, rfl⟩
    | (intro m; cases m <;> first | rfl | exact ⟨rfl, rfl⟩)
    | (intro m n; cases m <;> first | rfl | exact ⟨rfl, rfl, rfl⟩)

theorem only_lane_lpe (h : Part.lpe ∈ ps) (s : State) (l : LaneId) (x : Lane → _) :
    only ps s (s.modLane l fun y => { y with lpe := x y }) := by
  intro p hp
  cases l <;> cases p <;> first
    | exact absurd h hp
    | rfl
    | exact ⟨rfl, rfl, rfl⟩
    | (intro m; cases m <;> first | rfl | exact ⟨rfl, rfl⟩)
    | (intro m n; cases m <;> first | rfl | exact ⟨rfl, rfl, rfl⟩)

theorem only_lane_sels (h : Part.sels ∈ ps) (s : State) (l : LaneId) (x : Lane → _) :
    only ps s (s.modLane l fun y => { y with sels := x y }) := by
  intro p hp
  cases l <;> cases p <;> first
    | exact absurd h hp
    | rfl
    | exact ⟨rfl, rfl, rfl⟩
    | (intro m; cases m <;> first | rfl | exact ⟨rfl, rfl⟩)
    | (intro m n; cases m <;> first | rfl | exact ⟨rfl, rfl, rfl⟩)

theorem only_lane_levels (h : Part.levels ∈ ps) (s : State) (l : LaneId) (x : Lane → _) :
    only ps s (s.modLane l fun y => { y with levels := x y }) := by
  intro p hp
  cases l <;> cases p <;> first
    | exact absurd h hp
    | rfl
    | exact ⟨rfl, rfl, rfl⟩
    | (intro m; cases m <;> first | rfl | exact ⟨rfl, rfl⟩)
    | (intro m n; cases m <;> first | rfl | exact ⟨rfl, rfl, rfl⟩)

theorem only_lane_strs (h : Part.strs ∈ ps) (s : State) (l : LaneId) (x : Lane → _) :
    only ps s (s.modLane l fun y => { y with strs := x y }) := by
  intro p hp
  cases l <;> cases p <;> first
    | exact absurd h hp
    | rfl
    | exact ⟨rfl, rfl, rfl⟩
    | (intro m; cases m <;> first | rfl | exact ⟨rfl, rfl⟩)
    | (intro m n; cases m <;> first | rfl | exact ⟨rfl, rfl, rfl⟩)

/-! ### Registers and postings -/

theorem only_rset (h : Part.regs ∈ ps) (s : State) (l : LaneId) (a v : Nat) : only ps s (rset s l a v) := by
  intro p hp
  unfold rset
  split
  · cases l <;> cases p <;> first
      | exact absurd h hp
      | rfl
      | exact ⟨rfl, rfl, rfl⟩
      | (intro m; cases m <;> first | rfl | exact ⟨rfl, rfl⟩)
      | (intro m n; cases m <;> first | rfl | exact ⟨rfl, rfl, rfl⟩)
  · cases p <;> first
      | exact absurd h hp
      | rfl
      | exact ⟨rfl, rfl, rfl⟩
      | (intro m; cases m <;> first | rfl | exact ⟨rfl, rfl⟩)
      | (intro m n; cases m <;> first | rfl | exact ⟨rfl, rfl, rfl⟩)

theorem only_rsetf (h : Part.regs ∈ ps) (s : State) (l : LaneId) (a hi lo v : Nat) : only ps s (rsetf s l a hi lo v) :=
  only_rset h s l a _

theorem only_rsetb (h : Part.regs ∈ ps) (s : State) (l : LaneId) (a i : Nat) (v : Bool) : only ps s (rsetb s l a i v) :=
  only_rset h s l a _

theorem only_sput (h : Part.regs ∈ ps) (s : State) (b : Block) (o v : Nat) : only ps s (sput s b o v) := only_rset h s _ _ _

theorem only_sputf (h : Part.regs ∈ ps) (s : State) (b : Block) (o hi lo v : Nat) : only ps s (sputf s b o hi lo v) :=
  only_rset h s _ _ _

theorem only_sputb (h : Part.regs ∈ ps) (s : State) (b : Block) (o i : Nat) (v : Bool) : only ps s (sputb s b o i v) :=
  only_rset h s _ _ _

theorem only_scount (h : Part.regs ∈ ps) (s : State) (b : Block) (o n : Nat) : only ps s (scount s b o n) := only_rset h s _ _ _

theorem only_reject (h : Part.regs ∈ ps) (s : State) (l : LaneId) (b : Block) (o r : Nat) : only ps s (reject s l b o r) :=
  only_rset h s l _ _

/-- A posting changes an event queue and its counts only (R90, R93). -/
theorem Core.bare_post (c : Core) (e : EvEntry) : (c.post e).bare = c.bare := by
  by_cases h : c.evq.length < (if e.src = 2 then 64 else 63) <;> unfold Core.post <;> simp only [h, if_true, if_false] <;> split <;> rfl

theorem only_postCore (h : Part.events ∈ ps) (s : State) (l : LaneId) (c : Nat) (e : EvEntry) : only ps s (postCore s l c e) := by
  intro p hp
  cases p with
  | events => exact absurd h hp
  | cores =>
    intro m d
    unfold postCore
    by_cases hm : m ≠ l ∨ d ≠ c
    · rw [State.core_modCore _ _ _ _ _ _ hm]
    · obtain ⟨rfl, rfl⟩ : m = l ∧ d = c := by
        constructor
        · exact Classical.byContradiction fun x => hm (.inl x)
        · exact Classical.byContradiction fun x => hm (.inr x)
      rw [State.core_modCore_same, Core.bare_post]
  | regs => intro m a; simp
  | _ => cases l <;> first
    | rfl
    | exact ⟨rfl, rfl, rfl⟩
    | (intro m; cases m <;> first | rfl | exact ⟨rfl, rfl⟩)

theorem only_both (f : LaneId → State → State) (hf : ∀ l s, only ps s (f l s)) (s : State) : only ps s (s.both f) :=
  only_trans (hf .a s) (hf .b _)

theorem only_foldl {α : Type} (f : State → α → State) (hf : ∀ s x, only ps s (f s x)) (xs : List α) (s : State) :
    only ps s (xs.foldl f s) := by
  induction xs generalizing s with
  | nil => exact only_refl _ _
  | cons x xs ih => exact only_trans (hf s x) (ih _)

theorem only_ite (c : Prop) [Decidable c] {s t u : State} (h : only ps s t) (k : only ps s u) : only ps s (if c then t else u) := by
  split
  · exact h
  · exact k

theorem only_postEngineRaw (h : Part.events ∈ ps) (s : State) (b : Block) (k d : Nat) : only ps s (postEngineRaw s b k d) :=
  only_both _ (fun _ _ => only_postCore h _ _ _ _) s

theorem only_postEngine (h : Part.events ∈ ps) (s : State) (b : Block) (k d : Nat) : only ps s (postEngine s b k d) :=
  only_ite _ (only_postEngineRaw h s b k d) (only_refl _ _)

theorem only_postOut (h : Part.events ∈ ps) (s : State) (b : Block) (k c d : Nat) : only ps s (postOut s b k c d) :=
  only_both _ (fun _ _ => only_ite _ (only_postCore h _ _ _ _) (only_refl _ _)) s

theorem only_postRunning (h : Part.events ∈ ps) (s : State) (l : LaneId) (k a d : Nat) : only ps s (postRunning s l k a d) :=
  only_foldl _ (fun _ _ => only_ite _ (only_postCore h _ _ _ _) (only_refl _ _)) _ s

theorem only_modSeq (h : Part.seqs ∈ ps) (s : State) (n : Nat) (f : Seq → Seq) : only ps s (s.modSeq n f) := only_seqs h s _

theorem only_dramWrite (h : Part.dram ∈ ps) (k : Part.dq ∈ ps) (s : State) (g a : Nat) (bs : List Byte) :
    only ps s (dramWrite s g a bs) :=
  only_trans (only_dram h s (tmod s.dram g fun m => mwriteN m a bs)) (only_dq k _ (s.dq.heal g a bs.length))

theorem only_dramMeet (h : Part.dq ∈ ps) (s : State) (r : DramReader) (g a n : Nat) : only ps s (dramMeet s r g a n) :=
  only_dq h s _

/-- Reading where no beat is bad changes nothing. -/
theorem dramMeet_clean (s : State) (r : DramReader) (g a n : Nat) (h : s.dq.bad = []) : dramMeet s r g a n = s := by
  have e : s.dq.meet r g a n = s.dq := by cases hq : s.dq; simp_all [DramQ.meet]
  rw [dramMeet, e]

/-- A record for a ring whose requester is served goes there at once; else it waits, and nothing else changes. -/
theorem ringSend_eq (s : State) (w : RingRec) :
    (ringHeld s w.rq = false ∧ ringSend s w = ringNow s w) ∨
    (ringHeld s w.rq = true ∧ ringSend s w = { s with dq := { s.dq with wait := s.dq.wait ++ [w] } }) := by
  unfold ringSend
  cases h : ringHeld s w.rq <;> simp

/-! ### The recorder -/

theorem only_recStartFlush (h : Part.recd ∈ ps) (s : State) : only ps s (recStartFlush s) := by
  unfold recStartFlush
  dsimp only
  split
  · exact only_recd h s _
  · exact only_ite _ (only_recd h s _) (only_recd h s _)
  · exact only_recd h s _

theorem only_recPut (h : Part.recd ∈ ps) (s : State) (c o : Nat) (d : List Byte) : only ps s (recPut s c o d) := by
  unfold recPut
  exact only_ite _ (only_trans (only_recd h s _) (only_recStartFlush h _)) (only_recd h s _)

theorem only_recGap (h : Part.recd ∈ ps) (s : State) (a b : Bool) : only ps s (recGap s a b) := by
  unfold recGap
  exact only_trans (only_recd h s _) (only_recPut h _ _ _ _)

theorem only_recLose (h : Part.recd ∈ ps) (s : State) (c : Nat) : only ps s (recLose s c) := only_recd h s _

theorem only_recEnter (h : Part.recd ∈ ps) (k : Part.regs ∈ ps) (e : Part.events ∈ ps) (s : State) (c o : Nat) (d : List Byte) :
    only ps s (recEnter s c o d) := by
  unfold recEnter
  refine only_ite _ ?_ (only_recPut h _ _ _ _)
  have full : only ps s (scount { recLose s c with recd := { (recLose s c).recd with full := true } } .recd 0x070 1) :=
    only_trans (only_trans (only_recLose h s c) (only_recd h _ _)) (only_scount k _ _ _ _)
  exact only_ite _ full (only_trans full (only_postEngine e _ _ _ _))

/-- A record that reaches the recorder changes the recorder, its count of lost records and, when its buffer has just become full, the
event queues (R481, R487). -/
theorem only_recSubmit (h : Part.recd ∈ ps) (k : Part.regs ∈ ps) (e : Part.events ∈ ps) (s : State) (c o : Nat) (d : List Byte) :
    only ps s (recSubmit s c o d) := by
  unfold recSubmit
  refine only_ite _ (only_refl _ _) ?_
  split
  · exact only_recLose h s c
  · exact only_trans (only_ite _ (only_recGap h s _ _) (only_refl _ _)) (only_recEnter h k e _ _ _ _)

theorem only_record (h : Part.recd ∈ ps) (k : Part.regs ∈ ps) (e : Part.events ∈ ps) (s : State) (l : LaneId) (b : Block) (c : Nat)
    (d : List Byte) : only ps s (record s l b c d) := only_recSubmit h k e s _ _ _

/-! ### The ends of commands -/

theorem tget_tmap_run (x y : Tab Core) (n : Nat) :
    tget (tmap y fun n c => { c with run := (tget x n).run }) n = { tget y n with run :=
      if (tfind y n).isSome then (tget x n).run else RunState.stopped } := by
  have : tfind (tmap y fun n c => { c with run := (tget x n).run }) n =
      (tfind y n).map fun c => { c with run := (tget x n).run } := by
    induction y with
    | nil => rfl
    | cons p y ih =>
      obtain ⟨k, c⟩ := p
      by_cases hk : k = n
      · subst hk; simp [tmap, tfind]
      · have ih' := ih
        simp only [tmap] at ih'
        simp [tmap, tfind, hk, ih']
  unfold tget at this ⊢
  rw [this]
  cases tfind y n with
  | none => rfl
  | some c => rfl

theorem keepLane_core (up : Bool) (x y : Lane) (n : Nat) :
    (tget (keepLane up x y).cores n).evq = (tget y.cores n).evq ∧ (tget (keepLane up x y).cores n).lost = (tget y.cores n).lost ∧
      (tget (keepLane up x y).cores n).ovf = (tget y.cores n).ovf := by
  by_cases hc : y.cores = x.cores
  · rw [keepLane_same up x y hc]
    exact ⟨rfl, rfl, rfl⟩
  cases up
  · simp only [keepLane, Bool.false_eq_true, if_false, if_neg hc]
    rw [tget_tmap_run]
    exact ⟨rfl, rfl, rfl⟩
  · exact ⟨rfl, rfl, rfl⟩

theorem keepLane_bare (up : Bool) (x y : Lane) (n : Nat) (h : (tget y.cores n).bare = (tget x.cores n).bare) :
    (tget (keepLane up x y).cores n).bare = (tget x.cores n).bare := by
  by_cases hc : y.cores = x.cores
  · rw [keepLane_same up x y hc, h]
  cases up
  · simp only [keepLane, Bool.false_eq_true, if_false, if_neg hc]
    rw [tget_tmap_run, ← h]
    have hr : (tget y.cores n).run = (tget x.cores n).run := by
      have := congrArg Core.run h
      exact this
    by_cases hs : (tfind y.cores n).isSome = true
    · simp [hs, Core.bare, ← hr]
    · have : tget y.cores n = default := by
        cases hf : tfind y.cores n with
        | none => simp [tget, hf]
        | some c => simp [hf] at hs
      simp [hs, Core.bare, this]
      rfl
  · exact h

/-- Sealing the work of the engines keeps a frame. -/
theorem only_keep {s t : State} (h : only ps s t) : only ps s (keep s t) := by
  intro p hp
  have h := h p hp
  cases p with
  | cores =>
    intro l c
    simp only [State.core, keep_lane]
    exact keepLane_bare _ _ _ _ (h l c)
  | events =>
    intro l c
    have h := h l c
    have k := keepLane_core s.lanesUp (s.lane l) (t.lane l) c
    simp only [State.core, keep_lane] at h ⊢
    rw [k.1, k.2.1, k.2.2]
    exact h
  | regs =>
    intro l a
    rw [← h l a]
    cases l <;> rfl
  | lmem | sram | shdrop | dog | hy | entries | lpe | sels | levels | strs => intro l; have := h l; cases l <;> exact this
  | _ => exact h

theorem only_modeStep (s t : State) : only ps t (modeStep s t) := by
  intro p _
  unfold modeStep
  split
  · exact only_refl [] t p (by simp)
  · cases p <;> first
    | rfl
    | exact ⟨rfl, rfl, rfl⟩
    | (intro m; cases m <;> first | rfl | exact ⟨rfl, rfl⟩)
    | (intro m n; cases m <;> first | rfl | exact ⟨rfl, rfl, rfl⟩)

theorem supFrame_act (s t : State) : supFrame s (modeStep s (keep s t)) := by
  refine ⟨by simp, by simp, by simp, by simp, by simp, by simp, by simp, by simp, by simp, by simp, by simp, ?_⟩
  intro l
  rw [modeStep_lane, keep_lane]
  exact ⟨rfl, rfl, rfl, rfl⟩

/-- How a command of the engines ends on a module with power, with its frame. -/
theorem endsIn_act {i : Instr} {s t : State} (h : exec i s = act s t) (hd : s.dark = false) (hf : only ps s t) {P : State → Prop}
    (hP : P (modeStep s (keep s t))) : EndsIn ps i s P :=
  ⟨_, h.trans (act_lit hd t), supFrame_act s t, only_trans (only_keep hf) (only_modeStep _ _), hP⟩

/-- The same for a command of the lanes' own hardware, while the lanes run. -/
theorem endsIn_actL {i : Instr} {s t : State} (h : exec i s = actL s t) (hd : s.lanesUp = true) (hf : only ps s t)
    {P : State → Prop} (hP : P (modeStep s (keep s t))) : EndsIn ps i s P :=
  ⟨_, h.trans (actL_up hd t), supFrame_act s t, only_trans (only_keep hf) (only_modeStep _ _), hP⟩

theorem supFrame_refl (s : State) : supFrame s s :=
  ⟨rfl, rfl, rfl, rfl, rfl, rfl, rfl, rfl, rfl, rfl, rfl, fun _ => ⟨rfl, rfl, rfl, rfl⟩⟩

end Sys2Proof.Machine
end

