-- ==== Sys2Proof/Tests/Slice0.lean ====
section
/-! SUPPORT. Tests of the model: values worked out by hand from the manual's tables, ill-formed commands that WellFormed refuses,
and, for every statement with hypotheses, states and operands that meet them. -/

set_option Elab.async false

namespace Sys2Proof.Tests

open Sys2Proof.Machine

/-! ### Small states -/

/-- The state that a command leaves. -/
def after (i : Instr) (s : State) : State :=
  match exec i s with
  | .next t => t
  | _ => s

/-- Lane A, core 0, guard p0. -/
def i0 : Issue := ⟨.a, 0, 0, false⟩

/-- A core that runs at 0x100. -/
def busy : Core := { run := .running, pc := 0x100 }

/-- A module that runs in DUAL, Lane A active, with core 0 of each lane running. -/
def up : State :=
  { State.reset with
    sup := { State.reset.sup with laneMode := .dual, phase := .running }
    laneA := { live := true, cores := [(0, busy)] }
    laneB := { live := true, cores := [(0, busy)] } }

/-- The same with registers of shared engines set. -/
def withRegs (rs : List (Block × Nat × Nat)) : State := rs.foldl (fun s r => sput s r.1 r.2.1 r.2.2) up

/-- Core 0 of Lane A changed. -/
def withCore (f : Core → Core) : State := up.modCore .a 0 f

/-- The same with value registers of core 0 of Lane A set. -/
def withV (vs : List (Nat × Word)) : State := withCore fun c => { c with v := vs }

/-- Core 0 of Lane A after an instruction on the value registers given. -/
def ranOn (i : Instr) (vs : List (Nat × Word)) : Core := (after i (withV vs)).core .a 0

/-- v3 after an instruction on v1 and v2. -/
def v3 (i : Instr) (x y : Word) : Word := (ranOn i [(1, x), (2, y)]).getV 3

/-! ### WellFormed: an ill-formed command for each check -/

theorem smoke_can_standard_identifier :
    (Instr.canReceive 0 0x800 false false false false false 0 [] 0).wellFormed = false ∧
    (Instr.canReceive 0 0x7FF false false false false false 0 [] 0).wellFormed = true := by decide

theorem smoke_can_remote_is_classic :
    (Instr.canReceive 0 1 true true true false false 0 [] 0).wellFormed = false ∧
    (Instr.canReceive 0 1 true true false false false 4 [] 0).wellFormed = true := by decide

theorem smoke_can_bytes :
    (Instr.canReceive 0 1 false false false false false 2 [7] 0).wellFormed = false ∧
    (Instr.canReceive 0 1 false false false false false 9 (List.replicate 9 0) 0).wellFormed = false ∧
    (Instr.canReceive 0 1 false false true true false 9 (List.replicate 9 0) 0).wellFormed = false ∧
    (Instr.canReceive 0 1 false false true true false 12 (List.replicate 12 0) 0).wellFormed = true ∧
    (Instr.canReceive 0 1 false false false true false 0 [] 0).wellFormed = false ∧
    (Instr.canReceive 0 1 false false false false true 0 [] 0).wellFormed = false := by decide

theorem smoke_lin_response : (Instr.linResponse 0 (List.replicate 10 0) false).wellFormed = false := by decide

theorem smoke_lin_wake : (Instr.linWake 0 37499).wellFormed = false ∧ (Instr.linWake 0 1250001).wellFormed = false ∧
    (Instr.linWake 0 37500).wellFormed = true := by decide

theorem smoke_line_packet : (Instr.linePacket 0 0 0 (List.replicate 65536 0) false false).wellFormed = false := by
  decide +kernel

theorem smoke_eth_receive : (Instr.ethReceive 0 [] false 0).wellFormed = false := by decide

/-! ### The module as a whole -/

theorem test_no_bits_no_word : decodeTableWord 32 0 = none := by decide

theorem witness_step : step { up with pending := [.failSelf .a, .ophrsTick] } = exec (.failSelf .a) { up with pending := [.ophrsTick] } ∧
    step { up with pending := [] } = .next (tick up) := ⟨rfl, rfl⟩

theorem witness_tick : (tick up).now = 1 ∧ tick State.reset = State.reset ∧
    (tick { up with sup := { up.sup with phase := .parked } }).tim.count = 17179869184 := by decide +kernel

theorem witness_lane_inv : LaneInv up ∧ MemInv up := by
  refine ⟨by unfold LaneInv; decide, fun g => rfl, fun l => ?_⟩
  cases l <;> exact ⟨rfl, fun _ => rfl⟩

theorem witness_lane_inv_rejoin :
    LaneInv { up with
      sup := { up.sup with laneMode := .rejoin, rejoin := some { lane := .b } }
      laneB := { up.laneB with live := false, struck := true } } := by
  unfold LaneInv; decide

theorem witness_lane_inv_takeover :
    LaneInv { up with sup := { up.sup with takeover := some { lane := .a } }, laneA := { up.laneA with live := false, struck := true } } := by
  unfold LaneInv; decide

theorem witness_mseq : Instr.ofCore (.recFreeze .a) = false ∧ up.sup.mseq < 256 ∧ (after (.recFreeze .a) up).sup.phase ≠ .off ∧
    (after (.recFreeze .a) up).recd.pcyc = up.recd.pcyc ∧ (after (.recFreeze .a) up).sup.mseq = 1 ∧ (after .ophrsTick up).sup.mseq = 0 := by
  decide +kernel

theorem witness_off : State.reset.sup.phase = .off ∧ Instr.ofCore (.recFlush .a) = false ∧
    after (.recFlush .a) State.reset = State.reset := by decide +kernel

theorem witness_engines : Instr.ofSupervisor (.recFlush .a) = false ∧ (after (.recFlush .a) up).recd.state = .flushing := by
  decide +kernel

theorem witness_not_owner : ownedCommand (.recFlush .b) = some (.b, .recd, 8) ∧ up.dark = false ∧ up.owns .b = false ∧
    rget (after (.recFlush .b) up) .b 0xF090000C = 0x80010203 := by decide +kernel

theorem witness_faulty : ownedCommand (.recFlush .a) = some (.a, .recd, 8) ∧
    ({ up with hardflt := [(Block.recd.base, true)] } : State).faulty .recd = true ∧
    rget (after (.recFlush .a) { up with hardflt := [(Block.recd.base, true)] }) .a 0xF090000C = 0x80010205 := by decide +kernel

/-- R9, R12, R17: EVT.CTRL.FIRE_EN is RW at bit 0, the block has no RWL field there; LPE.LFLAG (R185) is RW. -/
theorem witness_generic : regAddr 0x140000 = Block.evt.base + 0 ∧ blockOf (regAddr 0x140000) = .evt ∧
    rget (after (.genericRegisterWrite .a 0 0x140000 1) up) .a 0xF0140000 = 1 ∧
    isLocked (after (.blockLock .a .hal) up) .a .hal = true ∧ isLocked (after (.blockLock .a .pwr) up) .a .pwr = true ∧
    rget (after (.readClear .a 0 0x10000C) (rset up .a 0xF010000C 0x80050004)) .a 0xF010000C = 0x80000004 ∧
    rget (after (.latchedPairRead .a 0 0x900028) { up with recd := { up.recd with next := 2 ^ 33 } }) .a 0xF090002C = 2 := by
  decide +kernel

/-! ### Ranly: what an instruction answers, by the manual's tables -/

theorem witness_ready : coreReady up i0 4 ∧ coreReady up i0 8 := by unfold coreReady; decide

theorem test_alu_sums : v3 (.add i0 3 1 2) 0xFFFFFFFF 2 = 1 ∧ v3 (.sub i0 3 1 2) 0 1 = 0xFFFFFFFF ∧
    v3 (.adds i0 3 1 2) 0x7FFFFFFF 1 = 0x7FFFFFFF ∧ v3 (.subs i0 3 1 2) 0x80000000 1 = 0x80000000 ∧
    (ranOn (.adds i0 3 1 2) [(1, 0x7FFFFFFF), (2, 1)]).sat = true ∧ (ranOn (.add i0 3 1 2) [(1, 0x7FFFFFFF), (2, 1)]).sat = false ∧
    v3 (.addi i0 3 1 0xFFF) 5 0 = 4 := by decide +kernel

theorem test_alu_logic : v3 (.and i0 3 1 2) 0xF0F0 0xFF00 = 0xF000 ∧ v3 (.or i0 3 1 2) 0xF0F0 0xFF00 = 0xFFF0 ∧
    v3 (.xor i0 3 1 2) 0xF0F0 0xFF00 = 0x0FF0 ∧ v3 (.andn i0 3 1 2) 0xF0F0 0xFF00 = 0x00F0 ∧
    v3 (.andi i0 3 1 0xF0F) 0xFFFFFFFF 0 = 0xF0F ∧ v3 (.ori i0 3 1 0x800) 1 0 = 0x801 ∧ v3 (.xori i0 3 1 0x801) 1 0 = 0x800 := by
  decide +kernel

theorem test_alu_shifts : v3 (.shl i0 3 1 2) 1 33 = 2 ∧ v3 (.shr i0 3 1 2) 0x80000000 31 = 1 ∧
    v3 (.sar i0 3 1 2) 0x80000000 31 = 0xFFFFFFFF ∧ v3 (.ror i0 3 1 2) 1 1 = 0x80000000 ∧
    v3 (.shi i0 3 1 .shl 4) 0x10000001 0 = 0x10 ∧ v3 (.shi i0 3 1 .shr 4) 0x80000000 0 = 0x08000000 ∧
    v3 (.shi i0 3 1 .sar 4) 0x80000000 0 = 0xF8000000 ∧ v3 (.shi i0 3 1 .ror 0) 7 0 = 7 := by decide +kernel

theorem test_alu_choices : v3 (.min i0 3 1 2) 0xFFFFFFFF 1 = 0xFFFFFFFF ∧ v3 (.max i0 3 1 2) 0xFFFFFFFF 1 = 1 ∧
    v3 (.minu i0 3 1 2) 0xFFFFFFFF 1 = 1 ∧ v3 (.maxu i0 3 1 2) 0xFFFFFFFF 1 = 0xFFFFFFFF ∧ v3 (.clz i0 3 1) 0 0 = 32 ∧
    v3 (.clz i0 3 1) 0x10000 0 = 15 ∧ v3 (.abs i0 3 1) 0x80000000 0 = 0x7FFFFFFF ∧ v3 (.abs i0 3 1) 0xFFFFFFFE 0 = 2 ∧
    v3 (.sextb i0 3 1) 0x180 0 = 0xFFFFFF80 ∧ v3 (.sexth i0 3 1) 0x18000 0 = 0xFFFF8000 := by decide +kernel

theorem test_alu_products : v3 (.mul i0 3 1 2) 0x10000 0x10000 = 0 ∧ v3 (.mulh i0 3 1 2) 0xFFFFFFFF 2 = 0xFFFFFFFF ∧
    v3 (.mulhu i0 3 1 2) 0xFFFFFFFF 2 = 1 := by decide +kernel

/-- R59: division by zero, and the most negative number by −1. -/
theorem test_divisions : v3 (.div i0 3 1 2) 7 0 = 0xFFFFFFFF ∧ v3 (.divu i0 3 1 2) 7 0 = 0xFFFFFFFF ∧
    v3 (.rem i0 3 1 2) 7 0 = 7 ∧ v3 (.remu i0 3 1 2) 7 0 = 7 ∧ v3 (.div i0 3 1 2) 0x80000000 0xFFFFFFFF = 0x80000000 ∧
    v3 (.rem i0 3 1 2) 0x80000000 0xFFFFFFFF = 0 ∧ v3 (.div i0 3 1 2) 0xFFFFFFF9 2 = 0xFFFFFFFD ∧
    v3 (.rem i0 3 1 2) 0xFFFFFFF9 2 = 0xFFFFFFFF := by decide +kernel

theorem test_constants : v3 (.movl i0 3 0x8001) 0 0 = 0x8001 ∧ (ranOn (.movh i0 3 0xABCD) [(3, 0x11112222)]).getV 3 = 0xABCD2222 ∧
    (ranOn (.movw i0 3 0xDEADBEEF) []).getV 3 = 0xDEADBEEF ∧ (ranOn (.movw i0 3 0xDEADBEEF) []).pc = 0x108 ∧
    (ranOn (.movl i0 3 0) []).pc = 0x104 := by decide +kernel

theorem test_compares : (ranOn (.cmp i0 1 .lt 1 2) [(1, 0xFFFFFFFF), (2, 0)]).pred 1 = true ∧
    (ranOn (.cmp i0 1 .ltu 1 2) [(1, 0xFFFFFFFF), (2, 0)]).pred 1 = false ∧ (ranOn (.cmp i0 0 .ne 1 2) []).pred 0 = true ∧
    (ranOn (.cmpi i0 2 .eq 1 0x7FF) [(1, 0xFFFFFFFF)]).pred 2 = true ∧ (ranOn (.plog i0 3 0 1 .andn) []).pred 3 = true ∧
    (ranOn (.plog i0 3 0 1 .xnor) []).pred 3 = false := by decide +kernel

theorem test_packed : v3 (.padd i0 3 1 2) 0x7FFF0001 0x00010001 = 0x7FFF0002 ∧ v3 (.psub i0 3 1 2) 0x80000001 0x00010001 = 0x80000000 ∧
    v3 (.pmulr i0 3 1 2) 0x80004000 0x80004000 = 0x7FFF2000 ∧ v3 (.pabs i0 3 1) 0x8000FFFF 0 = 0x7FFF0001 ∧
    v3 (.pneg i0 3 1) 0x80000001 0 = 0x7FFFFFFF ∧ v3 (.pmin i0 3 1 2) 0xFFFF0001 0x00000000 = 0xFFFF0000 ∧
    v3 (.pmax i0 3 1 2) 0xFFFF0001 0x00000000 = 0x00000001 ∧ v3 (.pshra i0 3 1 2) 0x80000010 0x00040004 = 0xF8000001 ∧
    v3 (.pshls i0 3 1 2) 0x40000001 0x00010001 = 0x7FFF0002 ∧ v3 (.packll i0 3 1 2) 0x11112222 0x33334444 = 0x22224444 ∧
    v3 (.packhh i0 3 1 2) 0x11112222 0x33334444 = 0x11113333 ∧ v3 (.packhl i0 3 1 2) 0x11112222 0x33334444 = 0x11114444 ∧
    v3 (.pswap i0 3 1) 0x11112222 0 = 0x22221111 := by decide +kernel

/-- a0 after an accumulator instruction on v1 = 0x00020003 and v2 = 0x00050007, from a0 = 100. -/
def a0 (i : Instr) : Int :=
  (((after i (withCore fun c => { c with v := [(1, 0x00020003), (2, 0x00050007)], ac := [(0, 100)] })).core .a 0).getA 0).toInt

theorem test_macs : a0 (.macLl i0 0 1 2) = 121 ∧ a0 (.macLh i0 0 1 2) = 115 ∧ a0 (.macHl i0 0 1 2) = 114 ∧ a0 (.macHh i0 0 1 2) = 110 ∧
    a0 (.msuLl i0 0 1 2) = 79 ∧ a0 (.msuLh i0 0 1 2) = 85 ∧ a0 (.msuHl i0 0 1 2) = 86 ∧ a0 (.msuHh i0 0 1 2) = 90 ∧
    a0 (.mac2 i0 0 1 2) = 131 ∧ a0 (.mac2x i0 0 1 2) = 129 ∧ a0 (.msu2 i0 0 1 2) = 69 ∧ a0 (.mulLl i0 0 1 2) = 21 ∧
    a0 (.mul2 i0 0 1 2) = 31 ∧ a0 (.aclr i0 0) = 0 ∧ a0 (.acldq i0 0 1) = 98304 ∧ a0 (.acset i0 0 1 2) = 0x0700020003 ∧
    a0 (.acsar i0 0 2) = 0 := by decide +kernel

theorem test_accumulator_saturates :
    let s := withCore fun c => { c with v := [(1, 1), (2, 1)], ac := [(0, 0x7FFFFFFFFF)] }
    ((after (.macLl i0 0 1 2) s).core .a 0).getA 0 = 0x7FFFFFFFFF ∧ ((after (.macLl i0 0 1 2) s).core .a 0).aov = true ∧
    ((after (.acrd i0 3 0) s).core .a 0).getV 3 = 0xFFFFFFFF ∧ ((after (.acrh i0 3 0) s).core .a 0).getV 3 = 0x7F ∧
    ((after (.ext i0 3 0 0) s).core .a 0).getV 3 = 0x7FFF ∧ ((after (.ext i0 3 0 0) s).core .a 0).sat = true := by decide +kernel

theorem test_branches : (ranOn (.b i0 0x3FFFFF) []).pc = 0xFC ∧ (ranOn (.bl i0 2) []).pc = 0x108 ∧ (ranOn (.bl i0 2) []).getV 31 = 0x104 ∧
    (ranOn (.jr i0 1) [(1, 0x200)]).pc = 0x200 ∧ (ranOn (.jlr i0 31) [(31, 0x200)]).pc = 0x200 ∧
    (ranOn (.jlr i0 31) [(31, 0x200)]).getV 31 = 0x104 ∧
    (((after (.rtt i0) (withCore fun c => { c with trap := true, tpc := 0x40 })).core .a 0).pc = 0x40) := by decide +kernel

/-- One case of each row of R81 and R114, on cores that are ready. -/
theorem witness_traps :
    ((withV []).at i0 [1] |>.getV 1).toNat % 4 = 0 ∧ (((withV [(1, 2)]).at i0 [1]).getV 1).toNat % 4 ≠ 0 ∧
    (((withV [(31, 1)]).at i0 [1, 31]).getV 31).toNat % 4 ≠ 0 ∧ ((withCore fun c => { c with tpc := 2 }).at i0 []).tpc.toNat % 4 ≠ 0 ∧
    effAddr ((withV [(1, 0x00100000)]).at i0 [3, 1]) 1 0 = 0x00100000 ∧
    (3 : VReg).val % 2 = 1 ∧ (0x01000000#32).extractLsb' 24 4 ≠ 0 := by decide +kernel

theorem witness_trap_buffers : goodBuffer 0 32 ∧ ¬ goodBuffer 2 32 ∧ ¬ goodBuffer 0xFFFF0 32 ∧ unmappedAddr 0x00100000 ∧ unmappedAddr 0x80000000 ∧
    ¬ unmappedAddr 0xF0000000 := by unfold goodBuffer unmappedAddr; decide

theorem test_trap_entry :
    let c := ranOn (.ill i0 5) []
    c.trap = true ∧ c.tcause = 1 ∧ c.tpc = 0x100 ∧ c.tval = 5 ∧ c.pc = 0 ∧ c.run = .running ∧
    (ranOn (.ldw i0 3 1 0) [(1, 0x00100000)]).tcause = 3 ∧ (ranOn (.ldw i0 3 1 1) []).tcause = 2 ∧
    (ranOn (.sth i0 3 1 0) [(1, 0xF0000010)]).tcause = 3 ∧ (ranOn (.take i0 3) []).tcause = 0x11 ∧
    (ranOn (.jput i0 3 1) [(1, 2)]).tcause = 0x10 := by decide +kernel

theorem test_second_trap_halts :
    let t := after (.ill i0 5) ((withCore fun c => { c with trap := true, tcause := 2 }).modCore .a 1 fun c => { c with run := .running })
    (t.core .a 0).run = .halted ∧ (t.core .a 1).evq = [⟨2, 2, 0, 0x201, false⟩] := by decide +kernel

theorem test_guard_false : let t := after (.ill ⟨.a, 0, 1, false⟩ 0) up
    (t.core .a 0).pc = 0x104 ∧ (t.core .a 0).trap = false ∧ (up.core .a 0).guard ⟨.a, 0, 1, false⟩ = false ∧
    ((after (.movw ⟨.a, 0, 0, true⟩ 3 9) up).core .a 0).pc = 0x108 := by decide +kernel

theorem test_special_registers : (ranOn (.mfs i0 3 0) []).getV 3 = 4 ∧ (ranOn (.mfs i0 3 10) []).getV 3 = 2 ∧
    (ranOn (.mfs i0 3 11) []).getV 3 = 1 ∧ (ranOn (.mfs i0 3 127) []).getV 3 = 0 ∧ (ranOn (.mts i0 1 4) [(1, 0x1003)]).tvec = 0x1000 ∧
    (ranOn (.mts i0 1 0) [(1, 0xB)]).trap = false ∧ (ranOn (.mts i0 1 0) [(1, 0xB)]).algn = false ∧
    (ranOn (.mts i0 1 11) [(1, 0xFE)]).pred 0 = true ∧
    ((after (.mfs i0 3 8) { up with now := 3 }).core .a 0).getV 3 = 12 := by decide +kernel

/-- A store, its drain, and a load of what it stored; the load forwards from the buffer before the drain. -/
theorem test_load_store :
    let s := withV [(1, 0x200), (2, 0x11223380)]
    let t := after (.stw i0 2 1 0) s
    let u := after (.storeDrain .a 0 0) t
    (t.core .a 0).stores.length = 1 ∧ mread (tget t.laneA.lmem 0) 0x200 = 0 ∧ mread (tget u.laneA.lmem 0) 0x200 = 0x80 ∧
    ((after (.loadReturn .a 0 3) (after (.ldb i0 3 1 0) u)).core .a 0).getV 3 = 0xFFFFFF80 ∧
    ((after (.loadReturn .a 0 3) (after (.ldhu i0 3 1 0) u)).core .a 0).getV 3 = 0x3380 ∧
    ((after (.loadReturn .a 0 3) (after (.ldh i0 3 1 2) u)).core .a 0).getV 3 = 0x1122 ∧
    ((after (.loadReturn .a 0 3) (after (.ldbu i0 3 1 0) u)).core .a 0).getV 3 = 0x80 ∧
    ((after (.loadReturn .a 0 3) (after (.ldw i0 3 1 0) t)).core .a 0).getV 3 = 0x11223380 := by decide +kernel

theorem test_narrow_stores :
    let s := withV [(1, 0x200), (2, 0x11223380)]
    let t := after (.storeDrain .a 0 0) (after (.sth i0 2 1 0) s)
    let u := after (.storeDrain .a 0 0) (after (.stb i0 2 1 1) s)
    mreadLE (tget t.laneA.lmem 0) 0x200 4 = 0x3380 ∧ mreadLE (tget u.laneA.lmem 0) 0x200 4 = 0x8000 := by decide +kernel

theorem test_shadow_store_drops : let b : BufStore := ⟨0x40000000, 4, 7, 0⟩
    let s := up.modCore .b 0 fun c => { c with stores := [b] }
    (after (.storeDrain .b 0 0) s).laneB.shdrop = 1 ∧ (after (.storeDrain .b 0 0) s).dram = [] ∧
    mreadLE ((after (.storeDrain .a 0 0) (up.modCore .a 0 fun c => { c with stores := [b] })).gib 0) 0 4 = 7 := by decide +kernel

/-- R97–R101: halyard 0 off, halyard 1 in step at position 0x100. -/
def halyard : State := { up with laneA := { up.laneA with regs := [(0xF0100140, 1)], hy := [(1, { sync := .sync, q := 0x100, pub := 0x1000000 })] } }

theorem test_waits :
    ((after (.waita i0 3 1 2) up).core .a 0).getV 3 = 4 ∧
    ((after (.waita i0 3 1 2) (halyard.modCore .a 0 fun c => { c with v := [(1, 0), (2, 0x10000080)] })).core .a 0).getV 3 = 1 ∧
    ((after (.waita i0 3 1 2) (halyard.modCore .a 0 fun c => { c with v := [(1, 0), (2, 0x10000180)] })).core .a 0).run = .waiting ∧
    ((after (.waite i0 3) (withCore fun c => { c with waittmo := 9 })).core .a 0).wait = some ⟨3, none, true, some 3⟩ ∧
    ((after (.waitae i0 3 1 2) ((halyard.modCore .a 0 fun c => { c with v := [(1, 0), (2, 0x10000180)], evq := [⟨3, 1, 0, 0, false⟩] }))).core .a 0).getV 3 = 2 := by
  decide +kernel

theorem test_wait_ends :
    let w (e : Bool) : State := withCore fun c => { c with run := .waiting, wait := some ⟨3, none, e, some 0⟩, evq := [⟨3, 1, 0, 0, false⟩] }
    ((after (.waitEnd .a 0) (w true)).core .a 0).getV 3 = 2 ∧ ((after (.waitEnd .a 0) (w true)).core .a 0).run = .running ∧
    ((after (.waitTimeout .a 0) (w false)).core .a 0).getV 3 = 3 := by decide +kernel

theorem test_events :
    let s := withCore fun c => { c with evq := [⟨3, 2, 0x90, 77, false⟩], v := [(1, 0x05000000), (2, 9)] }
    ((after (.take i0 4) s).core .a 0).getV 4 = 0x83020090 ∧ ((after (.take i0 4) s).core .a 0).getV 5 = 77 ∧
    ((after (.take i0 4) up).core .a 0).getV 4 = 0 ∧ ((after (.post i0 3 1 2) s).core .a 0).getV 3 = 0 ∧
    ((after (.postVisible .a 0) (after (.post i0 3 1 2) s)).core .a 0).evq = [⟨3, 2, 0x90, 77, false⟩, ⟨0, 5, 0, 9, false⟩] ∧
    ((after (.eventPosting .a 0 3 1 2 3) up).core .b 0).evq = [⟨3, 1, 2, 3, false⟩] ∧
    ((after (.evqClear .a 0) (withCore fun c => { c with lost := 3, ovf := true })).core .a 0).lost = 0 := by decide +kernel

theorem test_post_statuses :
    let full := List.replicate 63 (⟨3, 1, 0, 0, false⟩ : EvEntry)
    let s := (withCore fun c => { c with v := [(1, 1)] }).modCore .a 1 fun c => { c with run := .running, evq := full }
    ((after (.post i0 3 1 2) s).core .a 0).getV 3 = 1 ∧ ((after (.post i0 3 1 2) (withV [(1, 2)])).core .a 0).getV 3 = 2 ∧
    ((after (.eventPosting .a 1 3 1 0 0) s).core .a 1).lost = 1 ∧ ((after (.eventPosting .a 1 2 1 0 0) s).core .a 1).evq.length = 64 := by
  decide +kernel

/-- Core 0 with a buffered store of 7 to 0x200. -/
def owing : State := up.modCore .a 0 fun c => { c with stores := [⟨0x200, 4, 7, 2⟩] }

theorem test_fences :
    ((after (.fenceL i0) up).core .a 0).fence = none ∧ ((after (.fenceE i0) up).core .a 0).fence = none ∧
    ((after (.fenceL i0) owing).core .a 0).fence = some .lane ∧ ((after (.fenceE i0) owing).core .a 0).fence = some .engine ∧
    ((after (.fenceComplete .a 0) (after (.fenceL i0) owing)).core .a 0).fence = none ∧
    ((after (.fenceComplete .a 0) (after (.fenceL i0) owing)).core .a 0).stores = [] ∧
    ((after (.win i0 3 1) (withV [(1, 1)])).core .a 0).getV 3 = 2 ∧ ((after (.win i0 3 1) (withV [(1, 1)])).core .a 0).winbase = 1 := by
  decide +kernel

theorem witness_fence_buffers : ∀ b ∈ [(⟨0x200, 4, 7, 2⟩ : BufStore), ⟨0x40000000, 4, 7, 2⟩],
    b.addr < 0x100000 ∨ 0x40000000 ≤ b.addr ∧ b.addr < 0x80000000 ∧ b.win % 4 = 2 := by decide

/-- R102–R106: stream 0 enabled with window 4, taken by core 0, open; loop context 0 off. -/
theorem test_streams :
    let s := { up with sregs := [(0xF0810000, 0x80040000)], laneA := { up.laneA with
      strs := [(0, { st := .opened, jobs := [({ seq := 5, body := [1, 2, 3] }, false)] })] } }
    nbit (strGet s 0 0) 31 = true ∧ ((after (.jput i0 3 1) s).core .a 0).getV 3 = 0 ∧ ((after (.jput i0 3 1) s).str .a 0).seqA = 1 ∧
    ((after (.jput i0 3 1) up).core .a 0).getV 3 = 2 ∧ ((after (.lcswap i0 3 1 2) up).core .a 0).getV 3 = 2 := by decide +kernel

theorem test_job_takes :
    let s := { up with sregs := [(0xF0810000, 0x80040000)], laneA := { up.laneA with
      strs := [(0, { st := .opened, jobs := [({ seq := 5, body := [1, 2, 3] }, false)] })]
      cores := [(0, { busy with v := [(2, 0x400), (4, 5)] })] } }
    let t := after (.jtake i0 3 1 2) s
    (t.core .a 0).getV 3 = 35 ∧ ((after (.jdone i0 3 1 4) t).core .a 0).getV 3 = 0 ∧
    ((after (.jdone i0 3 1 4) s).core .a 0).getV 3 = 2 ∧ ((after (.jtake i0 3 1 2) (s.modCore .a 0 fun c => c)).str .a 0).jobs.length = 1 := by
  decide +kernel

/-- The edges of the regions that a load or store may reach (R43). -/
theorem witness_addresses : ∀ a ∈ [0x000FFFFC, 0x01000000, 0x017FFFFC, 0x40000000, 0x7FFFFFFC, 0xF0000000, 0xF0BFFFFC, 0xF0C00000],
    ¬ unmappedAddr a ∧ a % 4 = 0 := by unfold unmappedAddr; decide

/-! ### Lanes -/

/-- One lane down: B, in SINGLE A. -/
def single : State :=
  { up with sup := { up.sup with laneMode := .singleA }, laneB := { up.laneB with live := false, struck := true } }

/-- A rejoin of Lane B since HTB 0. -/
def rejoining : State :=
  { single with sup := { single.sup with laneMode := .rejoin, rejoin := some { lane := .b, cause := 1 } }, laneB := { single.laneB with struck := false } }

/-- A takeover is due: Lane A has failed. -/
def losing : State := { up with sup := { up.sup with takeover := some { lane := .a } }, laneA := { up.laneA with live := false } }

theorem witness_lane_failures : up.lanesUp = true ∧ (up.lane .a).live = true ∧ (up.lane .b).live = true ∧ up.sup.laneMode = .dual ∧
    due ({ up with laneA := { up.laneA with wdEnd := some 0 } } : State).laneA.wdEnd 0 = true ∧
    single.sup.laneMode = .single .a ∧ up.recd.next - up.recd.flushed < 8192 := by decide

theorem test_shadow_fails : let t := after (.lockstepMismatch .b) up
    t.sup.laneMode = .singleA ∧ laneCause t .b = 1 ∧ t.laneB.live = false ∧ (t.core .a 0).evq = [⟨2, 5, 0x101, 0, false⟩] := by
  decide +kernel

theorem test_active_fails : let t := after (.journalWriteFail .a) up
    t.sup.takeover = some { lane := .a } ∧ t.sup.laneMode = .dual ∧ laneCause t .a = 3 := by
  decide +kernel

theorem test_double_failure : (after (.laneSupplyFail .a) single).sup.warmPending = some 5 := by decide +kernel

theorem test_fail_self : (after (.failSelf .a) up).laneA.live = false ∧ nfld (rget (after (.failSelf .a) single) .a 0xF000000C) 7 0 = 1 := by
  decide +kernel

theorem test_ecc : laneCause (after (.eccUncorrectable (.laneMemory .b)) up) .b = 2 ∧
    sget (after (.eccUncorrectable (.laneDram .b 5)) up) .fab 0x1C = 320 ∧
    (after (.eccUncorrectable (.engine .can 7 5)) up).faulty .can = true := by decide +kernel

theorem test_watchdog : let s := { up with laneA := { up.laneA with wdEnd := some 0 } }
    (after (.watchdogKick .a 0 0xA55A) s).laneA.wdHalf = some 0 ∧
    (after (.watchdogKick .a 0 0x5AA5) (after (.watchdogKick .a 0 0xA55A) s)).laneA.wdEnd = some 2500000 ∧
    (after (.watchdogExpiry .a) s).laneA.live = false ∧ (after (.watchdogExpiry .a) up).laneA.live = true := by decide +kernel

theorem witness_heartbeats :
    (after (.mirrorHeartbeat .b) { up with now := 9 }).laneB.beat = some 9 ∧
    (after (.mirrorHeartbeat .b) { up with laneB := { up.laneB with epoch := 1 } }).laneA.struck = true ∧
    laneCause (after (.peerSilent .a) { up with now := 25000 }) .b = 6 ∧
    (after (.peerSilent .a) { up with now := 24999 }) = { up with now := 24999 } ∧
    (after (.peerSilent .b) { up with now := 25000 }).sup.takeover = some { lane := .a } ∧
    (after (.laneStrike .a) { up with sup := { up.sup with engEpoch := 1 } }).laneA.struck = true := by decide +kernel

theorem witness_ownership : losing.sup.takeover = some { lane := .a } ∧ losing.lanesUp = true ∧ (losing.lane .b).live = true ∧
    ((after (.ownershipChange .b (some 3)) { up with laneB := { up.laneB with epoch := 1 } }).seq 3).owner = .b ∧
    ((after (.ownershipChange .b (some 3)) { up with laneB := { up.laneB with epoch := 1 } }).seq 3).holdUntil = (up.seq 3).holdUntil ∧
    (after (.ownershipChange .b none) { up with laneB := { up.laneB with epoch := 1 } }).sup.engOwner = .b ∧
    ((after (.ownerTick .a 0) up).seq 0).holdUntil = some 250000 ∧
    ((after (.ownerTicksAbsent 0) { (after (.ownerTick .a 0) up) with now := 5000 }).seq 0).holding = true := by decide +kernel

theorem witness_rejoin : single.sup.active = .a ∧ single.sup.laneMode = .single .a ∧ rejoining.sup.rejoin = some { lane := .b, cause := 1 } ∧
    someFiring rejoining .a = false ∧ (after (.rejoinPeer .a) single).sup.laneMode = .rejoin ∧
    nfld (rget (after (.rejoinPeer .a) up) .a 0xF000000C) 7 0 = 1 ∧
    laneCause (after .rejoinTestFault rejoining) .b = 2 ∧ (after .rejoinTimeout { rejoining with now := 250000000 }).sup.laneMode = .singleA ∧
    laneCause (after (.eccUncorrectable (.mirror 0)) rejoining) .b = 2 := by decide +kernel

theorem test_rejoin_catches_up : let t := after .rejoinCatchUp rejoining
    t.sup.laneMode = .dual ∧ t.laneB.live = true ∧ t.sup.startCause = 7 := by decide +kernel

theorem witness_hard_fault : up.faulty (engineBlock .tim) = false ∧ (after (.engineHardFault .tim 1) up).tim.cstate = .free ∧
    (after (.engineHardFault .can 1) up).faulty .can = true ∧ (after (.engineHardFault .can 1) up).faulty .lin = false ∧
    ((after (.engineHardFault .can 1) up).core .b 0).evq = [⟨3, 0xFF, 0x60, 1, false⟩] := by decide +kernel

/-! ### Starts, supply, modes -/

theorem witness_power_on : State.reset.sup.phase = .off ∧ (after (.powerOn ⟨true, true, false, false, false⟩) State.reset).recd.pcyc = 1 ∧
    (after (.powerOn ⟨true, true, false, false, false⟩) State.reset).sup.phase = .running := by decide +kernel

theorem witness_keys : up.lanesUp = true ∧ up.sup.active = .a ∧ up.sup.power ≠ .holdup ∧ up.sup.active ≠ .b ∧
    nfld (rget (after (.rstcmdCold .b ⟨false, false, false, false, false⟩) up) .b 0xF000000C) 7 0 = 3 := by decide +kernel

theorem witness_start_phases :
    ({ up with sup := { up.sup with phase := .warm }, now := 250000000 } : State).sup.startAt + 250000000 ≤ 250000000 ∧
    (105 : BitVec 16).toNat = 105 ∧ ¬ (up.sup.failA = true ∧ up.sup.failB = true) ∧
    finalDone { up with sup := { up.sup with power := .holdup, ckptDone := true } } = true := by decide +kernel

theorem witness_same_image : imgHash ((tfind { up.sec with imgHash := sha256 [] }.slots 0).getD []) = sha256 [] ∧ cfgNewest up = none := by
  decide +kernel

theorem test_low_supply : (after .lowSupplyEntry up).sup.power = .low ∧ (after .lowSupplyExit (after .lowSupplyEntry up)).sup.power = .normal := by
  decide +kernel

theorem test_hold_up : let t := after (.holdUpEntry 800 700) up
    t.sup.power = .holdup ∧ t.pwr.huAt = some 0 ∧ t.recd.state = .flushing ∧ (after .supplyReturn t).sup.warmPending = some 3 ∧
    (after .holdUpEnergyOut t).sup.phase = .off ∧ (after .holdUpEnergyOut t).sup.unclean = true := by decide +kernel

theorem witness_switch_off : let s := { up with now := 62500000, sup := { up.sup with power := .holdup }, pwr := { up.pwr with huAt := some 0 } }
    s.sup.power = .holdup ∧ s.pwr.returned = none ∧ (after .holdUpSwitchOff s).sup.phase = .off := by decide +kernel

/-- With a service session open. -/
def session : State := { up with sec := { up.sec with session := some (10 ^ 12, 0) } }

theorem witness_modes : sessOpen session = true ∧ (up.sup.modMode = .run ∨ up.sup.modMode = .service) ∧ up.sup.power = .normal ∧
    up.sup.laneMode ≠ .rejoin ∧ (after (.modeBench .a) up).sup.modMode = .bench ∧
    (after (.modeRun .a) (after (.modeBench .a) up)).sup.modMode = .run ∧
    nfld (rget (after (.modeRun .b) up) .b 0xF000000C) 7 0 = 3 ∧ nfld (rget (after (.modeService .a) up) .a 0xF000000C) 7 0 = 0x10 := by
  decide +kernel

/-- Parked, with the two wake inputs, CAN channel 0 and the wake timer of one minute enabled. -/
def parked : State :=
  { up with
    sup := { up.sup with phase := .parked, modMode := .park }
    laneA := { up.laneA with live := false, regs := [(0xF000003C, 0x30001)] }
    laneB := { up.laneB with live := false, regs := [(0xF000003C, 0x30001)] }
    sregs := [(0xF000003C, 0x30001), (0xF0601000, 0x02000000)]
    now := 15000000000 }

theorem witness_wake : nbit (rget parked .a 0xF000003C) 16 = true ∧ nbit (rget parked .a 0xF000003C) 17 = true ∧
    nfld (rget parked .a 0xF000003C) 15 0 = 1 ∧ (after (.wakeInput 1) parked).sup.wakeSrc = 2 ∧
    (after .wakeTimer parked).sup.wakeSrc = 4 ∧ (after .wakeTimer { parked with now := 14999999999 }).sup.wakeSrc = 0 ∧
    (after (.canWake 0) parked).sup.wakeSrc = 8 ∧ (after .parkPowerLoss parked).sup.phase = .off := by decide +kernel

theorem witness_park_shutdown :
    let s := { up with sup := { up.sup with phase := .parking, modMode := .park, ckptDone := true } }
    finalDone s = true ∧ pnlSafe s = true := by decide +kernel

/-! ### Sequencers -/

/-- Sequencer `n` with a command of a lane on its link. -/
def linked (n : Nat) (l : LaneId) (c : LinkCmd) : State := { up with seqs := [(n, Seq.setLink {} l [c])] }

theorem witness_links :
    ((linked 30 .a { words := [1] }).seq 30).link .a = [{ words := [1] }] ∧ comparing up = true ∧
    ((after (.sequencerCommand .b 30) (linked 30 .b { words := [1], num := 1 })).seq 30).waits .b =
      [{ words := [1], num := 1, due := some 5000 }] ∧
    ((after (.sequencerCommand .b 30) { linked 30 .b { words := [1] } with seqs := [(30, { Seq.setLink {} .b [{ words := [1] }] with epoch := 1 })] }).seq 30).waitB = [] := by
  decide +kernel

theorem test_mismatch : let s := { up with seqs := [(30, { Seq.setLink {} .b [{ words := [1, 2] }] with waitA := [{ words := [1, 3], due := some 9 }] })] }
    (after (.sequencerCommand .b 30) s).sup.miscnt = 1 ∧ (after (.sequencerCommand .b 30) s).sup.misWord = 1 ∧
    (after (.sequencerCommand .b 30) s).sup.misSeq = 30 := by decide +kernel

/-- In SINGLE the owner's commands act at once: LS0 on, LS0 off, PV0 duty, PV0 enable, bank 0 start. -/
theorem test_sequencer_effects :
    let s (n : Nat) (ws : List Nat) : State := { single with seqs := [(n, Seq.setLink {} .a [{ words := ws }])] }
    comparing single = false ∧ outFrozen single = false ∧
    lsBit (after (.sequencerCommand .a 30) (s 30 [0xF0380008, 2 ^ 28])) 0 0 = true ∧
    lsBit (after (.sequencerCommand .a 30) (s 30 [0xF0380008, 2 ^ 29])) 0 0 = false ∧
    rfld (after (.sequencerCommand .a 6) (s 6 [pvReg 0 4, 1234])) .a (pvReg 0 4) 15 0 = 1234 ∧
    pvEnabled (after (.sequencerCommand .a 6) (s 6 [0xF0340008, 2 ^ 28])) 0 = true := by decide +kernel

theorem witness_bank_start : let s := { single with
      sregs := [(profReg 0 0 0, 2 ^ 31)]
      seqs := [(0, Seq.setLink {} .a [{ words := [1, 0, 1] }])] }
    bankClosed s 0 = false ∧ (s.bank 0).rail ≠ 3 ∧ bhsFlt s 0 = false ∧ 2 ^ 31 ≤ rget s .a (profReg 0 0 0) ∧
    blockedBy s 0 (rget s .a (profReg 0 0 0)) = none ∧ ((after (.bankRequest .a 0) s).chan 0).phase = .p0 := by decide +kernel

theorem test_missing_copy : let s := { up with now := 5000, seqs := [(30, { waitA := [{ words := [1], due := some 5000 }], lastTickB := some 5000 })] }
    (after (.missingCopyTimeout .a 30) s).sup.misWord = 255 ∧ (after (.missingCopyTimeout .a 30) s).sup.miscnt = 1 := by decide +kernel

theorem test_hold_expiry : let s := { up with seqs := [(30, { holdUntil := some 0 })] }
    ((after (.holdTimerExpiry 30) s).seq 30).expired = true ∧ ((after (.holdTimerExpiry 30) s).seq 30).off = true := by decide +kernel

/-! ### Output stages -/

theorem witness_output_commands : up.dark = false ∧ (up.lane .a).live = true ∧ (up.seq 30).owner = .a ∧ (up.seq 30).link .a = [] ∧
    partner up .a 30 = none ∧ up.sup.modMode ≠ .service ∧ pvLatched up 0 = false ∧ (24 : BitVec 5).toNat = 24 ∧ (48 : BitVec 6).toNat = 48 ∧
    (tget up.out.dirs 0).isSome = false ∧ isLocked up .a .ddv = false := by decide +kernel

/-- The link of sequencer `n` after a command of Lane A, as words and reason. -/
def sent (s : State) (i : Instr) (n : Nat) : List (List Nat × Nat) := (((after i s).seq n).link .a).map fun c => (c.words, c.rej)

theorem test_switch_commands : sent up (.lsOn .a 31) 61 = [([0xF0380008, 0x1000001F], 0)] ∧ sent up (.lsOff .a 0) 30 = [([0xF0380008, 0x20000000], 0)] ∧
    sent up (.lsClr .a 0) 30 = [([0xF0380008, 0x30000000], 0)] ∧ sent up (.directedConversion .a 1 3) 38 = [([0xF0380090, 3], 0)] := by
  decide +kernel

theorem test_valve_commands : sent up (.pvEnable .a 23) 29 = [([0xF0340008, 0x10000017], 0)] ∧ sent up (.pvEnable .a 24) 29 = [([0xF0340008, 0x10000018], 4)] ∧
    sent up (.pvDisable .a 0) 6 = [([0xF0340008, 0x20000000], 0)] ∧ sent up (.pvClr .a 0) 6 = [([0xF0340008, 0x30000000], 0)] ∧
    sent up (.pvDutyWrite .a 0 7) 6 = [([0xF0340104, 7], 0)] ∧
    sent { up with sup := { up.sup with modMode := .service } } (.pvDutyWrite .a 0 7) 6 = [([0xF0340104, 7], 1)] := by decide +kernel

theorem test_bank_commands : sent up (.ddvStart .a 47 15 false 0) 5 = [([0xF0300008, 0x100003EF, 1], 0)] ∧
    sent up (.ddvStop .a 0) 0 = [([0xF0300008, 0x20000000], 0)] ∧ sent up (.ddvClr .a 0) 0 = [([0xF0300008, 0x30000000], 0)] ∧
    sent up (.ddvEnable .a 0) 0 = [([0xF0300008, 0x40000000], 0)] ∧ sent up (.ddvDisable .a 0) 0 = [([0xF0300008, 0x50000000], 0)] ∧
    sent up (.ddvStop .a 48) 5 = [([0xF0300008, 0x20000030], 4)] ∧ sent up (.bhsfltClear .a 2) 2 = [([0xF0300004, 0x40000], 0)] ∧
    sent up (.profileWrite .a 0 0 1 5) 0 = [([0xF0302004, 5], 0)] := by decide +kernel

/-- R204: FRAC 32,768 is legal, above it is RANGE. -/
theorem test_ddm_frac : rfld (after (.ddmFrac .a 0 32768) up) .a (ddmReg 0 8) 16 0 = 32768 ∧
    nfld (rget (after (.ddmFrac .a 0 32769) up) .a 0xF030000C) 7 0 = 4 := by decide +kernel

/-- A channel in a phase. -/
def stroke (p : Phase6) (prof : List Nat) : State := { up with now := 10 ^ 9, out := { chans := [(0, { phase := p, prof := prof })] } }

theorem test_stroke : ((after (.peakEnd 0 true 6000) (stroke .p0 [0, 0xFFFF0000])).chan 0).phase = .p1 ∧
    ((after (.transitionEnd 0 true none) (stroke .p1 [])).chan 0).phase = .p3 ∧
    rget (after (.transitionEnd 0 true (some 9)) (stroke .p1 [0, 0, 0x10000])) .a (dvReg 0 0xC) = 65545 ∧
    ((after (.holdEnd 0 6000) (stroke .p2 [])).chan 0).phase = .p3 ∧
    rget (after (.holdEnd 0 6200) (stroke .p2 [0x80000])) .a 0xF0300018 = 1 ∧
    rget (after (.holdEnd 0 6199) (stroke .p2 [0x80000])) .a 0xF0300018 = 0 ∧
    ((after (.releaseEnd 0 true) (stroke .p3 [])).chan 0).phase = .idle := by decide +kernel

theorem test_stroke_diagnostics : rbit (after (.holdloss 0) (stroke .p2 [])) .a (dvReg 0 4) 10 = true ∧
    rbit (after (.valveShort 0) (stroke .p1 [])) .a (dvReg 0 4) 5 = true ∧ bhsFlt (after (.bhsOvercurrent 1) up) 1 = true ∧
    rbit (after .boostLimit { up with out := { bkt := 0 } }) .a ddvStat 8 = true ∧ rbit (after .boostLimit { up with out := { bkt := 1 } }) .a ddvStat 8 = false ∧
    rbit (after .boostLimitEnd { after .boostLimit { up with out := { bkt := 0 } } with now := 10 }) .a ddvStat 8 = false ∧
    rbit (after .vbstLow up) .a ddvStat 9 = true ∧ rbit (after .vbstRecovered (after .vbstLow up)) .a ddvStat 9 = false := by decide +kernel

theorem test_request_deadline : let s := { up with out := { banks := [(0, { queue := [{ ch := 3 }] })] } }
    ((after (.requestDeadline 3) s).bank 0).queue = [] ∧ rget (after (.requestDeadline 3) s) .a (bankReg 0 8) = 1 := by decide +kernel

theorem witness_revision : let s := { up with now := 4096, sregs := [(dvReg 0 0, 0)], out := { chans := [(0, { phase := .p1, ends := { at_ := 1, pos := some 0 } })] } }
    (s.chan 0).rev + 4096 ≤ s.now ∧ energised (s.chan 0).phase = true ∧ (s.chan 0).ends.pos = some 0 := by decide +kernel

theorem test_sequencer_flags :
    let s (n : Nat) (ws : List Nat) : State := { single with seqs := [(n, Seq.setLink {} .a [{ words := ws }])] }
    rbit (after (.sequencerCommand .a 0) (s 0 [0xF0300008, 0x50000000])) .a (dvReg 0 4) 5 = true ∧
    rget (after (.sequencerCommand .a 0) (s 0 [profReg 0 0 1, 5])) .a (profReg 0 0 1) = 5 ∧
    ((after (.sequencerCommand .a 0) (s 0 [bankReg 0 0, 0x7801])).bank 0).rail = 1 ∧
    tget (after (.sequencerCommand .a 38) (s 38 [sgReg 1 0, 3])).out.dirs 1 = some ⟨3, 875⟩ := by decide +kernel

/-- A conducting load switch 0. -/
def lit : State := { up with sregs := [(lsReg 0 4, 5)], now := 25000000 }

theorem test_switch_limits : lsBit lit 0 0 = true ∧ lsBit (after (.lsLimitTimeout 0 true) lit) 0 4 = true ∧
    lsBit (after (.lsLimitTimeout 0 true) lit) 0 7 = true ∧
    lsBit (after (.lsOvertemp 0 true) lit) 0 9 = true ∧ ((after (.lsOvertemp 0 false) lit).ls 0).hot = true ∧
    lsBit (after (.lsThermalRestart 0) (after (.lsOvertemp 0 false) lit)) 0 0 = true ∧
    lsBit (after (.lsOpenload 0) lit) 0 10 = true := by decide +kernel

theorem test_switch_retry : let s := { lit with out := { ls := [(0, { retryAt := some 0, retry := 1, winEnd := some 0, own := true })] } }
    ((after (.lsRetry 0) s).ls 0).retry = 2 ∧ ((after (.inrushWindowEnd 0) s).ls 0).winEnd = none ∧ ((after (.ownFaultEnd 0) s).ls 0).own = false := by
  decide +kernel

theorem test_group_trips : let s := { lit with out := { filt := [(0, { at_ := 5000, f := 65536 * 50000 })] } }
    let low : State := { after (.groupTrip (0, true)) s with now := 10 ^ 12, out := { filt := [(0, { at_ := 200000000 })] } }
    rbit (after (.groupTrip (0, true)) s) .a (grpReg 0 4) 1 = true ∧ rbit (after (.groupTrip (0, false)) s) .a (grpReg 0 4) 1 = true ∧
    rbit (after (.groupTrip (0, false)) low) .a (grpReg 0 4) 1 = true ∧ rbit (after (.groupDieTrip 0) lit) .a (sgReg 0 8) 1 = true ∧
    uvLimit lit = 600 ∧ uvLimit { up with laneA := { up.laneA with regs := [(0xF0380000, 2)] } } = 1600 ∧
    rbit (after (.groupRestart true 0) (after (.groupDieTrip 0) lit)) .a (sgReg 0 8) 1 = false ∧
    rbit (after (.groupRestart false 0) low) .a (grpReg 0 4) 1 = false := by decide +kernel

theorem test_directed_conversion : let s := { up with out := { dirs := [(0, some ⟨2, 0⟩)] } }
    rget (after (.directedConversionDone 0 100) s) .a (sgReg 0 4) = 2 ^ 31 + 2 * 65536 + senseCode s 2 100 ∧
    tget (after (.directedConversionDone 0 100) s).out.dirs 0 = none := by decide +kernel

theorem test_module_shed : let s := { up with out := { filt := [(0, { f := 65536 * 50000 })] } }
    shedCandidate s = none ∧ shedStep s = false ∧ moduleOver s = true ∧ nbit (rget (after (.moduleShed true) s) .a 0xF0380004) 8 = true ∧
    nbit (rget (after (.moduleShed false) { after (.moduleShed true) s with out := {} }) .a 0xF0380004) 8 = false := by decide +kernel

/-- PV0 enabled, IMAX 1 A. -/
def driving : State := { up with sregs := [(pvReg 0 0, 0x0A000000), (pvReg 0 4, 3277), (pvReg 0 0x10, 1601), (pvReg 0 0x14, 2)] }

theorem test_valve_diagnostics : pvEnabled driving 0 = true ∧ pvDuty driving 0 = 3277 ∧ pvLatched (after (.pvShort 0) driving) 0 = true ∧
    rbit (after (.pvOpen 0 true) driving) .a (pvReg 0 0x14) 9 = true ∧ rbit (after (.pvOver 0) driving) .a (pvReg 0 0x14) 8 = false ∧
    rbit (after (.pvOver 0) { driving with now := 250000, out := { pv := [(0, { high := some 0 })] } }) .a (pvReg 0 0x14) 8 = true ∧
    rbit (after (.pvOpen 0 false) (after (.pvOpen 0 true) driving)) .a (pvReg 0 0x14) 3 = false := by decide +kernel

theorem test_short_to_battery : let s := { driving with sregs := [(pvReg 0 0x14, 2)] }
    pvDuty s 0 = 0 ∧ rbit (after (.pvShortbat 0 true) s) .a (pvReg 0 0x14) 11 = true ∧
    rbit (after (.pvShortbat 0 false) (after (.pvShortbat 0 true) s)) .a (pvReg 0 0x14) 4 = false := by decide +kernel

/-! ### Halyards and the event table -/

/-- HY1 is TOOTH from ANG0, both edges; ANGMODE takes ANG0 in. -/
def toothed : State := { up with laneA := { up.laneA with regs := [(0xF0100140, 0x00100001)], hy := [(1, { sync := .seek, seen := 2 })] }, sregs := [(0xF0100014, 3)], now := 1000 }

theorem test_angle_edges : hySrc toothed .a 1 = 1 ∧ hyInput toothed .a 1 = 0 ∧ rfld toothed .a (hyReg 1 0) 21 20 = 1 ∧
    ((after (.angEdge 0 true) toothed).hy .a 1).sync = .sync ∧ ((after (.angEdge 0 true) toothed).hy .a 1).idx = some 0 ∧
    ((after (.angEdge 0 false) toothed).hy .a 1).sync = .seek ∧
    after (.angEdge 1 true) toothed = toothed := by decide +kernel

theorem test_stall : let s := { halyard with now := 10 ^ 9 }
    extrapolates (hySrc s .a 1) = true ∧ ((after (.halyardStall .a 1) s).hy .a 1).stall = true ∧ ((after (.halyardStall .a 1) s).hy .a 1).sync = .seek := by
  decide +kernel

theorem test_halyard_config : rget (after (.halyardConfig .a 0 .cfg 0x100005) up) .a (hyReg 0 0) = 0x100005 ∧
    nfld (rget (after (.halyardConfig .a 0 .unit 249) up) .a 0xF010000C) 7 0 = 4 ∧
    rget (after (.halyardConfig .a 0 .unit 250) up) .a (hyReg 0 0x10) = 250 ∧
    nfld (rget (after (.halyardConfig .a 1 .unit 250) toothed) .a 0xF010000C) 7 0 ≠ 0 := by decide +kernel

/-- HY2 is FEED. -/
def fed : State := { up with laneA := { up.laneA with regs := [(0xF0100180, 5)], hy := [(2, { sync := .seek })] }, now := 1000 }

theorem test_feed : ((after (.feedIncrement .a 2 9) fed).hy .a 2).feedd = 9 ∧ nfld (rget (after (.feedIncrement .a 1 9) fed) .a 0xF010000C) 7 0 = 1 ∧
    ((after (.feedCommit .a 2 900) (after (.feedIncrement .a 2 9) fed)).hy .a 2).firstInc = 9 ∧
    nfld (rget (after (.feedCommit .a 2 900) (after (.feedCommit .a 2 900) fed)) .a 0xF010000C) 7 0 = 0x10 := by decide +kernel

/-- Entry 5 posts to core 0 at position 0x200 of HY1, which stands at 0x100; FIRE_EN is set. -/
def entered : State :=
  { halyard with
    now := 5
    laneA := { halyard.laneA with regs := [(0xF0100140, 1), (0xF0140000, 1)], entries := [(5, { w1 := 0x200, w2 := 0x14004000 })] } }

theorem witness_entry : evtOn entered .a = true ∧ (entered.ent .a 5).en = true ∧ (entered.ent .a 5).hyOf < 16 := by decide +kernel

theorem test_entry_commit : nfld (rget (after (.entryCommit .a 0 7) (up.modCore .a 0 fun c => { c with wbuf := [(0, 0xFFFFFFFF)] })) .a 0xF014000C) 7 0 = 4 ∨
    ((after (.entryCommit .a 0 7) up).core .a 0).wstat ≠ 0 := by decide +kernel

theorem test_entry_cancel : ((after (.entryCancel .a 0 7) up).core .a 0).wstat = 0x703 ∧
    ((after (.entryCancel .a 0 5) { up with laneA := { up.laneA with entries := [(5, { snap := some { firing := true } })] } }).core .a 0).wstat = 0x504 ∧
    ((after (.entryCancel .a 0 5) { up with laneA := { up.laneA with entries := [(5, { snap := some { turn := 5 } })] } }).core .a 0).wstat = 0x502 ∧
    ((after (.entryCancel .a 0 5) { up with laneA := { up.laneA with entries := [(5, { snap := some {} })] } }).core .a 0).wstat = 0x504 := by
  decide +kernel

/-- R142, R144: the entries 5 and 6 have both reached the position; 5 comes first and posts to core 2. -/
theorem test_entry_fire : let at_ : Snap := { act := 1, core := 2, arg := 7 }
    let s := { up with laneA := { up.laneA with entries := [(5, { snap := some at_ }), (6, { snap := some at_ })] } }
    ((after (.entryFire .a 6) s).ent .a 6).snap = some at_ ∧ ((after (.entryFire .a 5) s).ent .a 5).snap = some { at_ with firing := true } ∧
    (after (.entryFire .a 5) s).core .a 2 = (s.core .a 2).post ⟨1, 7, 5, 0, false⟩ := by decide +kernel

theorem test_occurrence : let s := { up with laneA := { up.laneA with entries := [(5, { w2 := 0x4000, snap := some { firing := true, gen := 3 } })] } }
    ((after (.occurrenceComplete .a 5) s).ent .a 5).occ = 1 ∧ ((after (.occurrenceComplete .a 5) s).ent .a 5).fgen = 3 ∧
    ((after (.occurrenceComplete .a 5) s).ent .a 5).en = false := by decide +kernel

theorem test_fire_enable : rbit (after (.fireEn .a false) entered) .a 0xF0140000 0 = false ∧ rbit (after (.fireEn .a true) up) .a 0xF0140000 0 = true := by
  decide +kernel

/-! ### The loop engine -/

theorem witness_contexts : lcState up .a 0 = 0 ∧ nfld (rget (after (.lpeHold .a 0) up) .a 0xF020000C) 7 0 = 1 ∧ (tget up.laneA.lpe.dirty 0) = false := by
  decide +kernel

/-- Context 0 in HOLD, manual. -/
def holding : State := { up with laneA := { up.laneA with regs := [(lcReg 0, 4)] } }

theorem test_loop_commands : lcState holding .a 0 = 4 ∧ lcState (after (.lpeResume .a 0) holding) .a 0 = 2 ∧
    lcState (after (.lpeDisable .a 0) holding) .a 0 = 0 ∧ nfld (rget (after (.lpeEnable .a 0) holding) .a 0xF020000C) 7 0 = 1 ∧
    lcState (after (.lpeHold .a 0) (after (.lpeResume .a 0) holding)) .a 0 = 4 := by decide +kernel

theorem test_captures : ((after (.capArm .a 0) up).cap .a 0).state = 1 ∧
    nfld (rget (after (.capArm .a 0) (after (.capArm .a 0) up)) .a 0xF020000C) 7 0 = 5 ∧
    ((after (.capAbort .a 0) (after (.capArm .a 0) up)).cap .a 0).state = 0 ∧
    ((after (.capTrignow .a 0) (rset (after (.capArm .a 0) up) .a (capReg 0 0) 0x1000)).cap .a 0).trig = true := by decide +kernel

theorem witness_injections : injOn up .a 0 = none ∧ nfld (rget (after (.injStart .a 0) up) .a 0xF020000C) 7 0 = 1 := by decide +kernel

/-! ### Harvest sensing and the parcel tracker -/

theorem witness_hsi : up.faulty .hsi = false ∧ inFaulty up 35 = false ∧ inFaulty (after (.inputFault 35) up) 35 = true ∧
    inFaulty (after (.inputFaultClear 35) (after (.inputFault 35) up)) 35 = false ∧
    sfld (after (.lossSensorFault 3 true) up) .hsi (lsnOff 3 8) 1 1 = 1 := by decide +kernel

theorem test_function_slots : sget (after (.fnCtgtWrite .a 0 5) up) .hsi (fnOff 0 0) = 0 ∧
    sget (after (.fnCtgtWrite .a 0 5) (after (.fnLimWrite .a 0 0x00640000) up)) .hsi (fnOff 0 0) = 5 ∧
    nfld (rget (after (.fnTtgtWrite .a 0 5) up) .a 0xF040000C) 7 0 = 0x10 ∧ nfld (rget (after (.fnLimWrite .a 0 1) up) .a 0xF040000C) 7 0 = 4 ∧
    sget (after (.fnRateWrite .a 0 7) up) .hsi 0x10 = 1 ∧ fnOwner (after (.fnCtlWrite .a 0 1) up) 0 = 1 ∧
    nfld (rget (after (.fnCtlWrite .a 0 3) up) .a 0xF040000C) 7 0 = 4 ∧
    sget (after (.fnBindWrite .a 0 true 0xFFFFFFFF) up) .hsi (fnOff 0 0x20) = 0x81FF81FF := by decide +kernel

theorem test_fn_tick : (after .fnTick { up with now := 250000 }).hsi.msIdx = 1 ∧ after .fnTick up = up := by decide +kernel

theorem witness_windows : let w : Win := { sector := 3 }
    let s := { up with now := 10 ^ 9, hsi := { chs := [(0, { win := some w })] } }
    ((after (.windowTimeout 0) s).loss 0).win = none ∧ ((after (.windowTimeout 0) s).loss 0).closed.length = 1 := by decide +kernel

/-- R248–R254: channel 0 enabled, threshold at its reset value; an impact above it, a window, its end. -/
def listening : State := { withRegs [(.hsi, lsnOff 0 0, 0x00020201)] with now := 1000, hsi := { chs := [(0, { k := 2 })] } }

theorem test_loss : sfld listening .hsi (lsnOff 0 0) 0 0 = 1 ∧ ((after (.lossImpact 0 [0x1FFF]) listening).loss 0).armed = false ∧
    ((after (.lossWindowOpen .a 1 3) listening).loss 0).win = some { opened := 1000, sector := 3 } ∧
    ((after (.lossWindowClose .a 1 3) (after (.lossWindowOpen .a 1 3) listening)).loss 0).closed.length = 1 ∧
    sfld (after (.lossWindowClose .a 1 4) (after (.lossWindowOpen .a 1 3) listening)) .hsi (lsnOff 0 8) 3 3 = 1 := by decide +kernel

theorem witness_loss_record : let w : Win := { closed := some 1000 }
    let s := { up with now := 1000, hsi := { chs := [(0, { k := 3, closed := [w] })], trig := [(0, 5)] } }
    s.now / 500 < (s.loss 0).k ∧ winReady s 0 w = true ∧ (after (.lossRecordWrite 0) s).hsi.lossSeq = 1 ∧
    (after (.adcSnapshot 5) s).hsi.snapSeq = 1 ∧ (after (.adcSnapshot 5) s).hsi.trig = [] := by decide +kernel

theorem witness_parcels : let s := withRegs [(.pcl, 0, 2)]
    pclRuns s = true ∧ sget (after (.parcelStep .a 0) s) .pcl 0x60 = 1 ∧ (after (.fixCommit .a 9) { s with now := 10 }).pcl.fix = some (0, 0, 9) ∧
    s.pcl.queue = [] ∧ sfld (after (.pclRun .a false) s) .pcl 0 1 1 = 0 ∧ (after (.pclFlush .a) s).pcl.parcels = [] ∧
    nfld (rget (after (.qualSubmit .a 12) s) .a 0xF048000C) 7 0 = 4 := by decide +kernel

theorem test_parcel_ends : let s := { withRegs [(.pcl, 0, 2)] with now := 10 ^ 12, pcl := { parcels := [(7, {})] } }
    (tget (after (.parcelExpire 7) s).pcl.parcels 7).closing = some (10 ^ 12 + 75000000) ∧
    (after (.closingGraceEnd 7) { s with pcl := { parcels := [(7, { closing := some 0 })] } }).pcl.parcels = [] ∧
    (after .yieldStored { s with pcl := { staging := [List.replicate 128 1] } }).pcl.yidx = 1 := by decide +kernel

theorem test_yread : let s := { withRegs [(.pcl, 0xCC, 1)] with pcl := { yidx := 1, store := [(0, List.replicate 128 1)] } }
    (after (.yread .a) s).pcl.read = some { cnt := 1 } ∧ nfld (rget (after (.yread .a) (after (.yread .a) s)) .a 0xF048000C) 7 0 = 5 ∧
    (after .yreadDone (after (.yread .a) s)).pcl.read = none := by decide +kernel

/-! ### Cameras -/

/-- What a lane's ERR of a block says after a command of Lane A. -/
def err (i : Instr) (s : State) (b : Block) : Nat := nfld (rget (after i s) .a (b.base + 0xC)) 7 0

/-- Link 0 UP with its supply, pipeline 0 bound to it, running, four slots of one page. -/
def filming (v : Vp) (rs : List (Block × Nat × Nat)) : State :=
  { withRegs ([(.cam, vpOff 0 0, 1), (.cam, vpOff 0 8, 0x80000000), (.cam, vpOff 0 0x34, 4096), (.cam, vpOff 0 0x38, 4)] ++ rs) with
    now := 10 ^ 9
    cam := { links := [(0, { st := .up, gear := 1, power := true })], vps := [(0, v)] } }

theorem witness_camera_links : up.faulty .cam = false ∧ linkUp up 0 = false ∧ linkUp (filming {} []) 0 = true ∧ vpOf (filming {} []) 0 0 = true ∧
    ((after (.linkDown 0) (filming {} [])).link 0).st = .down ∧
    ((after (.linkDown 0) (filming {} [])).link 0).shown (10 ^ 9 + 1) = .training ∧ sfld (after (.linkDown 0) (filming {} [])) .cam (clOff 0 4) 9 9 = 1 ∧
    0 < sfld up .cam (clOff 0 0) 1 0 ∧ ((after (.linkTrained 0 1) { up with cam := { links := [(0, { st := .training })] } }).link 0).st = .up ∧
    ((after (.triggerPulseEnd 0) { up with cam := { links := [(0, { pulse := some 0 })] } }).link 0).pulse = none := by decide +kernel

theorem test_i2c : let s := filming {} []
    ((after (.i2cTransaction .a 0 0x21020100) s).link 0).i2c = some ⟨0x21, [0, 0], 1, 100⟩ ∧
    err (.i2cTransaction .a 0 0x00020100) (after (.i2cTransaction .a 0 0x00020100) s) .cam = 5 ∧
    err (.i2cTransaction .a 0 0x00020100) up .cam = 1 ∧
    sget (after (.i2cDone 0 true 3 0x1234) (after (.i2cTransaction .a 0 0x00020100) s)) .cam (clOff 0 0x1C) = 0x34 ∧
    sfld (after (.i2cDone 0 false 1 0) (after (.i2cTransaction .a 0 0x00020100) s)) .cam (clOff 0 0x24) 1 0 = 3 := by decide +kernel

theorem test_trigger : let s := filming {} [(.cam, clOff 0 0, 0x00640101), (.cam, vpOff 0 0x18, 1), (.cam, vpOff 0 0x20, 8)]
    sget (after (.camTrig .a 0) s) .cam (clOff 0 0x2C) = 1 ∧ ((after (.camTrig .a 0) s).link 0).pulse = some (10 ^ 9 + 25000) ∧
    ((after (.cameraTrigger .a 0) s).vp 0).slots = [10 ^ 9 + 2000] := by decide +kernel

theorem test_camera_supply : ((after (.pwron .a 1) up).link 1).power = true ∧ err (.pwron .a 0) (filming {} []) .cam = 1 ∧
    ((after (.pwroff .a 0) (filming {} [])).link 0).power = false ∧ ((after (.cameraPowerFault 0) (filming {} [])).link 0).power = false ∧
    tget (after (.pwron .a 1) { up with pwr := { up.pwr with brownout := true } }).pwr.camOn 1 = true := by decide +kernel

theorem test_pipeline_binding : sget (after (.vpBind .a 0 0x80000102) up) .cam (vpOff 0 8) = 0x80000102 ∧
    err (.vpBind .a 0 0x80000001) (filming {} []) .cam = 1 ∧ err (.vpBind .a 1 0x80000000) (filming {} []) .cam = 0x11 ∧
    err (.vpBind .a 1 0x80000000) (filming {} [(.cam, vpOff 1 8, 0x80000001)]) .cam = 0x10 := by decide +kernel

theorem test_pipeline_run : let s := filming {} [(.cam, vpOff 0 0, 0), (.cam, vpOff 0 0x24, 1), (.cam, vpOff 0 0x28, 2),
      (.cam, vpOff 0 0x34, 0x40000), (.cam, vpOff 0 0x48, 0x1000), (.cam, vpOff 0 0x4C, 0x30000), (.cam, vpOff 0 0x50, 0x30000)]
    err (.vpRun .a 1 true) s .cam = 1 ∧ err (.vpRun .a 0 true) { s with sregs := (s.sregs.filter fun p => p.1 != 0xF0501028) } .cam = 4 ∧
    vpRuns (after (.vpRun .a 0 true) s) 0 = true ∧ vpRuns (after (.vpRun .a 0 false) (after (.vpRun .a 0 true) s)) 0 = false ∧
    ((after (.camCommit .a 0) s).vp 0).commits = [10 ^ 9] := by decide +kernel

theorem test_frames : boundVp (filming {} []) 0 0 = some 0 ∧ boundVp (filming {} []) 0 1 = none ∧
    sget (after (.frameStart 0 1) (filming {} [])) .cam (clOff 0 8) = 1 ∧
    ((after (.frameStart 0 0) (filming { commits := [5] } [])).vp 0).pgen = 1 ∧
    ((after (.frameStart 0 0) (filming {} [])).vp 0).claims.length = 1 ∧
    sget (after (.linePacket 0 0 0 [] false false) (filming {} [])) .cam (clOff 0 0xC) = 1 := by decide +kernel

theorem witness_frame_record : let s := filming { claims := [.frame { ended := true }] } []
    (after (.frameStatusWrite 0 []) s).freeCtr = 1536 ∧ vpGet (after (.frameStatusWrite 0 []) s) 0 0x3C = 1 ∧
    vpTaken (filming {} []) 0 = 0 ∧ ((after (.missingFrame 0) (filming { expect := some 0 } [])).vp 0).fseq = 1 ∧
    ((after (.missingFrame 0) (filming { slots := [0] } [(.cam, vpOff 0 0x18, 1)])).vp 0).slots = [] ∧
    ((after (.frameEnd 0 0) (filming { claims := [.frame {}] } [])).vp 0).claims ≠ [.frame {}] := by decide +kernel

/-! ### Fusion -/

/-- FUS runs. -/
def fusing (x : FusSt) (rs : List (Block × Nat × Nat)) : State := { withRegs ([(.fus, 0, 2)] ++ rs) with fus := x, now := 10 ^ 9 }

theorem test_fusion_states : (after (.fusRun .a true) up).fus.state = .start ∧ (after (.fusTest .a) (fusing {} [])).fus.state = .test ∧
    (after (.fusEndtest .a) (fusing { state := .test } [])).fus.state = .recovery ∧ err (.fusTest .a) (fusing { state := .test } []) .fus = 1 ∧
    (after (.fusReinit .a) (fusing { state := .normal } [])).fus.state = .recovery ∧ err (.fusReinit .a) (fusing {} []) .fus = 1 ∧
    fusRuns (after (.fusRun .a false) (fusing {} [])) = false ∧
    (after (.outnow .a) (fusing {} [(.fus, 0x10, 0x20000000)])).fus.outPend = true := by decide +kernel

theorem test_fusion_units : sfld (after (.fusionUnit 0 []) (withRegs [(.fus, fsOff 0 0, 0x80000000)])) .fus (fsOff 0 0x38) 31 16 = 1 ∧
    sfld (after (.fusInject .a 0) (withRegs [(.fus, fsOff 0 0, 0xA0000000)])) .fus (fsOff 0 0x38) 31 16 = 1 ∧
    err (.fusInject .a 0) up .fus = 1 ∧
    sfld (after (.listIncomplete 0) (fusing { srcs := [(0, { asm := some {} })] } [])) .fus (fsOff 0 0x38) 15 0 = 1 ∧
    ((after (.sourceStale 0) (fusing { srcs := [(0, { clk := .sync, last := some 0 })] } [])).fsrc 0).clk = .stale := by decide +kernel

/-- A unit of source 0 with no object (R342): its CRC stands at 0x2C. -/
def unit0 : List Byte :=
  let b : List Byte := leBytes 4 0x3153464F ++ List.replicate 44 0
  b.take 44 ++ leBytes 4 (crc32c b)

theorem witness_unit : (parseUnit 0 unit0).isSome = true ∧ (parseUnit 0 []).isNone = true ∧ ({ clk := .acq } : FSrc).fresh = true ∧
    (after (.fusionUnit 0 unit0) (fusing { srcs := [(0, { clk := .acq })] } [(.fus, fsOff 0 0, 0x80000000)])).fus.buf.length = 1 := by
  decide +kernel

theorem witness_fusion_lists : let s := fusing { buf := [{ tv := -(2 ^ 40) }], state := .test, srcs := [(0, { clk := .sync })] } []
    fusWorks s = true ∧ sget (after .listProcess s) .fus 0x90 = 1 ∧ (after .listProcess { s with fus := { s.fus with state := .normal } }).fus.mask = 1 ∧
    (after (.trackAgeOut 0) (fusing { tracks := [(0, { agedAt := -(2 ^ 60) })] } [])).fus.tracks = [] := by decide +kernel

theorem witness_fusion_output : let s := fusing { outPend := true } [(.fus, 0x10, 0x20000000), (.fus, 0x54, 2)]
    outDue s = true ∧ listDue s = false ∧ (after .fusionOutput s).fus.oseq = 1 ∧ sfld (after .fusionOutput s) .fus 0x58 15 0 = 1 := by decide +kernel

/-! ### Field buses -/

/-- Channel 0 of CAN enabled with a ring of four entries. -/
def bussed (c : CanCh) (rs : List (Block × Nat × Nat)) : State :=
  { withRegs ([(.can, canOff 0 0, 0x80000000), (.can, canOff 0 0x34, 4)] ++ rs) with bus := { can := [(0, c)] }, now := 1000 }

theorem test_can_receive : let i := Instr.canReceive 0 5 false false false false false 1 [7] 0
    i.wellFormed = true ∧ pairs (bussed { mode := 0 } []) 0 0 = false ∧
    sget (after i (bussed { mode := 0, rec_ := 200 } [])) .can (canOff 0 0x38) = 1 ∧ ((after i (bussed { mode := 0, rec_ := 200 } [])).canCh 0).rec_ = 127 ∧
    ((after i (bussed { mode := 2 } [(.can, canOff 0 0, 0x80000200)])).canCh 0).good = 1 ∧
    ((after i (bussed { mode := 2 } [(.can, canOff 0 0, 0x80000100)])).canCh 0).locked = true := by decide +kernel

theorem test_can_transmit : let s := bussed { mode := 0 } [(.can, txOff 0 0 0, 0x10000000), (.can, txOff 0 0 4, 1)]
    txResult (after (.txreq .a 0 0) s) 0 0 = 1 ∧ err (.txreq .a 0 0) (after (.txreq .a 0 0) s) .can = 1 ∧
    err (.txreq .a 0 1) (bussed {} [(.can, txOff 0 1 4, 9)]) .can = 4 ∧ txResult (after (.txcancel .a 0 0) (after (.txreq .a 0 0) s)) 0 0 = 4 ∧
    txResult (after (.canFrameStart 0) (after (.txreq .a 0 0) s)) 0 0 = 2 ∧
    txResult (after (.canTxEnd 0 .sent) (after (.canFrameStart 0) (after (.txreq .a 0 0) s))) 0 0 = 3 ∧
    txResult (after (.canTxEnd 0 .lost) (after (.canFrameStart 0) (after (.txreq .a 0 0) s))) 0 0 = 1 := by decide +kernel

theorem test_can_errors : ((after (.canError 0 1 true false) (bussed { mode := 0 } [])).canCh 0).tec = 8 ∧
    ((after (.canError 0 1 false true) (bussed { mode := 0, rec_ := 250 } [])).canCh 0).rec_ = 255 ∧
    canMode (after (.canBusOff 0) (bussed { mode := 0, tec := 256 } [])) 0 = 0 ∧
    canMode (after (.canBusOff 0) (bussed { mode := 0, tec := 256 } [(.can, canOff 0 0, 0x88000000)])) 0 = 4 ∧
    canMode (after (.busoffRecovered 0) (bussed { mode := 4, busOff := true, before := 1 } [])) 0 = 1 ∧
    sget (after (.protocolException 0) (bussed { mode := 0 } [])) .can (canOff 0 0x54) = 1 := by decide +kernel

theorem test_can_modes : ((after (.canMode .a 0 1) (bussed { mode := 0 } [])).canCh 0).req = some 1 ∧ err (.canMode .a 0 4) (bussed { mode := 0 } []) .can = 4 ∧
    err (.canMode .a 1 0) (bussed {} []) .can = 1 ∧ canMode (after (.canModeChange 0) (bussed { mode := 0, req := some 1 } [])) 0 = 1 ∧
    canMode (after (.recover .a 0) (bussed { mode := 0, busOff := true } [])) 0 = 4 ∧ err (.recover .a 0) (bussed { mode := 0 } []) .can = 1 := by
  decide +kernel

theorem test_time_reference : canMode (bussed { mode := 0 } []) 0 = 0 ∧ after (.timeReference 0) up = up := by decide +kernel

/-- LIN channel 0 enabled: table 0 has two slots of 10 ms, the first a SUBSCRIBE of one byte. -/
def linned (c : LinCh) : State :=
  { withRegs [(.lin, 0x100, 0x80000000), (.lin, 0x24, 4), (.lin, 0x1000, 0xA101000A), (.lin, 0x1004, 0x8101000A), (.lin, 0x1080, 0x8101000A)] with
    bus := { lin := [(0, c)] }, now := 10 ^ 7 }

theorem test_lin_commands : ((after (.linStart .a 0 0) (linned {})).linCh 0).st = .running ∧ err (.linStart .a 0 2) (linned {}) .lin = 4 ∧
    err (.linStart .a 0 0) (linned { st := .running }) .lin = 1 ∧ err (.linStart .a 1 0) (linned {}) .lin = 1 ∧
    ((after (.linSwitch .a 0 1) (linned { st := .running })).linCh 0).switchTo = some (1, 10 ^ 7) ∧
    ((after (.linStop .a 0) (linned { st := .running })).linCh 0).stop = true ∧
    ((after (.linSleep .a 0) (linned {})).linCh 0).st = .sleep ∧ err (.linWakeup .a 0) (linned {}) .lin = 1 ∧
    ((after (.linWakeup .a 0) (linned { st := .sleep })).linCh 0).pulse = some (10 ^ 7 + 250000) ∧
    err (.linSleep .a 0) (linned { st := .sleep }) .lin = 1 := by decide +kernel

theorem test_lin_slots : ((after (.linSlot 0) (linned { st := .running, answered := true })).linCh 0).slot = 1 ∧
    ((after (.linSlot 0) (linned { st := .running, slot := 1 })).linCh 0).slot = 0 ∧
    ((after (.linSlot 0) (linned { st := .running, slot := 1, stop := true })).linCh 0).st = .stopped ∧
    ((after (.linSlot 0) (linned { st := .running, slot := 1, slotEnd := 9, switchTo := some (1, 0) })).linCh 0).table = 1 ∧
    sget (after (.linSlot 0) (linned { st := .running })) .lin 0x28 = 1 ∧
    sget (after (.linResponse 0 [] true) (linned { st := .running })) .lin 0x28 = 1 := by decide +kernel

/-- R388: the checksum is the complement of the sum with carries; 0x4A + 0x55 + 0x93 + 0xE5 gives 0xE6 (LIN 2.x example). -/
theorem test_lin_checksum : linSum [0x4A, 0x55, 0x93, 0xE5] = 0xE6 := by decide +kernel

theorem test_sent : let s := withRegs [(.snt, 0x100, 0x80600000 + 3000), (.snt, 0x24, 4)]
    sget (after (.sentFrame 0 (56 * 3000) 1 [0, 0, 0, 0, 0, 0] (BitVec.ofNat 4 (crc4 false [0, 0, 0, 0, 0, 0])) false 5 0) s) .snt 0x104 = 0x1000000 ∧
    sfld (after (.sentFrame 0 (56 * 3000) 1 [0, 0, 0, 0, 0, 0] (BitVec.ofNat 4 (crc4 false [0, 0, 0, 0, 0, 0])) true 5 0) s) .snt 0x110 15 0 = 1 := by
  decide +kernel

theorem test_serial : let s := withRegs [(.ser, 0x100, 0x83000060), (.ser, 0x114, 4)]
    ((after (.serByte 0 0x41 false false false 0) s).port 0).bytes = [0x41] ∧
    sget (after (.serByte 0 0x42 true false false 0) (after (.serByte 0 0x41 false false false 0) s)) .ser 0x118 = 1 ∧
    sget (after (.serIdle 0) { after (.serByte 0 0x41 false false false 0) s with now := 10 ^ 9 }) .ser 0x118 = 1 ∧
    ((after (.serTxd .a 0 0x141) s).port 0).fifo = [0x41] ∧ ((after (.serByteSent 0) (after (.serTxd .a 0 0x141) s)).port 0).fifo = [] ∧
    err (.serTxd .a 0 1) { s with bus := { ser := [(0, { fifo := List.replicate 256 0 })] } } .ser = 5 := by decide +kernel

theorem test_pps : let s := withRegs [(.ser, 0x400, 0x80000001)]
    (tget (after (.ppsEdge 0 true) { s with now := 77 }).bus.pps 0).htb = 77 ∧ (tget (after (.ppsEdge 0 true) s).bus.pps 0).unread = true ∧
    (tget (after (.ppsEdge 0 false) s).bus.pps 0).unread = false ∧ nfld (dtGet s 0 0) 29 28 ≠ 1 ∧ nfld (dtGet s 1 0) 29 28 ≠ 1 ∧
    rget (after (.ppsStampRead .a 0) (after (.ppsEdge 0 true) { s with now := 77 })) .a 0xF068040C = 77 := by decide +kernel

/-! ### Ethernet and time -/

/-- Port 0 up and member, with the module, of VLAN 1; receive ring 0 of four slots. -/
def networked (p : EthPort) : State :=
  { withRegs [(.eth, 0x400, 0x80000001), (.eth, 0x404, 0x403), (.eth, ethOff 0 0, 0x80000001), (.eth, 0x804, 4), (.eth, 0x904, 4)] with
    now := 10 ^ 9, eth := { ports := [(0, { p with link := true }), (1, { link := true })] } }

theorem test_eth_reception : let s := networked {}
    sget (after (.ethReceive 0 (List.replicate 59 0) true 0) s) .eth (ethOff 0 0x1C) = 1 ∧
    sget (after (.ethReceive 0 (List.replicate 60 0) true 0) s) .eth (ethOff 0 0x14) = 1 ∧
    sget (after (.ethReceive 0 (List.replicate 60 0) false 0) s) .eth (ethOff 0 0x1C) = 1 ∧
    vlanOf s 1 = some (0x403, 0) ∧ vlanOf s 2 = none ∧ s.eth.fdb = [] := by decide +kernel

theorem test_egress : let s := networked { queue := [(3, [(none, [])])] }
    sget (after (.egressFrameSent 0) s) .eth (ethOff 0 0x18) = 1 ∧ ((after (.ethLinkDown 0) s).ethPort 0).link = false ∧
    ((after (.ethLinkUp 2 true 5) (sput s .eth (ethOff 2 0) 0x80000000)).ethPort 2).sqi = 5 ∧
    after (.egressFrameSent 1) s = s := by decide +kernel

theorem test_tx_ring : let s := networked {}
    err (.txRingDoorbell .a 0 4) s .eth = 4 ∧ txOwned (after (.txRingDoorbell .a 0 3) s) 0 = true ∧
    sget (after (.ethTxDone 0 0) (after (.txRingDoorbell .a 0 3) s)) .eth 0x90C = 1 := by decide +kernel

theorem test_fdb : (after .fdbAgeing { networked {} with eth := { fdb := [{ seen := 0 }] }, now := 10 ^ 12 }).eth.fdb = [] ∧
    (after (.flushfdb .a) { networked {} with eth := { fdb := [{}] } }).eth.fdb = [] := by decide +kernel

theorem test_frer : let s := { withRegs [(.eth, 0xC04, 0x40000000), (.eth, 0xC08, 1)] with now := 10 ^ 9, eth := { frer := [(0, { takeAny := false })] } }
    ((after (.frerReset 0) s).frer 0).takeAny = true ∧ nbit (sget (after (.pathdown 0 0) s) .eth 0xC10) 0 = true := by decide +kernel

/-- Tracker 0 is a program's, enabled. -/
def tracking (t : Tim) (rs : List (Block × Nat × Nat)) : State :=
  { withRegs ([(.tim, 0x100, 0x80000064), (.tim, 0x44, 1000)] ++ rs) with tim := t, now := 10 ^ 9 }

theorem test_trackers : ((after (.trackerCommit .a 0 0) (tracking {} [])).trk 0).first = false ∧
    err (.trackerCommit .a 0 0) (tracking { count := 2 ^ 32 * (2 * 10 ^ 9) } []) .tim = 0x11 ∧
    err (.trackerCommit .a 0 0) (tracking {} [(.tim, 0x100, 0x90000064)]) .tim = 1 ∧
    ((after (.trackerCommit .a 0 0) (after (.trackerCommit .a 0 0) (tracking {} []))).trk 0).count = 2 ∧
    (after (.trackerTimeout 0) (tracking { cstate := .dt0, trk := [(0, { valid := true, timeout := some 5 })] } [])).tim.cstate = .holdover := by
  decide +kernel

theorem test_clock_switch : let t : Tim := { cstate := .dt1, trk := [(0, { valid := true })] }
    (after (.timSwitch .a 0) (tracking t [])).tim.cstate = .dt0 ∧ err (.timSwitch .a 1) (tracking t []) .tim = 1 ∧
    err (.timSwitch .a 0) (tracking { t with trk := [(0, { valid := true, d := 2 ^ 50 })] } []) .tim = 0x10 ∧
    (after .revertSwitch (tracking t [(.tim, 0, 0x60), (.tim, 0x4C, 1)])).tim.cstate = .dt0 ∧
    (after (.forcefree .a) (tracking t [])).tim.cstate = .free ∧ err (.forcefree .a) (tracking {} []) .tim = 1 := by decide +kernel

theorem test_clock_reading : rget (after (.timNowRead .a) { up with now := 2 ^ 33 + 5 }) .a 0xF0780028 = 5 ∧
    rget (after (.timNowRead .a) { up with now := 2 ^ 33 + 5 }) .a 0xF078002C = 2 ∧ up.tim.q = slewStep up ∧
    (after .slewComplete up).tim.q = 0 := by decide +kernel

/-! ### Streams and hoists -/

/-- A message of 32 bytes: type, stream, epoch, number; its CRC last. -/
def msg (ty unit stream ep seq : Nat) (src : Nat := 0) : List Byte :=
  let b := [1, BitVec.ofNat 8 ty, 0, 0] ++ leBytes 4 unit ++ leBytes 4 src ++ leBytes 2 stream ++ leBytes 2 ep ++ leBytes 4 seq ++ List.replicate 8 0
  b ++ leBytes 4 (crc32c (b ++ [0, 0, 0, 0]))

/-- Stream 0 receives, or sends when `cfg` says so; window 8. -/
def streaming (x : HStream) (cfg : Nat) : State :=
  { up with now := 10 ^ 9, sregs := [(0xF0800000, 1), (0xF0800000 + strOff 0 0, cfg + 0x80000)], laneA := { up.laneA with strs := [(0, x)] } }

theorem witness_messages : hstUp up = true ∧ msgOk (msg 1 0 0 0 1) = true ∧ msgOk [] = false ∧
    sget (after (.jobReceive []) up) .hst 0x54 = 1 ∧
    ((after (.jobReceive (msg 1 0 0 0 1)) (streaming { st := .opened } 0)).str .a 0).jour.isSome = true ∧
    sget (after (.jobReceive (msg 1 0 0 0 0)) (streaming { st := .opened } 0)) .hst 0x48 = 1 ∧
    ((after (.jobReceive (msg 1 0 0 0 3)) (streaming { st := .opened } 0)).str .a 0).held.length = 1 ∧
    sget (after (.jobReceive (msg 1 0 0 0 10)) (streaming { st := .opened } 0)) .hst 0x4C = 1 ∧
    sget (after (.jobReceive (msg 1 0 0 0 1)) (streaming { st := .paused } 0)) .hst 0x50 = 1 ∧
    sget (after (.jobReceive (msg 1 0 0 0 1)) (streaming { st := .opened, epoch := 1 } 0)) .hst 0x58 = 1 := by decide +kernel

theorem witness_sending : let s := streaming { st := .opened, sent := [{ seq := 1 }, { seq := 2 }] } 0x80000000
    ((after (.ackReceive (msg 2 0 0 0 1)) s).str .a 0).sent = [{ seq := 2 }] ∧ lvlOfUnit s 0 = none ∧
    ((after (.stateReceive (msg 4 0 0 0 1)) s).str .a 0).refused.isSome = true ∧
    ((after (.gapReceive (msg 3 0 0 0 1)) s).str .a 0).rtoAt ≥ 10 ^ 9 ∧
    sget (after (.completeReceive (msg 5 0 0 0 1)) { s with laneA := { s.laneA with strs := [(0, { session := 1 })] } }) .hst 0x58 = 1 ∧
    ((after (.completeReceive (msg 5 0 0 0 1)) s).str .a 0) = s.str .a 0 := by decide +kernel

theorem test_stream_progress : ((after (.jobAccept 0) (streaming { st := .opened, jour := some ({ seq := 1 }, true, true) } 0)).str .a 0).seqA = 1 ∧
    ((after (.jobAccept 0) (streaming { st := .opened, jour := some ({ seq := 1 }, false, false) } 0)).str .a 0).jour = some ({ seq := 1 }, true, false) ∧
    ((after (.jobRetransmit 0) (streaming { st := .opened, sent := [{ seq := 1 }], tries := 15 } 0x80000000)).str .a 0).st = .stalled ∧
    ((after (.jobBackoff 0) (streaming { st := .opened, refused := some (1, 0) } 0x80000000)).str .a 0).refused.isSome = true := by decide +kernel

theorem test_stream_commands : ((after (.streamOpen .a 0) (streaming {} 0)).str .b 0).st = .opened ∧ err (.streamOpen .a 0) (streaming { st := .opened } 0) .hst = 1 ∧
    ((after (.streamClose .a 0) (streaming { st := .opened } 0)).str .a 0).st = .closed ∧ err (.streamClose .a 0) (streaming { st := .opened, seqA := 1 } 0) .hst = 1 ∧
    ((after (.streamPause .a 0) (streaming { st := .opened } 0)).str .a 0).st = .paused ∧
    ((after (.streamResume .a 0) (streaming { st := .paused } 0)).str .a 0).st = .opened ∧
    ((after (.streamResume .a 0) (streaming { st := .stalled } 0)).str .a 0).st = .opened ∧ err (.streamResume .a 0) (streaming {} 0) .hst = 1 ∧
    rget (after (.streamOpen .b 0) (streaming {} 0)) .b 0xF080000C ≠ 0 := by decide +kernel

/-- Level 0 on: hoist 7, own rank 1, MISSN 3, HBPER 1000 µs. -/
def hoisted (x : HLevel) : State :=
  { up with now := 10 ^ 9, sregs := [(0xF0800000, 1), (0xF0800100, 0x81000007), (0xF0800104, 0x300003E8)], hst := { levels := [(0, x)] } }

/-- A heartbeat of rank 2 in hoist 7. -/
def beat (ep st : Nat) : List Byte :=
  let b := [1, 0x10] ++ leBytes 2 7 ++ leBytes 4 0 ++ leBytes 2 ep ++ [BitVec.ofNat 8 st, 2] ++ List.replicate 8 0
  b ++ leBytes 4 (crc32c (b ++ [0, 0, 0, 0]))

theorem witness_hoist_heartbeats : hbOk (beat 0 2) = true ∧ sget (after (.heartbeatReceive []) up) .hst 0x54 = 1 ∧
    tfind ((after (.heartbeatReceive (beat 0 1)) (hoisted {})).lvl 0).heard 2 = some (10 ^ 9) ∧
    ((after (.heartbeatReceive (beat 5 0)) (hoisted {})).lvl 0).syncing = true ∧
    ((after (.heartbeatReceive (beat 0 0)) (hoisted { listen := some (10 ^ 10) })).lvl 0).ensign = some 2 ∧
    ((after (.heartbeatSend 0) (hoisted { role := 0 })).lvl 0).hbSeq = 1 := by decide +kernel

theorem witness_members : let s := hoisted { role := 2, ensign := some 2, heard := [(2, 0)] }
    0 + lvlMiss s 0 ≤ s.now ∧ ((after (.memberLost 0 2) s).lvl 0).ensign = some 1 ∧ ((after (.memberLost 0 2) s).lvl 0).heard = [] ∧
    ((after (.hoistListen 0) (hoisted { listen := some 0 })).lvl 0).epoch = 1 ∧
    ((after (.hoistListen 0) (hoisted { listen := some 0, ensign := some 2 })).lvl 0).syncing = true ∧
    ((after (.resign .a) (hoisted { role := 0 })).lvl 0).role = 3 ∧ err (.resign .a) up .hst = 1 := by decide +kernel

theorem witness_journal : let u := 0xC0000007
    let s := { hoisted { role := 2 } with sregs := tset (hoisted {}).sregs (0xF0800000 + strOff 0 4) 0xC0000007 }
    lvlOfUnit s u = some 0 ∧ unitKind u = 3 ∧ ((after (.jrepReceive (msg 6 u 0 0 4)) s).str .a 0).seqB = 4 ∧
    ((after (.jrepackReceive (msg 7 u 0 0 4)) { s with
      hst := { levels := [(0, { role := 0 })] }, laneA := { s.laneA with strs := [(0, { jour := some ({ seq := 4 }, false, false) })] } }).str .a 0).jour =
      some ({ seq := 4 }, false, true) ∧
    ((after (.jsyncReceive (msg 8 u 0 0 0 u)) { s with hst := { levels := [(0, { role := 2, syncing := true })] } }).lvl 0).recs = [[]] ∧
    ((after (.jsyncendReceive (msg 9 u 0 0 1 u)) { s with hst := { levels := [(0, { role := 2, syncing := true })] } }).lvl 0).recs = [] ∧
    ((after (.jsyncendReceive (msg 9 u 0 0 0 u)) { s with hst := { levels := [(0, { role := 2, syncing := true })] } }).lvl 0).syncing = false := by decide +kernel

/-! ### Fabric, power, configuration -/

theorem test_fabric : (after .creditRefill { up with now := 1280 }).fab.window = 1 ∧
    ((after .creditRefill (rset { up with now := 1280 } .a (rqReg 3 0) 9)).rq 3).credit = 9 ∧
    (after (.burstGrant [(3, 0, 0), (2, 0, 0)] 16) up).fab.flight.isSome = true ∧ (after (.burstGrant [] 16) up).fab.flight = none ∧
    ((after (.burstGrant [(3, 0, 0), (2, 0, 0)] 16) { up with fab := { rqs := [(2, { credit := 5 }), (3, { credit := 5 })] } }).rq 2).credit = 4 ∧
    sget (after (.scrubRead 0 (some false)) up) .fab 0x14 = 1 ∧ sget (after (.scrubRead 2 (some true)) up) .fab 0x1C = 128 := by decide +kernel

theorem test_fabric_commands : rfld (after (.weightWrite .a 0 9) up) .a (rqReg 0 0) 7 0 = 9 ∧ sfld (after (.weightHold .a true) up) .fab 0 2 2 = 1 ∧
    fabFreeze (after (.fabricFreeze .a true) up) = true ∧
    rqFrozen (after (.fabricFreeze .a true) (withRegs [(.fab, 0x10, 1)])) 0 = true ∧
    let s := after (.fabricFreeze .a true) (withRegs [(.fab, 0x10, 0xFFFF)])
    laneBlocked s .a = true ∧ after (.loadReturn .a 0 0) s = s := by decide +kernel

theorem test_supplies : (after .cameraBrownout (filming {} [])).pwr.brownout = true ∧ ((after .cameraBrownout (filming {} [])).link 0).power = false ∧
    ((after .brownoutRelease (after .cameraBrownout (filming {} []))).link 0).power = true ∧
    sfld (after (.valveSupplyOver 0 301) up) .pwr 4 4 4 = 1 ∧ (after (.bankWeak 94) up).pwr.bankWeak = true ∧
    (after .tambStale { up with now := 15000000000 }).pwr.tambStale = true := by decide +kernel

theorem test_sensor_supplies : let s := withRegs [(.pwr, 0x58, 0xFFF)]
    ssOn s 0 = true ∧ ssOn (after (.sensorSupplyFault 0) s) 0 = false ∧
    ssOn (after (.sensorSupplyRestart .a 1) (after (.sensorSupplyFault 0) s)) 0 = true := by decide +kernel

theorem test_dissipation : (after (.dissEstimate 100 96 50 3 4 5 0) { up with now := 250000 }).pwr.dissnow = 127 ∧
    (after .dissShed { withRegs [(.pwr, 0, 2)] with pwr := { shedding := true, dissnow := 2000 } }).pwr.dissat = true ∧
    dissCandidates up = [] := by decide +kernel

/-- A camera and a load switch that may be shed. -/
theorem witness_shed : let s := { filming {} [(.pwr, 0, 2), (.pwr, 0x2C, 5)] with pwr := { shedding := true, dissnow := 2000 } }
    dissCandidates s = [(5, 1, 0)] ∧ ((after .dissShed s).link 0).power = false ∧
    dissCandidates { lit with sregs := [(lsReg 0 4, 5), (lsReg 0 0, 0x30000000)] } = [(3, 0, 0)] := by decide +kernel

theorem test_cfg_write : err (.cfgWrite .a) up .cfg = 4 ∧ err (.cfgWrite .a) { up with cfg := { writing := some {} } } .cfg = 5 ∧
    err (.cfgWrite .a) { up with sup := { up.sup with power := .holdup } } .cfg = 1 ∧
    (after (.cfgWrite .a) { withRegs [(.cfg, 0x14, 152)] with dram := [(0, [(0x14, 8)])] }).cfg.writing = some { seq := 1 } := by decide +kernel

theorem test_cfg_write_done : (after (.cfgWriteDone true) { up with cfg := { writing := some { target := .b, seq := 3, bytes := some [1] } } }).cfg.copyB = [1] ∧
    (after (.cfgWriteDone true) { up with cfg := { writing := some { target := .b, seq := 3 } } }).cfg.result = 2 ∧
    (after (.cfgWriteDone false) { up with cfg := { writing := some { target := .b, seq := 3, bytes := some [1] } } }).cfg.result = 3 := by decide +kernel

/-! ### Recorder -/

theorem test_records : (after (.recordEnter .a 0x100 0 0) up).recd.next = (if hwCode 0x100 then 1 else 0) ∧ hwCode 1 = true ∧
    (after (.pwcmd .a 0 0x8000) up).recd.next = 1 ∧ err (.pwcmd .a 0 0x7FFF) up .recd = 4 ∧
    (after (.pwcmd .a 0 0x8000) { up with recd := { next := 8192 } }).recd.full = true ∧
    (after (.pwcmd .a 0 0x8000) { up with recd := { next := 8000, full := true } }).recd.next = 8002 ∧
    (after (.pwcmd .a 0 0x8000) { up with recd := { state := .frozen } }).recd.tally = [(0x8000, 1)] ∧
    (after (.pwcmd .a 0 0x8000) { up with recd := { next := 6143 } }).recd.state = .flushing := by decide +kernel

theorem test_recorder_states : (after (.recFreeze .a) up).recd.state = .frozen ∧ (after (.thaw .a) (after (.recFreeze .a) up)).recd.next = 1 ∧
    err (.thaw .a) up .recd = 1 ∧ err (.recFreeze .a) (after (.recFlush .a) up) .recd = 5 ∧
    (after .freezeTimeout { up with recd := { state := .frozen, frozenUntil := some 0 } }).recd.state = .recording ∧
    (after .flushDone { up with recd := { state := .flushing, bufA := [(0, [1])], next := 1, flushTo := 1 } }).recd.flushed = 1 := by decide +kernel

theorem test_recorder_read : let s := { withRegs [(.recd, 0x4C, 1)] with recd := { next := 1, bufA := [(0, List.replicate 64 1)] } }
    (after (.recRead .a) s).recd.read = some ⟨0, 1, 0⟩ ∧ err (.recRead .a) (after (.recRead .a) s) .recd = 5 ∧
    err (.recRead .a) (withRegs [(.recd, 0x4C, 1)]) .recd = 4 ∧ (after .readDone (after (.recRead .a) s)).recd.read = none ∧
    recAt s 0 = some (List.replicate 64 1) := by decide +kernel

theorem test_recorder_nonce : ((after (.recNonce .a) up).sec.nonces.map fun p => p.1) = [3] ∧ (after (.recNonce .a) up).freeCtr = up.freeCtr + 1 ∧
    err (.recClear .a) up .recd = 0x11 ∧ (after (.nonceExpiry 3) { after (.recNonce .a) up with now := 75000000000 }).sec.nonces = [] ∧
    up.recd.ophrsFrac + 9000000000 > up.now ∧ (after .ophrsTick { up with now := 9000000000 }).recd.ophrs = 1 := by decide +kernel

/-! ### Panel -/

/-- The panel in a state, with a slot. -/
def panelled (p : PnlSt) : State := { up with pnl := p, now := 10 ^ 9 }

theorem test_panel_update : (after (.panelUpdate .a true 0 1) up).pnl.uid = 1 ∧ err (.panelUpdate .a true 1 0) up .pnl = 4 ∧
    err (.panelUpdate .a true 0 1) (panelled { st := .cracked }) .pnl = 1 ∧
    err (.panelUpdate .a true 0 1) (panelled { slots := (List.range 8).map fun n => (n, { st := .pending }) }) .pnl = 0x10 ∧
    (after (.panelUpdate .a true 0 1) (panelled { uid := 65535 })).pnl.uid = 1 := by decide +kernel

theorem test_panel_loaded : let s := after (.panelUpdate .a true 0 0) (panelled { checked := true })
    ((after .updateLoaded s).pslot 0).st = .pending ∧ (after .updateLoaded s).pnl.st = .updating ∧ (after .updateLoaded s).pnl.marker = true ∧
    ((after .updateLoaded (after (.panelUpdate .a false 0 0) (panelled { targets := [(0, List.replicate 160 0)] }))).pslot 0).st = .free := by decide +kernel

theorem test_panel_power : (after (.panelDischarge .a) (panelled { st := .idle })).pnl.discharging = true ∧ err (.panelDischarge .a) up .pnl = 1 ∧
    (after .panelPowerHold (panelled { st := .idle, holdEnd := some 5 })).pnl.st = .discharged ∧ err (.recheck .a) up .pnl = 1 ∧
    (after .dischargeDone (panelled { discharging := true, nextLine := 1000 })).pnl.discharging = false ∧
    after .panelPowered up = up ∧ (after .tempStale { up with now := 15000000000 }).pnl.tempStale = true := by decide +kernel

theorem test_panel_checks : (after (.crackCheck 2000) (panelled {})).pnl.st = .discharged ∧ (after (.crackCheck 2001) (panelled {})).pnl.st = .cracked ∧
    sget (after (.crackCheck 2001) (panelled {})) .pnl 0x38 = 2001 ∧ after (.crackCheck 2001) (panelled { crackNext := 10 ^ 10 }) = panelled { crackNext := 10 ^ 10 } := by
  decide +kernel

theorem test_panel_lines : let s := panelled { st := .updating, frameEnd := some 5 }
    (after .panelLineSend s).pnl.nextLine = 1 ∧ (after .pbsyTimeout s).pnl.lineTmo = true ∧
    (after .panelFrame { s with pnl := { s.pnl with nextLine := 1000 } }).pnl.st = .idle ∧
    (after .panelFrame { s with pnl := { s.pnl with nextLine := 1000, stopLines := true } }).pnl.aborted = true ∧ after .panelFrame s = s := by decide +kernel

/-! ### Security -/

/-- An open session that key 0 signed, key 0 active with every right. -/
def serviced : State :=
  { up with sec := { keys := [(0, { st := .active, mask := 63 }), (1, { st := .active, mask := 1 })], session := some (10 ^ 12, 0) }, now := 10 ^ 9 }

theorem test_nonces : err (.secNonce .a 0) up .sec = 4 ∧ (after (.secNonce .a 2) up).sec.lastPurpose = 2 ∧ (after (.secNonce .a 2) up).freeCtr = up.freeCtr + 1 ∧
    err (.sessionOpen .a) up .sec = 0x11 ∧ err (.dbgunlock .a) up .sec = 1 ∧
    err (.dbgunlock .a) { up with sup := { up.sup with modMode := .service } } .sec = 0x11 ∧
    (after (.endsession .a) serviced).sec.session = none ∧ (after (.dbglock .a) { up with sec := { dbg := some 5 } }).sec.dbg = none ∧
    (after (.sessionExpiry false) { serviced with now := 10 ^ 12 }).sec.session = none := by decide +kernel

theorem test_images : err (.imgwrite .a) up .sec = 0x12 ∧ (after (.imgwrite .a) serviced).sec.writing = some ⟨1, none⟩ ∧
    err (.imgwrite .a) { serviced with now := 10 ^ 12 } .sec = 0x12 ∧ err (.activate .a 0) serviced .sec = 1 ∧
    (after (.imageWriteDone true) { up with sec := { writing := some ⟨1, some [7]⟩ } }).sec.slots = [(1, [7])] ∧
    (after (.raisemin .a) { up with sec := { slots := [(0, List.replicate 12 0 ++ [9, 0, 0, 0])] } }).sec.minver = 9 ∧
    err (.raisemin .a) { up with sec := { slots := [(0, [])], minver := 1 } } .sec = 4 := by decide +kernel

theorem test_keys : ((after (.keywrite .a 2) serviced).key 2).st = .active ∧ err (.keywrite .a 1) serviced .sec = 1 ∧ err (.keywrite .a 1) up .sec = 0x12 ∧
    ((after (.keywrite .a 0) { up with sup := { up.sup with modMode := .service } }).key 0).st = .active ∧
    ((after (.keyrevoke .a 0) serviced).key 0).st = .revoked ∧ err (.keyrevoke .a 1) { serviced with sec := { serviced.sec with keys := [(0, { st := .active, mask := 62 })] } } .sec = 1 := by
  decide +kernel


/-! ### Words of Ranly -/

/-- A word as an instruction of core 0 of Lane A, the extension word 0. -/
def word0 (w : Word) : Option Instr := decodeRanly .a 0 w 0

/-- The words that the manual writes out (spec/02 "Worked example: one filter tap pair", R61, R53; spec/03 R87). -/
theorem test_decode_manual_words :
    word0 0x0340004D = some (.aclr i0 2) ∧ word0 0x634054C8 = some (.mac2 ⟨.a, 0, 3, false⟩ 2 5 9) ∧
    word0 0x034E0050 = some (.ext i0 7 2 0) ∧ word0 0x03500053 = some (.ext i0 8 2 3) ∧
    word0 0x0C06A581 = some (.waita i0 3 10 11) ∧ word0 0x10400000 = some (.add ⟨.a, 0, 0, true⟩ 0 0 0) ∧
    decodeRanly .a 0 0x02080000 0xF0100000 = some (.movw i0 4 0xF0100000) := by decide +kernel

/-- A word of each family from the bit places of R55: OP in [27:22], D in [21:17], A in [16:12], B in [11:7], F in [6:0], K in [11:0]. -/
theorem test_decode_families :
    word0 0x0042311A = none ∧ word0 0x0042310A = some (.min i0 1 3 2) ∧ word0 0x00823FFF = some (.addi i0 1 3 0xFFF) ∧
    word0 0x01823C1F = some (.shi i0 1 3 .ror 31) ∧ word0 0x01823020 = none ∧ word0 0x01C3FFFF = some (.movh i0 1 0xFFFF) ∧
    word0 0x025A1880 = some (.cmp i0 3 .lt 3 2) ∧ word0 0x029A1FFF = some (.cmpi i0 3 .lt 3 0x7FF) ∧
    word0 0x02CAB400 = some (.plog i0 1 2 5 .xnor) ∧ word0 0x0302310C = none ∧ word0 0x0302300C = some (.pswap i0 1 3) ∧
    word0 0x03820401 = some (.mts i0 1 1) ∧ word0 0x03820402 = none ∧ word0 0x05C23004 = some (.stw i0 1 3 4) ∧
    word0 0x083FFFFF = some (.b i0 0x3FFFFF) ∧ word0 0x08803000 = some (.jr i0 3) ∧ word0 0x0D000001 = some (.fenceE i0) ∧
    word0 0x0D800000 = none := by decide +kernel

/-- A reserved encoding is the command of that name; one of opcode 0x08 has its extension word (R55, R56). -/
theorem test_decode_reserved : ranlyCommand .a 0 0x0D800000 0 = .reservedEncoding (i0, false) ∧
    ranlyCommand .a 0 0x02080001 0 = .reservedEncoding (i0, true) := by decide +kernel

/-! ### The fabric holds requests (R466, R476, R477) -/

/-- RQ7, which carries the rings of the field buses, is frozen. -/
def frozen7 (s : State) : State := sput (sput s .fab 0 2) .fab 0x10 0x80

theorem test_ring_waits : let s := after (.canReceive 0 5 false false false false false 1 [7] 0) (frozen7 (bussed { mode := 0 } []))
    s.dq.wait.length = 1 ∧ sget s .can (canOff 0 0x38) = 0 ∧ (dramDrain s).dq.wait.length = 1 ∧
    (dramDrain (sput s .fab 0 0)).dq.wait = [] ∧ sget (dramDrain (sput s .fab 0 0)) .can (canOff 0 0x38) = 1 := by decide +kernel

theorem test_bad_beats : let s := { up with dq := { bad := [5, 2 ^ 24] } }
    (dramWrite s 0 (64 * 5 + 63) [0, 0]).dq.bad = [2 ^ 24] ∧ (dramWrite s 0 (64 * 6) [0]).dq.bad = [5, 2 ^ 24] ∧
    (dramMeet s (.lane .a) 1 0 1).dq.met = [(.lane .a, 2 ^ 24)] ∧ (dramMeet s (.engine .cfg) 0 384 64).dq.met = [] ∧
    (after (.eccUncorrectable (.engine .cfg 3 7)) s).dq.bad.contains 7 = true := by decide +kernel

theorem test_slew_ends_with_ticks : let s := { up with tim := { addend := timNom, q := 5, count := 2 ^ 40 } }
    (after .slewComplete s).tim = s.tim := by decide +kernel

theorem witness_clock_alone : let s := { up with tim := { cstate := .dt0, trk := [(0, { valid := true, first := true })] } }
    timActive s = some 0 ∧ (s.trk 0).valid = true ∧ s.pending = [] ∧ s.tim.forced = false ∧ s.tim.frozen = false := by decide +kernel

theorem witness_boost : boostOn (withRegs [(.ddv, 0x10, 0x10000)]) = true ∧ boostOn (withRegs [(.ddv, 0x10, 0)]) = false := by decide +kernel
end Sys2Proof.Tests
end

section
/-! PROOFS. The queue of waiting commands: no command touches it (O4), and a step takes its front (O1). -/

namespace Sys2Proof.Machine

/-! ### Stores and fences -/

@[simp] theorem regWrite_pending (s : State) (l : LaneId) (c a v : Nat) : (regWrite s l c a v).pending = s.pending :=
  closed_pending s _

@[simp] theorem areaStore_pending (s : State) (g a n v : Nat) : (areaStore s g a n v).pending = s.pending := by
  unfold areaStore
  split <;> rfl

/-- A store that takes effect leaves the queue, wherever its address lies (R43). -/
@[simp] theorem applyStore_pending (s : State) (l : LaneId) (c : Nat) (b : BufStore) :
    (applyStore s l c b).pending = s.pending := by
  unfold applyStore
  split
  case h_1 | h_2 => simp
  case h_3 =>
    split
    · split <;> simp
    · split <;> rfl
  case h_4 => simp
  case h_5 => rfl

@[simp] theorem drainFirst_pending (s : State) (l : LaneId) (c : Nat) (p : BufStore → Bool) :
    (drainFirst s l c p).pending = s.pending := by
  unfold drainFirst
  split <;> simp

@[simp] theorem drainLane_pending (s : State) (l : LaneId) (c : Nat) : (drainLane s l c).pending = s.pending := by
  unfold drainLane
  split <;> simp

/-- A repeated step that leaves the queue leaves it however often it is taken. -/
theorem foldl_pending {α : Type} {f : State → α → State} (hf : ∀ s x, (f s x).pending = s.pending) (xs : List α) (s : State) :
    (xs.foldl f s).pending = s.pending := by
  induction xs generalizing s with
  | nil => rfl
  | cons x xs ih => rw [List.foldl_cons, ih, hf]

@[simp] theorem fenceL_pending (s : State) (l : LaneId) (c : Nat) : (fenceL s l c).pending = s.pending := by
  unfold fenceL
  rw [foldl_pending fun s _ => drainLane_pending s l c]
  exact State.modCore_pending ..

@[simp] theorem fenceE_pending (s : State) (l : LaneId) (c : Nat) : (fenceE s l c).pending = s.pending := by
  unfold fenceE drainAll
  rw [foldl_pending fun s _ => drainFirst_pending s l c _]
  exact State.modCore_pending ..

@[simp] theorem fenceDone_pending (s : State) (l : LaneId) (c : Nat) : (fenceDone s l c).pending = s.pending := by
  unfold fenceDone
  split <;> simp

/-! ### How commands end -/

/-- An outcome is a next state with the queue of `s`, or none at all. -/
def QueueKept (s : State) (o : Out) : Prop := ∀ t, o = .next t → t.pending = s.pending

theorem queueKept_next {s t : State} (h : t.pending = s.pending) : QueueKept s (.next t) := by
  rintro _ ⟨⟩
  exact h

theorem queueKept_act (s t : State) : QueueKept s (act s t) := fun _ => act_pending
theorem queueKept_actL (s t : State) : QueueKept s (actL s t) := fun _ => actL_pending
theorem queueKept_actSup (s t : State) : QueueKept s (actSup s t) := fun _ => actSup_pending
theorem queueKept_actOn (s t : State) : QueueKept s (actOn s t) := fun _ => actOn_pending
theorem queueKept_actUp (s t : State) : QueueKept s (actUp s t) := fun _ => actUp_pending

/-- An instruction of a core ends with its issue. -/
theorem queueKept_issue (s : State) (i : Issue) (len : Nat) (uses : List VReg) (k : State → State) :
    QueueKept s (nxt (issue i len uses s k)) := queueKept_next (issue_pending s i len uses k)

/-! ### The commands of a core that are not issued, and the operating hours -/

theorem execLoadReturn_queueKept (l : LaneId) (c : Fin 8) (d : VReg) (s : State) : QueueKept s (execLoadReturn l c d s) := by
  refine queueKept_next ?_
  split <;> simp

theorem execStoreDrain_queueKept (l : LaneId) (c k : Fin 8) (s : State) : QueueKept s (execStoreDrain l c k s) := by
  refine queueKept_next ?_
  split
  · rfl
  · split <;> simp

theorem execWaitEnd_queueKept (l : LaneId) (c : Fin 8) (s : State) : QueueKept s (execWaitEnd l c s) := by
  refine queueKept_next ?_
  split
  · rfl
  · split <;> simp

theorem execWaitTimeout_queueKept (l : LaneId) (c : Fin 8) (s : State) : QueueKept s (execWaitTimeout l c s) := by
  refine queueKept_next ?_
  split
  · rfl
  · split <;> simp

theorem execPostVisible_queueKept (l : LaneId) (c : Fin 8) (s : State) : QueueKept s (execPostVisible l c s) :=
  queueKept_next (by simp)

theorem execEventPosting_queueKept (l : LaneId) (c : Fin 8) (src : Fin 7) (code : BitVec 8) (arg : BitVec 16) (data : Word)
    (s : State) : QueueKept s (execEventPosting l c src code arg data s) := by
  refine queueKept_next ?_
  split
  · rfl
  · split <;> simp [State.both]

theorem execEvqClear_queueKept (l : LaneId) (c : Fin 8) (s : State) : QueueKept s (execEvqClear l c s) := by
  refine queueKept_next ?_
  split <;> simp

theorem execFenceComplete_queueKept (l : LaneId) (c : Fin 8) (s : State) : QueueKept s (execFenceComplete l c s) := by
  refine queueKept_next ?_
  simp only [stallGuard]
  split <;> simp

theorem execOphrsTick_queueKept (s : State) : QueueKept s (execOphrsTick s) := by
  refine queueKept_next ?_
  split <;> rfl

/-! ### Every command -/

/-- Every command ends in one of the ways above, each of which leaves the queue. -/
theorem exec_queueKept (i : Instr) (s : State) : QueueKept s (exec i s) := by
  cases i with
  | genericRegisterWrite | blockLock | eccUncorrectable | journalCheckpoint | lowSupplyEntry | lowSupplyExit | holdUpEntry
  | supplyReturn => exact queueKept_actOn _ _
  | readClear | latchedPairRead | ownerTick | sequencerCommand | missingCopyTimeout | holdTimerExpiry | engineHardFault
  | angEdge | halyardStall | halyardConfig | feedIncrement | ddvStart | ddvStop | ddvClr | ddvEnable | ddvDisable | bankRequest
  | peakEnd | transitionEnd | holdEnd | releaseEnd | requestDeadline | holdEndRevision | profileWrite | ddmFrac | holdloss
  | valveShort | bhsOvercurrent | bhsfltClear | boostLimit | vbstLow | pvEnable | pvDisable | pvClr | pvDutyWrite | pvShort
  | pvShortbat | pvOpen | pvOver | lsOn | lsOff | lsClr | lsLimitTimeout | lsRetry | inrushWindowEnd | lsOvertemp
  | lsThermalRestart | lsOpenload | groupTrip | groupDieTrip | groupRestart | moduleShed | lsUndervoltage | lsUvRestart
  | directedConversion | directedConversionDone | lossImpact | lossWindowOpen | lossWindowClose | windowTimeout
  | lossRecordWrite | inputFault | inputFaultClear | adcSnapshot | fnTick | fnCtgtWrite | fnTtgtWrite | fnLimWrite
  | fnRateWrite | fnCtlWrite | fnBindWrite | loadcp | boundContextReport | parcelCreate | parcelStep | fixCommit | qualSubmit
  | measurementAttribute | closingGraceEnd | parcelExpire | pclFlush | pclRun | yieldStored | yieldBatchSend | yread
  | yreadDone | linkDown | linkTrained | i2cTransaction | i2cDone | camTrig | triggerPulseEnd | pwron | pwroff
  | cameraPowerFault | vpBind | frameStart | linePacket | frameEnd | frameStatusWrite | missingFrame | camCommit | vpRun
  | fusionUnit | fusInject | listIncomplete | sourceStale | listProcess | trackAgeOut | fusionOutput | outnow | fusTest
  | fusEndtest | fusReinit | fusRun | canReceive | canError | protocolException | canBusOff | busoffRecovered | recover
  | canMode | canModeChange | txreq | txcancel | canFrameStart | canTxEnd | timeReference | linStart | linSwitch | linStop
  | linSleep | linWakeup | linSlot | linResponse | linWake | sentFrame | serByte | serIdle | serTxd | ppsEdge | ppsStampRead
  | ethReceive | ethLinkDown | txRingDoorbell | ethTxDone | fdbAgeing | flushfdb | frerReset | pathdown | trackerCommit
  | trackerTimeout | timSwitch | forcefree | revertSwitch | timNowRead | jobReceive | jobAccept | ackReceive | gapReceive
  | stateReceive | completeReceive | jrepReceive | jrepackReceive | jsyncReceive | jsyncendReceive | heartbeatReceive
  | heartbeatSend | memberLost | jobRetransmit | jobBackoff | streamOpen | streamClose | streamPause | streamResume | resign
  | hoistListen | creditRefill | burstGrant | weightWrite | weightHold | fabricFreeze | scrubRead | recordEnter | pwcmd
  | recFlush | flushDone | recFreeze | thaw | freezeTimeout | recRead | readDone | recNonce | recClear | nonceExpiry
  | panelUpdate | updateLoaded | panelFrame | panelLineSend | pbsyTimeout | panelPowered | panelPowerHold | panelDischarge
  | dischargeDone | crackCheck | recheck | tempStale | cfgWrite | cfgWriteDone | secNonce | sessionOpen | endsession
  | dbgunlock | dbglock | sessionExpiry | imgwrite | imageWriteDone | activate | raisemin | keywrite | keyrevoke
  | cameraBrownout | brownoutRelease | valveSupplyUv | valveSupplyOver | sensorSupplyFault | sensorSupplyRestart | dissEstimate
  | dissShed | ownerTicksAbsent | boostLimitEnd | vbstRecovered | ownFaultEnd | lossSensorFault | positionHistorySample
  | serByteSent | ethLinkUp | egressFrameSent | slewComplete | valveSupplyReturn | bankWeak | tambStale => exact queueKept_act _ _
  | failSelf | rejoinPeer | rejoinCatchUp | rejoinTimeout | lockstepMismatch | journalWriteFail | laneSupplyFail
  | watchdogExpiry | mirrorHeartbeat | peerSilent | takeover | laneStrike | ownershipChange | coreStart | rstcmdCold
  | rstcmdWarm | modeRun | modeService | modeBench | modePark | parkShutdown | rejoinTestFault => exact queueKept_actUp _ _
  | watchdogKick | feedCommit | entryArm | entryFire | occurrenceComplete | entryCommit | entryCancel | fireEn
  | periodicRequest | sampleStep | lpeEnable | lpeDisable | lpeHold | lpeResume | injStart | injStop | capArm | capTrignow
  | capAbort | pvConversion | cameraTrigger => exact queueKept_actL _ _
  | ill | add | sub | and | or | xor | andn | shl | shr | sar | ror | min | max | minu | maxu | adds | subs | mul | mulh
  | mulhu | div | divu | rem | remu | clz | abs | sextb | sexth | addi | andi | ori | xori | shi | movl | movh | movw | cmp
  | cmpi | plog | padd | psub | pmulr | pabs | pneg | pmin | pmax | pshra | pshls | packll | packhh | packhl | pswap | macLl
  | macLh | macHl | macHh | msuLl | msuLh | msuHl | msuHh | mac2 | mac2x | msu2 | mulLl | mul2 | aclr | acldq | acset | ext
  | acrd | acrh | acsar | mfs | mts | ldb | ldbu | ldh | ldhu | ldw | stb | sth | stw | b | bl | jr | jlr | rtt | waite | waita
  | waitae | take | post | jput | jtake | jdone | lcswap | fenceL | fenceE | win | reservedEncoding => exact queueKept_issue _ _ _ _ _
  | loadReturn => exact execLoadReturn_queueKept _ _ _ _
  | storeDrain => exact execStoreDrain_queueKept _ _ _ _
  | waitEnd => exact execWaitEnd_queueKept _ _ _
  | waitTimeout => exact execWaitTimeout_queueKept _ _ _
  | postVisible => exact execPostVisible_queueKept _ _ _
  | eventPosting => exact execEventPosting_queueKept _ _ _ _ _ _ _
  | evqClear => exact execEvqClear_queueKept _ _ _
  | fenceComplete => exact execFenceComplete_queueKept _ _ _
  | canWake | powerOn | warmStart | outputEnable | warmStartEscalate | holdUpSwitchOff | holdUpEnergyOut | wakeInput
  | wakeTimer | parkPowerLoss => exact queueKept_actSup _ _
  | ophrsTick => exact execOphrsTick_queueKept _

/-- Settles O4: every command leaves the queue, by the way in which it ends. -/
theorem queueUntouched : Obligations.QueueUntouched :=
  fun i s t => exec_queueKept i s t

/-- Settles O1: a step is a case split on the queue. -/
theorem stepRunsTheFrontCommand : Obligations.StepRunsTheFrontCommand := by
  intro s c rest
  constructor <;> intro h <;> simp only [step, h]

end Sys2Proof.Machine
end

section
/-! PROOFS. Commands to the shared engines: the gate that each of them passes (R13, R27), and what it does with a command of the
lane that does not own the engines (O11). -/

namespace Sys2Proof.Machine

/-! ### Frames of a register write -/

theorem regsBut_rset (s : State) (l : LaneId) (a v : Nat) : regsBut [a] s (rset s l a v) :=
  fun m x hx => rget_rset_ne s l m (by simpa using hx) v

theorem regsBut_reject (s : State) (l : LaneId) (b : Block) (o r : Nat) : regsBut [b.base + 0xC] s (reject s l b o r) :=
  regsBut_rset s l _ _

/-- Sealing a command's work changes no register. -/
@[simp] theorem rget_keep (s t : State) (l : LaneId) (a : Nat) : rget (keep s t) l a = rget t l a := by
  cases l <;> rfl

@[simp] theorem rget_modeStep (s t : State) (l : LaneId) (a : Nat) : rget (modeStep s t) l a = rget t l a := by
  simp [rget]

/-- CMDERR is each lane's own (R14). -/
theorem laneHeld_cmderr (b : Block) : laneHeld (b.base + 0xC) = true := by
  cases b <;> decide +kernel

theorem other_ne (l : LaneId) : l.other ≠ l := by cases l <;> decide

/-- The rejection of a write does not show in the other lane's CMDERR (R14). -/
theorem rget_reject_other (s : State) (l : LaneId) (b : Block) (o r a : Nat) :
    rget (reject s l b o r) l.other a = rget s l.other a :=
  rget_rset_other s (laneHeld_cmderr b) (other_ne l) _ _

/-! ### Commands to the shared engines -/

theorem gated_notOwner {s : State} {l : LaneId} (h : s.owns l = false) (b : Block) (off : Nat) (k : State → State) :
    gated s l b off k = reject s l b off rNOTOWNER := by
  simp [gated, h]

theorem fnWrite_gated (s : State) (l : LaneId) (n off v : Nat) : ∃ k, fnWrite s l n off v = gated s l .hsi (0x1000 + off + 0x40 * n) k := by
  refine ⟨_, congrArg (gated s l .hsi · _) ?_⟩
  unfold fnOff
  omega

theorem pclFlush_gated (s : State) (l : LaneId) : ∃ k, pclCmd s l (2 ^ 28) = gated s l .pcl 8 k :=
  ⟨_, if_neg (by decide)⟩

theorem fabStore_weight_gated (s : State) (l : LaneId) (n : Fin 16) (v : Nat) :
    ∃ k, fabStore s l (0x100 + 0x20 * n) v = gated s l .fab (0x100 + 0x20 * n) k := by
  have hw : 0x100 ≤ 0x100 + 0x20 * n.val ∧ 0x100 + 0x20 * n.val < 0x300 ∧ (0x100 + 0x20 * n.val) % 0x20 = 0 := by omega
  unfold fabStore fabWrite
  rw [if_neg (by omega), if_pos hw, Option.getD_some]
  exact ⟨_, rfl⟩

theorem fabStore_ctrl_gated (s : State) (l : LaneId) (v : Nat) : ∃ k, fabStore s l 0 v = gated s l .fab 0 k := by
  unfold fabStore fabWrite
  rw [if_pos rfl, Option.getD_some]
  exact ⟨_, rfl⟩

theorem act_gated {s t : State} {l : LaneId} {b : Block} {off : Nat} (h : ∃ k, t = gated s l b off k) :
    ∃ k, act s t = act s (gated s l b off k) := by
  obtain ⟨k, rfl⟩ := h
  exact ⟨k, rfl⟩

/-- A command that writes a register of a shared engine goes through that register's gate (R13, R27), but for YREAD, which a
hard fault does not stop (R300, log entry 64). -/
theorem exec_ownedCommand {i : Instr} {l : LaneId} {b : Block} {off : Nat} (h : ownedCommand i = some (l, b, off))
    (hy : i ≠ .yread l) (s : State) : ∃ k, exec i s = act s (gated s l b off k) := by
  cases i with
  | yread m => cases h; exact absurd rfl hy
  | fnCtgtWrite | fnTtgtWrite | fnLimWrite | fnRateWrite | fnCtlWrite => cases h; exact act_gated (fnWrite_gated s l _ _ _)
  | fnBindWrite m n hi v => cases hi <;> cases h <;> exact act_gated (fnWrite_gated s l _ _ _)
  | pclFlush => cases h; exact act_gated (pclFlush_gated s l)
  | weightWrite => cases h; exact act_gated (fabStore_weight_gated s l _ _)
  | weightHold | fabricFreeze => cases h; exact act_gated (fabStore_ctrl_gated s l _)
  | loadcp | fixCommit | qualSubmit | pclRun | i2cTransaction | camTrig | pwron | pwroff | camCommit | vpBind
  | vpRun | fusInject | outnow | fusTest | fusEndtest | fusReinit | fusRun | recover | canMode | txreq
  | txcancel | linStart | linSwitch | linStop | linSleep | linWakeup | serTxd | txRingDoorbell | flushfdb
  | trackerCommit | timSwitch | forcefree | pwcmd | recFlush | recFreeze | thaw | recRead | recNonce
  | recClear | panelUpdate | panelDischarge | recheck | cfgWrite | sensorSupplyRestart =>
    cases h
    exact ⟨_, rfl⟩
  | _ => cases h

/-- From the lane that does not own the engines each of these commands, YREAD among them, is the rejection alone (R13). -/
theorem exec_ownedCommand_notOwner {i : Instr} {l : LaneId} {b : Block} {off : Nat} (h : ownedCommand i = some (l, b, off))
    {s : State} (ho : s.owns l = false) : exec i s = act s (reject s l b off rNOTOWNER) := by
  by_cases hy : i = .yread l
  · subst hy
    cases h
    exact congrArg (act s) (by simp [pclCmd, nfld, yreadGate, ho])
  · obtain ⟨k, hk⟩ := exec_ownedCommand h hy s
    rw [hk, gated_notOwner ho]

/-- Settles O11: the gate of the register rejects the command, and a rejection writes that lane's CMDERR only. -/
theorem notOwnerIsRejected : Obligations.NotOwnerIsRejected := by
  intro i s l b off hi hd ho
  refine endsIn_act (exec_ownedCommand_notOwner hi ho) hd (only_reject (by simp) s l b off _) ⟨?_, ?_, ?_⟩
  · intro m a ha
    simpa using regsBut_reject s l b off _ m a ha
  · simp only [rget_modeStep, rget_keep]
    exact rget_reject_same s l b off _
  · simpa using rget_reject_other s l b off _ _

end Sys2Proof.Machine
end

section
/-! PROOFS. The fields of a register: what each bit of a field reads, what a write by a register's description stores (R9, R12),
and that no two fields of a register overlap. -/

namespace Sys2Proof.Machine

/-! ### Bits -/

theorem nbit_eq_testBit (w i : Nat) : nbit w i = w.testBit i := by
  simp [nbit, nfld, Nat.testBit_eq_decide_div_mod_eq, Bool.beq_eq_decide_eq]

theorem testBit_nfld (w hi lo k : Nat) : (nfld w hi lo).testBit k = (decide (k < hi + 1 - lo) && w.testBit (lo + k)) := by
  simp [nfld, Nat.testBit_mod_two_pow, Nat.testBit_div_two_pow, Nat.add_comm lo k]

/-- A number with a field replaced: the field's bits are the new ones, the others stay. -/
theorem testBit_nset {lo hi : Nat} (h : lo ≤ hi) (w v k : Nat) :
    (nset w hi lo v).testBit k = if lo ≤ k ∧ k ≤ hi then v.testBit (k - lo) else w.testBit k := by
  have split : nset w hi lo v = 2 ^ lo * (2 ^ (hi + 1 - lo) * (w / 2 ^ (hi + 1)) + v % 2 ^ (hi + 1 - lo)) + w % 2 ^ lo := by
    have hp : 2 ^ (hi + 1) = 2 ^ lo * 2 ^ (hi + 1 - lo) := by rw [← pow_add]; congr 1; omega
    unfold nset
    generalize w / 2 ^ (hi + 1) = q
    rw [hp]
    ring
  rw [split, Nat.testBit_two_pow_mul_add _ (Nat.mod_lt _ (by positivity)),
    Nat.testBit_two_pow_mul_add _ (Nat.mod_lt _ (by positivity))]
  by_cases h1 : k < lo
  · simp [h1, Nat.testBit_mod_two_pow]
  · by_cases h2 : k ≤ hi
    · have : k - lo < hi + 1 - lo := by omega
      simp [h1, h2, this, Nat.testBit_mod_two_pow]
    · have h3 : ¬ k - lo < hi + 1 - lo := by omega
      have e : k - lo - (hi + 1 - lo) + (hi + 1) = k := by omega
      simp [h1, h2, h3, Nat.testBit_div_two_pow, e]

theorem nfld_lt (w hi lo : Nat) : nfld w hi lo < 2 ^ (hi + 1 - lo) := Nat.mod_lt _ (by positivity)

theorem nfld_nset_same {lo hi : Nat} (h : lo ≤ hi) (w v : Nat) : nfld (nset w hi lo v) hi lo = v % 2 ^ (hi + 1 - lo) := by
  refine Nat.eq_of_testBit_eq fun k => ?_
  rw [testBit_nfld, testBit_nset h, Nat.testBit_mod_two_pow]
  by_cases hk : k < hi + 1 - lo
  · have : k + lo ≤ hi := by omega
    simp [hk, this, Nat.add_comm lo k]
  · simp [hk]

theorem nfld_nset_disjoint {lo hi : Nat} (h : lo ≤ hi) {lo' hi' : Nat} (hd : hi' < lo ∨ hi < lo') (w v : Nat) :
    nfld (nset w hi lo v) hi' lo' = nfld w hi' lo' := by
  refine Nat.eq_of_testBit_eq fun k => ?_
  rw [testBit_nfld, testBit_nfld, testBit_nset h]
  by_cases hk : k < hi' + 1 - lo'
  · rw [if_neg (by omega)]
  · simp [hk]

/-- Replacing a field by what it holds changes nothing. -/
theorem nset_nfld {lo hi : Nat} (h : lo ≤ hi) (w : Nat) : nset w hi lo (nfld w hi lo) = w := by
  refine Nat.eq_of_testBit_eq fun k => ?_
  rw [testBit_nset h, testBit_nfld]
  split
  · have h1 : k - lo < hi + 1 - lo := by omega
    have h2 : lo + (k - lo) = k := by omega
    simp [h1, h2]
  · rfl

/-- A field of a word does not see what lies above the word. -/
theorem nfld_mod_word {hi : Nat} (h : hi < 32) (w lo : Nat) : nfld (w % 2 ^ 32) hi lo = nfld w hi lo := by
  refine Nat.eq_of_testBit_eq fun k => ?_
  rw [testBit_nfld, testBit_nfld, Nat.testBit_mod_two_pow]
  by_cases hk : k < hi + 1 - lo
  · have : lo + k < 32 := by omega
    simp [this]
  · simp [hk]

/-! ### The fields of a description -/

/-- The fields of a register lie within its word, and no two overlap. -/
def RegDesc.Sound (d : RegDesc) : Prop :=
  (∀ f ∈ d.fields, f.lo ≤ f.hi ∧ f.hi < 32) ∧ d.fields.Pairwise fun f g => f.hi < g.lo ∨ g.hi < f.lo

/-- Every register of the map is sound. -/
theorem Block.regs_sound (b : Block) : ∀ d ∈ b.regs, d.Sound := by
  unfold RegDesc.Sound
  cases b <;> decide +kernel

theorem Block.descAt_sound {b : Block} {off : Nat} {d : RegDesc} (h : b.descAt off = some d) : d.Sound :=
  b.regs_sound d (List.mem_of_find?_eq_some h)

/-- Each field of a list in its turn takes a value formed from what it holds. -/
def setFields (g : FieldDesc → Nat → Nat) (fs : List FieldDesc) (w : Nat) : Nat :=
  fs.foldl (fun w f => nset w f.hi f.lo (g f (f.get w))) w

theorem testBit_setFields_outside (g : FieldDesc → Nat → Nat) {fs : List FieldDesc} (hs : ∀ f ∈ fs, f.lo ≤ f.hi) {k : Nat}
    (hk : ∀ f ∈ fs, k < f.lo ∨ f.hi < k) (w : Nat) : (setFields g fs w).testBit k = w.testBit k := by
  induction fs generalizing w with
  | nil => rfl
  | cons f fs ih =>
    have hf := hk f List.mem_cons_self
    have step := ih (fun x hx => hs x (List.mem_cons_of_mem _ hx)) (fun x hx => hk x (List.mem_cons_of_mem _ hx))
      (nset w f.hi f.lo (g f (f.get w)))
    rw [testBit_nset (hs f List.mem_cons_self), if_neg (by omega)] at step
    exact step

theorem get_setFields_disjoint (g : FieldDesc → Nat → Nat) {fs : List FieldDesc} (hs : ∀ f ∈ fs, f.lo ≤ f.hi) {x : FieldDesc}
    (hx : ∀ f ∈ fs, x.hi < f.lo ∨ f.hi < x.lo) (w : Nat) : x.get (setFields g fs w) = x.get w := by
  refine Nat.eq_of_testBit_eq fun k => ?_
  unfold FieldDesc.get
  rw [testBit_nfld, testBit_nfld]
  by_cases hk : k < x.hi + 1 - x.lo
  · rw [testBit_setFields_outside g hs fun f hf => by have := hx f hf; omega]
  · simp [hk]

/-- Where fields do not overlap each takes its value from what it held at first. -/
theorem get_setFields_mem (g : FieldDesc → Nat → Nat) {fs : List FieldDesc} (hs : ∀ f ∈ fs, f.lo ≤ f.hi)
    (hp : fs.Pairwise fun f x => f.hi < x.lo ∨ x.hi < f.lo) {x : FieldDesc} (hx : x ∈ fs) (w : Nat) :
    x.get (setFields g fs w) = g x (x.get w) % 2 ^ (x.hi + 1 - x.lo) := by
  induction fs generalizing w with
  | nil => cases hx
  | cons f fs ih =>
    obtain ⟨hf, hp⟩ := List.pairwise_cons.1 hp
    have hlo := hs f List.mem_cons_self
    have hs' : ∀ y ∈ fs, y.lo ≤ y.hi := fun y hy => hs y (List.mem_cons_of_mem _ hy)
    show x.get (setFields g fs (nset w f.hi f.lo (g f (f.get w)))) = _
    rcases List.mem_cons.1 hx with rfl | hx
    · rw [get_setFields_disjoint g hs' hf]
      exact nfld_nset_same hlo w _
    · rw [ih hs' hp hx]
      have : x.get (nset w f.hi f.lo (g f (f.get w))) = x.get w := nfld_nset_disjoint hlo (hf x hx).symm w _
      rw [this]

/-! ### What a write stores -/

/-- What a field that held `x` holds after a write of `v` with the given verdict (R9, R12). -/
def FieldDesc.written (f : FieldDesc) (rej v x : Nat) : Nat :=
  match f.acc with
  | .rw => if rej = 0 ∨ rej = rLOCKED then f.get v else x
  | .rwl => if rej = 0 then f.get v else x
  | .w1c => x &&& (2 ^ (f.hi + 1 - f.lo) - 1 - f.get v)
  | .w1s => x ||| f.get v
  | .ro | .wo | .rc => x

theorem RegDesc.apply_eq_setFields {d : RegDesc} (hd : d.Sound) (rej old v : Nat) :
    d.apply rej old v = setFields (fun f => f.written rej v) d.fields old := by
  refine List.foldl_ext _ _ _ fun w f hf => ?_
  have keep : nset w f.hi f.lo (f.get w) = w := nset_nfld (hd.1 f hf).1 w
  cases h : f.acc with
  | rw | rwl => simp only [FieldDesc.written, h]; split <;> simp [keep]
  | w1c | w1s => simp [FieldDesc.written, h]
  | ro | wo | rc => simp [FieldDesc.written, h, keep]

theorem FieldDesc.written_lt (f : FieldDesc) (rej v w : Nat) : f.written rej v (f.get w) < 2 ^ (f.hi + 1 - f.lo) := by
  have hv : f.get v < 2 ^ (f.hi + 1 - f.lo) := nfld_lt ..
  have hw : f.get w < 2 ^ (f.hi + 1 - f.lo) := nfld_lt ..
  cases h : f.acc with
  | rw | rwl => simp only [FieldDesc.written, h]; split <;> assumption
  | w1c => simpa only [FieldDesc.written, h] using Nat.lt_of_le_of_lt Nat.and_le_left hw
  | w1s => simpa only [FieldDesc.written, h] using Nat.or_lt_two_pow hw hv
  | ro | wo | rc => simpa only [FieldDesc.written, h] using hw

/-- What a register that held `old` holds after a write of `v`, in the terms of R9 and R12: `rw` and `rwl` say whether the RW and
the RWL fields take what is written. -/
def RegDesc.Takes (d : RegDesc) (old v : Nat) (rw rwl : Bool) (new : Nat) : Prop :=
  (∀ f ∈ d.fields, f.get new = if f.acc = .w1c then f.get old &&& (2 ^ (f.hi + 1 - f.lo) - 1 - f.get v)
    else if f.acc = .w1s then f.get old ||| f.get v
    else if f.acc = .rw ∧ rw = true ∨ f.acc = .rwl ∧ rwl = true then f.get v else f.get old) ∧
  ∀ k < 32, (∀ f ∈ d.fields, k < f.lo ∨ f.hi < k) → nbit new k = nbit old k

theorem RegDesc.takes_apply {d : RegDesc} (hd : d.Sound) (rej old v : Nat) :
    d.Takes old v (decide (rej = 0 ∨ rej = rLOCKED)) (decide (rej = 0)) (d.apply rej old v % 2 ^ 32) := by
  obtain ⟨hw, hp⟩ := hd
  have hlo : ∀ f ∈ d.fields, f.lo ≤ f.hi := fun f hf => (hw f hf).1
  rw [d.apply_eq_setFields ⟨hw, hp⟩]
  constructor
  · intro f hf
    have word : f.get (setFields (fun f => f.written rej v) d.fields old % 2 ^ 32) =
        f.get (setFields (fun f => f.written rej v) d.fields old) := nfld_mod_word (hw f hf).2 ..
    rw [word, get_setFields_mem _ hlo hp hf, Nat.mod_eq_of_lt (f.written_lt rej v old)]
    cases h : f.acc <;> simp [FieldDesc.written, h]
  · intro k hk hout
    rw [nbit_eq_testBit, nbit_eq_testBit, Nat.testBit_mod_two_pow, testBit_setFields_outside _ hlo hout]
    simp [hk]

/-! ### The verdict on a write -/

section
variable {d : RegDesc} {lock : Bool} {old v : Nat}

theorem RegDesc.judge_locked (h : lock = true ∧ ∃ f ∈ d.fields, f.acc = .rwl ∧ f.get v ≠ f.get old) :
    d.judge lock old v = rLOCKED := by
  obtain ⟨hl, f, hf, ha, hv⟩ := h
  refine if_pos ?_
  rw [hl, Bool.true_and, List.any_eq_true]
  exact ⟨f, hf, by simp [ha, hv]⟩

theorem RegDesc.judge_unlocked (h : ¬ (lock = true ∧ ∃ f ∈ d.fields, f.acc = .rwl ∧ f.get v ≠ f.get old)) :
    d.judge lock old v =
      if d.fields.any fun f => ((f.acc == .rwl && !lock) || f.acc == .rw) && !f.ok v then rRANGE else 0 := by
  refine if_neg fun hl => h ?_
  simpa [Bool.and_eq_true, List.any_eq_true] using hl

theorem any_beyond_iff :
    (d.fields.any fun f => ((f.acc == .rwl && !lock) || f.acc == .rw) && !f.ok v) = true ↔
      ∃ f ∈ d.fields, (f.acc = .rw ∨ f.acc = .rwl ∧ lock = false) ∧ f.ok v = false := by
  simp [List.any_eq_true, or_comm]

end

end Sys2Proof.Machine
end

section
/-! PROOFS. Accesses to the register space: which block an address belongs to, what a write by a register's description and a read
of a stored register do to the registers (R4-R17). -/

namespace Sys2Proof.Machine

/-! ### Addresses -/

/-- The word of register space at an offset is that address (R4). -/
theorem regAddr_ofNat {n : Nat} (hn : n < 2 ^ 24) (h4 : n % 4 = 0) : regAddr (BitVec.ofNat 24 n) = 0xF0000000 + n := by
  unfold regAddr
  rw [BitVec.toNat_ofNat, Nat.mod_eq_of_lt hn]
  omega

theorem Block.base_bounds (b : Block) : 0xF0000000 ≤ b.base ∧ b.base ≤ 0xF0B00000 ∧ b.base % 4 = 0 := by
  cases b <;> decide

/-- The operand of a row that names offset `off` of a block. -/
theorem regAddr_offset (b : Block) {off : Nat} (h : off < 0x20000) (h4 : off % 4 = 0) :
    regAddr (BitVec.ofNat 24 (b.base - 0xF0000000 + off)) = b.base + off := by
  obtain ⟨h1, h2, h3⟩ := b.base_bounds
  rw [regAddr_ofNat (by omega) (by omega)]
  omega

/-- The range of each block is at least 128 KiB (R4). -/
theorem Block.base_apart (b x : Block) : x.base ≤ b.base ∨ b.base + 0x20000 ≤ x.base := by
  have all : ∀ b ∈ allBlocks, ∀ x ∈ allBlocks, x.base ≤ b.base ∨ b.base + 0x20000 ≤ x.base := by decide +kernel
  exact all b (by cases b <;> decide) x (by cases x <;> decide)

theorem blockOf_base (b : Block) : blockOf b.base = b := by
  cases b <;> decide +kernel

theorem blockOf_offset (b : Block) {off : Nat} (h : off < 0x20000) : blockOf (b.base + off) = b := by
  have same (x : Block) : decide (x.base ≤ b.base + off) = decide (x.base ≤ b.base) := by
    rw [decide_eq_decide]
    have := b.base_apart x
    omega
  have : blockOf (b.base + off) = blockOf b.base := by
    unfold blockOf
    simp only [same]
  rw [this, blockOf_base]

/-! ### Registers by their description -/

/-- A rejection with its reason stands in a lane's CMDERR of a block (R14, R15). -/
def Told (t : State) (l : LaneId) (b : Block) (off r : Nat) : Prop :=
  nfld (rget t l (b.base + 0xC)) 7 0 = r ∧ nfld (rget t l (b.base + 0xC)) 15 8 = off / 4 % 256 ∧
    nbit (rget t l (b.base + 0xC)) 31 = true

theorem told_reject (s : State) (l : LaneId) (b : Block) (off : Nat) {r : Nat} (hr : r < 256) : Told (reject s l b off r) l b off r := by
  unfold Told
  rw [rget_reject_same]
  generalize hn : min (nfld (rget s l (b.base + 0xC)) 23 16 + 1) 255 = n
  have : n ≤ 255 := by omega
  refine ⟨?_, ?_, ?_⟩ <;> simp only [nbit, nfld, beq_iff_eq] <;> omega

section
variable {s : State} {l : LaneId} {b : Block} {off : Nat} {d : RegDesc}

theorem regStore_eq (hd : b.descAt off = some d) (v rej : Nat) :
    regStore s l b off v rej = rset s l (b.base + off) (d.apply rej (rget s l (b.base + off)) v) := by
  simp [regStore, hd]

theorem takes_regStore (hd : b.descAt off = some d) (v rej : Nat) :
    d.Takes (rget s l (b.base + off)) v (decide (rej = 0 ∨ rej = rLOCKED)) (decide (rej = 0))
      (rget (regStore s l b off v rej) l (b.base + off)) := by
  rw [regStore_eq hd, rget_rset_same]
  exact d.takes_apply (Block.descAt_sound hd) rej _ v

theorem regsBut_regStore (hd : b.descAt off = some d) (v rej : Nat) : regsBut [b.base + off] s (regStore s l b off v rej) := by
  rw [regStore_eq hd]
  exact regsBut_rset _ _ _ _

theorem only_regStore {ps : List Part} (h : Part.regs ∈ ps) (s : State) (l : LaneId) (b : Block) (off v rej : Nat) :
    only ps s (regStore s l b off v rej) := by
  unfold regStore
  split
  · exact only_rset h _ _ _ _
  · exact only_refl _ _

theorem only_regPlain {ps : List Part} (h : Part.regs ∈ ps) (s : State) (l : LaneId) (b : Block) (off v : Nat) :
    only ps s (regPlain s l b off v) := by
  unfold regPlain
  exact only_ite _ (only_regStore h _ _ _ _ _ _) (only_trans (only_regStore h _ _ _ _ _ _) (only_reject h _ _ _ _ _))

theorem regVerdict_eq (hd : b.descAt off = some d) (v : Nat) :
    regVerdict s l b off v = d.judge (isLocked s l b) (rget s l (b.base + off)) v := by
  simp [regVerdict, hd]

theorem regPlain_accepted {v : Nat} (h : regVerdict s l b off v = 0) : regPlain s l b off v = regStore s l b off v 0 := by
  simp [regPlain, h]

theorem regPlain_rejected {v r : Nat} (h : regVerdict s l b off v = r) (hr : r ≠ 0) :
    regPlain s l b off v = reject (regStore s l b off v r) l b off r := by
  simp [regPlain, h, hr]

/-- A write that is not rejected changes its register only. -/
theorem regPlain_accepted_effect (hd : b.descAt off = some d) {v : Nat} (h : regVerdict s l b off v = 0) :
    regsBut [b.base + off] s (regPlain s l b off v) ∧
      d.Takes (rget s l (b.base + off)) v true true (rget (regPlain s l b off v) l (b.base + off)) := by
  rw [regPlain_accepted h]
  exact ⟨regsBut_regStore hd _ _, takes_regStore hd v 0⟩

/-- A write that is rejected changes its register by what its verdict lets through, and CMDERR. -/
theorem regPlain_rejected_effect (hd : b.descAt off = some d) (ho : off ≠ 0xC) {v r : Nat} (h : regVerdict s l b off v = r)
    (hr : r ≠ 0) (hr' : r < 256) :
    regsBut [b.base + off, b.base + 0xC] s (regPlain s l b off v) ∧
      d.Takes (rget s l (b.base + off)) v (decide (r = rLOCKED)) false (rget (regPlain s l b off v) l (b.base + off)) ∧
      Told (regPlain s l b off v) l b off r := by
  rw [regPlain_rejected h hr]
  refine ⟨fun m a ha => ?_, ?_, told_reject _ l b off hr'⟩
  · simp only [List.mem_cons, List.not_mem_nil, or_false, not_or] at ha
    rw [rget_reject_ne _ _ _ _ _ _ ha.2]
    exact regsBut_regStore hd _ _ m a (by simpa using ha.1)
  · rw [rget_reject_ne _ _ _ _ _ _ (by omega)]
    simpa [hr] using takes_regStore (s := s) (l := l) hd v r

end

/-! ### Work that changes nothing -/

@[simp] theorem keep_self (s : State) : keep s s = s := by
  simp [keep, keepLane]

@[simp] theorem modeStep_self (s : State) : modeStep s s = s := by
  simp [modeStep]

@[simp] theorem act_self (s : State) : act s s = .next s := by
  simp [act]

/-- A command that does nothing ends in the state it found. -/
theorem endsIn_unchanged {i : Instr} {s : State} (h : exec i s = act s s) {P : State → Prop} (hP : P s) : EndsIn [] i s P :=
  ⟨s, h.trans (act_self s), supFrame_refl s, only_refl _ s, hP⟩

end Sys2Proof.Machine
end

section
/-! PROOFS. The rows of the table for registers without a row of their own: writes by the access codes, CMDERR, offsets without a
register, reads that clear, latched pairs, BLOCK_LOCK (O13). -/

namespace Sys2Proof.Machine

/-! ### The rows as accesses of the register space -/

/-- Off LANECTRL, RSTCMD and MODECMD a write of a word of register space is work of the engines. -/
theorem regWriteAny_work {a : Nat} (h8 : a ≠ Block.sys.base + 0x08) (h28 : a ≠ Block.sys.base + 0x28)
    (h34 : a ≠ Block.sys.base + 0x34) (s : State) (l : LaneId) (c v : Nat) :
    regWriteAny s l c a v = keep s (regWriteBase s l c a v) := by
  unfold regWriteAny
  rw [if_neg h8, if_neg h28, if_neg h34, State.work_eq]

/-- The end of a command of the supervisor that did work of the engines only. -/
theorem actOn_keep (s t : State) : actOn s (keep s t) = act s t := rfl

theorem exec_genericRegisterWrite {a : BitVec 24} (h8 : regAddr a ≠ Block.sys.base + 0x08)
    (h28 : regAddr a ≠ Block.sys.base + 0x28) (h34 : regAddr a ≠ Block.sys.base + 0x34) (s : State) (l : LaneId) (c : Fin 8)
    (v : Word) : exec (.genericRegisterWrite l c a v) s = act s (regWriteBase s l c (regAddr a) v.toNat) := by
  rw [← actOn_keep, ← regWriteAny_work h8 h28 h34]
  rfl

theorem exec_readClear (s : State) (l : LaneId) (c : Fin 8) (a : BitVec 24) :
    exec (.readClear l c a) s = act s (regRead s l c (regAddr a)).2 := rfl

theorem exec_latchedPairRead (s : State) (l : LaneId) (c : Fin 8) (a : BitVec 24) :
    exec (.latchedPairRead l c a) s = act s (regRead s l c (regAddr a)).2 := rfl

/-! ### Addresses without a register (R6) -/

/-- An address outside the blocks, or an offset of a block without a register. -/
def NoRegister (a : Nat) : Prop := 0xF0C00000 ≤ a ∨ a - (blockOf a).base ≠ 0xC ∧ (blockOf a).descAt (a - (blockOf a).base) = none

theorem noRegister_of_offset {a : Nat} {b : Block} {off : Nat}
    (h : 0xF0C00000 ≤ a ∨ a = b.base + off ∧ b = blockOf a ∧ off ≠ 0xC ∧ b.descAt off = none) : NoRegister a := by
  refine h.imp_right fun ⟨ha, hb, ho, hd⟩ => ?_
  have : a - b.base = off := by omega
  rw [← hb, this]
  exact ⟨ho, hd⟩

theorem regWriteBase_noRegister {a : Nat} (h : NoRegister a) (s : State) (l : LaneId) (c v : Nat) : regWriteBase s l c a v = s := by
  unfold regWriteBase
  dsimp only
  rcases h with h | ⟨h, hd⟩
  · rw [if_pos h]
  · rw [if_neg h, hd]
    exact ite_self s

theorem regRead_noRegister {a : Nat} (h : NoRegister a) (s : State) (l : LaneId) (c : Nat) : regRead s l c a = (0, s) := by
  unfold regRead
  dsimp only
  rcases h with h | ⟨h, hd⟩
  · rw [if_pos h]
  · rw [if_neg h, hd]
    exact ite_self _

theorem not_noRegister_supervisor {a : Nat} (h : NoRegister a) :
    a ≠ Block.sys.base + 0x08 ∧ a ≠ Block.sys.base + 0x28 ∧ a ≠ Block.sys.base + 0x34 := by
  have some_register (o : Nat) (ho : o ∈ [0x08, 0x28, 0x34]) : ¬ NoRegister (Block.sys.base + o) := by
    have hb : blockOf (Block.sys.base + o) = .sys := blockOf_offset .sys (by simp at ho; omega)
    unfold NoRegister
    rw [hb, Nat.add_sub_cancel_left]
    revert o
    decide +kernel
  refine ⟨?_, ?_, ?_⟩ <;> rintro rfl
  · exact some_register 0x08 (by simp) h
  · exact some_register 0x28 (by simp) h
  · exact some_register 0x34 (by simp) h

theorem endsIn_noRegister (s : State) (l : LaneId) (c : Fin 8) (a : BitVec 24) (v : Word) (h : NoRegister (regAddr a)) :
    (EndsIn [] (.genericRegisterWrite l c a v) s fun t => t.sup = s.sup) ∧ EndsIn [] (.readClear l c a) s fun t => t.sup = s.sup := by
  obtain ⟨h8, h28, h34⟩ := not_noRegister_supervisor h
  constructor
  · refine endsIn_unchanged ?_ rfl
    rw [exec_genericRegisterWrite h8 h28 h34, regWriteBase_noRegister h]
  · refine endsIn_unchanged ?_ rfl
    rw [exec_readClear, regRead_noRegister h]

/-! ### CMDERR (R13, R15) -/

theorem regWriteBase_cmderr (s : State) (l : LaneId) (c : Nat) (b : Block) (v : Nat) :
    regWriteBase s l c (b.base + 0xC) v = cmderrWrite s l (b.base + 0xC) v := by
  have hb := b.base_bounds
  unfold regWriteBase
  dsimp only
  rw [blockOf_offset b (by omega), Nat.add_sub_cancel_left, if_neg (by omega), if_pos rfl]

theorem regRead_cmderr (s : State) (l : LaneId) (c : Nat) (b : Block) :
    regRead s l c (b.base + 0xC) = cmderrRead s l (b.base + 0xC) := by
  have hb := b.base_bounds
  unfold regRead
  dsimp only
  rw [blockOf_offset b (by omega), Nat.add_sub_cancel_left, if_neg (by omega), if_pos rfl]

theorem cmderr_ne (b : Block) {o : Nat} (h : o ≠ 0xC) (h' : o < 0x20000) : b.base + 0xC ≠ Block.sys.base + o := by
  intro e
  have hb : b = .sys := by rw [← blockOf_offset b (off := 0xC) (by omega), e, blockOf_offset .sys h']
  subst hb
  omega

/-- Writing a field of a lane's CMDERR leaves every other register, and the other lane's. -/
theorem endsIn_rsetf_cmderr {i : Instr} {s : State} {l : LaneId} {b : Block} {hi lo v : Nat} (hs : s.dark = false)
    (hi' : exec i s = act s (rsetf s l (b.base + 0xC) hi lo v)) {P : State → Prop}
    (hP : ∀ t, regsBut [b.base + 0xC] s t → rget t l.other (b.base + 0xC) = rget s l.other (b.base + 0xC) →
      rget t l (b.base + 0xC) = nset (rget s l (b.base + 0xC)) hi lo v % 2 ^ 32 → P t) : EndsIn [.regs] i s P := by
  refine endsIn_act hi' hs (only_rsetf (by simp) s l _ hi lo v) (hP _ ?_ ?_ ?_)
  · intro m a ha
    simpa [rsetf] using regsBut_rset s l _ _ m a ha
  · simpa [rsetf] using rget_rset_other s (laneHeld_cmderr b) (other_ne l) _ _
  · simp [rsetf]

theorem rget_cmderr_lt (s : State) (l : LaneId) (b : Block) : rget s l (b.base + 0xC) < 2 ^ 32 := by
  unfold rget
  split
  · exact BitVec.isLt _
  · have : resetAt (b.base + 0xC) = 0 := by cases b <;> decide +kernel
    omega

end Sys2Proof.Machine
end

section
/-! PROOFS. Writes of registers without an effect of their own: from the owner, from the other lane, after a hard fault; and offsets
without a register (O13). -/

namespace Sys2Proof.Machine

/-- A write of a register that its block leaves to the description. -/
def PlainRegister (s : State) (l : LaneId) (c : Nat) (b : Block) (off v : Nat) (d : RegDesc) : Prop :=
  b.base + off < 0xF0C00000 ∧ blockOf (b.base + off) = b ∧ b.descAt off = some d ∧ off ≠ 0xC ∧ blockWrite s l c b off v = none

section
variable {s : State} {l : LaneId} {c : Nat} {b : Block} {off v : Nat} {d : RegDesc}

theorem regWriteBase_generic (h : PlainRegister s l c b off v d) :
    regWriteBase s l c (b.base + off) v = genericWrite s l b off v := by
  obtain ⟨hlt, hb, hd, hoff, hw⟩ := h
  unfold regWriteBase
  dsimp only
  rw [hb, Nat.add_sub_cancel_left, if_neg (by omega), if_neg hoff, hd, hw]
  rfl

theorem genericWrite_perLane (hd : b.descAt off = some d) (hp : b.perLane = true) : genericWrite s l b off v = regPlain s l b off v := by
  simp [genericWrite, hd, hp]

theorem genericWrite_shared (hd : b.descAt off = some d) (hp : b.perLane = false) :
    genericWrite s l b off v = gated s l b off fun s => regPlain s l b off v := by
  simp [genericWrite, hd, hp]

/-- The gate lets the owner of a sound engine pass. -/
theorem gated_ready (h : engineReady s l b) (k : State → State) : gated s l b off k = k s := by
  obtain ⟨_, ho, hf⟩ := h
  simp [gated, ho, hf]

theorem gated_faulty (ho : s.owns l = true) (hf : s.faulty b = true) (k : State → State) :
    gated s l b off k = reject s l b off rBUSY := by
  simp [gated, ho, hf]

theorem genericWrite_ready (hd : b.descAt off = some d) (h : b.perLane = true ∨ engineReady s l b) :
    genericWrite s l b off v = regPlain s l b off v := by
  cases hp : b.perLane with
  | true => exact genericWrite_perLane hd hp
  | false =>
    rw [genericWrite_shared hd hp]
    exact gated_ready (h.resolve_left (by simp [hp])) _

end

/-- How a write by the description alone ends, told by the registers of the lane that writes and by the frame. -/
theorem endsIn_regPlain {i : Instr} {s : State} {l : LaneId} {b : Block} {off v : Nat} (hs : s.dark = false)
    (hi : exec i s = act s (regPlain s l b off v)) {P : State → Prop}
    (hP : ∀ t, (∀ m a, rget t m a = rget (regPlain s l b off v) m a) → P t) : EndsIn [.regs] i s P :=
  endsIn_act hi hs (only_regPlain (by simp) s l b off v) (hP _ (by simp))

/-- How a rejection ends. -/
theorem endsIn_reject {i : Instr} {s : State} {l : LaneId} {b : Block} {off r : Nat} (hs : s.dark = false) (hr : r < 256)
    (hi : exec i s = act s (reject s l b off r)) :
    EndsIn [.regs] i s fun t => regsBut [b.base + 0xC] s t ∧ Told t l b off r := by
  refine endsIn_act hi hs (only_reject (by simp) s l b off r) ⟨fun m a ha => ?_, ?_⟩
  · simpa using regsBut_reject s l b off r m a ha
  · simpa [Told] using told_reject s l b off hr

section
variable {i : Instr} {s : State} {l : LaneId} {b : Block} {off v : Nat} {d : RegDesc}

/-- A write that is not rejected: its register only, by the access codes. -/
theorem endsIn_regPlain_accepted (hs : s.dark = false) (hi : exec i s = act s (regPlain s l b off v)) (hd : b.descAt off = some d)
    (h : regVerdict s l b off v = 0) : EndsIn [.regs] i s fun t => regsBut [b.base + off] s t ∧
      d.Takes (rget s l (b.base + off)) v true true (rget t l (b.base + off)) := by
  obtain ⟨hbut, htakes⟩ := regPlain_accepted_effect hd h
  refine endsIn_regPlain hs hi fun t ht => ⟨fun m a ha => ?_, ?_⟩
  · rw [ht]
    exact hbut m a ha
  · rwa [ht]

/-- A write that is rejected: of its register what the verdict lets through, and CMDERR. -/
theorem endsIn_regPlain_rejected (hs : s.dark = false) (hi : exec i s = act s (regPlain s l b off v)) (hd : b.descAt off = some d)
    (ho : off ≠ 0xC) {r : Nat} (h : regVerdict s l b off v = r) (hr : r ≠ 0) (hr' : r < 256) :
    EndsIn [.regs] i s fun t => regsBut [b.base + off, b.base + 0xC] s t ∧
      d.Takes (rget s l (b.base + off)) v (decide (r = rLOCKED)) false (rget t l (b.base + off)) ∧ Told t l b off r := by
  obtain ⟨hbut, htakes, htold⟩ := regPlain_rejected_effect hd ho h hr hr'
  refine endsIn_regPlain hs hi fun t ht => ⟨fun m a ha => ?_, ?_, ?_⟩
  · rw [ht]
    exact hbut m a ha
  · rwa [ht]
  · unfold Told
    rw [ht]
    exact htold

end

/-- The operand of a write names a register that its block leaves to the description. -/
theorem exec_genericWrite {s : State} {l : LaneId} {c : Fin 8} {a : BitVec 24} {v : Word} {b : Block} {off : Nat} {d : RegDesc}
    (ha : regAddr a = b.base + off) (h : PlainRegister s l c b off v.toNat d)
    (hsys : b = .sys → off ≠ 8 ∧ off ≠ 0x28 ∧ off ≠ 0x34) :
    exec (.genericRegisterWrite l c a v) s = act s (genericWrite s l b off v.toNat) := by
  have apart (o : Nat) (ho : o < 0x20000) (hne : b = .sys → off ≠ o) : b.base + off ≠ Block.sys.base + o := by
    intro e
    have hb : b = .sys := by rw [← h.2.1, e, blockOf_offset .sys ho]
    subst hb
    exact hne rfl (by omega)
  rw [exec_genericRegisterWrite, ha, regWriteBase_generic h] <;> rw [ha]
  · exact apart _ (by omega) fun hb => (hsys hb).1
  · exact apart _ (by omega) fun hb => (hsys hb).2.1
  · exact apart _ (by omega) fun hb => (hsys hb).2.2

end Sys2Proof.Machine
end

section
/-! PROOFS. A write by a register's description, told by what the statement asks of its fields: whether a locked field would change,
whether a field is out of range (O13, R12, R17). -/

namespace Sys2Proof.Machine

section
variable {s : State} {l : LaneId} {b : Block} {off v : Nat} {d : RegDesc}

/-- Whether a locked RWL field would change (R12). -/
def RegDesc.Locked (d : RegDesc) (lock : Bool) (old v : Nat) : Prop :=
  lock = true ∧ ∃ f ∈ d.fields, f.acc = .rwl ∧ f.get v ≠ f.get old

/-- Whether a field that may take what is written has it out of range (R17). -/
def RegDesc.Beyond (d : RegDesc) (lock : Bool) (v : Nat) : Prop :=
  ∃ f ∈ d.fields, (f.acc = .rw ∨ f.acc = .rwl ∧ lock = false) ∧ f.ok v = false

theorem regVerdict_locked (hd : b.descAt off = some d) (h : d.Locked (isLocked s l b) (rget s l (b.base + off)) v) :
    regVerdict s l b off v = rLOCKED :=
  (regVerdict_eq hd v).trans (RegDesc.judge_locked h)

theorem regVerdict_beyond (hd : b.descAt off = some d) (h : ¬ d.Locked (isLocked s l b) (rget s l (b.base + off)) v)
    (hr : d.Beyond (isLocked s l b) v) : regVerdict s l b off v = rRANGE := by
  rw [regVerdict_eq hd, RegDesc.judge_unlocked h, if_pos (any_beyond_iff.2 hr)]

theorem regVerdict_accepted (hd : b.descAt off = some d) (h : ¬ d.Locked (isLocked s l b) (rget s l (b.base + off)) v)
    (hr : ¬ d.Beyond (isLocked s l b) v) : regVerdict s l b off v = 0 := by
  rw [regVerdict_eq hd, RegDesc.judge_unlocked h, if_neg (any_beyond_iff.not.2 hr)]

end

/-- A write by a register's description, from the owner of a sound engine or to a block of the lane. -/
theorem genericWrite_effect {i : Instr} {s : State} {l : LaneId} {b : Block} {off v : Nat} {d : RegDesc} (hs : s.dark = false)
    (hi : exec i s = act s (genericWrite s l b off v)) (hd : b.descAt off = some d) (ho : off ≠ 0xC)
    (hb : b.perLane = true ∨ engineReady s l b) :
    let old := rget s l (b.base + off)
    let locked := d.Locked (isLocked s l b) old v
    let beyond := d.Beyond (isLocked s l b) v
    let takes (rw rwl : Bool) (t : State) : Prop := d.Takes old v rw rwl (rget t l (b.base + off))
    (¬ locked → ¬ beyond → EndsIn [.regs] i s fun t => regsBut [b.base + off] s t ∧ takes true true t) ∧
    (locked → EndsIn [.regs] i s fun t =>
      regsBut [b.base + off, b.base + 0xC] s t ∧ takes true false t ∧ Told t l b off rLOCKED) ∧
    (¬ locked → beyond → EndsIn [.regs] i s fun t =>
      regsBut [b.base + off, b.base + 0xC] s t ∧ takes false false t ∧ Told t l b off rRANGE) := by
  rw [genericWrite_ready hd hb] at hi
  refine ⟨fun hl hr => ?_, fun hl => ?_, fun hl hr => ?_⟩
  · exact endsIn_regPlain_accepted hs hi hd (regVerdict_accepted hd hl hr)
  · exact endsIn_regPlain_rejected hs hi hd ho (regVerdict_locked hd hl) (by decide) (by decide)
  · exact endsIn_regPlain_rejected hs hi hd ho (regVerdict_beyond hd hl hr) (by decide) (by decide)

end Sys2Proof.Machine
end

section
/-! PROOFS. CMDERR as a register: writes and reads of it (O13, R9, R13, R15). -/

namespace Sys2Proof.Machine


/-- A write of CMDERR clears CMD_REJECT where it carries 1, and leaves the rest (R13). -/
theorem cmderr_write (s : State) (l : LaneId) (c : Fin 8) (b : Block) (v : Word) (hs : s.dark = false) :
    EndsIn [.regs] (.genericRegisterWrite l c (BitVec.ofNat 24 (b.base - 0xF0000000 + 0xC)) v) s fun t =>
      regsBut [b.base + 0xC] s t ∧ rget t l.other (b.base + 0xC) = rget s l.other (b.base + 0xC) ∧
      rget t l (b.base + 0xC) % 2 ^ 31 = rget s l (b.base + 0xC) % 2 ^ 31 ∧
      nbit (rget t l (b.base + 0xC)) 31 = (nbit (rget s l (b.base + 0xC)) 31 && !nbit v.toNat 31) := by
  have ha : regAddr (BitVec.ofNat 24 (b.base - 0xF0000000 + 0xC)) = b.base + 0xC := regAddr_offset b (by omega) (by omega)
  have hi : exec (.genericRegisterWrite l c (BitVec.ofNat 24 (b.base - 0xF0000000 + 0xC)) v) s =
      act s (cmderrWrite s l (b.base + 0xC) v.toNat) := by
    rw [exec_genericRegisterWrite, ha, regWriteBase_cmderr] <;> rw [ha] <;> exact cmderr_ne b (by omega) (by omega)
  have hlt := rget_cmderr_lt s l b
  cases hv : nbit v.toNat 31 with
  | true =>
    rw [cmderrWrite, if_pos hv] at hi
    refine endsIn_rsetf_cmderr hs hi fun t hbut hother hnew => ⟨hbut, hother, ?_⟩
    rw [hnew]
    constructor
    · rw [nset]
      omega
    · rw [nbit, nfld_mod_word (by omega), nfld_nset_same (by omega), Bool.not_true, Bool.and_false]
      rfl
  | false =>
    rw [cmderrWrite, hv, if_neg (by simp)] at hi
    refine endsIn_act hi hs (only_refl _ s) ⟨fun m a _ => by simp, by simp, by simp, by simp⟩

/-- A read of CMDERR clears REJ_COUNT and nothing else (R9, R15). -/
theorem cmderr_read (s : State) (l : LaneId) (c : Fin 8) (b : Block) (hs : s.dark = false) :
    EndsIn [.regs] (.readClear l c (BitVec.ofNat 24 (b.base - 0xF0000000 + 0xC))) s fun t =>
      regsBut [b.base + 0xC] s t ∧ nfld (rget t l (b.base + 0xC)) 23 16 = 0 ∧
      rget t l (b.base + 0xC) % 65536 = rget s l (b.base + 0xC) % 65536 ∧
      nbit (rget t l (b.base + 0xC)) 31 = nbit (rget s l (b.base + 0xC)) 31 ∧
      rget t l.other (b.base + 0xC) = rget s l.other (b.base + 0xC) := by
  have ha : regAddr (BitVec.ofNat 24 (b.base - 0xF0000000 + 0xC)) = b.base + 0xC := regAddr_offset b (by omega) (by omega)
  have hi : exec (.readClear l c (BitVec.ofNat 24 (b.base - 0xF0000000 + 0xC))) s =
      act s (rsetf s l (b.base + 0xC) 23 16 0) := by
    rw [exec_readClear, ha, regRead_cmderr]
    rfl
  refine endsIn_rsetf_cmderr hs hi fun t hbut hother hnew => ?_
  have hbit : nbit (rget t l (b.base + 0xC)) 31 = nbit (rget s l (b.base + 0xC)) 31 := by
    rw [hnew, nbit, nbit, nfld_mod_word (by omega), nfld_nset_disjoint (by omega) (by omega)]
  have hcount : nfld (rget t l (b.base + 0xC)) 23 16 = 0 := by
    rw [hnew, nfld_mod_word (by omega), nfld_nset_same (by omega), Nat.zero_mod]
  have hlow : rget t l (b.base + 0xC) % 65536 = rget s l (b.base + 0xC) % 65536 := by
    rw [hnew, nset]
    omega
  exact ⟨hbut, hcount, hlow, hbit, hother⟩

end Sys2Proof.Machine
end

section
/-! PROOFS. Reads of registers: reads that clear (R9), and pairs whose high half a read of the low one latches (R496) (O13). -/

namespace Sys2Proof.Machine

/-! ### Reads that clear -/

/-- What a read leaves in a field that held `x`. -/
def FieldDesc.afterRead (f : FieldDesc) (x : Nat) : Nat := if f.acc = .rc then 0 else x

theorem FieldDesc.afterRead_lt (f : FieldDesc) (w : Nat) : f.afterRead (f.get w) < 2 ^ (f.hi + 1 - f.lo) := by
  unfold FieldDesc.afterRead
  split
  · positivity
  · exact nfld_lt ..

theorem clear_eq_setFields {d : RegDesc} (hd : d.Sound) (w : Nat) :
    d.fields.foldl (fun w f => if f.acc == .rc then nset w f.hi f.lo 0 else w) w = setFields FieldDesc.afterRead d.fields w := by
  refine List.foldl_ext _ _ _ fun w f hf => ?_
  by_cases h : f.acc = .rc
  · simp [FieldDesc.afterRead, h]
  · have keep : nset w f.hi f.lo (f.get w) = w := nset_nfld (hd.1 f hf).1 w
    simp [FieldDesc.afterRead, h, keep]

section
variable {s : State} {l : LaneId} {b : Block} {off : Nat} {d : RegDesc}

theorem only_plainRead {ps : List Part} (h : Part.regs ∈ ps) (s : State) (l : LaneId) (b : Block) (off : Nat) :
    only ps s (plainRead s l b off).2 := by
  unfold plainRead
  split
  · exact only_refl _ s
  · dsimp only
    split
    · exact only_rset h _ _ _ _
    · exact only_refl _ s

/-- A read of a stored register touches that register only. -/
theorem regsBut_plainRead (s : State) (l : LaneId) (b : Block) (off : Nat) : regsBut [b.base + off] s (plainRead s l b off).2 := by
  unfold plainRead
  split
  · exact fun _ _ _ => rfl
  · dsimp only
    split
    · exact regsBut_rset _ _ _ _
    · exact fun _ _ _ => rfl

/-- A read of a stored register clears its RC fields. -/
theorem get_plainRead (hd : b.descAt off = some d) {f : FieldDesc} (hf : f ∈ d.fields) :
    f.get (rget (plainRead s l b off).2 l (b.base + off)) = f.afterRead (f.get (rget s l (b.base + off))) := by
  obtain ⟨hw, hp⟩ := Block.descAt_sound hd
  unfold plainRead
  rw [hd]
  dsimp only
  split
  · rw [rget_rset_same, clear_eq_setFields ⟨hw, hp⟩]
    have word : f.get (setFields FieldDesc.afterRead d.fields (rget s l (b.base + off)) % 2 ^ 32) =
        f.get (setFields FieldDesc.afterRead d.fields (rget s l (b.base + off))) := nfld_mod_word (hw f hf).2 ..
    rw [word, get_setFields_mem _ (fun x hx => (hw x hx).1) hp hf, Nat.mod_eq_of_lt (f.afterRead_lt _)]
  · next none_rc =>
    have : f.acc ≠ .rc := fun h => none_rc (List.any_eq_true.2 ⟨f, hf, by simp [h]⟩)
    simp [FieldDesc.afterRead, this]

theorem regRead_plain {c : Nat} (hb : blockOf (b.base + off) = b) (hlt : b.base + off < 0xF0C00000) (hd : b.descAt off = some d)
    (ho : off ≠ 0xC) (hr : blockRead s l c b off = none) : regRead s l c (b.base + off) = plainRead s l b off := by
  unfold regRead
  dsimp only
  rw [hb, Nat.add_sub_cancel_left, if_neg (by omega), if_neg ho, hd, hr]
  rfl

end

/-- READ_CLEAR of a stored register. -/
theorem readClear_effect {s : State} {l : LaneId} {c : Fin 8} {a : BitVec 24} {b : Block} {off : Nat} {d : RegDesc}
    (hs : s.dark = false) (ha : regAddr a = b.base + off) (hb : blockOf (b.base + off) = b) (hlt : b.base + off < 0xF0C00000)
    (hd : b.descAt off = some d) (ho : off ≠ 0xC) (hr : blockRead s l c b off = none) :
    EndsIn [.regs] (.readClear l c a) s fun t => regsBut [b.base + off] s t ∧
      ∀ f ∈ d.fields, f.get (rget t l (b.base + off)) = f.afterRead (f.get (rget s l (b.base + off))) := by
  have hi : exec (.readClear l c a) s = act s (plainRead s l b off).2 := by
    rw [exec_readClear, ha, regRead_plain hb hlt hd ho hr]
  refine endsIn_act hi hs (only_plainRead (by simp) s l b off) ⟨fun m x hx => ?_, fun f hf => ?_⟩
  · simpa using regsBut_plainRead s l b off m x hx
  · simpa using get_plainRead hd hf

/-! ### Latched pairs -/

/-- A read of the low half of a pair gives `x`, and latches `y` for the reading lane. -/
def LatchesPair (s : State) (l : LaneId) (c : Nat) (b : Block) (lo hi x y : Nat) : Prop :=
  regRead s l c (b.base + lo) = (x, rset s l (b.base + hi) y)

theorem latchesPair_of_blockRead {s : State} {l : LaneId} {c : Nat} {b : Block} {lo hi x y : Nat} (hlo : lo < 0x20000)
    (hc : lo ≠ 0xC) (hd : (b.descAt lo).isSome = true) (hr : blockRead s l c b lo = some (x, rset s l (b.base + hi) y)) :
    LatchesPair s l c b lo hi (x % 2 ^ 32) y := by
  have hb := b.base_bounds
  obtain ⟨d, hd⟩ := Option.isSome_iff_exists.1 hd
  unfold LatchesPair regRead
  dsimp only
  rw [blockOf_offset b hlo, Nat.add_sub_cancel_left, if_neg (by omega), if_neg hc, hd, hr]
  rfl

/-- A read of the low half gives `x`; LATCHED_PAIR_READ leaves `y` in the reading lane's high half, and the other lane's as it was. -/
def ReadsPair (s : State) (l : LaneId) (c : Fin 8) (b : Block) (lo hi x y : Nat) : Prop :=
  (regRead s l c (b.base + lo)).1 = x ∧
    EndsIn [.regs] (.latchedPairRead l c (BitVec.ofNat 24 (b.base - 0xF0000000 + lo))) s fun t => regsBut [b.base + hi] s t ∧
      rget t l (b.base + hi) = y ∧ rget t l.other (b.base + hi) = rget s l.other (b.base + hi)

theorem readsPair_of_latches {s : State} {l : LaneId} {c : Fin 8} {b : Block} {lo hi x y : Nat} (hs : s.dark = false)
    (h : LatchesPair s l c b lo hi x y) (hlo : lo < 0x20000) (h4 : lo % 4 = 0) (hh : laneHeld (b.base + hi) = true) :
    ReadsPair s l c b lo hi x (y % 2 ^ 32) := by
  unfold LatchesPair at h
  have hi' : exec (.latchedPairRead l c (BitVec.ofNat 24 (b.base - 0xF0000000 + lo))) s = act s (rset s l (b.base + hi) y) := by
    rw [exec_latchedPairRead, regAddr_offset b hlo h4, h]
  refine ⟨by rw [h], endsIn_act hi' hs (only_rset (by simp) s l _ _) ⟨fun m a ha => ?_, ?_, ?_⟩⟩
  · simpa using regsBut_rset s l _ y m a ha
  · simp
  · simpa using rget_rset_other s hh (other_ne l) _ _

/-- The pairs of 64 bits in two words. -/
theorem readsPair_wide {s : State} {l : LaneId} {c : Fin 8} {b : Block} {lo v : Nat} (hs : s.dark = false)
    (hr : blockRead s l c b lo = some (v % 2 ^ 32, rset s l (b.base + (lo + 4)) (v / 2 ^ 32)))
    (hmap : lo < 0x20000 ∧ lo % 4 = 0 ∧ lo ≠ 0xC ∧ (b.descAt lo).isSome = true ∧ laneHeld (b.base + (lo + 4)) = true) :
    ReadsPair s l c b lo (lo + 4) (v % 2 ^ 32) (v / 2 ^ 32 % 2 ^ 32) := by
  obtain ⟨hlt, h4, hc, hd, hh⟩ := hmap
  have h := latchesPair_of_blockRead hlt hc hd hr
  rw [Nat.mod_mod] at h
  exact readsPair_of_latches hs h hlt h4 hh

/-- A read of a halyard's position latches its upper part. -/
theorem halRead_position (s : State) (l : LaneId) (n : Fin 16) : halRead s l (0x120 + 0x40 * n) =
    some (hyP s l n % 2 ^ 24, rset s l (Block.hal.base + (0x124 + 0x40 * n)) (hyP s l n / 2 ^ 24)) := by
  have halyard : (0x120 + 0x40 * n.val - 0x100) / 0x40 = n := by omega
  have register : (0x120 + 0x40 * n.val - 0x100) % 0x40 = 0x20 := by omega
  have address : hyReg n 0x24 = Block.hal.base + (0x124 + 0x40 * n) := by
    unfold hyReg
    omega
  unfold halRead
  dsimp only
  rw [if_neg (by omega), if_neg (by omega), if_neg (by omega), halyard, register, if_pos rfl, address]

theorem readsPair_position {s : State} {l : LaneId} {c : Fin 8} (hs : s.dark = false) (n : Fin 16) :
    ReadsPair s l c .hal (0x120 + 0x40 * n) (0x124 + 0x40 * n) (hyP s l n % 2 ^ 24) (hyP s l n / 2 ^ 24 % 2 ^ 32) := by
  have inMap : ∀ n : Fin 16, (Block.hal.descAt (0x120 + 0x40 * n)).isSome = true ∧
      laneHeld (Block.hal.base + (0x124 + 0x40 * n)) = true := by decide +kernel
  obtain ⟨hd, hh⟩ := inMap n
  have h := latchesPair_of_blockRead (c := c) (by omega) (by omega) hd (halRead_position s l n)
  have word : hyP s l n % 2 ^ 24 % 2 ^ 32 = hyP s l n % 2 ^ 24 := by omega
  rw [word] at h
  exact readsPair_of_latches hs h (by omega) (by omega) hh

end Sys2Proof.Machine
end

section
/-! PROOFS. BLOCK_LOCK (O13, R12): every block's CTRL, or SYSLOCK, takes the bit, beside what else its writes do. -/

namespace Sys2Proof.Machine

/-- The place of LOCK: SYSLOCK in SYS, CTRL elsewhere. -/
def lockOff : Block → Nat
  | .sys => 0x54
  | _ => 0

theorem isLocked_eq_nbit (s : State) (l : LaneId) (b : Block) : isLocked s l b = nbit (rget s l (b.base + lockOff b)) 31 := by
  cases b <;> rfl

/-- What BLOCK_LOCK writes: what the register holds, and LOCK. -/
def lockWord (s : State) (l : LaneId) (b : Block) : Nat := 2 ^ 31 + rget s l (b.base + lockOff b) % 2 ^ 31

theorem nbit_lockWord (s : State) (l : LaneId) (b : Block) : nbit (lockWord s l b) 31 = true := by
  simp only [lockWord, nbit, nfld, beq_iff_eq]
  omega

theorem nfld_lockWord (s : State) (l : LaneId) (b : Block) {hi : Nat} (h : hi < 31) (lo : Nat) :
    nfld (lockWord s l b) hi lo = nfld (rget s l (b.base + lockOff b)) hi lo := by
  refine Nat.eq_of_testBit_eq fun k => ?_
  rw [testBit_nfld, testBit_nfld, lockWord]
  by_cases hk : k < hi + 1 - lo
  · have : lo + k < 31 := by omega
    rw [Nat.testBit_two_pow_add_gt this, Nat.testBit_mod_two_pow]
    simp [this]
  · simp [hk]

theorem exec_blockLock (s : State) (l : LaneId) (b : Block) :
    exec (.blockLock l b) s = act s (regWriteBase s l 0 (b.base + lockOff b) (lockWord s l b)) := by
  have here : b.base + lockOff b ≠ Block.sys.base + 0x08 ∧ b.base + lockOff b ≠ Block.sys.base + 0x28 ∧
      b.base + lockOff b ≠ Block.sys.base + 0x34 := by cases b <;> decide
  obtain ⟨h8, h28, h34⟩ := here
  rw [← actOn_keep, ← regWriteAny_work h8 h28 h34]
  cases b <;> rfl

/-! ### LOCK by the description -/

/-- Every block has LOCK in its map, as a W1S bit. -/
theorem lock_described (b : Block) : ∃ d, b.descAt (lockOff b) = some d ∧ ∃ f ∈ d.fields, f.hi = 31 ∧ f.lo = 31 ∧ f.acc = .w1s := by
  have all : (b.descAt (lockOff b)).any (fun d => d.fields.any fun f => decide (f.hi = 31 ∧ f.lo = 31 ∧ f.acc = .w1s)) = true := by
    cases b <;> decide +kernel
  simpa [Option.any_eq_true, List.any_eq_true] using all

theorem lockOff_small (b : Block) : lockOff b ≤ 0x54 ∧ lockOff b ≠ 0xC := by
  cases b <;> decide

/-- A W1S field that is all 1 in what is written is so afterwards. -/
theorem RegDesc.Takes.w1s_bit {d : RegDesc} {old v new : Nat} {rw rwl : Bool} (h : d.Takes old v rw rwl new) {f : FieldDesc}
    (hf : f ∈ d.fields) {k : Nat} (hk : f.hi = k ∧ f.lo = k) (ha : f.acc = .w1s) (hv : nbit v k = true) : nbit new k = true := by
  have hnew := h.1 f hf
  obtain ⟨hhi, hlo⟩ := hk
  rw [if_neg (by simp [ha]), if_pos ha] at hnew
  simp only [FieldDesc.get, hhi, hlo] at hnew
  simp only [nbit, beq_iff_eq] at hv ⊢
  have hold : nfld old k k < 2 := by simpa using nfld_lt old k k
  rw [hnew, hv]
  interval_cases nfld old k k <;> rfl

/-- A write by the description that carries LOCK sets it, whatever becomes of the other fields (R9, R12). -/
theorem isLocked_regPlain (s : State) (l : LaneId) (b : Block) {v : Nat} (hv : nbit v 31 = true) :
    isLocked (regPlain s l b (lockOff b) v) l b = true := by
  obtain ⟨d, hd, f, hf, hhi, hlo, ha⟩ := lock_described b
  have stored (r : Nat) : isLocked (regStore s l b (lockOff b) v r) l b = true := by
    rw [isLocked_eq_nbit]
    exact (takes_regStore hd v r).w1s_bit hf ⟨hhi, hlo⟩ ha hv
  have hc := (lockOff_small b).2
  unfold regPlain
  dsimp only
  split
  · exact stored _
  · rw [isLocked_eq_nbit, rget_reject_ne _ _ _ _ _ _ (by omega), ← isLocked_eq_nbit]
    exact stored _

/-- What leaves the register of LOCK leaves LOCK. -/
theorem isLocked_congr {s t : State} {l : LaneId} {b : Block} (h : ∀ m a, rget t m a = rget s m a) :
    isLocked t l b = isLocked s l b := by
  rw [isLocked_eq_nbit, isLocked_eq_nbit, h]

/-! ### Blocks whose CTRL has an effect of its own -/

/-- A shared register reads the same in both lanes. -/
theorem rget_shared {a : Nat} (h : laneHeld a = false) (s : State) (l m : LaneId) : rget s l a = rget s m a := by
  simp [rget, h]

theorem isLocked_evtCtrl (s : State) (l : LaneId) : isLocked (evtCtrl s l (lockWord s l .evt)) l .evt = true := by
  have same : rbit s l (evtReg 0) 0 = nbit (lockWord s l .evt) 0 := by
    unfold nbit
    rw [nfld_lockWord s l .evt (by omega)]
    rfl
  unfold evtCtrl
  dsimp only
  rw [same]
  have hv := nbit_lockWord s l .evt
  generalize lockWord s l .evt = v at *
  have stored (u : Nat) : isLocked (rset s l (evtReg 0) (u ||| (nfld v 31 31 * 2 ^ 31 + v % 2))) l .evt = true := by
    rw [isLocked_eq_nbit]
    show nbit (rget _ l (evtReg 0)) 31 = true
    rw [rget_rset_same, nbit, nfld_mod_word (by omega), ← nbit, nbit_eq_testBit, Nat.testBit_or]
    rw [nbit, beq_iff_eq] at hv
    have low : (v % 2).testBit 31 = false := Nat.testBit_lt_two_pow (by omega)
    rw [hv, one_mul, Nat.testBit_two_pow_add_eq, low]
    simp
  cases nbit v 0 <;> exact stored _

/-- A write of LOCK in a shared block, as the work of a gate: the lane that owns the engine is let through. -/
theorem isLocked_of_shared {b : Block} (hsh : laneHeld (b.base + lockOff b) = false) {t : State} {l : LaneId}
    (h : nbit (rget t .a (b.base + lockOff b)) 31 = true) : isLocked t l b = true := by
  rw [isLocked_eq_nbit, rget_shared hsh t l .a]
  exact h

/-- Bits of a shared engine's CTRL below LOCK stay. -/
theorem sfld_lockWord (s : State) (l : LaneId) {b : Block} (h0 : lockOff b = 0) (hsh : laneHeld (b.base + lockOff b) = false) :
    sfld s b 0 1 1 = nfld (lockWord s l b) 1 1 := by
  rw [nfld_lockWord s l b (by omega), rget_shared hsh s l .a, h0]
  rfl

/-- LOCK of a CTRL that its engine puts together itself: the bit as it was, or as written. -/
theorem nbit_nset_lock (w x : Nat) {v : Nat} (hv : nbit v 31 = true) (hx : x ≤ 1) :
    nbit (nset w 31 31 (x ||| nfld v 31 31) % 2 ^ 32) 31 = true := by
  rw [nbit, beq_iff_eq] at hv ⊢
  rw [nfld_mod_word (by omega), nfld_nset_same (by omega), hv]
  interval_cases x <;> rfl

theorem isLocked_fusCtrl {s : State} {l : LaneId} (h : engineReady s l .fus) :
    isLocked (fusCtrl s l (lockWord s l .fus)) l .fus = true := by
  have hsh : laneHeld (Block.fus.base + lockOff .fus) = false := by decide +kernel
  have same : fusRuns s = nbit (lockWord s l .fus) 1 := by
    unfold fusRuns nbit
    rw [sfld_lockWord s l rfl hsh]
  have hv := nbit_lockWord s l .fus
  unfold fusCtrl
  rw [gated_ready h]
  dsimp only
  rw [same]
  generalize lockWord s l .fus = v at *
  have stored : isLocked (sput s .fus 0 (nset (nset (nset (sget s .fus 0) 10 8 (nfld v 10 8)) 1 0 v) 31 31
      (sfld s .fus 0 31 31 ||| nfld v 31 31))) l .fus = true := by
    refine isLocked_of_shared hsh ?_
    have hx : sfld s .fus 0 31 31 < 2 := Nat.mod_lt _ (by decide)
    rw [sput, show Block.fus.base + lockOff .fus = Block.fus.base + 0 from rfl, rget_rset_same]
    exact nbit_nset_lock _ _ hv (by omega)
  cases nbit v 1 <;> exact stored

theorem isLocked_pclCtrl {s : State} {l : LaneId} (h : engineReady s l .pcl) :
    isLocked (pclCtrl s l (lockWord s l .pcl)) l .pcl = true := by
  have hsh : laneHeld (Block.pcl.base + lockOff .pcl) = false := by decide +kernel
  have same := sfld_lockWord s l (b := .pcl) rfl hsh
  have hv := nbit_lockWord s l .pcl
  unfold pclCtrl
  rw [gated_ready h]
  dsimp only
  rw [same]
  generalize lockWord s l .pcl = v at *
  have still : ¬ (nfld v 1 1 = 0 ∧ nfld v 1 1 = 1) := by omega
  have still' : ¬ (nfld v 1 1 = 1 ∧ nfld v 1 1 = 0) := by omega
  rw [if_neg still, if_neg (by simp), if_neg still', if_neg still]
  refine isLocked_of_shared hsh ?_
  have hx : sfld s .pcl 0 31 31 < 2 := Nat.mod_lt _ (by decide)
  rw [sput, show Block.pcl.base + lockOff .pcl = Block.pcl.base + 0 from rfl, rget_rset_same, nbit, nfld_mod_word (by omega),
    nfld_nset_disjoint (by omega) (by omega), nfld_nset_disjoint (by omega) (by omega), nfld_nset_disjoint (by omega) (by omega),
    sget, sputf, rsetf, rget_rset_same]
  exact nbit_nset_lock _ _ hv (by omega)

/-! ### The clock and the fabric, which act on what a write of CTRL changed -/

@[simp] theorem rget_modTim (s : State) (f : Tim → Tim) (l : LaneId) (a : Nat) : rget (s.modTim f) l a = rget s l a := rfl

@[simp] theorem rget_dropActive (s : State) (l : LaneId) (a : Nat) : rget (dropActive s) l a = rget s l a := by
  unfold dropActive
  split <;> rfl

@[simp] theorem rget_timState (s : State) (c : CState) (auto : Bool) (l : LaneId) (a : Nat) : rget (timState s c auto) l a = rget s l a := by
  unfold timState
  dsimp only
  split
  · rfl
  · split
    · rfl
    · rw [rget_postEngine]
      rfl

theorem rget_rsetb_ne (s : State) (l m : LaneId) {a x : Nat} (h : x ≠ a) (i : Nat) (v : Bool) :
    rget (rsetb s l a i v) m x = rget s m x := rget_rset_ne s l m h _

theorem rget_rwrap_ne (s : State) (l m : LaneId) {a x : Nat} (h : x ≠ a) (n : Nat) : rget (rwrap s l a n) m x = rget s m x :=
  rget_rset_ne s l m h _

/-- A flag of TIM set and one of its counts advanced, as a switch does it (R424). -/
theorem rget_timCounted (s : State) (l : LaneId) (i n : Nat) {a : Nat} (h4 : a ≠ Block.tim.base + 4) (hn : a ≠ Block.tim.base + n) :
    rget (rwrap (rsetb s .a (Block.tim.base + 4) i true) .a (Block.tim.base + n) 1) l a = rget s l a :=
  (rget_rwrap_ne _ _ _ hn _).trans (rget_rsetb_ne _ _ _ h4 _ _)

/-- A switch writes the flags and the counts of TIM, not CTRL (R424). -/
theorem regsBut_timSwitch (s : State) (j : Nat) (auto : Bool) :
    regsBut [Block.tim.base + 4, Block.tim.base + 0x50, Block.tim.base + 0x54] s (timSwitch s j auto).1 := by
  intro l a ha
  simp only [List.mem_cons, List.not_mem_nil, or_false, not_or] at ha
  obtain ⟨h4, h50, h54⟩ := ha
  have kept : rget (dropActive s) l a = rget s l a := rget_dropActive s l a
  unfold timSwitch
  dsimp only
  generalize dropActive s = u at *
  split
  · rw [rget_timState, rget_timCounted _ _ _ _ h4 h54, rget_modTim, rget_postEngine, rget_timCounted _ _ _ _ h4 h50, rget_modTim, kept]
  · split
    · rw [rget_postEngine, kept]
    · rw [rget_timState, rget_timCounted _ _ _ _ h4 h54, rget_modTim, rget_modTim, kept]

theorem rget_timHold (s : State) (auto : Bool) (l : LaneId) (a : Nat) : rget (timHold s auto) l a = rget s l a := by
  simp [timHold]

theorem isLocked_timAutoNow (s : State) (l : LaneId) : isLocked (timAutoNow s) l .tim = isLocked s l .tim := by
  have switch (j : Nat) (auto : Bool) : rget (timSwitch s j auto).1 l Block.tim.base = rget s l Block.tim.base :=
    regsBut_timSwitch s j auto l _ (by decide)
  rw [isLocked_eq_nbit, isLocked_eq_nbit, show Block.tim.base + lockOff .tim = Block.tim.base from rfl]
  congr 1
  unfold timAutoNow
  dsimp only
  split
  · split
    · rfl
    · split
      · split
        · exact switch _ _
        · rw [rget_timHold, switch]
      · exact rget_timHold _ _ _ _
  · split
    · rfl
    · split
      · exact switch _ _
      · split
        · exact switch _ _
        · rfl

theorem isLocked_timAuto (s : State) (l : LaneId) : isLocked (timAuto s) l .tim = isLocked s l .tim := by
  unfold timAuto
  split
  · exact isLocked_congr fun m a => rget_modTim s _ m a
  · exact isLocked_timAutoNow s l

/-! ### Every block -/

/-- The blocks that act on a write of the register of LOCK themselves. -/
def lockActors : List Block := [Block.evt, .pcl, .fus, .tim, .fab, .recd, .pnl, .cfg, .sec]

/-- The other blocks leave it to the description. -/
theorem blockWrite_lock_plain (s : State) (l : LaneId) (c v : Nat) {b : Block}
    (h : b ∉ lockActors) : blockWrite s l c b (lockOff b) v = none := by
  cases b with
  | sys | hal | lpe | ddv | pvc | lsw | hsi | cam | can | lin | snt | ser | eth | hst | pwr => rfl
  | evt | pcl | fus | tim | fab | recd | pnl | cfg | sec => simp [lockActors] at h

theorem isLocked_fabWrite {s : State} {l : LaneId} (h : engineReady s l .fab) (c : Nat) {v : Nat} (hv : nbit v 31 = true) :
    ∃ t, blockWrite s l c .fab 0 v = some t ∧ isLocked t l .fab = true := by
  refine ⟨_, rfl, ?_⟩
  rw [gated_ready h]
  dsimp only
  split
  · exact (isLocked_congr fun _ _ => rfl).trans (isLocked_regPlain s l .fab hv)
  · exact isLocked_regPlain s l .fab hv

theorem isLocked_pnlWrite {s : State} {l : LaneId} (h : engineReady s l .pnl) (c : Nat) {v : Nat} (hv : nbit v 31 = true) :
    ∃ t, blockWrite s l c .pnl 0 v = some t ∧ isLocked t l .pnl = true := by
  refine ⟨_, rfl, ?_⟩
  rw [gated_ready h]
  have locked := isLocked_regPlain s l .pnl hv
  show isLocked (if regVerdict s l .pnl 0 v = rLOCKED then regPlain s l .pnl 0 v else regPlain s l .pnl 0 v) l .pnl = true
  rw [ite_self]
  exact locked

/-- Each of them sets LOCK beside its own effect. -/
theorem blockWrite_lock_special {s : State} {l : LaneId} {b : Block} (hb : b.perLane = true ∨ engineReady s l b)
    (h : b ∈ lockActors) :
    ∃ t, blockWrite s l 0 b (lockOff b) (lockWord s l b) = some t ∧ isLocked t l b = true := by
  have hv := nbit_lockWord s l b
  have plain := isLocked_regPlain s l b hv
  cases b with
  | evt => exact ⟨_, rfl, isLocked_evtCtrl s l⟩
  | pcl => exact ⟨_, rfl, isLocked_pclCtrl (hb.resolve_left (by decide))⟩
  | fus => exact ⟨_, rfl, isLocked_fusCtrl (hb.resolve_left (by decide))⟩
  | tim =>
    refine ⟨_, rfl, ?_⟩
    rw [gated_ready (hb.resolve_left (by decide)), isLocked_timAuto]
    exact plain
  | fab => exact isLocked_fabWrite (hb.resolve_left (by decide)) 0 hv
  | recd =>
    refine ⟨_, rfl, ?_⟩
    rw [gated_ready (hb.resolve_left (by decide)), if_neg (by simp [lockOff])]
    exact plain
  | pnl => exact isLocked_pnlWrite (hb.resolve_left (by decide)) 0 hv
  | cfg =>
    obtain ⟨_, ho, _⟩ := hb.resolve_left (by decide)
    exact ⟨_, rfl, by rw [if_pos ho]; exact plain⟩
  | sec =>
    obtain ⟨_, ho, _⟩ := hb.resolve_left (by decide)
    exact ⟨regPlain s l .sec 0 (lockWord s l .sec), by simp [blockWrite, secWrite, lockOff, ho], plain⟩
  | sys | hal | lpe | ddv | pvc | lsw | hsi | cam | can | lin | snt | ser | eth | hst | pwr => simp [lockActors] at h

/-- The write of BLOCK_LOCK reaches LOCK in each block. -/
theorem isLocked_lockWrite {s : State} {l : LaneId} {b : Block} (hb : b.perLane = true ∨ engineReady s l b) :
    isLocked (regWriteBase s l 0 (b.base + lockOff b) (lockWord s l b)) l b = true := by
  obtain ⟨d, hd, _⟩ := lock_described b
  obtain ⟨hsmall, hc⟩ := lockOff_small b
  have hbase := b.base_bounds
  unfold regWriteBase
  dsimp only
  rw [blockOf_offset b (by omega), Nat.add_sub_cancel_left, if_neg (by omega), if_neg hc, hd]
  by_cases h : b ∈ lockActors
  · obtain ⟨t, ht, hl⟩ := blockWrite_lock_special hb h
    rw [ht]
    exact hl
  · rw [blockWrite_lock_plain s l 0 _ h, Option.getD_none, genericWrite_ready hd hb]
    exact isLocked_regPlain s l b (nbit_lockWord s l b)

theorem blockLock_effect {s : State} {l : LaneId} {b : Block} (hs : s.dark = false) (hb : b.perLane = true ∨ engineReady s l b) :
    Ends (.blockLock l b) s fun t => supFrame s t ∧ isLocked t l b = true := by
  refine ⟨_, (exec_blockLock s l b).trans (act_lit hs _), supFrame_act _ _, ?_⟩
  rw [← isLocked_lockWrite hb]
  exact isLocked_congr fun m a => by rw [rget_modeStep, rget_keep]

end Sys2Proof.Machine
end

section
/-! PROOFS. The statement on registers without an effect of their own (O13). -/

namespace Sys2Proof.Machine

/-- Settles O13, one part after the other: a write by the access codes goes through the gate to `regPlain`; an offset without a
register leaves the state; CMDERR and LOCK are fields of one register each; a read clears by `setFields`; a pair's read latches. -/
theorem genericRegisters : Obligations.GenericRegisters := by
  refine ⟨?writes, ?noRegister, ?lockAndCmderr, ?readClear, ?pairs⟩
  case writes =>
    intro s l c a v b off d hs ha hb hd ho hlt hw hsys
    rw [ha] at hb hlt ⊢
    have hi := exec_genericWrite ha ⟨hlt, hb.symm, hd, ho, hw⟩ hsys
    refine ⟨genericWrite_effect hs hi hd ho, fun hp hn => ?_, fun hp hn hf => ?_⟩
    · rw [genericWrite_shared hd hp, gated_notOwner hn] at hi
      exact endsIn_reject hs (by decide) hi
    · rw [genericWrite_shared hd hp, gated_faulty hn hf] at hi
      exact endsIn_reject hs (by decide) hi
  case noRegister =>
    intro s l c a v b off h
    exact endsIn_noRegister s l c a v (noRegister_of_offset h)
  case lockAndCmderr =>
    intro s l b hs
    exact ⟨blockLock_effect hs, fun c v => cmderr_write s l c b v hs, fun c => cmderr_read s l c b hs⟩
  case readClear =>
    intro s l c a b off d hs ha hb hd ho hlt hr
    rw [ha] at hb hlt ⊢
    exact readClear_effect hs ha hb.symm hlt hd ho hr
  case pairs =>
    intro s l c hs
    refine ⟨?recSeq, ?recOldest, ?recFlushed, ?recNext, ?cfgSeq, ?cfgSeqA, ?cfgSeqB, ?pclIdx, ?pclExp, ?halCount,
      fun n => readsPair_position hs n⟩
    all_goals exact readsPair_wide hs rfl (by decide +kernel)

end Sys2Proof.Machine
end

section
/-! PROOFS. The invariants of lanes and memories at reset (O5), and what the commands of the engines leave of the supervisor (O10). -/

namespace Sys2Proof.Machine

/-- Settles O5: at reset no lane is healthy, nothing is due, and every memory is empty. -/
theorem invariantsAtReset : Obligations.InvariantsAtReset :=
  ⟨⟨rfl, rfl, rfl⟩, fun _ => rfl, fun l => by cases l <;> exact ⟨rfl, fun _ => rfl⟩⟩

/-! ### Commands of the engines -/

/-- An outcome is a next state with the supervisor's fields of `s`. -/
def SupKept (s : State) (o : Out) : Prop := ∃ t, o = .next t ∧ supFrame s t

theorem supKept_act (s t : State) : SupKept s (act s t) := by
  refine ⟨_, rfl, ?_⟩
  split
  · exact supFrame_refl s
  · exact supFrame_act s t

theorem supKept_actL (s t : State) : SupKept s (actL s t) := by
  refine ⟨_, rfl, ?_⟩
  split
  · exact supFrame_act s t
  · exact supFrame_refl s

theorem supKept_ophrsTick (s : State) : SupKept s (execOphrsTick s) := by
  refine ⟨_, rfl, ?_⟩
  split
  · exact supFrame_refl s
  · exact supFrame_refl s

/-- A command that is neither a core's nor the supervisor's ends as work of the engines does. -/
theorem exec_supKept {i : Instr} (h : (i.ofCore || i.ofSupervisor) = false) (s : State) : SupKept s (exec i s) := by
  cases i with
  | readClear | latchedPairRead | ownerTick | sequencerCommand | missingCopyTimeout | holdTimerExpiry | engineHardFault
  | angEdge | halyardStall | halyardConfig | feedIncrement | ddvStart | ddvStop | ddvClr | ddvEnable | ddvDisable | bankRequest
  | peakEnd | transitionEnd | holdEnd | releaseEnd | requestDeadline | holdEndRevision | profileWrite | ddmFrac | holdloss
  | valveShort | bhsOvercurrent | bhsfltClear | boostLimit | vbstLow | pvEnable | pvDisable | pvClr | pvDutyWrite | pvShort
  | pvShortbat | pvOpen | pvOver | lsOn | lsOff | lsClr | lsLimitTimeout | lsRetry | inrushWindowEnd | lsOvertemp
  | lsThermalRestart | lsOpenload | groupTrip | groupDieTrip | groupRestart | moduleShed | lsUndervoltage | lsUvRestart
  | directedConversion | directedConversionDone | lossImpact | lossWindowOpen | lossWindowClose | windowTimeout
  | lossRecordWrite | inputFault | inputFaultClear | adcSnapshot | fnTick | fnCtgtWrite | fnTtgtWrite | fnLimWrite
  | fnRateWrite | fnCtlWrite | fnBindWrite | loadcp | boundContextReport | parcelCreate | parcelStep | fixCommit | qualSubmit
  | measurementAttribute | closingGraceEnd | parcelExpire | pclFlush | pclRun | yieldStored | yieldBatchSend | yread
  | yreadDone | linkDown | linkTrained | i2cTransaction | i2cDone | camTrig | triggerPulseEnd | pwron | pwroff
  | cameraPowerFault | vpBind | frameStart | linePacket | frameEnd | frameStatusWrite | missingFrame | camCommit | vpRun
  | fusionUnit | fusInject | listIncomplete | sourceStale | listProcess | trackAgeOut | fusionOutput | outnow | fusTest
  | fusEndtest | fusReinit | fusRun | canReceive | canError | protocolException | canBusOff | busoffRecovered | recover
  | canMode | canModeChange | txreq | txcancel | canFrameStart | canTxEnd | timeReference | linStart | linSwitch | linStop
  | linSleep | linWakeup | linSlot | linResponse | linWake | sentFrame | serByte | serIdle | serTxd | ppsEdge | ppsStampRead
  | ethReceive | ethLinkDown | txRingDoorbell | ethTxDone | fdbAgeing | flushfdb | frerReset | pathdown | trackerCommit
  | trackerTimeout | timSwitch | forcefree | revertSwitch | timNowRead | jobReceive | jobAccept | ackReceive | gapReceive
  | stateReceive | completeReceive | jrepReceive | jrepackReceive | jsyncReceive | jsyncendReceive | heartbeatReceive
  | heartbeatSend | memberLost | jobRetransmit | jobBackoff | streamOpen | streamClose | streamPause | streamResume | resign
  | hoistListen | creditRefill | burstGrant | weightWrite | weightHold | fabricFreeze | scrubRead | recordEnter | pwcmd
  | recFlush | flushDone | recFreeze | thaw | freezeTimeout | recRead | readDone | recNonce | recClear | nonceExpiry
  | panelUpdate | updateLoaded | panelFrame | panelLineSend | pbsyTimeout | panelPowered | panelPowerHold | panelDischarge
  | dischargeDone | crackCheck | recheck | tempStale | cfgWrite | cfgWriteDone | secNonce | sessionOpen | endsession
  | dbgunlock | dbglock | sessionExpiry | imgwrite | imageWriteDone | activate | raisemin | keywrite | keyrevoke
  | cameraBrownout | brownoutRelease | valveSupplyUv | valveSupplyOver | sensorSupplyFault | sensorSupplyRestart | dissEstimate
  | dissShed | ownerTicksAbsent | boostLimitEnd | vbstRecovered | ownFaultEnd | lossSensorFault | positionHistorySample
  | serByteSent | ethLinkUp | egressFrameSent | slewComplete | valveSupplyReturn | bankWeak | tambStale => exact supKept_act _ _
  | watchdogKick | feedCommit | entryArm | entryFire | occurrenceComplete | entryCommit | entryCancel | fireEn
  | periodicRequest | sampleStep | lpeEnable | lpeDisable | lpeHold | lpeResume | injStart | injStop | capArm | capTrignow
  | capAbort | pvConversion | cameraTrigger => exact supKept_actL _ _
  | ophrsTick => exact supKept_ophrsTick s
  | _ => cases h

/-- Settles O10: every command of an engine ends as work of the engines does, and that keeps what the supervisor holds. -/
theorem enginesLeaveTheSupervisor : Obligations.EnginesLeaveTheSupervisor :=
  fun i s hc hs => exec_supKept (i := i) (by rw [hc, hs]; rfl) s

end Sys2Proof.Machine
end

section
/-! PROOFS. What the work of the engines keeps: a property of states that a few kinds of change keep is kept by every function of the
engines, for each is put together from these. -/

namespace Sys2Proof.Machine

/-! ### The changes that functions of the engines are made of -/

/-- A lane with the memories of another, healthy and struck as it is. -/
def SameLane (x y : Lane) : Prop := (y.lmem, y.sram, y.live, y.struck) = (x.lmem, x.sram, x.live, x.struck)

theorem sameLane_iff {x y : Lane} :
    SameLane x y ↔ y.lmem = x.lmem ∧ y.sram = x.sram ∧ y.live = x.live ∧ y.struck = x.struck := by
  simp only [SameLane, Prod.mk.injEq]

/-- The supervisor's state with the phase of another, and its lane mode, active lane, takeover and rejoin. -/
def SamePair (u v : Sup) : Prop :=
  (v.phase, v.laneMode, v.active, v.takeover, v.rejoin) = (u.phase, u.laneMode, u.active, u.takeover, u.rejoin)

theorem samePair_iff {u v : Sup} : SamePair u v ↔
    v.phase = u.phase ∧ v.laneMode = u.laneMode ∧ v.active = u.active ∧ v.takeover = u.takeover ∧ v.rejoin = u.rejoin := by
  simp only [SamePair, Prod.mk.injEq]

/-- Every memory of a table is in its canonical form. -/
def TabWf (t : Tab Memory) : Prop := ∀ n, (tget t n).wf = true

/-- A property of states that work of the engines keeps: it rests neither on registers, cores and the engines' own state, nor on what
the memories hold beyond their canonical form, nor on anything of the lane pair that engines change. -/
structure Quiet (P : Set State) : Prop where
  fields {s : State} (h : s ∈ P) (p n c sq r hf rd dq tm an rc pc ca fu bu et ho hs fb pn se cf pw ou) :
    (⟨p, n, c, s.sup, s.laneA, s.laneB, sq, r, hf, rd, s.dram, dq, tm, an, rc, pc, ca, fu, bu, et, ho, hs, fb, pn, se, cf, pw, ou⟩ : State) ∈ P
  sup {s : State} (h : s ∈ P) {u : Sup} (hu : SamePair s.sup u) : { s with sup := u } ∈ P
  lane {s : State} (h : s ∈ P) {l : LaneId} {f : Lane → Lane} (hf : ∀ x, SameLane x (f x)) : s.modLane l f ∈ P
  lmem {s : State} (h : s ∈ P) {l : LaneId} {f : Tab Memory → Tab Memory} (hf : ∀ t, TabWf t → TabWf (f t)) :
    (s.modLane l fun x => { x with lmem := f x.lmem }) ∈ P
  sram {s : State} (h : s ∈ P) {l : LaneId} {f : Memory → Memory} (hf : ∀ m, m.wf = true → (f m).wf = true) :
    (s.modLane l fun x => { x with sram := f x.sram }) ∈ P
  dram {s : State} (h : s ∈ P) {f : Tab Memory → Tab Memory} (hf : ∀ t, TabWf t → TabWf (f t)) : { s with dram := f s.dram } ∈ P
  keep {s t : State} (h : s ∈ P) (k : t ∈ P) : keep s t ∈ P

/-- What a write to a register, an optional next state, is: none, or one of which `P` holds. -/
def Given (P : Set State) (o : Option State) : Prop := ∀ t, o = some t → t ∈ P

/-- The same for a read: a value with a next state. -/
def GivenWith (P : Set State) (o : Option (Nat × State)) : Prop := ∀ r, o = some r → r.2 ∈ P

theorem tabWf_tset {t : Tab Memory} (ht : TabWf t) (n : Nat) {m : Memory} (hm : m.wf = true) : TabWf (tset t n m) := by
  intro k
  rw [tget_tset]
  split
  · exact hm
  · exact ht k

section
variable {P : Set State}

theorem kept_ite {c : Prop} [Decidable c] {s t : State} (h : s ∈ P) (k : t ∈ P) : (if c then s else t) ∈ P := by
  split
  · exact h
  · exact k

theorem kept_foldl {α : Type} {f : State → α → State} (hf : ∀ s x, s ∈ P → f s x ∈ P) {xs : List α} {s : State} (h : s ∈ P) :
    xs.foldl f s ∈ P :=
  List.foldlRecOn xs f h fun s hs x _ => hf s x hs

theorem kept_none : Given P none := fun _ h => nomatch h
theorem kept_some {s : State} (h : s ∈ P) : Given P (some s) := fun _ e => Option.some.inj e ▸ h
theorem kept_none₂ : GivenWith P none := fun _ h => nomatch h
theorem kept_some₂ {v : Nat} {s : State} (h : s ∈ P) : GivenWith P (some (v, s)) := fun _ e => Option.some.inj e ▸ h

theorem kept_someOf {r : Nat × State} (h : r.2 ∈ P) : GivenWith P (some r) := fun _ e => Option.some.inj e ▸ h

theorem kept_fst {α : Type} {s : State} {x : α} (h : s ∈ P) : (s, x).1 ∈ P := h

theorem kept_snd {α : Type} {s : State} {x : α} (h : s ∈ P) : (x, s).2 ∈ P := h

theorem kept_iteG {c : Prop} [Decidable c] {o p : Option State} (h : Given P o) (k : Given P p) : Given P (if c then o else p) := by
  split
  · exact h
  · exact k

theorem kept_iteW {c : Prop} [Decidable c] {o p : Option (Nat × State)} (h : GivenWith P o) (k : GivenWith P p) :
    GivenWith P (if c then o else p) := by
  split
  · exact h
  · exact k

theorem kept_getD {o : Option State} {s : State} (h : Given P o) (k : s ∈ P) : o.getD s ∈ P := by
  cases o with
  | none => exact k
  | some t => exact h t rfl

theorem kept_modeStep (q : Quiet P) {s t : State} (k : t ∈ P) : modeStep s t ∈ P := by
  unfold modeStep
  exact kept_ite k (q.sup k rfl)

theorem kept_closed (q : Quiet P) {s t : State} (k : t ∈ P) : closed s t ∈ P := kept_modeStep q (q.fields k ..)

theorem kept_map {α : Type} {o : Option α} {f : α → State} (hf : ∀ x, f x ∈ P) : Given P (o.map f) := by
  cases o with
  | none => exact kept_none
  | some x => exact kept_some (hf x)

theorem kept_map₂ {α : Type} {o : Option α} {f : α → Nat × State} (hf : ∀ x, (f x).2 ∈ P) : GivenWith P (o.map f) := by
  cases o with
  | none => exact kept_none₂
  | some x => exact kept_some₂ (hf x)

end

section
variable {P : Set State} (q : Quiet P) {s : State} (h : s ∈ P)
include q h

theorem kept_mk {p n c sq r hf rd dq tm an rc pc ca fu bu et ho hs fb pn se cf pw ou} :
    (⟨p, n, c, s.sup, s.laneA, s.laneB, sq, r, hf, rd, s.dram, dq, tm, an, rc, pc, ca, fu, bu, et, ho, hs, fb, pn, se, cf, pw, ou⟩ : State) ∈ P :=
  q.fields h ..

theorem kept_modLane {l} {f : Lane → Lane} (hf : ∀ x, SameLane x (f x)) :
    s.modLane l f ∈ P :=
  q.lane h hf

theorem kept_modSup {f : Sup → Sup} (hf : ∀ u, SamePair u (f u)) :
    s.modSup f ∈ P :=
  q.sup h (hf s.sup)

theorem kept_work {f : State → State} (k : f s ∈ P) : s.work f ∈ P := q.keep h k

theorem kept_keep {t : State} (k : t ∈ P) : keep s t ∈ P := q.keep h k

/-! ### Machine/Ops.lean -/

omit q in
theorem kept_both {f : LaneId → State → State} (hf : ∀ l t, t ∈ P → f l t ∈ P) : s.both f ∈ P := hf _ _ (hf _ _ h)

theorem kept_modCore {l c} {f : Core → Core} : State.modCore s l c f ∈ P := kept_modLane q h (fun _ => by rfl)

theorem kept_rset {l a v} : rset s l a v ∈ P := kept_ite (kept_modLane q h (fun _ => by rfl)) (kept_mk q h)

theorem kept_rsetf {l a hi lo v} : rsetf s l a hi lo v ∈ P := kept_rset q h

theorem kept_rsetb {l a i b} : rsetb s l a i b ∈ P := kept_rsetf q h

theorem kept_rcount {l a hi lo n} : rcount s l a hi lo n ∈ P := kept_rsetf q h

theorem kept_rwrap {l a n} : rwrap s l a n ∈ P := kept_rset q h

theorem kept_sput {b off v} : sput s b off v ∈ P := kept_rset q h

theorem kept_sputf {b off hi lo v} : sputf s b off hi lo v ∈ P := kept_rsetf q h

theorem kept_sputb {b off i v} : sputb s b off i v ∈ P := kept_rsetb q h

theorem kept_scount {b off n} : scount s b off n ∈ P := kept_rcount q h

theorem kept_reject {l b off reason} : reject s l b off reason ∈ P := kept_rset q h

theorem kept_postCore {l c e} : postCore s l c e ∈ P := kept_modCore q h

theorem kept_postRunning {l code arg data} : postRunning s l code arg data ∈ P :=
  kept_foldl (fun _ _ h => kept_ite (kept_postCore q h) h) h

theorem kept_atOnce {f : State → State} (hf : ∀ {t}, t ∈ P → f t ∈ P) : atOnce f s ∈ P := by
  unfold atOnce
  exact kept_both (hf (kept_both h fun _ _ h => kept_modLane q h fun _ => by rfl)) fun _ _ h => kept_modLane q h fun _ => by rfl

theorem kept_postOut {b code arg data} : postOut s b code arg data ∈ P :=
  kept_both h (fun _ _ h => kept_ite (kept_postCore q h) h)

theorem kept_postEngineRaw {b code data} : postEngineRaw s b code data ∈ P := by
  unfold postEngineRaw
  exact kept_both h (fun _ _ h => kept_postCore q h)

theorem kept_postEngine {b code data} : postEngine s b code data ∈ P := kept_ite (kept_postEngineRaw q h) h

theorem kept_modSeq {n} {f : Seq → Seq} : State.modSeq s n f ∈ P := kept_mk q h

theorem kept_dramWrite {g a bs} : dramWrite s g a bs ∈ P :=
  kept_mk q (q.dram h fun _ ht => tabWf_tset ht g (mwriteN_wf bs _ a (ht g)))

theorem kept_dramMeet {r g a n} : dramMeet s r g a n ∈ P := kept_mk q h

theorem kept_ringPut {r esz} {mk : Bool → List Byte} : (ringPut s r esz mk).1 ∈ P := by
  unfold ringPut
  dsimp only
  split
  · exact kept_fst h
  · split
    · exact kept_fst (kept_mk q (kept_rcount q h))
    · exact kept_fst (kept_mk q (kept_rset q (kept_dramWrite q h)))

theorem kept_ringThen {w0} {p : State × Bool × Bool} (h'1 : p.1 ∈ P) : ringThen s w0 p ∈ P := by
  unfold ringThen
  split
  · exact kept_ite (kept_postEngine q h'1) h'1
  · exact kept_ite (kept_postEngine q h'1) (kept_ite h'1 (kept_postEngine q (kept_sputb q h'1)))
  · exact kept_ite (kept_postEngine q h'1) h'1
  · exact kept_ite (kept_postEngine q (kept_ite (kept_rsetb q h'1) h'1)) (kept_ite (kept_rsetb q h'1) h'1)

theorem kept_ringNow {w0} : ringNow s w0 ∈ P := kept_ringThen q h (kept_ringPut q h)

theorem kept_ringSend {w0} : ringSend s w0 ∈ P := kept_ite (kept_mk q h) (kept_ringNow q h)

theorem kept_gated {l b off} {k : State → State} (hk : ∀ {t}, t ∈ P → k t ∈ P) : gated s l b off k ∈ P :=
  kept_ite (kept_reject q h) (kept_ite (kept_reject q h) (hk h))

/-! ### Machine/Recorder.lean -/

theorem kept_recStartFlush : recStartFlush s ∈ P := by
  unfold recStartFlush
  dsimp only
  split
  · exact kept_mk q h
  · exact kept_ite (kept_mk q h) (kept_mk q h)
  · exact kept_mk q h

theorem kept_recPut {code origin data} : recPut s code origin data ∈ P :=
  kept_ite (kept_recStartFlush q (kept_mk q h)) (kept_mk q h)

theorem kept_recGap {full holdup} : recGap s full holdup ∈ P := kept_recPut q (kept_mk q h)

theorem kept_recLose {code} : recLose s code ∈ P := kept_mk q h

theorem kept_recEnter {code origin data} : recEnter s code origin data ∈ P :=
  kept_ite (kept_ite (kept_scount q (kept_mk q (kept_recLose q h))) (kept_postEngine q (kept_scount q (kept_mk q (kept_recLose q
    h))))) (kept_recPut q h)

theorem kept_recSubmit {code origin data} : recSubmit s code origin data ∈ P := by
  unfold recSubmit
  refine kept_ite h ?_
  split
  · exact kept_recLose q h
  · exact kept_recEnter q (kept_ite (kept_recGap q h) h)

theorem kept_record {l b code data} : record s l b code data ∈ P := kept_recSubmit q h

theorem kept_recThaw {holdup} : recThaw s holdup ∈ P :=
  kept_ite (kept_recStartFlush q (kept_recGap q (kept_mk q h))) (kept_recGap q (kept_mk q h))

theorem kept_hardFault {b code} : hardFault s b code ∈ P := kept_ite h (kept_postEngineRaw q (kept_mk q (kept_record q h)))

theorem kept_recPwcmd {l c v} : recPwcmd s l c v ∈ P :=
  kept_gated q h (fun h => kept_ite (kept_reject q h) (kept_recSubmit q h))

theorem kept_recFlush {l} : recFlush s l ∈ P := kept_gated q h (fun h => kept_recStartFlush q h)

theorem kept_recFlushEnd : recFlushEnd s ∈ P := by
  unfold recFlushEnd
  extract_lets +onlyGivenNames r moved store oldest n pend s7 s8 s9 s10 s11
  have h1 : s7 ∈ P := kept_mk q h
  have h2 : s8 ∈ P := kept_rwrap q h1
  have h3 : s9 ∈ P := kept_sput q h2
  have h4 : s10 ∈ P := kept_postEngine q h3
  have h5 : s11 ∈ P := kept_ite (kept_recGap q h4) h4
  exact kept_ite (kept_recStartFlush q h5) h5

theorem kept_recFreeze {l} : recFreeze s l ∈ P := by
  unfold recFreeze
  refine kept_gated q h (fun h => ?_)
  split
  · exact kept_reject q h
  · exact kept_reject q h
  · exact kept_mk q h

theorem kept_recThawCmd {l} : recThawCmd s l ∈ P := kept_gated q h (fun h => kept_ite (kept_recThaw q h) (kept_reject q h))

theorem kept_recReadCmd {l} : recReadCmd s l ∈ P :=
  kept_gated q h (fun h => kept_ite (kept_reject q h) (kept_ite (kept_reject q h) (kept_mk q h)))

theorem kept_recCopy {r} : recCopy s r ∈ P := by
  unfold recCopy
  refine kept_foldl (fun _ _ h => ?_) h
  split
  · exact kept_dramWrite q h
  · exact kept_dramWrite q (kept_mk q h)

theorem kept_recHoldup {k : State → State} (hk : ∀ {t}, t ∈ P → k t ∈ P) : recHoldup s k ∈ P := by
  unfold recHoldup
  split
  · exact h
  · refine kept_recStartFlush q (hk ?_)
    split
    · have h1 : postEngine { s with recd := { s.recd with read := none } } .recd 1 (2 ^ 16) ∈ P := kept_postEngine q (kept_mk q h)
      exact kept_ite (kept_recGap q (kept_mk q h1)) h1
    · exact kept_ite (kept_recGap q (kept_mk q h)) h

/-! ### Machine/RegOps.lean -/

theorem kept_regStore {l b off v rej} : regStore s l b off v rej ∈ P := by
  unfold regStore
  split
  · exact kept_rset q h
  · exact h

theorem kept_regPlain {l b off v} : regPlain s l b off v ∈ P := kept_ite (kept_regStore q h) (kept_reject q (kept_regStore q h))

/-! ### Machine/Rings.lean -/

theorem kept_ringWrite {l b off k esz v} : ringWrite s l b off k esz v ∈ P :=
  kept_gated q h (fun h => kept_ite (kept_reject q h) (kept_ite (kept_reject q h) (kept_regPlain q h)))

/-! ### Machine/Fusion.lean -/

theorem kept_modFus {f : FusSt → FusSt} : State.modFus s f ∈ P := kept_mk q h

theorem kept_modFsrc {n} {f : FSrc → FSrc} : State.modFsrc s n f ∈ P := kept_modFus q h

theorem kept_fusState {st} : fusState s st ∈ P := kept_ite (kept_modFus q h) (kept_postEngine q (kept_modFus q h))

theorem kept_fusClear : fusClear s ∈ P := kept_modFus q h

theorem kept_srcState {n c} : srcState s n c ∈ P := kept_ite h (kept_postEngine q (kept_modFsrc q h))

theorem kept_bufPut {x} : bufPut s x ∈ P :=
  kept_ite h (kept_ite (kept_modFus q (kept_scount q h)) (kept_ite (kept_sputb q (kept_scount q h)) (kept_modFus q h)))

theorem kept_clockList {n a arr} : (clockList s n a arr).1 ∈ P := by
  unfold clockList
  extract_lets +onlyGivenNames x lat t d start s6 x7
  have h1 : s6 ∈ P := kept_ite (kept_modFsrc q (kept_srcState q h)) h
  split
  · exact kept_fst (kept_modFsrc q h1)
  · exact kept_fst (kept_ite (kept_srcState q (kept_modFsrc q h1)) (kept_ite (kept_srcState q (kept_modFsrc q h1)) (kept_modFsrc
      q h1)))

theorem kept_listComplete {n a arr} : listComplete s n a arr ∈ P := by
  unfold listComplete
  refine kept_bufPut q ?_
  refine kept_clockList q ?_
  refine kept_modFsrc q ?_
  split
  · exact kept_scount q h
  · exact h

theorem kept_fusUnit {n b arr} : fusUnit s n b arr ∈ P := by
  unfold fusUnit
  refine kept_ite h ?_
  dsimp only
  split
  · exact kept_rcount q h
  · exact kept_ite (kept_listComplete q (kept_ite (kept_rcount q h) h)) (kept_modFsrc q (kept_ite (kept_rcount q h) h))

theorem kept_fusDatagram {port b arr} : fusDatagram s port b arr ∈ P :=
  kept_foldl (fun _ _ h => kept_ite (kept_fusUnit q h) h) h

theorem kept_fusCanFrame {ch id b arr} : fusCanFrame s ch id b arr ∈ P := by
  unfold fusCanFrame
  refine kept_foldl (fun _ _ h => ?_) h
  refine kept_ite h ?_
  refine kept_ite (kept_ite (kept_modFsrc q h) (kept_fusUnit q (kept_modFsrc q h))) ?_
  refine kept_ite ?_ h
  split
  · exact kept_ite (kept_modFsrc q h) (kept_fusUnit q (kept_modFsrc q h))
  · exact h

theorem kept_startTrack {c o} : startTrack s c o ∈ P := by
  unfold startTrack
  refine kept_ite h ?_
  dsimp only
  split
  · exact kept_modFus q h
  · split
    · exact kept_ite (kept_postEngine q (kept_modFus q h)) (kept_postEngine q (kept_sputb q (kept_modFus q h)))
    · exact h

theorem kept_setCoast {b} : setCoast s b ∈ P := kept_ite h (kept_postEngine q (kept_modFus q h))

theorem kept_egoRefit {tv objs} : egoRefit s tv objs ∈ P := by
  unfold egoRefit
  dsimp only
  split
  · exact kept_setCoast q (kept_sput q (kept_modFus q (kept_modFus q h)))
  · exact kept_setCoast q (kept_modFus q (kept_modFus q h))

theorem kept_fusPromote : fusPromote s ∈ P := kept_ite (kept_fusState q h) h

theorem kept_processList {x} : processList s x ∈ P := by
  unfold processList
  extract_lets +onlyGivenNames n f m objs fov wt c hold ts asc os rows pairs objAt upd hits upd17 kept s19 free s21 s22 s23
  have h1 : s19 ∈ P := kept_modFus q h
  have h2 : s21 ∈ P := kept_foldl (fun _ _ h => kept_startTrack q h) h1
  have h3 : s22 ∈ P := kept_ite (kept_egoRefit q h2) h2
  have h4 : s23 ∈ P := kept_fusPromote q h3
  exact kept_ite (kept_modFus q h4) h4

theorem kept_fusOutput : fusOutput s ∈ P :=
  kept_sput q (kept_sput q (kept_sput q (kept_sput q (kept_sput q (kept_modFus q (kept_ringSend q h))))))

theorem kept_fusCmd {l v} : fusCmd s l v ∈ P := by
  unfold fusCmd
  refine kept_gated q h (fun h => ?_)
  extract_lets +onlyGivenNames st bad
  have h1 : bad ∈ P := kept_reject q h
  split
  · exact kept_ite h1 (kept_fusState q (kept_fusClear q h))
  · exact kept_ite h1 (kept_fusState q (kept_fusClear q h))
  · exact kept_ite h1 (kept_fusState q (kept_fusClear q h))
  · exact kept_ite (kept_modFus q h) h
  · exact kept_ite h1 (kept_fusUnit q (kept_dramMeet q h))
  · exact kept_reject q h

theorem kept_fusCtrl {l v} : fusCtrl s l v ∈ P :=
  kept_gated q h (fun h => kept_ite (kept_modFus q (kept_fusClear q (kept_sput q h))) (kept_ite (kept_modFus q (kept_fusState q
    (kept_sput q h))) (kept_sput q h)))

theorem kept_outCfg {l v} : outCfg s l v ∈ P := kept_gated q h (fun h => kept_modFus q (kept_regPlain q h))

theorem kept_srcCfg {l n v} : srcCfg s l n v ∈ P :=
  kept_gated q h (fun h => kept_ite (kept_reject q h) (kept_ite (kept_reject q h) (kept_ite (kept_srcState q (kept_modFsrc q
    (kept_sput q h))) (kept_sput q h))))

theorem kept_fusWarm : fusWarm s ∈ P := kept_ite (kept_fusState q h) h

theorem kept_fusRead {l off} : GivenWith P (fusRead s l off) := by
  unfold fusRead
  refine kept_iteW (kept_some₂ h) ?_
  refine kept_iteW (kept_some₂ h) ?_
  refine kept_iteW ?_ kept_none₂
  dsimp only
  split
  · exact kept_some₂ h
  · exact kept_some₂ (kept_rset q h)
  · exact kept_some₂ h
  · exact kept_none₂

theorem kept_fusWrite {l off v} : Given P (fusWrite s l off v) :=
  kept_iteG (kept_some (kept_fusCtrl q h)) (kept_iteG (kept_some (kept_fusCmd q h)) (kept_iteG (kept_some (kept_outCfg q h))
    (kept_iteG (kept_some (kept_ringWrite q h)) (kept_iteG (kept_some (kept_gated q h (fun h => kept_reject q h))) (kept_iteG
    (kept_iteG (kept_some (kept_srcCfg q h)) (kept_iteG (kept_some (kept_gated q h (fun h => kept_reject q h))) kept_none))
    kept_none)))))

/-! ### Machine/HoistBase.lean -/

theorem kept_modStr {l n} {f : HStream → HStream} : State.modStr s l n f ∈ P := kept_modLane q h (fun _ => by rfl)

theorem kept_modStrs {n} {f : HStream → HStream} : State.modStrs s n f ∈ P := kept_both h (fun _ _ h => kept_modStr q h)

theorem kept_modLvl {k} {f : HLevel → HLevel} : State.modLvl s k f ∈ P := kept_mk q h

theorem kept_hcount {off} : hcount s off ∈ P := kept_both h (fun _ _ h => kept_rcount q h)

theorem kept_hstOut {w0 b} : hstOut s w0 b ∈ P := kept_mk q h

theorem kept_hstUdp {unit b} : hstUdp s unit b ∈ P := kept_ite h (kept_hstOut q h)

theorem kept_strSend {n unit b} : strSend s n unit b ∈ P := by
  unfold strSend
  split
  · exact kept_hstUdp q h
  · exact kept_ite (kept_foldl (fun _ _ h => kept_hstOut q h) h) h
  · exact kept_ite (kept_hstOut q h) h

theorem kept_peerSend {ty m src j} : peerSend s ty m src j ∈ P := kept_hstUdp q h

theorem kept_hstGated {l off} {k : State → State} (hk : ∀ {t}, t ∈ P → k t ∈ P) : hstGated s l off k ∈ P :=
  kept_ite (hk h) (kept_reject q h)

theorem kept_postStream {n code data} : postStream s n code data ∈ P :=
  kept_both h (fun _ _ h => kept_ite (kept_postCore q h) h)

theorem kept_postHoist {code data} : postHoist s code data ∈ P := kept_both h (fun _ _ h => kept_ite (kept_postCore q h) h)

theorem kept_setRole {k r} : setRole s k r ∈ P := kept_ite h (kept_postHoist q (kept_record q (kept_modLvl q h)))

theorem kept_resyncTo {k m} : resyncTo s k m ∈ P :=
  kept_modLvl q (kept_peerSend q (kept_foldl (fun _ _ h => kept_peerSend q h) h))

theorem kept_keepStandby {k} : keepStandby s k ∈ P := by
  unfold keepStandby
  refine kept_ite h ?_
  split
  · exact kept_ite (kept_modLvl q h) (kept_ite h (kept_resyncTo q h))
  · exact kept_modLvl q h

theorem kept_reRole : reRole s ∈ P :=
  kept_foldl (fun _ _ h => kept_ite (kept_keepStandby q h) h) (kept_foldl (fun _ _ h => kept_ite (kept_setRole q h) h) h)

theorem kept_sendBeat {k resign} : sendBeat s k resign ∈ P := kept_hstUdp q (kept_modLvl q h)

theorem kept_beatNow : beatNow s ∈ P := kept_foldl (fun _ _ h => kept_ite (kept_sendBeat q h) h) h

theorem kept_dropHoist {k} : dropHoist s k ∈ P := kept_both h (fun _ _ h => kept_modLane q h (fun _ => by rfl))

theorem kept_strike {k e src} : strike s k e src ∈ P :=
  kept_record q (kept_reRole q (kept_setRole q (kept_modLvl q (kept_dropHoist q h))))

theorem kept_epochSeen {k e src} : epochSeen s k e src ∈ P := kept_ite h (kept_ite (kept_strike q h) (kept_modLvl q h))

/-! ### Machine/HalPos.lean -/

theorem kept_modHy {l n} {f : Hy → Hy} : State.modHy s l n f ∈ P := kept_modLane q h (fun _ => by rfl)

theorem kept_hyTick {l} : hyTick s l ∈ P := kept_foldl (fun _ _ h => kept_ite (kept_modHy q h) h) h

theorem kept_disarm {l} {f : Snap → Bool} : disarm s l f ∈ P :=
  kept_ite (kept_modLane q h (fun _ => by rfl)) (kept_rsetb q (kept_rcount q (kept_modLane q h (fun _ => by rfl))))

theorem kept_disarmHy {l n} : disarmHy s l n ∈ P := by
  unfold disarmHy
  exact kept_modLane q (kept_disarm q h) (fun _ => by rfl)

theorem kept_endWaitsOn {l n} : endWaitsOn s l n ∈ P := kept_foldl (fun _ _ h => kept_modCore q h) h

theorem kept_lostSync {l n flag} : lostSync s l n flag ∈ P := by
  unfold lostSync
  refine kept_foldl (fun _ _ h => ?_) h
  refine kept_endWaitsOn q ?_
  refine kept_disarmHy q ?_
  split
  · exact kept_rsetb q h
  · exact h

theorem kept_loseSync {l n flag} : loseSync s l n flag ∈ P := kept_lostSync q (kept_modHy q h)

/-! ### Machine/Hsi.lean -/

theorem kept_inSettle {i} : inSettle s i ∈ P := kept_mk q (kept_ite (kept_sputb q h) h)

theorem kept_inFreeze {i} : inFreeze s i ∈ P := kept_mk q (kept_inSettle q h)

theorem kept_fnGen {slots kind code ctx mask} : fnGen s slots kind code ctx mask ∈ P :=
  kept_record q (kept_postEngine q (kept_foldl (fun _ _ h => kept_sput q h) (kept_sput q h)))

theorem kept_fnArrive {n} : fnArrive s n ∈ P := kept_sputb q h

theorem kept_fnSetTarget {n x} : fnSetTarget s n x ∈ P :=
  kept_ite (kept_ite (kept_sput q h) (kept_sputb q (kept_sput q h))) (kept_sputb q (kept_ite (kept_sput q h) (kept_sputb q
    (kept_sput q h))))

theorem kept_fnChange {n} {f : State → State} (hf : ∀ {t}, t ∈ P → f t ∈ P) : fnChange s n f ∈ P :=
  kept_ite (hf h) (kept_fnGen q (hf h))

theorem kept_fnWrite {l n off v} : fnWrite s l n off v ∈ P := by
  unfold fnWrite
  refine kept_gated q h (fun h => ?_)
  extract_lets +onlyGivenNames rej own
  refine kept_ite h ?_
  refine kept_ite ?_ ?_
  · refine kept_ite (kept_reject q h) ?_
    extract_lets +onlyGivenNames cp held s3
    have h1 : s3 ∈ P := kept_fnChange q h (fun h1 => kept_ite (kept_sputf q h1) (kept_sputf q (kept_sputf q h1)))
    exact kept_ite (kept_reject q h1) h1
  · refine kept_ite (kept_regPlain q h) ?_
    refine kept_ite (kept_reject q h) ?_
    split
    · exact kept_ite (kept_reject q h) (kept_fnChange q h (fun h1 => kept_fnSetTarget q h1))
    · exact kept_ite (kept_reject q h) (kept_fnChange q h (fun h1 => kept_fnSetTarget q h1))
    · exact kept_ite (kept_reject q h) (kept_fnChange q h (fun h1 => kept_fnSetTarget q (kept_sput q h1)))
    · exact kept_fnChange q h (fun h1 => kept_sput q h1)
    · exact kept_fnChange q h (fun h1 => kept_sput q h1)
    · exact kept_fnChange q h (fun h1 => kept_sput q h1)
    · exact h

theorem kept_fnLoad {l p} : fnLoad s l p ∈ P :=
  kept_ite (kept_reject q h) (kept_fnGen q (kept_foldl (fun _ _ h => kept_ite (kept_sputb q h) (kept_fnSetTarget q (kept_sputf q
    (kept_sputf q (kept_sput q (kept_sput q h)))))) h))

theorem kept_hsiCmd {l v} : hsiCmd s l v ∈ P := kept_gated q h (fun h => kept_ite (kept_fnLoad q h) (kept_reject q h))

theorem kept_fnStep {n} : fnStep s n ∈ P := kept_fnArrive q (kept_sput q h)

theorem kept_boundReport {l c} : boundReport s l c ∈ P := by
  unfold boundReport
  refine kept_ite h ?_
  split
  · exact h
  · exact kept_fnGen q h

theorem kept_hsiRead {off} : GivenWith P (hsiRead s off) := by
  unfold hsiRead
  refine kept_iteW (kept_some₂ h) ?_
  refine kept_iteW ?_ kept_none₂
  dsimp only
  split
  · exact kept_some₂ h
  · exact kept_some₂ h
  · exact kept_some₂ (kept_inSettle q h)
  · exact kept_none₂

/-! ### Machine/Pcl.lean -/

theorem kept_modPcl {f : PclSt → PclSt} : State.modPcl s f ∈ P := kept_mk q h

theorem kept_modParcel {c} {f : Parcel → Parcel} : State.modParcel s c f ∈ P := kept_modPcl q h

theorem kept_parcelFinish {c} : parcelFinish s c ∈ P := by
  unfold parcelFinish
  exact kept_modPcl q (kept_ringSend q h)

theorem kept_parcelClose {c grace} : parcelClose s c grace ∈ P := kept_modParcel q h

theorem kept_parcelEnd {c flag} : parcelEnd s c flag ∈ P :=
  kept_ite (kept_parcelFinish q (kept_modParcel q (kept_parcelClose q h))) (kept_modParcel q (kept_modParcel q (kept_parcelClose
    q h)))

theorem kept_pclFlushAll : pclFlushAll s ∈ P := kept_ite h (kept_foldl (fun _ _ h => kept_parcelEnd q h) h)

theorem kept_pclHalt : pclHalt s ∈ P := kept_modPcl q (kept_pclFlushAll q h)

theorem kept_pclLaneEvt : pclLaneEvt s ∈ P := kept_modPcl q h

theorem kept_pclEvict : pclEvict s ∈ P := by
  unfold pclEvict
  split
  · exact kept_postEngine q (kept_sputb q (kept_scount q (kept_parcelFinish q (kept_modParcel q (kept_parcelClose q h)))))
  · exact h

theorem kept_pclCreate {a e d} : pclCreate s a e d ∈ P := by
  unfold pclCreate
  split
  · exact kept_modPcl q h
  · refine kept_ite (kept_scount q h) ?_
    dsimp only
    split
    · exact kept_pclEvict q (kept_modPcl q h)
    · exact kept_modPcl q (kept_sput q (kept_pclEvict q (kept_modPcl q h)))

theorem kept_pclStep {a x} : pclStep s a x ∈ P := by
  unfold pclStep
  extract_lets +onlyGivenNames k s2
  have h1 : s2 ∈ P := kept_ite h (kept_sputb q h)
  exact kept_foldl (fun _ _ h => kept_ite (kept_ite (kept_modParcel q h) h) (kept_ite (kept_parcelClose q (kept_modParcel q
    (kept_ite (kept_modParcel q h) h))) (kept_modParcel q (kept_ite (kept_modParcel q h) h)))) h1

theorem kept_pclAttribute {m} : pclAttribute s m ∈ P := by
  unfold pclAttribute
  split
  · exact kept_ite (kept_scount q h) (kept_foldl (fun _ _ h => kept_ite h (kept_modParcel q h)) h)
  · exact kept_scount q h

theorem kept_measDrop {k stage} : measDrop s k stage ∈ P := kept_postEngine q (kept_modPcl q (kept_sputb q (kept_scount q h)))

theorem kept_measSubmit {m} : measSubmit s m ∈ P := kept_ite h (kept_ite (kept_measDrop q h) (kept_modPcl q h))

theorem kept_pclAct {a} : pclAct s a ∈ P := by
  unfold pclAct
  refine kept_ite (kept_ite h (kept_scount q h)) ?_
  split
  · exact kept_scount q h
  · refine kept_ite (kept_ite (kept_pclStep q h) (kept_scount q h)) ?_
    split
    · exact kept_scount q h
    · exact kept_pclCreate q h

theorem kept_pclHandle {n} : pclHandle s n ∈ P := by
  induction n generalizing s with
  | zero => exact h
  | succ n ih =>
    unfold pclHandle
    split
    · exact kept_ite (ih (kept_pclAct q (kept_modPcl q h))) h
    · exact h

theorem kept_pclPump : pclPump s ∈ P := kept_ite h (kept_pclHandle q h)

theorem kept_pclAction {l arg tick} : pclAction s l arg tick ∈ P := kept_ite h (kept_pclPump q (kept_modPcl q h))

theorem kept_lossMeasure {g opened dur count grain} : lossMeasure s g opened dur count grain ∈ P :=
  kept_ite h (kept_measSubmit q h)

theorem kept_snapMeasure {g tick vals flts} : snapMeasure s g tick vals flts ∈ P := by
  unfold snapMeasure
  extract_lets +onlyGivenNames cfg prev s1
  have h1 : s1 ∈ P := kept_ite (kept_modPcl q h) h
  clear_value prev
  refine kept_ite h1 ?_
  cases prev with
  | none => exact h1
  | some t0 =>
    dsimp only
    have h2 {c : Prop} [Decidable c] {k m} : (if c then measDrop s1 .mass k else measSubmit s1 m) ∈ P :=
      kept_ite (kept_measDrop q h1) (kept_measSubmit q h1)
    exact kept_ite h2 (kept_ite (kept_measDrop q h2) (kept_ite h2 (kept_measSubmit q h2)))

theorem kept_qualSubmit {l v} : qualSubmit s l v ∈ P :=
  kept_gated q h (fun h => kept_ite (kept_reject q h) (kept_measSubmit q h))

theorem kept_fixCommit {l v} : fixCommit s l v ∈ P := kept_gated q h (fun h => kept_modPcl q h)

theorem kept_pclCtrl {l v} : pclCtrl s l v ∈ P := by
  unfold pclCtrl
  refine kept_gated q h (fun h => ?_)
  extract_lets +onlyGivenNames was on en chain rej
  exact kept_ite (kept_reject q h) (kept_ite (kept_modPcl q (kept_sput q (kept_ite (kept_pclHalt q (kept_sputf q h)) (kept_sputf
    q h)))) (kept_sput q (kept_ite (kept_pclHalt q (kept_sputf q h)) (kept_sputf q h))))

theorem kept_yreadCmd {l} : yreadCmd s l ∈ P := kept_ite (kept_reject q h) (kept_ite (kept_reject q h) (kept_modPcl q h))

theorem kept_yreadGate {l off} {k : State → State} (hk : ∀ {t}, t ∈ P → k t ∈ P) : yreadGate s l off k ∈ P :=
  kept_ite (kept_reject q h) (hk h)

theorem kept_pclCmd {l v} : pclCmd s l v ∈ P :=
  kept_ite (kept_yreadGate q h (fun h => kept_yreadCmd q h)) (kept_gated q h (fun h => kept_ite (kept_pclFlushAll q h)
    (kept_reject q h)))

theorem kept_yrdWrite {l off v} : yrdWrite s l off v ∈ P :=
  kept_yreadGate q h (fun h => kept_ite (kept_reject q h) (kept_regPlain q h))

theorem kept_pclRead {l off} : GivenWith P (pclRead s l off) := by
  unfold pclRead
  refine kept_iteW (kept_some₂ h) ?_
  refine kept_iteW (kept_some₂ h) ?_
  refine kept_iteW (kept_some₂ (kept_rset q h)) ?_
  refine kept_iteW (kept_some₂ (kept_rset q h)) ?_
  refine kept_iteW ?_ ?_
  · dsimp only
    split
    · exact kept_some₂ (kept_rset q h)
    · exact kept_some₂ h
    · exact kept_none₂
  · refine kept_iteW ?_ kept_none₂
    dsimp only
    split
    · exact kept_some₂ h
    · exact kept_some₂ h

theorem kept_pclWrite {l off v} : Given P (pclWrite s l off v) := by
  unfold pclWrite
  split
  · exact kept_some (kept_pclCtrl q h)
  · exact kept_some (kept_pclCmd q h)
  · exact kept_some (kept_fixCommit q h)
  · exact kept_some (kept_qualSubmit q h)
  · exact kept_some (kept_yrdWrite q h)
  · exact kept_some (kept_yrdWrite q h)
  · exact kept_some (kept_yrdWrite q h)
  · exact kept_some (kept_yrdWrite q h)
  · exact kept_iteG (kept_some (kept_ringWrite q h)) (kept_iteG (kept_some (kept_gated q h (fun h => kept_reject q h))) kept_none)

/-! ### Machine/JobStream.lean -/

theorem kept_strReply {n ty seq flags reason} : strReply s n ty seq flags reason ∈ P := kept_strSend q h

theorem kept_strCopy {n seq b} : strCopy s n seq b ∈ P := by
  unfold strCopy
  split
  · exact h
  · split
    · exact kept_peerSend q h
    · exact kept_modLvl q h
    · exact h

theorem kept_jobCounted {n} : jobCounted s n ∈ P := by
  unfold jobCounted
  dsimp only
  split
  · exact kept_modLvl q (kept_rwrap q h)
  · exact kept_rwrap q h

theorem kept_HEff_run {n x} : HEff.run n s x ∈ P := by
  unfold HEff.run
  split
  · exact kept_postStream q h
  · exact kept_hcount q h
  · exact kept_jobCounted q h
  · exact kept_strReply q h
  · exact kept_strSend q h
  · exact kept_strCopy q h

theorem kept_onStream {n} {f : HStream → HStream × List HEff} : onStream s n f ∈ P :=
  kept_foldl (fun _ _ h => kept_HEff_run q h) (kept_modStrs q h)

theorem kept_sessionOk {j send} : (sessionOk s j send).1 ∈ P := by
  unfold sessionOk
  split
  · exact kept_fst h
  · split
    · exact kept_fst (kept_hcount q h)
    · exact kept_fst h

theorem kept_jobMsg {j} : jobMsg s j ∈ P := by
  unfold jobMsg
  extract_lets +onlyGivenNames n
  refine kept_ite h ?_
  extract_lets +onlyGivenNames r s2
  have h1 : r.1 ∈ P := kept_sessionOk q h
  have h2 : s2 ∈ P := h1
  refine kept_ite h2 ?_
  split
  · exact kept_ite h2 (kept_onStream q h2)
  · split
    · exact kept_onStream q h2
    · exact kept_onStream q h2
    · exact h2

theorem kept_jrepMsg {j} : jrepMsg s j ∈ P := by
  unfold jrepMsg
  extract_lets +onlyGivenNames n
  split
  · exact h
  · exact kept_ite (kept_hcount q h) (kept_ite (kept_epochSeen q h) (kept_ite h (kept_ite (kept_modStrs q h) (kept_ite
      (kept_hcount q h) (kept_peerSend q (kept_modLvl q (kept_modStrs q h)))))))

theorem kept_jrepackMsg {j} : jrepackMsg s j ∈ P := by
  unfold jrepackMsg
  dsimp only
  split
  · exact h
  · exact kept_ite (kept_hcount q h) (kept_ite h (kept_onStream q h))

theorem kept_ackMsg {j} : ackMsg s j ∈ P := by
  unfold ackMsg
  extract_lets +onlyGivenNames n r s3
  have h1 : r.1 ∈ P := kept_sessionOk q h
  have h2 : s3 ∈ P := h1
  refine kept_ite h2 ?_
  refine kept_ite (kept_hcount q h2) ?_
  refine kept_modPcl q ?_
  refine kept_onStream q ?_
  split
  · exact kept_epochSeen q h2
  · exact h2

theorem kept_gapMsg {j} : gapMsg s j ∈ P := kept_ite (kept_sessionOk q h) (kept_onStream q (kept_sessionOk q h))

theorem kept_stateMsg {j} : stateMsg s j ∈ P := kept_ite (kept_sessionOk q h) (kept_onStream q (kept_sessionOk q h))

theorem kept_completeMsg {j} : completeMsg s j ∈ P := kept_ite (kept_sessionOk q h) (kept_postStream q (kept_sessionOk q h))

theorem kept_hstMsg {ty b} {k : State → Job → State} (hk : ∀ {t x1}, t ∈ P → k t x1 ∈ P) : hstMsg s ty b k ∈ P :=
  kept_ite h (kept_ite (kept_hcount q h) (kept_ite h (kept_atOnce q h (fun h => hk h))))

theorem kept_txNew {n x j} : txNew s n x j ∈ P := kept_ite (kept_HEff_run q h) h

theorem kept_strCmd {l op n} : strCmd s l op n ∈ P := by
  unfold strCmd
  extract_lets +onlyGivenNames x no send
  have h1 : no ∈ P := kept_reject q h
  split
  · exact kept_ite h1 (kept_modStrs q h)
  · exact kept_ite h1 (kept_modStrs q h)
  · exact kept_ite h1 (kept_modStrs q h)
  · split
    · exact kept_onStream q h
    · exact kept_onStream q h
    · exact h1

/-! ### Machine/Hoist.lean -/

theorem kept_listenLevel {k} : listenLevel s k ∈ P := kept_modLvl q h

theorem kept_hstListen : hstListen s ∈ P := kept_foldl (fun _ _ h => kept_ite (kept_listenLevel q h) h) h

theorem kept_looseJobs {k} : looseJobs s k ∈ P := kept_ite h (kept_foldl (fun _ _ h => kept_onStream q h) h)

theorem kept_regroup : regroup s ∈ P := kept_foldl (fun _ _ h => kept_ite (kept_looseJobs q h) h) (kept_reRole q h)

theorem kept_takeCopies {k} : takeCopies s k ∈ P := kept_foldl (fun _ _ h => kept_onStream q h) h

theorem kept_becomeEnsign {k} : becomeEnsign s k ∈ P := kept_takeCopies q (kept_sendBeat q (kept_setRole q (kept_modLvl q h)))

theorem kept_takeAbove {k f} : takeAbove s k f ∈ P := by
  induction f generalizing s k with
  | zero => exact h
  | succ f ih =>
    unfold takeAbove
    exact kept_ite (ih (kept_becomeEnsign q h)) h

theorem kept_hoistTakeover {k since} : hoistTakeover s k since ∈ P :=
  kept_regroup q (kept_takeAbove q (kept_becomeEnsign q (kept_sput q (kept_rwrap q h))))

theorem kept_memberGone {k r since} : memberGone s k r since ∈ P := by
  unfold memberGone
  extract_lets +onlyGivenNames was ens s3 s4
  have h1 : s3 ∈ P := kept_modLvl q h
  have h2 : s4 ∈ P := kept_postHoist q h1
  exact kept_ite (kept_hoistTakeover q h2) (kept_regroup q (kept_ite (kept_modLvl q h2) h2))

theorem kept_stbyHeard {m syncing j} : stbyHeard s m syncing j ∈ P :=
  kept_ite h (kept_ite (kept_modLvl q h) (kept_ite h (kept_ite (kept_resyncTo q h) (kept_modLvl q h))))

theorem kept_stepHeard {k m syncing} : stepHeard s k m syncing ∈ P :=
  kept_ite (kept_resyncTo q (kept_foldl (fun _ _ h => kept_stbyHeard q h) h)) (kept_foldl (fun _ _ h => kept_stbyHeard q h) h)

theorem kept_heartbeat {k b} : heartbeat s k b ∈ P := by
  unfold heartbeat
  extract_lets +onlyGivenNames r e st isEns resign new s7 s8 x
  have h1 : s7 ∈ P := kept_modLvl q h
  have h2 : s8 ∈ P := kept_ite (kept_postHoist q h1) h1
  refine kept_ite (kept_modLvl q h2) ?_
  extract_lets +onlyGivenNames s1 s2
  have h3 : s1 ∈ P := kept_ite (kept_strike q h2) (kept_epochSeen q h2)
  have h4 : s2 ∈ P := kept_stepHeard q h3
  exact kept_ite (kept_ite (kept_hoistTakeover q (kept_modLvl q h4)) (kept_regroup q h4)) (kept_ite (kept_regroup q (kept_modLvl
    q h4)) (kept_regroup q h4))

theorem kept_hstHeartbeat {b} : hstHeartbeat s b ∈ P := by
  unfold hstHeartbeat
  refine kept_ite h ?_
  refine kept_ite (kept_hcount q h) ?_
  split
  · exact h
  · exact kept_ite h (kept_atOnce q h (fun h => kept_heartbeat q h))

theorem kept_hstResign : hstResign s ∈ P := by
  unfold hstResign
  extract_lets +onlyGivenNames led s1 s2
  have h1 : s1 ∈ P := kept_foldl (fun _ _ h => kept_ite (kept_sendBeat q h) h) h
  have h2 : s2 ∈ P := kept_foldl (fun _ _ h => kept_ite (kept_dropHoist q (kept_setRole q (kept_modLvl q h))) h) h1
  exact kept_reRole q h2

theorem kept_hstCmd {l v} : hstCmd s l v ∈ P :=
  kept_hstGated q h (fun h => kept_atOnce q h (fun h1 => kept_ite (kept_strCmd q h1) (kept_ite (kept_ite (kept_hstResign q h1)
    (kept_reject q h1)) (kept_reject q h1))))

theorem kept_formLevel {k} : formLevel s k ∈ P := by
  unfold formLevel
  dsimp only
  split
  · exact kept_modLvl q h
  · exact kept_modLvl q h

theorem kept_jsyncMsg {j} : jsyncMsg s j ∈ P := by
  unfold jsyncMsg
  split
  · exact h
  · exact kept_reRole q (kept_modLvl q h)

theorem kept_applyRec {b} : applyRec s b ∈ P :=
  kept_ite (kept_modStrs q h) (kept_modStrs q (kept_sput q (kept_sput q (kept_sput q h))))

theorem kept_jsyncEndMsg {j} : jsyncEndMsg s j ∈ P := by
  unfold jsyncEndMsg
  split
  · exact h
  · extract_lets +onlyGivenNames rs
    refine kept_ite (kept_modLvl q h) ?_
    extract_lets +onlyGivenNames s1 s2 s3 s4 e s6
    have h1 : s1 ∈ P := kept_foldl (fun _ _ h => kept_modStrs q h) h
    have h2 : s2 ∈ P := kept_foldl (fun _ _ h => kept_applyRec q h) h1
    have h3 : s3 ∈ P := kept_foldl (fun _ _ h => kept_applyRec q h) h2
    have h4 : s4 ∈ P := kept_modLvl q h3
    have h5 : s6 ∈ P := kept_reRole q (kept_postHoist q h4)
    exact kept_record q h5

theorem kept_hstAny {b} {way : ℕ → Bool} : hstAny s way b ∈ P := by
  unfold hstAny
  refine kept_ite h ?_
  split
  · exact kept_hstMsg q h (fun h => kept_ackMsg q h)
  · exact kept_hstMsg q h (fun h => kept_gapMsg q h)
  · exact kept_hstMsg q h (fun h => kept_stateMsg q h)
  · exact kept_hstMsg q h (fun h => kept_completeMsg q h)
  · exact kept_hstMsg q h (fun h => kept_jrepMsg q h)
  · exact kept_hstMsg q h (fun h => kept_jrepackMsg q h)
  · exact kept_hstMsg q h (fun h => kept_jsyncMsg q h)
  · exact kept_hstMsg q h (fun h => kept_jsyncEndMsg q h)
  · exact kept_hstMsg q h (fun h => kept_jobMsg q h)

theorem kept_hstSegment {ch id b} : hstSegment s ch id b ∈ P := by
  unfold hstSegment
  split
  · exact h
  · extract_lets +onlyGivenNames key i c part bad s1 base
    have hb {t : State} (h : t ∈ P) : bad t ∈ P := kept_both (kept_mk q h) fun _ _ h => kept_rcount q h
    have h1 : s1 ∈ P := kept_ite (hb h) h
    clear_value base
    cases base with
    | none => exact hb h1
    | some bs => exact kept_ite (hb h1) (kept_ite (kept_mk q h1) (kept_hstAny q (kept_mk q h1)))

theorem kept_hstLevelCfg {l k v} : hstLevelCfg s l k v ∈ P := by
  unfold hstLevelCfg
  extract_lets +onlyGivenNames off was below bad
  exact kept_ite (kept_reject q h) (kept_ite (kept_reject q h) (kept_ite (kept_listenLevel q (kept_regPlain q h)) (kept_ite
    (kept_modLvl q (kept_regPlain q h)) (kept_regroup q (kept_regPlain q h)))))

theorem kept_hstRead {l off} : GivenWith P (hstRead s l off) := by
  unfold hstRead
  refine kept_iteW (kept_some₂ h) ?_
  refine kept_iteW (kept_some₂ h) ?_
  refine kept_iteW ?_ ?_
  · dsimp only
    split
    · exact kept_some₂ h
    · exact kept_some₂ h
    · exact kept_some₂ h
    · exact kept_some₂ h
    · exact kept_none₂
  · refine kept_iteW ?_ kept_none₂
    dsimp only
    split
    · exact kept_some₂ h
    · exact kept_some₂ h
    · exact kept_some₂ h
    · exact kept_none₂

theorem kept_hstWrite {l off v} : Given P (hstWrite s l off v) :=
  kept_iteG kept_none (kept_iteG (kept_some (kept_hstCmd q h)) (kept_some (kept_hstGated q h (fun h => kept_ite (kept_hstLevelCfg
    q h) (kept_ite (kept_reject q h) (kept_ite (kept_reject q h) (kept_ite (kept_ite (kept_reject q h) (kept_reject q h))
    (kept_regPlain q h))))))))

/-! ### Machine/TimUnit.lean -/

theorem kept_modTim {f : Tim → Tim} : State.modTim s f ∈ P := kept_mk q h

theorem kept_modTrk {i} {f : Tracker → Tracker} : State.modTrk s i f ∈ P := kept_modTim q h

theorem kept_timAdvance : timAdvance s ∈ P := kept_foldl (fun _ _ h => kept_ite (kept_modTrk q h) h) (kept_mk q h)

theorem kept_dropActive : dropActive s ∈ P := by
  unfold dropActive
  split
  · exact kept_modTrk q h
  · exact h

theorem kept_timState {c auto} : timState s c auto ∈ P :=
  kept_ite h (kept_ite (kept_modTim q h) (kept_postEngine q (kept_modTim q h)))

theorem kept_timSwitch {j auto} : (timSwitch s j auto).1 ∈ P := by
  unfold timSwitch
  extract_lets +onlyGivenNames s1 d take
  have h1 : s1 ∈ P := kept_dropActive q h
  split
  · exact kept_fst (kept_timState q (kept_rwrap q (kept_rsetb q (kept_modTim q (kept_postEngine q (kept_rwrap q (kept_rsetb q
      (kept_modTim q h1))))))))
  · split
    · exact kept_fst (kept_postEngine q h1)
    · exact kept_fst (kept_timState q (kept_rwrap q (kept_rsetb q (kept_modTim q (kept_modTim q h1)))))

theorem kept_timHold {auto} : timHold s auto ∈ P := kept_timState q (kept_dropActive q h)

theorem kept_timAutoNow : timAutoNow s ∈ P := by
  unfold timAutoNow
  extract_lets +onlyGivenNames ok auto
  split
  · exact kept_ite h (kept_ite (kept_ite (kept_timSwitch q h) (kept_timHold q (kept_timSwitch q h))) (kept_timHold q h))
  · exact kept_ite h (kept_ite (kept_timSwitch q h) (kept_ite (kept_timSwitch q h) h))

theorem kept_timAuto : timAuto s ∈ P := kept_ite (kept_modTim q h) (kept_timAutoNow q h)

theorem kept_timTick : timTick s ∈ P := by
  unfold timTick
  extract_lets +onlyGivenNames t t2
  have h1 : t ∈ P := kept_timAdvance q h
  have h2 : t2 ∈ P := kept_ite (kept_modTim q h1) h1
  exact kept_ite (kept_timAutoNow q (kept_modTim q h2)) h2

theorem kept_setValid {i v} : setValid s i v ∈ P := kept_ite h (kept_postEngine q (kept_modTrk q h))

theorem kept_trkMeasure {i m age} : trkMeasure s i m age ∈ P := by
  unfold trkMeasure
  refine kept_ite h ?_
  extract_lets +onlyGivenNames s1
  have h1 : s1 ∈ P := kept_modTrk q h
  refine kept_ite (kept_modTrk q h1) ?_
  extract_lets +onlyGivenNames e mx integ y a s6 s7 thr s9
  have h2 : s6 ∈ P := kept_modTrk q h1
  have h3 : s7 ∈ P := kept_ite (kept_modTim q h2) h2
  have h4 : s9 ∈ P := kept_modTrk q h3
  exact kept_ite (kept_setValid q h4) (kept_ite (kept_setValid q h4) h4)

theorem kept_trkExpire : trkExpire s ∈ P := kept_timAuto q (kept_foldl (fun _ _ h => kept_ite (kept_setValid q h) h) h)

theorem kept_timRevert : timRevert s ∈ P := kept_ite (kept_timSwitch q h) h

theorem kept_timSwitchCmd {l j} : timSwitchCmd s l j ∈ P :=
  kept_ite (kept_modTim q h) (kept_ite (kept_reject q h) (kept_ite (kept_modTim q (kept_timSwitch q h)) (kept_reject q
    (kept_timSwitch q h))))

theorem kept_timCmd {l v} : timCmd s l v ∈ P := by
  unfold timCmd
  refine kept_gated q h (fun h => ?_)
  split
  · exact kept_timSwitchCmd q h
  · exact kept_ite (kept_reject q h) (kept_timState q (kept_modTim q (kept_dropActive q h)))
  · exact kept_reject q h

theorem kept_timAhead : timAhead s ∈ P := by
  unfold timAhead
  refine kept_foldl (fun _ _ h => ?_) h
  split
  · exact kept_ite (kept_modTim q (kept_timSwitchCmd q h)) h
  · exact kept_ite (kept_trkExpire q h) h
  · exact kept_timRevert q h
  · exact h

theorem kept_timCommit {l i v} : timCommit s l i v ∈ P := by
  unfold timCommit
  refine kept_gated q h fun h => ?_
  split
  · exact kept_reject q h
  · extract_lets age
    split
    · exact kept_reject q h
    · exact kept_timAuto q (kept_trkMeasure q (kept_timAhead q h))

theorem kept_timFreeze : timFreeze s ∈ P := kept_timState q (kept_dropActive q h)

theorem kept_timWake : timWake s ∈ P := kept_ite h (kept_trkExpire q h)

theorem kept_timCold : timCold s ∈ P := kept_mk q h

theorem kept_timNow {l} : (timNow s l).2 ∈ P := by
  unfold timNow
  extract_lets c sec vs
  clear_value vs
  exact kept_foldl (fun _ _ h => kept_rset q h) h

theorem kept_timRead {l off} : GivenWith P (timRead s l off) := by
  unfold timRead
  refine kept_iteW (kept_some₂ h) ?_
  refine kept_iteW (kept_someOf (kept_timNow q h)) ?_
  refine kept_iteW (kept_some₂ h) ?_
  refine kept_iteW (kept_some₂ h) ?_
  refine kept_iteW (kept_some₂ h) ?_
  refine kept_iteW ?_ kept_none₂
  dsimp only
  split
  · exact kept_some₂ h
  · exact kept_some₂ h
  · exact kept_some₂ h
  · exact kept_some₂ h
  · exact kept_none₂

theorem kept_dtCfg {l i v} : dtCfg s l i v ∈ P :=
  kept_ite (kept_modTrk q (kept_regPlain q h)) (kept_ite (kept_timAuto q (kept_setValid q (kept_regPlain q h))) (kept_regPlain q
    h))

theorem kept_timWrite {l off v} : Given P (timWrite s l off v) := by
  unfold timWrite
  refine kept_iteG (kept_some (kept_timCmd q h)) ?_
  refine kept_iteG (kept_some (kept_gated q h (fun h => kept_timAuto q (kept_regPlain q h)))) ?_
  refine kept_iteG ?_ kept_none
  extract_lets +onlyGivenNames i
  split
  · exact kept_some (kept_gated q h (fun h => kept_dtCfg q h))
  · exact kept_some (kept_gated q h (fun h => kept_ite (kept_reject q h) (kept_modTrk q h)))
  · exact kept_some (kept_timCommit q h)
  · exact kept_some (kept_gated q h (fun h => kept_modTrk q h))
  · exact kept_none

/-! ### Machine/CanBus.lean -/

theorem kept_modCan {n} {f : CanCh → CanCh} : State.modCan s n f ∈ P := kept_mk q h

theorem kept_canPut {n} {mk : Bool → List Byte} : (canPut s n mk).1 ∈ P := kept_fst (kept_ringSend q h)

theorem kept_canPlaced {ent addr} : canPlaced s ent addr ∈ P := kept_mk q h

theorem kept_pairWaiting {ent} {f : Bool → List Byte → List Byte} : pairWaiting s ent f ∈ P := kept_mk q h

theorem kept_canLog {n lc htb id info b} : canLog s n lc htb id info b ∈ P := kept_canPut q h

theorem kept_canSetMode {n m} : canSetMode s n m ∈ P :=
  kept_ite (kept_modCan q h) (kept_postEngine q (kept_canLog q (kept_modCan q h)))

theorem kept_canLock {n} : canLock s n ∈ P :=
  kept_canSetMode q (kept_postEngine q (kept_modCan q (kept_sput q (kept_sput q h))))

theorem kept_canPair {m n key} {mk : Bool → List Byte} : canPair s m n key mk ∈ P := by
  unfold canPair
  extract_lets +onlyGivenNames win live
  split
  · dsimp only
    split
    · exact kept_pairWaiting q (kept_rcount q (kept_modCan q h))
    · exact kept_dramWrite q (kept_ite (kept_dramWrite q (kept_rcount q (kept_modCan q h))) (kept_rcount q (kept_modCan q h)))
  · exact kept_modCan q (kept_ite (kept_rcount q (kept_canPut q h)) (kept_canPut q h))

theorem kept_canRx {n id fdf brs esi len b age} : canRx s n id fdf brs esi len b age ∈ P := by
  unfold canRx
  extract_lets +onlyGivenNames t auto upper lower info mk s7 s8
  have h1 : s7 ∈ P := by
    unfold s7
    split
    · exact kept_canPair q h
    · exact kept_canPut q h
  have h2 : s8 ∈ P := kept_ite h1 (kept_modCan q h1)
  exact kept_ite h2 (kept_ite (kept_canLock q (kept_modCan q h2)) (kept_modCan q h2))

theorem kept_txFinish {n b r} : txFinish s n b r ∈ P := kept_ite (kept_postEngine q (kept_sput q h)) (kept_sput q h)

theorem kept_canAttemptEnd {n err} : canAttemptEnd s n err ∈ P := by
  unfold canAttemptEnd
  split
  · exact h
  · extract_lets +onlyGivenNames s1
    have h1 : s1 ∈ P := kept_modCan q h
    split
    · exact kept_ite (kept_modCan q h1) h1
    · exact kept_ite (kept_txFinish q h1) (kept_ite (kept_txFinish q h1) (kept_sput q h1))

theorem kept_canSent {n} : canSent s n ∈ P := by
  unfold canSent
  split
  · exact h
  · extract_lets +onlyGivenNames esi s2
    have h1 : s2 ∈ P := kept_modCan q h
    split
    · exact kept_modCan q (kept_sput q (kept_sput q (kept_ite (kept_canLog q h1) h1)))
    · exact kept_txFinish q (kept_sput q (kept_ite (kept_canLog q h1) h1))

theorem kept_canFault : canFault s ∈ P := kept_mk q h

theorem kept_canModeCmd {l n m} : canModeCmd s l n m ∈ P :=
  kept_ite (kept_reject q h) (kept_ite (kept_reject q h) (kept_modCan q h))

theorem kept_txReq {l n b} : txReq s l n b ∈ P := kept_ite (kept_sput q h) (kept_reject q h)

theorem kept_txCancel {n b} : txCancel s n b ∈ P := kept_ite (kept_txFinish q h) (kept_ite (kept_modCan q h) h)

theorem kept_canRecover {l n} : canRecover s l n ∈ P := kept_ite (kept_canSetMode q h) (kept_reject q h)

theorem kept_canCmd {l v} : canCmd s l v ∈ P := by
  unfold canCmd
  refine kept_gated q h (fun h => ?_)
  dsimp only
  split
  · exact kept_canModeCmd q h
  · exact kept_txReq q h
  · exact kept_txCancel q h
  · exact kept_canRecover q h
  · exact kept_reject q h

theorem kept_canCfg {l n v} : canCfg s l n v ∈ P :=
  kept_ite (kept_reject q h) (kept_ite (kept_reject q h) (kept_ite (kept_reject q h) (kept_ite (kept_canSetMode q (kept_modCan q
    (kept_regPlain q h))) (kept_regPlain q h))))

theorem kept_canRate {l n r v} : canRate s l n r v ∈ P :=
  kept_ite (kept_reject q h) (kept_ite (kept_reject q h) (kept_ite (kept_reject q h) (kept_regPlain q h)))

theorem kept_canTm {l n v} : canTm s l n v ∈ P :=
  kept_ite (kept_modCan q (kept_regPlain q h)) (kept_ite (kept_modCan q (kept_regPlain q h)) (kept_regPlain q h))

theorem kept_canRead {off} : GivenWith P (canRead s off) := by
  unfold canRead
  refine kept_iteW (kept_some₂ h) ?_
  refine kept_iteW kept_none₂ ?_
  dsimp only
  split
  · exact kept_some₂ h
  · exact kept_some₂ h
  · exact kept_some₂ h
  · exact kept_none₂

theorem kept_canWrite {l off v} : Given P (canWrite s l off v) := by
  unfold canWrite
  refine kept_iteG (kept_some (kept_canCmd q h)) ?_
  refine kept_iteG kept_none ?_
  extract_lets +onlyGivenNames n r
  exact kept_iteG (kept_some (kept_gated q h (fun h => kept_canCfg q h))) (kept_iteG (kept_some (kept_gated q h (fun h =>
    kept_canRate q h))) (kept_iteG (kept_some (kept_gated q h (fun h => kept_canTm q h))) (kept_iteG (kept_some (kept_gated q h
    (fun h => kept_ite (kept_reject q h) (kept_ite (kept_reject q h) (kept_regPlain q h))))) (kept_iteG (kept_some
    (kept_ringWrite q h)) (kept_iteG (kept_iteG (kept_some (kept_gated q h (fun h => kept_ite (kept_reject q h) (kept_regPlain q
    h)))) kept_none) kept_none)))))

/-! ### Machine/Security.lean -/

theorem kept_modSec {f : SecSt → SecSt} : State.modSec s f ∈ P := kept_mk q h

theorem kept_nonceMake {p} : nonceMake s p ∈ P := kept_mk q h

theorem kept_nonceDrop {p} : nonceDrop s p ∈ P := kept_modSec q h

theorem kept_tokenCheck {p addr len} : (tokenCheck s p addr len).1 ∈ P := by
  unfold tokenCheck
  split
  · exact kept_fst (kept_nonceDrop q h)
  · exact kept_fst (kept_modSec q (kept_nonceDrop q (kept_dramMeet q h)))

theorem kept_sessPost {opened dbg} : sessPost s opened dbg ∈ P := kept_postEngine q h

theorem kept_sessEnd : sessEnd s ∈ P := kept_ite (kept_sessPost q (kept_modSec q h)) h

theorem kept_sessExpire : sessExpire s ∈ P := kept_ite (kept_sessEnd q (kept_modSec q h)) h

theorem kept_debugEnd : debugEnd s ∈ P := kept_ite (kept_sessPost q (kept_modSec q h)) h

theorem kept_inSession {l no} {k : State → State} (hk : ∀ {t}, t ∈ P → k t ∈ P) : inSession s l no k ∈ P :=
  kept_ite (hk (kept_sessExpire q h)) (kept_reject q (kept_sessExpire q h))

theorem kept_secOpen {l} : secOpen s l ∈ P := by
  unfold secOpen
  have ht := kept_tokenCheck q h (p := 1) (addr := sget s .sec 0x28) (len := sfld s .sec 0x2C 9 0)
  split
  next e => rw [e] at ht; exact kept_reject q ht
  next e => rw [e] at ht; exact kept_sessPost q (kept_modSec q ht)

theorem kept_secUnlock {l} : secUnlock s l ∈ P := by
  unfold secUnlock
  have ht := kept_tokenCheck q h (p := 2) (addr := sget s .sec 0x28) (len := sfld s .sec 0x2C 9 0)
  split
  · exact kept_reject q h
  · split
    next e => rw [e] at ht; exact kept_reject q ht
    next e => rw [e] at ht; exact kept_sessPost q (kept_modSec q ht)

theorem kept_secImgwrite {l} : secImgwrite s l ∈ P :=
  kept_inSession q h (fun h => kept_ite (kept_reject q h) (kept_ite (kept_reject q h) (kept_ite (kept_modSec q (kept_dramMeet q
    h)) (kept_modSec q (kept_dramMeet q h)))))

theorem kept_imgEnd {r} : imgEnd s r ∈ P := kept_postEngine q (kept_modSec q h)

theorem kept_imgAbandon : imgAbandon s ∈ P := kept_ite (kept_imgEnd q h) h

theorem kept_secActivate {l t} : secActivate s l t ∈ P := by
  unfold secActivate
  refine kept_inSession q h (fun h => ?_)
  split
  · exact kept_ite (kept_modSec q h) (kept_reject q h)
  · exact kept_reject q h

theorem kept_secRaisemin {l} : secRaisemin s l ∈ P := kept_ite (kept_reject q h) (kept_modSec q h)

theorem kept_keySession {l} {k : State → State} (hk : ∀ {t}, t ∈ P → k t ∈ P) : keySession s l k ∈ P := by
  unfold keySession
  refine kept_inSession q h (fun h => ?_)
  split
  · exact kept_ite (hk h) (kept_reject q h)
  · exact h

theorem kept_secKeywrite {l k} : secKeywrite s l k ∈ P :=
  kept_ite (kept_ite (kept_reject q h) (kept_modSec q (kept_dramMeet q h))) (kept_keySession q h (fun h => kept_ite (kept_reject
    q h) (kept_modSec q (kept_dramMeet q h))))

theorem kept_secKeyrevoke {l k} : secKeyrevoke s l k ∈ P :=
  kept_keySession q h (fun h => kept_ite (kept_modSec q h) (kept_reject q h))

theorem kept_secNonce {l p} : secNonce s l p ∈ P :=
  kept_ite (kept_reject q h) (kept_ite (kept_reject q h) (kept_nonceMake q (kept_modSec q h)))

theorem kept_secCmd {l v} : secCmd s l v ∈ P := by
  unfold secCmd
  extract_lets +onlyGivenNames op
  clear_value op
  refine kept_ite (kept_reject q h) ?_
  refine kept_ite (kept_reject q h) ?_
  refine kept_ite (kept_reject q h) ?_
  refine kept_ite (kept_reject q h) ?_
  split
  · exact kept_secNonce q h
  · exact kept_secOpen q h
  · exact kept_sessEnd q h
  · exact kept_secUnlock q h
  · exact kept_debugEnd q h
  · exact kept_secImgwrite q h
  · exact kept_secActivate q h
  · exact kept_secRaisemin q h
  · exact kept_secKeywrite q h
  · exact kept_secKeyrevoke q h

theorem kept_secFault : secFault s ∈ P := kept_imgAbandon q (kept_debugEnd q (kept_sessEnd q h))

theorem kept_recNonce {l} : recNonce s l ∈ P := kept_gated q h (fun h => kept_ite (kept_reject q h) (kept_nonceMake q h))

theorem kept_recClearNow {k} : recClearNow s k ∈ P := kept_postEngine q (kept_recPut q (kept_mk q h))

theorem kept_recClear {l} : recClear s l ∈ P := by
  refine kept_gated q h fun {s} h => ?_
  have ht := kept_tokenCheck q h (p := 3) (addr := sget s .recd 0x50) (len := sfld s .recd 0x54 9 0)
  split
  · exact kept_reject q h
  · split
    next e => rw [e] at ht; exact kept_reject q ht
    next e => rw [e] at ht; exact kept_recClearNow q ht

theorem kept_recCmd {l v} : recCmd s l v ∈ P := by
  unfold recCmd
  split
  · exact kept_recFreeze q h
  · exact kept_recThawCmd q h
  · exact kept_recFlush q h
  · exact kept_recReadCmd q h
  · exact kept_recNonce q h
  · exact kept_recClear q h
  · exact kept_gated q h (fun h => kept_reject q h)

theorem kept_secRead {off} : GivenWith P (secRead s off) := by
  unfold secRead
  extract_lets +onlyGivenNames x
  exact kept_iteW (kept_some₂ h) (kept_iteW (kept_some₂ h) (kept_iteW (kept_some₂ h) (kept_iteW (kept_some₂ h) (kept_iteW
    (kept_some₂ h) (kept_iteW (kept_some₂ h) (kept_iteW (kept_some₂ h) (kept_iteW (kept_some₂ h) kept_none₂)))))))

theorem kept_secWrite {l off v} : Given P (secWrite s l off v) :=
  kept_iteG kept_none (kept_iteG (kept_some (kept_secCmd q h)) (kept_iteG (kept_some (kept_reject q h)) (kept_iteG (kept_some
    (kept_reject q h)) (kept_some (kept_regPlain q h)))))

theorem kept_recRead {l c off} : GivenWith P (recRead s l c off) := by
  unfold recRead
  dsimp only
  split
  case h_2 | h_3 | h_4 | h_5 => exact kept_some₂ (kept_rset q h)
  case h_9 => split
              · exact kept_some₂ h
              · split
                · exact kept_some₂ h
                · exact kept_none₂
  all_goals exact kept_some₂ h

theorem kept_recWrite {l c off v} : Given P (recWrite s l c off v) :=
  kept_iteG kept_none (kept_iteG (kept_some (kept_recCmd q h)) (kept_iteG (kept_some (kept_recPwcmd q h)) (kept_iteG (kept_some
    (kept_gated q h (fun h => kept_modCore q h))) (kept_some (kept_gated q h (fun h => kept_ite (kept_reject q h) (kept_regPlain
    q h)))))))

/-! ### Machine/CfgStore.lean -/

theorem kept_modCfg {f : CfgSt → CfgSt} : State.modCfg s f ∈ P := kept_mk q h

theorem kept_cfgPut {x c seq} : cfgPut s x c seq ∈ P := by
  unfold cfgPut
  split
  · exact kept_modCfg q h
  · exact kept_modCfg q h

theorem kept_cfgWriteCmd {l} : cfgWriteCmd s l ∈ P := by
  unfold cfgWriteCmd
  extract_lets +onlyGivenNames n c
  exact kept_ite (kept_reject q h) (kept_ite (kept_reject q h) (kept_ite (kept_reject q h) (kept_ite (kept_modCfg q (kept_cfgPut
    q (kept_dramMeet q h))) (kept_modCfg q (kept_dramMeet q h)))))

theorem kept_cfgCmd {l v} : cfgCmd s l v ∈ P := kept_gated q h (fun h => kept_ite (kept_cfgWriteCmd q h) (kept_reject q h))

theorem kept_cfgEnd {r} : cfgEnd s r ∈ P := kept_postEngine q (kept_modCfg q h)

theorem kept_cfgAbandon : cfgAbandon s ∈ P := kept_ite (kept_cfgEnd q h) h

theorem kept_cfgFault : cfgFault s ∈ P := by
  unfold cfgFault
  split
  · exact kept_cfgEnd q (kept_ite (kept_cfgPut q h) h)
  · exact h

theorem kept_cfgRead {l off} : GivenWith P (cfgRead s l off) := by
  unfold cfgRead
  dsimp only
  split
  · exact kept_some₂ h
  · exact kept_some₂ (kept_rset q h)
  · exact kept_some₂ (kept_rset q h)
  · exact kept_some₂ (kept_rset q h)
  · exact kept_none₂

theorem kept_cfgWrite {l off v} : Given P (cfgWrite s l off v) :=
  kept_iteG (kept_some (kept_cfgCmd q h)) (kept_iteG (kept_some (kept_ite (kept_regPlain q h) (kept_reject q h))) (kept_iteG
    (kept_some (kept_gated q h (fun h => kept_reject q h))) kept_none))

/-! ### Machine/EthSwitch.lean -/

theorem kept_modPortE {p} {f : EthPort → EthPort} : State.modPortE s p f ∈ P := kept_mk q h

theorem kept_modFrer {k} {f : FrerSt → FrerSt} : State.modFrer s k f ∈ P := kept_mk q h

theorem kept_learn {vid mac port} : learn s vid mac port ∈ P := kept_ite h (kept_ite (kept_mk q h) (kept_ite (kept_mk q h) h))

theorem kept_enqueueFrame {p pcp tag b} : enqueueFrame s p pcp tag b ∈ P :=
  kept_ite h (kept_ite (kept_scount q h) (kept_modPortE q h))

theorem kept_sendPorts {mask untag f} : sendPorts s mask untag f ∈ P :=
  kept_foldl (fun _ _ h => kept_ite (kept_enqueueFrame q h) h) h

theorem kept_hstDatagram {b} : hstDatagram s b ∈ P := kept_ite (kept_hstHeartbeat q h) (kept_hstAny q h)

theorem kept_toRing {f p age stream} : toRing s f p age stream ∈ P := by
  unfold toRing
  split
  · exact kept_ringSend q h
  · exact kept_fusDatagram q h
  · exact kept_hstDatagram q h
  · exact h

-- Applied to `s`, the function would not be unfolded by the kernel before its discriminant: so unfold it alone.
theorem kept_toFabric {f p age} : toFabric s f p age ∈ P := by
  obtain ⟨g, hg⟩ : ∃ g, toFabric = g := ⟨_, rfl⟩
  rw [hg]
  delta toFabric at hg
  subst hg
  beta_reduce
  split
  · split
    · exact kept_toRing q h
    · extract_lets +onlyGivenNames off x y r
      split
      · exact kept_rcount q (kept_modFrer q h)
      · exact kept_toRing q (kept_modFrer q (kept_rsetf q (kept_scount q h)))
      · exact kept_rcount q (kept_modFrer q h)
  · exact kept_toRing q h

theorem kept_ethRx {p b age} : ethRx s p b age ∈ P := by
  unfold ethRx
  extract_lets +onlyGivenNames s1 f
  have h1 : s1 ∈ P := kept_scount q h
  split
  · exact kept_toFabric q h1
  · exact kept_ite (kept_scount q h1) h1
  · exact kept_ite (kept_toFabric q (kept_sendPorts q (kept_learn q h1))) (kept_sendPorts q (kept_learn q h1))

theorem kept_ethTwp {l q0 v} : ethTwp s l q0 v ∈ P := kept_gated q h (fun h => kept_ite (kept_reject q h) (kept_sput q h))

-- Applied to `s`, the function would not be unfolded by the kernel before its discriminant: so unfold it alone.
theorem kept_txSwitch {f} : txSwitch s f ∈ P := by
  obtain ⟨g, hg⟩ : ∃ g, txSwitch = g := ⟨_, rfl⟩
  rw [hg]
  delta txSwitch at hg
  subst hg
  beta_reduce
  split
  · exact kept_sendPorts q (kept_modFrer q h)
  · split
    · exact kept_ite (kept_sendPorts q (kept_learn q h)) h
    · exact h

theorem kept_ethDrop {p} : ethDrop s p ∈ P :=
  kept_ite h (kept_ite (kept_modPortE q h) (kept_postEngine q (kept_sputb q (kept_modPortE q h))))

theorem kept_ethCmd {l v} : ethCmd s l v ∈ P := kept_gated q h (fun h => kept_ite (kept_mk q h) (kept_reject q h))

theorem kept_ethCfg {l p v} : ethCfg s l p v ∈ P := by
  unfold ethCfg
  extract_lets +onlyGivenNames off
  exact kept_gated q h (fun h => kept_ite (kept_reject q h) (kept_ite (kept_reject q h) (kept_ite (kept_reject q h) (kept_ite
    (kept_sput q (kept_sput q (kept_regPlain q h))) (kept_regPlain q h)))))

theorem kept_frerCfg {l k off v} : frerCfg s l k off v ∈ P := kept_gated q h (fun h => kept_modFrer q (kept_regPlain q h))

theorem kept_ethRead {off} : GivenWith P (ethRead s off) :=
  kept_iteW (kept_some₂ h) (kept_iteW (kept_some₂ h) (kept_iteW (kept_some₂ h) (kept_iteW (kept_some₂ h) kept_none₂)))

theorem kept_ethWrite {l off v} : Given P (ethWrite s l off v) := by
  unfold ethWrite
  refine kept_iteG (kept_some (kept_ethCmd q h)) ?_
  refine kept_iteG (kept_some (kept_ethCfg q h)) ?_
  refine kept_iteG (kept_some (kept_gated q h (fun h => kept_ite (kept_ite h (kept_reject q h)) (kept_sput q h)))) ?_
  refine kept_iteG (kept_some (kept_ringWrite q h)) ?_
  refine kept_iteG (kept_some (kept_frerCfg q h)) ?_
  refine kept_iteG ?_ kept_none
  split
  · exact kept_some (kept_gated q h (fun h => kept_ite (kept_reject q h) (kept_regPlain q h)))
  · exact kept_some (kept_ethTwp q h)
  · exact kept_none

/-! ### Machine/Halyard.lean -/

theorem kept_regime {l n q0 d1 p1 cap} : regime s l n q0 d1 p1 cap ∈ P :=
  kept_modHy q (kept_rset q (kept_ite (kept_rcount q (kept_rsetb q h)) h))

theorem kept_enterSync {l n q0 d1 p1 prev cap} : enterSync s l n q0 d1 p1 prev cap ∈ P := kept_modHy q h

theorem kept_restartStall {l n} : restartStall s l n ∈ P := kept_modHy q h

theorem kept_enterAt {l n j} : enterAt s l n j ∈ P := kept_modHy q (kept_enterSync q h)

theorem kept_seekEdge {l n shown} : seekEdge s l n shown ∈ P := by
  unfold seekEdge
  extract_lets +onlyGivenNames h0
  split
  · exact kept_ite (kept_enterAt q h) h
  · extract_lets +onlyGivenNames first
    split
    · exact kept_ite (kept_ite (kept_enterAt q h) (kept_modHy q h)) h
    · exact kept_ite (kept_ite (kept_enterAt q h) (kept_modHy q h)) (kept_ite (kept_ite (kept_enterAt q h) (kept_modHy q h))
        (kept_ite (kept_modHy q h) (kept_modHy q h)))

theorem kept_hyEdge {l n phase dir} : hyEdge s l n phase dir ∈ P := by
  unfold hyEdge
  extract_lets +onlyGivenNames h0 lastE fast
  refine kept_ite (kept_ite (kept_loseSync q (kept_rsetb q h)) (kept_rsetb q h)) ?_
  extract_lets +onlyGivenNames s1 s2 h0 p1 p0 shown
  have h1 : s1 ∈ P := kept_modHy q h
  have h2 : s2 ∈ P := kept_restartStall q h1
  split
  · exact h2
  · exact kept_seekEdge q h2
  · exact kept_ite (kept_loseSync q h2) (kept_regime q (kept_modHy q h2))

theorem kept_hyAng {l n ch rise} : hyAng s l n ch rise ∈ P := by
  unfold hyAng
  dsimp only
  split
  · exact kept_ite (kept_hyEdge q h) h
  · exact kept_ite (kept_hyEdge q h) (kept_ite (kept_hyEdge q h) h)
  · exact h

theorem kept_angEdge {l ch rise} : angEdge s l ch rise ∈ P := kept_foldl (fun _ _ h => kept_hyAng q h) h

theorem kept_hySent {l n t valid value} : hySent s l n t valid value ∈ P := by
  unfold hySent
  extract_lets +onlyGivenNames h0
  refine kept_ite (kept_ite (kept_loseSync q (kept_modHy q h)) (kept_modHy q h)) ?_
  extract_lets +onlyGivenNames s1 w0 scale d0 inc mv p1 s8 at_
  have h1 : s1 ∈ P := kept_modHy q h
  have h2 : s8 ∈ P := kept_modHy q h1
  split
  · exact h2
  · exact kept_ite (kept_modHy q (kept_enterSync q h2)) h2
  · exact kept_modHy q (kept_regime q h2)

theorem kept_sentEdge {l ch t valid nibbles} : sentEdge s l ch t valid nibbles ∈ P :=
  kept_foldl (fun _ _ h => kept_ite (kept_hySent q h) h) h

theorem kept_feedIncrement {l n v} : feedIncrement s l n v ∈ P := kept_ite (kept_reject q h) (kept_modHy q h)

theorem kept_feedCommit {l n v} : feedCommit s l n v ∈ P := by
  unfold feedCommit
  extract_lets +onlyGivenNames off
  split
  · exact kept_reject q h
  · extract_lets +onlyGivenNames h0 t
    refine kept_ite (kept_reject q h) ?_
    extract_lets +onlyGivenNames mv p1 s1 at_
    have h1 : s1 ∈ P := kept_modHy q h
    have ha {t} (h : t ∈ P) : at_ t ∈ P := kept_modHy q h
    split
    · exact h1
    · exact kept_ite (kept_modHy q h1) (ha (kept_enterSync q h1))
    · exact ha (kept_regime q h1)

theorem kept_setSource {l n v} : setSource s l n v ∈ P :=
  kept_ite (kept_lostSync q (kept_modHy q (kept_modHy q (kept_rset q h)))) (kept_modHy q (kept_modHy q (kept_rset q h)))

theorem kept_halConfig {l n r v} : halConfig s l n r v ∈ P :=
  kept_ite (kept_reject q h) (kept_ite (kept_reject q h) (kept_ite (kept_reject q h) (kept_ite (kept_setSource q h) (kept_rset q
    h))))

theorem kept_halStall {l n} : halStall s l n ∈ P := kept_ite (kept_ite (kept_loseSync q (kept_modHy q h)) (kept_modHy q h)) h

theorem kept_halRead {l off} : GivenWith P (halRead s l off) := by
  unfold halRead
  extract_lets +onlyGivenNames n r
  exact kept_iteW (kept_some₂ (kept_rset q h)) (kept_iteW (kept_some₂ h) (kept_iteW kept_none₂ (kept_iteW (kept_some₂ (kept_rset
    q h)) (kept_iteW (kept_some₂ h) (kept_iteW (kept_some₂ h) kept_none₂)))))

theorem kept_halWrite {l off v} : Given P (halWrite s l off v) := by
  unfold halWrite
  extract_lets +onlyGivenNames n
  refine kept_iteG (kept_some (kept_reject q h)) ?_
  refine kept_iteG kept_none ?_
  split
  · exact kept_some (kept_halConfig q h)
  · exact kept_some (kept_halConfig q h)
  · exact kept_some (kept_halConfig q h)
  · exact kept_some (kept_halConfig q h)
  · exact kept_some (kept_halConfig q h)
  · exact kept_some (kept_feedIncrement q h)
  · exact kept_none

theorem kept_halWarm {l} : halWarm s l ∈ P := kept_foldl (fun _ _ h => kept_modHy q (kept_ite (kept_modHy q h) h)) h

/-! ### Machine/HsiLoss.lean -/

theorem kept_modLoss {n} {f : LossCh → LossCh} : State.modLoss s n f ∈ P := kept_mk q h

theorem kept_lossFinish {n} : lossFinish s n ∈ P := by
  unfold lossFinish
  split
  · exact h
  · exact kept_modLoss q h

theorem kept_lossSample {n x} : lossSample s n x ∈ P := by
  unfold lossSample
  extract_lets +onlyGivenNames c k cfg
  split
  · exact kept_modLoss q (kept_lossFinish q h)
  · extract_lets +onlyGivenNames thr dead a f s1 first again s2 env new s3 s4 s5 kc s6
    have h1 : s1 ∈ P := kept_ite (kept_modLoss q (kept_sputb q h)) h
    have h2 : s2 ∈ P := kept_ite (kept_scount q h1) h1
    have h3 : s3 ∈ P := kept_ite (kept_scount q (kept_lossFinish q h2)) h2
    have h5 : s5 ∈ P := kept_modLoss q (kept_modLoss q h3)
    have h6 : s6 ∈ P := kept_ite (kept_lossFinish q h5) h5
    exact kept_ite (kept_modLoss q h6) h6

theorem kept_lossRun {n xs} : lossRun s n xs ∈ P := by
  induction xs generalizing s with
  | nil => exact h
  | cons x xs ih => exact ih (kept_lossSample q h)

theorem kept_lossQuiet {n k} : lossQuiet s n k ∈ P := kept_ite h (kept_modLoss q (kept_lossRun q h))

theorem kept_winClose {n t chained timeout} : winClose s n t chained timeout ∈ P := kept_modLoss q h

theorem kept_lossOpen {mask sector} : lossOpen s mask sector ∈ P :=
  kept_ite h (kept_foldl (fun _ _ h => kept_modLoss q (kept_winClose q h)) h)

theorem kept_lossClose {mask sector} : lossClose s mask sector ∈ P := by
  unfold lossClose
  refine kept_ite h ?_
  refine kept_foldl (fun _ _ h => ?_) h
  split
  · exact kept_ite (kept_winClose q h) (kept_sputb q h)
  · exact kept_sputb q h

theorem kept_hsiRing {r esz i code} {mk : Bool → List Byte} : hsiRing s r esz i code mk ∈ P := kept_ringSend q h

theorem kept_adcTrigger {g} : adcTrigger s g ∈ P := kept_ite h (kept_mk q h)

theorem kept_edgeWrite {l off v} : edgeWrite s l off v ∈ P :=
  kept_gated q h (fun h => kept_ite (kept_reject q h) (kept_regPlain q (kept_foldl (fun _ _ h1 => kept_ite (kept_lossQuiet q h1)
    h1) h)))

theorem kept_hsiWrite {l off v} : Given P (hsiWrite s l off v) :=
  kept_iteG (kept_some (kept_hsiCmd q h)) (kept_iteG (kept_some (kept_ringWrite q h)) (kept_iteG (kept_some (kept_ringWrite q h))
    (kept_iteG (kept_some (kept_edgeWrite q h)) (kept_iteG (kept_some (kept_gated q h (fun h => kept_regPlain q (kept_lossQuiet q
    h)))) (kept_iteG (kept_some (kept_gated q h (fun h => kept_regPlain q (kept_ite (kept_inFreeze q h) (kept_ite (kept_inSettle
    q h) h))))) (kept_iteG (kept_some (kept_fnWrite q h)) kept_none))))))

theorem kept_lossRead {off} : GivenWith P (lossRead s off) := by
  unfold lossRead
  refine kept_iteW ?_ kept_none₂
  split
  · exact kept_some₂ h
  · exact kept_some₂ h

/-! ### Machine/Displacement.lean -/

theorem kept_modBank {b} {f : Bank → Bank} : State.modBank s b f ∈ P := kept_mk q h

theorem kept_modChan {c} {f : Chan → Chan} : State.modChan s c f ∈ P := kept_mk q h

theorem kept_dvFlag {c i} : dvFlag s c i ∈ P := kept_rsetb q h

theorem kept_modSel {l m} {f : Sel → Sel} : State.modSel s l m f ∈ P := kept_modLane q h (fun _ => by rfl)

theorem kept_selOpportunity {l m} : (selOpportunity s l m).1 ∈ P := by
  unfold selOpportunity
  extract_lets +onlyGivenNames cfg
  split
  · exact kept_fst h
  · extract_lets +onlyGivenNames r s2 s3 s4 s5
    have h1 : s2 ∈ P := kept_modSel q h
    have h2 : s3 ∈ P := kept_rwrap q h1
    have h3 : s4 ∈ P := kept_ite (kept_rwrap q h2) h2
    have h4 : s5 ∈ P := kept_ite (kept_ite (kept_rsetf q h3) (kept_rsetf q h3)) h3
    exact kept_fst h4

theorem kept_dropRefund {m} : dropRefund s m ∈ P :=
  kept_both h (fun _ _ h => kept_ite (kept_modSel q (kept_rwrap q h)) (kept_rwrap q h))

theorem kept_dropReq {c cause arrival at_} : dropReq s c cause arrival at_ ∈ P := by
  unfold dropReq
  refine kept_postOut q ?_
  split
  · exact kept_dropRefund q (kept_rcount q (kept_rcount q (kept_dvFlag q h)))
  · exact kept_rcount q (kept_rcount q (kept_dvFlag q h))

theorem kept_takeReq {r} : takeReq s r ∈ P :=
  kept_ite (kept_rwrap q (kept_modChan q h)) (kept_rset q (kept_rcount q (kept_rwrap q (kept_modChan q h))))

theorem kept_bankAdmit {b n} : bankAdmit s b n ∈ P := by
  induction n generalizing s with
  | zero => exact h
  | succ n ih =>
    unfold bankAdmit
    split
    · exact h
    · exact kept_ite (ih (kept_dvFlag q (kept_modBank q h))) (kept_ite h (ih (kept_takeReq q (kept_modBank q h))))

theorem kept_expireReq {b r} : expireReq b s r ∈ P := kept_dropReq q (kept_modBank q h)

theorem kept_bankPump {b} : bankPump s b ∈ P := kept_ite h (kept_bankAdmit q (kept_foldl (fun _ _ h => kept_expireReq q h) h))

theorem kept_pumpAll : pumpAll s ∈ P := kept_foldl (fun _ _ h => kept_bankPump q h) h

theorem kept_setRail {b r} : setRail s b r ∈ P :=
  kept_ite (kept_foldl (fun _ _ h => kept_dropReq q h) (kept_modBank q (kept_modBank q h))) (kept_modBank q h)

theorem kept_railSettle {b} : railSettle s b ∈ P := by
  unfold railSettle
  split
  · exact kept_ite h (kept_setRail q h)
  · exact h

theorem kept_railCmd {b r refresh} : railCmd s b r refresh ∈ P :=
  kept_ite (kept_rsetf q h) (kept_ite (kept_modBank q (kept_modBank q (kept_rsetf q h))) (kept_pumpAll q (kept_setRail q
    (kept_modBank q (kept_rsetf q h)))))

theorem kept_bankYield {b c} : bankYield s b c ∈ P := by
  unfold bankYield
  split
  · exact h
  · exact kept_modBank q (kept_modChan q (kept_rset q h))

theorem kept_bankStart {c prof ends deadline} : bankStart s c prof ends deadline ∈ P := by
  unfold bankStart
  extract_lets +onlyGivenNames b ch q0 w0
  exact kept_ite h (kept_ite h (kept_ite (kept_dropReq q h) (kept_ite (kept_modChan q h) (kept_ite (kept_modBank q h) (kept_ite
    (kept_dvFlag q h) (kept_bankPump q (kept_modBank q (kept_bankYield q h))))))))

theorem kept_switchOff {code vbst} : switchOff s code vbst ∈ P := kept_ite (kept_rcount q h) h

theorem kept_startRelease {c vbst} : startRelease s c vbst ∈ P := kept_pumpAll q (kept_modChan q (kept_switchOff q h))

theorem kept_openVbst : (openVbst s).2 ∈ P := kept_snd h

theorem kept_dvDiag {c i} : dvDiag s c i ∈ P :=
  kept_ite h (kept_postOut q (kept_ite (kept_rsetb q (kept_dvFlag q h)) (kept_ite (kept_rsetb q (kept_dvFlag q h)) (kept_dvFlag q
    h))))

theorem kept_peakEnd {c hit vbst} : peakEnd s c hit vbst ∈ P := by
  unfold peakEnd
  extract_lets +onlyGivenNames ch b ttp mx mn sim ovr
  exact kept_ite h (kept_ite h (kept_pumpAll q (kept_railSettle q (kept_modChan q (kept_switchOff q (kept_ite (kept_dvDiag q
    (kept_rset q h)) (kept_ite (kept_dvDiag q (kept_rset q h)) (kept_rset q h))))))))

theorem kept_transitionEnd {c fell dip} : transitionEnd s c fell dip ∈ P := by
  unfold transitionEnd
  extract_lets +onlyGivenNames ch t sim
  refine kept_ite h (kept_ite h ?_)
  extract_lets +onlyGivenNames watch s1 s2
  have h1 : s1 ∈ P := by
    refine kept_ite ?_ (kept_rset q h)
    split
    · exact kept_rset q h
    · exact kept_dvDiag q (kept_rset q h)
  have h2 : s2 ∈ P := kept_modChan q h1
  split
  · extract_lets +onlyGivenNames v
    have hv : v.2 ∈ P := kept_openVbst q h2
    exact kept_startRelease q hv
  · exact h2

theorem kept_dvStop {c} : dvStop s c ∈ P := kept_railSettle q (kept_modChan q (kept_modBank q h))

theorem kept_bankIdle {b} : bankIdle s b ∈ P := kept_foldl (fun _ _ h => kept_dvStop q h) (kept_modBank q h)

theorem kept_bucketSet {e} : bucketSet s e ∈ P := kept_mk q h

theorem kept_bankStop {c} : bankStop s c ∈ P := by
  unfold bankStop
  split
  · exact kept_startRelease q (kept_openVbst q h)
  · exact kept_modChan q h
  · exact kept_modChan q h
  · exact h
  · exact kept_bankPump q (kept_modBank q h)

theorem kept_ddvExec {l off v} : ddvExec s l off v ∈ P := by
  unfold ddvExec
  refine kept_ite ?_ (kept_ite (kept_rset q h) (kept_ite (kept_pumpAll q (kept_railCmd q (kept_regStore q h))) (kept_ite
    (kept_pumpAll q (kept_regStore q h)) (kept_regStore q h))))
  dsimp only
  split
  · exact kept_bankStop q h
  · exact kept_rsetb q h
  · exact kept_rsetb q h
  · exact kept_pumpAll q (kept_dvStop q (kept_rsetb q h))
  · exact h

theorem kept_bankArrive {c prof x} : bankArrive s c prof x ∈ P := kept_bankStart q h

theorem kept_frontDecide {l c sel} : (frontDecide s l c sel).1 ∈ P := by
  unfold frontDecide
  split
  · exact kept_selOpportunity q h
  · exact kept_fst h

theorem kept_bankDiscard {b} : bankDiscard s b ∈ P := kept_modBank q h

theorem kept_banksWind : banksWind s ∈ P := by
  unfold banksWind
  refine kept_foldl (fun _ _ h => ?_) (kept_foldl (fun _ _ h => kept_bankDiscard q h) h)
  split
  · exact kept_startRelease q (kept_openVbst q h)
  · exact kept_modChan q h
  · exact kept_modChan q h
  · exact h

theorem kept_selsReset {l} : selsReset s l ∈ P := kept_foldl (fun _ _ h => kept_modSel q h) h

theorem kept_ddvRead {l off} : GivenWith P (ddvRead s l off) :=
  kept_iteW (kept_iteW (kept_some₂ h) (kept_some₂ (kept_bucketSet q h))) (kept_iteW (kept_some₂ h) (kept_iteW (kept_some₂ h)
    (kept_iteW (kept_some₂ h) kept_none₂)))

/-! ### Machine/Switches.lean -/

theorem kept_modLs {n} {f : LsCh → LsCh} : State.modLs s n f ∈ P := kept_mk q h

theorem kept_lsSet {n i b} : lsSet s n i b ∈ P := kept_rsetb q h

theorem kept_lsKeep {n} : lsKeep s n ∈ P := kept_modLs q h

theorem kept_groupSettle {k} : groupSettle s k ∈ P := kept_mk q h

theorem kept_lsConduct {n fresh} : lsConduct s n fresh ∈ P :=
  kept_ite (kept_modLs q (kept_lsSet q (kept_lsSet q (kept_lsKeep q h)))) (kept_modLs q (kept_lsSet q (kept_lsKeep q h)))

theorem kept_lsDark {n} : lsDark s n ∈ P := kept_modLs q (kept_lsSet q (kept_lsSet q (kept_lsKeep q h)))

theorem kept_benchLevel {n} : benchLevel s n ∈ P := kept_modLs q (kept_lsSet q (kept_lsDark q h))

theorem kept_lsLatch {n cause} : lsLatch s n cause ∈ P := kept_postOut q (kept_lsSet q (kept_lsDark q h))

theorem kept_lsLevel {n on} : lsLevel s n on ∈ P := by
  unfold lsLevel
  extract_lets +onlyGivenNames was s2
  have h1 : s2 ∈ P := kept_lsSet q h
  exact kept_ite (kept_benchLevel q h1) (kept_ite (kept_lsDark q h1) (kept_ite (kept_modLs q h1) (kept_ite h1 (kept_ite
    (kept_modLs q h1) (kept_lsConduct q h1)))))

theorem kept_lsFall {n on} : lsFall s n on ∈ P := kept_ite (kept_modLs q (kept_lsSet q h)) (kept_lsLevel q h)

theorem kept_dirRequest {g ch} : dirRequest s g ch ∈ P := kept_mk q (kept_foldl (fun _ _ h => kept_modLs q (kept_lsKeep q h)) h)

theorem kept_lswExec {l off v} : lswExec s l off v ∈ P := by
  unfold lswExec
  refine kept_ite ?_ (kept_ite (kept_dirRequest q (kept_regStore q h)) (kept_ite (kept_regStore q (kept_groupSettle q h))
    (kept_regStore q h)))
  dsimp only
  split
  · exact kept_lsLevel q h
  · exact kept_lsLevel q h
  · exact kept_rsetf q (kept_rsetf q (kept_ite (kept_lsSet q (kept_lsDark q h)) (kept_lsKeep q h)))
  · exact h

theorem kept_lsTrip {n} : lsTrip s n ∈ P :=
  kept_ite h (kept_ite (kept_lsLatch q h) (kept_ite (kept_lsDark q h) (kept_ite (kept_modLs q (kept_lsSet q (kept_lsKeep q h)))
    h)))

theorem kept_lsRestart {n} : lsRestart s n ∈ P := by
  unfold lsRestart
  refine kept_ite h ?_
  refine kept_ite (kept_modLs q h) ?_
  split
  · exact kept_lsConduct q h
  · exact kept_modLs q (kept_lsConduct q h)

theorem kept_lsEach {p : ℕ → Bool} {f : State → ℕ → State} (hf : ∀ {t x1}, t ∈ P → f t x1 ∈ P) : lsEach s p f ∈ P :=
  kept_foldl (fun _ _ h => kept_ite (hf h) h) h

theorem kept_lsShed {n diss} : lsShed s n diss ∈ P := kept_postOut q (kept_lsSet q (kept_lsDark q h))

theorem kept_lsClass {n warm} : lsClass s n warm ∈ P := by
  unfold lsClass
  split
  · exact kept_lsFall q h
  · exact kept_ite h (kept_lsFall q h)
  · exact kept_lsFall q h

theorem kept_lswRead {off} : GivenWith P (lswRead s off) := by
  unfold lswRead
  refine kept_iteW (kept_some₂ h) ?_
  refine kept_iteW (kept_some₂ h) ?_
  refine kept_iteW (kept_some₂ h) ?_
  refine kept_iteW kept_none₂ ?_
  dsimp only
  split
  · exact kept_some₂ h
  · exact kept_some₂ h
  · exact kept_some₂ h
  · exact kept_none₂

/-! ### Machine/Valves.lean -/

theorem kept_pvSetDuty {n v} : pvSetDuty s n v ∈ P :=
  kept_ite (kept_ite (kept_rsetf q h) (kept_rsetb q (kept_rsetf q h))) (kept_rsetb q (kept_ite (kept_rsetf q h) (kept_rsetb q
    (kept_rsetf q h))))

theorem kept_pvcExec {l off v} : pvcExec s l off v ∈ P := by
  unfold pvcExec
  refine kept_ite ?_ (kept_ite (kept_pvSetDuty q h) (kept_regStore q h))
  dsimp only
  split
  · exact kept_mk q (kept_rsetb q h)
  · exact kept_rsetf q (kept_rsetb q h)
  · exact kept_rsetf q (kept_rsetb q h)
  · exact h

theorem kept_pvFlag {n i k} : pvFlag s n i k ∈ P := kept_ite h (kept_postOut q (kept_rsetb q h))

theorem kept_pvLevel {n d} : pvLevel s n d ∈ P := kept_pvSetDuty q h

theorem kept_pvClass {n warm} : pvClass s n warm ∈ P := by
  unfold pvClass
  split
  · exact kept_pvLevel q h
  · exact kept_ite h (kept_pvLevel q h)
  · exact kept_pvLevel q h

theorem kept_pvcRead {off} : GivenWith P (pvcRead s off) := kept_iteW (kept_some₂ h) (kept_iteW (kept_some₂ h) kept_none₂)

/-! ### Machine/SeqLink.lean -/

theorem kept_mismatch {n word wa ws} : mismatch s n word wa ws ∈ P := by
  unfold mismatch
  extract_lets +onlyGivenNames s1 u s2
  have h2 : s2 ∈ P := q.sup (kept_modSeq q h) rfl
  exact kept_record q h2

theorem kept_compareCopies {n l c d} : compareCopies s n l c d ∈ P := by
  unfold compareCopies
  dsimp only
  split
  · exact h
  · exact kept_ite (kept_mismatch q h) h

theorem kept_seqExec {l c} : seqExec s l c ∈ P := by
  unfold seqExec
  refine kept_ite (kept_ite (kept_bankArrive q h) h) ?_
  refine kept_ite h ?_
  split
  · exact kept_ite (kept_ite (kept_bankArrive q h) h) (kept_ddvExec q h)
  · exact kept_pvcExec q h
  · exact kept_lswExec q h

theorem kept_deliver {l n} : deliver s l n ∈ P := by
  unfold deliver
  extract_lets +onlyGivenNames q0
  split
  · exact h
  · extract_lets +onlyGivenNames s1
    have h1 : s1 ∈ P := kept_modSeq q h
    refine kept_ite h1 ?_
    extract_lets +onlyGivenNames s2 s3
    have h3 : s3 ∈ P := by
      unfold s3
      split
      · exact h1
      · split
        · exact kept_compareCopies q (kept_modSeq q h1)
        · exact kept_ite h1 (kept_modSeq q h1)
    exact kept_ite (kept_seqExec q h3) h3

theorem kept_deliverAll {l n} : deliverAll s l n ∈ P := kept_foldl (fun _ _ h => kept_deliver q h) h

theorem kept_settlePartner {l n b off v rej} : settlePartner s l n b off v rej ∈ P := by
  unfold settlePartner
  split
  · exact kept_ite (kept_ite (kept_modSeq q h) (kept_reject q (kept_modSeq q h))) h
  · exact h

theorem kept_sendSeq {l n words extra rej judged} : sendSeq s l n words extra rej judged ∈ P := kept_ite h (kept_modSeq q h)

theorem kept_levelOf {l b off v} : levelOf s l b off v ∈ P := by
  unfold levelOf
  extract_lets +onlyGivenNames put
  split
  · exact kept_ite (kept_modLane q h (fun _ => by rfl)) h
  · exact kept_ite (kept_modLane q h (fun _ => by rfl)) h
  · refine kept_ite h ?_
    split
    · exact kept_modLane q h (fun _ => by rfl)
    · exact kept_modLane q h (fun _ => by rfl)
    · exact kept_ite (kept_modLane q h (fun _ => by rfl)) h
    · exact h

theorem kept_seqWrite {l b off v} : seqWrite s l b off v ∈ P := by
  unfold seqWrite
  extract_lets +onlyGivenNames n s2 isStart own p same wait rej s9 s10
  have h1 : s2 ∈ P := kept_deliverAll q h
  have h2 : s9 ∈ P := kept_ite (kept_settlePartner q h1) h1
  have h3 : s10 ∈ P := kept_ite (kept_levelOf q h2) (kept_reject q h2)
  exact kept_ite (kept_sendSeq q (kept_frontDecide q h3)) (kept_sendSeq q h3)

theorem kept_vstart {l arg pos} : vstart s l arg pos ∈ P := kept_ite h (kept_sendSeq q (kept_frontDecide q h))

theorem kept_seqClass {n warm} : seqClass s n warm ∈ P :=
  kept_ite (kept_bankDiscard q h) (kept_ite (kept_ite (kept_pvLevel q h) (kept_lsFall q h)) (kept_ite (kept_pvClass q h)
    (kept_lsClass q h)))

theorem kept_ownSeq {n l e} : ownSeq s n l e ∈ P := kept_ite h (kept_modSeq q h)

theorem kept_refreshSeq {l n} : refreshSeq s l n ∈ P :=
  kept_ite h (kept_ite (kept_railCmd q h) (kept_ite (kept_pvLevel q h) (kept_lsFall q h)))

theorem kept_levelsFromSeqs {l} : levelsFromSeqs s l ∈ P := kept_foldl (fun _ _ h => kept_modLane q h (fun _ => by rfl)) h

theorem kept_switchesOff {keep} : switchesOff s keep ∈ P := kept_foldl (fun _ _ h => kept_ite h (kept_lsLevel q h)) h

theorem kept_dutiesTo {f : ℕ → ℕ} : dutiesTo s f ∈ P := kept_foldl (fun _ _ h => kept_pvLevel q h) h

theorem kept_benchIdle : benchIdle s ∈ P := kept_foldl (fun _ _ h => kept_bankIdle q h) h

/-! ### Machine/LoopEngine.lean -/

theorem kept_lcStore {l w0} {a : ℕ → ℕ} : lcStore s l a w0 ∈ P := kept_foldl (fun _ _ h => kept_ite h (kept_rset q h)) h

theorem kept_lcPut {l c st} : lcPut s l c st ∈ P := kept_rsetf q h

theorem kept_lcFlag {l c i} : lcFlag s l c i ∈ P := kept_rsetb q h

theorem kept_lcSeed {l c} : lcSeed s l c ∈ P := kept_rsetb q h

theorem kept_modLpe {l} {f : Lpe → Lpe} : State.modLpe s l f ∈ P := kept_modLane q h (fun _ => by rfl)

theorem kept_lpePost {l c code data} : lpePost s l c code data ∈ P := kept_ite (kept_postCore q h) h

theorem kept_injAbort {l c} : injAbort s l c ∈ P := by
  unfold injAbort
  split
  · exact h
  · exact kept_lpePost q (kept_rsetb q (kept_modLpe q h))

theorem kept_lcOverrun {l c} : lcOverrun s l c ∈ P := kept_ite (kept_lcFlag q h) (kept_lpePost q (kept_lcFlag q h))

theorem kept_lcQfull {l c} : lcQfull s l c ∈ P := kept_lcOverrun q (kept_rcount q (kept_rsetb q h))

theorem kept_enqueue {l c} : enqueue s l c ∈ P := by
  unfold enqueue
  refine kept_ite h ?_
  refine kept_ite (kept_lcOverrun q (kept_rcount q (kept_rsetb q h))) ?_
  dsimp only
  split
  · exact kept_modLpe q h
  · exact kept_lcQfull q (kept_modLpe q h)

theorem kept_pvRequests {l n} : pvRequests s l n ∈ P := kept_foldl (fun _ _ h => kept_ite (kept_enqueue q h) h) h

theorem kept_lcWrite {l c u} : lcWrite s l c u ∈ P := by
  unfold lcWrite
  dsimp only
  split
  · exact q.sram h fun _ hm => mwriteLE_wf _ _ _ _ hm
  · exact kept_ite (kept_sputf q h) h
  · exact kept_seqWrite q h
  · exact kept_rsetf q h
  · exact h

theorem kept_lcSwap {l c} : lcSwap s l c ∈ P := by
  unfold lcSwap
  extract_lets +onlyGivenNames w0 im s3
  have h1 : s3 ∈ P := kept_rsetb q h
  split
  · exact kept_lpePost q (kept_lcFlag q h1)
  · exact kept_boundReport q (kept_ite (kept_lcSeed q (kept_lcPut q (kept_injAbort q (kept_lcStore q (kept_lcStore q h1)))))
      (kept_lcStore q (kept_lcStore q h1)))

theorem kept_injStart {l n} : injStart s l n ∈ P := by
  unfold injStart
  dsimp only
  split
  · exact kept_reject q h
  · exact kept_ite (kept_reject q h) (kept_ite (kept_reject q h) (kept_modLpe q h))

theorem kept_injStop {l n} : injStop s l n ∈ P := kept_ite (kept_lcPut q (kept_injAbort q h)) h

theorem kept_modCap {l n} {f : Cap → Cap} : State.modCap s l n f ∈ P := kept_modLpe q h

theorem kept_capSample {l c first sig} : capSample s l c first sig ∈ P :=
  kept_foldl (fun _ _ h => kept_ite (kept_ite (kept_lpePost q (kept_modCap q h)) (kept_modCap q h)) h) h

theorem kept_capArm {l n} : capArm s l n ∈ P := kept_ite (kept_reject q h) (kept_modCap q h)

theorem kept_capAbort {l n} : capAbort s l n ∈ P := kept_ite (kept_lpePost q (kept_rsetb q (kept_modCap q h))) h

theorem kept_capTrignow {l n} : capTrignow s l n ∈ P := kept_ite (kept_modCap q h) h

theorem kept_lcOpen {l c u w0} : (lcOpen s l c u w0).1 ∈ P := by
  unfold lcOpen
  split
  · exact kept_fst (kept_modLpe q (kept_mk q h))
  · exact kept_fst h

theorem kept_lcSample {l r w0} : lcSample s l r w0 ∈ P := by
  unfold lcSample
  extract_lets +onlyGivenNames c y sp wsp0 tr s1 seed w1 s2 st rp s3
  have h1 : s1 ∈ P := kept_ite h (kept_lcFlag q h)
  have h2 : s2 ∈ P := by
    unfold s2
    split
    · split
      · exact h1
      · exact kept_lpePost q (kept_modLpe q h1)
    · exact h1
  have h3 : s3 ∈ P := kept_ite (kept_lpePost q (kept_lcPut q (kept_lcFlag q h2))) h2
  clear_value s3 rp
  extract_lets +onlyGivenNames w2 inj v injClamp v1 point sp1 wspl e0 e1 e clamp0 held xs srcClamp lr u1 u2 u w3 w4 s4 s5
  have h4 : s4 ∈ P := kept_ite (kept_lcFlag q h3) h3
  have h5 : s5 ∈ P := kept_ite h4 (kept_lcFlag q h4)
  have h6 := kept_lcOpen q h5 (l := l) (c := c) (u := u) (w0 := w4)
  clear_value s5 inj w4 u
  generalize lcOpen s5 l c u w4 = r6 at h6 ⊢
  obtain ⟨s6, u6, w6⟩ := r6
  dsimp -zeta only
  extract_lets +onlyGivenNames s7 first s8
  have h7 : s7 ∈ P := kept_lcWrite q (kept_lcStore q h6)
  have h8 : s8 ∈ P := kept_capSample q h7
  split
  · exact h8
  · exact kept_ite (kept_modLpe q h8) (kept_lpePost q (kept_lcPut q (kept_rsetb q (kept_modLpe q h8))))

theorem kept_lcStep {l r} : lcStep s l r ∈ P := by
  unfold lcStep
  extract_lets +onlyGivenNames c
  refine kept_ite h ?_
  extract_lets +onlyGivenNames s1 s2 w0
  have h1 : s1 ∈ P := kept_ite (kept_lcSwap q h) h
  have h2 : s2 ∈ P := kept_ite (kept_lcPut q h1) h1
  split
  · exact kept_lcSample q h2
  · exact kept_capSample q (kept_lcWrite q (kept_lcStore q (kept_lcOpen q (kept_ite h2 (kept_lpePost q (kept_lcFlag q (kept_rsetf
      q (kept_lcPut q (kept_injAbort q h2)))))))))

theorem kept_lpeCmd {l v} : lpeCmd s l v ∈ P := by
  unfold lpeCmd
  extract_lets +onlyGivenNames c st rej
  split
  · exact kept_ite (kept_reject q h) (kept_ite (kept_reject q h) (kept_boundReport q (kept_lcSeed q (kept_lcPut q (kept_lcStore q
      h)))))
  · exact kept_ite (kept_reject q h) (kept_boundReport q (kept_ite (kept_lcWrite q (kept_modLpe q (kept_lcPut q (kept_injAbort q
      h)))) (kept_modLpe q (kept_lcPut q (kept_injAbort q h)))))
  · exact kept_ite (kept_reject q h) (kept_boundReport q (kept_rsetf q (kept_lcPut q (kept_injAbort q h))))
  · refine kept_ite (kept_reject q h) ?_
    refine kept_boundReport q ?_
    split
    · exact kept_lcPut q h
    · exact kept_lcPut q h
    · exact kept_lcSeed q (kept_lcPut q h)
  · exact kept_reject q h

theorem kept_lcSwapIn {l c image} : (lcSwapIn s l c image).1 ∈ P := by
  unfold lcSwapIn
  dsimp only
  split
  · exact kept_fst (kept_lcSwap q (kept_lcStore q h))
  · exact kept_fst (kept_rsetb q (kept_lcStore q h))

theorem kept_lcDirect {l off v} : lcDirect s l off v ∈ P := by
  unfold lcDirect
  extract_lets +onlyGivenNames c k ty s4 s5
  have h1 : s4 ∈ P := kept_rset q h
  have h2 : s5 ∈ P := kept_ite (kept_foldl (fun _ _ h => kept_rset q h) h1) h1
  exact kept_ite h2 (kept_modLpe q h2)

theorem kept_lcSoft {l c kind} : lcSoft s l c kind ∈ P := by
  unfold lcSoft
  exact kept_modLpe q (kept_lcFlag q (kept_lcSeed q (kept_lcPut q (kept_injAbort q h))))

theorem kept_lpeTakeover {l} : lpeTakeover s l ∈ P := kept_foldl (fun _ _ h => kept_ite (kept_lcSoft q h) h) h

theorem kept_capStop {l n} : capStop s l n ∈ P := kept_ite (kept_capAbort q h) h

theorem kept_lpeWarm {l} : lpeWarm s l ∈ P := by
  unfold lpeWarm
  exact kept_modLpe q (kept_foldl (fun _ _ h => kept_capStop q h) (kept_foldl (fun _ _ h => kept_ite (kept_lcSoft q h) h) h))

theorem kept_lpeService {l} : lpeService s l ∈ P :=
  kept_foldl (fun _ _ h => kept_ite (kept_rsetf q (kept_lcPut q (kept_injAbort q h))) h) h

theorem kept_lpeRead {l off} : GivenWith P (lpeRead s l off) := by
  unfold lpeRead
  extract_lets +onlyGivenNames e
  refine kept_iteW (kept_some₂ h) ?_
  refine kept_iteW (kept_some₂ h) ?_
  refine kept_iteW (kept_some₂ h) ?_
  refine kept_iteW ?_ ?_
  · dsimp only
    split
    · exact kept_some₂ h
    · exact kept_some₂ h
    · exact kept_none₂
  · refine kept_iteW ?_ (kept_iteW (kept_some₂ h) kept_none₂)
    dsimp only
    split
    · exact kept_some₂ h
    · exact kept_some₂ h
    · exact kept_some₂ h
    · exact kept_none₂

theorem kept_lpeWrite {l off v} : Given P (lpeWrite s l off v) := by
  unfold lpeWrite
  refine kept_iteG (kept_some (kept_lpeCmd q h)) ?_
  refine kept_iteG (kept_some (kept_lcDirect q h)) ?_
  refine kept_iteG (kept_iteG (kept_some (kept_ite (kept_injStart q (kept_ite (kept_injStop q h) h)) (kept_ite (kept_injStop q h)
    h))) (kept_iteG (kept_some (kept_reject q h)) kept_none)) ?_
  refine kept_iteG ?_ kept_none
  extract_lets +onlyGivenNames n
  refine kept_iteG ?_ (kept_iteG (kept_some (kept_reject q h)) kept_none)
  extract_lets +onlyGivenNames s1 s2
  have h1 : s1 ∈ P := kept_ite (kept_capAbort q h) h
  have h2 : s2 ∈ P := kept_ite (kept_capArm q h1) h1
  exact kept_some (kept_ite (kept_capTrignow q h2) h2)

/-! ### Machine/Vision.lean -/

theorem kept_modLink {n} {f : CamLink → CamLink} : State.modLink s n f ∈ P := kept_mk q h

theorem kept_modVp {n} {f : Vp → Vp} : State.modVp s n f ∈ P := kept_mk q h

theorem kept_slotDrop {n} : slotDrop s n ∈ P := kept_postEngine q (kept_modVp q (kept_scount q h))

theorem kept_slotBytes {n off drops bs} : slotBytes s n off drops bs ∈ P :=
  kept_ite (kept_dramWrite q h) (kept_foldl (fun _ _ h => kept_ite h (kept_dramWrite q h)) h)

theorem kept_slotDone {n missing} : slotDone s n missing ∈ P := kept_postEngine q (kept_sput q (kept_modVp q h))

theorem kept_flushMissing {n k} : flushMissing s n k ∈ P := by
  induction k generalizing s with
  | zero => exact h
  | succ k ih =>
    unfold flushMissing
    split
    · split
      · exact kept_mk q h
      · exact ih (kept_slotDone q (kept_slotBytes q h))
    · exact h

theorem kept_missingRecord {n expect} : missingRecord s n expect ∈ P :=
  kept_ite (kept_slotDrop q h) (kept_flushMissing q (kept_modVp q h))

theorem kept_modFrame {n} {g : CFrame → CFrame} : State.modFrame s n g ∈ P := kept_modVp q h

theorem kept_abandonFrame {n} : abandonFrame s n ∈ P := kept_ite (kept_modVp q h) (kept_flushMissing q (kept_modVp q h))

theorem kept_linkDrop {n} : linkDrop s n ∈ P := by
  unfold linkDrop
  refine kept_ite h ?_
  extract_lets +onlyGivenNames s1 s2
  have h1 : s1 ∈ P := kept_modLink q h
  have h2 : s2 ∈ P := kept_foldl (fun _ _ h => kept_ite (kept_modFrame q h) h) h1
  exact kept_ite h2 (kept_postEngine q (kept_sputb q h2))

theorem kept_i2cCmd {l n v} : i2cCmd s l n v ∈ P :=
  kept_gated q h (fun h => kept_ite (kept_reject q h) (kept_ite (kept_reject q h) (kept_ite (kept_reject q h) (kept_sput q
    (kept_modLink q h)))))

theorem kept_camTrigger {n} : camTrigger s n ∈ P := by
  unfold camTrigger
  refine kept_ite h ?_
  extract_lets +onlyGivenNames cfg s1 s2
  have h1 : s1 ∈ P := kept_rwrap q h
  have h2 : s2 ∈ P := kept_ite h (kept_ite (kept_modLink q h1) h1)
  refine kept_foldl (fun _ _ h => kept_ite (kept_modVp q ?_) h) h2
  split
  · exact kept_ite (kept_missingRecord q (kept_modVp q h)) h
  · exact h

theorem kept_camPower {n on} : camPower s n on ∈ P := kept_ite (kept_mk q h) (kept_modLink q h)

theorem kept_camPwron {n} : camPwron s n ∈ P := kept_camPower q (kept_mk q h)

theorem kept_camCommit {l n} : camCommit s l n ∈ P := kept_ite (kept_reject q h) (kept_ite (kept_reject q h) (kept_modVp q h))

theorem kept_camCmd {l v} : camCmd s l v ∈ P := by
  unfold camCmd
  refine kept_gated q h (fun h => ?_)
  dsimp only
  split
  · exact kept_ite (kept_camTrigger q h) h
  · exact kept_ite (kept_reject q h) (kept_camPwron q h)
  · exact kept_camPower q h
  · exact kept_camCommit q h
  · exact kept_reject q h

theorem kept_vpBind {l n v} : vpBind s l n v ∈ P :=
  kept_gated q h (fun h => kept_ite (kept_reject q h) (kept_ite (kept_reject q h) (kept_ite (kept_reject q h) (kept_ite
    (kept_reject q h) (kept_regPlain q h)))))

theorem kept_vpRun {l n v} : vpRun s l n v ∈ P := by
  unfold vpRun
  extract_lets +onlyGivenNames off
  exact kept_gated q h (fun h => kept_ite (kept_modVp q (kept_sput q h)) (kept_ite h (kept_ite (kept_reject q h) (kept_ite
    (kept_reject q h) (kept_ite (kept_reject q h) (kept_modVp q (kept_sput q h)))))))

theorem kept_takeExpect {n} : (takeExpect s n).1 ∈ P := by
  unfold takeExpect
  dsimp only
  split
  · split
    · exact kept_fst (kept_modVp q h)
    · exact kept_fst h
  · exact kept_fst (kept_modVp q h)

theorem kept_frameStart {n} : frameStart s n ∈ P := by
  unfold frameStart
  extract_lets +onlyGivenNames s1 v s3 x s5
  have h1 : s1 ∈ P := kept_modFrame q h
  have h2 : s3 ∈ P := kept_ite (kept_modVp q h1) h1
  have h3 : x.1 ∈ P := kept_takeExpect q h2
  have h4 : s5 ∈ P := h3
  exact kept_ite (kept_slotDrop q h4) (kept_modVp q h4)

theorem kept_camHoldup : camHoldup s ∈ P := kept_foldl (fun _ _ h => kept_camPower q (kept_abandonFrame q h)) h

theorem kept_camBoot : camBoot s ∈ P := kept_foldl (fun _ _ h => kept_ite h (kept_camPower q (kept_modLink q h))) h

theorem kept_camCold : camCold s ∈ P := kept_foldl (fun _ _ h => kept_modVp q h) (kept_camBoot q h)

theorem kept_camRead {off} : GivenWith P (camRead s off) :=
  kept_iteW (kept_some₂ h) (kept_iteW (kept_some₂ h) (kept_iteW (kept_some₂ h) (kept_iteW (kept_some₂ h) kept_none₂)))

theorem kept_camWrite {l off v} : Given P (camWrite s l off v) := by
  unfold camWrite
  refine kept_iteG (kept_some (kept_camCmd q h)) ?_
  refine kept_iteG ?_ ?_
  · dsimp only
    split
    · exact kept_some (kept_i2cCmd q h)
    · exact kept_some (kept_gated q h (fun h => kept_sputf q h))
    · exact kept_none
  · refine kept_iteG ?_ kept_none
    extract_lets +onlyGivenNames n r
    exact kept_iteG (kept_some (kept_vpRun q h)) (kept_iteG (kept_some (kept_vpBind q h)) (kept_iteG (kept_some (kept_gated q h
      (fun h => kept_ite (kept_reject q h) (kept_sput q h)))) (kept_iteG (kept_some (kept_gated q h (fun h => kept_ite
      (kept_reject q h) (kept_ite (kept_reject q h) (kept_ite (kept_reject q h) (kept_regPlain q h)))))) kept_none)))

/-! ### Machine/EvtTable.lean -/

theorem kept_modEnt {l e} {f : Entry → Entry} : State.modEnt s l e f ∈ P := kept_modLane q h (fun _ => by rfl)

theorem kept_dispatch {l e x} : dispatch s l e x ∈ P := by
  unfold dispatch
  extract_lets +onlyGivenNames a
  split
  · exact kept_postCore q h
  · exact kept_enqueue q h
  · exact kept_vstart q h
  · exact kept_ite (kept_adcTrigger q h) h
  · exact kept_ite (kept_camTrigger q h) h
  · exact kept_ite (kept_lossOpen q h) h
  · exact kept_ite (kept_lossClose q h) h
  · exact kept_pclAction q h
  · exact h

theorem kept_fire {l e late} : fire s l e late ∈ P := by
  unfold fire
  split
  · exact h
  · exact kept_dispatch q (kept_rwrap q (kept_modEnt q h))

theorem kept_missedOne {l e} : missedOne s l e ∈ P :=
  kept_ite (kept_fire q (kept_modEnt q (kept_rsetb q (kept_rcount q h)))) (kept_modEnt q (kept_rsetb q (kept_rcount q h)))

theorem kept_missedAt {l e} : missedAt s l e ∈ P := kept_ite (kept_missedOne q h) h

theorem kept_missedPass {l} : missedPass s l ∈ P :=
  kept_ite h (kept_foldl (fun _ _ h => kept_ite (kept_fire q h) (kept_missedOne q h)) h)

theorem kept_complete {l e x fired} : complete s l e x fired ∈ P := kept_missedAt q (kept_modEnt q h)

theorem kept_setWstat {l c e result} : setWstat s l c e result ∈ P := kept_modCore q h

theorem kept_commit {l c e} : commit s l c e ∈ P := by
  unfold commit
  refine kept_ite (kept_reject q h) ?_
  dsimp only
  split
  · exact kept_setWstat q (kept_modEnt q h)
  · exact kept_setWstat q (kept_missedAt q (kept_modEnt q h))

theorem kept_cancel {l c e} : cancel s l c e ∈ P := by
  unfold cancel
  split
  · exact kept_setWstat q h
  · exact kept_ite (kept_setWstat q h) (kept_setWstat q (kept_complete q h))

theorem kept_wcmd {l c v} : wcmd s l c v ∈ P := by
  unfold wcmd
  split
  · exact kept_commit q h
  · exact kept_cancel q h
  · exact kept_reject q h

theorem kept_evtCtrl {l v} : evtCtrl s l v ∈ P :=
  kept_ite (kept_modLane q (kept_disarm q (kept_rset q h)) (fun _ => by rfl)) (kept_ite (kept_missedPass q (kept_rset q h))
    (kept_rset q h))

theorem kept_halConfigPass {l n r v} : halConfigPass s l n r v ∈ P := kept_missedPass q (kept_halConfig q h)

theorem kept_evtWarm {l} : evtWarm s l ∈ P := kept_modLane q h (fun _ => by rfl)

theorem kept_evtRead {l c off} : GivenWith P (evtRead s l c off) :=
  kept_iteW (kept_some₂ h) (kept_iteW (kept_some₂ h) (kept_iteW (kept_some₂ h) (kept_iteW (kept_some₂ h) (kept_iteW (kept_some₂
    h) kept_none₂))))

theorem kept_evtWrite {l c off v} : Given P (evtWrite s l c off v) :=
  kept_iteG (kept_some (kept_evtCtrl q h)) (kept_iteG (kept_some (kept_modCore q h)) (kept_iteG (kept_some (kept_wcmd q h))
    kept_none))

theorem kept_halEffect {l off v} : Given P (halEffect s l off v) :=
  kept_iteG (kept_some (kept_missedPass q (kept_feedCommit q h))) (kept_iteG (kept_some (kept_halConfigPass q h)) (kept_halWrite
    q h))

/-! ### Machine/Fabric.lean -/

theorem kept_modFab {f : FabSt → FabSt} : State.modFab s f ∈ P := kept_mk q h

theorem kept_modRq {n} {f : Rq → Rq} : State.modRq s n f ∈ P := kept_modFab q h

theorem kept_creditRefill : creditRefill s ∈ P :=
  kept_ite h (kept_foldl (fun _ _ h => kept_modRq q h) (kept_modFab q (kept_sput q h)))

theorem kept_eccCount {beat} : eccCount s beat ∈ P := kept_sputf q (kept_scount q h)

theorem kept_fabRead {off} : GivenWith P (fabRead s off) :=
  kept_iteW (kept_some₂ h) (kept_iteW (kept_some₂ h) (kept_iteW (kept_some₂ h) kept_none₂))

theorem kept_fabWrite {l off v} : Given P (fabWrite s l off v) :=
  kept_iteG (kept_some (kept_gated q h (fun h => kept_ite (kept_modFab q (kept_regPlain q h)) (kept_regPlain q h)))) (kept_iteG
    (kept_some (kept_gated q h (fun h => kept_modRq q (kept_regPlain q h)))) kept_none)

theorem kept_fabStore {l off v} : fabStore s l off v ∈ P := kept_getD (kept_fabWrite q h) h

theorem kept_fabWarm : fabWarm s ∈ P := kept_sputf q h

/-! ### Machine/Panel.lean -/

theorem kept_modPnl {f : PnlSt → PnlSt} : State.modPnl s f ∈ P := kept_mk q h

theorem kept_modPslot {n} {f : PSlot → PSlot} : State.modPslot s n f ∈ P := kept_modPnl q h

theorem kept_pnlPost {code data} : pnlPost s code data ∈ P := kept_postEngine q h

theorem kept_pnlGo {st} : pnlGo s st ∈ P := kept_ite h (kept_pnlPost q (kept_modPnl q h))

theorem kept_pnlPowerUp : pnlPowerUp s ∈ P := kept_ite h (kept_pnlGo q (kept_modPnl q h))

theorem kept_pnlDischarge : pnlDischarge s ∈ P := kept_pnlGo q (kept_modPnl q h)

theorem kept_pslotEnd {n discarded} : pslotEnd s n discarded ∈ P := kept_pnlPost q (kept_modPslot q h)

theorem kept_pnlHeld {base} : pnlHeld s base ∈ P := by
  unfold pnlHeld
  exact kept_modPnl q h

theorem kept_pnlTargets : pnlTargets s ∈ P := kept_pnlHeld q h

theorem kept_pnlDiscard : pnlDiscard s ∈ P := kept_pnlTargets q (kept_foldl (fun _ _ h => kept_pslotEnd q h) h)

theorem kept_pnlStopLines {p : ℕ → Bool} : pnlStopLines s p ∈ P :=
  kept_pnlTargets q (kept_foldl (fun _ _ h => kept_pslotEnd q h) (kept_modPnl q (kept_foldl (fun _ _ h => kept_mk q h) h)))

theorem kept_pnlRefresh : pnlRefresh s ∈ P :=
  kept_ite (kept_pnlTargets q (kept_modPnl q h)) (kept_pnlPowerUp q (kept_pnlHeld q (kept_modPnl q (kept_modPslot q h))))

theorem kept_pnlStart : pnlStart s ∈ P :=
  kept_ite h (kept_ite (kept_modPnl q (kept_modPnl q h)) (kept_pnlRefresh q (kept_modPnl q h)))

theorem kept_pnlUpdate {l v} : pnlUpdate s l v ∈ P := by
  unfold pnlUpdate
  refine kept_ite (kept_reject q h) ?_
  split
  · exact kept_reject q h
  · exact kept_ite (kept_reject q h) (kept_sput q (kept_modPnl q (kept_modPslot q h)))

theorem kept_updateStart {n} : updateStart s n ∈ P :=
  kept_foldl (fun _ _ h => kept_modPnl q h) (kept_modPnl q (kept_modPslot q (kept_sput q (kept_ite (kept_sputb q h) h))))

theorem kept_pnlFinish : pnlFinish s ∈ P := kept_foldl (fun _ _ h => kept_ite h (kept_pslotEnd q h)) (kept_modPnl q h)

theorem kept_frameBegin : frameBegin s ∈ P := by
  unfold frameBegin
  exact kept_modPnl q h

theorem kept_pnlAdvance : pnlAdvance s ∈ P := kept_modPnl q h

theorem kept_pnlBoundary : pnlBoundary s ∈ P := by
  unfold pnlBoundary
  extract_lets +onlyGivenNames s1
  have h1 : s1 ∈ P := kept_pnlFinish q (kept_ite h (kept_foldl (fun _ _ h => kept_updateStart q h) h))
  exact kept_ite (kept_frameBegin q (kept_pnlGo q h1)) (kept_ite (kept_pnlDischarge q (kept_modPnl q h1)) (kept_ite (kept_modPnl
    q h1) (kept_pnlGo q (kept_modPnl q (kept_modPnl q h1)))))

theorem kept_pnlDischargeCmd {l} : pnlDischargeCmd s l ∈ P := kept_ite (kept_pnlDischarge q h) (kept_reject q h)

theorem kept_pnlCrack {r} : pnlCrack s r ∈ P :=
  kept_ite (kept_sput q h) (kept_pnlPost q (kept_pnlGo q (kept_modPnl q (kept_pnlDiscard q (kept_pnlStopLines q (kept_sput q
    h))))))

theorem kept_pnlRecheck {l} : pnlRecheck s l ∈ P :=
  kept_ite (kept_reject q h) (kept_ite (kept_pnlRefresh q (kept_pnlGo q (kept_sput q h))) (kept_sput q h))

theorem kept_pnlWind {stop} : pnlWind s stop ∈ P := by
  unfold pnlWind
  split
  · exact kept_pnlDischarge q h
  · exact kept_ite (kept_pnlDischarge q h) (kept_modPnl q h)
  · exact h

theorem kept_pnlHoldup : pnlHoldup s ∈ P := kept_pnlWind q (kept_pnlDiscard q h)

theorem kept_pnlPark : pnlPark s ∈ P := kept_pnlWind q (kept_pnlDiscard q h)

theorem kept_pnlFault : pnlFault s ∈ P := kept_pnlWind q h

theorem kept_pnlCold : pnlCold s ∈ P := kept_pnlStart q (kept_mk q h)

theorem kept_pnlCmd {l v} : pnlCmd s l v ∈ P := by
  unfold pnlCmd
  refine kept_gated q h (fun h => ?_)
  split
  · exact kept_pnlUpdate q h
  · exact kept_pnlDischargeCmd q h
  · exact kept_pnlRecheck q h
  · exact kept_reject q h

theorem kept_pnlRead {off} : GivenWith P (pnlRead s off) :=
  kept_iteW (kept_some₂ h) (kept_iteW (kept_some₂ h) (kept_iteW (kept_some₂ h) (kept_iteW (kept_some₂ h) kept_none₂)))

theorem kept_pnlWrite {l off v} : Given P (pnlWrite s l off v) :=
  kept_iteG kept_none (kept_iteG (kept_some (kept_pnlCmd q h)) (kept_some (kept_gated q h (fun h => kept_ite (kept_regPlain q h)
    (kept_ite (kept_reject q h) (kept_ite (kept_reject q h) (kept_ite (kept_modPnl q (kept_regPlain q h)) (kept_regPlain q
    h))))))))

/-! ### Machine/Power.lean -/

theorem kept_modPwr {f : PwrSt → PwrSt} : State.modPwr s f ∈ P := kept_mk q h

theorem kept_bankEnergy {e} : bankEnergy s e ∈ P := kept_modPwr q h

theorem kept_shedStop : shedStop s ∈ P := kept_modPwr q h

theorem kept_pwrRead {off} : GivenWith P (pwrRead s off) := by
  unfold pwrRead
  extract_lets +onlyGivenNames p w0 part
  exact kept_iteW (kept_some₂ h) (kept_iteW (kept_some₂ h) (kept_iteW (kept_some₂ h) (kept_iteW (kept_some₂ h) (kept_iteW
    (kept_some₂ h) (kept_iteW (kept_some₂ h) (kept_iteW (kept_some₂ h) (kept_iteW (kept_some₂ h) (kept_iteW (kept_some₂ h)
    (kept_iteW (kept_some₂ h) (kept_iteW (kept_some₂ h) (kept_iteW (kept_some₂ h) (kept_iteW (kept_some₂ h) kept_none₂))))))))))))

theorem kept_pwrWrite {l off v} : Given P (pwrWrite s l off v) :=
  kept_iteG (kept_some (kept_gated q h (fun h => kept_modPwr q (kept_regPlain q h)))) kept_none

theorem kept_pwrFault : pwrFault s ∈ P := kept_modPwr q h

theorem kept_pwrWarm : pwrWarm s ∈ P := kept_modPwr q h

theorem kept_pwrCold : pwrCold s ∈ P := kept_modPwr q h

/-! ### Machine/LinSent.lean -/

theorem kept_modLin {n} {f : LinCh → LinCh} : State.modLin s n f ∈ P := kept_mk q h

theorem kept_linBegin {n t k} : linBegin s n t k ∈ P := kept_modLin q h

theorem kept_linToSleep {n} : linToSleep s n ∈ P := kept_modLin q h

theorem kept_linFault : linFault s ∈ P := kept_mk q h

theorem kept_linLog {n status d} : linLog s n status d ∈ P := kept_ringSend q (kept_ite h (kept_scount q h))

theorem kept_linAnswer {n got framing} : linAnswer s n got framing ∈ P :=
  kept_ite (kept_linLog q (kept_modLin q h)) (kept_ite (kept_linLog q (kept_modLin q h)) (kept_modLin q h))

theorem kept_linCmd {l v} : linCmd s l v ∈ P := by
  unfold linCmd
  refine kept_gated q h (fun h => ?_)
  extract_lets +onlyGivenNames n t c no op
  clear_value op
  refine kept_ite (kept_reject q h) ?_
  refine kept_ite (kept_reject q h) ?_
  split
  · exact kept_ite (kept_reject q h) (kept_ite (kept_reject q h) (kept_linBegin q (kept_modLin q h)))
  · exact kept_ite (kept_reject q h) (kept_ite (kept_reject q h) (kept_modLin q h))
  · exact kept_ite (kept_reject q h) (kept_modLin q h)
  · split
    · exact kept_reject q h
    · exact kept_linToSleep q h
    · exact kept_modLin q h
  · exact kept_ite (kept_modLin q h) (kept_reject q h)

theorem kept_cfgWhileOff {l b off v} : cfgWhileOff s l b off v ∈ P :=
  kept_gated q h (fun h => kept_ite (kept_reject q h) (kept_ite (kept_reject q h) (kept_regPlain q h)))

theorem kept_linRead {off} : GivenWith P (linRead s off) := kept_iteW (kept_some₂ h) (kept_iteW (kept_some₂ h) kept_none₂)

theorem kept_linWrite {l off v} : Given P (linWrite s l off v) :=
  kept_iteG (kept_some (kept_linCmd q h)) (kept_iteG (kept_some (kept_ringWrite q h)) (kept_iteG (kept_some (kept_cfgWhileOff q
    h)) (kept_iteG (kept_some (kept_gated q h (fun h => kept_ite (kept_reject q h) (kept_regPlain q h)))) kept_none)))

theorem kept_modSent {n} {f : SentCh → SentCh} : State.modSent s n f ∈ P := kept_mk q h

theorem kept_sentLog {n lc htb data kind id} : sentLog s n lc htb data kind id ∈ P := kept_ringSend q h

theorem kept_sentSlow {n lc htb status} : sentSlow s n lc htb status ∈ P := by
  unfold sentSlow
  dsimp only
  split
  · exact kept_modSent q h
  · exact kept_ite (kept_sentLog q (kept_sput q (kept_modSent q h))) (kept_rcount q (kept_modSent q h))

theorem kept_sentFrame {n cal status nib crc bad flen age} : sentFrame s n cal status nib crc bad flen age ∈ P := by
  unfold sentFrame
  extract_lets +onlyGivenNames cfg t inv s1
  have h1 : s1 ∈ P := kept_modSent q h
  refine kept_both (kept_ite ?_ ?_) fun _ _ h => kept_missedPass q (kept_sentEdge q h)
  · exact kept_ite (kept_sentLog q (kept_mk q (kept_modSent q (kept_rcount q h1)))) (kept_modSent q (kept_rcount q h1))
  · exact kept_sentSlow q (kept_ite (kept_sentLog q (kept_modSent q (kept_sput q h1))) (kept_modSent q (kept_sput q h1)))

theorem kept_sntRead {l off} : GivenWith P (sntRead s l off) :=
  kept_iteW (kept_some₂ h) (kept_iteW (kept_some₂ (kept_rset q h)) kept_none₂)

theorem kept_sntWrite {l off v} : Given P (sntWrite s l off v) :=
  kept_iteG (kept_some (kept_ringWrite q h)) (kept_iteG (kept_some (kept_cfgWhileOff q h)) kept_none)

/-! ### Machine/SerialPort.lean -/

theorem kept_modPort {n} {f : SerPort → SerPort} : State.modPort s n f ∈ P := kept_mk q h

theorem kept_serClose {n flags} : serClose s n flags ∈ P := kept_ite h (kept_ringSend q (kept_modPort q h))

theorem kept_serTxd {l n v} : serTxd s l n v ∈ P := kept_gated q h (fun h => kept_ite (kept_reject q h) (kept_modPort q h))

theorem kept_ppsRead {l k} : (ppsRead s l k).2 ∈ P := kept_snd (kept_mk q (kept_rset q (kept_rset q (kept_rset q h))))

theorem kept_serRead {l off} : GivenWith P (serRead s l off) :=
  kept_iteW (kept_some₂ h) (kept_iteW (kept_some₂ h) (kept_iteW (kept_someOf (kept_ppsRead q h)) kept_none₂))

theorem kept_serWrite {l off v} : Given P (serWrite s l off v) :=
  kept_iteG (kept_iteG (kept_some (kept_cfgWhileOff q h)) (kept_iteG (kept_some (kept_serTxd q h)) (kept_iteG (kept_some
    (kept_ringWrite q h)) kept_none))) (kept_iteG (kept_some (kept_cfgWhileOff q h)) kept_none)

/-! ### Machine/BusBase.lean -/

theorem kept_cmderrRead {l a} : (cmderrRead s l a).2 ∈ P := kept_snd (kept_rsetf q h)

theorem kept_cmderrWrite {l a v} : cmderrWrite s l a v ∈ P := kept_ite (kept_rsetb q h) h

theorem kept_wdRestart {l} : wdRestart s l ∈ P := by
  unfold wdRestart
  exact kept_modLane q h (fun _ => by rfl)

theorem kept_wdStart {l} : wdStart s l ∈ P := kept_ite (kept_wdRestart q h) h

theorem kept_wdKick {l c v} : wdKick s l c v ∈ P :=
  kept_ite (kept_modLane q h (fun _ => by rfl)) (kept_ite (kept_wdRestart q (kept_modLane q h (fun _ => by rfl))) (kept_modLane q
    h (fun _ => by rfl)))

theorem kept_wdCfg {l v} : wdCfg s l v ∈ P :=
  kept_ite (kept_reject q h) (kept_ite (kept_reject q h) (kept_ite (kept_regPlain q h) (kept_wdStart q (kept_regPlain q h))))

theorem kept_seqRegWrite {l n v} : seqRegWrite s l n v ∈ P :=
  kept_ite (kept_reject q h) (kept_ite (kept_reject q (kept_modSeq q h)) (kept_ite (kept_reject q (kept_modSeq q h)) (kept_modSeq
    q (kept_modSeq q h))))

theorem kept_sysRead {l off} : GivenWith P (sysRead s l off) := by
  unfold sysRead
  split
  · exact kept_some₂ h
  · exact kept_some₂ h
  · exact kept_some₂ h
  · exact kept_some₂ h
  · exact kept_some₂ h
  · exact kept_some₂ h
  · exact kept_some₂ h
  · exact kept_some₂ h
  · exact kept_some₂ h
  · exact kept_some₂ h
  · exact kept_some₂ h
  · exact kept_some₂ h
  · exact kept_some₂ h
  · exact kept_iteW (kept_some₂ h) kept_none₂

theorem kept_sysWrite {l c off v} : Given P (sysWrite s l c off v) :=
  kept_iteG (kept_some (kept_wdCfg q h)) (kept_iteG (kept_some (kept_wdKick q h)) (kept_iteG (kept_some (kept_reject q h))
    (kept_iteG (kept_some (kept_seqRegWrite q h)) kept_none)))

theorem kept_blockRead {l c b off} : GivenWith P (blockRead s l c b off) := by
  cases b with
  | sys => exact kept_sysRead q h
  | hal => exact kept_halRead q h
  | evt => exact kept_evtRead q h
  | lpe => exact kept_lpeRead q h
  | ddv => exact kept_ddvRead q h
  | pvc => exact kept_pvcRead q h
  | lsw => exact kept_lswRead q h
  | hsi =>
    unfold blockRead
    dsimp only
    split
    next e => exact e ▸ kept_hsiRead q h
    next => exact kept_lossRead q h
  | pcl => exact kept_pclRead q h
  | cam => exact kept_camRead q h
  | fus => exact kept_fusRead q h
  | can => exact kept_canRead q h
  | lin => exact kept_linRead q h
  | snt => exact kept_sntRead q h
  | ser => exact kept_serRead q h
  | eth => exact kept_ethRead q h
  | tim => exact kept_timRead q h
  | hst => exact kept_hstRead q h
  | fab => exact kept_fabRead q h
  | recd => exact kept_recRead q h
  | pnl => exact kept_pnlRead q h
  | cfg => exact kept_cfgRead q h
  | sec => exact kept_secRead q h
  | pwr =>
    unfold blockRead
    dsimp only
    split
    · exact kept_some₂ h
    · exact kept_pwrRead q h

theorem kept_plainRead {l b off} : (plainRead s l b off).2 ∈ P := by
  unfold plainRead
  split
  · exact kept_snd h
  · dsimp only
    split
    · exact kept_snd (kept_rset q h)
    · exact kept_snd h

theorem kept_regRead {l c a} : (regRead s l c a).2 ∈ P := by
  unfold regRead
  dsimp only
  split
  · exact h
  · split
    · exact kept_cmderrRead q h
    · split
      · exact h
      · split
        next e => have h1 := kept_blockRead q h _ e; exact h1
        next => exact kept_plainRead q h

theorem kept_blockWrite {l c b off v} : Given P (blockWrite s l c b off v) := by
  unfold blockWrite
  split
  · exact kept_sysWrite q h
  · exact kept_halEffect q h
  · exact kept_evtWrite q h
  · exact kept_lpeWrite q h
  · exact kept_iteG (kept_some (kept_seqWrite q h)) kept_none
  · exact kept_iteG (kept_some (kept_seqWrite q h)) kept_none
  · exact kept_iteG (kept_some (kept_seqWrite q h)) kept_none
  · exact kept_hsiWrite q h
  · exact kept_pclWrite q h
  · exact kept_camWrite q h
  · exact kept_fusWrite q h
  · exact kept_canWrite q h
  · exact kept_linWrite q h
  · exact kept_sntWrite q h
  · exact kept_serWrite q h
  · exact kept_ethWrite q h
  · exact kept_timWrite q h
  · exact kept_hstWrite q h
  · exact kept_fabWrite q h
  · exact kept_recWrite q h
  · exact kept_pnlWrite q h
  · exact kept_cfgWrite q h
  · exact kept_secWrite q h
  · exact kept_pwrWrite q h

theorem kept_genericWrite {l b off v} : genericWrite s l b off v ∈ P := by
  unfold genericWrite
  split
  · exact h
  · exact kept_ite (kept_regPlain q h) (kept_gated q h (fun h => kept_regPlain q h))

theorem kept_regWriteBase {l c a v} : regWriteBase s l c a v ∈ P :=
  kept_ite h (kept_ite (kept_cmderrWrite q h) (kept_ite h (kept_getD (kept_blockWrite q h) (kept_genericWrite q h))))

theorem kept_areaStore {g a n v} : areaStore s g a n v ∈ P := by
  unfold areaStore
  split
  · exact kept_dramWrite q (kept_mk q h)
  · exact kept_mk q (q.dram h fun _ ht => tabWf_tset ht g (mwriteLE_wf _ _ _ _ (ht g)))

/-! ### Machine/Lanes.lean -/

theorem kept_setCause {l c} : setCause s l c ∈ P :=
  kept_modSup q h fun _ => by cases l <;> rfl

theorem kept_coresStop {l} : coresStop s l ∈ P := kept_modLane q h (fun _ => by rfl)

theorem kept_linksClear {l} : linksClear s l ∈ P := kept_foldl (fun _ _ h => kept_modSeq q h) h

theorem kept_ownEngines {l e} : ownEngines s l e ∈ P := kept_ite h (kept_modSup q h (fun _ => by rfl))

theorem kept_ownAll {l e} : ownAll s l e ∈ P := kept_ownEngines q (kept_work q h (kept_foldl (fun _ _ h => kept_ownSeq q h) h))

theorem kept_recStart : recStart s ∈ P := kept_record q h

theorem kept_engineStops {e} : engineStops s e ∈ P := by
  unfold engineStops
  split
  · exact kept_modTim q (kept_timFreeze q h)
  · exact kept_pnlFault q h
  · exact kept_cfgFault q h
  · exact kept_secFault q h
  · exact kept_pwrFault q h
  · exact kept_canFault q h
  · exact kept_linFault q h
  all_goals exact h

theorem kept_engineFault {e code} : engineFault s e code ∈ P :=
  kept_ite h (kept_atOnce q h (fun h => kept_hardFault q (kept_engineStops q h)))

/-! ### Machine/Modes.lean -/

theorem kept_levelsBoth : levelsBoth s ∈ P := kept_levelsFromSeqs q (kept_levelsFromSeqs q h)

theorem kept_leaveBench : leaveBench s ∈ P := kept_levelsBoth q (kept_dutiesTo q (kept_switchesOff q (kept_benchIdle q h)))

theorem kept_serviceOff : serviceOff s ∈ P :=
  kept_levelsBoth q (kept_lpeService q (kept_lpeService q (kept_foldl (fun _ _ h => kept_bankDiscard q h) (kept_dutiesTo q
    (kept_switchesOff q h)))))

theorem kept_enterService : enterService s ∈ P := kept_hstResign q (kept_serviceOff q h)

theorem kept_enterBench : enterBench s ∈ P := kept_hstResign q (kept_foldl (fun _ _ h => kept_benchLevel q h) h)

theorem kept_groupsSettle : groupsSettle s ∈ P := kept_foldl (fun _ _ h => kept_groupSettle q h) h

theorem kept_watchdogsOff : watchdogsOff s ∈ P := kept_both h (fun _ _ h => kept_modLane q h (fun _ => by rfl))

theorem kept_camPark : camPark s ∈ P :=
  kept_foldl (fun _ _ h => kept_modLink q (kept_camPower q (kept_linkDrop q (kept_abandonFrame q h)))) h

theorem kept_canPark : canPark s ∈ P := kept_foldl (fun _ _ h => kept_ite (kept_canSetMode q (kept_canAttemptEnd q h)) h) h

theorem kept_wakeUp {src} : wakeUp s src ∈ P := kept_ite (kept_modSup q h (fun _ => by rfl)) h

/-! ### Machine/Starting.lean -/

theorem kept_cfgSeqWrite {l b off v} : cfgSeqWrite s l b off v ∈ P := by
  unfold cfgSeqWrite
  refine kept_ite (kept_reject q h) ?_
  refine kept_ite (kept_reject q h) ?_
  split
  · exact kept_ddvExec q h
  · exact kept_pvcExec q h
  · exact kept_lswExec q h

theorem kept_cfgWrite1 {l a v} : cfgWrite1 s l a v ∈ P := kept_ite (kept_cfgSeqWrite q h) (kept_regWriteBase q h)

theorem kept_cfgCounted {a} {f : State → State} (hf : ∀ {t}, t ∈ P → f t ∈ P) : cfgCounted f a s ∈ P :=
  kept_ite (kept_scount q (kept_rset q (kept_rset q (hf (kept_rset q (kept_rset q h)))))) (kept_rset q (kept_rset q (hf
    (kept_rset q (kept_rset q h)))))

theorem kept_loadSeg {p l k} : loadSeg p l s k ∈ P := by
  unfold loadSeg
  dsimp only
  split
  · exact q.lmem h fun _ ht => tabWf_tset ht _ (mwriteN_wf _ _ _ (ht _))
  · exact q.sram h fun _ hm => mwriteN_wf _ _ _ hm
  · exact kept_dramWrite q h

theorem kept_memsCleared {l} : (s.modLane l fun x => { x with lmem := [], sram := [] }) ∈ P := by
  have h1 := q.sram (l := l) (f := fun _ => []) (q.lmem (l := l) (f := fun _ => []) h fun _ _ _ => rfl) fun _ _ => rfl
  cases l <;> exact h1

theorem kept_loadImage : loadImage s ∈ P := by
  unfold loadImage
  exact kept_modSup q (kept_work q h (kept_both h fun _ _ h =>
    kept_foldl (fun _ _ h => kept_loadSeg q h) (kept_memsCleared q h))) fun _ => rfl

theorem kept_bootCore {p l c} : bootCore s p l c ∈ P := kept_modCore q h

theorem kept_bootLane {l} : bootLane s l ∈ P := kept_foldl (fun _ _ h => kept_bootCore q h) h

theorem kept_bootLanes : bootLanes s ∈ P :=
  kept_ite h (kept_modSup q (kept_work q h (kept_both h (fun _ _ h => kept_ite (kept_bootLane q h) h))) (fun _ => by rfl))

theorem kept_coldEngines : coldEngines s ∈ P :=
  kept_work q h (kept_pwrCold q (kept_pnlCold q (kept_camCold q (kept_timCold q (kept_both (kept_foldl (fun _ _ h =>
    kept_fnArrive q (kept_sput q h)) h) (fun _ _ h => kept_selsReset q h))))))

theorem kept_coldImage : coldImage s ∈ P := by
  unfold coldImage
  dsimp only
  split
  · exact kept_loadImage q (kept_modSup q (kept_modSec q h) (fun _ => by rfl))
  · exact kept_modSec q h

theorem kept_regsWarm : regsWarm s ∈ P := by
  unfold regsWarm
  exact kept_both (kept_mk q h) (fun _ _ h => kept_modLane q h (fun _ => by rfl))

theorem kept_seqStop {n} : seqStop s n ∈ P := kept_modSeq q (kept_seqClass q h)

theorem kept_warmOutputs {cause} : warmOutputs s cause ∈ P :=
  kept_ite (kept_dutiesTo q (kept_switchesOff q (kept_ite (kept_switchesOff q (kept_mk q h)) (kept_mk q h)))) (kept_ite
    (kept_switchesOff q (kept_mk q h)) (kept_mk q h))

theorem kept_wakeEngines : wakeEngines s ∈ P := by
  unfold wakeEngines
  extract_lets +onlyGivenNames before s2
  have h1 : s2 ∈ P := kept_modSup q h (fun _ => by rfl)
  exact kept_work q h1 (kept_timWake q (kept_pnlStart q (kept_camBoot q (kept_foldl (fun _ _ h => kept_ite (kept_canSetMode q
    (kept_modCan q h)) h) h1))))

theorem kept_holdupReturn : holdupReturn s ∈ P := by
  unfold holdupReturn
  exact kept_modSup q (kept_modPwr q (kept_work q h (kept_sput q h))) (fun _ => by rfl)

theorem kept_holdupStops {v1 v2} : holdupStops s v1 v2 ∈ P := by
  unfold holdupStops
  extract_lets +onlyGivenNames s1 s2
  have h1 : s1 ∈ P := kept_recHoldup q h (fun h => kept_record q h)
  have h2 : s2 ∈ P := kept_dutiesTo q (kept_banksWind q (kept_switchesOff q h1))
  exact kept_hstResign q (kept_imgAbandon q (kept_cfgAbandon q (kept_pclHalt q h2)))

theorem kept_holdupOnPark {v1 v2} : holdupOnPark s v1 v2 ∈ P := kept_imgAbandon q (kept_cfgAbandon q (kept_record q h))

/-! ### Machine/RanlyBase.lean -/

theorem kept_stallGuard {l c} {r : State} (h'1 : r ∈ P) : stallGuard s r l c ∈ P := kept_ite h h'1

theorem kept_trap {l c code len tval} : trap s l c code len tval ∈ P :=
  kept_ite (kept_foldl (fun _ _ h => kept_ite h (kept_postCore q h)) (kept_modCore q h)) (kept_modCore q h)

/-! ### Machine/RanlyFlow.lean -/

theorem kept_jump {i t} {f : Core → Core} : jump i t f s ∈ P := kept_ite (kept_trap q h) (kept_modCore q h)

/-! ### Machine/Waits.lean -/

theorem kept_waitIssue {i d target event} : waitIssue i d target event s ∈ P := kept_modCore q h

/-! ### Machine/JobCore.lean -/

theorem kept_jobDone {n seq} : jobDone s n seq ∈ P := kept_ite (kept_HEff_run q (kept_HEff_run q h)) (kept_HEff_run q h)

/-! ### Machine/RanlyMem.lean -/

theorem kept_dramLoad {l a n win} : dramLoad s l a n win ∈ P := kept_ite (kept_dramMeet q h) h

/-! ### Machine/Dram.lean -/

theorem kept_drainRec {w0} : drainRec s w0 ∈ P :=
  kept_ite h (kept_ite (kept_canPlaced q (kept_ringSend q h)) (kept_ringSend q h))

theorem kept_dramDrain : dramDrain s ∈ P :=
  kept_foldl (fun _ _ h => kept_flushMissing q h) (kept_foldl (fun _ _ h => kept_drainRec q h) (kept_mk q h))

end

end Sys2Proof.Machine
end

section
/-! PROOFS. What the instructions of a core keep, beside the work of the engines: a store may reach the register space. -/

namespace Sys2Proof.Machine

section
variable {P : Set State} (q : Quiet P) (w : ∀ {s l c a v}, s ∈ P → regWriteAny s l c a v ∈ P) {s : State} (h : s ∈ P)
include q w h

theorem kept_regWriteAny {l c a v} : regWriteAny s l c a v ∈ P := w h

/-! ### Machine/Bus.lean -/

theorem kept_regWrite {l c a v} : regWrite s l c a v ∈ P := kept_closed q (kept_regWriteAny q w h)

/-! ### Machine/RanlyBase.lean -/

theorem kept_applyStore {l c b} : applyStore s l c b ∈ P := by
  unfold applyStore
  split
  · exact q.lmem h fun _ ht => tabWf_tset ht c (mwriteLE_wf _ _ _ _ (ht c))
  · exact q.sram h fun _ hm => mwriteLE_wf _ _ _ _ hm
  · split
    · exact kept_ite (kept_areaStore q h) (kept_modLane q h fun _ => by rfl)
    · split
      · exact kept_mk q (q.dram h fun _ ht => tabWf_tset ht _ (mwriteLE_wf _ _ _ _ (ht _)))
      · exact h
  · exact kept_regWrite q w h
  · exact h

theorem kept_drainFirst {l c} {p : BufStore → Bool} : drainFirst s l c p ∈ P := by
  unfold drainFirst
  split
  · exact kept_applyStore q w (kept_modCore q h)
  · exact h

theorem kept_drainAll {l c} {p : BufStore → Bool} : drainAll s l c p ∈ P := kept_foldl (fun _ _ h => kept_drainFirst q w h) h

theorem kept_drainLane {l c} : drainLane s l c ∈ P := by
  unfold drainLane
  split
  · exact kept_drainFirst q w h
  · exact h

theorem kept_fenceL {l c} : fenceL s l c ∈ P := kept_foldl (fun _ _ h => kept_drainLane q w h) (kept_modCore q h)

theorem kept_fenceE {l c} : fenceE s l c ∈ P := kept_drainAll q w (kept_modCore q h)

theorem kept_fenceDone {l c} : fenceDone s l c ∈ P := by
  unfold fenceDone
  split
  · exact h
  · exact kept_modCore q (kept_fenceL q w h)
  · exact kept_modCore q (kept_fenceE q w h)

theorem kept_issue {i len uses} {k : State → State} (hk : ∀ {t}, t ∈ P → k t ∈ P) : issue i len uses s k ∈ P := by
  unfold issue
  extract_lets +onlyGivenNames l c
  refine kept_ite h ?_
  extract_lets +onlyGivenNames s' x r r4
  have h2 : s' ∈ P := kept_fenceDone q w h
  have h3 : r ∈ P := kept_ite h2 (kept_ite (kept_trap q h2) (kept_ite (kept_trap q h2) (kept_ite (kept_modCore q h2) (kept_ite h2
    (hk (kept_modCore q h2))))))
  have h4 : r4 ∈ P := kept_ite (kept_modCore q h3) (kept_stallGuard q h h3)
  exact kept_mk q h4

theorem kept_issueCore {i uses} {f : Core → Core} : issueCore i uses s f ∈ P := kept_issue q w h (fun h => kept_modCore q h)

/-! ### Machine/RanlyFlow.lean -/

theorem kept_reservedStores {l c n} : reservedStores s l c n ∈ P :=
  kept_foldl (fun _ _ h => kept_ite h (kept_applyStore q w h)) h

/-! ### Machine/Waits.lean -/

theorem kept_waitPos {i d a b f event} : waitPos i d a b f event s ∈ P :=
  kept_issue q w h (fun h => kept_ite (kept_trap q h) (kept_waitIssue q h))

/-! ### Machine/JobCore.lean -/

theorem kept_writeBytes {l c a bs} : writeBytes s l c a bs ∈ P := kept_foldl (fun _ _ h => kept_applyStore q w h) h

/-! ### Machine/RanlyMem.lean -/

theorem kept_loadData {l c a n win} : (loadData s l c a n win).2 ∈ P := by
  unfold loadData
  dsimp only
  split
  · exact kept_snd (kept_dramLoad q h)
  · split
    · exact kept_snd h
    · exact kept_snd (kept_dramLoad q (kept_drainAll q w h))

theorem kept_loadReg {l c a n} : (loadReg s l c a n).2 ∈ P := by
  unfold loadReg
  dsimp only
  split
  · exact kept_snd (kept_drainAll q w h)
  · exact kept_snd (kept_keep q (kept_drainAll q w h) (kept_regRead q (kept_drainAll q w h)))

theorem kept_load {i d a k n} {ext : ℕ → Word} : load i d a k n ext s ∈ P := by
  unfold load
  refine kept_issue q w h (fun h => ?_)
  dsimp only
  split
  · exact kept_trap q h
  · refine kept_modCore q ?_
    split
    · exact kept_snd (kept_mk q h)
    · split
      · exact kept_loadReg q w h
      · exact kept_loadReg q w h
      · exact kept_loadData q w h

theorem kept_store {i v a k n} : store i v a k n s ∈ P := by
  unfold store
  refine kept_issue q w h (fun h => ?_)
  dsimp only
  split
  · exact kept_trap q h
  · exact kept_ite h (kept_modCore q (kept_ite (kept_mk q (kept_ite (kept_drainFirst q w h) h)) (kept_ite (kept_drainFirst q w h)
      h)))

end

end Sys2Proof.Machine
end

section
/-! PROOFS. What a step keeps: a command of an engine and an instruction of a core, put together from the functions that they call. -/

namespace Sys2Proof.Machine

/-- An outcome is refused, or a next state of which `P` holds. -/
def Kept (P : Set State) (o : Out) : Prop := ∀ t, o = .next t → t ∈ P

section
variable {P : Set State}

theorem kept_next {s : State} (h : s ∈ P) : Kept P (.next s) := fun _ e => Host.Outcome.next.inj e ▸ h

end

section
variable {P : Set State} (q : Quiet P) {s : State} (h : s ∈ P)
include q

theorem kept_actSup {t : State} (k : t ∈ P) : Kept P (actSup s t) := kept_next (kept_closed q k)

include h

theorem kept_act {t : State} (k : t ∈ P) : Kept P (act s t) := kept_next (kept_ite h (kept_modeStep q (q.keep h k)))

theorem kept_actL {t : State} (k : t ∈ P) : Kept P (actL s t) := kept_next (kept_ite (kept_modeStep q (q.keep h k)) h)

theorem kept_actOn {t : State} (k : t ∈ P) : Kept P (actOn s t) := kept_next (kept_ite h (kept_closed q k))

theorem kept_actUp {t : State} (k : t ∈ P) : Kept P (actUp s t) := kept_next (kept_ite (kept_closed q k) h)

/-! ### Commands of the engines -/

theorem kept_execMissingCopyTimeout {l n} : Kept P (execMissingCopyTimeout l n s) := by
  unfold execMissingCopyTimeout
  refine kept_act q h ?_
  split
  · exact h
  · exact kept_ite h (kept_ite (kept_modSeq q h) (kept_ite (kept_mismatch q (kept_modSeq q h)) (kept_mismatch q (kept_modSeq q
      h))))

theorem kept_execEntryFire {l e} : Kept P (execEntryFire l e s) := by
  unfold execEntryFire
  refine kept_actL q h ?_
  split
  · exact h
  · exact kept_ite (kept_fire q h) h

theorem kept_execOccurrenceComplete {l e} : Kept P (execOccurrenceComplete l e s) := by
  unfold execOccurrenceComplete
  refine kept_actL q h ?_
  split
  · exact kept_ite (kept_complete q h) h
  · exact h

theorem kept_execSampleStep {l} : Kept P (execSampleStep l s) := by
  unfold execSampleStep
  refine kept_actL q h ?_
  split
  · exact h
  · exact kept_lcStep q (kept_rwrap q (kept_modLpe q h))

theorem kept_execBankRequest {l b} : Kept P (execBankRequest l b s) := by
  unfold execBankRequest
  refine kept_act q h ?_
  split
  · exact kept_ite (kept_deliver q h) h
  · exact h

theorem kept_execRequestDeadline {c} : Kept P (execRequestDeadline c s) := by
  unfold execRequestDeadline
  refine kept_act q h ?_
  split
  · exact h
  · exact kept_ite h (kept_bankPump q (kept_expireReq q h))

theorem kept_execLsLimitTimeout {n low} : Kept P (execLsLimitTimeout n low s) := by
  unfold execLsLimitTimeout
  refine kept_act q h ?_
  refine kept_ite h ?_
  extract_lets +onlyGivenNames s1 s2 s3
  have h1 : s1 ∈ P := kept_rcount q (kept_lsKeep q h)
  have h2 : s2 ∈ P := kept_ite (kept_modLs q (kept_lsSet q h1)) (kept_ite h1 (kept_lsSet q h1))
  have h3 : s3 ∈ P := kept_postOut q h2
  exact kept_ite (kept_modLs q (kept_lsSet q h3)) (kept_lsLatch q h3)

theorem kept_execLsOvertemp {n abs} : Kept P (execLsOvertemp n abs s) := by
  unfold execLsOvertemp
  refine kept_act q h ?_
  refine kept_ite h ?_
  refine kept_ite (kept_ite (kept_lsLatch q (kept_modLs q (kept_lsSet q (kept_lsKeep q h)))) h) ?_
  extract_lets +onlyGivenNames s1 s2 s3
  have h1 : s1 ∈ P := kept_rcount q (kept_lsSet q (kept_lsKeep q h))
  have h2 : s2 ∈ P := kept_postOut q h1
  have h3 : s3 ∈ P := kept_modLs q h2
  exact kept_ite (kept_lsLatch q h3) (kept_ite (kept_lsLatch q h3) (kept_lsSet q h3))

theorem kept_execModuleShed {ovr} : Kept P (execModuleShed ovr s) := by
  unfold execModuleShed
  refine kept_act q h ?_
  refine kept_ite h ?_
  refine kept_ite (kept_rsetb q h) ?_
  refine kept_ite h ?_
  split
  · exact kept_rsetb q h
  · exact kept_mk q (kept_rsetb q (kept_lsShed q h))

theorem kept_execDirectedConversionDone {g raw} : Kept P (execDirectedConversionDone g raw s) := by
  unfold execDirectedConversionDone
  refine kept_act q h ?_
  split
  · exact h
  · exact kept_ite h (kept_mk q (kept_rset q h))

theorem kept_execWindowTimeout {n} : Kept P (execWindowTimeout n s) := by
  unfold execWindowTimeout
  refine kept_act q h ?_
  split
  · exact kept_ite (kept_winClose q h) h
  · exact h

theorem kept_execLossRecordWrite {n} : Kept P (execLossRecordWrite n s) := by
  unfold execLossRecordWrite
  refine kept_act q h ?_
  refine kept_ite h ?_
  extract_lets +onlyGivenNames s1
  have h1 : s1 ∈ P := kept_lossQuiet q h
  split
  · exact h1
  · exact kept_ite h1 (kept_ite (kept_hsiRing q (kept_mk q (kept_modLoss q h1))) (kept_lossMeasure q (kept_hsiRing q (kept_mk q
      (kept_modLoss q h1)))))

theorem kept_execAdcSnapshot {g} : Kept P (execAdcSnapshot g s) := by
  unfold execAdcSnapshot
  refine kept_act q h ?_
  split
  · exact h
  · exact kept_ite h (kept_snapMeasure q (kept_hsiRing q (kept_mk q h)))

theorem kept_execMeasurementAttribute : Kept P (execMeasurementAttribute s) := by
  unfold execMeasurementAttribute
  refine kept_act q h ?_
  refine kept_ite h ?_
  split
  · exact kept_ite (kept_pclPump q (kept_pclAttribute q (kept_modPcl q h))) h
  · exact h

theorem kept_execClosingGraceEnd {c} : Kept P (execClosingGraceEnd c s) := by
  unfold execClosingGraceEnd
  refine kept_act q h ?_
  split
  · exact kept_ite (kept_parcelFinish q h) h
  · exact h

theorem kept_execParcelExpire {c} : Kept P (execParcelExpire c s) := by
  unfold execParcelExpire
  refine kept_act q h ?_
  split
  · exact kept_ite (kept_modParcel q (kept_parcelClose q h)) h
  · exact h

theorem kept_execYieldStored : Kept P (execYieldStored s) := by
  unfold execYieldStored
  refine kept_act q h ?_
  split
  · exact h
  · exact kept_ite h (kept_pclPump q (kept_ite (kept_modPcl q h) (kept_ite (kept_modPcl q (kept_postEngine q (kept_scount q
      (kept_modPcl q h)))) (kept_postEngine q (kept_scount q (kept_modPcl q h))))))

theorem kept_execYreadDone : Kept P (execYreadDone s) := by
  unfold execYreadDone
  refine kept_act q h ?_
  split
  · exact h
  · refine kept_ite h (kept_postEngine q (kept_modPcl q (kept_foldl (fun _ _ h => ?_) h)))
    split
    · exact kept_dramWrite q h
    · exact h

theorem kept_execI2cDone {n ack cnt data} : Kept P (execI2cDone n ack cnt data s) := by
  unfold execI2cDone
  refine kept_act q h ?_
  split
  · exact h
  · extract_lets +onlyGivenNames s1 d s2 full s3 c
    have h1 : s1 ∈ P := kept_modLink q h
    have h2 : s2 ∈ P := kept_ite (kept_ite h1 (kept_sput q (kept_sput q h1))) h1
    have h3 : s3 ∈ P := kept_ite (kept_mk q h2) h2
    exact kept_postEngine q (kept_sput q h3)

theorem kept_execFrameStart {n vc} : Kept P (execFrameStart n vc s) := by
  unfold execFrameStart
  refine kept_act q h ?_
  refine kept_ite h ?_
  split
  · exact kept_scount q h
  · exact kept_ite (kept_frameStart q h) h

theorem kept_execLinePacket {n vc dt px crc ovr} : Kept P (execLinePacket n vc dt px crc ovr s) := by
  unfold execLinePacket
  refine kept_act q h ?_
  refine kept_ite h ?_
  refine kept_ite (kept_scount q h) ?_
  split
  · exact h
  · exact kept_ite (kept_scount q h) (kept_ite (kept_modFrame q h) h)

theorem kept_execFrameEnd {n vc} : Kept P (execFrameEnd n vc s) := by
  unfold execFrameEnd
  refine kept_act q h ?_
  refine kept_ite h ?_
  split
  · exact h
  · exact kept_modFrame q h

theorem kept_execFrameStatusWrite {n drops} : Kept P (execFrameStatusWrite n drops s) := by
  unfold execFrameStatusWrite
  refine kept_act q h ?_
  split
  · exact kept_ite h (kept_flushMissing q (kept_slotDone q (kept_modVp q (kept_slotBytes q (kept_foldl (fun _ _ h =>
      kept_slotBytes q h) (kept_mk q h))))))
  · exact h

theorem kept_execMissingFrame {n} : Kept P (execMissingFrame n s) := by
  unfold execMissingFrame
  refine kept_act q h ?_
  refine kept_ite h ?_
  refine kept_ite ?_ ?_
  · split
    · exact kept_ite (kept_missingRecord q (kept_modVp q h)) h
    · exact h
  · split
    · exact kept_ite (kept_missingRecord q (kept_modVp q h)) h
    · exact h

theorem kept_execListIncomplete {n} : Kept P (execListIncomplete n s) := by
  unfold execListIncomplete
  refine kept_act q h ?_
  split
  · exact kept_ite (kept_rcount q (kept_modFsrc q h)) h
  · exact h

theorem kept_execSourceStale {n} : Kept P (execSourceStale n s) := by
  unfold execSourceStale
  refine kept_act q h ?_
  split
  · exact kept_ite (kept_srcState q h) h
  · exact h

theorem kept_execListProcess : Kept P (execListProcess s) := by
  unfold execListProcess
  refine kept_act q h ?_
  split
  · exact h
  · exact kept_ite h (kept_ite (kept_scount q (kept_modFus q h)) (kept_ite (kept_modFus q h) (kept_processList q (kept_modFus q
      h))))

theorem kept_execTrackAgeOut {k} : Kept P (execTrackAgeOut k s) := by
  unfold execTrackAgeOut
  refine kept_act q h ?_
  split
  · exact kept_ite (kept_modFus q h) h
  · exact h

theorem kept_execCanError {n code tx heavy} : Kept P (execCanError n code tx heavy s) := by
  unfold execCanError
  refine kept_act q h ?_
  refine kept_ite h ?_
  extract_lets +onlyGivenNames n1 s2 s3 t s5 s6
  have h1 : s2 ∈ P := kept_rcount q h
  have h2 : s3 ∈ P := kept_modCan q h1
  have h3 : s5 ∈ P := kept_ite (kept_canLog q h2) h2
  have h4 : s6 ∈ P := kept_ite (kept_modCan q h3) h3
  exact kept_ite (kept_canAttemptEnd q h4) h4

theorem kept_execCanModeChange {n} : Kept P (execCanModeChange n s) := by
  unfold execCanModeChange
  refine kept_act q h ?_
  split
  · exact h
  · exact kept_ite h (kept_ite (kept_modCan q h) (kept_canSetMode q (kept_modCan q h)))

theorem kept_execCanFrameStart {n} : Kept P (execCanFrameStart n s) := by
  unfold execCanFrameStart
  refine kept_act q h ?_
  refine kept_ite h ?_
  split
  · exact h
  · dsimp only
    split
    · exact kept_modCan q h
    · exact kept_modCan q (kept_sput q (kept_ite (kept_sput q h) h))

theorem kept_execCanTxEnd {n r} : Kept P (execCanTxEnd n r s) := by
  unfold execCanTxEnd
  refine kept_act q h ?_
  refine kept_ite h ?_
  split
  · exact kept_canSent q h
  · exact kept_canAttemptEnd q h
  · exact kept_canAttemptEnd q h

theorem kept_execLinSlot {n} : Kept P (execLinSlot n s) := by
  unfold execLinSlot
  refine kept_act q h ?_
  refine kept_ite h ?_
  extract_lets +onlyGivenNames n1 c s3
  have h1 : s3 ∈ P := kept_ite (kept_linAnswer q h) h
  refine kept_ite (kept_modLin q h1) ?_
  refine kept_ite (kept_linToSleep q h1) ?_
  dsimp only
  split
  · exact kept_linBegin q (kept_modLin q h1)
  · exact kept_linBegin q h1

theorem kept_execSerByte {n b framing parity brk age} : Kept P (execSerByte n b framing parity brk age s) := by
  unfold execSerByte
  refine kept_act q h ?_
  refine kept_ite h ?_
  extract_lets +onlyGivenNames n1 idle s3 t s5 bits s7
  have h1 : s3 ∈ P := kept_ite (kept_serClose q h) h
  have h2 : s5 ∈ P := kept_modPort q h1
  have h3 : s7 ∈ P := kept_ite h2 (kept_rset q h2)
  exact kept_ite (kept_serClose q h3) (kept_ite (kept_serClose q h3) h3)

theorem kept_execSerIdle {n} : Kept P (execSerIdle n s) := by
  unfold execSerIdle
  refine kept_act q h ?_
  split
  · exact kept_ite (kept_serClose q h) h
  · exact h

theorem kept_execEthTxDone {q' age} : Kept P (execEthTxDone q' age s) := by
  unfold execEthTxDone
  refine kept_act q h (kept_ite h ?_)
  extract_lets +onlyGivenNames size trp a ctrl dest len mask one pcp full bad waits f
  clear_value one
  refine kept_ite h ?_
  extract_lets +onlyGivenNames s1 s2 nots t st s3 s4
  have h1 : s1 ∈ P := kept_dramMeet q h
  have h2 : s2 ∈ P := by
    unfold s2
    split
    · cases one with
      | some p => exact kept_ite (kept_scount q h1) h1
      | none => exact h1
    · cases one with
      | some p => exact kept_scount q h1
      | none => exact kept_ite (kept_sendPorts q h1) (kept_txSwitch q h1)
  have h4 : s4 ∈ P := kept_sput q (kept_dramWrite q h2)
  exact kept_ite (kept_postEngine q h4) h4

theorem kept_execMemberLost {k r} : Kept P (execMemberLost k r s) := by
  unfold execMemberLost
  refine kept_act q h ?_
  split
  · exact kept_ite (kept_atOnce q h (fun h => kept_memberGone q h)) h
  · exact h

theorem kept_execBurstGrant {ws ce} : Kept P (execBurstGrant ws ce s) := by
  unfold execBurstGrant
  extract_lets +onlyGivenNames s0 s1 ok s2 busy
  have h2 : s2 ∈ P := kept_foldl (fun _ _ h => kept_modRq q h) (kept_creditRefill q h)
  refine kept_act q h (kept_ite h2 ?_)
  split
  · exact h2
  · split
    · exact h2
    · exact kept_ite (kept_modFab q (kept_rcount q (kept_scount q (kept_rset q (kept_rwrap q (kept_modRq q (kept_modFab q
        h2)))))))
        (kept_scount q (kept_rset q (kept_rwrap q (kept_modRq q (kept_modFab q h2)))))

theorem kept_execReadDone : Kept P (execReadDone s) := by
  unfold execReadDone
  refine kept_act q h ?_
  split
  · exact h
  · exact kept_ite h (kept_postEngine q (kept_mk q (kept_recCopy q h)))

theorem kept_execNonceExpiry {p} : Kept P (execNonceExpiry p s) := by
  unfold execNonceExpiry
  refine kept_act q h ?_
  split
  · exact kept_ite (kept_nonceDrop q h) h
  · exact h

theorem kept_execUpdateLoaded : Kept P (execUpdateLoaded s) := by
  unfold execUpdateLoaded
  refine kept_act q h ?_
  split
  · exact kept_ite (kept_pslotEnd q (kept_dramMeet q h)) (kept_pnlPowerUp q (kept_modPnl q (kept_modPslot q (kept_dramMeet q h))))
  · exact h

theorem kept_execPanelFrame : Kept P (execPanelFrame s) := by
  unfold execPanelFrame
  refine kept_act q h ?_
  split
  · refine kept_ite h ?_
    refine kept_ite h ?_
    extract_lets +onlyGivenNames t
    have h1 : t ∈ P := kept_pnlFinish q (kept_pnlAdvance q h)
    refine kept_ite (kept_pnlBoundary q h1) ?_
    extract_lets +onlyGivenNames t1
    have h2 : t1 ∈ P := kept_pnlStopLines q h1
    exact kept_ite (kept_frameBegin q h2) (kept_pnlDischarge q (kept_modPnl q (kept_ite (kept_pnlPost q (kept_sputb q h2)) h2)))
  · exact kept_ite (kept_pnlBoundary q h) h
  · exact h

theorem kept_execCfgWriteDone {ok} : Kept P (execCfgWriteDone ok s) := by
  unfold execCfgWriteDone
  refine kept_act q h ?_
  split
  · exact h
  · refine kept_ite h ?_
    split
    · exact kept_cfgEnd q h
    · exact kept_ite (kept_cfgEnd q (kept_rwrap q (kept_cfgPut q h))) (kept_cfgEnd q h)

theorem kept_execImageWriteDone {ok} : Kept P (execImageWriteDone ok s) := by
  unfold execImageWriteDone
  refine kept_act q h ?_
  split
  · exact h
  · refine kept_ite h ?_
    split
    · exact kept_imgEnd q h
    · exact kept_ite (kept_imgEnd q (kept_modSec q h)) (kept_imgEnd q h)

theorem kept_execCameraBrownout : Kept P (execCameraBrownout s) := by
  unfold execCameraBrownout
  exact kept_act q h (kept_ite h (kept_postEngine q (kept_modPwr q
    (kept_foldl (fun _ _ h => kept_ite (kept_linkDrop q (kept_camPower q h)) h) h))))

theorem kept_execDissShed : Kept P (execDissShed s) := by
  unfold execDissShed
  extract_lets +onlyGivenNames trip early
  refine kept_act q h (kept_ite h ?_)
  extract_lets +onlyGivenNames s1 cs served
  have h1 : s1 ∈ P := kept_modPwr q h
  clear_value served cs
  refine kept_ite h1 ?_
  split
  · exact kept_ite h1 (kept_postEngine q (kept_modPwr q h1))
  · exact kept_scount q (kept_lsShed q (kept_modPwr q h1))
  · exact kept_postEngine q (kept_scount q (kept_camPower q (kept_modPwr q h1)))

theorem kept_execEgressFrameSent {p} : Kept P (execEgressFrameSent p s) := by
  unfold execEgressFrameSent
  refine kept_act q h ?_
  split
  · exact h
  · exact kept_ite h (kept_scount q (kept_modPortE q h))

theorem kept_engineCommand {i : Instr} (hi : (i.ofCore || i.ofSupervisor) = false) : Kept P (exec i s) := by
  cases i with
  | readClear _ _ _ => exact kept_act q h (kept_regRead q h)
  | latchedPairRead _ _ _ => exact kept_act q h (kept_regRead q h)
  | watchdogKick _ _ _ => exact kept_actL q h (kept_wdKick q h)
  | ownerTick _ _ => exact kept_act q h (kept_ite h (kept_ite (kept_modSeq q h) (kept_modSeq q (kept_modSeq q h))))
  | sequencerCommand _ _ => exact kept_act q h (kept_deliver q h)
  | missingCopyTimeout _ _ => exact kept_execMissingCopyTimeout q h
  | holdTimerExpiry _ => exact kept_act q h (kept_ite h (kept_ite (kept_modSeq q h) (kept_seqClass q (kept_modSeq q h))))
  | engineHardFault _ _ => exact kept_act q h (kept_engineFault q h)
  | angEdge _ _ => exact kept_act q h (kept_ite h (kept_both (kept_mk q h) (fun _ _ h => kept_missedPass q (kept_angEdge q h))))
  | halyardStall _ _ => exact kept_act q h (kept_halStall q h)
  | halyardConfig _ _ _ _ => exact kept_act q h (kept_halConfigPass q h)
  | feedIncrement _ _ _ => exact kept_act q h (kept_feedIncrement q h)
  | feedCommit _ _ _ => exact kept_actL q h (kept_missedPass q (kept_feedCommit q h))
  | entryArm _ _ => exact kept_actL q h (kept_ite h (kept_ite (kept_missedOne q h) (kept_ite (kept_ite (kept_modEnt q h)
    (kept_ite h (kept_modEnt q (kept_rsetb q (kept_rcount q h))))) h)))
  | entryFire _ _ => exact kept_execEntryFire q h
  | occurrenceComplete _ _ => exact kept_execOccurrenceComplete q h
  | entryCommit _ _ _ => exact kept_actL q h (kept_wcmd q h)
  | entryCancel _ _ _ => exact kept_actL q h (kept_wcmd q h)
  | fireEn _ _ => exact kept_actL q h (kept_evtCtrl q h)
  | periodicRequest _ _ => exact kept_actL q h (kept_ite (kept_enqueue q h) h)
  | sampleStep _ => exact kept_execSampleStep q h
  | lpeEnable _ _ => exact kept_actL q h (kept_lpeCmd q h)
  | lpeDisable _ _ => exact kept_actL q h (kept_lpeCmd q h)
  | lpeHold _ _ => exact kept_actL q h (kept_lpeCmd q h)
  | lpeResume _ _ => exact kept_actL q h (kept_lpeCmd q h)
  | injStart _ _ => exact kept_actL q h (kept_injStart q h)
  | injStop _ _ => exact kept_actL q h (kept_injStop q h)
  | capArm _ _ => exact kept_actL q h (kept_capArm q h)
  | capTrignow _ _ => exact kept_actL q h (kept_capTrignow q h)
  | capAbort _ _ => exact kept_actL q h (kept_capAbort q h)
  | ddvStart _ _ _ _ _ => exact kept_act q h (kept_seqWrite q h)
  | ddvStop _ _ => exact kept_act q h (kept_seqWrite q h)
  | ddvClr _ _ => exact kept_act q h (kept_seqWrite q h)
  | ddvEnable _ _ => exact kept_act q h (kept_seqWrite q h)
  | ddvDisable _ _ => exact kept_act q h (kept_seqWrite q h)
  | bankRequest _ _ => exact kept_execBankRequest q h
  | peakEnd _ _ _ => exact kept_act q h (kept_peakEnd q h)
  | transitionEnd _ _ _ => exact kept_act q h (kept_transitionEnd q h)
  | holdEnd _ _ => exact kept_act q h (kept_ite (kept_startRelease q h) h)
  | releaseEnd _ _ => exact kept_act q h (kept_ite (kept_pumpAll q (kept_modChan q h)) h)
  | requestDeadline _ => exact kept_execRequestDeadline q h
  | holdEndRevision _ _ => exact kept_act q h (kept_ite h (kept_ite h (kept_modChan q (kept_modBank q (kept_ite (kept_modChan q
    h) h)))))
  | profileWrite _ _ _ _ _ => exact kept_act q h (kept_seqWrite q h)
  | ddmFrac _ _ _ => exact kept_act q h (kept_regPlain q h)
  | holdloss _ => exact kept_act q h (kept_ite (kept_dvDiag q h) h)
  | valveShort _ => exact kept_act q h (kept_ite h (kept_pumpAll q (kept_dvStop q (kept_postOut q (kept_rsetb q (kept_dvFlag q
    h))))))
  | bhsOvercurrent _ => exact kept_act q h (kept_ite h (kept_pumpAll q (kept_postOut q (kept_modBank q (kept_rsetf q (kept_rsetb
    q (kept_bankIdle q h)))))))
  | bhsfltClear _ _ => exact kept_act q h (kept_seqWrite q h)
  | boostLimit => exact kept_act q h (kept_ite h (kept_postOut q (kept_rsetb q (kept_bucketSet q h))))
  | vbstLow => exact kept_act q h (kept_ite h (kept_postOut q (kept_rsetb q h)))
  | pvEnable _ _ => exact kept_act q h (kept_seqWrite q h)
  | pvDisable _ _ => exact kept_act q h (kept_seqWrite q h)
  | pvClr _ _ => exact kept_act q h (kept_seqWrite q h)
  | pvDutyWrite _ _ _ => exact kept_act q h (kept_seqWrite q h)
  | pvConversion _ _ => exact kept_actL q h (kept_ite h (kept_both (kept_rset q (kept_mk q h)) (fun _ _ h => kept_pvRequests q
    h)))
  | pvShort _ => exact kept_act q h (kept_ite h (kept_rsetb q (kept_pvFlag q h)))
  | pvShortbat _ _ => exact kept_act q h (kept_ite (kept_rsetb q h) (kept_ite h (kept_pvFlag q (kept_rsetb q h))))
  | pvOpen _ _ => exact kept_act q h (kept_ite (kept_rsetb q h) (kept_ite h (kept_pvFlag q (kept_rsetb q h))))
  | pvOver _ => exact kept_act q h (kept_ite h (kept_pvFlag q h))
  | lsOn _ _ => exact kept_act q h (kept_seqWrite q h)
  | lsOff _ _ => exact kept_act q h (kept_seqWrite q h)
  | lsClr _ _ => exact kept_act q h (kept_seqWrite q h)
  | lsLimitTimeout _ _ => exact kept_execLsLimitTimeout q h
  | lsRetry _ => exact kept_act q h (kept_ite h (kept_ite (kept_lsDark q h) (kept_modLs q (kept_lsConduct q h))))
  | inrushWindowEnd _ => exact kept_act q h (kept_ite h (kept_ite (kept_lsDark q h) (kept_modLs q (kept_lsSet q h))))
  | lsOvertemp _ _ => exact kept_execLsOvertemp q h
  | lsThermalRestart _ => exact kept_act q h (kept_ite h (kept_ite (kept_lsDark q (kept_modLs q h)) (kept_ite (kept_lsConduct q
    (kept_modLs q h)) (kept_modLs q h))))
  | lsOpenload _ => exact kept_act q h (kept_ite h (kept_ite (kept_ite (kept_lsSet q h) h) (kept_ite (kept_lsSet q h) h)))
  | groupTrip _ => exact kept_act q h (kept_ite h (kept_postOut q (kept_lsEach q (kept_mk q (kept_rcount q (kept_rsetf q
    (kept_groupSettle q h)))) (fun h => kept_lsTrip q h))))
  | groupDieTrip _ => exact kept_act q h (kept_ite h (kept_postOut q (kept_lsEach q (kept_rsetf q h) (fun h => kept_lsTrip q h))))
  | groupRestart _ _ => exact kept_act q h (kept_ite (kept_ite h (kept_postOut q (kept_lsEach q (kept_rsetb q h) (fun h =>
    kept_lsRestart q h)))) (kept_ite h (kept_postOut q (kept_lsEach q (kept_rsetb q h) (fun h => kept_lsRestart q h)))))
  | moduleShed _ => exact kept_execModuleShed q h
  | lsUndervoltage _ => exact kept_act q h (kept_ite h (kept_postOut q (kept_lsEach q (kept_rsetb q h) (fun h => kept_lsDark q
    h))))
  | lsUvRestart _ => exact kept_act q h (kept_ite h (kept_postOut q (kept_lsEach q (kept_rsetb q h) (fun h => kept_lsRestart q
    h))))
  | directedConversion _ _ _ => exact kept_act q h (kept_seqWrite q h)
  | directedConversionDone _ _ => exact kept_execDirectedConversionDone q h
  | lossImpact _ _ => exact kept_act q h (kept_ite h (kept_lossRun q (kept_lossQuiet q h)))
  | lossWindowOpen _ _ _ => exact kept_act q h (kept_ite (kept_lossOpen q h) h)
  | lossWindowClose _ _ _ => exact kept_act q h (kept_ite (kept_lossClose q h) h)
  | windowTimeout _ => exact kept_execWindowTimeout q h
  | lossRecordWrite _ => exact kept_execLossRecordWrite q h
  | inputFault _ => exact kept_act q h (kept_ite h (kept_postEngine q (kept_sputb q (kept_sputb q h))))
  | inputFaultClear _ => exact kept_act q h (kept_ite h (kept_postEngine q (kept_sputb q h)))
  | adcSnapshot _ => exact kept_execAdcSnapshot q h
  | fnTick => exact kept_act q h (kept_ite h (kept_foldl (fun _ _ h => kept_fnStep q h) (kept_mk q h)))
  | fnCtgtWrite _ _ _ => exact kept_act q h (kept_fnWrite q h)
  | fnTtgtWrite _ _ _ => exact kept_act q h (kept_fnWrite q h)
  | fnLimWrite _ _ _ => exact kept_act q h (kept_fnWrite q h)
  | fnRateWrite _ _ _ => exact kept_act q h (kept_fnWrite q h)
  | fnCtlWrite _ _ _ => exact kept_act q h (kept_fnWrite q h)
  | fnBindWrite _ _ _ _ => exact kept_act q h (kept_fnWrite q h)
  | loadcp _ _ => exact kept_act q h (kept_hsiCmd q h)
  | boundContextReport _ _ => exact kept_act q h (kept_boundReport q h)
  | parcelCreate _ _ _ => exact kept_act q h (kept_pclAction q h)
  | parcelStep _ _ => exact kept_act q h (kept_pclAction q h)
  | fixCommit _ _ => exact kept_act q h (kept_fixCommit q h)
  | qualSubmit _ _ => exact kept_act q h (kept_qualSubmit q h)
  | measurementAttribute => exact kept_execMeasurementAttribute q h
  | closingGraceEnd _ => exact kept_execClosingGraceEnd q h
  | parcelExpire _ => exact kept_execParcelExpire q h
  | pclFlush _ => exact kept_act q h (kept_pclCmd q h)
  | pclRun _ _ => exact kept_act q h (kept_pclCtrl q h)
  | yieldStored => exact kept_execYieldStored q h
  | yieldBatchSend => exact kept_act q h (kept_ite h (kept_modPcl q (kept_txNew q (kept_modStrs q h))))
  | yread _ => exact kept_act q h (kept_pclCmd q h)
  | yreadDone => exact kept_execYreadDone q h
  | linkDown _ => exact kept_act q h (kept_linkDrop q h)
  | linkTrained _ _ => exact kept_act q h (kept_ite h (kept_ite (kept_modLink q h) (kept_postEngine q (kept_modLink q h))))
  | i2cTransaction _ _ _ => exact kept_act q h (kept_i2cCmd q h)
  | i2cDone _ _ _ _ => exact kept_execI2cDone q h
  | camTrig _ _ => exact kept_act q h (kept_camCmd q h)
  | cameraTrigger _ _ => exact kept_actL q h (kept_ite (kept_camTrigger q h) h)
  | triggerPulseEnd _ => exact kept_act q h (kept_ite (kept_modLink q h) h)
  | pwron _ _ => exact kept_act q h (kept_camCmd q h)
  | pwroff _ _ => exact kept_act q h (kept_camCmd q h)
  | cameraPowerFault _ => exact kept_act q h (kept_ite h (kept_ite (kept_camPower q h) (kept_postEngine q (kept_sputb q
    (kept_camPower q h)))))
  | vpBind _ _ _ => exact kept_act q h (kept_vpBind q h)
  | frameStart _ _ => exact kept_execFrameStart q h
  | linePacket _ _ _ _ _ _ => exact kept_execLinePacket q h
  | frameEnd _ _ => exact kept_execFrameEnd q h
  | frameStatusWrite _ _ => exact kept_execFrameStatusWrite q h
  | missingFrame _ => exact kept_execMissingFrame q h
  | camCommit _ _ => exact kept_act q h (kept_camCmd q h)
  | vpRun _ _ _ => exact kept_act q h (kept_vpRun q h)
  | fusionUnit _ _ => exact kept_act q h (kept_ite h (kept_fusUnit q h))
  | fusInject _ _ => exact kept_act q h (kept_fusCmd q h)
  | listIncomplete _ => exact kept_execListIncomplete q h
  | sourceStale _ => exact kept_execSourceStale q h
  | listProcess => exact kept_execListProcess q h
  | trackAgeOut _ => exact kept_execTrackAgeOut q h
  | fusionOutput => exact kept_act q h (kept_ite h (kept_fusOutput q (kept_modFus q h)))
  | outnow _ => exact kept_act q h (kept_fusCmd q h)
  | fusTest _ => exact kept_act q h (kept_fusCmd q h)
  | fusEndtest _ => exact kept_act q h (kept_fusCmd q h)
  | fusReinit _ => exact kept_act q h (kept_fusCmd q h)
  | fusRun _ _ => exact kept_act q h (kept_fusCtrl q h)
  | canReceive _ _ _ _ _ _ _ _ _ _ => exact kept_act q h (kept_ite (kept_ite (kept_ite (kept_hstSegment q (kept_fusCanFrame q
    (kept_canRx q h))) (kept_fusCanFrame q (kept_canRx q h))) (kept_canRx q h)) h)
  | canError _ _ _ _ => exact kept_execCanError q h
  | protocolException _ => exact kept_act q h (kept_ite (kept_rcount q h) h)
  | canBusOff _ => exact kept_act q h (kept_ite h (kept_ite (kept_canSetMode q (kept_modCan q (kept_rcount q (kept_canAttemptEnd
    q h)))) (kept_modCan q (kept_rcount q (kept_canAttemptEnd q h)))))
  | busoffRecovered _ => exact kept_act q h (kept_ite h (kept_canSetMode q (kept_modCan q h)))
  | recover _ _ => exact kept_act q h (kept_canCmd q h)
  | canMode _ _ _ => exact kept_act q h (kept_canCmd q h)
  | canModeChange _ => exact kept_execCanModeChange q h
  | txreq _ _ _ => exact kept_act q h (kept_canCmd q h)
  | txcancel _ _ _ => exact kept_act q h (kept_canCmd q h)
  | canFrameStart _ => exact kept_execCanFrameStart q h
  | canTxEnd _ _ => exact kept_execCanTxEnd q h
  | timeReference _ => exact kept_act q h (kept_ite h (kept_ite (kept_modCan q (kept_rcount q (kept_modCan q h))) (kept_modCan q
    (kept_modCan q h))))
  | linStart _ _ _ => exact kept_act q h (kept_linCmd q h)
  | linSwitch _ _ _ => exact kept_act q h (kept_linCmd q h)
  | linStop _ _ => exact kept_act q h (kept_linCmd q h)
  | linSleep _ _ => exact kept_act q h (kept_linCmd q h)
  | linWakeup _ _ => exact kept_act q h (kept_linCmd q h)
  | linSlot _ => exact kept_execLinSlot q h
  | linResponse _ _ _ => exact kept_act q h (kept_ite h (kept_linAnswer q h))
  | linWake _ _ => exact kept_act q h (kept_ite (kept_postEngine q h) h)
  | sentFrame _ _ _ _ _ _ _ _ => exact kept_act q h (kept_ite h (kept_sentFrame q h))
  | serByte _ _ _ _ _ _ => exact kept_execSerByte q h
  | serIdle _ => exact kept_execSerIdle q h
  | serTxd _ _ _ => exact kept_act q h (kept_serTxd q h)
  | ppsEdge _ _ => exact kept_act q h (kept_ite h (kept_timAuto q (kept_foldl (fun _ _ h => kept_ite (kept_trkMeasure q h) h)
    (kept_postEngine q (kept_mk q (kept_rsetf q (kept_ite (kept_rsetb q h) h)))))))
  | ppsStampRead _ _ => exact kept_act q h (kept_ppsRead q h)
  | ethReceive _ _ _ _ => exact kept_act q h (kept_ite h (kept_ite (kept_ethRx q h) (kept_scount q h)))
  | ethLinkDown _ => exact kept_act q h (kept_ethDrop q h)
  | txRingDoorbell _ _ _ => exact kept_act q h (kept_ethTwp q h)
  | ethTxDone _ _ => exact kept_execEthTxDone q h
  | fdbAgeing => exact kept_act q h (kept_ite h (kept_mk q h))
  | flushfdb _ => exact kept_act q h (kept_ethCmd q h)
  | frerReset _ => exact kept_act q h (kept_ite h (kept_scount q (kept_modFrer q h)))
  | pathdown _ _ => exact kept_act q h (kept_ite h (kept_postEngine q (kept_sputb q h)))
  | trackerCommit _ _ _ => exact kept_act q h (kept_timCommit q h)
  | trackerTimeout _ => exact kept_act q h (kept_ite h (kept_trkExpire q h))
  | timSwitch _ _ => exact kept_act q h (kept_timCmd q h)
  | forcefree _ => exact kept_act q h (kept_timCmd q h)
  | revertSwitch => exact kept_act q h (kept_timRevert q h)
  | timNowRead _ => exact kept_act q h (kept_timNow q h)
  | jobReceive _ => exact kept_act q h (kept_hstMsg q h (fun h => kept_jobMsg q h))
  | jobAccept _ => exact kept_act q h (kept_ite h (kept_onStream q h))
  | ackReceive _ => exact kept_act q h (kept_hstMsg q h (fun h => kept_ackMsg q h))
  | gapReceive _ => exact kept_act q h (kept_hstMsg q h (fun h => kept_gapMsg q h))
  | stateReceive _ => exact kept_act q h (kept_hstMsg q h (fun h => kept_stateMsg q h))
  | completeReceive _ => exact kept_act q h (kept_hstMsg q h (fun h => kept_completeMsg q h))
  | jrepReceive _ => exact kept_act q h (kept_hstMsg q h (fun h => kept_jrepMsg q h))
  | jrepackReceive _ => exact kept_act q h (kept_hstMsg q h (fun h => kept_jrepackMsg q h))
  | jsyncReceive _ => exact kept_act q h (kept_hstMsg q h (fun h => kept_jsyncMsg q h))
  | jsyncendReceive _ => exact kept_act q h (kept_hstMsg q h (fun h => kept_jsyncEndMsg q h))
  | heartbeatReceive _ => exact kept_act q h (kept_hstHeartbeat q h)
  | heartbeatSend _ => exact kept_act q h (kept_ite (kept_sendBeat q h) h)
  | memberLost _ _ => exact kept_execMemberLost q h
  | jobRetransmit _ => exact kept_act q h (kept_ite h (kept_onStream q h))
  | jobBackoff _ => exact kept_act q h (kept_ite h (kept_onStream q h))
  | streamOpen _ _ => exact kept_act q h (kept_hstCmd q h)
  | streamClose _ _ => exact kept_act q h (kept_hstCmd q h)
  | streamPause _ _ => exact kept_act q h (kept_hstCmd q h)
  | streamResume _ _ => exact kept_act q h (kept_hstCmd q h)
  | resign _ => exact kept_act q h (kept_hstCmd q h)
  | hoistListen _ => exact kept_act q h (kept_ite (kept_atOnce q h (fun h => kept_reRole q (kept_formLevel q h))) h)
  | creditRefill => exact kept_act q h (kept_creditRefill q h)
  | burstGrant _ _ => exact kept_execBurstGrant q h
  | weightWrite _ _ _ => exact kept_act q h (kept_fabStore q h)
  | weightHold _ _ => exact kept_act q h (kept_fabStore q h)
  | fabricFreeze _ _ => exact kept_act q h (kept_fabStore q h)
  | scrubRead _ _ => exact kept_act q h (kept_ite h (kept_ite (kept_mk q (kept_eccCount q h)) (kept_ite (kept_scount q h) h)))
  | recordEnter _ _ _ _ => exact kept_act q h (kept_ite (kept_recSubmit q h) h)
  | pwcmd _ _ _ => exact kept_act q h (kept_recPwcmd q h)
  | recFlush _ => exact kept_act q h (kept_recFlush q h)
  | flushDone => exact kept_act q h (kept_ite (kept_recFlushEnd q h) h)
  | recFreeze _ => exact kept_act q h (kept_recFreeze q h)
  | thaw _ => exact kept_act q h (kept_recThawCmd q h)
  | freezeTimeout => exact kept_act q h (kept_ite (kept_recThaw q h) h)
  | recRead _ => exact kept_act q h (kept_recReadCmd q h)
  | readDone => exact kept_execReadDone q h
  | recNonce _ => exact kept_act q h (kept_recNonce q h)
  | recClear _ => exact kept_act q h (kept_recClear q h)
  | nonceExpiry _ => exact kept_execNonceExpiry q h
  | ophrsTick => exact kept_next (kept_ite (kept_mk q h) h)
  | panelUpdate _ _ _ _ => exact kept_act q h (kept_pnlCmd q h)
  | updateLoaded => exact kept_execUpdateLoaded q h
  | panelFrame => exact kept_execPanelFrame q h
  | panelLineSend => exact kept_act q h (kept_ite h (kept_modPnl q h))
  | pbsyTimeout => exact kept_act q h (kept_ite h (kept_pnlPost q (kept_modPnl q (kept_scount q (kept_sputb q h)))))
  | panelPowered => exact kept_act q h (kept_ite (kept_pnlBoundary q (kept_modPnl q h)) h)
  | panelPowerHold => exact kept_act q h (kept_ite (kept_pnlDischarge q h) h)
  | panelDischarge _ => exact kept_act q h (kept_pnlCmd q h)
  | dischargeDone => exact kept_act q h (kept_ite h (kept_pnlPowerUp q (kept_ite (kept_pnlRefresh q (kept_modPnl q h))
    (kept_modPnl q h))))
  | crackCheck _ => exact kept_act q h (kept_ite h (kept_pnlPowerUp q (kept_pnlCrack q (kept_modPnl q h))))
  | recheck _ => exact kept_act q h (kept_pnlCmd q h)
  | tempStale => exact kept_act q h (kept_ite (kept_sput q (kept_modPnl q h)) h)
  | cfgWrite _ => exact kept_act q h (kept_cfgCmd q h)
  | cfgWriteDone _ => exact kept_execCfgWriteDone q h
  | secNonce _ _ => exact kept_act q h (kept_secCmd q h)
  | sessionOpen _ => exact kept_act q h (kept_secCmd q h)
  | endsession _ => exact kept_act q h (kept_secCmd q h)
  | dbgunlock _ => exact kept_act q h (kept_secCmd q h)
  | dbglock _ => exact kept_act q h (kept_secCmd q h)
  | sessionExpiry _ => exact kept_act q h (kept_ite (kept_ite (kept_debugEnd q h) h) (kept_sessExpire q h))
  | imgwrite _ => exact kept_act q h (kept_secCmd q h)
  | imageWriteDone _ => exact kept_execImageWriteDone q h
  | activate _ _ => exact kept_act q h (kept_secCmd q h)
  | raisemin _ => exact kept_act q h (kept_secCmd q h)
  | keywrite _ _ => exact kept_act q h (kept_secCmd q h)
  | keyrevoke _ _ => exact kept_act q h (kept_secCmd q h)
  | cameraBrownout => exact kept_execCameraBrownout q h
  | brownoutRelease => exact kept_act q h (kept_ite h (kept_postEngine q (kept_foldl (fun _ _ h => kept_ite (kept_camPower q h)
    h) (kept_modPwr q h))))
  | valveSupplyUv _ => exact kept_act q h (kept_ite h (kept_postEngine q (kept_modPwr q h)))
  | valveSupplyOver _ _ => exact kept_act q h (kept_ite (kept_modPwr q h) (kept_postEngine q (kept_sputb q (kept_modPwr q h))))
  | sensorSupplyFault _ => exact kept_act q h (kept_ite (kept_postEngine q (kept_sputb q h)) h)
  | sensorSupplyRestart _ _ => exact kept_act q h (kept_gated q h (fun h => kept_regPlain q h))
  | dissEstimate _ _ _ _ _ _ _ => exact kept_act q h (kept_ite h (kept_ite (kept_bankEnergy q h) (kept_modPwr q (kept_bankEnergy
    q h))))
  | dissShed => exact kept_execDissShed q h
  | ownerTicksAbsent _ => exact kept_act q h (kept_ite (kept_modSeq q h) h)
  | boostLimitEnd => exact kept_act q h (kept_ite (kept_rsetb q (kept_bucketSet q h)) h)
  | vbstRecovered => exact kept_act q h (kept_pumpAll q (kept_rsetb q h))
  | ownFaultEnd _ => exact kept_act q h (kept_ite (kept_modLs q (kept_lsKeep q h)) h)
  | lossSensorFault _ _ => exact kept_act q h (kept_ite h (kept_postEngine q (kept_ite (kept_modLoss q (kept_sputb q (kept_sputb
    q h))) (kept_sputb q h))))
  | positionHistorySample => exact kept_act q h (kept_ite h (kept_pclPump q (kept_foldl (fun _ _ h => kept_ite (kept_modPcl q h)
    h) h)))
  | serByteSent _ => exact kept_act q h (kept_ite (kept_modPort q h) h)
  | ethLinkUp _ _ _ => exact kept_act q h (kept_ite h (kept_ite (kept_modPortE q h) (kept_postEngine q (kept_modPortE q h))))
  | egressFrameSent _ => exact kept_execEgressFrameSent q h
  | slewComplete => exact kept_act q h h
  | valveSupplyReturn _ => exact kept_act q h (kept_ite h (kept_modPwr q h))
  | bankWeak _ => exact kept_act q h (kept_ite h (kept_postEngine q (kept_modPwr q h)))
  | tambStale => exact kept_act q h (kept_ite (kept_modPwr q h) h)
  | _ => cases hi

/-! ### Instructions of a core that no store of theirs takes to the register space -/

theorem kept_execWaitEnd {l c} : Kept P (execWaitEnd l c s) := by
  unfold execWaitEnd
  refine kept_next ?_
  split
  · exact h
  · split
    · exact kept_modCore q h
    · exact h

theorem kept_execWaitTimeout {l c} : Kept P (execWaitTimeout l c s) := by
  unfold execWaitTimeout
  refine kept_next ?_
  split
  · exact h
  · exact kept_ite (kept_modCore q h) h

end

/-! ### The other instructions of a core -/

section
variable {P : Set State} (q : Quiet P) (w : ∀ {s l c a v}, s ∈ P → regWriteAny s l c a v ∈ P) {s : State} (h : s ∈ P)
include q w h

theorem kept_execStoreDrain {l c k} : Kept P (execStoreDrain l c k s) := by
  unfold execStoreDrain
  refine kept_next ?_
  split
  · exact h
  · exact kept_ite h (kept_applyStore q w (kept_modCore q h))

theorem kept_execJput {iss d a} : Kept P (execJput iss d a s) := by
  unfold execJput
  refine kept_next ?_
  refine kept_issue q w h (fun h => ?_)
  extract_lets +onlyGivenNames l c va
  refine kept_ite (kept_trap q h) ?_
  extract_lets +onlyGivenNames s1 h0 len n
  have h1 : s1 ∈ P := kept_fenceL q w h
  exact kept_ite (kept_trap q h1) (kept_modCore q (kept_ite h1 (kept_ite (kept_txNew q (kept_writeBytes q w (kept_modStr q h1)))
    (kept_writeBytes q w (kept_modStr q h1)))))

theorem kept_execJtake {iss d a b} : Kept P (execJtake iss d a b s) := by
  unfold execJtake
  refine kept_next ?_
  refine kept_issue q w h (fun h => ?_)
  extract_lets +onlyGivenNames l c va vb
  refine kept_ite (kept_trap q h) ?_
  refine kept_ite (kept_trap q h) ?_
  refine kept_ite (kept_modCore q (kept_fenceL q w h)) ?_
  split
  · exact kept_modCore q (kept_fenceL q w h)
  · exact kept_modCore q (kept_writeBytes q w (kept_modStr q (kept_fenceL q w h)))

theorem kept_coreCommand {i : Instr} (hi : i.ofCore = true) : Kept P (exec i s) := by
  cases i with
  | ill _ _ => exact kept_next (kept_issue q w h (fun h => kept_trap q h))
  | add _ _ _ _ => exact kept_next (kept_issueCore q w h)
  | sub _ _ _ _ => exact kept_next (kept_issueCore q w h)
  | and _ _ _ _ => exact kept_next (kept_issueCore q w h)
  | or _ _ _ _ => exact kept_next (kept_issueCore q w h)
  | xor _ _ _ _ => exact kept_next (kept_issueCore q w h)
  | andn _ _ _ _ => exact kept_next (kept_issueCore q w h)
  | shl _ _ _ _ => exact kept_next (kept_issueCore q w h)
  | shr _ _ _ _ => exact kept_next (kept_issueCore q w h)
  | sar _ _ _ _ => exact kept_next (kept_issueCore q w h)
  | ror _ _ _ _ => exact kept_next (kept_issueCore q w h)
  | min _ _ _ _ => exact kept_next (kept_issueCore q w h)
  | max _ _ _ _ => exact kept_next (kept_issueCore q w h)
  | minu _ _ _ _ => exact kept_next (kept_issueCore q w h)
  | maxu _ _ _ _ => exact kept_next (kept_issueCore q w h)
  | adds _ _ _ _ => exact kept_next (kept_issueCore q w h)
  | subs _ _ _ _ => exact kept_next (kept_issueCore q w h)
  | mul _ _ _ _ => exact kept_next (kept_issueCore q w h)
  | mulh _ _ _ _ => exact kept_next (kept_issueCore q w h)
  | mulhu _ _ _ _ => exact kept_next (kept_issueCore q w h)
  | div _ _ _ _ => exact kept_next (kept_issueCore q w h)
  | divu _ _ _ _ => exact kept_next (kept_issueCore q w h)
  | rem _ _ _ _ => exact kept_next (kept_issueCore q w h)
  | remu _ _ _ _ => exact kept_next (kept_issueCore q w h)
  | clz _ _ _ => exact kept_next (kept_issueCore q w h)
  | abs _ _ _ => exact kept_next (kept_issueCore q w h)
  | sextb _ _ _ => exact kept_next (kept_issueCore q w h)
  | sexth _ _ _ => exact kept_next (kept_issueCore q w h)
  | addi _ _ _ _ => exact kept_next (kept_issueCore q w h)
  | andi _ _ _ _ => exact kept_next (kept_issueCore q w h)
  | ori _ _ _ _ => exact kept_next (kept_issueCore q w h)
  | xori _ _ _ _ => exact kept_next (kept_issueCore q w h)
  | shi _ _ _ _ _ => exact kept_next (kept_issueCore q w h)
  | movl _ _ _ => exact kept_next (kept_issueCore q w h)
  | movh _ _ _ => exact kept_next (kept_issueCore q w h)
  | movw _ _ _ => exact kept_next (kept_issue q w h (fun h => kept_modCore q h))
  | cmp _ _ _ _ _ => exact kept_next (kept_issueCore q w h)
  | cmpi _ _ _ _ _ => exact kept_next (kept_issueCore q w h)
  | plog _ _ _ _ _ => exact kept_next (kept_issueCore q w h)
  | padd _ _ _ _ => exact kept_next (kept_issueCore q w h)
  | psub _ _ _ _ => exact kept_next (kept_issueCore q w h)
  | pmulr _ _ _ _ => exact kept_next (kept_issueCore q w h)
  | pabs _ _ _ => exact kept_next (kept_issueCore q w h)
  | pneg _ _ _ => exact kept_next (kept_issueCore q w h)
  | pmin _ _ _ _ => exact kept_next (kept_issueCore q w h)
  | pmax _ _ _ _ => exact kept_next (kept_issueCore q w h)
  | pshra _ _ _ _ => exact kept_next (kept_issueCore q w h)
  | pshls _ _ _ _ => exact kept_next (kept_issueCore q w h)
  | packll _ _ _ _ => exact kept_next (kept_issueCore q w h)
  | packhh _ _ _ _ => exact kept_next (kept_issueCore q w h)
  | packhl _ _ _ _ => exact kept_next (kept_issueCore q w h)
  | pswap _ _ _ => exact kept_next (kept_issueCore q w h)
  | macLl _ _ _ _ => exact kept_next (kept_issueCore q w h)
  | macLh _ _ _ _ => exact kept_next (kept_issueCore q w h)
  | macHl _ _ _ _ => exact kept_next (kept_issueCore q w h)
  | macHh _ _ _ _ => exact kept_next (kept_issueCore q w h)
  | msuLl _ _ _ _ => exact kept_next (kept_issueCore q w h)
  | msuLh _ _ _ _ => exact kept_next (kept_issueCore q w h)
  | msuHl _ _ _ _ => exact kept_next (kept_issueCore q w h)
  | msuHh _ _ _ _ => exact kept_next (kept_issueCore q w h)
  | mac2 _ _ _ _ => exact kept_next (kept_issueCore q w h)
  | mac2x _ _ _ _ => exact kept_next (kept_issueCore q w h)
  | msu2 _ _ _ _ => exact kept_next (kept_issueCore q w h)
  | mulLl _ _ _ _ => exact kept_next (kept_issueCore q w h)
  | mul2 _ _ _ _ => exact kept_next (kept_issueCore q w h)
  | aclr _ _ => exact kept_next (kept_issueCore q w h)
  | acldq _ _ _ => exact kept_next (kept_issueCore q w h)
  | acset _ _ _ _ => exact kept_next (kept_issueCore q w h)
  | ext _ _ _ _ => exact kept_next (kept_issueCore q w h)
  | acrd _ _ _ => exact kept_next (kept_issueCore q w h)
  | acrh _ _ _ => exact kept_next (kept_issueCore q w h)
  | acsar _ _ _ => exact kept_next (kept_issueCore q w h)
  | mfs _ _ _ => exact kept_next (kept_issue q w h (fun h => kept_modCore q h))
  | mts _ _ _ => exact kept_next (kept_issue q w h (fun h => kept_modCore q (kept_ite (kept_fenceE q w (kept_modCore q h))
    (kept_modCore q h))))
  | ldb _ _ _ _ => exact kept_next (kept_load q w h)
  | ldbu _ _ _ _ => exact kept_next (kept_load q w h)
  | ldh _ _ _ _ => exact kept_next (kept_load q w h)
  | ldhu _ _ _ _ => exact kept_next (kept_load q w h)
  | ldw _ _ _ _ => exact kept_next (kept_load q w h)
  | stb _ _ _ _ => exact kept_next (kept_store q w h)
  | sth _ _ _ _ => exact kept_next (kept_store q w h)
  | stw _ _ _ _ => exact kept_next (kept_store q w h)
  | loadReturn _ _ _ => exact kept_next (kept_ite h (kept_modCore q h))
  | storeDrain _ _ _ => exact kept_execStoreDrain q w h
  | b _ _ => exact kept_next (kept_issue q w h (fun h => kept_modCore q h))
  | bl _ _ => exact kept_next (kept_issue q w h (fun h => kept_modCore q h))
  | jr _ _ => exact kept_next (kept_issue q w h (fun h => kept_jump q h))
  | jlr _ _ => exact kept_next (kept_issue q w h (fun h => kept_jump q h))
  | rtt _ => exact kept_next (kept_issue q w h (fun h => kept_jump q h))
  | waite _ _ => exact kept_next (kept_issue q w h (fun h => kept_waitIssue q h))
  | waita _ _ _ _ => exact kept_next (kept_waitPos q w h)
  | waitae _ _ _ _ => exact kept_next (kept_waitPos q w h)
  | waitEnd _ _ => exact kept_execWaitEnd q h
  | waitTimeout _ _ => exact kept_execWaitTimeout q h
  | take _ _ => exact kept_next (kept_issue q w h (fun h => kept_ite (kept_trap q h) (kept_modCore q h)))
  | post _ _ _ _ => exact kept_next (kept_issue q w h (fun h => kept_modCore q (kept_ite (kept_modCore q (kept_fenceL q w h))
    (kept_fenceL q w h))))
  | postVisible _ _ => exact kept_next (kept_modCore q h)
  | eventPosting _ _ _ _ _ _ => exact kept_next (kept_ite h (kept_ite (kept_postCore q h) (kept_both h (fun _ _ h =>
    kept_postCore q h))))
  | evqClear _ _ => exact kept_next (kept_ite (kept_modCore q h) h)
  | jput _ _ _ => exact kept_execJput q w h
  | jtake _ _ _ _ => exact kept_execJtake q w h
  | jdone _ _ _ _ => exact kept_next (kept_issue q w h (fun h => kept_ite (kept_trap q h) (kept_modCore q (kept_ite h (kept_ite
    (kept_jobDone q (kept_ite (kept_modStrs q h) (kept_modStr q h))) (kept_ite (kept_modStrs q h) (kept_modStr q h)))))))
  | lcswap _ _ _ _ => exact kept_next (kept_issue q w h (fun h => kept_ite (kept_trap q h) (kept_ite (kept_trap q h)
    (kept_modCore q (kept_lcSwapIn q (kept_fenceL q w h))))))
  | fenceL _ => exact kept_next (kept_issueCore q w h)
  | fenceE _ => exact kept_next (kept_issueCore q w h)
  | fenceComplete _ _ => exact kept_next (kept_stallGuard q h (kept_fenceDone q w h))
  | win _ _ _ => exact kept_next (kept_issue q w h (fun h => kept_modCore q (kept_fenceE q w h)))
  | reservedEncoding _ => exact kept_next (kept_issue q w h (fun h => kept_reservedStores q w (kept_modCore q (kept_fenceE q w
    (kept_mk q h)))))
  | _ => cases hi

/-- A step keeps `P` when work of the engines, a write of register space, the end of a tick, and the supervisor's commands keep it. -/
theorem kept_step (e : ∀ {s}, s ∈ P → eccSettle s ∈ P)
    (v : ∀ {i : Instr} {s}, i.ofSupervisor = true → s ∈ P → Kept P (exec i s)) : Kept P (step s) := by
  unfold step
  split
  next c rest _ =>
    have h1 : { s with pending := rest } ∈ P := kept_mk q h
    cases hc : c.ofCore with
    | true => exact kept_coreCommand q w h1 hc
    | false => cases hs : c.ofSupervisor with
      | true => exact v hs h1
      | false => exact kept_engineCommand q h1 (by rw [hc, hs]; rfl)
  next =>
    refine kept_next ?_
    unfold tick
    refine kept_ite h (kept_ite (kept_mk q (kept_mk q h)) (kept_modeStep q (e ?_)))
    exact kept_work q (kept_mk q h) (kept_dramDrain q (kept_timTick q (kept_hyTick q (kept_hyTick q (kept_mk q h)))))

end

end Sys2Proof.Machine
end

section
/-! PROOFS. Every step keeps every memory in its canonical form (O6). -/

namespace Sys2Proof.Machine

/-- The states whose memories are all in their canonical form. -/
def Canon : Set State := {s | MemInv s}

theorem canon_modLane₂ {s : State} (h : s ∈ Canon) {l : LaneId} {f : Lane → Lane} (hm : ∀ x, TabWf x.lmem → TabWf (f x).lmem)
    (hs : ∀ x, x.sram.wf = true → (f x).sram.wf = true) : s.modLane l f ∈ Canon := by
  obtain ⟨hg, hl⟩ := h
  refine ⟨fun g => by cases l <;> exact hg g, fun k => ?_⟩
  cases l <;> cases k
  · exact ⟨hs _ (hl .a).1, hm _ (hl .a).2⟩
  · exact hl .b
  · exact hl .a
  · exact ⟨hs _ (hl .b).1, hm _ (hl .b).2⟩

/-- The canonical form rests on the memories alone. -/
theorem quiet_canon : Quiet Canon where
  fields h _ _ _ _ _ _ _ _ _ _ _ _ _ _ _ _ _ _ _ _ _ _ _ _ := h
  sup h _ _ := h
  lane h _ _ hf := canon_modLane₂ h (fun x hx => (sameLane_iff.1 (hf x)).1 ▸ hx) (fun x hx => (sameLane_iff.1 (hf x)).2.1 ▸ hx)
  lmem h _ _ hf := canon_modLane₂ h (fun x => hf x.lmem) (fun _ hx => hx)
  sram h _ _ hf := canon_modLane₂ h (fun _ hx => hx) (fun x => hf x.sram)
  dram h _ hf := ⟨hf _ h.1, h.2⟩
  keep _ k := ⟨k.1, fun | .a => k.2 .a | .b => k.2 .b⟩

section
variable {s : State} (h : s ∈ Canon)
include h

theorem canon_modSup {f : Sup → Sup} : s.modSup f ∈ Canon := h

theorem canon_modLane {l} {f : Lane → Lane} (hf : ∀ x, ((f x).lmem, (f x).sram) = (x.lmem, x.sram)) : s.modLane l f ∈ Canon :=
  canon_modLane₂ h (fun x hx => (Prod.mk.inj (hf x)).1 ▸ hx) (fun x hx => (Prod.mk.inj (hf x)).2 ▸ hx)

theorem canon_setCause {l c} : setCause s l c ∈ Canon := canon_modSup h

theorem canon_laneDown {l cause} : laneDown s l cause ∈ Canon :=
  kept_work quiet_canon (canon_setCause (canon_modLane h (fun _ => by rfl))) (kept_record quiet_canon (canon_setCause
    (canon_modLane h (fun _ => by rfl))))

theorem canon_peerLost {cause} : peerLost s cause ∈ Canon :=
  kept_work quiet_canon (canon_modSup h) (kept_postRunning quiet_canon (canon_modSup h))

theorem canon_doubleFault : doubleFault s ∈ Canon := canon_modSup h

theorem canon_takeoverStart {l since} : takeoverStart s l since ∈ Canon := canon_modSup (canon_modLane h (fun _ => by rfl))

theorem canon_laneFail {l cause} : laneFail s l cause ∈ Canon := by
  unfold laneFail
  refine kept_ite h ?_
  extract_lets +onlyGivenNames twice alone
  exact kept_atOnce quiet_canon h (fun h => kept_ite (canon_doubleFault (canon_laneDown h)) (kept_ite (canon_laneDown h)
    (kept_ite (canon_takeoverStart (canon_laneDown h)) (canon_peerLost (canon_laneDown h)))))

theorem canon_strikeLane {l} : strikeLane s l ∈ Canon := kept_ite (canon_laneDown (canon_modLane h (fun _ => by rfl))) h

theorem canon_takeoverRun {l t} : takeoverRun s l t ∈ Canon := by
  unfold takeoverRun
  extract_lets +onlyGivenNames e s2 s3 dur cause s6
  have h1 : s2 ∈ Canon := canon_modSup (kept_ownAll quiet_canon h)
  have h2 : s3 ∈ Canon := kept_work quiet_canon h1 (kept_beatNow quiet_canon (kept_pclLaneEvt quiet_canon (kept_lpeTakeover
    quiet_canon (kept_foldl (fun _ _ h => kept_refreshSeq quiet_canon h) h1))))
  have h3 : s6 ∈ Canon := canon_modSup h2
  exact kept_work quiet_canon h3 (kept_postRunning quiet_canon (kept_record quiet_canon h3))

theorem canon_takeover {l t} : takeover s l t ∈ Canon := kept_atOnce quiet_canon h (fun h => canon_takeoverRun h)

theorem canon_rejoinStart : rejoinStart s ∈ Canon := by
  unfold rejoinStart
  extract_lets p s1
  have h1 : s1 ∈ Canon := kept_work quiet_canon (kept_coresStop quiet_canon (canon_modLane h fun _ => by rfl))
    (kept_linksClear quiet_canon (kept_coresStop quiet_canon (canon_modLane h fun _ => by rfl)))
  exact canon_modSup h1

theorem canon_laneCtrl {l v} : laneCtrl s l v ∈ Canon := by
  unfold laneCtrl
  extract_lets +onlyGivenNames s1
  have h1 : s1 ∈ Canon := kept_ite h (kept_ite (kept_work quiet_canon h (kept_reject quiet_canon h)) (canon_laneFail h))
  exact kept_ite h1 (kept_ite (canon_rejoinStart h1) (kept_work quiet_canon h1 (kept_reject quiet_canon h1)))

theorem canon_rejoinFail {cause} : rejoinFail s cause ∈ Canon := by
  unfold rejoinFail
  split
  · exact h
  · extract_lets +onlyGivenNames s1 o
    have h1 : s1 ∈ Canon := canon_setCause (canon_modSup h)
    exact kept_work quiet_canon h1 (kept_atOnce quiet_canon h1 (fun h => kept_postRunning quiet_canon (kept_record quiet_canon
      h)))

theorem canon_mirrorCopy {o p} : mirrorCopy s o p ∈ Canon := by
  unfold mirrorCopy
  extract_lets +onlyGivenNames s1 x s2
  have h1 : s1 ∈ Canon := kept_work quiet_canon h (kept_foldl (fun _ _ h => kept_deliverAll quiet_canon h) h)
  have h2 : s2 ∈ Canon := canon_modLane₂ h1 (fun _ _ => (h1.2 o).2) (fun _ _ => (h1.2 o).1)
  refine kept_work quiet_canon h2 (kept_wdStart quiet_canon (kept_linksClear quiet_canon (kept_linksClear quiet_canon
    (kept_foldl (fun _ _ h => kept_modSeq quiet_canon h) (kept_both (kept_mk quiet_canon ?_) fun _ _ h => canon_modLane h fun _
      => by rfl)))))
  exact kept_mk quiet_canon (quiet_canon.dram h2 (f := fun t => tset t (2 + p.num) (s2.gib (2 + o.num))) fun _ ht =>
    tabWf_tset ht _ (h2.1 _))

theorem canon_eccError {r} : eccError s r ∈ Canon := by
  unfold eccError
  split
  · exact kept_ite (canon_laneFail h) h
  · exact kept_ite (canon_laneFail (kept_work quiet_canon h (kept_eccCount quiet_canon h))) (kept_work quiet_canon h
      (kept_eccCount quiet_canon h))
  · exact kept_work quiet_canon h (kept_engineFault quiet_canon (kept_eccCount quiet_canon h))
  · exact kept_ite (canon_rejoinFail (kept_work quiet_canon h (kept_eccCount quiet_canon h))) h

theorem canon_eccMeet {m} : eccMeet s m ∈ Canon := by
  unfold eccMeet
  split
  · exact canon_eccError h
  · exact canon_eccError (kept_mk quiet_canon h)

theorem canon_eccSettle : eccSettle s ∈ Canon := kept_foldl (fun _ _ h => canon_eccMeet h) (kept_mk quiet_canon h)

theorem canon_enterPark : enterPark s ∈ Canon := by
  unfold enterPark
  extract_lets +onlyGivenNames s1
  have h1 : s1 ∈ Canon := canon_modSup h
  refine kept_work quiet_canon h1 (kept_atOnce quiet_canon h1 fun h => ?_)
  extract_lets +onlyGivenNames s2
  have h2 : s2 ∈ Canon := kept_levelsBoth quiet_canon (kept_dutiesTo quiet_canon (kept_banksWind quiet_canon
    (kept_switchesOff quiet_canon (kept_shedStop quiet_canon (kept_watchdogsOff quiet_canon h)))))
  exact kept_hstResign quiet_canon (kept_pnlPark quiet_canon (kept_pclHalt quiet_canon (kept_recHoldup quiet_canon h2 id)))

theorem canon_modeEnter {t} : modeEnter s t ∈ Canon := by
  unfold modeEnter
  extract_lets +onlyGivenNames m s2 s3
  have h1 : s2 ∈ Canon := kept_work quiet_canon h (kept_ite (kept_debugEnd quiet_canon (kept_ite (kept_leaveBench quiet_canon
    (kept_ite (kept_groupsSettle quiet_canon h) h)) (kept_ite (kept_groupsSettle quiet_canon h) h))) (kept_ite (kept_leaveBench
    quiet_canon (kept_ite (kept_groupsSettle quiet_canon h) h)) (kept_ite (kept_groupsSettle quiet_canon h) h)))
  have h2 : s3 ∈ Canon := canon_modSup h1
  split
  · exact h2
  · exact kept_work quiet_canon h2 (kept_atOnce quiet_canon h2 (fun h => kept_enterService quiet_canon h))
  · exact kept_work quiet_canon h2 (kept_atOnce quiet_canon h2 (fun h => kept_enterBench quiet_canon h))
  · exact canon_enterPark h2

theorem canon_modeCmd {l v} : modeCmd s l v ∈ Canon := by
  unfold modeCmd
  refine kept_atOnce quiet_canon h (fun h => ?_)
  refine kept_ite (kept_work quiet_canon h (kept_reject quiet_canon h)) ?_
  refine kept_ite (kept_work quiet_canon h (kept_reject quiet_canon h)) ?_
  extract_lets +onlyGivenNames s1 r
  have h1 : s1 ∈ Canon := kept_work quiet_canon h (kept_sessExpire quiet_canon h)
  exact kept_ite (kept_work quiet_canon h1 (kept_reject quiet_canon h1)) (canon_modeEnter h1)

theorem canon_lanesPark : lanesPark s ∈ Canon :=
  kept_both h (fun _ _ h => canon_modLane (kept_coresStop quiet_canon h) (fun _ => by rfl))

theorem canon_parkShut : parkShut s ∈ Canon := by
  unfold parkShut
  extract_lets +onlyGivenNames s1
  have h1 : s1 ∈ Canon := kept_work quiet_canon h (kept_timFreeze quiet_canon (kept_canPark quiet_canon (kept_camPark quiet_canon
    (kept_foldl (fun _ _ h => kept_ethDrop quiet_canon h) h))))
  exact canon_modSup (canon_lanesPark h1)

theorem canon_offState {unclean} : offState s unclean ∈ Canon :=
  ⟨fun _ => rfl, fun l => by cases l <;> exact ⟨rfl, fun _ => rfl⟩⟩

theorem canon_cfgApply {r} : cfgApply s r ∈ Canon :=
  kept_ite (kept_cfgCounted quiet_canon h (fun h => canon_modeCmd h)) (kept_work quiet_canon h (kept_cfgCounted quiet_canon h
    (fun h => kept_ite (kept_both h (fun _ _ h1 => kept_cfgWrite1 quiet_canon h1)) (kept_cfgWrite1 quiet_canon h))))

theorem canon_cfgLoad {p} : cfgLoad s p ∈ Canon := kept_foldl (fun _ _ h => canon_cfgApply h) (kept_modCfg quiet_canon h)

theorem canon_laneUp {l e out} : laneUp s l e out ∈ Canon :=
  kept_ite h (kept_wdStart quiet_canon (canon_modLane h (fun _ => by rfl)))

theorem canon_serviceUp : serviceUp s ∈ Canon := by
  unfold serviceUp
  extract_lets +onlyGivenNames s1 s2
  have h1 : s1 ∈ Canon := kept_ite (kept_work quiet_canon h (kept_serviceOff quiet_canon (kept_ite (kept_leaveBench quiet_canon
    (kept_groupsSettle quiet_canon h)) h))) h
  have h2 : s2 ∈ Canon := canon_modSup h1
  exact kept_work quiet_canon (kept_both h2 (fun _ _ h => canon_laneUp h)) (kept_recStart quiet_canon (kept_hstListen quiet_canon
    (kept_both h2 (fun _ _ h => canon_laneUp h))))

theorem canon_coldBase {cause t} : coldBase s cause t ∈ Canon := by
  unfold coldBase
  extract_lets +onlyGivenNames s1 s2 r s3
  have h3 : s3 ∈ Canon := kept_mk quiet_canon (canon_modSup (canon_offState h))
  refine kept_work quiet_canon h3 ?_
  extract_lets s4 fault
  have h4 : s4 ∈ Canon := kept_rwrap quiet_canon (kept_rwrap quiet_canon h3)
  have hf {s} (h : s ∈ Canon) {b e} : fault s b e ∈ Canon := kept_ite (kept_engineFault quiet_canon (kept_mk quiet_canon h)) h
  exact hf (hf h4)

theorem canon_coldConfig : coldConfig s ∈ Canon := by
  unfold coldConfig
  dsimp only
  split
  · exact canon_modSup (canon_cfgLoad (kept_modCfg quiet_canon h))
  · exact kept_modCfg quiet_canon (kept_modCfg quiet_canon h)

theorem canon_coldStart {cause t} : coldStart s cause t ∈ Canon := by
  unfold coldStart
  extract_lets +onlyGivenNames s1
  have h1 : s1 ∈ Canon := kept_coldImage quiet_canon (kept_coldEngines quiet_canon (canon_coldConfig (canon_coldBase h)))
  exact kept_ite (canon_serviceUp (canon_modSup h1)) (kept_ite (canon_serviceUp h1) h1)

theorem canon_laneStop {l} : laneStop s l ∈ Canon := by
  unfold laneStop
  extract_lets +onlyGivenNames s1
  have h1 : s1 ∈ Canon := canon_modLane (kept_coresStop quiet_canon h) (fun _ => by rfl)
  exact kept_work quiet_canon h1 (kept_lpeWarm quiet_canon (kept_evtWarm quiet_canon (kept_halWarm quiet_canon (kept_linksClear
    quiet_canon h1))))

theorem canon_warmStop {cause t} : warmStop s cause t ∈ Canon := by
  unfold warmStop
  extract_lets +onlyGivenNames s1 s2
  have h1 : s1 ∈ Canon := canon_modSup h
  have h2 : s2 ∈ Canon := kept_both (kept_work quiet_canon h1 (kept_regsWarm quiet_canon h1)) (fun _ _ h => canon_laneStop h)
  exact kept_work quiet_canon h2 (kept_pclLaneEvt quiet_canon (kept_fusWarm quiet_canon (kept_fabWarm quiet_canon (kept_pwrWarm
    quiet_canon (kept_warmOutputs quiet_canon (kept_foldl (fun _ _ h => kept_seqStop quiet_canon h) h2))))))

theorem canon_warmConfig : warmConfig s ∈ Canon := by
  unfold warmConfig
  split
  · exact kept_ite (canon_modSup (canon_cfgLoad h)) h
  · exact h

theorem canon_warmStart {cause t} : warmStart s cause t ∈ Canon := by
  unfold warmStart
  extract_lets +onlyGivenNames s1 s2 s3 h0
  have h1 : s1 ∈ Canon := kept_work quiet_canon (canon_warmConfig (canon_warmStop h)) (kept_both (canon_warmConfig
    (canon_warmStop h)) (fun _ _ h => kept_selsReset quiet_canon h))
  have h2 : s2 ∈ Canon := kept_ite (kept_wakeEngines quiet_canon h1) (kept_ite (kept_work quiet_canon h1 (kept_pnlStart
    quiet_canon h1)) h1)
  have h3 : s3 ∈ Canon := kept_modPwr quiet_canon h2
  exact kept_ite (canon_coldStart h3) (kept_ite (kept_loadImage quiet_canon h3) (kept_ite (kept_loadImage quiet_canon
    (canon_modSup (kept_modSec quiet_canon h3))) (canon_coldStart h3)))

theorem canon_outputEnable : outputEnable s ∈ Canon := by
  unfold outputEnable
  extract_lets +onlyGivenNames o e s3 s4 s5
  have h1 : s3 ∈ Canon := canon_modSup h
  have h2 : s4 ∈ Canon := kept_work quiet_canon (kept_ownAll quiet_canon h1) (kept_levelsBoth quiet_canon (kept_ownAll
    quiet_canon h1))
  have h3 : s5 ∈ Canon := kept_bootLanes quiet_canon (kept_both h2 (fun _ _ h => canon_laneUp h))
  exact kept_work quiet_canon h3 (kept_recStart quiet_canon (kept_hstListen quiet_canon h3))

theorem canon_rstCmd {l v t} : rstCmd s l v t ∈ Canon :=
  kept_ite (kept_work quiet_canon h (kept_reject quiet_canon h)) (kept_ite (kept_work quiet_canon h (kept_reject quiet_canon h))
    (kept_ite (canon_warmStart h) (kept_ite (canon_coldStart h) (kept_work quiet_canon h (kept_reject quiet_canon h)))))

theorem canon_holdupEnter {v1 v2} : holdupEnter s v1 v2 ∈ Canon := by
  unfold holdupEnter
  extract_lets +onlyGivenNames s1
  have h1 : s1 ∈ Canon := canon_modSup h
  refine kept_work quiet_canon h1 ?_
  refine kept_atOnce quiet_canon h1 (fun h => ?_)
  extract_lets +onlyGivenNames s1 s2 s3
  have h2 : s1 ∈ Canon := kept_watchdogsOff quiet_canon (kept_shedStop quiet_canon (kept_modPwr quiet_canon h))
  have h3 : s2 ∈ Canon := kept_postEngine quiet_canon (kept_rwrap quiet_canon h2)
  have h4 : s3 ∈ Canon := kept_ite h3 (kept_ite (kept_holdupOnPark quiet_canon h3) (kept_holdupStops quiet_canon h3))
  exact kept_pnlHoldup quiet_canon (kept_camHoldup quiet_canon h4)

theorem canon_regWriteAny {l c a v} : regWriteAny s l c a v ∈ Canon :=
  kept_ite (kept_ite (canon_laneCtrl h) h) (kept_ite (kept_ite (canon_rstCmd h) h) (kept_ite (kept_ite (canon_modeCmd h) h)
    (kept_work quiet_canon h (kept_regWriteBase quiet_canon h))))

theorem canon_execRejoinCatchUp : Kept Canon (execRejoinCatchUp s) := by
  unfold execRejoinCatchUp
  refine kept_actUp quiet_canon h ?_
  split
  · exact h
  · extract_lets +onlyGivenNames o
    refine kept_ite h ?_
    split
    · exact canon_rejoinFail (kept_work quiet_canon h (kept_eccCount quiet_canon h))
    · extract_lets +onlyGivenNames s1 s2 e
      have h1 : s1 ∈ Canon := canon_mirrorCopy h
      have h2 : s2 ∈ Canon := canon_modSup h1
      exact kept_work quiet_canon h2 (kept_atOnce quiet_canon h2 (fun h => kept_postRunning quiet_canon (kept_record quiet_canon
        (kept_recStart quiet_canon h))))

theorem canon_execRejoinTimeout : Kept Canon (execRejoinTimeout s) := by
  unfold execRejoinTimeout
  refine kept_actUp quiet_canon h ?_
  split
  · exact kept_ite (canon_rejoinFail h) h
  · exact h

theorem canon_execEccUncorrectable {r} : Kept Canon (execEccUncorrectable r s) := by
  unfold execEccUncorrectable
  refine kept_actOn quiet_canon h ?_
  refine canon_eccError ?_
  split
  · exact kept_mk quiet_canon h
  · exact h

theorem canon_execPeerSilent {l} : Kept Canon (execPeerSilent l s) := by
  unfold execPeerSilent
  refine kept_actUp quiet_canon h ?_
  refine kept_ite h ?_
  refine kept_atOnce quiet_canon h (fun h => ?_)
  extract_lets +onlyGivenNames s1 s2
  have h1 : s1 ∈ Canon := canon_setCause h
  have h2 : s2 ∈ Canon := kept_work quiet_canon h1 (kept_record quiet_canon h1)
  exact kept_ite (canon_takeoverStart h2) (canon_peerLost h2)

theorem canon_execTakeover : Kept Canon (execTakeover s) := by
  unfold execTakeover
  refine kept_actUp quiet_canon h ?_
  split
  · exact kept_ite (canon_takeover h) h
  · exact h

theorem canon_execOwnershipChange {l t} : Kept Canon (execOwnershipChange l t s) := by
  unfold execOwnershipChange
  refine kept_actUp quiet_canon h ?_
  refine kept_ite h ?_
  split
  · exact kept_ite (kept_work quiet_canon h (kept_ownSeq quiet_canon h)) h
  · exact kept_ite (kept_ownEngines quiet_canon h) h

theorem canon_execWarmStart {t} : Kept Canon (execWarmStart t s) := by
  unfold execWarmStart
  refine kept_actSup quiet_canon ?_
  refine kept_ite h ?_
  split
  · exact kept_ite (canon_warmStart (kept_holdupReturn quiet_canon h)) h
  · exact kept_ite (canon_warmStart h) h
  · exact kept_ite (canon_warmStart h) h
  · exact h

theorem canon_execSupplyReturn : Kept Canon (execSupplyReturn s) := by
  unfold execSupplyReturn
  refine kept_actOn quiet_canon h ?_
  refine kept_ite h ?_
  extract_lets +onlyGivenNames s1
  have h1 : s1 ∈ Canon := kept_work quiet_canon h (kept_postEngine quiet_canon (kept_modPwr quiet_canon h))
  exact kept_ite h1 (canon_modSup h1)

theorem canon_execRejoinTestFault : Kept Canon (execRejoinTestFault s) := by
  unfold execRejoinTestFault
  refine kept_actUp quiet_canon h ?_
  split
  · exact canon_rejoinFail h
  · exact h

theorem canon_supervisorCommand {i : Instr} (hi : i.ofSupervisor = true) : Kept Canon (exec i s) := by
  cases i with
  | genericRegisterWrite _ _ _ _ => exact kept_actOn quiet_canon h (canon_regWriteAny h)
  | blockLock _ _ => exact kept_actOn quiet_canon h (canon_regWriteAny h)
  | failSelf _ => exact kept_actUp quiet_canon h (canon_laneCtrl h)
  | rejoinPeer _ => exact kept_actUp quiet_canon h (canon_laneCtrl h)
  | rejoinCatchUp => exact canon_execRejoinCatchUp h
  | rejoinTimeout => exact canon_execRejoinTimeout h
  | lockstepMismatch _ => exact kept_actUp quiet_canon h (canon_laneFail h)
  | eccUncorrectable _ => exact canon_execEccUncorrectable h
  | journalWriteFail _ => exact kept_actUp quiet_canon h (canon_laneFail h)
  | laneSupplyFail _ => exact kept_actUp quiet_canon h (canon_laneFail h)
  | watchdogExpiry _ => exact kept_actUp quiet_canon h (kept_ite (canon_laneFail h) h)
  | mirrorHeartbeat _ => exact kept_actUp quiet_canon h (kept_ite h (kept_ite (canon_strikeLane (canon_modLane h (fun _ => by
    rfl))) (canon_modLane h (fun _ => by rfl))))
  | peerSilent _ => exact canon_execPeerSilent h
  | takeover => exact canon_execTakeover h
  | laneStrike _ => exact kept_actUp quiet_canon h (kept_ite (canon_strikeLane h) h)
  | ownershipChange _ _ => exact canon_execOwnershipChange h
  | coreStart => exact kept_actUp quiet_canon h (kept_bootLanes quiet_canon h)
  | canWake _ => exact kept_actSup quiet_canon (kept_ite (kept_wakeUp quiet_canon (kept_work quiet_canon h (kept_postEngine
    quiet_canon h))) h)
  | powerOn _ => exact kept_actSup quiet_canon (kept_ite (canon_coldStart h) h)
  | rstcmdCold _ _ => exact kept_actUp quiet_canon h (canon_rstCmd h)
  | rstcmdWarm _ _ => exact kept_actUp quiet_canon h (canon_rstCmd h)
  | warmStart _ => exact canon_execWarmStart h
  | outputEnable _ => exact kept_actSup quiet_canon (kept_ite h (kept_ite (canon_serviceUp h) (kept_ite (kept_ite
    (canon_outputEnable (kept_bankEnergy quiet_canon h)) h) (kept_ite (canon_outputEnable h) h))))
  | warmStartEscalate _ => exact kept_actSup quiet_canon (kept_ite (canon_coldStart h) h)
  | journalCheckpoint => exact kept_actOn quiet_canon h (kept_ite (canon_modSup h) h)
  | lowSupplyEntry => exact kept_actOn quiet_canon h (kept_ite (kept_work quiet_canon (canon_modSup h) (kept_postEngine
    quiet_canon (canon_modSup h))) h)
  | lowSupplyExit => exact kept_actOn quiet_canon h (kept_ite (canon_modSup h) h)
  | holdUpEntry _ _ => exact kept_actOn quiet_canon h (kept_ite h (canon_holdupEnter h))
  | supplyReturn => exact canon_execSupplyReturn h
  | holdUpSwitchOff => exact kept_actSup quiet_canon (kept_ite (canon_offState h) h)
  | holdUpEnergyOut => exact kept_actSup quiet_canon (kept_ite (canon_offState h) h)
  | modeRun _ => exact kept_actUp quiet_canon h (canon_modeCmd h)
  | modeService _ => exact kept_actUp quiet_canon h (canon_modeCmd h)
  | modeBench _ => exact kept_actUp quiet_canon h (canon_modeCmd h)
  | modePark _ => exact kept_actUp quiet_canon h (canon_modeCmd h)
  | parkShutdown => exact kept_actUp quiet_canon h (kept_ite (canon_parkShut h) h)
  | wakeInput _ => exact kept_actSup quiet_canon (kept_ite (kept_wakeUp quiet_canon h) h)
  | wakeTimer => exact kept_actSup quiet_canon (kept_ite (kept_wakeUp quiet_canon h) h)
  | parkPowerLoss => exact kept_actSup quiet_canon (kept_ite (canon_offState h) h)
  | rejoinTestFault => exact canon_execRejoinTestFault h
  | _ => cases hi

end

/-- Settles O6: every change that a step makes to a memory is a write, a load of an image or a copy of the mirror. -/
theorem memoriesStayCanonical : Obligations.MemoriesStayCanonical :=
  fun _ _ h => kept_step quiet_canon (fun h => canon_regWriteAny h) h (fun h => canon_eccSettle h) (fun hi h => canon_supervisorCommand h hi) _

end Sys2Proof.Machine
end

section
/-! PROOFS. Every step keeps the rules of the lane pair (O7). -/

namespace Sys2Proof.Machine

/-! ### What the rules of the lane pair speak of -/

/-- The phase, the lane mode, the active lane, a takeover or rejoin under way, and which lanes are healthy and struck. -/
structure LaneView where
  phase : Phase
  laneMode : LaneMode
  active : LaneId
  takeover : Option Loss
  rejoin : Option Rejoin
  live : LaneId → Bool
  struck : LaneId → Bool

/-- The view of a state. -/
def laneView (s : State) : LaneView :=
  ⟨s.sup.phase, s.sup.laneMode, s.sup.active, s.sup.takeover, s.sup.rejoin, fun l => (s.lane l).live, fun l => (s.lane l).struck⟩

/-- No lane is healthy, no takeover is due and no rejoin runs. -/
structure LaneView.Asleep (v : LaneView) : Prop where
  live : ∀ l, v.live l = false
  takeover : v.takeover = none
  rejoin : v.rejoin = none

/-- The rules of the lane pair (R33, R37, R38, R40). -/
structure LaneView.Sound (v : LaneView) : Prop where
  still : (v.phase == .running || v.phase == .parking) = false → v.Asleep
  fit : ∀ l, v.live l = true → v.struck l = false
  takeover : ∀ t, v.takeover = some t → (v.laneMode = .dual ∨ v.laneMode = .rejoin ∧ v.rejoin = none) ∧ t.lane = v.active
  rejoin : ∀ r, v.rejoin = some r → v.laneMode = .rejoin ∧ r.lane = v.active.other ∧ v.live r.lane = false

theorem lanesSound_iff (s : State) : lanesSound s = true ↔
    (s.lanesUp = false → (laneView s).Asleep) ∧ ∀ l, (laneView s).live l = true → (laneView s).struck l = false := by
  have hl (p : LaneId → Prop) : (∀ l, p l) ↔ p .a ∧ p .b := ⟨fun h => ⟨h _, h _⟩, fun h l => by cases l; exacts [h.1, h.2]⟩
  have ha : (laneView s).Asleep ↔ (s.laneA.live = false ∧ s.laneB.live = false) ∧ s.sup.takeover = none ∧ s.sup.rejoin = none :=
    ⟨fun h => ⟨⟨h.live .a, h.live .b⟩, h.takeover, h.rejoin⟩, fun h => ⟨(hl _).2 h.1, h.2.1, h.2.2⟩⟩
  rw [ha, hl]
  simp only [lanesSound, laneView, State.lane]
  cases s.lanesUp <;> cases s.laneA.live <;> cases s.laneB.live <;> simp

theorem takeoverSound_iff (s : State) : takeoverSound s = true ↔ ∀ t, s.sup.takeover = some t →
    (s.sup.laneMode = .dual ∨ s.sup.laneMode = .rejoin ∧ s.sup.rejoin = none) ∧ t.lane = s.sup.active := by
  unfold takeoverSound
  cases s.sup.takeover <;> simp

theorem rejoinSound_iff (s : State) : rejoinSound s = true ↔ ∀ r, s.sup.rejoin = some r →
    s.sup.laneMode = .rejoin ∧ r.lane = s.sup.active.other ∧ (s.lane r.lane).live = false := by
  unfold rejoinSound State.lane
  cases s.sup.rejoin with
  | none => simp
  | some r => cases hr : r.lane <;> simp [hr, and_assoc]

theorem laneInv_iff (s : State) : LaneInv s ↔ (laneView s).Sound := by
  unfold LaneInv
  rw [lanesSound_iff, takeoverSound_iff, rejoinSound_iff]
  exact ⟨fun ⟨⟨h, i⟩, j, k⟩ => ⟨h, i, j, k⟩, fun ⟨h, i, j, k⟩ => ⟨⟨h, i⟩, j, k⟩⟩

theorem LaneView.Asleep.sound {v : LaneView} (h : v.Asleep) : v.Sound where
  still _ := h
  fit l hl := by rw [h.live l] at hl; cases hl
  takeover t ht := by rw [h.takeover] at ht; cases ht
  rejoin r hr := by rw [h.rejoin] at hr; cases hr

theorem LaneView.Asleep.parking {v : LaneView} (h : v.Asleep) : ({ v with phase := .parking } : LaneView).Asleep :=
  ⟨h.live, h.takeover, h.rejoin⟩

/-! ### What engines leave of the view -/

/-- The states with a view in `V`. -/
def Seen (V : Set LaneView) : Set State := {s | laneView s ∈ V}

theorem laneView_setLane (s : State) (l : LaneId) (f : Lane → Lane) : laneView (s.modLane l f) = { laneView s with
    live := Function.update (laneView s).live l (f (s.lane l)).live
    struck := Function.update (laneView s).struck l (f (s.lane l)).struck } := by
  simp only [laneView, State.modLane_sup, LaneView.mk.injEq, true_and]
  constructor <;> funext k <;> cases l <;> cases k <;> rfl

theorem laneView_modLane {s : State} {l : LaneId} {f : Lane → Lane} (h : ∀ x, (f x).live = x.live ∧ (f x).struck = x.struck) :
    laneView (s.modLane l f) = laneView s := by
  obtain ⟨h1, h2⟩ := h (s.lane l)
  rw [laneView_setLane, h1, h2, show (s.lane l).live = (laneView s).live l from rfl,
    show (s.lane l).struck = (laneView s).struck l from rfl, Function.update_eq_self, Function.update_eq_self]

theorem seen_of_view {V : Set LaneView} {s : State} {v : LaneView} (e : laneView s = v) (h : v ∈ V) : s ∈ Seen V := by
  subst e
  exact h

theorem laneView_keep (s t : State) : laneView (keep s t) = laneView s := by
  have hl (k) : ((keep s t).lane k).live = (s.lane k).live ∧ ((keep s t).lane k).struck = (s.lane k).struck := by
    cases k <;> exact ⟨rfl, rfl⟩
  unfold laneView
  rw [funext fun k => (hl k).1, funext fun k => (hl k).2]
  rfl

theorem seen_of_eq {V : Set LaneView} {s t : State} (e : laneView t = laneView s) (h : s ∈ Seen V) : t ∈ Seen V := by
  rw [Seen, Set.mem_ofPred_eq, e]
  exact h

/-- Work of the engines leaves the view. -/
theorem quiet_seen (V : Set LaneView) : Quiet (Seen V) where
  fields h _ _ _ _ _ _ _ _ _ _ _ _ _ _ _ _ _ _ _ _ _ _ _ _ := h
  sup h _ hu := by
    obtain ⟨h1, h2, h3, h4, h5⟩ := samePair_iff.1 hu
    refine seen_of_eq ?_ h
    simp only [laneView, h1, h2, h3, h4, h5]
    rfl
  lane h _ _ hf := seen_of_eq (laneView_modLane fun x => (sameLane_iff.1 (hf x)).2.2) h
  lmem h _ _ _ := seen_of_eq (laneView_modLane fun _ => ⟨rfl, rfl⟩) h
  sram h _ _ _ := seen_of_eq (laneView_modLane fun _ => ⟨rfl, rfl⟩) h
  dram h _ _ := h
  keep h _ := seen_of_eq (laneView_keep _ _) h

theorem laneView_work (s : State) (f : State → State) : laneView (s.work f) = laneView s := laneView_keep s (f s)

theorem seen_self (s : State) : s ∈ Seen {laneView s} := rfl

theorem seen_work {V : Set LaneView} {s : State} {f : State → State} (h : s ∈ Seen V) : s.work f ∈ Seen V :=
  seen_of_eq (laneView_work s f) h

/-- What is done at one instant starts from the view of the instant. -/
theorem seen_atOnce {V : Set LaneView} {s : State} {f : State → State} (h : ∀ t, laneView t = laneView s → f t ∈ Seen V) :
    atOnce f s ∈ Seen V := by
  unfold atOnce
  refine kept_both (h _ ?_) fun _ _ h => kept_modLane (quiet_seen V) h fun _ => by rfl
  exact kept_both (seen_self s) fun _ _ h => kept_modLane (quiet_seen _) h fun _ => by rfl

/-! ### Failures and takeover -/

/-- A view without the health of a lane. -/
def LaneView.down (v : LaneView) (l : LaneId) : LaneView := { v with live := Function.update v.live l false }

theorem laneView_laneDown (s : State) (l : LaneId) (c : Nat) : laneView (laneDown s l c) = (laneView s).down l := by
  have h1 : laneView (s.modLane l fun x => { x with live := false, wdEnd := none }) = (laneView s).down l := by
    rw [laneView_setLane]
    exact congrArg (fun g => { (laneView s).down l with struck := g }) (Function.update_eq_self l (laneView s).struck)
  unfold laneDown
  rw [laneView_work]
  exact h1 ▸ kept_setCause (quiet_seen _) (seen_self _)

namespace LaneView

variable {v : LaneView}

/-- Whether the lanes run. -/
def up (v : LaneView) : Bool := v.phase == .running || v.phase == .parking

theorem Sound.mk' (hu : v.up = true) (hf : ∀ l, v.live l = true → v.struck l = false)
    (ht : ∀ t, v.takeover = some t → (v.laneMode = .dual ∨ v.laneMode = .rejoin ∧ v.rejoin = none) ∧ t.lane = v.active)
    (hr : ∀ r, v.rejoin = some r → v.laneMode = .rejoin ∧ r.lane = v.active.other ∧ v.live r.lane = false) : v.Sound :=
  ⟨fun h => absurd (hu.symm.trans h) (by decide), hf, ht, hr⟩

theorem down_live {l k : LaneId} (h : (v.down l).live k = true) : v.live k = true := by
  change Function.update v.live l false k = true at h
  by_cases e : k = l
  · rw [e, Function.update_self] at h; cases h
  · rwa [Function.update_of_ne e] at h

theorem down_not_live {l k : LaneId} (h : v.live k = false) : (v.down l).live k = false :=
  Bool.eq_false_iff.2 fun hk => Bool.eq_false_iff.1 h (down_live hk)

theorem Sound.down (h : v.Sound) (l : LaneId) : (v.down l).Sound where
  still hu := let ⟨hl, ht, hr⟩ := h.still hu; ⟨fun k => down_not_live (hl k), ht, hr⟩
  fit k hk := h.fit k (down_live hk)
  takeover := h.takeover
  rejoin r hr := let ⟨hm, ha, hl⟩ := h.rejoin r hr; ⟨hm, ha, down_not_live hl⟩

/-- While both lanes are healthy no rejoin runs. -/
theorem Sound.noRejoin (h : v.Sound) (l : LaneId) (hl : v.live l = true) (ho : v.live l.other = true) : v.rejoin = none := by
  cases hr : v.rejoin with
  | none => rfl
  | some r =>
    obtain ⟨_, _, hn⟩ := h.rejoin r hr
    have : r.lane = l ∨ r.lane = l.other := by cases r.lane <;> cases l <;> simp [LaneId.other]
    rcases this with e | e
    · rw [e, hl] at hn; cases hn
    · rw [e, ho] at hn; cases hn

/-- While a rejoin runs no takeover is due. -/
theorem Sound.noTakeover (h : v.Sound) {r : Rejoin} (hr : v.rejoin = some r) : v.takeover = none := by
  cases ht : v.takeover with
  | none => rfl
  | some t =>
    obtain ⟨hm | ⟨_, hn⟩, _⟩ := h.takeover t ht
    · rw [(h.rejoin r hr).1] at hm; cases hm
    · rw [hr] at hn; cases hn

/-- With neither takeover nor rejoin, the lane mode and the active lane are free. -/
theorem Sound.settled (h : v.Sound) (ht : v.takeover = none) (hr : v.rejoin = none) (m : LaneMode) (l : LaneId) :
    ({ v with laneMode := m, active := l } : LaneView).Sound where
  still hu := let ⟨hl, _, _⟩ := h.still hu; ⟨hl, ht, hr⟩
  fit := h.fit
  takeover t e := by cases ht.symm.trans e
  rejoin r e := by cases hr.symm.trans e

/-- A takeover or a rejoin may end at any time. -/
theorem Sound.ended (h : v.Sound) : ({ v with takeover := none, rejoin := none } : LaneView).Sound where
  still hu := let ⟨hl, _, _⟩ := h.still hu; ⟨hl, rfl, rfl⟩
  fit := h.fit
  takeover _ e := by cases e
  rejoin _ e := by cases e

theorem Sound.takeoverDue (h : v.Sound) (hu : v.up = true) (hr : v.rejoin = none) (hm : v.laneMode = .dual ∨ v.laneMode = .rejoin)
    (i : Nat) : ({ v with takeover := some ⟨v.active, i⟩ } : LaneView).Sound :=
  .mk' hu h.fit (fun t e => by cases e; exact ⟨hm.imp_right fun hm => ⟨hm, hr⟩, rfl⟩) h.rejoin

/-- A lane that strikes is healthy no more. -/
theorem Sound.strike (h : v.Sound) (l : LaneId) : (({ v with struck := Function.update v.struck l true } : LaneView).down l).Sound where
  still hu := let ⟨hl, ht, hr⟩ := (h.down l).still hu; ⟨hl, ht, hr⟩
  fit k hk := by
    have hne : k ≠ l := fun e => by
      have : (v.down l).live k = false := e ▸ Function.update_self ..
      exact absurd (this.symm.trans hk) (by decide)
    exact (Function.update_of_ne hne ..).trans ((h.down l).fit k hk)
  takeover := h.takeover
  rejoin := (h.down l).rejoin

end LaneView

/-- The states in which the rules of the lane pair hold. -/
def LanePair : Set State := Seen {v | v.Sound}

theorem quiet_pair : Quiet LanePair := quiet_seen _

theorem pair_of_view {s : State} {v : LaneView} (e : laneView s = v) (h : v.Sound) : s ∈ LanePair := seen_of_view e h

theorem not_onlyLive {s : State} {l : LaneId} (h : onlyLive s l = false) :
    (s.lane l.other).live = true ∧ s.sup.laneMode ≠ .single l ∧ ∀ t, s.sup.takeover = some t → t.lane = l := by
  unfold onlyLive at h
  simp only [Bool.or_eq_false_iff, Bool.not_eq_false', beq_eq_false_iff_ne] at h
  obtain ⟨⟨hl, hm⟩, ht⟩ := h
  refine ⟨hl, hm, fun t e => ?_⟩
  rw [e] at ht
  simpa using ht

theorem dual_or_rejoin {m : LaneMode} {l : LaneId} (h : m ≠ .single l) (h' : m ≠ .single l.other) : m = .dual ∨ m = .rejoin := by
  revert h h'
  cases m <;> cases l <;> decide

theorem eq_other {l k : LaneId} (h : l ≠ k) : l = k.other := by
  revert h
  cases l <;> cases k <;> decide

theorem pair_peerLost {s : State} (h : s ∈ LanePair) (ht : s.sup.takeover = none) (hr : s.sup.rejoin = none) {c : Nat} :
    peerLost s c ∈ LanePair :=
  seen_work (pair_of_view rfl (LaneView.Sound.settled h ht hr (.single s.sup.active) s.sup.active))

theorem laneView_takeoverStart (s : State) (l : LaneId) (i : Nat) :
    laneView (takeoverStart s l i) = { laneView s with takeover := some ⟨l, i⟩ } := by
  have h : laneView (s.modLane l.other fun x => { x with epoch := (x.epoch + 1) % 65536 }) = laneView s :=
    laneView_modLane fun _ => ⟨rfl, rfl⟩
  rw [← h]
  cases l <;> rfl

theorem pair_takeoverStart {s : State} (h : s ∈ LanePair) (hu : s.lanesUp = true) (hr : s.sup.rejoin = none)
    (hm : s.sup.laneMode = .dual ∨ s.sup.laneMode = .rejoin) {i : Nat} : takeoverStart s s.sup.active i ∈ LanePair :=
  pair_of_view (laneView_takeoverStart s s.sup.active i) (LaneView.Sound.takeoverDue h hu hr hm i)

/-- A failure leads to a double fault, to a takeover, or to the active lane alone. -/
theorem pair_laneFail {s : State} (h : s ∈ LanePair) (hu : s.lanesUp = true) {l : LaneId} {c : Nat} : laneFail s l c ∈ LanePair := by
  unfold laneFail
  split
  · exact h
  next hl =>
    extract_lets twice alone
    refine seen_atOnce fun t ht => ?_
    have hv : laneView (laneDown t l c) = (laneView s).down l := by rw [laneView_laneDown, ht]
    have hd : laneDown t l c ∈ LanePair := pair_of_view hv (LaneView.Sound.down h l)
    split
    · exact pair_of_view rfl (LaneView.Sound.ended hd)
    next h2 =>
      split
      · exact hd
      next ha =>
        obtain ⟨ho, hm, _⟩ := not_onlyLive (Bool.eq_false_iff.2 h2)
        have ha : s.sup.laneMode ≠ .single l.other ∧ s.sup.takeover = none := by
          simpa [alone] using ha
        have hr : s.sup.rejoin = none := LaneView.Sound.noRejoin h l (by simpa using hl : (s.lane l).live = true) ho
        have e : laneView (laneDown t l c) = (laneView s).down l := hv
        simp only [laneView, LaneView.down, LaneView.mk.injEq] at e
        obtain ⟨e1, e2, e3, e4, e5, _⟩ := e
        extract_lets s1
        split
        next hact =>
          rw [hact]
          exact pair_takeoverStart hd (by unfold State.lanesUp; rw [e1]; exact hu) (e5.trans hr)
            (by rw [e2]; exact dual_or_rejoin hm ha.1)
        next => exact pair_peerLost hd (e4.trans ha.2) (e5.trans hr)

/-! ### The peer and the takeover -/

theorem laneView_strike (s : State) (l : LaneId) : laneView (s.modLane l fun x => { x with struck := true }) =
    { laneView s with struck := Function.update (laneView s).struck l true } := by
  rw [laneView_setLane]
  exact congrArg (fun g => ({ laneView s with live := g, struck := Function.update (laneView s).struck l true } : LaneView))
    (Function.update_eq_self l (laneView s).live)

theorem pair_strikeLane {s : State} (h : s ∈ LanePair) {l : LaneId} : strikeLane s l ∈ LanePair := by
  unfold strikeLane
  exact kept_ite (pair_of_view ((laneView_laneDown _ _ _).trans (congrArg (LaneView.down · l) (laneView_strike s l)))
    (LaneView.Sound.strike h l)) h

theorem pair_ownEngines {s : State} (h : s ∈ LanePair) {l : LaneId} {e : Nat} : ownEngines s l e ∈ LanePair :=
  kept_ownEngines quiet_pair h

/-- A takeover that is due ends with the lane that is left active and alone. -/
theorem pair_takeover {s : State} (h : s ∈ LanePair) {t : Loss} (ht : s.sup.takeover = some t) {l : LaneId} :
    takeover s l t ∈ LanePair := by
  have hr : s.sup.rejoin = none := by
    cases hr : s.sup.rejoin with
    | none => rfl
    | some r => cases (LaneView.Sound.noTakeover h hr).symm.trans ht
  refine seen_atOnce fun u hu => ?_
  unfold takeoverRun
  extract_lets e s1 s2 dur cause s3
  have h0 : laneView (ownAll u l e) = laneView s := (kept_ownAll (quiet_seen _) (seen_self u)).trans hu
  have h1 : laneView s1 = { laneView s with active := l } := by rw [← h0]; rfl
  have h2 : laneView s2 = { laneView s with active := l } := (laneView_work s1 _).trans h1
  have h3 : laneView s3 = { laneView s with takeover := none, rejoin := none, laneMode := .single l, active := l } := by
    rw [show (laneView s3) = { laneView s2 with takeover := none, laneMode := .single l } from rfl, h2]
    exact congrArg (fun r => ({ laneView s with takeover := none, rejoin := r, laneMode := .single l, active := l } : LaneView)) hr
  exact seen_work (pair_of_view h3 ((LaneView.Sound.ended h).settled rfl rfl (.single l) l))

/-! ### Rejoin -/

theorem pair_rejoinFail {s : State} (h : s ∈ LanePair) {c : Nat} : rejoinFail s c ∈ LanePair := by
  unfold rejoinFail
  split
  · exact h
  next r hr =>
    have ht := LaneView.Sound.noTakeover h hr
    extract_lets s1 o
    have h0 := pair_of_view (s := s.modSup fun u => { u with rejoin := none, laneMode := .single u.active }) (v := _) ?_
      ((LaneView.Sound.ended h).settled rfl rfl (.single s.sup.active) s.sup.active)
    · exact seen_work (kept_setCause quiet_pair h0)
    · exact congrArg (fun t => ({ laneView s with takeover := t, rejoin := none, laneMode := .single s.sup.active } : LaneView)) ht

theorem laneView_coresStop (s : State) (l : LaneId) : laneView (coresStop s l) = laneView s :=
  kept_coresStop (quiet_seen _) (seen_self s)

/-- A rejoin begins while the lanes run and no takeover is due. -/
theorem pair_rejoinStart {s : State} (h : s ∈ LanePair) (hu : s.lanesUp = true) (ht : s.sup.takeover = none) :
    rejoinStart s ∈ LanePair := by
  unfold rejoinStart
  extract_lets p s1
  have h1 : laneView s1 = { (laneView s).down p with struck := Function.update (laneView s).struck p false } := by
    unfold s1
    rw [laneView_work, laneView_coresStop]
    exact laneView_setLane ..
  clear_value s1
  have h2 : laneView (s1.modSup fun u => { u with laneMode := .rejoin, rejoin := some ⟨p, laneCause s1 p, s1.now⟩ }) =
      { laneView s1 with laneMode := .rejoin, rejoin := some ⟨p, laneCause s1 p, s1.now⟩ } := rfl
  rw [h1] at h2
  refine pair_of_view h2 (.mk' hu (fun k hk => ?_) (fun t e => by cases ht.symm.trans e) fun r e => ?_)
  · have hne : k ≠ p := fun e => by
      have : ((laneView s).down p).live k = false := e ▸ Function.update_self ..
      exact absurd (this.symm.trans hk) (by decide)
    exact (Function.update_of_ne hne ..).trans ((LaneView.Sound.down h p).fit k hk)
  · cases e
    exact ⟨rfl, rfl, Function.update_self ..⟩

theorem single_ne_dual (l : LaneId) : LaneMode.single l ≠ .dual ∧ LaneMode.single l ≠ .rejoin := by cases l <;> decide

/-- A lane that is alone has no takeover due. -/
theorem noTakeover_single {s : State} (h : s ∈ LanePair) {l : LaneId} (hm : s.sup.laneMode = .single l) : s.sup.takeover = none := by
  cases ht : s.sup.takeover with
  | none => rfl
  | some t =>
    obtain ⟨hd | ⟨hj, _⟩, _⟩ := LaneView.Sound.takeover h t ht
    · exact absurd (hm.symm.trans hd) (single_ne_dual l).1
    · exact absurd (hm.symm.trans hj) (single_ne_dual l).2

/-- The failure of a lane leaves the phase. -/
theorem phase_laneFail {s : State} {l : LaneId} {c : Nat} : laneFail s l c ∈ Seen {v | v.phase = s.sup.phase} := by
  unfold laneFail
  split
  · exact rfl
  · extract_lets twice alone
    refine seen_atOnce fun t ht => ?_
    have hd : laneDown t l c ∈ Seen {v | v.phase = s.sup.phase} :=
      (congrArg LaneView.phase (laneView_laneDown t l c)).trans (congrArg LaneView.phase ht)
    exact kept_ite hd (kept_ite hd (kept_ite ((congrArg LaneView.phase (laneView_takeoverStart _ l _)).trans hd) (seen_work hd)))

/-- FAIL_SELF and REJOIN_PEER. -/
theorem pair_laneCtrl {s : State} (h : s ∈ LanePair) (hu : s.lanesUp = true) {l : LaneId} {v : Nat} : laneCtrl s l v ∈ LanePair := by
  unfold laneCtrl
  extract_lets s1
  obtain ⟨h1, hp⟩ : s1 ∈ LanePair ∧ s1.sup.phase = s.sup.phase := by
    unfold s1
    split
    · exact ⟨h, rfl⟩
    · split
      · exact ⟨seen_work h, congrArg LaneView.phase (laneView_work s fun s => reject s l .sys 8 rSTATE)⟩
      · exact ⟨pair_laneFail h hu, phase_laneFail⟩
  have hu1 : s1.lanesUp = true := by
    unfold State.lanesUp
    rw [hp]
    exact hu
  refine kept_ite h1 ?_
  split
  next hs => exact pair_rejoinStart h1 hu1 (noTakeover_single h1 hs.2)
  next => exact seen_work h1

/-- The lane that has rejoined is healthy, and has not struck. -/
theorem laneView_mirrorCopy (s : State) (o p : LaneId) : laneView (mirrorCopy s o p) = { laneView s with
    live := Function.update (laneView s).live p true, struck := Function.update (laneView s).struck p false } := by
  unfold mirrorCopy
  extract_lets +onlyGivenNames s1 x s2
  have h1 : laneView s1 = laneView s := laneView_work s _
  rw [laneView_work, ← h1]
  exact laneView_setLane ..

/-- A rejoin that succeeds leaves both lanes healthy in DUAL. -/
theorem pair_rejoined {s : State} (h : s ∈ LanePair) (hu : s.lanesUp = true) {r : Rejoin} (hr : s.sup.rejoin = some r)
    {f : Sup → Sup} (hf : ∀ u, (f u).phase = u.phase ∧ (f u).laneMode = .dual ∧ (f u).active = u.active ∧
      (f u).takeover = u.takeover ∧ (f u).rejoin = none) :
    (mirrorCopy s r.lane.other r.lane).modSup f ∈ LanePair := by
  have ht : (laneView s).takeover = none := LaneView.Sound.noTakeover h hr
  have h1 := laneView_mirrorCopy s r.lane.other r.lane
  generalize mirrorCopy s r.lane.other r.lane = t at h1 ⊢
  obtain ⟨f1, f2, f3, f4, f5⟩ := hf t.sup
  have h2 : laneView (t.modSup f) = { laneView t with laneMode := .dual, rejoin := none } := by
    simp only [laneView, State.modSup_sup, f1, f2, f3, f4, f5]
    rfl
  rw [h1] at h2
  refine pair_of_view h2 (.mk' hu (fun k hk => ?_) (fun t e => by cases ht.symm.trans e) fun _ e => by cases e)
  by_cases e : k = r.lane
  · rw [e]; exact Function.update_self ..
  · have hk : (laneView s).live k = true := (Function.update_of_ne e ..).symm.trans hk
    exact (Function.update_of_ne e ..).trans (LaneView.Sound.fit h k hk)

/-! ### Errors of the DRAM -/

theorem pair_eccError {s : State} (h : s ∈ LanePair) {r : EccReader} : eccError s r ∈ LanePair := by
  unfold eccError
  split
  next l =>
    split
    next hu => exact pair_laneFail h hu
    next => exact h
  next l b =>
    extract_lets s1
    have h1 : s1 ∈ LanePair := seen_work h
    split
    next hu => exact pair_laneFail h1 hu
    next => exact h1
  next => exact seen_work h
  next => exact kept_ite (pair_rejoinFail (seen_work h)) h

theorem pair_eccMeet {s : State} (h : s ∈ LanePair) {m : DramReader × Nat} : eccMeet s m ∈ LanePair := by
  unfold eccMeet
  split
  · exact pair_eccError h
  · exact pair_eccError (kept_mk quiet_pair h)

theorem pair_eccSettle {s : State} (h : s ∈ LanePair) : eccSettle s ∈ LanePair :=
  kept_foldl (fun _ _ h => pair_eccMeet h) (kept_mk quiet_pair h)

/-! ### Module modes -/

section
variable {V : Set LaneView} (hV : ∀ v ∈ V, ({ v with phase := .parking } : LaneView) ∈ V)
include hV

theorem seen_enterPark {s : State} (h : s ∈ Seen V) : enterPark s ∈ Seen V := by
  unfold enterPark
  extract_lets +onlyGivenNames s1
  exact seen_work (hV _ h)

theorem seen_modeEnter {s : State} (h : s ∈ Seen V) {t : ModMode} : modeEnter s t ∈ Seen V := by
  unfold modeEnter
  extract_lets +onlyGivenNames m s1 s2
  have h2 : s2 ∈ Seen V := kept_modSup (quiet_seen V) (seen_work h) fun _ => by rfl
  split
  · exact h2
  · exact seen_work h2
  · exact seen_work h2
  · exact seen_enterPark hV h2

theorem seen_modeCmd {s : State} (h : s ∈ Seen V) {l : LaneId} {v : Nat} : modeCmd s l v ∈ Seen V := by
  unfold modeCmd
  refine kept_atOnce (quiet_seen V) h fun h => kept_ite (seen_work h) (kept_ite (seen_work h) ?_)
  extract_lets +onlyGivenNames s1 r
  have h1 : s1 ∈ Seen V := seen_work h
  exact kept_ite (seen_work h1) (seen_modeEnter hV h1)

theorem seen_cfgLoad {s : State} (h : s ∈ Seen V) {p : LaneId × Nat} : cfgLoad s p ∈ Seen V :=
  kept_foldl (fun _ _ h => kept_ite (kept_cfgCounted (quiet_seen V) h fun h => seen_modeCmd hV h) (seen_work h))
    (kept_modCfg (quiet_seen V) h)

end

/-- Entering PARK keeps the rules. -/
theorem LaneView.Sound.parking {v : LaneView} (h : v.Sound) : ({ v with phase := .parking } : LaneView).Sound :=
  ⟨fun e => (by cases e), h.fit, h.takeover, h.rejoin⟩

theorem pair_modeCmd {s : State} (h : s ∈ LanePair) {l : LaneId} {v : Nat} : modeCmd s l v ∈ LanePair :=
  seen_modeCmd (fun _ h => LaneView.Sound.parking h) h

/-! ### Lanes that stand still -/

/-- The states in which no lane is healthy, no takeover due and no rejoin under way. -/
def Still : Set State := Seen {v | v.Asleep}

theorem quiet_still : Quiet Still := quiet_seen _

theorem still_iff (s : State) : s ∈ Still ↔ (∀ l, (s.lane l).live = false) ∧ s.sup.takeover = none ∧ s.sup.rejoin = none :=
  ⟨fun ⟨h1, h2, h3⟩ => ⟨h1, h2, h3⟩, fun ⟨h1, h2, h3⟩ => ⟨h1, h2, h3⟩⟩

theorem pair_of_still {s : State} (h : s ∈ Still) : s ∈ LanePair := LaneView.Asleep.sound h

theorem still_modSup {s : State} (h : s ∈ Still) {f : Sup → Sup} (hf : ∀ u, (f u).takeover = u.takeover ∧ (f u).rejoin = u.rejoin) :
    s.modSup f ∈ Still := by
  obtain ⟨h1, h2, h3⟩ := (still_iff s).1 h
  exact (still_iff _).2 ⟨h1, (hf s.sup).1.trans h2, (hf s.sup).2.trans h3⟩

/-- Stopping both lanes, one after the other. -/
theorem still_both {s : State} {f : LaneId → State → State} (ht : s.sup.takeover = none) (hr : s.sup.rejoin = none)
    (hf : ∀ l s, ∃ g, laneView (f l s) = { (laneView s).down l with struck := g }) : s.both f ∈ Still := by
  obtain ⟨g, ha⟩ := hf .a s
  obtain ⟨k, hb⟩ := hf .b (f .a s)
  rw [ha] at hb
  exact seen_of_view hb ⟨fun l => by cases l <;> rfl, ht, hr⟩

theorem still_offState (s : State) (unclean : Bool) : offState s unclean ∈ Still :=
  (still_iff _).2 ⟨fun l => by cases l <;> rfl, rfl, rfl⟩

theorem still_coldBase {s : State} {cause : Nat} {t : StartTests} : coldBase s cause t ∈ Still := by
  unfold coldBase
  extract_lets +onlyGivenNames s1 s2 s3 s4
  have h2 : s2 ∈ Still := still_modSup (still_offState ..) fun _ => ⟨rfl, rfl⟩
  exact seen_work (kept_mk quiet_still h2)

theorem still_cfgLoad {s : State} (h : s ∈ Still) {p : LaneId × Nat} : cfgLoad s p ∈ Still :=
  seen_cfgLoad (V := {v | v.Asleep}) (fun _ h => LaneView.Asleep.parking h) h

theorem still_coldConfig {s : State} (h : s ∈ Still) : coldConfig s ∈ Still := by
  unfold coldConfig
  dsimp only
  split
  · exact still_modSup (still_cfgLoad (kept_modCfg quiet_still h)) fun _ => ⟨rfl, rfl⟩
  · exact kept_modCfg quiet_still (kept_modCfg quiet_still h)

theorem laneView_laneStop (s : State) (l : LaneId) : ∃ g, laneView (laneStop s l) = { (laneView s).down l with struck := g } := by
  refine ⟨Function.update (laneView s).struck l false, ?_⟩
  unfold laneStop
  extract_lets +onlyGivenNames s1
  rw [laneView_work]
  have h1 := laneView_setLane (coresStop s l) l fun x => { x with
    live := false, struck := false, ready := false, wdEnd := none, wdHalf := none, beat := none, shdrop := 0
    strs := tmap x.strs fun _ y => { y with jour := none, held := [], jobs := y.replay } }
  rw [laneView_coresStop] at h1
  exact h1

/-- A warm start stops both lanes, whatever they did before. -/
theorem still_warmStop {s : State} {cause : Nat} {t : StartTests} : warmStop s cause t ∈ Still := by
  unfold warmStop
  extract_lets +onlyGivenNames s1 s2
  refine seen_work (still_both ?_ ?_ fun l s => laneView_laneStop s l)
  · exact congrArg LaneView.takeover (laneView_work s1 regsWarm)
  · exact congrArg LaneView.rejoin (laneView_work s1 regsWarm)

theorem still_warmConfig {s : State} (h : s ∈ Still) : warmConfig s ∈ Still := by
  unfold warmConfig
  split
  · exact kept_ite (still_modSup (still_cfgLoad h) fun _ => ⟨rfl, rfl⟩) h
  · exact h

/-! ### Starts -/

/-- The states in which the lanes run, none of them struck, with no takeover due and no rejoin under way. -/
def Rising : Set State := Seen {v | v.up = true ∧ (∀ l, v.live l = true → v.struck l = false) ∧ v.takeover = none ∧ v.rejoin = none}

theorem quiet_rising : Quiet Rising := quiet_seen _

theorem pair_of_rising {s : State} (h : s ∈ Rising) : s ∈ LanePair := by
  obtain ⟨hu, hf, ht, hr⟩ := h
  exact .mk' hu hf (fun t e => by cases ht.symm.trans e) fun r e => by cases hr.symm.trans e

/-- Lanes that stood still begin to run. -/
theorem rising_modSup {s : State} (h : s ∈ Still) {f : Sup → Sup}
    (hf : ∀ u, (f u).phase = .running ∧ (f u).takeover = u.takeover ∧ (f u).rejoin = u.rejoin) : s.modSup f ∈ Rising := by
  obtain ⟨hl, ht, hr⟩ := h
  obtain ⟨f1, f2, f3⟩ := hf s.sup
  refine ⟨?_, fun l e => (by cases (hl l).symm.trans e), f2.trans ht, f3.trans hr⟩
  exact (congrArg (fun p => p == Phase.running || p == Phase.parking) f1).trans rfl

theorem rising_laneUp {s : State} (h : s ∈ Rising) {l : LaneId} {e : Nat} {out : Bool} : laneUp s l e out ∈ Rising := by
  refine kept_ite h (kept_wdStart quiet_rising (seen_of_view (laneView_setLane ..) ?_))
  obtain ⟨hu, hf, ht, hr⟩ := h
  refine ⟨hu, fun k hk => ?_, ht, hr⟩
  by_cases e : k = l
  · rw [e]; exact Function.update_self ..
  · exact (Function.update_of_ne e ..).trans (hf k ((Function.update_of_ne e ..).symm.trans hk))

theorem rising_serviceUp {s : State} (h : s ∈ Still) : serviceUp s ∈ Rising := by
  unfold serviceUp
  extract_lets +onlyGivenNames s1 s2
  have h1 : s1 ∈ Still := kept_ite (seen_work h) h
  have h2 : s2 ∈ Rising := rising_modSup h1 fun _ => ⟨rfl, rfl, rfl⟩
  exact seen_work (kept_both h2 fun _ _ h => rising_laneUp h)

theorem rising_outputEnable {s : State} (h : s ∈ Still) : outputEnable s ∈ Rising := by
  unfold outputEnable
  extract_lets +onlyGivenNames o e s1 s2 s3
  have h1 : s1 ∈ Rising := rising_modSup h fun _ => ⟨rfl, rfl, rfl⟩
  have h2 : s2 ∈ Rising := seen_work (kept_ownAll quiet_rising h1)
  exact seen_work (kept_bootLanes quiet_rising (kept_both h2 fun _ _ h => rising_laneUp h))

theorem pair_coldStart {s : State} {cause : Nat} {t : StartTests} : coldStart s cause t ∈ LanePair := by
  unfold coldStart
  extract_lets +onlyGivenNames s1
  have h1 : s1 ∈ Still := kept_coldImage quiet_still (seen_work (still_coldConfig still_coldBase))
  exact kept_ite (pair_of_rising (rising_serviceUp (still_modSup h1 fun _ => ⟨rfl, rfl⟩)))
    (kept_ite (pair_of_rising (rising_serviceUp h1)) (pair_of_still h1))

theorem pair_warmStart {s : State} {cause : Nat} {t : StartTests} : warmStart s cause t ∈ LanePair := by
  unfold warmStart
  extract_lets +onlyGivenNames s1 s2 s3 h0
  have h1 : s1 ∈ Still := seen_work (still_warmConfig still_warmStop)
  have h2 : s2 ∈ Still := kept_ite (kept_wakeEngines quiet_still h1) (kept_ite (seen_work h1) h1)
  have h3 : s3 ∈ Still := kept_modPwr quiet_still h2
  exact kept_ite pair_coldStart (kept_ite (pair_of_still (kept_loadImage quiet_still h3)) (kept_ite
    (pair_of_still (kept_loadImage quiet_still (still_modSup (kept_modSec quiet_still h3) fun _ => ⟨rfl, rfl⟩))) pair_coldStart))

theorem pair_rstCmd {s : State} (h : s ∈ LanePair) {l : LaneId} {v : Nat} {t : StartTests} : rstCmd s l v t ∈ LanePair :=
  kept_ite (seen_work h) (kept_ite (seen_work h) (kept_ite pair_warmStart (kept_ite pair_coldStart (seen_work h))))

/-! ### Supply and switching off -/

/-- A rejoin that is given up leaves the active lane alone. -/
theorem pair_noRejoin {s : State} (h : s ∈ LanePair) {f : Sup → Sup} (hf : ∀ u, (f u).phase = u.phase ∧ (f u).active = u.active ∧
    (f u).takeover = u.takeover ∧ (f u).rejoin = none ∧ (f u).laneMode = if u.rejoin.isSome then .single u.active else u.laneMode) :
    s.modSup f ∈ LanePair := by
  obtain ⟨f1, f2, f3, f4, f5⟩ := hf s.sup
  have hv : laneView (s.modSup f) = { laneView s with
      rejoin := none, laneMode := if s.sup.rejoin.isSome then .single s.sup.active else s.sup.laneMode } := by
    simp only [laneView, State.modSup_sup, f1, f2, f3, f4, f5]
    rfl
  cases hr : s.sup.rejoin with
  | none =>
    rw [hr] at hv
    have he : ({ laneView s with rejoin := none, laneMode := s.sup.laneMode } : LaneView) = laneView s :=
      congrArg (fun r => ({ laneView s with rejoin := r } : LaneView)) hr.symm
    exact pair_of_view (hv.trans he) h
  | some r =>
    have ht : s.sup.takeover = none := LaneView.Sound.noTakeover h hr
    rw [hr] at hv
    have he : ({ laneView s with rejoin := none, laneMode := .single s.sup.active } : LaneView) =
        { laneView s with takeover := none, rejoin := none, laneMode := .single s.sup.active } :=
      congrArg (fun t => ({ laneView s with takeover := t, rejoin := none, laneMode := .single s.sup.active } : LaneView)) ht
    exact pair_of_view (hv.trans he) ((LaneView.Sound.ended h).settled rfl rfl (.single s.sup.active) s.sup.active)

theorem pair_holdupEnter {s : State} (h : s ∈ LanePair) {v1 v2 : Nat} : holdupEnter s v1 v2 ∈ LanePair := by
  unfold holdupEnter
  extract_lets +onlyGivenNames s1
  exact seen_work (pair_noRejoin h fun _ => ⟨rfl, rfl, rfl, rfl, rfl⟩)

theorem pair_modSup {s : State} (h : s ∈ LanePair) {f : Sup → Sup} (hf : ∀ u, SamePair u (f u)) : s.modSup f ∈ LanePair :=
  kept_modSup quiet_pair h hf

/-- The last step of PARK stops both lanes. -/
theorem pair_parkShut {s : State} : parkShut s ∈ LanePair := by
  unfold parkShut
  extract_lets +onlyGivenNames s1
  refine pair_of_still ((still_iff _).2 ⟨fun l => ?_, rfl, rfl⟩)
  cases l <;> rfl

/-! ### Commands of the supervisor -/

theorem pair_actUp {s t : State} (h : s ∈ LanePair) (k : s.lanesUp = true → t ∈ LanePair) : Kept LanePair (actUp s t) := by
  unfold actUp
  refine kept_next ?_
  split
  next hu => exact kept_closed quiet_pair (k hu)
  next => exact h

/-- Lanes that neither run nor park stand still. -/
theorem still_of_phase {s : State} (h : s ∈ LanePair) (hp : s.sup.phase ≠ .running ∧ s.sup.phase ≠ .parking) : s ∈ Still := by
  refine LaneView.Sound.still h ?_
  rw [Bool.or_eq_false_iff, beq_eq_false_iff_ne, beq_eq_false_iff_ne]
  exact hp

section
variable {s : State} (h : s ∈ LanePair)
include h

theorem pair_regWriteAny {l : LaneId} {c a v : Nat} : regWriteAny s l c a v ∈ LanePair := by
  unfold regWriteAny
  refine kept_ite ?_ (kept_ite (kept_ite (pair_rstCmd h) h) (kept_ite (kept_ite (pair_modeCmd h) h) (seen_work h)))
  split
  next hu => exact pair_laneCtrl h hu
  next => exact h

theorem pair_execRejoinCatchUp : Kept LanePair (execRejoinCatchUp s) := by
  unfold execRejoinCatchUp
  refine pair_actUp h fun hu => ?_
  split
  · exact h
  next r hr =>
    extract_lets +onlyGivenNames o
    refine kept_ite h ?_
    split
    · exact pair_rejoinFail (seen_work h)
    · extract_lets +onlyGivenNames s1 s2 e
      exact seen_work (pair_rejoined h hu hr fun _ => ⟨rfl, rfl, rfl, rfl, rfl⟩)

theorem pair_execRejoinTimeout : Kept LanePair (execRejoinTimeout s) := by
  unfold execRejoinTimeout
  refine kept_actUp quiet_pair h ?_
  split
  · exact kept_ite (pair_rejoinFail h) h
  · exact h

theorem pair_execRejoinTestFault : Kept LanePair (execRejoinTestFault s) := by
  unfold execRejoinTestFault
  refine kept_actUp quiet_pair h ?_
  split
  · exact pair_rejoinFail h
  · exact h

theorem pair_execEccUncorrectable {r : EccReader} : Kept LanePair (execEccUncorrectable r s) := by
  unfold execEccUncorrectable
  refine kept_actOn quiet_pair h (pair_eccError ?_)
  split
  · exact kept_mk quiet_pair h
  · exact h

/-- A lane that hears nothing of the other either takes over or becomes alone: both are healthy, and neither takeover nor rejoin is
under way. -/
theorem pair_execPeerSilent {l : LaneId} : Kept LanePair (execPeerSilent l s) := by
  unfold execPeerSilent
  extract_lets p t
  refine pair_actUp h fun hu => ?_
  split
  · exact h
  next hc =>
    simp only [Bool.or_eq_true, not_or, Bool.not_eq_true, Bool.not_eq_false', decide_eq_false_iff_not] at hc
    obtain ⟨⟨⟨⟨hl, _⟩, h1⟩, h2⟩, _⟩ := hc
    obtain ⟨ho, hm, ht⟩ := not_onlyLive h1
    obtain ⟨_, hm', ht'⟩ := not_onlyLive h2
    have hr : s.sup.rejoin = none := LaneView.Sound.noRejoin h l hl ho
    refine seen_atOnce fun u hv => ?_
    extract_lets s1 s2
    have e : laneView s2 = laneView s :=
      (laneView_work s1 _).trans ((kept_setCause (quiet_seen _) (seen_self u)).trans hv)
    clear_value s2
    have hs : s2 ∈ LanePair := seen_of_eq e h
    simp only [laneView, LaneView.mk.injEq] at e
    obtain ⟨e1, e2, e3, e4, e5, _⟩ := e
    split
    next ha =>
      rw [ha]
      exact pair_takeoverStart hs (by unfold State.lanesUp; rw [e1]; exact hu) (e5.trans hr)
        (by rw [e2]; exact dual_or_rejoin hm hm')
    next =>
      refine pair_peerLost hs (e4.trans ?_) (e5.trans hr)
      cases ht0 : s.sup.takeover with
      | none => rfl
      | some k => exact absurd ((ht k ht0).symm.trans (ht' k ht0)) (by unfold p; cases l <;> decide)

theorem pair_execTakeover : Kept LanePair (execTakeover s) := by
  unfold execTakeover
  refine kept_actUp quiet_pair h ?_
  split
  next t ht => exact kept_ite (pair_takeover h ht) h
  next => exact h

theorem pair_execOwnershipChange {l : LaneId} {t : Option (Fin 62)} : Kept LanePair (execOwnershipChange l t s) := by
  unfold execOwnershipChange
  refine kept_actUp quiet_pair h (kept_ite h ?_)
  split
  · exact kept_ite (seen_work h) h
  · exact kept_ite (kept_ownEngines quiet_pair h) h

theorem pair_execWarmStart {t : StartTests} : Kept LanePair (execWarmStart t s) := by
  unfold execWarmStart
  refine kept_actSup quiet_pair (kept_ite h ?_)
  split
  · exact kept_ite pair_warmStart h
  · exact kept_ite pair_warmStart h
  · exact kept_ite pair_warmStart h
  · exact h

theorem pair_execSupplyReturn : Kept LanePair (execSupplyReturn s) := by
  unfold execSupplyReturn
  refine kept_actOn quiet_pair h (kept_ite h ?_)
  extract_lets +onlyGivenNames s1
  have h1 : s1 ∈ LanePair := seen_work h
  exact kept_ite h1 (pair_modSup h1 fun _ => by rfl)

/-- OUTPUT_ENABLE and a start in SERVICE begin from lanes that stand still. -/
theorem pair_execOutputEnable {energy : BitVec 16} : Kept LanePair (execOutputEnable energy s) := by
  have hs (hp : s.sup.phase = .warm ∨ s.sup.phase = .cold) : s ∈ Still :=
    still_of_phase h (by rcases hp with e | e <;> rw [e] <;> decide)
  unfold execOutputEnable
  extract_lets ready
  refine kept_actSup quiet_pair (kept_ite h ?_)
  split
  next hw => exact pair_of_rising (rising_serviceUp (hs (.inl hw.1)))
  next =>
    split
    next hp =>
      have hp : s ∈ Still := hs (hp.symm.imp_left And.left)
      exact kept_ite (pair_of_rising (rising_outputEnable (kept_bankEnergy quiet_still hp))) h
    next =>
      split
      next hw => exact pair_of_rising (rising_outputEnable (hs (.inl hw)))
      next => exact h

theorem pair_laneFails {l : LaneId} {c : Nat} : Kept LanePair (actUp s (laneFail s l c)) := pair_actUp h fun hu => pair_laneFail h hu

theorem pair_execMirrorHeartbeat {l : LaneId} : Kept LanePair (execMirrorHeartbeat l s) := by
  have hb (t : Option Nat) : s.modLane l (fun x => { x with beat := t }) ∈ LanePair := kept_modLane quiet_pair h fun _ => by rfl
  exact kept_actUp quiet_pair h (kept_ite h (kept_ite (pair_strikeLane (hb _)) (hb _)))

/-- Every command of the supervisor keeps the rules of the lane pair. -/
theorem pair_supervisorCommand {i : Instr} (hi : i.ofSupervisor = true) : Kept LanePair (exec i s) := by
  have hoff (b : Bool) : offState s b ∈ LanePair := pair_of_still (still_offState s b)
  cases i with
  | genericRegisterWrite _ _ _ _ => exact kept_actOn quiet_pair h (pair_regWriteAny h)
  | blockLock _ _ => exact kept_actOn quiet_pair h (pair_regWriteAny h)
  | failSelf _ => exact pair_actUp h fun hu => pair_laneCtrl h hu
  | rejoinPeer _ => exact pair_actUp h fun hu => pair_laneCtrl h hu
  | rejoinCatchUp => exact pair_execRejoinCatchUp h
  | rejoinTimeout => exact pair_execRejoinTimeout h
  | rejoinTestFault => exact pair_execRejoinTestFault h
  | lockstepMismatch _ => exact pair_laneFails h
  | eccUncorrectable _ => exact pair_execEccUncorrectable h
  | journalWriteFail _ => exact pair_laneFails h
  | laneSupplyFail _ => exact pair_laneFails h
  | watchdogExpiry _ => exact pair_actUp h fun hu => kept_ite (pair_laneFail h hu) h
  | mirrorHeartbeat _ => exact pair_execMirrorHeartbeat h
  | peerSilent _ => exact pair_execPeerSilent h
  | takeover => exact pair_execTakeover h
  | laneStrike _ => exact kept_actUp quiet_pair h (kept_ite (pair_strikeLane h) h)
  | ownershipChange _ _ => exact pair_execOwnershipChange h
  | coreStart => exact kept_actUp quiet_pair h (kept_bootLanes quiet_pair h)
  | canWake _ => exact kept_actSup quiet_pair (kept_ite (kept_wakeUp quiet_pair (seen_work h)) h)
  | powerOn _ => exact kept_actSup quiet_pair (kept_ite pair_coldStart h)
  | rstcmdCold _ _ => exact kept_actUp quiet_pair h (pair_rstCmd h)
  | rstcmdWarm _ _ => exact kept_actUp quiet_pair h (pair_rstCmd h)
  | warmStart _ => exact pair_execWarmStart h
  | outputEnable _ => exact pair_execOutputEnable h
  | warmStartEscalate _ => exact kept_actSup quiet_pair (kept_ite pair_coldStart h)
  | journalCheckpoint => exact kept_actOn quiet_pair h (kept_ite (pair_modSup h fun _ => by rfl) h)
  | lowSupplyEntry => exact kept_actOn quiet_pair h (kept_ite (seen_work (pair_modSup h fun _ => by rfl)) h)
  | lowSupplyExit => exact kept_actOn quiet_pair h (kept_ite (pair_modSup h fun _ => by rfl) h)
  | holdUpEntry _ _ => exact kept_actOn quiet_pair h (kept_ite h (pair_holdupEnter h))
  | supplyReturn => exact pair_execSupplyReturn h
  | holdUpSwitchOff => exact kept_actSup quiet_pair (kept_ite (hoff _) h)
  | holdUpEnergyOut => exact kept_actSup quiet_pair (kept_ite (hoff _) h)
  | modeRun _ => exact kept_actUp quiet_pair h (pair_modeCmd h)
  | modeService _ => exact kept_actUp quiet_pair h (pair_modeCmd h)
  | modeBench _ => exact kept_actUp quiet_pair h (pair_modeCmd h)
  | modePark _ => exact kept_actUp quiet_pair h (pair_modeCmd h)
  | parkShutdown => exact kept_actUp quiet_pair h (kept_ite pair_parkShut h)
  | wakeInput _ => exact kept_actSup quiet_pair (kept_ite (kept_wakeUp quiet_pair h) h)
  | wakeTimer => exact kept_actSup quiet_pair (kept_ite (kept_wakeUp quiet_pair h) h)
  | parkPowerLoss => exact kept_actSup quiet_pair (kept_ite (hoff _) h)
  | _ => cases hi

end

/-- Settles O7: a state keeps the rules of the lane pair whatever a core or an engine does; failures, takeover, rejoin, starts and the
ways to switch off, which change what the rules speak of, each keep them too. -/
theorem laneInvKept : Obligations.LaneInvKept := fun _ t h e =>
  (laneInv_iff t).2 (kept_step quiet_pair (fun h => pair_regWriteAny h) ((laneInv_iff _).1 h) (fun h => pair_eccSettle h)
    (fun hi h => pair_supervisorCommand h hi) t e)

end Sys2Proof.Machine
end

section
/-! PROOFS. Refutations: a takeover gives a dropped start back to the selectors (O33), a switch that comes on in BENCH keeps its
count of retries (O38, O39). -/

namespace Sys2Proof.Machine

/-- The state after a command. -/
def nextOf (i : Instr) (s : State) : State :=
  match exec i s with
  | .next t => t
  | _ => s

theorem nextOf_eq {i : Instr} {s t : State} (h : exec i s = .next t) : nextOf i s = t := by
  rw [nextOf, h]

/-- Lane B is to take over; it holds the rail level 3, which drops the bank's queue, for bank 0, where a start of channel 0 waits.
The channel belongs to DDM 0, of which lane B's selector takes a refund for each start that is dropped (R204). -/
def refundState : State :=
  let s : State :=
    { sup := { phase := .running, takeover := some ⟨.a, 0⟩ }
      laneB := { live := true, levels := [(0, 3)] }
      out := { banks := [(0, { queue := [{}] })] } }
  rset (rset s .a (dvReg 0 0) 0) .b (ddmReg 0 0) 32

set_option maxRecDepth 4000 in
theorem sels_of_takeover : (nextOf .takeover refundState).laneB.sels ≠ refundState.laneB.sels := by decide +kernel

/-- Refutes O33: the refund of a start that the takeover's refresh drops changes a selector, which is none of the parts that the
statement lets change. -/
theorem not_takeoverAndOwnership : ¬ Obligations.TakeoverAndOwnership := by
  unfold Obligations.TakeoverAndOwnership
  intro h
  obtain ⟨takeovers, -⟩ := h refundState .b
  obtain ⟨t, ht, -, -, hframe, -⟩ := takeovers ⟨.a, 0⟩ (by decide) (by decide) (by decide) (by decide)
  have hs : t.laneB.sels = refundState.laneB.sels := hframe .sels (by decide) .b
  exact sels_of_takeover (nextOf_eq ht ▸ hs)

/-! ### A switch that comes on in BENCH keeps its count of retries -/

/-- Load switch 0 of a module in BENCH, alone under lane A, after one retry. -/
def retriedState : State where
  sup := { phase := .running, laneMode := .single .a, modMode := .bench }
  laneA := { live := true }
  out := { ls := [(0, { retry := 1 })] }

/-- The command ON for load switch 0. -/
def onCmd : LinkCmd := { words := [0xF0380008, 2 ^ 28] }

/-- The same module with the command on lane A's link. -/
def retriedLink : State := { retriedState with seqs := [(30, { linkA := [onCmd] })] }

theorem retries_of_link : ((nextOf (.sequencerCommand .a 30) retriedLink).ls 0).retry = 1 := by decide +kernel

/-- Refutes O38: in BENCH a switch that comes on takes its level without a new inrush sequence, and its count of retries stays. -/
theorem not_sequencerLinks : ¬ Obligations.SequencerLinks := by
  unfold Obligations.SequencerLinks
  intro h
  obtain ⟨links, -, -⟩ := h retriedLink .a 30 (by decide)
  obtain ⟨-, -, -, effects⟩ := links onCmd [] (by decide)
  obtain ⟨switches, -, -⟩ := effects (by decide) (by decide) (by decide) (by decide) (by decide)
  obtain ⟨on, -⟩ := switches 0 (by decide) (by decide)
  obtain ⟨t, ht, -, -, -, -, -, hretry, -⟩ :=
    on (by decide) (by decide) (by decide) (by decide) (by decide) (by decide) (by decide)
  have hr : (t.ls 0).retry = 1 := nextOf_eq ht ▸ retries_of_link
  exact absurd (hretry.symm.trans hr) (by decide)

theorem retries_of_lsOn : ((nextOf (.sequencerCommand .a 30) (nextOf (.lsOn .a 0) retriedState)).ls 0).retry = 1 := by
  decide +kernel

/-- Refutes O39: the command ON, sent and brought to its sequencer in BENCH, leaves the count of retries of its switch. -/
theorem not_outputCommandsAreSent : ¬ Obligations.OutputCommandsAreSent := by
  unfold Obligations.OutputCommandsAreSent
  intro h
  obtain ⟨switches, -⟩ := h retriedState .a (by decide) (by decide)
  obtain ⟨on, -⟩ := switches 0
  obtain ⟨owned, -⟩ := on (by decide) (by decide) (by decide)
  obtain ⟨t, ht, -, -, -, -, -, -, -, effect⟩ := owned (.inl (by decide))
  obtain ⟨u, hu, -, -, -, -, conducts⟩ := effect (by decide) (by decide) (by decide) (by decide) (by decide)
  obtain ⟨-, hretry, -⟩ := conducts (by decide) (by decide) (by decide) (by decide)
  have hr : (u.ls 0).retry = 1 := nextOf_eq hu ▸ nextOf_eq ht ▸ retries_of_lsOn
  exact absurd (hretry.symm.trans hr) (by decide)

end Sys2Proof.Machine
end

section
/-! PROOFS. What is done at one instant: each core takes the postings of the instant in their order, nothing else is special. -/

namespace Sys2Proof.Machine

/-! ### Tables -/

theorem tfind_tmap {α : Type} (t : Tab α) (f : Nat → α → α) (n : Nat) : tfind (tmap t f) n = (tfind t n).map (f n) := by
  induction t with
  | nil => rfl
  | cons p t ih =>
    obtain ⟨k, v⟩ := p
    by_cases hk : k = n
    · subst hk
      simp [tmap, tfind]
    · simpa [tmap, tfind, hk] using ih

theorem tget_tmap {α : Type} [Inhabited α] (t : Tab α) (f : Nat → α → α) (n : Nat) (h : tfind t n = none → f n default = default) :
    tget (tmap t f) n = f n (tget t n) := by
  unfold tget
  rw [tfind_tmap]
  cases ht : tfind t n with
  | none => exact (h ht).symm
  | some v => rfl

/-! ### The cores at one instant -/

/-- A core that takes the postings of an instant, those of `c`, to its queue. -/
def Core.take (o c : Core) : Core :=
  let c' := (inOrder c.evq).foldl (fun y e => y.post e) { c with evq := o.evq, lost := o.lost, ovf := o.ovf }
  { c' with lost := if c.lost = 0 then c'.lost else min (c'.lost + c.lost) 255, ovf := c'.ovf || c.ovf }

/-- The state with no event in any queue. -/
def State.hushed (s : State) : State := s.both fun l s => s.modLane l fun x => { x with cores := tmap x.cores fun _ c => c.bare }

/-- A lane whose cores take the postings of an instant. -/
def Lane.take (x y : Lane) : Lane := { y with cores := tmap y.cores fun n c => (tget x.cores n).take c }

theorem atOnce_lane (f : State → State) (s : State) (l : LaneId) : (atOnce f s).lane l = (s.lane l).take ((f s.hushed).lane l) := by
  cases l <;> rfl

theorem hushed_lane (s : State) (l : LaneId) : s.hushed.lane l = { s.lane l with cores := tmap (s.lane l).cores fun _ c => c.bare } := by
  cases l <;> rfl

theorem hushed_core (s : State) (l : LaneId) (c : Nat) : s.hushed.core l c = (s.core l c).bare := by
  unfold State.core
  rw [hushed_lane]
  exact tget_tmap _ (fun _ => Core.bare) _ fun _ => rfl

theorem Core.bare_foldl_post (es : List EvEntry) (c : Core) : (es.foldl (fun y e => y.post e) c).bare = c.bare := by
  induction es generalizing c with
  | nil => rfl
  | cons e es ih => exact (ih _).trans (Core.bare_post c e)

theorem Core.bare_take (o c : Core) : (o.take c).bare = c.bare := Core.bare_foldl_post (inOrder c.evq) _

theorem Core.take_bare (c : Core) : c.take c.bare = c := by
  cases c
  simp [Core.take, Core.bare, inOrder]

theorem Core.post_still {c : Core} (h : c.run = .stopped ∨ c.run = .halted) (e : EvEntry) : c.post e = c.drop := by
  unfold Core.post
  rcases h with h | h <;> rw [h]

theorem Core.post_up {c : Core} (h : ¬ (c.run = .stopped ∨ c.run = .halted)) (e : EvEntry) :
    c.post e = if c.evq.length < (if e.src = 2 then 64 else 63) then { c with evq := c.evq ++ [e] } else c.drop := by
  unfold Core.post
  split
  next hr => exact absurd (.inl hr) h
  next hr => exact absurd (.inr hr) h
  next => rfl

/-- One posting at an instant is a posting. -/
theorem Core.take_post_bare (c : Core) (e : EvEntry) : c.take (c.bare.post e) = c.post e := by
  by_cases h : c.run = .stopped ∨ c.run = .halted
  · rw [Core.post_still h, Core.post_still (c := c.bare) h]
    cases c
    simp [Core.take, Core.bare, Core.drop, inOrder]
  · have hq : c.bare.evq.length < if e.src = 2 then 64 else 63 := by split <;> exact Nat.zero_lt_succ _
    have hb : c.bare.post e = { c.bare with evq := [e] } := by
      rw [Core.post_up (c := c.bare) h, if_pos hq]
      rfl
    rw [hb]
    change ({ c.post e with lost := (c.post e).lost, ovf := (c.post e).ovf || false } : Core) = c.post e
    rw [Bool.or_false]

/-! ### Frames -/

variable {ps : List Part}

theorem only_setCores (h : Part.events ∈ ps) (s : State) (l : LaneId) (f : Tab Core → Tab Core)
    (hf : ∀ t n, (tget (f t) n).bare = (tget t n).bare) : only ps s (s.modLane l fun x => { x with cores := f x.cores }) := by
  intro p hp
  cases p with
  | events => exact absurd h hp
  | cores =>
    intro m n
    unfold State.core
    rw [State.modLane_lane]
    split
    next e => subst e; exact hf _ n
    next => rfl
  | regs =>
    intro m a
    cases l <;> cases m <;> rfl
  | _ => cases l <;> first
    | rfl
    | exact ⟨rfl, rfl, rfl⟩
    | (intro m; cases m <;> first | rfl | exact ⟨rfl, rfl⟩)

theorem only_hushed (h : Part.events ∈ ps) (s : State) : only ps s s.hushed :=
  only_both _ (fun l s => only_setCores h s l _ fun t n =>
    (congrArg Core.bare (tget_tmap t (fun _ => Core.bare) n fun _ => rfl)).trans rfl) s

/-- What is done at one instant changes the queues besides. -/
theorem only_atOnce (h : Part.events ∈ ps) {f : State → State} {s : State} (hf : only ps s.hushed (f s.hushed)) :
    only ps s (atOnce f s) :=
  only_trans (only_trans (only_hushed h s) hf) (only_both _ (fun l t => only_setCores h t l (fun x => tmap x fun n c => (s.core l n).take c)
    fun x n => by
      by_cases hn : tfind x n = none
      · simp [tget, tfind_tmap, hn]
      · rw [tget_tmap x (fun n c => (s.core l n).take c) n fun e => absurd e hn]
        exact Core.bare_take _ _) _)

/-! ### What each core holds after an instant -/

/-- No core that `s` lists is missing in `t`. -/
def Lists (s t : State) : Prop := ∀ l c, tfind (t.lane l).cores c = none → tfind (s.lane l).cores c = none

theorem lists_refl (s : State) : Lists s s := fun _ _ => id

theorem lists_trans {s t u : State} (h : Lists s t) (k : Lists t u) : Lists s u := fun l c e => h l c (k l c e)

theorem lists_of_cores {s t : State} (h : ∀ l, (t.lane l).cores = (s.lane l).cores) : Lists s t := fun l _ e => h l ▸ e

theorem lists_postCore (s : State) (l : LaneId) (c : Nat) (e : EvEntry) : Lists s (postCore s l c e) := by
  intro m d hd
  unfold postCore State.modCore at hd
  rw [State.modLane_lane] at hd
  split at hd
  next hm =>
    subst hm
    by_cases h : d = c
    · subst h
      rw [tmod, tfind_tset_same] at hd
      cases hd
    · rwa [tmod, tfind_tset_ne _ h] at hd
  next => exact hd

theorem lists_both {f : LaneId → State → State} (hf : ∀ l s, Lists s (f l s)) (s : State) : Lists s (s.both f) :=
  lists_trans (hf .a s) (hf .b _)

theorem lists_ite (c : Prop) [Decidable c] {s t u : State} (h : Lists s t) (k : Lists s u) : Lists s (if c then t else u) := by
  split
  · exact h
  · exact k

theorem lists_foldl {α : Type} (f : State → α → State) (hf : ∀ s x, Lists s (f s x)) (xs : List α) (s : State) :
    Lists s (xs.foldl f s) := by
  induction xs generalizing s with
  | nil => exact lists_refl _
  | cons x xs ih => exact lists_trans (hf s x) (ih _)

theorem lists_postEngineRaw (s : State) (b : Block) (k d : Nat) : Lists s (postEngineRaw s b k d) :=
  lists_both (fun _ _ => lists_postCore _ _ _ _) s

theorem lists_postRunning (s : State) (l : LaneId) (k a d : Nat) : Lists s (postRunning s l k a d) :=
  lists_foldl _ (fun s _ => lists_ite _ (lists_postCore s _ _ _) (lists_refl s)) _ s

theorem lists_hushed (s : State) : Lists s s.hushed := by
  intro l c h
  rw [hushed_lane, tfind_tmap] at h
  exact Option.map_eq_none_iff.1 h

theorem core_atOnce {f : State → State} {s : State} (hf : Lists s.hushed (f s.hushed)) (l : LaneId) (c : Nat) :
    (atOnce f s).core l c = (s.core l c).take ((f s.hushed).core l c) := by
  unfold State.core
  rw [atOnce_lane]
  refine tget_tmap _ (fun n c => (tget (s.lane l).cores n).take c) c fun h => ?_
  have hs : tget (s.lane l).cores c = default := by
    rw [tget, lists_hushed s l c (hf l c h)]
    rfl
  rw [hs]
  exact Core.take_bare default

/-! ### Postings -/

theorem core_postEngineRaw (s : State) (b : Block) (k d : Nat) (l : LaneId) (c : Nat) : (postEngineRaw s b k d).core l c =
    if c = sfld s b 0 10 8 then (s.core l c).post ⟨3, k, b.arg, d % 2 ^ 32, false⟩ else s.core l c := by
  unfold postEngineRaw postCore State.both
  split
  next h =>
    subst h
    cases l
    · rw [State.core_modCore _ _ _ _ _ _ (.inl (by decide)), State.core_modCore_same]
    · rw [State.core_modCore_same, State.core_modCore _ _ _ _ _ _ (.inl (by decide))]
  next h => rw [State.core_modCore _ _ _ _ _ _ (.inr h), State.core_modCore _ _ _ _ _ _ (.inr h)]

/-- A posting to the running ones of some cores. -/
theorem core_foldl_post (l : LaneId) (e : EvEntry) (c : Nat) (xs : List Nat) (hx : xs.Nodup) (s : State) :
    (xs.foldl (fun s c => if (s.core l c).isRunning then postCore s l c e else s) s).core l c =
      if c ∈ xs ∧ (s.core l c).isRunning then (s.core l c).post e else s.core l c := by
  induction xs generalizing s with
  | nil => simp
  | cons x xs ih =>
    obtain ⟨hn, hx⟩ := List.nodup_cons.1 hx
    rw [List.foldl_cons, ih hx]
    by_cases h : c = x
    · subst h
      rw [if_neg fun k => hn k.1]
      simp only [List.mem_cons, true_or, true_and]
      split
      · exact State.core_modCore_same ..
      · rfl
    · have hs : (if (s.core l x).isRunning then postCore s l x e else s).core l c = s.core l c := by
        split
        · exact State.core_modCore _ _ _ _ _ _ (.inr h)
        · rfl
      simp only [hs, List.mem_cons, h, false_or]

theorem core_postRunning (s : State) (l : LaneId) (k a d : Nat) (c : Fin 8) : (postRunning s l k a d).core l c =
    if (s.core l c).isRunning then (s.core l c).post ⟨2, k, a, d, false⟩ else s.core l c := by
  refine (core_foldl_post l _ c _ List.nodup_range s).trans ?_
  simp only [List.mem_range, c.isLt, true_and]

/-! ### Records -/

theorem recPut_eq (s : State) (c o : Nat) (d : List Byte) : ∃ r, recPut s c o d = { s with recd := r } ∧
    r.next = s.recd.next + 1 ∧ r.flushed = s.recd.flushed := by
  unfold recPut
  extract_lets r bytes r1 s1
  split
  · unfold recStartFlush
    extract_lets start
    split
    · exact ⟨_, rfl, rfl, rfl⟩
    · split
      · exact ⟨_, rfl, rfl, rfl⟩
      · exact ⟨_, rfl, rfl, rfl⟩
    · exact ⟨_, rfl, rfl, rfl⟩
  · exact ⟨_, rfl, rfl, rfl⟩

theorem recEnter_room {s : State} (h : s.recd.next - s.recd.flushed < 8192) (c o : Nat) (d : List Byte) :
    ∃ r, recEnter s c o d = { s with recd := r } := by
  obtain ⟨r, hr, -, -⟩ := recPut_eq s c o d
  exact ⟨r, (if_neg (Nat.not_le.2 h)).trans hr⟩

/-- A recorder with room takes a record and posts nothing. -/
theorem record_room {s : State} (h : s.recd.next - s.recd.flushed + 8 < 8192) (l : LaneId) (b : Block) (c : Nat) (d : List Byte) :
    ∃ r, record s l b c d = { s with recd := r } := by
  unfold record recSubmit
  split
  · exact ⟨s.recd, rfl⟩
  · split
    · exact ⟨_, rfl⟩
    · split
      · obtain ⟨r, hr, hn, hf⟩ := recPut_eq { s with recd := { s.recd with total := 0, distinct := 0, more := false, tally := [], full := false } } 2
          Block.recd.arg (gapData s.recd true false)
        have hg : recGap s true false = { s with recd := r } := hr
        obtain ⟨r', hr'⟩ := recEnter_room (s := { s with recd := r }) (by rw [hn, hf]; dsimp only; omega) c (b.arg + 4096 * l.num) d
        exact ⟨r', by rw [hg]; exact hr'⟩
      · exact recEnter_room (by omega) _ _ _

end Sys2Proof.Machine
end

section
/-! PROOFS. A hard fault of a shared engine (O35). -/

namespace Sys2Proof.Machine

variable {ps : List Part}

/-! ### Frames of what an engine stops -/

theorem only_modTim (h : Part.tim ∈ ps) (s : State) (f : Tim → Tim) : only ps s (s.modTim f) := only_tim h s _
theorem only_modPwr (h : Part.pwr ∈ ps) (s : State) (f : PwrSt → PwrSt) : only ps s (s.modPwr f) := only_pwr h s _
theorem only_modSec (h : Part.sec ∈ ps) (s : State) (f : SecSt → SecSt) : only ps s (s.modSec f) := only_sec h s _
theorem only_modCfg (h : Part.cfg ∈ ps) (s : State) (f : CfgSt → CfgSt) : only ps s (s.modCfg f) := only_cfg h s _
theorem only_modPnl (h : Part.pnl ∈ ps) (s : State) (f : PnlSt → PnlSt) : only ps s (s.modPnl f) := only_pnl h s _

theorem only_dropActive (h : Part.tim ∈ ps) (s : State) : only ps s (dropActive s) := by
  unfold dropActive
  split
  · exact only_modTim h s _
  · exact only_refl ps s

theorem only_timState (h : Part.tim ∈ ps) (e : Part.events ∈ ps) (s : State) (c : CState) (auto : Bool) :
    only ps s (timState s c auto) := by
  unfold timState
  exact only_ite _ (only_refl ps s) (only_ite _ (only_modTim h s _) (only_trans (only_modTim h s _) (only_postEngine e _ _ _ _)))

theorem only_timFreeze (h : Part.tim ∈ ps) (e : Part.events ∈ ps) (s : State) : only ps s (timFreeze s) :=
  only_trans (only_dropActive h s) (only_timState h e _ _ _)

theorem only_pnlDischarge (h : Part.pnl ∈ ps) (e : Part.events ∈ ps) (s : State) : only ps s (pnlDischarge s) := by
  unfold pnlDischarge pnlGo
  refine only_trans (only_modPnl h s _) (only_ite _ (only_refl ps _) ?_)
  exact only_trans (only_modPnl h _ _) (only_postEngine e _ _ _ _)

theorem only_pnlWind (h : Part.pnl ∈ ps) (e : Part.events ∈ ps) (s : State) (stop : Bool) : only ps s (pnlWind s stop) := by
  unfold pnlWind
  split
  · exact only_pnlDischarge h e s
  · exact only_ite _ (only_pnlDischarge h e s) (only_modPnl h s _)
  · exact only_refl ps s

theorem only_cfgFault (h : Part.cfg ∈ ps) (e : Part.events ∈ ps) (s : State) : only ps s (cfgFault s) := by
  unfold cfgFault
  split
  next w _ =>
    have put (x : LaneId) (c : List Byte) (q : Nat) : only ps s (cfgPut s x c q) := by
      cases x <;> exact only_modCfg h s _
    exact only_trans (only_ite _ (put _ _ _) (only_refl ps s)) (only_trans (only_modCfg h _ _) (only_postEngine e _ _ _ _))
  next => exact only_refl ps s

/-- What ends in the security block is noted and posted. -/
theorem only_secNoted (h : Part.sec ∈ ps) (e : Part.events ∈ ps) (s : State) (c : Bool) (f : SecSt → SecSt) (k d : Nat) :
    only ps s (if c then postEngine (s.modSec f) .sec k d else s) :=
  only_ite _ (only_trans (only_modSec h s f) (only_postEngine e _ _ _ _)) (only_refl ps s)

theorem only_secFault (h : Part.sec ∈ ps) (e : Part.events ∈ ps) (s : State) : only ps s (secFault s) :=
  only_trans (only_trans (only_secNoted h e s _ _ _ _) (only_secNoted h e _ _ _ _ _)) (only_secNoted h e _ _ _ _ _)

/-- What an engine stops when it fails, but for the CAN and LIN channels. -/
theorem only_engineStops (s : State) {e : Engine} (hc : e ≠ .can) (hl : e ≠ .lin) :
    only [.tim, .pnl, .cfg, .sec, .pwr, .events] s (engineStops s e) := by
  cases e with
  | can => exact absurd rfl hc
  | lin => exact absurd rfl hl
  | tim => exact only_trans (only_timFreeze (by decide) (by decide) s) (only_modTim (by decide) _ _)
  | pnl => exact only_pnlWind (by decide) (by decide) s true
  | cfg => exact only_cfgFault (by decide) (by decide) s
  | sec => exact only_secFault (by decide) (by decide) s
  | pwr => exact only_modPwr (by decide) s _
  | hsi | pcl | cam | fus | snt | ser | eth | fab | recd => exact only_refl _ s

/-- The engines whose failure stops nothing outside the buses. -/
def busFaults : List Engine := [.hsi, .pcl, .cam, .fus, .can, .lin, .snt, .ser, .eth, .fab]

theorem engineStops_bus (s : State) {e : Engine} (h : e ∈ busFaults) : ∃ x, engineStops s e = { s with bus := x } := by
  cases e with
  | tim | pnl | cfg | sec | pwr | recd => exact absurd h (by decide)
  | _ => exact ⟨_, rfl⟩

theorem only_engineStops_all (s : State) (e : Engine) : only [.tim, .pnl, .cfg, .sec, .pwr, .bus, .events] s (engineStops s e) := by
  by_cases h : e = .can ∨ e = .lin
  · obtain ⟨x, hx⟩ := engineStops_bus s (e := e) (by rcases h with rfl | rfl <;> decide)
    rw [hx]
    exact only_bus (by decide) s x
  · obtain ⟨hc, hl⟩ := not_or.1 h
    exact only_mono (only_engineStops s hc hl) (by decide)

/-! ### The fault -/

/-- The record of a hard fault. -/
def faultNoted (s : State) (b : Block) (code : Nat) : State := record s s.sup.active b 0x20 (leBytes 4 b.arg ++ leBytes 4 code)

/-- The mark of a hard fault. -/
def faultMarked (s : State) (b : Block) : State := { s with hardflt := tset s.hardflt b.base true }

theorem hardFault_eq {s : State} {b : Block} (h : s.faulty b = false) (code : Nat) :
    hardFault s b code = postEngineRaw (faultMarked (faultNoted s b code) b) b 0xFF code := if_neg (by rw [h]; decide)

theorem only_faultNoted (s : State) (b : Block) (code : Nat) : only [.recd, .regs, .events] s (faultNoted s b code) :=
  only_record (by decide) (by decide) (by decide) s _ b _ _

theorem only_hardFault (s : State) (b : Block) (code : Nat) : only [.hardflt, .recd, .regs, .events] s (hardFault s b code) := by
  cases h : s.faulty b with
  | true =>
    rw [hardFault, if_pos h]
    exact only_refl _ s
  | false =>
    rw [hardFault_eq h]
    refine only_trans (only_mono (only_faultNoted s b code) (by decide)) ?_
    exact only_trans (only_hardflt (by decide) _ _) (only_postEngineRaw (by decide) _ _ _ _)

theorem hardflt_hardFault {s : State} {b : Block} (h : s.faulty b = false) (code : Nat) :
    (hardFault s b code).hardflt = tset s.hardflt b.base true := by
  rw [hardFault_eq h, only_postEngineRaw (ps := [.events]) (by decide) _ b 0xFF code .hardflt (by decide)]
  exact congrArg (fun t => tset t b.base true) (only_faultNoted s b code .hardflt (by decide))

/-- What a hard fault does to an engine that had none, at one instant. -/
def faultNow (e : Engine) (code : Nat) (s : State) : State := hardFault (engineStops s e) (engineBlock e) code

theorem only_faultNow (e : Engine) (code : Nat) (s : State) :
    only [.hardflt, .recd, .regs, .events, .tim, .pnl, .cfg, .sec, .pwr, .bus] s (faultNow e code s) :=
  only_trans (only_mono (only_engineStops_all s e) (by decide)) (only_mono (only_hardFault _ _ _) (by decide))

theorem hardflt_faultNow {s : State} {e : Engine} (h : s.faulty (engineBlock e) = false) (code : Nat) :
    (faultNow e code s).hardflt = tset s.hardflt (engineBlock e).base true := by
  have hs : (engineStops s e).hardflt = s.hardflt := only_engineStops_all s e .hardflt (by decide)
  rw [faultNow, hardflt_hardFault ((congrArg (fun t => tget t (engineBlock e).base) hs).trans h), hs]

theorem engineFault_eq {s : State} {e : Engine} (h : s.faulty (engineBlock e) = false) (code : Nat) :
    engineFault s e code = atOnce (faultNow e code) s := if_neg (by rw [h]; decide)

theorem only_engineFault (s : State) (e : Engine) (code : Nat) :
    only [.hardflt, .recd, .regs, .events, .tim, .pnl, .cfg, .sec, .pwr, .bus] s (engineFault s e code) :=
  only_ite _ (only_refl _ s) (only_atOnce (by decide) (only_faultNow e code _))

/-- A fault marks its engine and no other. -/
theorem faulty_engineFault {s : State} {e : Engine} (h : s.faulty (engineBlock e) = false) (code : Nat) (b : Block) :
    (engineFault s e code).faulty b = decide (s.faulty b = true ∨ b = engineBlock e) := by
  have hf : (engineFault s e code).hardflt = tset s.hardflt (engineBlock e).base true := by
    rw [engineFault_eq h]
    exact hardflt_faultNow (s := s.hushed) h code
  unfold State.faulty
  rw [hf, tget_tset]
  by_cases hb : b = engineBlock e
  · subst hb
    simp
  · have : b.base ≠ (engineBlock e).base := fun k => hb (by rw [← blockOf_base b, k, blockOf_base])
    simp [this, hb]

/-! ### What the fault stops -/

theorem timState_free (s : State) (auto : Bool) : (timState s .free auto).tim.cstate = .free := by
  unfold timState
  split
  next h => exact h
  next =>
    extract_lets s1
    split
    · rfl
    · rw [postEngine_tim]
      rfl

theorem lin_linFault (s : State) (n : Nat) : ((linFault s).linCh n).st ≠ .running := by
  unfold State.linCh linFault
  rw [tget_tmap _ _ n fun _ => rfl]
  dsimp only
  split
  · decide
  next h => exact h

theorem can_canFault (s : State) (n : Nat) : ((canFault s).canCh n).on = none := by
  unfold State.canCh canFault
  rw [tget_tmap _ _ n fun _ => rfl]

section
variable {s : State} {e : Engine} (h : s.faulty (engineBlock e) = false) (code : Nat)
include h

theorem tim_engineFault : (engineFault s e code).tim = (engineStops s.hushed e).tim := by
  rw [engineFault_eq h]
  exact only_hardFault _ _ _ .tim (by decide)

theorem bus_engineFault : (engineFault s e code).bus = (engineStops s.hushed e).bus := by
  rw [engineFault_eq h]
  exact only_hardFault _ _ _ .bus (by decide)

theorem pwr_engineFault : (engineFault s e code).pwr = (engineStops s.hushed e).pwr := by
  rw [engineFault_eq h]
  exact only_hardFault _ _ _ .pwr (by decide)

/-- An engine that stops nothing outside the buses changes no other engine's state. -/
theorem only_busFault (hb : e ∈ busFaults) : only [.hardflt, .recd, .regs, .events, .bus] s (engineFault s e code) := by
  rw [engineFault_eq h]
  refine only_atOnce (by decide) ?_
  obtain ⟨x, hx⟩ := engineStops_bus s.hushed hb
  unfold faultNow
  rw [hx]
  exact only_trans (only_bus (by decide) _ x) (only_mono (only_hardFault _ _ _) (by decide))

/-- The one posting of such a fault, in each lane to the core of CTRL.EVCORE (R27). -/
theorem core_busFault (hb : e ∈ busFaults) (hr : s.recd.next - s.recd.flushed + 8 < 8192) (l : LaneId) (c : Nat) :
    (engineFault s e code).core l c = if c = sfld s (engineBlock e) 0 10 8
      then (s.core l c).post ⟨3, 0xFF, (engineBlock e).arg, code % 2 ^ 32, false⟩ else s.core l c := by
  obtain ⟨x, hx⟩ := engineStops_bus s.hushed hb
  obtain ⟨r, hr⟩ := record_room (s := { s.hushed with bus := x }) hr s.sup.active (engineBlock e) 0x20
    (leBytes 4 (engineBlock e).arg ++ leBytes 4 code)
  have hn : faultNow e code s.hushed =
      postEngineRaw (faultMarked { s.hushed with bus := x, recd := r } (engineBlock e)) (engineBlock e) 0xFF code := by
    unfold faultNow
    rw [hx]
    exact (hardFault_eq (s := { s.hushed with bus := x }) h code).trans
      (congrArg (fun u => postEngineRaw (faultMarked u (engineBlock e)) (engineBlock e) 0xFF code) hr)
  have hf : sfld (faultMarked { s.hushed with bus := x, recd := r } (engineBlock e)) (engineBlock e) 0 10 8 =
      sfld s (engineBlock e) 0 10 8 :=
    congrArg (nfld · 10 8) (only_hushed (ps := [.events]) (by decide) s .regs (by decide) .a _)
  have hc : (faultMarked { s.hushed with bus := x, recd := r } (engineBlock e)).core l c = (s.core l c).bare := hushed_core s l c
  have hl : Lists s.hushed (faultNow e code s.hushed) := hn ▸ lists_trans (lists_of_cores fun _ => rfl) (lists_postEngineRaw _ _ _ _)
  rw [engineFault_eq h, core_atOnce hl, hn, core_postEngineRaw, hf, hc]
  split
  · exact Core.take_post_bare _ _
  · exact Core.take_bare _

end

/-! ### Work that leaves the cores but for their queues -/

theorem core_keep {s t : State} (h : ∀ l c, (t.core l c).bare = (s.core l c).bare) (l : LaneId) (c : Nat) :
    (keep s t).core l c = t.core l c := by
  unfold State.core
  rw [keep_lane]
  have hrun (c : Nat) : (tget (s.lane l).cores c).run = (tget (t.lane l).cores c).run :=
    (congrArg Core.run (h l c)).symm
  unfold keepLane
  dsimp only
  split
  · rfl
  · split
    · rfl
    · by_cases hn : tfind (t.lane l).cores c = none
      · simp only [tget, tfind_tmap, hn]
        rfl
      · rw [tget_tmap _ _ c fun e => absurd e hn]
        rw [hrun c]

theorem core_modeStep (s t : State) (l : LaneId) (c : Nat) : (modeStep s t).core l c = t.core l c :=
  congrArg (fun x : Lane => tget x.cores c) (modeStep_lane s t l)

theorem supFrame_keep (s t : State) : supFrame s (keep s t) :=
  ⟨rfl, rfl, rfl, rfl, rfl, rfl, rfl, rfl, rfl, rfl, rfl, fun l => by rw [keep_lane]; exact ⟨rfl, rfl, rfl, rfl⟩⟩

theorem supFrame_closed {s t : State} (h : supFrame s t) : supFrame s (closed s t) := by
  obtain ⟨_, h2, h3, h4, h5, h6, h7, h8, h9, h10, h11, h12⟩ := h
  have hl (l : LaneId) : (closed s t).lane l = t.lane l := by cases l <;> simp [State.lane]
  refine ⟨by simp, by simpa, by simpa, by simpa, by simpa, by simpa, by simpa, by simpa, by simpa, by simpa, by simpa, fun l => ?_⟩
  rw [hl]
  exact h12 l

theorem only_closed_self (r t : State) : only ps t (closed r t) :=
  have hp : only ps t { t with pending := r.pending } := fun p hp => only_refl ps t p hp
  only_trans hp (only_modeStep r _)

theorem only_closed {s t : State} (h : only ps s t) : only ps s (closed s t) := only_trans h (only_closed_self s t)

/-- An uncorrectable error that an engine reads spoils its beat, is counted, and is a hard fault of the engine (R466). -/
theorem endsIn_eccEngine {s : State} {e : Engine} (hd : s.dark = false) (h : s.faulty (engineBlock e) = false) (code : BitVec 32)
    (beat : BitVec 26) : EndsIn [.dq, .hardflt, .recd, .regs, .events, .tim, .pnl, .cfg, .sec, .pwr, .bus]
      (.eccUncorrectable (.engine e code beat)) s fun t => t.faulty (engineBlock e) = true ∧ t.dq = s.dq.spoil beat.toNat := by
  have hs := only_dq (ps := [.dq]) (by decide) s (s.dq.spoil beat.toNat)
  generalize hs1 : ({ s with dq := s.dq.spoil beat.toNat } : State) = s1 at hs
  have hc : only [.regs] s1 (eccCount s1 beat.toNat) :=
    only_trans (only_scount (by decide) s1 _ _ _) (only_sputf (by decide) _ _ _ _ _ _)
  have hf := only_engineFault (eccCount s1 beat.toNat) e code.toNat
  have hw : only [.dq, .hardflt, .recd, .regs, .events, .tim, .pnl, .cfg, .sec, .pwr, .bus] s1
      (engineFault (eccCount s1 beat.toNat) e code.toNat) := only_trans (only_mono hc (by decide)) (only_mono hf (by decide))
  have hn : (eccCount s1 beat.toNat).faulty (engineBlock e) = false := by
    unfold State.faulty
    rw [hc .hardflt (by decide), hs .hardflt (by decide)]
    exact h
  refine ⟨closed s (keep s1 (engineFault (eccCount s1 beat.toNat) e code.toNat)), ?_, ?_, ?_, ?_, ?_⟩
  · subst hs1
    exact actOn_lit hd _
  · subst hs1
    exact supFrame_closed (supFrame_keep { s with dq := s.dq.spoil beat.toNat } _)
  · exact only_closed (only_trans (only_mono hs (by decide)) (only_keep hw))
  · unfold State.faulty
    rw [closed_hardflt, keep_hardflt]
    exact (faulty_engineFault hn _ _).trans (by simp)
  · rw [closed_dq, keep_dq, hf .dq (by decide), hc .dq (by decide), ← hs1]

/-- Settles O35: the fault is done at one instant; a posting at an instant is a posting, and work of an engine keeps the cores but for
their queues. -/
theorem engineHardFaults : Obligations.EngineHardFaults := by
  unfold Obligations.EngineHardFaults
  intro s e code hd
  refine ⟨fun h => ?_, fun h => ?_⟩
  · exact endsIn_unchanged (i := .engineHardFault e code) (congrArg (act s) (if_pos h)) trivial
  · intro parts
    have hfault := only_engineFault s e code.toNat
    have hbare (l c) : ((engineFault s e code.toNat).core l c).bare = (s.core l c).bare := hfault .cores (by decide) l c
    refine ⟨endsIn_act rfl hd (only_mono hfault (by decide)) ⟨fun b => ?_, ?_, ?_, ?_, ?_, ?_, fun hb hr => ?_⟩, fun beat => ?_⟩
    · unfold State.faulty
      rw [modeStep_hardflt]
      exact faulty_engineFault h _ b
    · rintro rfl
      rw [modeStep_tim, keep_tim, tim_engineFault h]
      exact timState_free _ _
    · rintro rfl n
      unfold State.linCh
      rw [modeStep_bus, keep_bus, bus_engineFault h]
      exact lin_linFault _ n
    · rintro rfl n
      unfold State.canCh
      rw [modeStep_bus, keep_bus, bus_engineFault h]
      exact can_canFault _ n
    · intro hc hl
      rw [modeStep_bus, keep_bus, bus_engineFault h]
      exact only_engineStops s.hushed hc hl .bus (by decide)
    · rintro rfl
      rw [modeStep_pwr, keep_pwr, pwr_engineFault h]
      exact ⟨rfl, rfl⟩
    · have ho := only_trans (only_keep (only_busFault h code.toNat hb)) (only_modeStep s _)
      refine ⟨ho .tim (by decide), ho .pnl (by decide), ho .cfg (by decide), ho .sec (by decide), ho .pwr (by decide), fun l c => ?_⟩
      have hcode : code.toNat % 2 ^ 32 = code.toNat := Nat.mod_eq_of_lt code.isLt
      rw [core_modeStep, core_keep hbare, core_busFault h _ hb hr, hcode]
    · exact endsIn_eccEngine hd h code beat

end Sys2Proof.Machine
end

section
/-! PROOFS. A lane that fails (O31). -/

namespace Sys2Proof.Machine

variable {ps : List Part}

/-! ### Changes of the supervisor's own -/

/-- A lane that differs from another in what the supervisor holds of it and in its watchdog. -/
def Lane.Own (x y : Lane) : Prop := ∃ e v r k b w d,
  y = { x with epoch := e, live := v, ready := r, struck := k, beat := b, wdEnd := w, wdHalf := d }

theorem only_own (s : State) (l : LaneId) {f : Lane → Lane} (hf : Lane.Own (s.lane l) (f (s.lane l)))
    (h : Part.dog ∈ ps ∨ (f (s.lane l)).wdEnd = (s.lane l).wdEnd ∧ (f (s.lane l)).wdHalf = (s.lane l).wdHalf) :
    only ps s (s.modLane l f) := by
  obtain ⟨e, v, r, k, b, w, d, he⟩ := hf
  intro p hp
  cases p with
  | dog =>
    intro m
    rw [State.modLane_lane]
    split
    next hm => subst hm; exact h.resolve_left hp
    next => exact ⟨rfl, rfl⟩
  | regs =>
    intro m a
    have hr : ((s.modLane l f).lane m).regs = (s.lane m).regs := by
      rw [State.modLane_lane, he]
      split
      next hm => subst hm; rfl
      next => rfl
    unfold rget
    rw [hr, State.modLane_sregs]
  | cores =>
    intro m c
    unfold State.core
    rw [State.modLane_lane, he]
    split
    next hm => subst hm; rfl
    next => rfl
  | events =>
    intro m c
    unfold State.core
    rw [State.modLane_lane, he]
    split
    next hm => subst hm; exact ⟨rfl, rfl, rfl⟩
    next => exact ⟨rfl, rfl, rfl⟩
  | lmem | sram | shdrop | hy | entries | lpe | sels | levels | strs =>
    intro m
    rw [State.modLane_lane, he]
    split
    next hm => subst hm; rfl
    next => rfl
  | mism => cases l <;> exact ⟨rfl, rfl, rfl⟩
  | _ => cases l <;> rfl

theorem only_modLane_own (h : Part.dog ∈ ps) (s : State) (l : LaneId) {f : Lane → Lane} (hf : ∀ x, Lane.Own x (f x)) :
    only ps s (s.modLane l f) := only_own s l (hf _) (.inl h)

theorem only_epoch (s : State) (l : LaneId) (f : Lane → Nat) : only ps s (s.modLane l fun x => { x with epoch := f x }) :=
  let x := s.lane l
  only_own s l ⟨f x, x.live, x.ready, x.struck, x.beat, x.wdEnd, x.wdHalf, rfl⟩ (.inr ⟨rfl, rfl⟩)

theorem only_modSup (s : State) {f : Sup → Sup} (hf : ∀ u, (f u).miscnt = u.miscnt ∧ (f u).misWord = u.misWord ∧ (f u).misSeq = u.misSeq) :
    only ps s (s.modSup f) := by
  intro p hp
  cases p with
  | mism => exact hf s.sup
  | _ => exact only_refl ps s _ hp

theorem sup_work {s : State} {f : State → State} (h : only ps s (f s)) (hm : Part.mism ∉ ps) : (s.work f).sup = s.sup := by
  obtain ⟨h1, h2, h3⟩ := h .mism hm
  unfold State.work keep
  dsimp only
  rw [h1, h2, h3]

/-! ### A lane that is down -/

/-- `t` is `s` after lane `l` has gone down with a cause: what it holds of the lanes, and what it leaves. -/
structure Downed (s : State) (l : LaneId) (cause : Nat) (t : State) : Prop where
  frame : only [.recd, .regs, .events, .dog] s t
  now : t.now = s.now
  phase : t.sup.phase = s.sup.phase
  modMode : t.sup.modMode = s.sup.modMode
  power : t.sup.power = s.sup.power
  active : t.sup.active = s.sup.active
  engOwner : t.sup.engOwner = s.sup.engOwner
  engEpoch : t.sup.engEpoch = s.sup.engEpoch
  live : (t.lane l).live = false
  wdEnd : (t.lane l).wdEnd = none
  liveOther : (t.lane l.other).live = (s.lane l.other).live
  struck : ∀ k, (t.lane k).struck = (s.lane k).struck
  epoch : (t.lane l).epoch = (s.lane l).epoch
  causeOwn : laneCause t l = cause
  causeOther : laneCause t l.other = laneCause s l.other

theorem laneCause_eq {s t : State} (h : t.sup = s.sup) (l : LaneId) : laneCause t l = laneCause s l := by
  cases l
  · exact congrArg Sup.causeA h
  · exact congrArg Sup.causeB h

theorem live_keep (s t : State) (l : LaneId) : ((keep s t).lane l).live = (s.lane l).live := by rw [keep_lane]; rfl
theorem struck_keep (s t : State) (l : LaneId) : ((keep s t).lane l).struck = (s.lane l).struck := by rw [keep_lane]; rfl
theorem epoch_keep (s t : State) (l : LaneId) : ((keep s t).lane l).epoch = (s.lane l).epoch := by rw [keep_lane]; rfl
theorem wdEnd_keep (s t : State) (l : LaneId) : ((keep s t).lane l).wdEnd = (t.lane l).wdEnd := by rw [keep_lane]; rfl

section
variable (f : State → State) (s : State) (l : LaneId)

theorem live_atOnce : ((atOnce f s).lane l).live = ((f s.hushed).lane l).live := by rw [atOnce_lane]; rfl
theorem struck_atOnce : ((atOnce f s).lane l).struck = ((f s.hushed).lane l).struck := by rw [atOnce_lane]; rfl
theorem epoch_atOnce : ((atOnce f s).lane l).epoch = ((f s.hushed).lane l).epoch := by rw [atOnce_lane]; rfl
theorem wdEnd_atOnce : ((atOnce f s).lane l).wdEnd = ((f s.hushed).lane l).wdEnd := by rw [atOnce_lane]; rfl

end

/-- The state before the failure is recorded. -/
def downStart (s : State) (l : LaneId) (cause : Nat) : State :=
  setCause (s.modLane l fun x => { x with live := false, wdEnd := none }) l cause

theorem laneDown_eq (s : State) (l : LaneId) (cause : Nat) : laneDown s l cause =
    (downStart s l cause).work fun s => record s l.other .sys 0x10 (leBytes 1 l.num ++ leBytes 1 cause ++ leBytes 2 (s.lane l).epoch) := rfl

theorem downed_downStart (s : State) (l : LaneId) (cause : Nat) : Downed s l cause (downStart s l cause) where
  frame := only_trans (only_modLane_own (by decide) s l fun x => ⟨x.epoch, false, x.ready, x.struck, x.beat, none, x.wdHalf, rfl⟩)
    (only_modSup _ fun u => by cases l <;> exact ⟨rfl, rfl, rfl⟩)
  now := by cases l <;> rfl
  phase := by cases l <;> rfl
  modMode := by cases l <;> rfl
  power := by cases l <;> rfl
  active := by cases l <;> rfl
  engOwner := by cases l <;> rfl
  engEpoch := by cases l <;> rfl
  live := by cases l <;> rfl
  wdEnd := by cases l <;> rfl
  liveOther := by cases l <;> rfl
  struck k := by cases l <;> cases k <;> rfl
  epoch := by cases l <;> rfl
  causeOwn := by cases l <;> rfl
  causeOther := by cases l <;> rfl

section
variable {s t : State} {l : LaneId} {cause : Nat}

/-- Records and postings come after it. -/
theorem Downed.work (h : Downed s l cause t) {f : State → State} (hf : only [.recd, .regs, .events] t (f t)) :
    Downed s l cause (t.work f) := by
  have hs : (t.work f).sup = t.sup := sup_work hf (by decide)
  exact {
    frame := only_trans h.frame (only_keep (only_mono hf (by decide)))
    now := h.now
    phase := (congrArg Sup.phase hs).trans h.phase
    modMode := (congrArg Sup.modMode hs).trans h.modMode
    power := (congrArg Sup.power hs).trans h.power
    active := (congrArg Sup.active hs).trans h.active
    engOwner := (congrArg Sup.engOwner hs).trans h.engOwner
    engEpoch := (congrArg Sup.engEpoch hs).trans h.engEpoch
    live := (live_keep t _ l).trans h.live
    wdEnd := (wdEnd_keep t _ l).trans ((hf .dog (by decide) l).1.trans h.wdEnd)
    liveOther := (live_keep t _ _).trans h.liveOther
    struck := fun k => (struck_keep t _ k).trans (h.struck k)
    epoch := (epoch_keep t _ l).trans h.epoch
    causeOwn := (laneCause_eq hs l).trans h.causeOwn
    causeOther := (laneCause_eq hs _).trans h.causeOther }

theorem downed_laneDown (s : State) (l : LaneId) (cause : Nat) : Downed s l cause (laneDown s l cause) :=
  (downed_downStart s l cause).work (f := fun s => record s l.other .sys 0x10 (leBytes 1 l.num ++ leBytes 1 cause ++
    leBytes 2 (s.lane l).epoch)) (only_record (by decide) (by decide) (by decide) _ _ _ _ _)

/-- Lane mode, takeover, rejoin and the warm start that is due may change after it. -/
theorem Downed.modSup (h : Downed s l cause t) {f : Sup → Sup} (hf : ∃ m k r w, f t.sup = { t.sup with
    laneMode := m, takeover := k, rejoin := r, warmPending := w }) : Downed s l cause (t.modSup f) := by
  obtain ⟨m, k, r, w, hf⟩ := hf
  have e : t.modSup f = { t with sup := { t.sup with laneMode := m, takeover := k, rejoin := r, warmPending := w } } :=
    congrArg (fun u => { t with sup := u }) hf
  rw [e]
  exact { h with
    frame := only_trans h.frame (only_modSup (f := fun u => { u with laneMode := m, takeover := k, rejoin := r, warmPending := w }) t
      fun _ => ⟨rfl, rfl, rfl⟩)
    causeOwn := by cases l <;> exact h.causeOwn
    causeOther := by cases l <;> exact h.causeOther }

/-- The other lane may raise its epoch after it. -/
theorem Downed.epochOther (h : Downed s l cause t) (f : Nat → Nat) :
    Downed s l cause (t.modLane l.other fun x => { x with epoch := f x.epoch }) := by
  have hl : (t.modLane l.other fun x => { x with epoch := f x.epoch }).lane l = t.lane l := by
    rw [State.modLane_lane, if_neg (other_ne l).symm]
  exact {
    frame := only_trans h.frame (only_epoch t l.other fun x => f x.epoch)
    now := by rw [State.modLane_now, h.now]
    phase := by rw [State.modLane_sup, h.phase]
    modMode := by rw [State.modLane_sup, h.modMode]
    power := by rw [State.modLane_sup, h.power]
    active := by rw [State.modLane_sup, h.active]
    engOwner := by rw [State.modLane_sup, h.engOwner]
    engEpoch := by rw [State.modLane_sup, h.engEpoch]
    live := by rw [hl, h.live]
    wdEnd := by rw [hl, h.wdEnd]
    liveOther := by rw [State.modLane_lane_same, h.liveOther]
    struck := fun k => by
      rw [State.modLane_lane]
      split
      next hk => rw [hk]; exact h.struck _
      next => exact h.struck k
    epoch := by rw [hl, h.epoch]
    causeOwn := (laneCause_eq (State.modLane_sup ..) l).trans h.causeOwn
    causeOther := (laneCause_eq (State.modLane_sup ..) _).trans h.causeOther }

/-- A failure that happens at one instant. -/
theorem Downed.atOnce {f : State → State} (h : Downed s.hushed l cause (f s.hushed)) : Downed s l cause (atOnce f s) := by
  exact {
    frame := only_atOnce (by decide) h.frame
    now := h.now
    phase := h.phase
    modMode := h.modMode
    power := h.power
    active := h.active
    engOwner := h.engOwner
    engEpoch := h.engEpoch
    live := by rw [live_atOnce, h.live]
    wdEnd := by rw [wdEnd_atOnce, h.wdEnd]
    liveOther := by rw [live_atOnce, h.liveOther, hushed_lane]
    struck := fun k => by rw [struck_atOnce, h.struck, hushed_lane]
    epoch := by rw [epoch_atOnce, h.epoch, hushed_lane]
    causeOwn := by cases l <;> exact h.causeOwn
    causeOther := by cases l <;> exact h.causeOther }

theorem lane_closed (s t : State) (l : LaneId) : (closed s t).lane l = t.lane l := by cases l <;> simp [State.lane]

theorem laneCause_closed (s t : State) (l : LaneId) : laneCause (closed s t) l = laneCause t l := by cases l <;> simp [laneCause]

/-- The end of the command adds nothing. -/
theorem Downed.closed (h : Downed s l cause t) {r : State} : Downed s l cause (closed r t) where
  frame := only_trans h.frame (only_closed_self r t)
  now := by simpa using h.now
  phase := by simpa using h.phase
  modMode := by simpa using h.modMode
  power := by simpa using h.power
  active := by simpa using h.active
  engOwner := by simpa using h.engOwner
  engEpoch := by simpa using h.engEpoch
  live := by rw [lane_closed, h.live]
  wdEnd := by rw [lane_closed, h.wdEnd]
  liveOther := by rw [lane_closed, h.liveOther]
  struck k := by rw [lane_closed, h.struck]
  epoch := by rw [lane_closed, h.epoch]
  causeOwn := by rw [laneCause_closed, h.causeOwn]
  causeOther := by rw [laneCause_closed, h.causeOther]

end

/-! ### What follows a failure -/

/-- The failure of `l` would leave no lane. -/
def LastLane (s : State) (l : LaneId) : Prop :=
  (s.lane l.other).live = false ∨ s.sup.laneMode = .single l ∨ ∃ k, s.sup.takeover = some k ∧ k.lane ≠ l

/-- Lane `l` is already lost to the pair. -/
def AlreadyLost (s : State) (l : LaneId) : Prop := s.sup.laneMode = .single l.other ∨ s.sup.takeover ≠ none

theorem onlyLive_iff (s : State) (l : LaneId) : onlyLive s l = true ↔ LastLane s l := by
  unfold onlyLive LastLane
  cases s.sup.takeover <;> simp [or_assoc]

theorem alreadyLost_iff (s : State) (l : LaneId) :
    (s.sup.laneMode == .single l.other || s.sup.takeover.isSome) = true ↔ AlreadyLost s l := by
  unfold AlreadyLost
  cases s.sup.takeover <;> simp

/-- What a failure does at its instant. -/
def failNow (s : State) (l : LaneId) (cause : Nat) (q : State) : State :=
  let d := laneDown q l cause
  if onlyLive s l then doubleFault d
  else if s.sup.laneMode == .single l.other || s.sup.takeover.isSome then d
  else if l = d.sup.active then takeoverStart d l d.now else peerLost d cause

theorem laneFail_eq {s : State} {l : LaneId} (h : (s.lane l).live = true) (cause : Nat) :
    laneFail s l cause = atOnce (failNow s l cause) s := if_neg (by rw [h]; decide)

theorem downed_failNow (s q : State) (l : LaneId) (cause : Nat) : Downed q l cause (failNow s l cause q) := by
  have hd := downed_laneDown q l cause
  unfold failNow
  extract_lets d
  split
  · exact hd.modSup ⟨_, _, _, _, rfl⟩
  · split
    · exact hd
    · split
      · exact (hd.epochOther fun e => (e + 1) % 65536).modSup ⟨_, _, _, _, rfl⟩
      · have hp : Downed q l cause (d.modSup fun u => { u with laneMode := .single d.sup.active }) := hd.modSup ⟨_, _, _, _, rfl⟩
        exact hp.work (f := fun s => postRunning s d.sup.active 5 (d.sup.active.other.num * 256 + cause) (s.lane d.sup.active).epoch)
          (only_postRunning (by decide) _ _ _ _ _)

section
variable {s : State} {l : LaneId} (hl : (s.lane l).live = true) (cause : Nat)
include hl

theorem downed_laneFail : Downed s l cause (laneFail s l cause) := by
  rw [laneFail_eq hl]
  exact (downed_failNow s _ l cause).atOnce

end

section
variable (q : State) (l : LaneId) (cause : Nat)

theorem sup_laneDown : (laneDown q l cause).sup = (setCause q l cause).sup := by
  rw [laneDown_eq, sup_work (ps := [.recd, .regs, .events]) (only_record (by decide) (by decide) (by decide) _ _ _ _ _) (by decide)]
  cases l <;> rfl

theorem laneMode_laneDown : (laneDown q l cause).sup.laneMode = q.sup.laneMode := by rw [sup_laneDown]; cases l <;> rfl
theorem takeover_laneDown : (laneDown q l cause).sup.takeover = q.sup.takeover := by rw [sup_laneDown]; cases l <;> rfl
theorem warmPending_laneDown : (laneDown q l cause).sup.warmPending = q.sup.warmPending := by rw [sup_laneDown]; cases l <;> rfl
theorem power_laneDown : (laneDown q l cause).sup.power = q.sup.power := by rw [sup_laneDown]; cases l <;> rfl
theorem active_laneDown : (laneDown q l cause).sup.active = q.sup.active := by rw [sup_laneDown]; cases l <;> rfl

theorem epoch_laneDown (k : LaneId) : ((laneDown q l cause).lane k).epoch = (q.lane k).epoch := by
  rw [laneDown_eq, State.work, epoch_keep]
  cases l <;> cases k <;> rfl

end

section
variable {s : State} {l : LaneId}

theorem failNow_last (h : LastLane s l) (cause : Nat) (q : State) : failNow s l cause q = doubleFault (laneDown q l cause) :=
  if_pos ((onlyLive_iff s l).2 h)

theorem failNow_lost (h : ¬ LastLane s l) (k : AlreadyLost s l) (cause : Nat) (q : State) : failNow s l cause q = laneDown q l cause :=
  (if_neg fun e => h ((onlyLive_iff s l).1 e)).trans (if_pos ((alreadyLost_iff s l).2 k))

theorem failNow_paired (h : ¬ LastLane s l) (k : ¬ AlreadyLost s l) (cause : Nat) (q : State) : failNow s l cause q =
    if l = q.sup.active then takeoverStart (laneDown q l cause) l (laneDown q l cause).now else peerLost (laneDown q l cause) cause := by
  rw [← active_laneDown q l cause]
  exact (if_neg fun e => h ((onlyLive_iff s l).1 e)).trans (if_neg fun e => k ((alreadyLost_iff s l).1 e))

variable (hl : (s.lane l).live = true) (cause : Nat)
include hl

/-- The failure of the last lane leads to a warm start. -/
theorem laneFail_last (h : LastLane s l) :
    (s.sup.power ≠ .holdup → (laneFail s l cause).sup.warmPending = some 5) ∧ (laneFail s l cause).sup.takeover = none ∧
      (laneFail s l cause).sup.rejoin = none ∧ (laneFail s l cause).sup.laneMode = s.sup.laneMode := by
  have e : (laneFail s l cause).sup = (doubleFault (laneDown s.hushed l cause)).sup := by
    rw [laneFail_eq hl, ← failNow_last h]
    rfl
  rw [e]
  refine ⟨fun hp => if_neg fun k => hp ?_, rfl, rfl, laneMode_laneDown _ l cause⟩
  exact (power_laneDown s.hushed l cause).symm.trans k.1

/-- The failure of a lane that is already lost changes nothing more. -/
theorem laneFail_lost (h : ¬ LastLane s l) (k : AlreadyLost s l) :
    (laneFail s l cause).sup.takeover = s.sup.takeover ∧ (laneFail s l cause).sup.laneMode = s.sup.laneMode ∧
      (laneFail s l cause).sup.warmPending = s.sup.warmPending := by
  have e : (laneFail s l cause).sup = (laneDown s.hushed l cause).sup := by
    rw [laneFail_eq hl, ← failNow_lost h k]
    rfl
  rw [e]
  exact ⟨takeover_laneDown _ l cause, laneMode_laneDown _ l cause, warmPending_laneDown _ l cause⟩

/-- The loss of the active lane makes a takeover due, for which the other lane raises its epoch. -/
theorem laneFail_active (h : ¬ LastLane s l) (k : ¬ AlreadyLost s l) (ha : l = s.sup.active) :
    ((laneFail s l cause).lane l.other).epoch = ((s.lane l.other).epoch + 1) % 65536 ∧
      (laneFail s l cause).sup.takeover = some ⟨l, s.now⟩ ∧ (laneFail s l cause).sup.laneMode = s.sup.laneMode ∧
      (laneFail s l cause).sup.warmPending = s.sup.warmPending := by
  have hd := downed_laneDown s.hushed l cause
  have e := (failNow_paired h k cause s.hushed).trans (if_pos ha)
  have es : (laneFail s l cause).sup = (takeoverStart (laneDown s.hushed l cause) l (laneDown s.hushed l cause).now).sup := by
    rw [laneFail_eq hl, ← e]
    rfl
  refine ⟨?_, ?_, ?_, ?_⟩
  · rw [laneFail_eq hl, epoch_atOnce, e]
    unfold takeoverStart
    have hm (x : State) (f : Sup → Sup) : (x.modSup f).lane l.other = x.lane l.other := by cases l <;> rfl
    rw [hm, State.modLane_lane_same, epoch_laneDown, hushed_lane]
  · rw [es, hd.now]
    rfl
  · rw [es]
    unfold takeoverStart
    rw [State.modSup_sup, State.modLane_sup]
    exact laneMode_laneDown _ l cause
  · rw [es]
    unfold takeoverStart
    rw [State.modSup_sup, State.modLane_sup]
    exact warmPending_laneDown _ l cause

/-- The other lane's epoch stays when no takeover begins. -/
theorem laneFail_epoch (h : LastLane s l ∨ AlreadyLost s l ∨ l ≠ s.sup.active) :
    ((laneFail s l cause).lane l.other).epoch = (s.lane l.other).epoch := by
  have hm (x : State) (f : Sup → Sup) : (x.modSup f).lane l.other = x.lane l.other := by cases l <;> rfl
  have hq : ((laneDown s.hushed l cause).lane l.other).epoch = (s.lane l.other).epoch := by rw [epoch_laneDown, hushed_lane]
  rw [laneFail_eq hl, epoch_atOnce]
  by_cases h1 : LastLane s l
  · rw [failNow_last h1, doubleFault, hm, hq]
  · by_cases h2 : AlreadyLost s l
    · rw [failNow_lost h1 h2, hq]
    · have ha : ¬ l = s.hushed.sup.active := (h.resolve_left h1).resolve_left h2
      rw [failNow_paired h1 h2, if_neg ha, peerLost, State.work, epoch_keep, hm, hq]

end

/-! ### The shadow's failure -/

theorem lists_keep (s t : State) : Lists t (keep s t) := by
  intro l c h
  rw [keep_lane] at h
  unfold keepLane at h
  dsimp only at h
  split at h
  · exact h
  · split at h
    · exact h
    · rw [tfind_tmap] at h
      exact Option.map_eq_none_iff.1 h

/-- A failure that the recorder has room for posts nothing by itself. -/
theorem core_laneDown {q : State} (hr : q.recd.next - q.recd.flushed + 8 < 8192) (l : LaneId) (cause : Nat) :
    (∀ k c, (laneDown q l cause).core k c = q.core k c) ∧ Lists q (laneDown q l cause) := by
  have hc (k : LaneId) : ((downStart q l cause).lane k).cores = (q.lane k).cores := by cases l <;> cases k <;> rfl
  have hd : (downStart q l cause).recd = q.recd := by cases l <;> rfl
  obtain ⟨r, hr⟩ := record_room (s := downStart q l cause) (by rw [hd]; exact hr) l.other .sys 0x10
    (leBytes 1 l.num ++ leBytes 1 cause ++ leBytes 2 ((downStart q l cause).lane l).epoch)
  have he : laneDown q l cause = keep (downStart q l cause) { downStart q l cause with recd := r } :=
    congrArg (keep (downStart q l cause)) hr
  rw [he]
  refine ⟨fun k c => ?_, lists_trans (lists_of_cores hc) (lists_keep _ { downStart q l cause with recd := r })⟩
  exact (core_keep (fun _ _ => rfl) k c).trans (congrArg (fun x : Tab Core => tget x c) (hc k))

theorem lane_modSup (s : State) (f : Sup → Sup) (l : LaneId) : (s.modSup f).lane l = s.lane l := by cases l <;> rfl

theorem core_modSup (s : State) (f : Sup → Sup) (l : LaneId) (c : Nat) : (s.modSup f).core l c = s.core l c :=
  congrArg (fun x : Lane => tget x.cores c) (lane_modSup s f l)

/-- The running cores of the active lane get PEER_LOST. -/
theorem core_peerLost (d : State) (cause : Nat) (c : Fin 8) : (peerLost d cause).core d.sup.active c =
    if (d.core d.sup.active c).isRunning then (d.core d.sup.active c).post
      ⟨2, 5, d.sup.active.other.num * 256 + cause, (d.lane d.sup.active).epoch, false⟩ else d.core d.sup.active c := by
  unfold peerLost
  extract_lets o s1
  have hp := only_postRunning (ps := [.events]) (by decide) s1 o 5 (o.other.num * 256 + cause) (s1.lane o).epoch
  rw [State.work, core_keep (hp .cores (by decide)), core_postRunning, core_modSup, lane_modSup]

theorem lists_peerLost (d : State) (cause : Nat) : Lists d (peerLost d cause) := by
  unfold peerLost
  extract_lets o s1
  exact lists_trans (lists_of_cores fun l => by rw [lane_modSup])
    (lists_trans (lists_postRunning s1 _ _ _ _) (lists_keep s1 _))

section
variable {s : State} {l : LaneId} (hl : (s.lane l).live = true) (cause : Nat) (h : ¬ LastLane s l) (k : ¬ AlreadyLost s l)
  (ha : l ≠ s.sup.active)
include hl h k ha

/-- The loss of the shadow leaves the active lane alone. -/
theorem laneFail_shadow : (laneFail s l cause).sup.takeover = s.sup.takeover ∧
    (laneFail s l cause).sup.laneMode = .single s.sup.active ∧ (laneFail s l cause).sup.warmPending = s.sup.warmPending := by
  have e : (laneFail s l cause).sup = (peerLost (laneDown s.hushed l cause) cause).sup := by
    rw [laneFail_eq hl, ← (failNow_paired h k cause s.hushed).trans (if_neg ha)]
    rfl
  rw [e]
  unfold peerLost
  extract_lets o s1
  rw [sup_work (ps := [.events]) (only_postRunning (by decide) _ _ _ _ _) (by decide)]
  refine ⟨takeover_laneDown _ l cause, ?_, warmPending_laneDown _ l cause⟩
  exact congrArg LaneMode.single (active_laneDown _ l cause)

/-- The active lane's running cores get PEER_LOST. -/
theorem core_laneFail_shadow (hr : s.recd.next - s.recd.flushed + 8 < 8192) (c : Fin 8) : (laneFail s l cause).core s.sup.active c =
    if (s.core s.sup.active c).isRunning then
      (s.core s.sup.active c).post ⟨2, 5, l.num * 256 + cause, (s.lane s.sup.active).epoch, false⟩
    else s.core s.sup.active c := by
  obtain ⟨hcore, hlists⟩ := core_laneDown (q := s.hushed) hr l cause
  have hact : (laneDown s.hushed l cause).sup.active = s.sup.active := active_laneDown _ l cause
  have hep : ((laneDown s.hushed l cause).lane s.sup.active).epoch = (s.lane s.sup.active).epoch := by
    rw [epoch_laneDown, hushed_lane]
  have ho : s.sup.active.other = l := by
    revert ha
    cases l <;> cases s.sup.active <;> decide
  have he : failNow s l cause s.hushed = peerLost (laneDown s.hushed l cause) cause := (failNow_paired h k cause s.hushed).trans (if_neg ha)
  rw [laneFail_eq hl]
  rw [core_atOnce (he ▸ lists_trans hlists (lists_peerLost _ _)), he]
  have hp := core_peerLost (laneDown s.hushed l cause) cause c
  rw [hact, ho, hep, hcore, hushed_core] at hp
  rw [hp, show (s.core s.sup.active c).bare.isRunning = (s.core s.sup.active c).isRunning from rfl]
  split
  · exact Core.take_post_bare _ _
  · exact Core.take_bare _

end

/-! ### Registers -/

theorem rget_modSup (s : State) (f : Sup → Sup) (l : LaneId) (a : Nat) : rget (s.modSup f) l a = rget s l a := by cases l <;> rfl

section
variable {a : Nat} (ha : a ≠ Block.recd.base + 0x070)
include ha

/-- A record changes no register but the count of lost ones (R487). -/
theorem rget_record (s : State) (l : LaneId) (b : Block) (c : Nat) (d : List Byte) (k : LaneId) :
    rget (record s l b c d) k a = rget s k a := by
  have put (s : State) (c o : Nat) (d : List Byte) : rget (recPut s c o d) k a = rget s k a :=
    only_recPut (ps := [.recd]) (by decide) s c o d .regs (by decide) k a
  have lost (s : State) (c : Nat) : rget (recLose s c) k a = rget s k a := only_recLose (ps := [.recd]) (by decide) s c .regs (by decide) k a
  have enter (s : State) (c o : Nat) (d : List Byte) : rget (recEnter s c o d) k a = rget s k a := by
    unfold recEnter
    split
    · extract_lets was s1 r s2
      have h2 : rget s2 k a = rget s k a := (rget_rset_ne _ .a k ha _).trans (lost s c)
      split
      · exact h2
      · rw [rget_postEngine, h2]
    · exact put s c o d
  unfold record recSubmit
  split
  · rfl
  · split
    · exact lost s _
    · rw [enter]
      split
      · exact put { s with recd := _ } _ _ _
      · rfl

theorem rget_laneDown (q : State) (l : LaneId) (cause : Nat) (k : LaneId) : rget (laneDown q l cause) k a = rget q k a := by
  rw [laneDown_eq, State.work, rget_keep, rget_record ha]
  cases l <;> cases k <;> rfl

theorem rget_failNow (s q : State) (l : LaneId) (cause : Nat) (k : LaneId) : rget (failNow s l cause q) k a = rget q k a := by
  unfold failNow
  extract_lets d
  have hd : rget d k a = rget q k a := rget_laneDown ha q l cause k
  split
  · exact (rget_modSup _ _ k a).trans hd
  · split
    · exact hd
    · split
      · refine (rget_modSup _ _ k a).trans (Eq.trans ?_ hd)
        exact only_epoch (ps := []) d l.other (fun x => (x.epoch + 1) % 65536) .regs (by decide) k a
      · unfold peerLost
        extract_lets o s1
        rw [State.work, rget_keep, only_postRunning (ps := [.events]) (by decide) _ _ _ _ _ .regs (by decide) k a]
        exact (rget_modSup _ _ k a).trans hd

theorem rget_laneFail {s : State} {l : LaneId} (hl : (s.lane l).live = true) (cause : Nat) (k : LaneId) :
    rget (laneFail s l cause) k a = rget s k a := by
  rw [laneFail_eq hl]
  have h1 : rget (atOnce (failNow s l cause) s) k a = rget (failNow s l cause s.hushed) k a := by
    unfold rget
    rw [atOnce_lane]
    rfl
  rw [h1, rget_failNow ha]
  exact only_hushed (ps := [.events]) (by decide) s .regs (by decide) k a

end

/-! ### The failures of R22 -/

/-- What O31 says of the state `t` that the failure of lane `l` with a cause leaves, further parts changed besides. -/
def FailsTo (s : State) (l : LaneId) (cause : Nat) (ps : List Part) (t : State) : Prop :=
  only ([.recd, .regs, .events, .dog] ++ ps) s t ∧ t.pending = s.pending ∧ t.now = s.now ∧ t.sup.phase = s.sup.phase ∧
  t.sup.modMode = s.sup.modMode ∧ t.sup.power = s.sup.power ∧ t.sup.active = s.sup.active ∧
  t.sup.engOwner = s.sup.engOwner ∧ t.sup.engEpoch = s.sup.engEpoch ∧
  (t.lane l).live = false ∧ (t.lane l).wdEnd = none ∧ (t.lane l.other).live = (s.lane l.other).live ∧
  (∀ k, (t.lane k).struck = (s.lane k).struck) ∧ (t.lane l).epoch = (s.lane l).epoch ∧
  (LastLane s l ∨ AlreadyLost s l ∨ l ≠ s.sup.active → (t.lane l.other).epoch = (s.lane l.other).epoch) ∧
  laneCause t l = cause ∧ laneCause t l.other = laneCause s l.other ∧
  (LastLane s l → (s.sup.power ≠ .holdup → t.sup.warmPending = some 5) ∧ t.sup.takeover = none ∧ t.sup.rejoin = none ∧
    t.sup.laneMode = s.sup.laneMode) ∧
  (¬ LastLane s l → AlreadyLost s l → t.sup.takeover = s.sup.takeover ∧ t.sup.laneMode = s.sup.laneMode ∧
    t.sup.warmPending = s.sup.warmPending) ∧
  (¬ LastLane s l → ¬ AlreadyLost s l → l = s.sup.active → (t.lane l.other).epoch = ((s.lane l.other).epoch + 1) % 65536 ∧
    nbit (laneStat t l.other) 4 = true ∧
    t.sup.takeover = some ⟨l, s.now⟩ ∧ t.sup.laneMode = s.sup.laneMode ∧ t.sup.warmPending = s.sup.warmPending) ∧
  (¬ LastLane s l → ¬ AlreadyLost s l → l ≠ s.sup.active →
    t.sup.takeover = s.sup.takeover ∧ t.sup.laneMode = .single s.sup.active ∧ t.sup.warmPending = s.sup.warmPending ∧
    (s.recd.next - s.recd.flushed + 8 < 8192 → ∀ c : Fin 8, t.core s.sup.active c =
      if (s.core s.sup.active c).isRunning then
        (s.core s.sup.active c).post ⟨2, 5, l.num * 256 + cause, (s.lane s.sup.active).epoch, false⟩
      else s.core s.sup.active c))

/-- LANESTAT.TAKING shows a takeover that is due. -/
theorem taking_of_takeover {s : State} {k : Loss} (h : s.sup.takeover = some k) (l : LaneId) : nbit (laneStat s l) 4 = true := by
  have hn (l : LaneId) : l.num ≤ 1 := by cases l <;> decide
  have hm : s.sup.laneMode.code ≤ 3 := by cases s.sup.laneMode <;> decide
  have h1 := hn l
  have h2 := hn s.sup.active
  unfold nbit nfld laneStat
  rw [h, beq_iff_eq]
  have hb : b2n (some k).isSome = 1 := rfl
  rw [hb]
  omega

theorem failsTo_laneFail {s : State} {l : LaneId} (hl : (s.lane l).live = true) (cause : Nat) (r : State) (hr : r.pending = s.pending) :
    FailsTo s l cause [] (closed r (laneFail s l cause)) := by
  have d := (downed_laneFail hl cause).closed (r := r)
  refine ⟨d.frame, by simp [hr], d.now, d.phase, d.modMode, d.power, d.active, d.engOwner, d.engEpoch, d.live, d.wdEnd, d.liveOther,
    d.struck, d.epoch, fun h => ?_, d.causeOwn, d.causeOther, fun h => ?_, fun h k => ?_, fun h k ha => ?_, fun h k ha => ?_⟩
  · rw [lane_closed]
    exact laneFail_epoch hl cause h
  · simpa using laneFail_last hl cause h
  · simpa using laneFail_lost hl cause h k
  · obtain ⟨h1, h2, h3, h4⟩ := laneFail_active hl cause h k ha
    exact ⟨by rw [lane_closed, h1], taking_of_takeover (by rw [closed_sup_takeover, h2]) _, by simpa using h2, by simpa using h3, by simpa using h4⟩
  · obtain ⟨h1, h2, h3⟩ := laneFail_shadow hl cause h k ha
    refine ⟨by simpa using h1, by simpa using h2, by simpa using h3, fun hroom c => ?_⟩
    exact (congrArg (fun x : Lane => tget x.cores c) (lane_closed ..)).trans (core_laneFail_shadow hl cause h k ha hroom c)

theorem not_dark_of_up {s : State} (h : s.lanesUp = true) : s.dark = false := by
  unfold State.lanesUp at h
  unfold State.dark
  revert h
  cases s.sup.phase <;> decide

/-- The count and the place of an uncorrectable error. -/
theorem eccCount_eq (s : State) (beat : Nat) : ∃ x, eccCount s beat = { s with sregs := x } := ⟨_, rfl⟩

theorem work_eccCount (s : State) (beat : Nat) : ∃ x, (s.work fun s => eccCount s beat) = { s with sregs := x } ∧
    eccCount s beat = { s with sregs := x } := by
  obtain ⟨x, hx⟩ := eccCount_eq s beat
  refine ⟨x, ?_, hx⟩
  have hk : keep s { s with sregs := x } = { keep s s with sregs := x } := rfl
  rw [State.work, hx, hk, keep_self]

theorem sfld_eccCount (s : State) (beat : BitVec 26) : sfld (eccCount s beat.toNat) .fab 0x1C 31 6 = beat.toNat := by
  unfold eccCount sputf rsetf sfld rfld
  rw [rget_rset_same]
  have := nfld_nset_same (lo := 6) (hi := 31) (by decide) (rget (scount s .fab 0x18 1) .a (Block.fab.base + 0x1C)) beat.toNat
  rw [← nfld_mod_word (by decide)] at this
  refine this.trans (Nat.mod_eq_of_lt beat.isLt)

theorem sget_eccCount (s : State) (beat : Nat) : sget (eccCount s beat) .fab 0x18 = min (sget s .fab 0x18 + 1) (2 ^ 32 - 1) := by
  have hlt : rget s .a (Block.fab.base + 0x18) < 2 ^ 32 := by
    unfold rget
    split
    · exact BitVec.isLt _
    · decide +kernel
  unfold sget eccCount sputf
  rw [show ∀ x v, rget (rsetf x .a (Block.fab.base + 0x1C) 31 6 v) .a (Block.fab.base + 0x18) = rget x .a (Block.fab.base + 0x18) from
    fun x v => rget_rset_ne x .a .a (by decide) _]
  unfold scount rcount rsetf rfld
  rw [rget_rset_same]
  generalize rget s .a (Block.fab.base + 0x18) = w at hlt ⊢
  unfold nset
  omega

/-- An error of the DRAM that a lane reads spoils its beat, is counted, and is a failure of the lane (R466). -/
theorem ends_laneDram {s : State} {l : LaneId} (hu : s.lanesUp = true) (hl : (s.lane l).live = true) (beat : BitVec 26) :
    ∃ t, exec (.eccUncorrectable (.laneDram l beat)) s = .next t ∧ FailsTo s l 2 [.dq] t ∧ t.dq = s.dq.spoil beat.toNat ∧
      sfld t .fab 0x1C 31 6 = beat.toNat ∧ sget t .fab 0x18 = min (sget s .fab 0x18 + 1) (2 ^ 32 - 1) := by
  obtain ⟨x, hx, he⟩ := work_eccCount { s with dq := s.dq.spoil beat.toNat } beat.toNat
  have hu' : ({ s with dq := s.dq.spoil beat.toNat, sregs := x } : State).lanesUp = true := hu
  have hl' : (({ s with dq := s.dq.spoil beat.toNat, sregs := x } : State).lane l).live = true := by cases l <;> exact hl
  have hexec : exec (.eccUncorrectable (.laneDram l beat)) s =
      .next (closed s (laneFail { s with dq := s.dq.spoil beat.toNat, sregs := x } l 2)) := by
    refine (actOn_lit (not_dark_of_up hu) _).trans (congrArg (fun t => Host.Outcome.next (closed s t)) ?_)
    unfold eccError eccBeat
    dsimp only
    rw [hx]
    exact if_pos hu'
  have hf := failsTo_laneFail hl' 2 s rfl
  have hs : only [.dq, .regs] s { s with dq := s.dq.spoil beat.toNat, sregs := x } := by
    have hc : only [.dq, .regs] { s with dq := s.dq.spoil beat.toNat } (eccCount { s with dq := s.dq.spoil beat.toNat } beat.toNat) :=
      only_trans (only_scount (by decide) _ _ _ _) (only_sputf (by decide) _ _ _ _ _ _)
    rw [he] at hc
    exact only_trans (only_dq (by decide) s _) hc
  have hr {a : Nat} (ha : a ≠ Block.recd.base + 0x070) : rget (closed s (laneFail { s with dq := s.dq.spoil beat.toNat, sregs := x } l 2)) .a a =
      rget (eccCount { s with dq := s.dq.spoil beat.toNat } beat.toNat) .a a := by
    rw [only_closed_self (ps := []) s _ .regs (by decide) .a a, rget_laneFail ha hl', he]
  refine ⟨_, hexec, ?_, ?_, ?_, ?_⟩
  · obtain ⟨hframe, hrest⟩ := hf
    exact ⟨only_trans (only_mono hs (by decide)) (only_mono hframe (by decide)), hrest⟩
  · rw [closed_dq, (downed_laneFail hl' 2).frame .dq (by decide)]
  · unfold sfld rfld
    rw [hr (by decide)]
    exact sfld_eccCount _ beat
  · unfold sget
    rw [hr (by decide)]
    exact sget_eccCount _ _

/-- FAIL_SELF of a lane that is not the last. -/
theorem laneCtrl_fail {s : State} {l : LaneId} (h : ¬ onlyLive s l = true) : laneCtrl s l 1 = laneFail s l 7 := by
  unfold laneCtrl
  have h0 : nbit 1 0 = true := by decide
  have h1 : nbit 1 1 = false := by decide
  simp [h0, h1, h]

/-- Settles O31: every failure goes through `laneFail`, whose four outcomes have each their lemma above. -/
theorem laneFailures : Obligations.LaneFailures := by
  unfold Obligations.LaneFailures
  intro s l hu hl twice lost fails
  have fails_of {i : Instr} {c : Nat} (hi : exec i s = actUp s (laneFail s l c)) : Ends i s (FailsTo s l c []) :=
    ⟨_, hi.trans (actUp_up hu _), failsTo_laneFail hl c s rfl⟩
  refine ⟨fails_of rfl, ?_, fun beat => ?_, fails_of rfl, fun hd => fails_of ?_, fails_of rfl, fun ht => fails_of ?_⟩
  · exact ⟨_, (actOn_lit (not_dark_of_up hu) _).trans (congrArg (fun t => Host.Outcome.next (closed s t)) (if_pos hu)),
      failsTo_laneFail hl 2 s rfl⟩
  · obtain ⟨t, ht, hf, hrest⟩ := ends_laneDram hu hl beat
    exact ⟨⟨t, ht, hf⟩, ⟨t, ht, hrest⟩⟩
  · exact congrArg (actUp s) (if_pos hd)
  · exact congrArg (actUp s) (laneCtrl_fail fun h => ht ((onlyLive_iff s l).1 h))

end Sys2Proof.Machine
end

section
/-! PROOFS. Watchdog kicks, heartbeats, a silent peer, a strike (O32). -/

namespace Sys2Proof.Machine

/-! ### Watchdog kicks -/

theorem wdHalf_keep (s t : State) (l : LaneId) : ((keep s t).lane l).wdHalf = (t.lane l).wdHalf := by rw [keep_lane]; rfl

theorem only_wdKick (s : State) (l : LaneId) (c v : Nat) : only [.dog] s (wdKick s l c v) := by
  have own (s : State) (f : Lane → Lane) (h : ∀ x, Lane.Own x (f x)) : only [.dog] s (s.modLane l f) := only_modLane_own (by decide) s l h
  unfold wdKick
  extract_lets half s1
  have h1 : only [.dog] s s1 := own s _ fun x => ⟨x.epoch, x.live, x.ready, x.struck, x.beat, x.wdEnd, none, rfl⟩
  refine only_ite _ (own s _ fun x => ⟨x.epoch, x.live, x.ready, x.struck, x.beat, x.wdEnd, some c, rfl⟩) (only_ite _ (only_trans h1 ?_) h1)
  exact own s1 _ fun x => ⟨x.epoch, x.live, x.ready, x.struck, x.beat, some _, x.wdHalf, rfl⟩

/-- A kick leaves the other lane's watchdog. -/
theorem lane_wdKick_other (s : State) (l : LaneId) (c v : Nat) : (wdKick s l c v).lane l.other = s.lane l.other := by
  have h (s : State) (f : Lane → Lane) : (s.modLane l f).lane l.other = s.lane l.other := by
    rw [State.modLane_lane, if_neg (other_ne l)]
  unfold wdKick wdRestart
  extract_lets half s1
  split
  · exact h s _
  · split
    · exact (h s1 _).trans (h s _)
    · exact h s _

theorem lane_wdKick_first (s : State) (l : LaneId) (c : Nat) :
    ((wdKick s l c 0xA55A).lane l).wdHalf = some c ∧ ((wdKick s l c 0xA55A).lane l).wdEnd = (s.lane l).wdEnd := by
  unfold wdKick
  rw [if_pos rfl, State.modLane_lane_same]
  exact ⟨rfl, rfl⟩

/-- The state with lane `l`'s half of a kick discarded. -/
def kickOff (s : State) (l : LaneId) : State := s.modLane l fun x => { x with wdHalf := none }

/-- The second half of a kick, or any other value. -/
theorem lane_wdKick_next (s : State) (l : LaneId) (c : Nat) {v : Nat} (hv : v ≠ 0xA55A) :
    ((wdKick s l c v).lane l).wdHalf = none ∧ ((wdKick s l c v).lane l).wdEnd =
      if v = 0x5AA5 ∧ (s.lane l).wdHalf = some c ∧ (s.lane l).wdEnd.isSome
        then some (s.now + 250 * nfld (rget s l 0xF0000048) 19 0) else (s.lane l).wdEnd := by
  have h1 : (kickOff s l).lane l = { s.lane l with wdHalf := none } := State.modLane_lane_same ..
  have hon : wdOn (kickOff s l) l = (s.lane l).wdEnd.isSome := by rw [wdOn, h1]
  have hk : wdKick s l c v = if v = 0x5AA5 ∧ (s.lane l).wdHalf = some c ∧ wdOn (kickOff s l) l then wdRestart (kickOff s l) l
    else kickOff s l := if_neg hv
  rw [hk, hon]
  split
  · have hr : rget (kickOff s l) l 0xF0000048 = rget s l 0xF0000048 := by cases l <;> rfl
    unfold wdRestart rfld
    rw [State.modLane_lane_same, h1, show Block.sys.base + 0x48 = 0xF0000048 from rfl, hr, show (kickOff s l).now = s.now from State.modLane_now ..]
    exact ⟨rfl, rfl⟩
  · rw [h1]
    exact ⟨rfl, rfl⟩

/-! ### Strikes -/

theorem epoch_closed (r s : State) (l : LaneId) : ((closed r s).lane l).epoch = (s.lane l).epoch := by rw [lane_closed]

section
variable {s q : State} {k : LaneId} (hq : only [.dog] s q) (hsup : q.sup = s.sup) (hlane : ∀ j, (q.lane j).epoch = (s.lane j).epoch ∧
  (q.lane j).live = (s.lane j).live) (hk : (s.lane k).live = true)
include hq hsup hlane hk

/-- A lane that strikes goes down with cause 8, and nothing follows yet. -/
theorem strikeLane_effect : only [.recd, .regs, .events, .dog] s (closed s (strikeLane q k)) ∧
    ((closed s (strikeLane q k)).lane k).live = false ∧ ((closed s (strikeLane q k)).lane k).struck = true ∧
    laneCause (closed s (strikeLane q k)) k = 8 ∧
    ((closed s (strikeLane q k)).lane k.other).live = (s.lane k.other).live ∧
    (∀ j, ((closed s (strikeLane q k)).lane j).epoch = (s.lane j).epoch) ∧
    (closed s (strikeLane q k)).sup.laneMode = s.sup.laneMode ∧ (closed s (strikeLane q k)).sup.active = s.sup.active ∧
    (closed s (strikeLane q k)).sup.takeover = s.sup.takeover := by
  have hl : (q.lane k).live = true := (hlane k).2.trans hk
  have he : strikeLane q k = laneDown (q.modLane k fun x => { x with struck := true }) k 8 := if_pos hl
  have hx : only [.dog] q (q.modLane k fun x => { x with struck := true }) :=
    only_modLane_own (by decide) q k fun x => ⟨x.epoch, x.live, x.ready, true, x.beat, x.wdEnd, x.wdHalf, rfl⟩
  have hown (j : LaneId) : ((q.modLane k fun x => { x with struck := true }).lane j).epoch = (s.lane j).epoch ∧
      ((q.modLane k fun x => { x with struck := true }).lane j).live = (s.lane j).live := by
    rw [State.modLane_lane]
    split
    next hj => rw [hj]; exact hlane k
    next => exact hlane j
  have hs : (q.modLane k fun x => { x with struck := true }).sup = s.sup := (State.modLane_sup ..).trans hsup
  have hst : ((q.modLane k fun x => { x with struck := true }).lane k).struck = true := by rw [State.modLane_lane_same]
  rw [he]
  generalize q.modLane k (fun x => { x with struck := true }) = u at hx hown hs hst
  have d := (downed_laneDown u k 8).closed (r := s)
  refine ⟨only_trans (only_mono (only_trans hq hx) (by decide)) d.frame, d.live, (d.struck k).trans hst, d.causeOwn, d.liveOther.trans (hown _).2,
    fun j => ?_, ?_, d.active.trans (congrArg Sup.active hs), ?_⟩
  · rw [lane_closed, epoch_laneDown]
    exact (hown j).1
  · rw [closed_sup_laneMode, laneMode_laneDown, hs]
  · rw [closed_sup_takeover, takeover_laneDown, hs]

end

/-! ### Heartbeats -/

/-- The state in which lane `l` has heard its peer. -/
def heard (s : State) (l : LaneId) : State := s.modLane l fun x => { x with beat := some s.now }

theorem only_heard (s : State) (l : LaneId) : only [] s (heard s l) :=
  let x := s.lane l
  only_own s l ⟨x.epoch, x.live, x.ready, x.struck, _, x.wdEnd, x.wdHalf, rfl⟩ (.inr ⟨rfl, rfl⟩)

theorem own_heard (s : State) (l j : LaneId) : ((heard s l).lane j).epoch = (s.lane j).epoch ∧ ((heard s l).lane j).live = (s.lane j).live := by
  unfold heard
  rw [State.modLane_lane]
  split
  next hj => rw [hj]; exact ⟨rfl, rfl⟩
  next => exact ⟨rfl, rfl⟩

/-! ### A silent peer -/

/-- The loss of the peer as its silence shows it. -/
def silentNow (l : LaneId) (q : State) : State :=
  (setCause q l.other 6).work fun s =>
    record s l .sys 0x10 (leBytes 1 l.other.num ++ leBytes 1 6 ++ leBytes 2 (s.lane l.other).epoch)

/-- What a lane does at the instant at which the silence is over. -/
def silentEnd (l : LaneId) (t : Nat) (q : State) : State :=
  if l.other = (silentNow l q).sup.active then takeoverStart (silentNow l q) l.other t else peerLost (silentNow l q) 6

theorem sup_silentNow (l : LaneId) (q : State) : (silentNow l q).sup = (setCause q l.other 6).sup :=
  sup_work (ps := [.recd, .regs, .events]) (only_record (by decide) (by decide) (by decide) _ _ _ _ _) (by decide)

theorem only_silentNow (l : LaneId) (q : State) : only [.recd, .regs, .events] q (silentNow l q) :=
  only_trans (only_modSup _ fun u => by cases l <;> exact ⟨rfl, rfl, rfl⟩) (only_keep (only_record (by decide) (by decide) (by decide) _ _ _ _ _))

theorem own_silentNow (l : LaneId) (q : State) (k : LaneId) :
    ((silentNow l q).lane k).live = (q.lane k).live ∧ ((silentNow l q).lane k).epoch = (q.lane k).epoch := by
  unfold silentNow State.work
  rw [live_keep, epoch_keep]
  cases l <;> cases k <;> exact ⟨rfl, rfl⟩

theorem only_silentEnd (l : LaneId) (t : Nat) (q : State) : only [.recd, .regs, .events] q (silentEnd l t q) := by
  have hs := only_silentNow l q
  unfold silentEnd
  refine only_ite _ (only_trans hs ?_) (only_trans hs ?_)
  · exact only_trans (only_epoch _ _ _) (only_modSup _ fun _ => ⟨rfl, rfl, rfl⟩)
  · exact only_trans (only_modSup _ fun _ => ⟨rfl, rfl, rfl⟩) (only_keep (only_postRunning (by decide) _ _ _ _ _))

/-- A silent peer is given cause 6, and goes on until it strikes. -/
theorem silentEnd_leaves (l : LaneId) (t : Nat) (q : State) :
    laneCause (silentEnd l t q) l.other = 6 ∧ ∀ k, ((silentEnd l t q).lane k).live = (q.lane k).live := by
  have hc : laneCause (silentNow l q) l.other = 6 := (laneCause_eq (sup_silentNow l q) _).trans (by cases l <;> rfl)
  have hl (k) : ((silentNow l q).lane k).live = (q.lane k).live := (own_silentNow l q k).1
  unfold silentEnd
  split
  · unfold takeoverStart
    refine ⟨Eq.trans (by cases l <;> rfl) hc, fun k => ?_⟩
    rw [lane_modSup, State.modLane_lane]
    split
    next hk => rw [hk]; exact hl _
    next => exact hl k
  · unfold peerLost
    extract_lets o s1
    have hs : (s1.work fun s => postRunning s o 5 (o.other.num * 256 + 6) (s.lane o).epoch).sup = s1.sup :=
      sup_work (ps := [.events]) (only_postRunning (by decide) _ _ _ _ _) (by decide)
    refine ⟨(laneCause_eq hs _).trans (Eq.trans (by cases l <;> rfl) hc), fun k => ?_⟩
    rw [State.work, live_keep, lane_modSup]
    exact hl k

section
variable {l : LaneId} (t : Nat) {q : State}

theorem silentEnd_takeover (h : l.other = q.sup.active) : (silentEnd l t q).sup.takeover = some ⟨l.other, t⟩ ∧
    (silentEnd l t q).sup.laneMode = q.sup.laneMode ∧ ((silentEnd l t q).lane l).epoch = ((q.lane l).epoch + 1) % 65536 := by
  have ha : (silentNow l q).sup.active = q.sup.active := by rw [sup_silentNow]; cases l <;> rfl
  have hm : (silentNow l q).sup.laneMode = q.sup.laneMode := by rw [sup_silentNow]; cases l <;> rfl
  have he : silentEnd l t q = takeoverStart (silentNow l q) l.other t := if_pos (h.trans ha.symm)
  rw [he]
  unfold takeoverStart
  refine ⟨rfl, (congrArg Sup.laneMode (State.modLane_sup ..)).trans hm, ?_⟩
  rw [lane_modSup, show l.other.other = l by cases l <;> rfl, State.modLane_lane_same]
  exact congrArg (fun e => (e + 1) % 65536) (own_silentNow l q l).2

theorem silentEnd_alone (h : l = q.sup.active) :
    (silentEnd l t q).sup.takeover = q.sup.takeover ∧ (silentEnd l t q).sup.laneMode = .single l := by
  have ha : (silentNow l q).sup.active = q.sup.active := by rw [sup_silentNow]; cases l <;> rfl
  have ht : (silentNow l q).sup.takeover = q.sup.takeover := by rw [sup_silentNow]; cases l <;> rfl
  have he : silentEnd l t q = peerLost (silentNow l q) 6 := if_neg (by rw [ha, ← h]; exact other_ne l)
  rw [he]
  unfold peerLost
  extract_lets o s1
  rw [sup_work (ps := [.events]) (only_postRunning (by decide) _ _ _ _ _) (by decide)]
  exact ⟨ht, congrArg LaneMode.single (ha.trans h.symm)⟩

end

/-- A lane that is not the last one of a pair in DUAL. -/
theorem not_onlyLive_dual {s : State} {l : LaneId} (h : (s.lane l.other).live = true) (hm : s.sup.laneMode = .dual)
    (ht : s.sup.takeover = none) : onlyLive s l = false := by
  unfold onlyLive
  rw [h, hm, ht]
  cases l <;> rfl

theorem exec_peerSilent {s : State} {l : LaneId} (hu : s.lanesUp = true) (hl : (s.lane l).live = true)
    (ho : (s.lane l.other).live = true) (hm : s.sup.laneMode = .dual) (ht : s.sup.takeover = none)
    (hb : (s.lane l.other).beat.getD 0 + 25000 ≤ s.now) :
    exec (.peerSilent l) s = .next (closed s (atOnce (silentEnd l ((s.lane l.other).beat.getD 0)) s)) := by
  have ho' : onlyLive s l.other = false :=
    not_onlyLive_dual (by rw [show l.other.other = l by cases l <;> rfl]; exact hl) hm ht
  refine (actUp_up hu _).trans (congrArg (fun x => Host.Outcome.next (closed s x)) (if_neg ?_))
  rw [hl, ho, not_onlyLive_dual ho hm ht, ho']
  have h : ¬s.now < (s.lane l.other).beat.getD 0 + us 100 := Nat.not_lt.mpr hb
  simpa using h

/-- 100 µs of silence in DUAL. -/
theorem ends_peerSilent {s : State} {l : LaneId} (hu : s.lanesUp = true) (hl : (s.lane l).live = true)
    (ho : (s.lane l.other).live = true) (hm : s.sup.laneMode = .dual) (ht : s.sup.takeover = none)
    (hb : (s.lane l.other).beat.getD 0 + 25000 ≤ s.now) : Ends (.peerSilent l) s fun t =>
      only [.recd, .regs, .events] s t ∧ laneCause t l.other = 6 ∧ (∀ k, (t.lane k).live = (s.lane k).live) ∧
      (l.other = s.sup.active → t.sup.takeover = some ⟨l.other, (s.lane l.other).beat.getD 0⟩ ∧ t.sup.laneMode = .dual ∧
        (t.lane l).epoch = ((s.lane l).epoch + 1) % 65536) ∧
      (l = s.sup.active → t.sup.takeover = none ∧ t.sup.laneMode = .single l) := by
  generalize hbt : (s.lane l.other).beat.getD 0 = b at hb
  obtain ⟨hcause, hlive⟩ := silentEnd_leaves l b s.hushed
  refine ⟨_, hbt ▸ exec_peerSilent hu hl ho hm ht (hbt.symm ▸ hb), ?_, ?_, fun k => ?_, fun h => ?_, fun h => ?_⟩
  · exact only_closed (only_atOnce (by decide) (only_silentEnd l b s.hushed))
  · rw [laneCause_closed]
    exact Eq.trans (by cases l <;> rfl) hcause
  · rw [lane_closed, live_atOnce, hlive, hushed_lane]
  · obtain ⟨h1, h2, h3⟩ := silentEnd_takeover b (q := s.hushed) h
    rw [closed_sup_takeover, closed_sup_laneMode, lane_closed, epoch_atOnce, h3, hushed_lane]
    exact ⟨h1, h2.trans hm, rfl⟩
  · obtain ⟨h1, h2⟩ := silentEnd_alone b (q := s.hushed) h
    rw [closed_sup_takeover, closed_sup_laneMode]
    exact ⟨h1.trans ht, h2⟩

theorem ends_watchdogKick {s : State} (l : LaneId) (hu : s.lanesUp = true) (c : Fin 8) (v : Word) :
    EndsIn [.dog] (.watchdogKick l c v) s fun t =>
      (t.lane l).wdHalf = (if v = 0xA55A then some c.val else none) ∧ (t.lane l.other).wdHalf = (s.lane l.other).wdHalf ∧
      (t.lane l.other).wdEnd = (s.lane l.other).wdEnd ∧
      (t.lane l).wdEnd = if v = 0x5AA5 ∧ (s.lane l).wdHalf = some c.val ∧ (s.lane l).wdEnd.isSome
        then some (s.now + 250 * nfld (rget s l 0xF0000048) 19 0) else (s.lane l).wdEnd := by
  refine endsIn_actL rfl hu (only_wdKick s l c v.toNat) ?_
  simp only [modeStep_lane, wdHalf_keep, wdEnd_keep, lane_wdKick_other, true_and]
  by_cases hv : v = 0xA55A
  · subst hv
    obtain ⟨h1, h2⟩ := lane_wdKick_first s l c
    exact ⟨h1, h2⟩
  · have hn : v.toNat ≠ 0xA55A := fun h => hv (BitVec.eq_of_toNat_eq h)
    have h5 : (v.toNat = 0x5AA5) = (v = 0x5AA5) := propext ⟨fun h => BitVec.eq_of_toNat_eq h, fun h => h ▸ rfl⟩
    obtain ⟨h1, h2⟩ := lane_wdKick_next s l c hn
    rw [if_neg hv]
    exact ⟨h1, by simp only [h2, h5]⟩

theorem beat_keep (s t : State) (l : LaneId) : ((keep s t).lane l).beat = (s.lane l).beat := by rw [keep_lane]; rfl

/-- A strike of the other lane leaves lane `l` as it is and what it heard. -/
theorem own_strikeLane_other (s : State) (l : LaneId) : ((strikeLane s l.other).lane l).beat = (s.lane l).beat ∧
    ((strikeLane s l.other).lane l).live = (s.lane l).live := by
  unfold strikeLane
  split
  · unfold laneDown State.work
    rw [beat_keep, live_keep]
    cases l <;> exact ⟨rfl, rfl⟩
  · exact ⟨rfl, rfl⟩

/-- Settles O32: a strike takes a lane down as a failure does, and nothing follows it at once; silence is judged at one instant. -/
theorem watchdogHeartbeatStrike : Obligations.WatchdogHeartbeatStrike := by
  unfold Obligations.WatchdogHeartbeatStrike
  intro s l hu
  refine ⟨ends_watchdogKick l hu, ?_⟩
  intro strikes hl
  have beats {t : State} (h : (if (s.lane l.other).epoch < (s.lane l).epoch then strikeLane (heard s l) l.other else heard s l) = t) :
      exec (.mirrorHeartbeat l) s = .next (closed s t) := by
    rw [← (own_heard s l l).1, ← (own_heard s l l.other).1] at h
    exact (actUp_up hu _).trans (congrArg (fun x => Host.Outcome.next (closed s x)) ((if_neg (by rw [hl]; decide)).trans h))
  refine ⟨?_, fun he ho => ?_, fun h => ?_, fun ho hm ht hb => ends_peerSilent hu hl ho hm ht hb⟩
  · have hbeat : ((heard s l).lane l).beat = some s.now := by rw [heard, State.modLane_lane_same]
    have hlive : ((heard s l).lane l).live = true := (own_heard s l l).2.trans hl
    by_cases he : (s.lane l.other).epoch < (s.lane l).epoch
    · obtain ⟨hb, hv⟩ := own_strikeLane_other (heard s l) l
      refine ⟨_, beats (if_pos he), ?_, ?_, fun h => absurd he (Nat.not_lt.mpr h)⟩
      · rw [lane_closed, hb, hbeat]
      · rw [lane_closed, hv, hlive]
    · refine ⟨_, beats (if_neg he), ?_, ?_, fun _ => ⟨only_closed (only_heard s l), ?_, ?_⟩⟩
      · rw [lane_closed, hbeat]
      · rw [lane_closed, hlive]
      · rw [lane_closed, heard, State.modLane_lane_other]
      · rw [closed_sup_laneMode, heard, State.modLane_sup]
  · exact ⟨_, beats (if_pos he), strikeLane_effect (only_mono (only_heard s l) (by decide)) (State.modLane_sup ..) (own_heard s l) ho⟩
  · refine ⟨_, (actUp_up hu _).trans (congrArg (fun x => Host.Outcome.next (closed s x)) (if_pos ?_)),
      strikeLane_effect (only_refl _ s) rfl (fun _ => ⟨rfl, rfl⟩) hl⟩
    rcases h with h | h | ⟨n, h⟩
    · simp [h]
    · simp [h]
    · simp only [Bool.or_eq_true, List.any_eq_true, List.mem_range, decide_eq_true_eq]
      exact .inr ⟨n, n.isLt, h⟩

end Sys2Proof.Machine
end

section
/-! PROOFS. A rejoin: its start, its end, its failures (O34). -/

namespace Sys2Proof.Machine

variable {ps : List Part}

theorem lane_or_other (l k : LaneId) : k = l ∨ k = l.other := by cases l <;> cases k <;> decide

theorem other_other (l : LaneId) : l.other.other = l := by cases l <;> rfl

/-! ### Rejections of LANECTRL -/

/-- A bit of LANECTRL that is rejected is told with STATE. -/
theorem endsIn_laneCtrl_reject {i : Instr} {s : State} {l : LaneId} (hu : s.lanesUp = true)
    (h : exec i s = actUp s (s.work fun s => reject s l .sys 8 rSTATE)) : EndsIn [.regs] i s fun t =>
      regsBut [0xF000000C] s t ∧ nfld (rget t l 0xF000000C) 7 0 = 1 := by
  have hL : exec i s = actL s (reject s l .sys 8 rSTATE) := h.trans ((actUp_up hu _).trans (actL_up hu _).symm)
  refine endsIn_actL hL hu (only_reject (by decide) s l .sys 8 rSTATE) ⟨fun m a ha => ?_, ?_⟩
  · simpa using regsBut_reject s l .sys 8 rSTATE m a ha
  · obtain ⟨h1, -, -⟩ := told_reject s l .sys 8 (r := rSTATE) (by decide)
    have h2 : rget (modeStep s (keep s (reject s l .sys 8 rSTATE))) l 0xF000000C = rget (reject s l .sys 8 rSTATE) l 0xF000000C := by simp
    rw [h2]
    exact h1

theorem laneCtrl_failSelf_only {s : State} {l : LaneId} (hl : (s.lane l).live = true) (h : onlyLive s l = true) :
    laneCtrl s l 1 = s.work fun s => reject s l .sys 8 rSTATE := by
  have h0 : nbit 1 0 = true := by decide
  have h1 : nbit 1 1 = false := by decide
  simp [laneCtrl, h0, h1, h, hl]

theorem laneCtrl_rejoin (s : State) (l : LaneId) : laneCtrl s l 2 =
    if s.sup.active = l ∧ s.sup.laneMode = .single l then rejoinStart s else s.work fun s => reject s l .sys 8 rSTATE := by
  have h0 : nbit 2 0 = false := by decide
  have h1 : nbit 2 1 = true := by decide
  simp [laneCtrl, h0, h1]

/-! ### Links -/

theorem seqs_foldl_modSeq (f : Seq → Seq) (xs : List Nat) (s : State) :
    ∃ x, xs.foldl (fun s n => s.modSeq n f) s = { s with seqs := x } := by
  induction xs generalizing s with
  | nil => exact ⟨s.seqs, rfl⟩
  | cons n xs ih =>
    obtain ⟨x, hx⟩ := ih (s.modSeq n f)
    exact ⟨x, hx⟩

theorem linksClear_eq (s : State) (l : LaneId) : ∃ x, linksClear s l = { s with seqs := x } := seqs_foldl_modSeq _ _ s

/-- Clearing a lane's links is work that keeps nothing back. -/
theorem work_linksClear (s : State) (l : LaneId) : ∃ x, (s.work fun s => linksClear s l) = { s with seqs := x } := by
  obtain ⟨x, hx⟩ := linksClear_eq s l
  refine ⟨x, ?_⟩
  have hk : keep s { s with seqs := x } = { keep s s with seqs := x } := rfl
  rw [State.work, hx, hk, keep_self]

theorem only_linksClear (h : Part.seqs ∈ ps) (s : State) (l : LaneId) : only ps s (linksClear s l) :=
  only_foldl _ (fun s n => only_modSeq h s n _) _ s

section
variable {P : Seq → Prop} {f : Seq → Seq}

theorem seq_modSeq (s : State) (m n : Nat) : (s.modSeq m f).seq n = if n = m then f (s.seq n) else s.seq n := by
  unfold State.seq State.modSeq
  split
  next h => rw [h, tget_tmod_same]
  next h => rw [tget_tmod_ne _ h]

/-- What each step keeps of a sequencer a pass over sequencers keeps. -/
theorem seq_foldl_keeps (hf : ∀ q, P q → P (f q)) (xs : List Nat) {s : State} {n : Nat} (h : P (s.seq n)) :
    P ((xs.foldl (fun s n => s.modSeq n f) s).seq n) := by
  induction xs generalizing s with
  | nil => exact h
  | cons m xs ih =>
    refine ih ?_
    rw [seq_modSeq]
    split
    · exact hf _ h
    · exact h

/-- What each step makes true of a sequencer a pass makes true of each that it visits. -/
theorem seq_foldl_sets (hf : ∀ q, P (f q)) (xs : List Nat) (s : State) {n : Nat} (h : n ∈ xs) :
    P ((xs.foldl (fun s n => s.modSeq n f) s).seq n) := by
  induction xs generalizing s with
  | nil => cases h
  | cons m xs ih =>
    by_cases hm : n = m
    · refine seq_foldl_keeps (fun q _ => hf q) xs ?_
      rw [seq_modSeq, if_pos hm]
      exact hf _
    · exact ih _ ((List.mem_cons.1 h).resolve_left hm)

end

theorem num_linksClear {s : State} (l : LaneId) {n : Nat} (h : (s.seq n).numA = (s.seq n).numB) :
    ((linksClear s l).seq n).numA = ((linksClear s l).seq n).numB :=
  seq_foldl_keeps (P := fun q => q.numA = q.numB) (fun q h => by cases l <;> exact h) _ h

/-! ### The start -/

theorem only_coresStop (h : Part.cores ∈ ps) (s : State) (l : LaneId) : only ps s (coresStop s l) := by
  have hcore (t : Tab Core) (n : Nat) : tget (tmap t fun _ c => c.still) n = (tget t n).still ∨ tget (tmap t fun _ c => c.still) n = tget t n := by
    unfold tget
    rw [tfind_tmap]
    cases tfind t n with
    | none => exact .inr rfl
    | some c => exact .inl rfl
  unfold coresStop
  intro p hp
  cases p with
  | cores => exact absurd h hp
  | events =>
    intro m n
    unfold State.core
    rw [State.modLane_lane]
    split
    next e =>
      subst e
      rcases hcore (s.lane m).cores n with h | h <;> rw [h] <;> exact ⟨rfl, rfl, rfl⟩
    next => exact ⟨rfl, rfl, rfl⟩
  | regs =>
    intro m a
    cases l <;> cases m <;> rfl
  | dog =>
    intro m
    rw [State.modLane_lane]
    split
    next e => subst e; exact ⟨rfl, rfl⟩
    next => exact ⟨rfl, rfl⟩
  | lmem | sram | shdrop | hy | entries | lpe | sels | levels | strs =>
    intro m
    rw [State.modLane_lane]
    split
    next e => subst e; rfl
    next => rfl
  | mism => cases l <;> exact ⟨rfl, rfl, rfl⟩
  | _ => cases l <;> rfl

theorem run_coresStop (s : State) (l : LaneId) (c : Nat) : ((coresStop s l).core l c).run = .stopped := by
  unfold State.core coresStop
  rw [State.modLane_lane_same]
  unfold tget
  dsimp only
  rw [tfind_tmap]
  cases tfind (s.lane l).cores c <;> rfl

/-- A lane held in reset, its cores not yet stopped. -/
def heldInReset (s : State) (p : LaneId) : State :=
  s.modLane p fun x => { x with live := false, struck := false, ready := false, wdEnd := none }

theorem rejoinStart_eq (s : State) : ∃ x, rejoinStart s =
    ({ coresStop (heldInReset s s.sup.active.other) s.sup.active.other with seqs := x } : State).modSup fun u =>
      { u with laneMode := .rejoin, rejoin := some ⟨s.sup.active.other, laneCause s s.sup.active.other, s.now⟩ } := by
  obtain ⟨x, hx⟩ := work_linksClear (coresStop (heldInReset s s.sup.active.other) s.sup.active.other) s.sup.active.other
  refine ⟨x, ?_⟩
  unfold rejoinStart
  extract_lets p s1
  have h1 : s1 = { coresStop (heldInReset s p) p with seqs := x } := hx
  have hc : laneCause s1 p = laneCause s p := by
    rw [h1]
    cases p <;> rfl
  have hn : s1.now = s.now := by
    rw [h1]
    cases p <;> rfl
  rw [hc, hn, h1]

/-- REJOIN_PEER in the active lane. -/
theorem ends_rejoinPeer {s : State} {l : LaneId} (hu : s.lanesUp = true) (ha : s.sup.active = l) (hm : s.sup.laneMode = .single l) :
    Ends (.rejoinPeer l) s fun t =>
      only [.cores, .dog, .seqs] s t ∧ t.sup.laneMode = .rejoin ∧
      t.sup.rejoin = some ⟨l.other, laneCause s l.other, s.now⟩ ∧ t.sup.active = l ∧ (t.lane l.other).live = false ∧
      (t.lane l.other).struck = false ∧ t.lane l = s.lane l ∧
      (∀ c : Fin 8, (t.core l.other c).run = .stopped) := by
  refine ⟨closed s (rejoinStart s), (actUp_up hu _).trans (congrArg (fun x => Host.Outcome.next (closed s x))
    ((laneCtrl_rejoin s l).trans (if_pos ⟨ha, hm⟩))), ?_⟩
  obtain ⟨x, hx⟩ := rejoinStart_eq s
  rw [hx, ha]
  refine ⟨only_closed (only_trans (only_trans (only_trans ?_ (only_coresStop (by decide) _ _)) (only_seqs (by decide) _ x))
    (only_modSup _ fun _ => ⟨rfl, rfl, rfl⟩)), ?_, ?_, ?_, ?_, ?_, ?_, fun c => ?_⟩
  · exact only_modLane_own (by decide) s _ fun x => ⟨x.epoch, false, false, false, x.beat, none, x.wdHalf, rfl⟩
  · rw [closed_sup_laneMode]
    rfl
  · rw [closed_sup_rejoin]
    rfl
  · rw [closed_sup_active]
    exact Eq.trans (by cases l <;> rfl) ha
  · rw [lane_closed]
    cases l <;> rfl
  · rw [lane_closed]
    cases l <;> rfl
  · rw [lane_closed]
    cases l <;> rfl
  · refine (congrArg (fun x : Lane => (tget x.cores c).run) (lane_closed ..)).trans ?_
    exact Eq.trans (by cases l <;> rfl) (run_coresStop (heldInReset s l.other) l.other c)

/-! ### Failures -/

/-- What O34 says of a rejoin of lane `p` that fails. -/
def RejoinFailed (s : State) (p : LaneId) (cause : Nat) (ps : List Part) (t : State) : Prop :=
  only ([.recd, .regs, .events] ++ ps) s t ∧ t.sup.rejoin = none ∧ t.sup.laneMode = .single s.sup.active ∧
    laneCause t p = cause ∧ t.sup.active = s.sup.active ∧ ∀ k, (t.lane k).live = (s.lane k).live

/-- The lane mode and the cause of a rejoin that fails. -/
def rejoinOver (s : State) (p : LaneId) (cause : Nat) : State :=
  setCause (s.modSup fun u => { u with rejoin := none, laneMode := .single u.active }) p cause

/-- What a rejoin's failure has recorded and posted. -/
def rejoinTold (o p : LaneId) (cause : Nat) (s : State) : State :=
  postRunning (record s o .sys 0x13 (leBytes 1 p.num ++ leBytes 1 1 ++ leBytes 2 cause ++ leBytes 2 (s.lane o).epoch)) o 4 (p.num * 256) cause

theorem rejoinFail_eq {s : State} {r : Rejoin} (h : s.sup.rejoin = some r) (cause : Nat) : rejoinFail s cause =
    (rejoinOver s r.lane cause).work (atOnce (rejoinTold (rejoinOver s r.lane cause).sup.active r.lane cause)) := by
  unfold rejoinFail
  rw [h]
  rfl

theorem only_rejoinTold (o p : LaneId) (cause : Nat) (s : State) : only [.recd, .regs, .events] s (rejoinTold o p cause s) :=
  only_trans (only_record (by decide) (by decide) (by decide) _ _ _ _ _) (only_postRunning (by decide) _ _ _ _ _)

theorem rejoinFailed_rejoinFail {s : State} {r : Rejoin} (h : s.sup.rejoin = some r) (cause : Nat) :
    RejoinFailed s r.lane cause [] (rejoinFail s cause) := by
  rw [rejoinFail_eq h]
  have hf := only_atOnce (by decide) (only_rejoinTold (rejoinOver s r.lane cause).sup.active r.lane cause (rejoinOver s r.lane cause).hushed)
  have hs := sup_work hf (by decide)
  generalize r.lane = p at hf hs
  have hover : only [.recd, .regs, .events] s (rejoinOver s p cause) :=
    only_trans (only_modSup _ fun _ => ⟨rfl, rfl, rfl⟩) (only_modSup _ fun _ => by cases p <;> exact ⟨rfl, rfl, rfl⟩)
  refine ⟨only_trans hover (only_keep hf), ?_, ?_, ?_, ?_, fun k => ?_⟩
  · rw [hs]; cases p <;> rfl
  · rw [hs]; cases p <;> rfl
  · rw [laneCause_eq hs]; cases p <;> rfl
  · rw [hs]; cases p <;> rfl
  · rw [State.work, live_keep]
    cases p <;> cases k <;> rfl

section
variable {s q : State} {p : LaneId} {cause : Nat}

/-- What was done before the failure may have changed further parts. -/
theorem RejoinFailed.after {t : State} (h : RejoinFailed q p cause [] t) (hq : only ([.recd, .regs, .events] ++ ps) s q)
    (hsup : q.sup = s.sup) (hlive : ∀ k, (q.lane k).live = (s.lane k).live) : RejoinFailed s p cause ps t := by
  obtain ⟨h1, h2, h3, h4, h5, h6⟩ := h
  rw [hsup] at h3 h5
  exact ⟨only_trans hq (only_mono h1 fun x hx => List.mem_append_left ps hx), h2, h3, h4, h5, fun k => (h6 k).trans (hlive k)⟩

theorem RejoinFailed.closed {t : State} (h : RejoinFailed s p cause ps t) (r : State) : RejoinFailed s p cause ps (closed r t) := by
  obtain ⟨h1, h2, h3, h4, h5, h6⟩ := h
  refine ⟨only_trans h1 (only_closed_self r t), ?_, ?_, ?_, ?_, fun k => ?_⟩
  · simpa using h2
  · simpa using h3
  · rw [laneCause_closed, h4]
  · simpa using h5
  · rw [lane_closed, h6]

end

section
variable {s : State} {r : Rejoin} (hr : s.sup.rejoin = some r)
include hr

/-- A rejoin that fails after an uncorrectable error has been counted. -/
theorem rejoinFailed_counted (beat : Nat) (cause : Nat) :
    RejoinFailed s r.lane cause [] (rejoinFail (s.work fun s => eccCount s beat) cause) := by
  obtain ⟨x, hx, he⟩ := work_eccCount s beat
  have hc : only ([.recd, .regs, .events] ++ []) s { s with sregs := x } := by
    rw [← he]
    exact only_trans (only_scount (by decide) _ _ _ _) (only_sputf (by decide) _ _ _ _ _ _)
  rw [hx]
  exact (rejoinFailed_rejoinFail (s := { s with sregs := x }) hr cause).after hc rfl fun k => by cases k <;> rfl

variable (hu : s.lanesUp = true)
include hu

theorem ends_rejoinTestFault : Ends .rejoinTestFault s (RejoinFailed s r.lane (if r.cause = 1 ∨ r.cause = 2 then 2 else 5) []) := by
  have he : exec .rejoinTestFault s = actUp s (rejoinFail s (if r.cause = 1 ∨ r.cause = 2 then 2 else 5)) := by
    change execRejoinTestFault s = _
    unfold execRejoinTestFault
    rw [hr]
  exact ⟨_, he.trans (actUp_up hu _), (rejoinFailed_rejoinFail hr _).closed s⟩

theorem ends_rejoinTimeout (ht : r.start + 250000000 ≤ s.now) : Ends .rejoinTimeout s (RejoinFailed s r.lane r.cause []) := by
  have he : exec .rejoinTimeout s = actUp s (rejoinFail s r.cause) := by
    change execRejoinTimeout s = _
    unfold execRejoinTimeout
    rw [hr]
    exact congrArg (actUp s) (if_pos ht)
  exact ⟨_, he.trans (actUp_up hu _), (rejoinFailed_rejoinFail hr _).closed s⟩

theorem ends_eccMirror (beat : BitVec 26) : Ends (.eccUncorrectable (.mirror beat)) s (RejoinFailed s r.lane 2 [.dq]) := by
  have he : exec (.eccUncorrectable (.mirror beat)) s =
      .next (closed s (rejoinFail (({ s with dq := s.dq.spoil beat.toNat } : State).work fun s => eccCount s beat.toNat) 2)) := by
    refine (actOn_lit (not_dark_of_up hu) _).trans (congrArg (fun t => Host.Outcome.next (closed s t)) (if_pos ?_))
    change (s.lanesUp && s.sup.rejoin.isSome) = true
    rw [hu, hr]
    rfl
  have hf := rejoinFailed_counted (s := { s with dq := s.dq.spoil beat.toNat }) hr beat.toNat 2
  exact ⟨_, he, (hf.after (only_dq (by decide) s _) rfl fun k => by cases k <;> rfl).closed s⟩

end

/-! ### The catch-up -/

/-- The rejoining lane `p` with the state of lane `o`. -/
def laneCopied (s : State) (o p : LaneId) : State :=
  s.modLane p fun _ => { s.lane o with shdrop := 0, struck := false, live := true, ready := true, beat := some s.now, wdEnd := none }

/-- The GiB of lane `p` with the content of that of lane `o`. -/
def gibCopied (s : State) (o p : LaneId) : State :=
  { s with dram := tset s.dram (2 + p.num) (s.gib (2 + o.num)), dq := s.dq.heal (2 + p.num) 0 (2 ^ 30) }

/-- The journal of lane `p` with the content of the other. -/
def journalCopied (s : State) (p : LaneId) : State :=
  { s with recd := match p with
    | .a => { s.recd with bufA := s.recd.bufB }
    | .b => { s.recd with bufB := s.recd.bufA } }

/-- The streams whose jobs are to be delivered again. -/
def jobsAgain (s : State) (o : LaneId) : State :=
  let again (n : Nat) (y : HStream) : HStream := if unitLane (strGet s n 4) o then y else { y with jobs := y.replay }
  s.both fun l t => t.modLane l fun x => { x with strs := tmap x.strs again }

/-- The command number of lane `p` at a sequencer, that of the other lane. -/
def numCopied (p : LaneId) (q : Seq) : Seq :=
  match p with
  | .a => { q with numA := q.numB, pastA := 0 }
  | .b => { q with numB := q.numA, pastB := 0 }

/-- The command numbers of lane `p` at every sequencer. -/
def numsCopied (s : State) (p : LaneId) : State := (List.range 62).foldl (fun s n => s.modSeq n (numCopied p)) s

/-- The state in which what the sequencers have received is taken from the links of lane `o`. -/
def delivered (s : State) (o : LaneId) : State := s.work fun s => (List.range 62).foldl (fun s n => deliverAll s o n) s

/-- What is copied beside the lane. -/
def restCopied (o p : LaneId) (s : State) : State :=
  wdStart (linksClear (linksClear (numsCopied (jobsAgain (journalCopied (gibCopied s o p) p) o) p) p) o) p

theorem mirrorCopy_eq (s : State) (o p : LaneId) :
    mirrorCopy s o p = (laneCopied (delivered s o) o p).work (restCopied o p) := by
  cases p <;> rfl

theorem only_wdStart (h : Part.dog ∈ ps) (s : State) (l : LaneId) : only ps s (wdStart s l) :=
  only_ite _ (only_modLane_own h s l fun x => ⟨x.epoch, x.live, x.ready, x.struck, x.beat, some _, x.wdHalf, rfl⟩) (only_refl _ s)

theorem only_linksCleared (o p : LaneId) (s : State) : only [.seqs, .dog] s (wdStart (linksClear (linksClear s p) o) p) :=
  only_trans (only_trans (only_linksClear (by decide) s p) (only_linksClear (by decide) _ o)) (only_wdStart (by decide) _ p)

theorem only_jobsAgain (h : Part.strs ∈ ps) (s : State) (o : LaneId) : only ps s (jobsAgain s o) :=
  only_both _ (fun l t => only_lane_strs h t l _) s

theorem only_gibCopied (s : State) (o p : LaneId) : only [.dram, .dq] s (gibCopied s o p) :=
  by
  have h : only [.dram, .dq] s { s with dram := tset s.dram (2 + p.num) (s.gib (2 + o.num)) } := only_dram (by decide) s _
  exact only_trans h (only_dq (by decide) _ _)

/-- The GiB of the rejoining lane stays as it was copied. -/
theorem only_restCopied_gib (o p : LaneId) (s : State) : only [.recd, .strs, .seqs, .dog] (gibCopied s o p) (restCopied o p s) :=
  have hj : only [.recd, .strs, .seqs, .dog] (gibCopied s o p) (journalCopied (gibCopied s o p) p) := only_recd (by decide) _ _
  have hn : only [.recd, .strs, .seqs, .dog] (journalCopied (gibCopied s o p) p) (numsCopied (jobsAgain (journalCopied (gibCopied s o p) p) o) p) :=
    only_trans (only_jobsAgain (by decide) _ o) (only_foldl _ (fun s n => only_modSeq (by decide) s n _) _ _)
  only_trans (only_trans hj hn) (only_mono (only_linksCleared o p _) (by decide))

theorem only_restCopied (o p : LaneId) (s : State) : only [.dram, .dq, .recd, .strs, .seqs, .dog] s (restCopied o p s) :=
  only_trans (only_mono (only_gibCopied s o p) (by decide)) (only_mono (only_restCopied_gib o p s) (by decide))

theorem num_numsCopied (s : State) (p : LaneId) (n : Fin 62) :
    ((numsCopied s p).seq n).numA = ((numsCopied s p).seq n).numB :=
  seq_foldl_sets (P := fun q => q.numA = q.numB) (fun q => by cases p <;> rfl) _ s (List.mem_range.2 n.isLt)

theorem num_restCopied (o p : LaneId) (s : State) (n : Fin 62) :
    ((restCopied o p s).seq n).numA = ((restCopied o p s).seq n).numB := by
  have h := num_linksClear o (num_linksClear p (num_numsCopied (jobsAgain (journalCopied (gibCopied s o p) p) o) p n))
  have hs (t : State) : (wdStart t p).seq n = t.seq n :=
    congrArg (fun x : Tab Seq => tget x n) (only_wdStart (ps := [.dog]) (by decide) t p .seqs (by decide))
  unfold restCopied
  rw [hs]
  exact h

/-- The supervisor's fields at the end of a rejoin. -/
def pairAgain (s : State) (since : Nat) : State :=
  s.modSup fun u => { u with
    rejoin := none, laneMode := .dual, startCause := 7, startUs := startDur s since, retrain := false, imgNew := false
    cfgNew := false, unclean := false }

/-- What the end of a rejoin has recorded and posted. -/
def pairTold (r : Rejoin) (e : Nat) (s : State) : State :=
  let s := record (recStart s) r.lane.other .sys 0x13 (leBytes 1 r.lane.num ++ leBytes 1 0 ++ leBytes 2 r.cause ++ leBytes 2 e)
  postRunning s r.lane.other 3 (r.lane.num * 256) e

/-- A rejoin that reaches its end. -/
def caughtUp (r : Rejoin) (s : State) : State :=
  let t := pairAgain (mirrorCopy s r.lane.other r.lane) r.start
  t.work (atOnce (pairTold r (t.lane r.lane.other).epoch))

theorem only_pairTold (r : Rejoin) (e : Nat) (s : State) : only [.recd, .regs, .events] s (pairTold r e s) :=
  only_trans (only_trans (only_record (by decide) (by decide) (by decide) _ _ _ _ _) (only_record (by decide) (by decide) (by decide) _ _ _ _ _))
    (only_postRunning (by decide) _ _ _ _ _)

section
variable {s : State} {r : Rejoin} (hr : s.sup.rejoin = some r)
include hr

theorem exec_rejoinCatchUp : exec .rejoinCatchUp s = actUp s
    (if !(s.lane r.lane.other).live || someFiring s r.lane.other || decide (r.start + ms 1000 ≤ s.now) || rqBlocked s 10 then s
      else match s.dq.bad.find? (beatIn (2 + r.lane.other.num) 0 (2 ^ 30)) with
      | some b => rejoinFail (s.work fun s => eccCount s b) 2
      | none => caughtUp r s) := by
  change execRejoinCatchUp s = _
  unfold execRejoinCatchUp
  rw [hr]
  rfl

/-- No catch-up while an entry fires or the mirror is granted nothing. -/
theorem exec_rejoinCatchUp_blocked (hu : s.lanesUp = true) (h : someFiring s r.lane.other = true ∨ rqBlocked s 10 = true) :
    exec .rejoinCatchUp s = .next s := by
  have hc : closed s s = s := modeStep_self s
  rw [exec_rejoinCatchUp hr, actUp_up hu, if_pos, hc]
  rcases h with h | h <;> simp [h]

variable (hu : s.lanesUp = true) (hl : (s.lane r.lane.other).live = true) (hf : someFiring s r.lane.other = false)
  (ht : s.now < r.start + 250000000) (hb : rqBlocked s 10 = false)
include hu hl hf ht hb

theorem exec_rejoinCatchUp_starts : exec .rejoinCatchUp s = .next (closed s
    (match s.dq.bad.find? (beatIn (2 + r.lane.other.num) 0 (2 ^ 30)) with
      | some b => rejoinFail (s.work fun s => eccCount s b) 2
      | none => caughtUp r s)) := by
  have hd : ¬ r.start + ms 1000 ≤ s.now := Nat.not_le.2 ht
  rw [exec_rejoinCatchUp hr, actUp_up hu, if_neg]
  simp [hl, hf, hb, hd]

/-- A bad beat in the GiB that is copied. -/
theorem ends_rejoinCatchUp_bad (h : ∃ b ∈ s.dq.bad, beatIn (2 + r.lane.other.num) 0 (2 ^ 30) b = true) :
    Ends .rejoinCatchUp s (RejoinFailed s r.lane 2 []) := by
  obtain ⟨b, hb'⟩ := Option.isSome_iff_exists.1 (List.find?_isSome.2 h)
  refine ⟨_, exec_rejoinCatchUp_starts hr hu hl hf ht hb, ?_⟩
  rw [hb']
  exact (rejoinFailed_counted hr b 2).closed s

end

/-- What O34 says of a rejoin of the other lane of `l` that reaches its end. -/
def Rejoined (s : State) (l : LaneId) (t : State) : Prop :=
  t.sup.rejoin = none ∧ t.sup.laneMode = .dual ∧ t.sup.startCause = 7 ∧ t.sup.active = s.sup.active ∧
    (t.lane l.other).live = true ∧ (t.lane l.other).struck = false ∧ (t.lane l.other).epoch = (s.lane l).epoch ∧
    (t.lane l).epoch = (s.lane l).epoch ∧ (t.lane l.other).sram = (t.lane l).sram ∧
    (t.lane l.other).lmem = (t.lane l).lmem ∧ t.gib (2 + l.other.num) = t.gib (2 + l.num) ∧
    (t.lane l.other).hy = (t.lane l).hy ∧ (t.lane l.other).entries = (t.lane l).entries ∧
    (∀ n : Fin 62, (t.seq n).numA = (t.seq n).numB)

/-- The lane that is copied, and what its copy agrees with it in. -/
theorem lanes_laneCopied (q : State) (l : LaneId) :
    (laneCopied q l l.other).lane l = q.lane l ∧ (laneCopied q l l.other).lane l.other =
      { q.lane l with shdrop := 0, struck := false, live := true, ready := true, beat := some q.now, wdEnd := none } := by
  cases l <;> exact ⟨rfl, rfl⟩

theorem gib_gibCopied (q : State) (l : LaneId) : (gibCopied q l l.other).gib (2 + l.other.num) = (gibCopied q l l.other).gib (2 + l.num) := by
  have hn : 2 + l.num ≠ 2 + l.other.num := by cases l <;> decide
  unfold gibCopied State.gib
  dsimp only
  rw [tget_tset_same, tget_tset_ne _ hn]

section
variable (s : State) (l : LaneId)

/-- The pair as `mirrorCopy` leaves it: what the two lanes hold of memories is the copy's. -/
theorem only_mirrorCopy : only [.dram, .dq, .recd, .strs, .seqs, .dog] (laneCopied (delivered s l) l l.other) (mirrorCopy s l l.other) := by
  rw [mirrorCopy_eq]
  exact only_keep (only_restCopied l l.other _)

theorem active_mirrorCopy : (mirrorCopy s l l.other).sup.active = s.sup.active := by
  rw [mirrorCopy_eq]
  exact (congrArg Sup.active (State.modLane_sup (delivered s l) l.other _) : (laneCopied (delivered s l) l l.other).sup.active = _)

theorem gib_mirrorCopy : (mirrorCopy s l l.other).gib (2 + l.other.num) = (mirrorCopy s l l.other).gib (2 + l.num) := by
  have h : (mirrorCopy s l l.other).dram = (gibCopied (laneCopied (delivered s l) l l.other) l l.other).dram := by
    rw [mirrorCopy_eq]
    exact only_restCopied_gib l l.other _ .dram (by decide)
  unfold State.gib
  rw [h]
  exact gib_gibCopied _ l

theorem num_mirrorCopy (n : Fin 62) : ((mirrorCopy s l l.other).seq n).numA = ((mirrorCopy s l l.other).seq n).numB := by
  rw [mirrorCopy_eq]
  exact num_restCopied l l.other _ n

theorem epoch_mirrorCopy (k : LaneId) : ((mirrorCopy s l l.other).lane k).epoch = (s.lane l).epoch := by
  obtain ⟨h1, h2⟩ := lanes_laneCopied (delivered s l) l
  have hd : ((delivered s l).lane l).epoch = (s.lane l).epoch := epoch_keep ..
  rw [mirrorCopy_eq, State.work, epoch_keep]
  rcases lane_or_other l k with rfl | rfl
  · rw [h1, hd]
  · rw [h2, ← hd]

theorem healthy_mirrorCopy : ((mirrorCopy s l l.other).lane l.other).live = true ∧
    ((mirrorCopy s l l.other).lane l.other).struck = false := by
  rw [mirrorCopy_eq, State.work, live_keep, struck_keep, (lanes_laneCopied (delivered s l) l).2]
  exact ⟨rfl, rfl⟩

end

/-- The last step of a rejoin leaves what was copied. -/
theorem rejoined_caughtUp {s : State} {r : Rejoin} {l : LaneId} (h : r.lane = l.other) : Rejoined s l (caughtUp r s) := by
  have hl : r.lane.other = l := by rw [h, other_other]
  unfold caughtUp
  rw [hl, h]
  extract_lets t
  have hold : only [.recd, .regs, .events] t (atOnce (pairTold r (t.lane l).epoch) t) := only_atOnce (by decide) (only_pairTold r _ _)
  have hsup := sup_work hold (by decide)
  have hcopy : only [.dram, .dq, .recd, .strs, .seqs, .dog, .regs, .events] (laneCopied (delivered s l) l l.other)
      (t.work (atOnce (pairTold r (t.lane l).epoch))) :=
    only_trans (only_trans (only_mono (only_mirrorCopy s l) (by decide)) (only_modSup _ fun _ => ⟨rfl, rfl, rfl⟩))
      (only_mono (only_keep hold) (by decide))
  have hlane (k : LaneId) : t.lane k = (mirrorCopy s l l.other).lane k := lane_modSup ..
  obtain ⟨h1, h2⟩ := lanes_laneCopied (delivered s l) l
  obtain ⟨hlive, hstruck⟩ := healthy_mirrorCopy s l
  refine ⟨?_, ?_, ?_, ?_, ?_, ?_, ?_, ?_, ?_, ?_, ?_, ?_, ?_, fun n => ?_⟩
  · rw [hsup]; rfl
  · rw [hsup]; rfl
  · rw [hsup]; rfl
  · rw [hsup]; exact active_mirrorCopy s l
  · rw [State.work, live_keep, hlane, hlive]
  · rw [State.work, struck_keep, hlane, hstruck]
  · rw [State.work, epoch_keep, hlane, epoch_mirrorCopy]
  · rw [State.work, epoch_keep, hlane, epoch_mirrorCopy]
  · rw [hcopy .sram (by decide), hcopy .sram (by decide), h1, h2]
  · rw [hcopy .lmem (by decide), hcopy .lmem (by decide), h1, h2]
  · have hd : (t.work (atOnce (pairTold r (t.lane l).epoch))).dram = (mirrorCopy s l l.other).dram := only_keep hold .dram (by decide)
    unfold State.gib
    rw [hd]
    exact gib_mirrorCopy s l
  · rw [hcopy .hy (by decide), hcopy .hy (by decide), h1, h2]
  · rw [hcopy .entries (by decide), hcopy .entries (by decide), h1, h2]
  · have hs : (t.work (atOnce (pairTold r (t.lane l).epoch))).seqs = (mirrorCopy s l l.other).seqs := only_keep hold .seqs (by decide)
    unfold State.seq
    rw [hs]
    exact num_mirrorCopy s l n

theorem Rejoined.closed {s t : State} {l : LaneId} (h : Rejoined s l t) (r : State) : Rejoined s l (closed r t) := by
  have hg (n : Nat) : (Machine.closed r t).gib n = t.gib n := by simp [State.gib]
  have hq (n : Nat) : (Machine.closed r t).seq n = t.seq n := by simp [State.seq]
  have hc : (Machine.closed r t).sup.startCause = t.sup.startCause := by simp
  unfold Rejoined
  simp only [lane_closed, hg, hq, hc, closed_sup_rejoin, closed_sup_laneMode, closed_sup_active]
  exact h

/-- A catch-up that can begin and meets no bad beat. -/
theorem ends_rejoinCatchUp {s : State} {r : Rejoin} {l : LaneId} (hr : s.sup.rejoin = some r) (h : r.lane = l.other) (hu : s.lanesUp = true)
    (hl : (s.lane l).live = true) (hf : someFiring s l = false) (ht : s.now < r.start + 250000000) (hb : rqBlocked s 10 = false)
    (hd : ∀ b ∈ s.dq.bad, beatIn (2 + l.num) 0 (2 ^ 30) b = false) : Ends .rejoinCatchUp s (Rejoined s l) := by
  have ho : r.lane.other = l := by rw [h, other_other]
  have hfind : s.dq.bad.find? (beatIn (2 + l.num) 0 (2 ^ 30)) = none := List.find?_eq_none.2 fun b hb' => by rw [hd b hb']; decide
  refine ⟨_, exec_rejoinCatchUp_starts hr hu (by rw [ho]; exact hl) (by rw [ho]; exact hf) ht hb, ?_⟩
  rw [ho, hfind]
  exact (rejoined_caughtUp h).closed s

/-- Settles O34: a failed rejoin changes what the supervisor holds and what is told; a catch-up copies the lane, and nothing after it
touches the copy. -/
theorem rejoin : Obligations.Rejoin := by
  unfold Obligations.Rejoin
  intro s l hu
  refine ⟨fun ha hm => ends_rejoinPeer hu ha hm, fun h => ?_, fun hl ho => ?_, fun r hr hp => ?_⟩
  · exact endsIn_laneCtrl_reject hu (congrArg (actUp s) ((laneCtrl_rejoin s l).trans (if_neg h)))
  · exact endsIn_laneCtrl_reject hu (congrArg (actUp s) (laneCtrl_failSelf_only hl ((onlyLive_iff s l).2 (ho.imp_right .inl))))
  · intro failed
    have ho : r.lane.other = l := by rw [hp, other_other]
    have fails {i : Instr} {cause : Nat} {ps : List Part} (h : Ends i s (RejoinFailed s r.lane cause ps)) : failed i cause ps := by
      rw [hp] at h
      exact h
    refine ⟨fails (ends_rejoinTestFault hr hu), fun ht => fails (ends_rejoinTimeout hr hu ht), fun beat => fails (ends_eccMirror hr hu beat),
      fun h => exec_rejoinCatchUp_blocked hr hu (ho.symm ▸ h), ?_⟩
    intro starts
    refine ⟨fun ⟨hl, hf, ht, hb⟩ h => fails ?_, fun ⟨hl, hf, ht, hb⟩ h => ends_rejoinCatchUp hr hp hu hl hf ht hb h⟩
    exact ends_rejoinCatchUp_bad hr hu (by rw [ho]; exact hl) (by rw [ho]; exact hf) ht hb (by rw [ho]; exact h)

end Sys2Proof.Machine
end

section
/-! PROOFS. A core whose outstanding loads return (R77): what that leaves of the core, and when it changes nothing. -/

namespace Sys2Proof.Machine

/-! ### The return of loads -/

theorem Core.settle1_eq (c : Core) (r : Nat) :
    ∃ v, c.settle1 r = { c with v := v, loads := c.loads.filter fun q => q.dst != r } := by
  unfold Core.settle1
  split
  next p _ => exact ⟨_, rfl⟩
  next h =>
    have hq : (c.loads.filter fun q => q.dst != r) = c.loads :=
      List.filter_eq_self.2 fun q hq => by simpa using List.find?_eq_none.1 h q hq
    exact ⟨c.v, by rw [hq]⟩

theorem Core.settle1_of_not_owed {c : Core} {r : Nat} (h : ∀ q ∈ c.loads, q.dst ≠ r) : c.settle1 r = c := by
  have hn : (c.loads.find? fun p => p.dst == r) = none := List.find?_eq_none.2 fun q hq => by simpa using h q hq
  rw [Core.settle1, hn]

@[simp] theorem Core.settle1_settle1 (c : Core) (r : Nat) : (c.settle1 r).settle1 r = c.settle1 r := by
  obtain ⟨v, h⟩ := c.settle1_eq r
  refine Core.settle1_of_not_owed fun q hq => ?_
  rw [h] at hq
  simpa using (List.mem_filter.1 hq).2

theorem Core.settle_cons (c : Core) (r : Nat) (rs : List Nat) : c.settle (r :: rs) = (c.settle1 r).settle rs := rfl

/-- A register that is named twice is awaited once. -/
theorem Core.settle_dup (c : Core) (r : Nat) (rs : List Nat) : c.settle (r :: r :: rs) = c.settle (r :: rs) := by
  simp only [Core.settle_cons, Core.settle1_settle1]

theorem Core.settleAll_eq (c : Core) : c.settleAll = c.settle (c.loads.map PendLoad.dst) := rfl

/-- Loads that return change the value registers, and are no longer outstanding. -/
theorem Core.settle_eq (c : Core) (rs : List Nat) :
    ∃ v q, c.settle rs = { c with v := v, loads := q } ∧ ∀ p ∈ q, p ∈ c.loads ∧ p.dst ∉ rs := by
  induction rs generalizing c with
  | nil => exact ⟨c.v, c.loads, rfl, fun p hp => ⟨hp, List.not_mem_nil⟩⟩
  | cons r rs ih =>
    obtain ⟨v, h⟩ := c.settle1_eq r
    obtain ⟨w, q, hq, hl⟩ := ih (c.settle1 r)
    refine ⟨w, q, by rw [Core.settle_cons, hq, h], fun p hp => ?_⟩
    obtain ⟨hc, hn⟩ := hl p hp
    rw [h] at hc
    obtain ⟨hm, hr⟩ := List.mem_filter.1 hc
    exact ⟨hm, by simpa [hn] using hr⟩

section
variable (c : Core) (rs : List Nat)

@[simp] theorem Core.settle_run : (c.settle rs).run = c.run := by obtain ⟨v, q, h, -⟩ := c.settle_eq rs; rw [h]
@[simp] theorem Core.settle_pc : (c.settle rs).pc = c.pc := by obtain ⟨v, q, h, -⟩ := c.settle_eq rs; rw [h]
@[simp] theorem Core.settle_algn : (c.settle rs).algn = c.algn := by obtain ⟨v, q, h, -⟩ := c.settle_eq rs; rw [h]
@[simp] theorem Core.settle_trap : (c.settle rs).trap = c.trap := by obtain ⟨v, q, h, -⟩ := c.settle_eq rs; rw [h]
@[simp] theorem Core.settle_tcause : (c.settle rs).tcause = c.tcause := by obtain ⟨v, q, h, -⟩ := c.settle_eq rs; rw [h]
@[simp] theorem Core.settle_tpc : (c.settle rs).tpc = c.tpc := by obtain ⟨v, q, h, -⟩ := c.settle_eq rs; rw [h]
@[simp] theorem Core.settle_tval : (c.settle rs).tval = c.tval := by obtain ⟨v, q, h, -⟩ := c.settle_eq rs; rw [h]
@[simp] theorem Core.settle_tvec : (c.settle rs).tvec = c.tvec := by obtain ⟨v, q, h, -⟩ := c.settle_eq rs; rw [h]
@[simp] theorem Core.settle_stores : (c.settle rs).stores = c.stores := by obtain ⟨v, q, h, -⟩ := c.settle_eq rs; rw [h]
@[simp] theorem Core.settleAll_run : c.settleAll.run = c.run := c.settle_run _
@[simp] theorem Core.settleAll_pc : c.settleAll.pc = c.pc := c.settle_pc _
@[simp] theorem Core.settleAll_trap : c.settleAll.trap = c.trap := c.settle_trap _
@[simp] theorem Core.settleAll_tcause : c.settleAll.tcause = c.tcause := c.settle_tcause _
@[simp] theorem Core.settleAll_tpc : c.settleAll.tpc = c.tpc := c.settle_tpc _
@[simp] theorem Core.settleAll_tval : c.settleAll.tval = c.tval := c.settle_tval _
@[simp] theorem Core.settleAll_tvec : c.settleAll.tvec = c.tvec := c.settle_tvec _
@[simp] theorem Core.settleAll_stores : c.settleAll.stores = c.stores := c.settle_stores _

end

@[simp] theorem Core.settleAll_loads (c : Core) : c.settleAll.loads = [] := by
  obtain ⟨v, q, h, hl⟩ := c.settle_eq (c.loads.map PendLoad.dst)
  rw [Core.settleAll_eq, h]
  refine List.eq_nil_iff_forall_not_mem.2 fun p hp => ?_
  obtain ⟨hm, hn⟩ := hl p hp
  exact hn (List.mem_map_of_mem hm)

@[simp] theorem Core.settleAll_settleAll (c : Core) : c.settleAll.settleAll = c.settleAll := by
  rw [Core.settleAll_eq c.settleAll, Core.settleAll_loads]
  rfl

end Sys2Proof.Machine
end

section
/-! PROOFS. Arithmetic on words and numbers as the rows of R58 to R68 say it. -/

namespace Sys2Proof.Machine

/-! ### Saturation -/

theorem clampI_eq {lo hi : Int} (h : lo ≤ hi) (x : Int) : clampI lo hi x = max lo (min hi x) := by
  unfold clampI
  split
  next => omega
  next => split <;> omega

theorem clampI_ne {lo hi : Int} (h : lo ≤ hi) (x : Int) : (clampI lo hi x != x) = decide (x < lo ∨ hi < x) := by
  rw [clampI_eq h, bne, beq_eq_decide, ← decide_not]
  exact decide_eq_decide.2 (by omega)

theorem satI_16 (x : Int) : satI 16 x = max (-32768) (min 32767 x) := clampI_eq (by decide) x
theorem satI_32 (x : Int) : satI 32 x = max (-2147483648) (min 2147483647 x) := clampI_eq (by decide) x
theorem satI_40 (x : Int) : satI 40 x = max (-549755813888) (min 549755813887 x) := clampI_eq (by decide) x
theorem clampsI_16 (x : Int) : clampsI 16 x = decide (x < -32768 ∨ 32767 < x) := clampI_ne (by decide) x
theorem clampsI_32 (x : Int) : clampsI 32 x = decide (x < -2147483648 ∨ 2147483647 < x) := clampI_ne (by decide) x
theorem clampsI_40 (x : Int) : clampsI 40 x = decide (x < -549755813888 ∨ 549755813887 < x) := clampI_ne (by decide) x

/-! ### The lesser and the greater -/

theorem ite_le_lt {α β : Type} [LinearOrder β] (f : α → β) (x y : α) :
    (if f x ≤ f y then x else y) = if f y < f x then y else x := by
  by_cases h : f x ≤ f y
  · rw [if_pos h, if_neg (not_lt.2 h)]
  · rw [if_neg h, if_pos (not_le.1 h)]

theorem ite_le_lt_swap {α β : Type} [LinearOrder β] {f : α → β} (hf : ∀ {x y}, f x = f y → x = y) (x y : α) :
    (if f x ≤ f y then y else x) = if f x < f y then y else x := by
  rcases lt_trichotomy (f x) (f y) with h | h | h
  · rw [if_pos h.le, if_pos h]
  · rw [hf h, ite_self, ite_self]
  · rw [if_neg (not_le.2 h), if_neg (not_lt.2 h.le)]

/-! ### Sums, differences, products -/

theorem word_sub_eq (x y : Word) : x - y = BitVec.ofInt 32 (x.toInt - y.toInt) :=
  BitVec.eq_of_toInt_eq (by rw [BitVec.toInt_sub, BitVec.toInt_ofInt])

theorem word_mul_eq (x y : Word) : x * y = BitVec.ofInt 32 (x.toInt * y.toInt) := by
  rw [BitVec.ofInt_mul, BitVec.ofInt_toInt, BitVec.ofInt_toInt]

theorem i32_high (p : Int) : i32 (p / 2 ^ 32) = (BitVec.ofInt 64 p).extractLsb' 32 32 := by
  refine BitVec.eq_of_toNat_eq ?_
  rw [i32, BitVec.toNat_ofInt, BitVec.extractLsb'_toNat, BitVec.toNat_ofInt, Nat.shiftRight_eq_div_pow]
  omega

theorem u32_high (p : Nat) : u32 (p / 2 ^ 32) = (BitVec.ofNat 64 p).extractLsb' 32 32 := by
  refine BitVec.eq_of_toNat_eq ?_
  rw [u32, BitVec.toNat_ofNat, BitVec.extractLsb'_toNat, BitVec.toNat_ofNat, Nat.shiftRight_eq_div_pow]
  omega

/-! ### Shifts -/

theorem word_shl_eq (x : Word) (n : Nat) : x <<< n = BitVec.ofNat 32 (x.toNat * 2 ^ n) :=
  BitVec.eq_of_toNat_eq (by rw [BitVec.toNat_shiftLeft, BitVec.toNat_ofNat, Nat.shiftLeft_eq])

theorem word_shr_eq (x : Word) (n : Nat) : x >>> n = BitVec.ofNat 32 (x.toNat / 2 ^ n) := by
  refine BitVec.eq_of_toNat_eq ?_
  have h : x.toNat / 2 ^ n < 2 ^ 32 := lt_of_le_of_lt (Nat.div_le_self _ _) x.isLt
  rw [BitVec.toNat_ushiftRight, BitVec.toNat_ofNat, Nat.shiftRight_eq_div_pow, Nat.mod_eq_of_lt h]

theorem sshiftRight_eq_ofInt {w : Nat} (x : BitVec w) (n : Nat) : x.sshiftRight n = BitVec.ofInt w (x.toInt / 2 ^ n) := by
  rw [BitVec.sshiftRight_eq, Int.shiftRight_eq_div_pow]
  rfl

theorem word_ror_eq (x : Word) {n : Nat} (h : n < 32) : x.rotateRight n = x >>> n ||| x <<< (32 - n) := by
  rw [BitVec.rotateRight_def, Nat.mod_eq_of_lt h]

/-! ### Quotients -/

theorem i32_tdiv (x y : Word) : i32 (x.toInt.tdiv y.toInt) = x.sdiv y :=
  BitVec.eq_of_toInt_eq (by rw [i32, BitVec.toInt_ofInt, BitVec.toInt_sdiv])

theorem i32_tmod (x y : Word) : i32 (x.toInt.tmod y.toInt) = x.srem y := by
  rw [i32, ← BitVec.toInt_srem, BitVec.ofInt_toInt]

theorem u32_of_toNat (x : Word) : u32 x.toNat = x := by rw [u32, BitVec.ofNat_toNat, BitVec.setWidth_eq]

/-- A number that fits a narrower word, extended by zeros. -/
theorem u32_narrow {w v : Nat} (hv : v < 2 ^ w) : (BitVec.ofNat w v).setWidth 32 = u32 v := by
  rw [← BitVec.ofNat_toNat, BitVec.toNat_ofNat, Nat.mod_eq_of_lt hv, u32]

theorem u32_div (x y : Word) : u32 (x.toNat / y.toNat) = x / y := by rw [← BitVec.toNat_udiv, u32_of_toNat]

theorem u32_mod (x y : Word) : u32 (x.toNat % y.toNat) = x % y := by rw [← BitVec.toNat_umod, u32_of_toNat]

/-! ### Leading zeros and extensions -/

theorem clzN_eq (n x : Nat) (h : x < 2 ^ n) : clzN n x = if x = 0 then n else n - 1 - x.log2 := by
  induction n with
  | zero => simp_all [clzN]
  | succ n ih =>
    rw [clzN]
    by_cases hx : x = 0
    · subst hx
      rw [if_pos (Nat.two_pow_pos n), ih (Nat.two_pow_pos n), if_pos rfl, if_pos rfl, Nat.add_comm]
    · by_cases hn : x < 2 ^ n
      · have hl : x.log2 < n := (Nat.log2_lt hx).2 hn
        rw [if_pos hn, ih hn, if_neg hx, if_neg hx]
        omega
      · have hl : ¬ x.log2 < n := fun k => hn ((Nat.log2_lt hx).1 k)
        rw [if_neg hn, if_neg hx]
        omega

theorem u32_clz (x : Word) : u32 (clzN 32 x.toNat) = if x = 0 then 32 else BitVec.ofNat 32 (31 - x.toNat.log2) := by
  rw [clzN_eq 32 _ x.isLt]
  by_cases h : x = 0
  · subst h
    rfl
  · have hx : x.toNat ≠ 0 := fun k => h (BitVec.eq_of_toNat_eq k)
    rw [if_neg hx, if_neg h]
    rfl

/-! ### Immediates -/

theorem eq_ofNat_of_toNat {x : Word} {n : Nat} (h : x.toNat = n) : x = BitVec.ofNat 32 n := by
  rw [← h]
  exact (u32_of_toNat x).symm

theorem addi_eq (x : Word) (k : BitVec 12) : x + sx12 k = BitVec.ofInt 32 (x.toInt + k.toInt) := by
  rw [BitVec.ofInt_add, BitVec.ofInt_toInt]
  rfl

theorem toNat_zx12 (k : BitVec 12) : (zx12 k).toNat = k.toNat := by
  rw [zx12, BitVec.toNat_setWidth]
  omega

theorem andi_eq (x : Word) (k : BitVec 12) : x &&& zx12 k = BitVec.ofNat 32 (x.toNat &&& k.toNat) :=
  eq_ofNat_of_toNat (by rw [BitVec.toNat_and, toNat_zx12])

theorem ori_eq (x : Word) (k : BitVec 12) : x ||| zx12 k = BitVec.ofNat 32 (x.toNat ||| k.toNat) :=
  eq_ofNat_of_toNat (by rw [BitVec.toNat_or, toNat_zx12])

theorem xori_eq (x : Word) (k : BitVec 12) : x ^^^ zx12 k = BitVec.ofNat 32 (x.toNat ^^^ k.toNat) :=
  eq_ofNat_of_toNat (by rw [BitVec.toNat_xor, toNat_zx12])

theorem movl_eq (h : BitVec 16) : h.zeroExtend 32 = BitVec.ofNat 32 h.toNat := (BitVec.ofNat_toNat 32 h).symm

theorem movh_eq (h : BitVec 16) (x : Word) :
    h ++ x.extractLsb' 0 16 = BitVec.ofNat 32 (h.toNat * 65536 + x.toNat % 65536) := by
  refine BitVec.eq_of_toNat_eq ?_
  have hh := h.isLt
  have hx := Nat.mod_lt x.toNat (show 0 < 2 ^ 16 by decide)
  rw [BitVec.toNat_append, BitVec.extractLsb'_toNat, Nat.shiftRight_zero, ← Nat.shiftLeft_add_eq_or_of_lt hx, Nat.shiftLeft_eq,
    BitVec.toNat_ofNat]
  omega

end Sys2Proof.Machine
end

section
/-! PROOFS. The instructions that change their own core only: ALU and immediates (O14, O15), compares (O16), packed and accumulator
operations (O17, O18). -/

namespace Sys2Proof.Machine

variable {s : State} {i : Issue}

/-! ### The shapes of these instructions -/

/-- A ready instruction of the shape of `issueCore`, whose effect `g` on its core is told as `f`. -/
theorem nxt_issueCore (h : coreReady s i 4) {uses : List VReg} {g f : Core → Core} (e : ∀ c, g c = f c) :
    nxt (issueCore i uses s g) = .next (s.ran i uses 4 f) := by
  rw [funext e, issueCore_ready h]
  rfl

theorem ran_dup (s : State) (i : Issue) (a : VReg) (us : List VReg) (len : Nat) (g : Core → Core) :
    s.ran i (a :: a :: us) len g = s.ran i (a :: us) len g := by
  simp only [State.ran, List.map_cons, Core.settle_dup]

theorem alu_ready (h : coreReady s i 4) {d a b : VReg} {g f : Word → Word → Word} (e : ∀ x y, g x y = f x y) :
    alu i d a b g s = .next (s.ran i [a, b, d] 4 fun c => c.setV d (f (c.getV a) (c.getV b))) :=
  nxt_issueCore h fun c => by rw [e]

theorem alu_ready_unary (h : coreReady s i 4) {d a : VReg} {g : Word → Word → Word} {f : Word → Word} (e : ∀ x, g x x = f x) :
    alu i d a a g s = .next (s.ran i [a, d] 4 fun c => c.setV d (f (c.getV a))) := by
  rw [← ran_dup]
  exact nxt_issueCore h fun c => by rw [e]

theorem alu_ready_dest (h : coreReady s i 4) {d : VReg} {g : Word → Word → Word} {f : Word → Word} (e : ∀ x, g x x = f x) :
    alu i d d d g s = .next (s.ran i [d] 4 fun c => c.setV d (f (c.getV d))) := by
  rw [alu_ready_unary h e, ran_dup]

/-- ADDS, SUBS and ABS: the clamped value, and ST.SAT when it clamped (R58). -/
theorem setV_sat32 (c : Core) (d : VReg) (v : Int) : (c.setV d (sat32 v).1).orSat (sat32 v).2 =
    { c.setV d (BitVec.ofInt 32 (max (-2147483648) (min 2147483647 v))) with
      sat := c.sat || decide (v < -2147483648 ∨ 2147483647 < v) } := by
  rw [sat32, satI_32, clampsI_32]
  rfl

/-- Settles O14: each ALU function is one row of R58, and the core alone changes. -/
theorem aluResults : Obligations.AluResults := by
  unfold Obligations.AluResults
  intro s i d a b h R U clamp sat
  have row {mk : Issue → VReg → VReg → VReg → Instr} {f g : Word → Word → Word} (ex : Issue → VReg → VReg → VReg → State → Out)
      (hx : exec (mk i d a b) s = ex i d a b s) (hg : ex i d a b s = alu i d a b g s) (e : ∀ x y, g x y = f x y) : R mk f :=
    (hx.trans hg).trans (alu_ready h e)
  have row1 {mk : Issue → VReg → VReg → Instr} {f : Word → Word} {g : Word → Word → Word} (ex : Issue → VReg → VReg → State → Out)
      (hx : exec (mk i d a) s = ex i d a s) (hg : ex i d a s = alu i d a a g s) (e : ∀ x, g x x = f x) : U mk f :=
    (hx.trans hg).trans (alu_ready_unary h e)
  have clamped {x : Instr} {us : List VReg} (v : Core → Int) (hx : exec x s = nxt (issueCore i us s fun c =>
      (c.setV d (sat32 (v c)).1).orSat (sat32 (v c)).2)) : exec x s = .next (s.ran i us 4 fun c => sat c (v c)) :=
    hx.trans (nxt_issueCore h fun c => setV_sat32 c d (v c))
  clear_value R U
  refine ⟨row execAdd rfl rfl BitVec.add_def, row execSub rfl rfl word_sub_eq, row execAnd rfl rfl fun _ _ => rfl,
    row execOr rfl rfl fun _ _ => rfl, row execXor rfl rfl fun _ _ => rfl, row execAndn rfl rfl fun _ _ => rfl,
    row execShl rfl rfl fun x _ => word_shl_eq x _, row execShr rfl rfl fun x _ => word_shr_eq x _,
    row execSar rfl rfl fun x _ => sshiftRight_eq_ofInt x _,
    row execRor rfl rfl fun x _ => word_ror_eq x (Nat.mod_lt _ (by decide)),
    row execMin rfl rfl fun x y => ite_le_lt BitVec.toInt x y,
    row execMax rfl rfl fun x y => ite_le_lt_swap BitVec.eq_of_toInt_eq x y,
    row execMinu rfl rfl fun x y => ite_le_lt BitVec.toNat x y,
    row execMaxu rfl rfl fun x y => ite_le_lt_swap BitVec.eq_of_toNat_eq x y,
    clamped (fun c => (c.getV a).toInt + (c.getV b).toInt) rfl, clamped (fun c => (c.getV a).toInt - (c.getV b).toInt) rfl,
    row execMul rfl rfl word_mul_eq, row execMulh rfl rfl fun _ _ => i32_high _, row execMulhu rfl rfl fun _ _ => u32_high _,
    row execDiv rfl rfl fun x y => by rw [i32_tdiv], row execDivu rfl rfl fun x y => by rw [u32_div],
    row execRem rfl rfl fun x y => by rw [i32_tmod], row execRemu rfl rfl fun x y => by rw [u32_mod],
    row1 execClz rfl rfl u32_clz, ?_,
    row1 execSextb rfl rfl fun x => ?_, row1 execSexth rfl rfl fun x => ?_⟩
  · rw [← ran_dup]
    exact clamped (fun c => (c.getV a).toInt.natAbs) rfl
  · rw [BitVec.setWidth_eq_extractLsb' (by decide)]
  · rw [BitVec.setWidth_eq_extractLsb' (by decide)]

/-! ### Immediates -/

/-- Settles O15: the immediate stands in the place of vB in the row of the ALU function. -/
theorem immediateResults : Obligations.ImmediateResults := by
  unfold Obligations.ImmediateResults
  intro s i d a k n hw w
  refine ⟨fun h => ?_, fun h => congrArg Host.Outcome.next (issue_core h [d] _)⟩
  intro R
  have row {x : Instr} {f : Word → Word} {g : Word → Word → Word} (o : Out) (hx : exec x s = o) (hg : o = alu i d a a g s)
      (e : ∀ x, g x x = f x) : R x f := (hx.trans hg).trans (alu_ready_unary h e)
  have dest {x : Instr} {g : Word → Word → Word} (f : Word → Word) (o : Out) (hx : exec x s = o) (hg : o = alu i d d d g s)
      (e : ∀ x, g x x = f x) : exec x s = .next (s.ran i [d] 4 fun c => c.setV d (f (c.getV d))) :=
    (hx.trans hg).trans (alu_ready_dest h e)
  clear_value R
  exact ⟨row (execAddi i d a k s) rfl rfl fun x => addi_eq x k, row (execAndi i d a k s) rfl rfl fun x => andi_eq x k,
    row (execOri i d a k s) rfl rfl fun x => ori_eq x k, row (execXori i d a k s) rfl rfl fun x => xori_eq x k,
    row (execShi i d a .shl n s) rfl rfl fun x => word_shl_eq x _, row (execShi i d a .shr n s) rfl rfl fun x => word_shr_eq x _,
    row (execShi i d a .sar n s) rfl rfl fun x => sshiftRight_eq_ofInt x _,
    row (execShi i d a .ror n s) rfl rfl fun x => word_ror_eq x n.isLt,
    dest (fun _ => BitVec.ofNat 32 hw.toNat) (execMovl i d hw s) rfl rfl fun _ => movl_eq hw,
    dest (fun x => BitVec.ofNat 32 (hw.toNat * 65536 + x.toNat % 65536)) (execMovh i d hw s) rfl rfl fun x => movh_eq hw x⟩

/-! ### Compares and predicates -/

/-- A write of a predicate: p0 ignores it (R51). -/
theorem setPred_eq (c : Core) (p : PReg) (b : Bool) :
    c.setPred p b = if p = 0 then c else { c with p := tset c.p p (decide (b = true)) } := by
  rw [Bool.decide_eq_true]
  exact ite_congr (propext (Fin.val_eq_zero_iff (a := p))) (fun _ => rfl) fun _ => rfl

/-- A predicate reads 1 when it is p0 or its bit is set (R51). -/
theorem pred_iff (c : Core) (n : PReg) : c.pred n = true ↔ n = 0 ∨ tget c.p n = true := by
  unfold Core.pred
  split
  next h => exact iff_of_true rfl (.inl (Fin.val_eq_zero_iff.1 h))
  next h => exact (or_iff_right fun k => h (Fin.val_eq_zero_iff.2 k)).symm

/-- Settles O16: each condition and each operation is one row of R62 and R63, and the predicate alone changes. -/
theorem comparePredicates : Obligations.ComparePredicates := by
  unfold Obligations.ComparePredicates
  intro s i p pa pb a b k h write P C L
  have cond {q : Cond} {f : Word → Word → Bool} (e : ∀ x y, condHolds q x y = f x y) : C q f :=
    ⟨nxt_issueCore h fun c => by rw [e, setPred_eq], nxt_issueCore h fun c => by rw [e, setPred_eq]⟩
  have op {q : Pop} {f : Bool → Bool → Bool} (e : ∀ x y, popApply q x y = f x y) : L q f :=
    nxt_issueCore h fun c => by rw [e, setPred_eq]
  clear_value C L
  exact ⟨cond fun x y => beq_eq_decide x y, cond fun x y => by rw [decide_not]; rfl, cond fun _ _ => rfl, cond fun _ _ => rfl,
    cond fun _ _ => rfl, cond fun _ _ => rfl, cond fun _ _ => by rw [decide_not]; rfl, cond fun x y => beq_eq_decide (x &&& y) 0,
    op fun _ _ => rfl, op fun _ _ => rfl, op (by decide), op fun _ _ => rfl, op fun _ _ => rfl, op (by decide), op fun _ _ => rfl,
    op fun _ _ => rfl, fun _ => rfl, pred_iff⟩

/-! ### Packed Q15 operations -/

theorem packed_ready (h : coreReady s i 4) {d a b : VReg} (f : Int → Int → Int) : packed i d a b f s = .next (s.ran i [a, b, d] 4 fun c =>
    let y := f (hiQ (c.getV a)) (hiQ (c.getV b))
    let x := f (loQ (c.getV a)) (loQ (c.getV b))
    { c.setV d (packQ (max (-32768) (min 32767 y)) (max (-32768) (min 32767 x))) with
      sat := c.sat || decide ((y < -32768 ∨ 32767 < y) ∨ (x < -32768 ∨ 32767 < x)) }) := by
  refine nxt_issueCore h fun c => ?_
  simp only [sat16, satI_16, clampsI_16, Bool.decide_or]
  rfl

theorem packMove_ready (h : coreReady s i 4) {d a b : VReg} {g f : Word → Word → Word} (e : ∀ x y, g x y = f x y) :
    packMove i d a b g s = .next (s.ran i [a, b, d] 4 fun c => c.setV d (f (c.getV a) (c.getV b))) := alu_ready h e

/-- Two halves that were halves of words. -/
theorem packQ_toInt (x y : BitVec 16) : packQ x.toInt y.toInt = x ++ y := by rw [packQ, BitVec.ofInt_toInt, BitVec.ofInt_toInt]

/-- Settles O17: each packed operation is one row of R67 on both halves. -/
theorem packedResults : Obligations.PackedResults := by
  unfold Obligations.PackedResults
  intro s i d a b h hi lo clamp out pack both R U M
  have row {mk : Issue → VReg → VReg → VReg → Instr} {f g : Int → Int → Int} (ex : Issue → VReg → VReg → VReg → State → Out)
      (hx : exec (mk i d a b) s = ex i d a b s) (hg : ex i d a b s = packed i d a b g s) (e : ∀ x y, g x y = f x y) : R mk f := by
    obtain rfl : g = f := funext fun x => funext (e x)
    exact (hx.trans hg).trans (packed_ready h g)
  have row1 {mk : Issue → VReg → VReg → Instr} {f : Int → Int} (ex : Issue → VReg → VReg → State → Out)
      (hx : exec (mk i d a) s = ex i d a s) (hg : ex i d a s = packed i d a a (fun x _ => f x) s) : U mk f := by
    refine (hx.trans hg).trans ((packed_ready h _).trans ?_)
    rw [ran_dup]
    rfl
  have move {mk : Issue → VReg → VReg → VReg → Instr} {f g : Word → Word → Word} (ex : Issue → VReg → VReg → VReg → State → Out)
      (hx : exec (mk i d a b) s = ex i d a b s) (hg : ex i d a b s = packMove i d a b g s) (e : ∀ x y, g x y = f x y) : M mk f :=
    (hx.trans hg).trans (packMove_ready h e)
  have move1 {x : Instr} {f : Word → Word} {g : Word → Word → Word} (o : Out) (hx : exec x s = o) (hg : o = packMove i d a a g s)
      (e : ∀ x, g x x = f x) : exec x s = .next (s.ran i [a, d] 4 fun c => c.setV d (f (c.getV a))) :=
    (hx.trans hg).trans (alu_ready_unary h e)
  clear_value R U M
  exact ⟨row execPadd rfl rfl fun _ _ => rfl, row execPsub rfl rfl fun _ _ => rfl, row execPmulr rfl rfl fun _ _ => rfl,
    row1 execPabs rfl rfl, row1 execPneg rfl rfl, row execPmin rfl rfl fun _ _ => rfl, row execPmax rfl rfl fun _ _ => rfl,
    row execPshra rfl rfl fun x y => by rw [Nat.cast_pow]; rfl, row execPshls rfl rfl fun x y => by rw [Nat.cast_pow]; rfl,
    move execPackll rfl rfl fun _ _ => packQ_toInt _ _, move execPackhh rfl rfl fun _ _ => packQ_toInt _ _,
    move execPackhl rfl rfl fun _ _ => packQ_toInt _ _,
    move1 (f := fun x => x.extractLsb' 0 16 ++ x.extractLsb' 16 16) (execPswap i d a s) rfl rfl fun _ => packQ_toInt _ _⟩

/-! ### Accumulators -/

theorem setA_sat40 (c : Core) (n : Fin 4) (v : Int) : (c.setA n (BitVec.ofInt 40 (satI 40 v))).orAov (clampsI 40 v) =
    { c.setA n (BitVec.ofInt 40 (max (-549755813888) (min 549755813887 v))) with
      aov := c.aov || decide (v < -549755813888 ∨ 549755813887 < v) } := by
  rw [satI_40, clampsI_40]
  rfl

/-- EXT: rounded half up, clamped to 16 bits, ST.SAT when it clamps (R65, R66). -/
theorem setV_ext (c : Core) (d : VReg) (n : Fin 4) (k : Fin 8) :
    (c.setV d (i32 (sat16 (extRaw (c.getA n).toInt k)))).orSat (clampsI 16 (extRaw (c.getA n).toInt k)) =
      let y : Int := ((c.getA n).toInt * 2 ^ k.val + 16384) / 32768
      { c.setV d (BitVec.ofInt 32 (max (-32768) (min 32767 y))) with sat := c.sat || decide (y < -32768 ∨ 32767 < y) } := by
  rw [sat16, satI_16, clampsI_16, extRaw, Nat.cast_pow]
  rfl

/-- Settles O18: each accumulator operation is one row of R65 and R68. -/
theorem accumulatorResults : Obligations.AccumulatorResults := by
  unfold Obligations.AccumulatorResults
  intro s i n d a b k h hi lo sat40 M W
  have mac {mk : Issue → Fin 4 → VReg → VReg → Instr} {f : Int → Int → Int → Int → Int} {g : Int → Word → Word → Int}
      (ex : Issue → Fin 4 → VReg → VReg → State → Out) (hx : exec (mk i n a b) s = ex i n a b s)
      (hg : ex i n a b s = accum i n a b g s) (e : ∀ x u v, g x u v = x + f (hiQ u) (loQ u) (hiQ v) (loQ v)) : M mk f :=
    (hx.trans hg).trans (nxt_issueCore h fun c => by rw [e, setA_sat40]; rfl)
  have writes {x : Instr} {us : List VReg} {f g : Core → BitVec 40} (o : Out) (hx : exec x s = o)
      (hg : o = nxt (issueCore i us s fun c => c.setA n (g c))) (e : ∀ c, g c = f c) : W x us f :=
    (hx.trans hg).trans (nxt_issueCore h fun c => by rw [e])
  have acldq : exec (.acldq i n a) s = .next (s.ran i [a] 4 fun c => c.setA n (BitVec.ofInt 40 (lo (c.getV a) * 32768))) := by
    rw [← ran_dup]
    exact nxt_issueCore h fun _ => rfl
  have ext : exec (.ext i d n k) s = .next (s.ran i [d] 4 fun c =>
      { c.setV d (BitVec.ofInt 32 (max (-32768) (min 32767 (((c.getA n).toInt * 2 ^ k.val + 16384) / 32768)))) with
        sat := c.sat || decide (((c.getA n).toInt * 2 ^ k.val + 16384) / 32768 < -32768 ∨
          32767 < ((c.getA n).toInt * 2 ^ k.val + 16384) / 32768) }) := nxt_issueCore h fun c => setV_ext c d n k
  have acrd : exec (.acrd i d n) s = .next (s.ran i [d] 4 fun c => c.setV d ((c.getA n).setWidth 32)) :=
    nxt_issueCore h fun c => by rw [BitVec.setWidth_eq_extractLsb' (by decide)]
  clear_value M
  exact ⟨mac execMacLl rfl rfl fun _ _ _ => rfl, mac execMacLh rfl rfl fun _ _ _ => rfl, mac execMacHl rfl rfl fun _ _ _ => rfl,
    mac execMacHh rfl rfl fun _ _ _ => rfl, mac execMsuLl rfl rfl fun _ _ _ => rfl, mac execMsuLh rfl rfl fun _ _ _ => rfl,
    mac execMsuHl rfl rfl fun _ _ _ => rfl, mac execMsuHh rfl rfl fun _ _ _ => rfl,
    mac execMac2 rfl rfl fun _ _ _ => add_assoc _ _ _, mac execMac2x rfl rfl fun _ _ _ => add_assoc _ _ _,
    mac execMsu2 rfl rfl fun _ _ _ => by ring,
    writes (execMulLl i n a b s) rfl rfl fun _ => rfl, writes (execMul2 i n a b s) rfl rfl fun _ => rfl,
    writes (execAclr i n s) rfl rfl fun _ => rfl, acldq, writes (execAcset i n a b s) rfl rfl fun c => by rw [BitVec.setWidth_eq_extractLsb' (by decide)],
    writes (execAcsar i n b s) rfl rfl fun c => sshiftRight_eq_ofInt _ _, ext, acrd, nxt_issueCore h fun _ => rfl⟩

end Sys2Proof.Machine
end

section
/-! PROOFS. How an instruction issues: every instruction of a core by `issue`, its branches one by one, the false guard (O22), branches
and jumps (O19). -/

namespace Sys2Proof.Machine

variable {s : State} {i : Issue}

/-! ### Work on the cores of a lane -/

/-- From `s` to `t` the cores of one lane alone change. -/
def OnlyCores (l : LaneId) (s t : State) : Prop := ∃ f : Tab Core → Tab Core, t = s.modLane l fun x => { x with cores := f x.cores }

theorem onlyCores_refl (l : LaneId) (s : State) : OnlyCores l s s := ⟨id, by cases l <;> rfl⟩

theorem onlyCores_modCore (s : State) (l : LaneId) (c : Nat) (f : Core → Core) : OnlyCores l s (s.modCore l c f) :=
  ⟨fun t => tmod t c f, rfl⟩

theorem OnlyCores.trans {l : LaneId} {s t u : State} (h : OnlyCores l s t) (k : OnlyCores l t u) : OnlyCores l s u := by
  obtain ⟨f, rfl⟩ := h
  obtain ⟨g, rfl⟩ := k
  exact ⟨fun t => g (f t), State.modLane_modLane ..⟩

theorem onlyCores_foldl {α : Type} {l : LaneId} {f : State → α → State} (hf : ∀ s x, OnlyCores l s (f s x)) (xs : List α) (s : State) :
    OnlyCores l s (xs.foldl f s) := by
  induction xs generalizing s with
  | nil => exact onlyCores_refl l s
  | cons x xs ih => exact (hf s x).trans (ih _)

section
variable {l : LaneId} {t : State}

theorem OnlyCores.pending (h : OnlyCores l s t) : t.pending = s.pending := by
  obtain ⟨f, rfl⟩ := h
  exact State.modLane_pending ..

theorem OnlyCores.sup (h : OnlyCores l s t) : t.sup = s.sup := by
  obtain ⟨f, rfl⟩ := h
  exact State.modLane_sup ..

theorem OnlyCores.lanesUp (h : OnlyCores l s t) : t.lanesUp = s.lanesUp := by rw [State.lanesUp, h.sup, State.lanesUp]

theorem OnlyCores.core_other (h : OnlyCores l s t) (c : Nat) : t.core l.other c = s.core l.other c := by
  obtain ⟨f, rfl⟩ := h
  rw [State.core, State.modLane_lane_other, State.core]

theorem OnlyCores.supFrame (h : OnlyCores l s t) : supFrame s t := by
  obtain ⟨f, rfl⟩ := h
  cases l <;> exact ⟨rfl, rfl, rfl, rfl, rfl, rfl, rfl, rfl, rfl, rfl, rfl, fun m => by cases m <;> exact ⟨rfl, rfl, rfl, rfl⟩⟩

theorem OnlyCores.only (h : OnlyCores l s t) : only [.cores, .events] s t := by
  obtain ⟨f, rfl⟩ := h
  intro p hp
  cases p with
  | cores | events => exact absurd (by decide) hp
  | regs => intro m a; cases l <;> cases m <;> rfl
  | lmem | sram | shdrop | hy | entries | lpe | sels | levels | strs => intro m; cases l <;> cases m <;> rfl
  | dog => intro m; cases l <;> cases m <;> exact ⟨rfl, rfl⟩
  | mism => cases l <;> exact ⟨rfl, rfl, rfl⟩
  | _ => cases l <;> rfl

end

theorem State.modLane_congr {l : LaneId} {f g : Lane → Lane} (h : f (s.lane l) = g (s.lane l)) : s.modLane l f = s.modLane l g := by
  cases l
  · exact congrArg (fun x => ({ s with laneA := x } : State)) h
  · exact congrArg (fun x => ({ s with laneB := x } : State)) h

/-- What is done to a core depends on what the core holds. -/
theorem State.modCore_congr {l : LaneId} {c : Nat} {f g : Core → Core} (h : f (s.core l c) = g (s.core l c)) :
    s.modCore l c f = s.modCore l c g :=
  State.modLane_congr (congrArg (fun t => ({ s.lane l with cores := t } : Lane)) (congrArg (tset _ c) h))

/-! ### The branches of issue -/

/-- How `issue` ends that made `r` of `s`: a start that `r` brings about stops the core, a stall undoes `r`, the queue stays. -/
def issueEnd (i : Issue) (s r : State) : State :=
  { (if s.lanesUp && !r.lanesUp then r.modCore i.lane i.core Core.still else stallGuard s r i.lane i.core) with pending := s.pending }

theorem issueEnd_eq {r : State} (hu : r.lanesUp = s.lanesUp) (hp : r.pending = s.pending)
    (hs : stallGuard s r i.lane i.core = r) : issueEnd i s r = r := by
  rw [issueEnd, hu, Bool.and_not_self, if_neg Bool.false_ne_true, hs, ← hp]

theorem stallGuard_free {l : LaneId} (h : laneBlocked s l = false) (r : State) (c : Nat) : stallGuard s r l c = r := by
  rw [stallGuard, h]
  rfl

/-- Work on the core that leaves its outstanding accesses does not stall. -/
theorem stallGuard_core {r : State} {l : LaneId} {c : Nat} (hl : (r.core l c).loads = (s.core l c).loads)
    (hs : (r.core l c).stores = (s.core l c).stores) : stallGuard s r l c = r := by
  simp [stallGuard, hl, hs]

/-- The branches of `issue` on a core that runs and has no fence pending (R53, R71, R77). -/
theorem issue_running (hr : (s.core i.lane i.core).run = .running) (hf : (s.core i.lane i.core).fence = none) (len : Nat)
    (uses : List VReg) (k : State → State) :
    issue i len uses s k = issueEnd i s (
      if 0x100000 ≤ (s.core i.lane i.core).pc.toNat then trap s i.lane i.core tFETCH 4 (s.core i.lane i.core).pc
      else if 0x100000 < (s.core i.lane i.core).pc.toNat + len then trap s i.lane i.core tFETCH len ((s.core i.lane i.core).pc + 4)
      else if !(s.core i.lane i.core).guard i then s.modCore i.lane i.core fun x => x.advance len
      else if laneBlocked s i.lane && (s.core i.lane i.core).loads.any fun p => p.dram && uses.any fun u => u.val == p.dst then s
      else k (s.modCore i.lane i.core fun x => x.settle (uses.map Fin.val))) := by
  have hfd : fenceDone s i.lane i.core = s := by rw [fenceDone, hf]
  simp only [issue, hr, hfd, issueEnd]
  rfl

/-- What a ready instruction does, when the lanes run on. -/
theorem issue_does {len : Nat} (h : coreReady s i len) {uses : List VReg} {k : State → State} {t : State}
    (hk : k (s.modCore i.lane i.core fun c => c.settle (uses.map Fin.val)) = t) (hu : t.lanesUp = s.lanesUp)
    (hp : t.pending = s.pending) : issue i len uses s k = t := by
  rw [issue_ready h, hk]
  dsimp only
  rw [hu, Bool.and_not_self, if_neg Bool.false_ne_true, ← hp]

/-- A false guard: only the program counter moves (R53). -/
theorem issue_guard_false {len : Nat} (hr : (s.core i.lane i.core).run = .running) (hf : (s.core i.lane i.core).fence = none)
    (h0 : 0 < len) (hp : (s.core i.lane i.core).pc.toNat + len ≤ 0x100000) (hg : (s.core i.lane i.core).guard i = false)
    (uses : List VReg) (k : State → State) : issue i len uses s k = s.modCore i.lane i.core fun c => c.advance len := by
  rw [issue_running hr hf, if_neg (by omega), if_neg (by omega), hg, Bool.not_false, if_pos rfl]
  exact issueEnd_eq (State.modCore_lanesUp ..) (State.modCore_pending ..)
    (stallGuard_core (by rw [State.core_modCore_same]; rfl) (by rw [State.core_modCore_same]; rfl))

/-! ### Every instruction issues -/

/-- The command is an instruction of `n` bytes: it does what `issue` lets it do. -/
def Issues (x : Instr) (i : Issue) (n : Nat) : Prop :=
  0 < n ∧ ∀ s, ∃ (us : List VReg) (k : State → State), exec x s = nxt (issue i n us s k)

theorem issues_of_issued {x : Instr} {n : Nat} (h : x.issued = some (i, n)) : Issues x i n := by
  cases x with
  | ill | add | sub | and | or | xor | andn | shl | shr | sar | ror | min | max | minu | maxu | adds | subs | mul | mulh
  | mulhu | div | divu | rem | remu | clz | abs | sextb | sexth | addi | andi | ori | xori | shi | movl | movh | movw | cmp
  | cmpi | plog | padd | psub | pmulr | pabs | pneg | pmin | pmax | pshra | pshls | packll | packhh | packhl | pswap | macLl
  | macLh | macHl | macHh | msuLl | msuLh | msuHl | msuHh | mac2 | mac2x | msu2 | mulLl | mul2 | aclr | acldq | acset | ext
  | acrd | acrh | acsar | mfs | mts | ldb | ldbu | ldh | ldhu | ldw | stb | sth | stw | b | bl | jr | jlr | rtt | waite | waita
  | waitae | take | post | jput | jtake | jdone | lcswap | fenceL | fenceE | win =>
    cases h
    exact ⟨by decide, fun s => ⟨_, _, rfl⟩⟩
  | reservedEncoding r =>
    obtain ⟨j, b⟩ := r
    cases b <;> cases h <;> exact ⟨by decide, fun s => ⟨_, _, rfl⟩⟩
  | _ => cases h

/-- Settles O22: the guard is looked at before the instruction does anything but be fetched. -/
theorem guardFalseOnlyPasses : Obligations.GuardFalseOnlyPasses := by
  unfold Obligations.GuardFalseOnlyPasses
  intro s x i n hx hr hf hp hg
  obtain ⟨h0, hi⟩ := issues_of_issued hx
  obtain ⟨us, k, he⟩ := hi s
  rw [he, issue_guard_false hr hf h0 hp hg]
  rfl

/-! ### Branches and jumps -/

theorem branchTo_eq (pc : Word) (k : BitVec 22) : branchTo pc k = BitVec.ofInt 32 (pc.toInt + 4 * k.toInt) := by
  rw [BitVec.ofInt_add, BitVec.ofInt_toInt, mul_comm, BitVec.ofInt_mul]
  rfl

theorem core_settled (s : State) (i : Issue) (us : List VReg) :
    (s.modCore i.lane i.core fun c => c.settle (us.map Fin.val)).core i.lane i.core = s.at i us := State.core_modCore_same ..

/-- A jump to a word address, told by the core that jumps. -/
theorem issue_jump (h : coreReady s i 4) {us : List VReg} {t : Core → Word} (f : Core → Core) (ht : (t (s.at i us)).toNat % 4 = 0) :
    issue i 4 us s (fun s => jump i (t (s.core i.lane i.core)) f s) =
      s.modCore i.lane i.core fun c => { f (c.settle (us.map Fin.val)) with pc := t (c.settle (us.map Fin.val)) } := by
  refine issue_does h ?_ (State.modCore_lanesUp ..) (State.modCore_pending ..)
  rw [core_settled, jump, if_neg (not_not.2 ht), State.modCore_modCore]
  exact State.modCore_congr rfl

/-- Settles O19: a branch changes its own core; a jump reads its target from the core before it changes it. -/
theorem branchesAndJumps : Obligations.BranchesAndJumps := by
  unfold Obligations.BranchesAndJumps
  intro s i a k h goes
  refine ⟨?_, ?_, fun ha => ?_, fun ha => ?_, fun ht => ?_⟩
  · exact congrArg Host.Outcome.next ((issue_core h [] _).trans (State.modCore_congr (by rw [branchTo_eq])))
  · exact congrArg Host.Outcome.next ((issue_core h [31] _).trans (State.modCore_congr (by rw [branchTo_eq])))
  · exact congrArg Host.Outcome.next (issue_jump h (t := fun c => c.getV a) id ha)
  · exact congrArg Host.Outcome.next (issue_jump h (t := fun c => c.getV a) (fun c => c.setV 31 (c.pc + 4)) ha)
  · exact congrArg Host.Outcome.next (issue_jump h (us := []) (t := Core.tpc) (fun c => { c with trap := false }) ht)

end Sys2Proof.Machine
end

section
/-! PROOFS. Traps (R71, R73, R74, R81 to R83, R114): the instruction of each case reaches the trap (O20), a second trap halts (O21). -/

namespace Sys2Proof.Machine

variable {s : State} {i : Issue}

/-! ### Words of instructions -/

theorem toNat_append_add {m n : Nat} (x : BitVec m) (y : BitVec n) : (x ++ y).toNat = x.toNat * 2 ^ n + y.toNat := by
  rw [BitVec.toNat_append, ← Nat.shiftLeft_add_eq_or_of_lt y.isLt, Nat.shiftLeft_eq]

theorem toNat_ofBool_b2n (b : Bool) : (BitVec.ofBool b).toNat = b2n b := by cases b <;> rfl

theorem u32_ill (i : Issue) (w : BitVec 22) : u32 (i.g.val * 2 ^ 29 + b2n i.n * 2 ^ 28 + w.toNat) =
    BitVec.ofNat 3 i.g ++ BitVec.ofBool i.n ++ (0 : BitVec 6) ++ w := by
  refine (eq_ofNat_of_toNat ?_).symm
  have hg := i.g.isLt
  simp only [toNat_append_add, toNat_ofBool_b2n, BitVec.ofNat_eq_ofNat, BitVec.toNat_ofNat]
  omega

theorem wordR_eq (i : Issue) (op : BitVec 6) (d a b : VReg) (f : BitVec 7) :
    wordR i op.toNat d a b f.toNat = rWord i op d a b f := by
  refine (eq_ofNat_of_toNat ?_).symm
  have hg := i.g.isLt
  simp only [rWord, toNat_append_add, toNat_ofBool_b2n, BitVec.toNat_ofNat]
  omega

theorem fld_eq_extractLsb' (w : Word) : fld w 27 24 = (w.extractLsb' 24 4).toNat := by
  rw [BitVec.extractLsb'_toNat, Nat.shiftRight_eq_div_pow]
  rfl

/-! ### The lane address map (R43) -/

theorem regionOf_own {a : Nat} (h : a < 0x100000) : regionOf a = .own := if_pos h

theorem regionOf_sram {a : Nat} (h : 0x1000000 ≤ a) (k : a < 0x1800000) : regionOf a = .sram := by
  rw [regionOf, if_neg (by omega), if_neg (by omega), if_pos k]

theorem regionOf_dram {a : Nat} (h : 0x40000000 ≤ a) (k : a < 0x80000000) : regionOf a = .dram := by
  rw [regionOf, if_neg (by omega), if_neg (by omega), if_neg (by omega), if_neg (by omega), if_pos k]

theorem regionOf_regs {a : Nat} (h : 0xF0000000 ≤ a) (k : a < 0xF0C00000) : regionOf a = .regs := by
  rw [regionOf, if_neg (by omega), if_neg (by omega), if_neg (by omega), if_neg (by omega), if_neg (by omega), if_neg (by omega), if_pos k]

theorem regionOf_reserved {a : Nat} (h : 0xF0C00000 ≤ a) : regionOf a = .reserved := by
  rw [regionOf, if_neg (by omega), if_neg (by omega), if_neg (by omega), if_neg (by omega), if_neg (by omega), if_neg (by omega),
    if_neg (by omega)]

theorem regionOf_unmapped {a : Nat} (h : unmappedAddr a) : regionOf a = .unmapped := by
  rcases h with ⟨h, k⟩ | ⟨h, k⟩ | ⟨h, k⟩
  · rw [regionOf, if_neg (by omega), if_pos k]
  · rw [regionOf, if_neg (by omega), if_neg (by omega), if_neg (by omega), if_pos k]
  · rw [regionOf, if_neg (by omega), if_neg (by omega), if_neg (by omega), if_neg (by omega), if_neg (by omega), if_pos k]

/-- A mapped address lies in memory, in a register block, or in reserved register space. -/
theorem regionOf_mapped {a : Nat} (h : ¬ unmappedAddr a) :
    (a < 0xF0000000 ∧ (regionOf a = .own ∨ regionOf a = .sram ∨ regionOf a = .dram)) ∨
    (0xF0000000 ≤ a ∧ a < 0xF0C00000 ∧ regionOf a = .regs) ∨ (0xF0C00000 ≤ a ∧ regionOf a = .reserved) := by
  unfold unmappedAddr at h
  rcases Nat.lt_or_ge a 0xF0000000 with ha | ha
  · refine .inl ⟨ha, ?_⟩
    rcases (by omega : a < 0x100000 ∨ (0x1000000 ≤ a ∧ a < 0x1800000) ∨ (0x40000000 ≤ a ∧ a < 0x80000000)) with k | ⟨k, l⟩ | ⟨k, l⟩
    · exact .inl (regionOf_own k)
    · exact .inr (.inl (regionOf_sram k l))
    · exact .inr (.inr (regionOf_dram k l))
  · rcases Nat.lt_or_ge a 0xF0C00000 with hb | hb
    · exact .inr (.inl ⟨ha, hb, regionOf_regs ha hb⟩)
    · exact .inr (.inr ⟨hb, regionOf_reserved hb⟩)

/-! ### The traps of an access (R73, R74) -/

theorem accessTrap_unmapped {a : Nat} (h : unmappedAddr a) (c : Core) (n : Nat) (st : Bool) : accessTrap c a n st = some tACCESS := by
  rw [accessTrap, regionOf_unmapped h]

theorem accessTrap_narrow {a n : Nat} (h : 0xF0000000 ≤ a) (k : a < 0xF0C00000) (hn : n ≠ 4) (c : Core) :
    accessTrap c a n true = some tACCESS := by
  rw [accessTrap, regionOf_regs h k]
  simp [hn]

theorem accessTrap_align {a n : Nat} {c : Core} {st : Bool} (h : ¬ unmappedAddr a) (hn : a % n ≠ 0)
    (ha : a < 0xF0000000 → c.algn = true) (hs : st = true → n = 4 ∨ a < 0xF0000000 ∨ 0xF0C00000 ≤ a) :
    accessTrap c a n st = some tALIGN := by
  unfold accessTrap
  rcases regionOf_mapped h with ⟨hl, hr | hr | hr⟩ | ⟨hl, hu, hr⟩ | ⟨hl, hr⟩ <;> rw [hr]
  · exact if_pos ⟨hn, ha hl⟩
  · exact if_pos ⟨hn, ha hl⟩
  · exact if_pos ⟨hn, ha hl⟩
  · have hw : (st && n != 4) = false := by
      cases st
      · rfl
      · rcases hs rfl with k | k | k
        · rw [k]
          rfl
        · omega
        · omega
    dsimp only
    rw [hw, if_neg Bool.false_ne_true, if_pos hn]
  · exact if_pos hn

/-! ### Loads and stores of each size -/

theorem exec_loadForm {mk : Issue → VReg → VReg → BitVec 12 → Instr} {n : Nat} {e : Nat → Word} (h : (mk, n, e) ∈ loadForms)
    (i : Issue) (d a : VReg) (k : BitVec 12) : ∃ e', (∀ s, exec (mk i d a k) s = nxt (load i d a k n e' s)) ∧
      ∀ v, v < 256 ^ n → e' v = e v := by
  simp only [loadForms, List.mem_cons, Prod.mk.injEq, List.not_mem_nil, or_false] at h
  rcases h with ⟨rfl, rfl, rfl⟩ | ⟨rfl, rfl, rfl⟩ | ⟨rfl, rfl, rfl⟩ | ⟨rfl, rfl, rfl⟩ | ⟨rfl, rfl, rfl⟩
  · exact ⟨_, fun _ => rfl, fun _ _ => rfl⟩
  · exact ⟨u32, fun _ => rfl, fun v hv => (u32_narrow hv).symm⟩
  · exact ⟨_, fun _ => rfl, fun _ _ => rfl⟩
  · exact ⟨u32, fun _ => rfl, fun v hv => (u32_narrow hv).symm⟩
  · exact ⟨_, fun _ => rfl, fun _ _ => rfl⟩

theorem exec_storeForm {mk : Issue → VReg → VReg → BitVec 12 → Instr} {n : Nat} (h : (mk, n) ∈ storeForms)
    (i : Issue) (v a : VReg) (k : BitVec 12) (s : State) : exec (mk i v a k) s = nxt (store i v a k n s) := by
  simp only [storeForms, List.mem_cons, Prod.mk.injEq, List.not_mem_nil, or_false] at h
  rcases h with ⟨rfl, rfl⟩ | ⟨rfl, rfl⟩ | ⟨rfl, rfl⟩ <;> rfl

/-! ### Trap entry and halt -/

theorem enterTrap_eq (c : Core) (code len : Nat) (tval : Word) :
    c.enterTrap code len tval = c.trapped (code + if len = 8 then 2 ^ 31 else 0) tval := by
  simp only [Core.enterTrap, Core.trapped, Core.settleAll_pc, Core.settleAll_tvec, u32]

theorem trap_first {l : LaneId} {c : Nat} (h : (s.core l c).trap = false) (code len : Nat) (tval : Word) :
    trap s l c code len tval = s.modCore l c fun x => x.trapped (code + if len = 8 then 2 ^ 31 else 0) tval := by
  rw [trap, h]
  simp only [enterTrap_eq, if_neg Bool.false_ne_true]

theorem trap_eq (s : State) (l : LaneId) (c code len : Nat) (tval : Word) : trap s l c code len tval =
    if (s.core l c).trap then (List.range 8).foldl (fun t k => if k = c then t
      else postCore t l k ⟨2, 2, c, (s.core l c).tcause.toNat % 256 * 256 + code % 256, false⟩) (s.modCore l c Core.halted)
    else s.modCore l c fun x => x.enterTrap code len tval := rfl

/-- What a trap does where it does not matter whether earlier loads have returned before. -/
theorem trap_settleAll (s : State) (l : LaneId) (c code len : Nat) (tval : Word) :
    trap (s.modCore l c Core.settleAll) l c code len tval = trap s l c code len tval := by
  have hh (x : Core) : x.settleAll.halted = x.halted := by rw [Core.halted, Core.settleAll_settleAll, Core.halted]
  have he (x : Core) : x.settleAll.enterTrap code len tval = x.enterTrap code len tval := by
    rw [Core.enterTrap, Core.settleAll_settleAll, Core.enterTrap]
  simp only [trap_eq, State.core_modCore_same, State.modCore_modCore, Core.settleAll_trap, Core.settleAll_tcause, hh, he]

theorem onlyCores_trap (s : State) (l : LaneId) (c code len : Nat) (tval : Word) : OnlyCores l s (trap s l c code len tval) := by
  rw [trap_eq]
  split
  · refine (onlyCores_modCore s l c _).trans (onlyCores_foldl (fun t k => ?_) _ _)
    split
    · exact onlyCores_refl l t
    · exact onlyCores_modCore t l k _
  · exact onlyCores_modCore s l c _

/-- A posting to some cores of a lane but one. -/
theorem core_foldl_postBut (l : LaneId) (e : EvEntry) (c n : Nat) (xs : List Nat) (hx : xs.Nodup) (s : State) :
    (xs.foldl (fun s k => if k = c then s else postCore s l k e) s).core l n =
      if n ∈ xs ∧ n ≠ c then (s.core l n).post e else s.core l n := by
  induction xs generalizing s with
  | nil => rw [List.foldl_nil, if_neg fun h => List.not_mem_nil h.1]
  | cons x xs ih =>
    obtain ⟨hn, hx⟩ := List.nodup_cons.1 hx
    rw [List.foldl_cons, ih hx]
    by_cases h : n = x
    · subst h
      rw [if_neg fun k => hn k.1]
      by_cases hc : n = c
      · rw [if_pos hc, if_neg fun k => k.2 hc]
      · rw [if_neg hc, if_pos ⟨List.mem_cons_self, hc⟩]
        exact State.core_modCore_same ..
    · have hs : (if x = c then s else postCore s l x e).core l n = s.core l n := by
        split
        · rfl
        · exact State.core_modCore _ _ _ _ _ _ (.inr h)
      simp only [hs, List.mem_cons, h, false_or]

/-- The cores after a trap of a core whose ST.TRAP is 1 (R83, R91). -/
theorem core_trap_second {l : LaneId} {c : Fin 8} (h : (s.core l c).trap = true) (code len : Nat) (tval : Word) (k : Fin 8) :
    (trap s l c code len tval).core l k = if k = c then (s.core l c).halted
      else (s.core l k).post ⟨2, 2, c, (s.core l c).tcause.toNat % 256 * 256 + code % 256, false⟩ := by
  rw [trap_eq, h, if_pos rfl, core_foldl_postBut l _ c k _ List.nodup_range]
  by_cases hk : k = c
  · subst hk
    rw [if_neg fun x => x.2 rfl, if_pos rfl, State.core_modCore_same]
  · have hv : k.val ≠ c.val := fun e => hk (Fin.ext e)
    rw [if_pos ⟨List.mem_range.2 k.isLt, hv⟩, if_neg hk, State.core_modCore _ _ _ _ _ _ (.inr hv)]

end Sys2Proof.Machine
end

section
/-! PROOFS. Traps, continued: the instruction of each case of R81 and R114 reaches the trap; trap entry (O20) and the second trap (O21). -/

namespace Sys2Proof.Machine

variable {s : State} {i : Issue}

/-! ### The instruction of each case reaches the trap -/

/-- The state in which a ready instruction acts: the registers that it uses have been settled (R77). -/
def State.settled (s : State) (i : Issue) (us : List VReg) : State := s.modCore i.lane i.core fun c => c.settle (us.map Fin.val)

theorem onlyCores_settled (s : State) (i : Issue) (us : List VReg) : OnlyCores i.lane s (s.settled i us) := onlyCores_modCore ..

theorem settled_core (s : State) (i : Issue) (us : List VReg) : (s.settled i us).core i.lane i.core = s.at i us := core_settled s i us

/-- A ready instruction whose work is a trap. -/
theorem issue_traps (h : coreReady s i 4) {us : List VReg} {k : State → State} {code : Nat} {tval : Word}
    (hk : k (s.settled i us) = trap (s.settled i us) i.lane i.core code 4 tval) :
    nxt (issue i 4 us s k) = .next (trap (s.settled i us) i.lane i.core code 4 tval) := by
  have ho := (onlyCores_settled s i us).trans (onlyCores_trap (s.settled i us) i.lane i.core code 4 tval)
  exact congrArg Host.Outcome.next (issue_does h hk ho.lanesUp ho.pending)

theorem jump_misaligned {t : Word} (h : t.toNat % 4 ≠ 0) (f : Core → Core) (s : State) : jump i t f s = trap s i.lane i.core tALIGN 4 t :=
  if_pos h

theorem load_traps (h : coreReady s i 4) {d a : VReg} {k : BitVec 12} {n code : Nat} {e : Nat → Word}
    (ht : accessTrap (s.at i [d, a]) (effAddr (s.at i [d, a]) a k) n false = some code) :
    nxt (load i d a k n e s) =
      .next (trap (s.settled i [d, a]) i.lane i.core code 4 (BitVec.ofNat 32 (effAddr (s.at i [d, a]) a k))) := by
  refine issue_traps h ?_
  have hk : accessTrap (s.at i [d, a]) ((s.at i [d, a]).ea a k).toNat n false = some code := ht
  dsimp only
  rw [settled_core, hk]
  rfl

theorem store_traps (h : coreReady s i 4) {v a : VReg} {k : BitVec 12} {n code : Nat}
    (ht : accessTrap (s.at i [v, a]) (effAddr (s.at i [v, a]) a k) n true = some code) :
    nxt (store i v a k n s) =
      .next (trap (s.settled i [v, a]) i.lane i.core code 4 (BitVec.ofNat 32 (effAddr (s.at i [v, a]) a k))) := by
  refine issue_traps h ?_
  have hk : accessTrap (s.at i [v, a]) ((s.at i [v, a]).ea a k).toNat n true = some code := ht
  dsimp only
  rw [settled_core, hk]
  rfl

theorem not_sysBuffer {a n : Nat} (h : ¬ goodBuffer a n) : sysBuffer a n = false := decide_eq_false h

theorem sysBuffer_good {a n : Nat} (h : goodBuffer a n) : sysBuffer a n = true := decide_eq_true h

theorem memRead_modCore (s : State) (l m : LaneId) (c d a n w : Nat) (f : Core → Core) :
    memRead (s.modCore m d f) l c a n w = memRead s l c a n w := by
  cases m <;> cases l <;> rfl

theorem readBytes_modCore (s : State) (l m : LaneId) (c d a n : Nat) (f : Core → Core) :
    readBytes (s.modCore m d f) l c a n = readBytes s l c a n := by
  simp only [readBytes, memRead_modCore]

/-- A fence with no store to wait for waits for the loads only. -/
theorem fenceL_no_stores {l : LaneId} {c : Nat} (h : (s.core l c).stores = []) : fenceL s l c = s.modCore l c Core.settleAll := by
  simp [fenceL, h]

theorem jputPayload_traps (h : coreReady s i 4) {d a : VReg} (hs : (s.core i.lane i.core).stores = [])
    (hb : goodBuffer ((s.at i [d, a]).getV a).toNat 32)
    (hl : leAt (readBytes s i.lane i.core ((s.at i [d, a]).getV a).toNat 32) 2 2 ≤ 1408)
    (hp : ¬ goodBuffer ((s.at i [d, a]).getV a).toNat
      (32 + leAt (readBytes s i.lane i.core ((s.at i [d, a]).getV a).toNat 32) 2 2)) :
    exec (.jput i d a) s = .next (trap (s.settled i [d, a]) i.lane i.core 0x10 4 ((s.at i [d, a]).getV a)) := by
  refine issue_traps h ?_
  have hst : ((s.settled i [d, a]).core i.lane i.core).stores = [] := by
    rw [settled_core]
    exact (Core.settle_stores ..).trans hs
  have hr : readBytes (s.settled i [d, a]) = readBytes s := by
    funext l c x n
    exact readBytes_modCore ..
  dsimp only
  rw [settled_core, sysBuffer_good hb, fenceL_no_stores hst, readBytes_modCore, hr, not_sysBuffer hp,
    if_neg (by decide), if_pos ⟨hl, rfl⟩, trap_settleAll, u32_of_toNat]
  rfl

theorem waitPos_traps (h : coreReady s i 4) {d a b : VReg} (hb : ((s.at i [d, a, b]).getV b).extractLsb' 24 4 ≠ 0) (f : BitVec 7)
    (event : Bool) : nxt (waitPos i d a b f.toNat event s) =
      .next (trap (s.settled i [d, a, b]) i.lane i.core 0x11 4 (rWord i 0x30 d a b f)) := by
  refine issue_traps h ?_
  have hf : fld ((s.at i [d, a, b]).getV b) 27 24 ≠ 0 := by
    rw [fld_eq_extractLsb']
    exact fun e => hb (BitVec.eq_of_toNat_eq e)
  dsimp only
  rw [settled_core, if_pos hf]
  exact congrArg _ (wordR_eq i 0x30 d a b f)

/-- The instruction of a trap case does nothing but trap. -/
theorem exec_trapCase {x : Instr} {us : List VReg} {code : Nat} {tval : Word} (hc : TrapCase s x i us code tval) (h : coreReady s i 4) :
    exec x s = .next (trap (s.settled i us) i.lane i.core code 4 tval) := by
  cases hc with
  | ill i w => exact issue_traps h (by rw [u32_ill]; rfl)
  | jr i a ha => exact issue_traps h (by rw [settled_core]; exact jump_misaligned ha ..)
  | jlr i a ha => exact issue_traps h (by rw [settled_core]; exact jump_misaligned ha ..)
  | rtt i ha => exact issue_traps h (by rw [settled_core]; exact jump_misaligned ha ..)
  | loadUnmapped mk n e i d a k hm hu =>
    obtain ⟨e', he, -⟩ := exec_loadForm hm i d a k
    exact (he s).trans (load_traps h (accessTrap_unmapped hu ..))
  | loadMisaligned mk n e i d a k hm hu hn ha =>
    obtain ⟨e', he, -⟩ := exec_loadForm hm i d a k
    exact (he s).trans (load_traps h (accessTrap_align hu hn (fun hl => ha.resolve_left (by omega)) (fun x => by cases x)))
  | storeUnmapped mk n i v a k hm hu => exact (exec_storeForm hm ..).trans (store_traps h (accessTrap_unmapped hu ..))
  | storeNarrow mk n i v a k hm hn hl hu => exact (exec_storeForm hm ..).trans (store_traps h (accessTrap_narrow hl hu hn ..))
  | storeMisaligned mk n i v a k hm hu hn ha hw =>
    exact (exec_storeForm hm ..).trans (store_traps h (accessTrap_align hu hn ha fun _ => hw))
  | take i d hd => exact issue_traps h ((if_pos hd).trans (congrArg _ (wordR_eq i 0x31 d 0 0 0)))
  | waita i d a b hb => exact waitPos_traps h hb 1 false
  | waitae i d a b hb => exact waitPos_traps h hb 2 true
  | jput i d a hb =>
    refine issue_traps h ?_
    dsimp only
    rw [settled_core, not_sysBuffer hb, Bool.not_false, if_pos rfl, u32_of_toNat]
    rfl
  | jputPayload i d a hs hb hl hp => exact jputPayload_traps h hs hb hl hp
  | jtakeStream i d a b ha =>
    refine issue_traps h ?_
    dsimp only
    rw [settled_core, if_pos ha]
    exact congrArg _ (wordR_eq i 0x32 d a b 1)
  | jtakeBuffer i d a b ha hb =>
    refine issue_traps h ?_
    dsimp only
    rw [settled_core, if_neg (by omega), not_sysBuffer hb, Bool.not_false, if_pos rfl, u32_of_toNat]
    rfl
  | jdone i d a b ha =>
    refine issue_traps h ?_
    dsimp only
    rw [settled_core, if_pos ha]
    exact congrArg _ (wordR_eq i 0x32 d a b 2)
  | lcswapContext i d a b ha =>
    refine issue_traps h ?_
    dsimp only
    rw [settled_core, if_pos ha]
    exact congrArg _ (wordR_eq i 0x33 d a b 0)
  | lcswapImage i d a b ha hb =>
    refine issue_traps h ?_
    dsimp only
    rw [settled_core, if_neg (by omega), not_sysBuffer hb, Bool.not_false, if_pos rfl]
    rfl

/-! ### The fetch -/

/-- A core that is free traps on the fetch of its next instruction outside core-local memory (R71). -/
theorem issue_fetch (h : coreFree s i) {len : Nat} (hp : 0x100000 < (s.core i.lane i.core).pc.toNat + len) (uses : List VReg)
    (k : State → State) : issue i len uses s k =
      if 0x100000 ≤ (s.core i.lane i.core).pc.toNat then trap s i.lane i.core 4 4 (s.core i.lane i.core).pc
      else trap s i.lane i.core 4 len ((s.core i.lane i.core).pc + 4) := by
  obtain ⟨hr, hf, hb⟩ := h
  have ho (len : Nat) (tval : Word) : issueEnd i s (trap s i.lane i.core 4 len tval) = trap s i.lane i.core 4 len tval :=
    issueEnd_eq (onlyCores_trap ..).lanesUp (onlyCores_trap ..).pending (stallGuard_free hb _ _)
  rw [issue_running hr hf, if_pos hp]
  split
  · exact ho ..
  · exact ho ..

/-- Settles O20: the trap is entered where the instruction, or its fetch, does nothing but trap. -/
theorem trapEntry : Obligations.TrapEntry := by
  unfold Obligations.TrapEntry
  have entry {s : State} {x : Instr} {i : Issue} {us : List VReg} {code : Nat} {tval : Word} (hc : TrapCase s x i us code tval)
      (h : coreReady s i 4) (ht : (s.core i.lane i.core).trap = false) :
      exec x s = .next (s.modCore i.lane i.core fun c => (c.settle (us.map Fin.val)).trapped code tval) := by
    have hu : ((s.settled i us).core i.lane i.core).trap = false := by
      rw [settled_core]
      exact (Core.settle_trap ..).trans ht
    rw [exec_trapCase hc h, trap_first hu]
    exact congrArg Host.Outcome.next (State.modCore_modCore ..)
  refine ⟨fun s x i us code tval => entry, fun s i w h ht => entry (.ill i w) h ht, fun s x i n hx hf ht => ?_⟩
  obtain ⟨h0, hi⟩ := issues_of_issued hx
  obtain ⟨us, k, he⟩ := hi s
  refine ⟨fun hp => ?_, fun hp hn => ?_⟩
  · rw [he, issue_fetch hf (by omega), if_pos hp, trap_first ht]
    rfl
  · rw [he, issue_fetch hf (by omega), if_neg (by omega), trap_first ht, if_pos hn, Nat.add_comm]
    rfl

/-! ### The second trap -/

/-- The core halts with its program counter and trap registers as they were, the other seven of its lane hear of it (R83, R91). -/
def HaltsSecond (s : State) (x : Instr) (i : Issue) (code : Nat) : Prop := Ends x s fun t =>
  (t.core i.lane i.core).run = .halted ∧ (t.core i.lane i.core).pc = (s.core i.lane i.core).pc ∧
  (t.core i.lane i.core).tcause = (s.core i.lane i.core).tcause ∧ (t.core i.lane i.core).tpc = (s.core i.lane i.core).tpc ∧
  (t.core i.lane i.core).tval = (s.core i.lane i.core).tval ∧ (t.core i.lane i.core).trap = true ∧
  (∀ k : Fin 8, k ≠ i.core → t.core i.lane k = (s.core i.lane k).post
    ⟨2, 2, i.core, (s.core i.lane i.core).tcause.toNat % 256 * 256 + code, false⟩) ∧
  (∀ k, t.core i.lane.other k = s.core i.lane.other k) ∧ supFrame s t ∧ only [.cores, .events] s t

/-- A trap of a core with ST.TRAP = 1, from a state `u` that differs from `s` in loads that have returned. -/
theorem haltsSecond_of_trap {x : Instr} {u : State} {rs : List Nat} {code len : Nat} {tval : Word}
    (hx : exec x s = .next (trap u i.lane i.core code len tval)) (hu : OnlyCores i.lane s u)
    (hc : u.core i.lane i.core = (s.core i.lane i.core).settle rs) (hk : ∀ k : Fin 8, k ≠ i.core → u.core i.lane k = s.core i.lane k)
    (ht : (s.core i.lane i.core).trap = true) (hn : code < 256) : HaltsSecond s x i code := by
  have hut : (u.core i.lane i.core).trap = true := by rw [hc, Core.settle_trap, ht]
  have hcore := core_trap_second hut code len tval
  have ho := hu.trans (onlyCores_trap u i.lane i.core code len tval)
  have hown : (trap u i.lane i.core code len tval).core i.lane i.core = ((s.core i.lane i.core).settle rs).halted := by
    rw [hcore, if_pos rfl, hc]
  refine ⟨_, hx, ?_, ?_, ?_, ?_, ?_, ?_, fun k hne => ?_, ho.core_other, ho.supFrame, ho.only⟩
  · rw [hown, Core.halted]
  · rw [hown, Core.halted, Core.settleAll_pc, Core.settle_pc]
  · rw [hown, Core.halted, Core.settleAll_tcause, Core.settle_tcause]
  · rw [hown, Core.halted, Core.settleAll_tpc, Core.settle_tpc]
  · rw [hown, Core.halted, Core.settleAll_tval, Core.settle_tval]
  · rw [hown, Core.halted, Core.settleAll_trap, Core.settle_trap, ht]
  · rw [hcore, if_neg hne, hk k hne, hc, Core.settle_tcause, Nat.mod_eq_of_lt hn]

theorem TrapCase.code_lt {x : Instr} {us : List VReg} {code : Nat} {tval : Word} (h : TrapCase s x i us code tval) : code < 256 := by
  cases h <;> decide

/-- Settles O21: what traps first when ST.TRAP is 0 halts the core when it is 1. -/
theorem secondTrapHalts : Obligations.SecondTrapHalts := by
  unfold Obligations.SecondTrapHalts
  refine ⟨fun s x i us code tval hc h ht => ?_, fun s x i n hx => ?_⟩
  · exact haltsSecond_of_trap (exec_trapCase hc h) (onlyCores_settled s i us) (settled_core s i us)
      (fun k hk => State.core_modCore _ _ _ _ _ _ (.inr fun e => hk (Fin.ext e))) ht hc.code_lt
  · obtain ⟨h0, hi⟩ := issues_of_issued hx
    obtain ⟨us, k, he⟩ := hi s
    refine ⟨fun hf ht hp => ?_, fun hr => by rw [he, issue_still hr]; rfl⟩
    have halts {len : Nat} {tval : Word} (hx : exec x s = .next (trap s i.lane i.core 4 len tval)) : HaltsSecond s x i 4 :=
      haltsSecond_of_trap (rs := []) hx (onlyCores_refl _ s) rfl (fun _ _ => rfl) ht (by decide)
    rw [issue_fetch hf hp] at he
    split at he
    · exact halts he
    · exact halts he

end Sys2Proof.Machine
end

section
/-! PROOFS. The special registers (O23), and the registers at reset (O3). -/

namespace Sys2Proof.Machine

variable {s : State} {i : Issue}

/-! ### What MFS reads -/

theorem st_eq (c : Core) : c.st =
    (0 : BitVec 28) ++ BitVec.ofBool c.trap ++ BitVec.ofBool c.algn ++ BitVec.ofBool c.aov ++ BitVec.ofBool c.sat := by
  unfold Core.st
  cases c.trap <;> cases c.algn <;> cases c.aov <;> cases c.sat <;> rfl

/-- The eight predicates as PREDS shows them, p7 first. -/
def predsWord (p7 p6 p5 p4 p3 p2 p1 : Bool) : Word :=
  (0 : BitVec 24) ++ BitVec.ofBool p7 ++ BitVec.ofBool p6 ++ BitVec.ofBool p5 ++ BitVec.ofBool p4 ++ BitVec.ofBool p3 ++
    BitVec.ofBool p2 ++ BitVec.ofBool p1 ++ BitVec.ofBool true

theorem u32_predsWord (p7 p6 p5 p4 p3 p2 p1 : Bool) :
    u32 (1 + b2n p1 * 2 + b2n p2 * 4 + b2n p3 * 8 + b2n p4 * 16 + b2n p5 * 32 + b2n p6 * 64 + b2n p7 * 128) =
      predsWord p7 p6 p5 p4 p3 p2 p1 := by
  revert p7 p6 p5 p4 p3 p2 p1
  decide

theorem preds_eq (c : Core) : c.preds = predsWord (c.pred 7) (c.pred 6) (c.pred 5) (c.pred 4) (c.pred 3) (c.pred 2) (c.pred 1) :=
  u32_predsWord ..

theorem evqstat_eq (c : Core) : c.evqstat = BitVec.ofNat 32
    (c.lost * 16777216 + (if c.ovf then 65536 else 0) + (c.evq.takeWhile fun e => !e.hidden).length) := by
  unfold Core.evqstat
  cases c.ovf <;> rfl

theorem u32_num (l : LaneId) : u32 l.num = match l with
    | .a => 0
    | .b => 1 := by cases l <;> rfl

theorem readSpr_unallocated (s : State) (l : LaneId) (k : Nat) (c : Core) {n : Nat} (h : 12 ≤ n ∧ n ≤ 31 ∨ 37 ≤ n) :
    readSpr s l k c n = 0 := by
  unfold readSpr
  split
  all_goals first | rfl | omega

theorem readSpr_settled (s : State) (i : Issue) (us : List VReg) (l : LaneId) (k : Nat) (c : Core) (n : Nat) :
    readSpr (s.settled i us) l k c n = readSpr s l k c n := by
  simp only [readSpr, cycleOf, State.settled, State.modCore_now]

/-- MFS of a register other than CYCLE writes vD alone (R79). -/
theorem mfs_ready (h : coreReady s i 4) (d : VReg) {n : Fin 128} (hn : n.val ≠ 8) {f : Core → Word}
    (e : ∀ c, readSpr s i.lane i.core c n = f c) : exec (.mfs i d n) s = .next (s.ran i [d] 4 fun c => c.setV d (f c)) := by
  refine congrArg Host.Outcome.next (issue_does h ?_ (State.modCore_lanesUp ..) (State.modCore_pending ..))
  refine (State.modCore_modCore ..).trans (State.modCore_congr ?_)
  have hr := fun c => (readSpr_settled s i [d] i.lane i.core c n).trans (e c)
  unfold State.settled at hr
  dsimp only
  rw [if_neg hn, hr]

/-- MFS of CYCLE latches its high half as well (R79). -/
theorem mfs_cycle (h : coreReady s i 4) (d : VReg) : exec (.mfs i d 8) s = .next (s.ran i [d] 4 fun c =>
    { c.setV d (BitVec.ofNat 32 (4 * (s.now - c.cycle0))) with
      cycleh := BitVec.ofNat 32 (4 * (s.now - c.cycle0) / 4294967296) }) := by
  refine congrArg Host.Outcome.next (issue_does h ?_ (State.modCore_lanesUp ..) (State.modCore_pending ..))
  refine (State.modCore_modCore ..).trans (State.modCore_congr ?_)
  simp only [readSpr, cycleOf, State.modCore_now]
  rfl

/-! ### What MTS writes -/

theorem drainAll_none {l : LaneId} {c : Nat} {p : BufStore → Bool} (h : ∀ b ∈ (s.core l c).stores, p b = false) :
    drainAll s l c p = s := by
  have hd : drainFirst s l c p = s := by
    have hn : (s.core l c).stores.find? p = none := List.find?_eq_none.2 fun b hb => by rw [h b hb]; decide
    rw [drainFirst, hn]
  unfold drainAll
  induction List.range (s.core l c).stores.length with
  | nil => rfl
  | cons x xs ih => rw [List.foldl_cons, hd, ih]

/-- A fence of a core with no store waits for its loads only. -/
theorem fenceE_no_stores {l : LaneId} {c : Nat} (h : (s.core l c).stores = []) : fenceE s l c = s.modCore l c Core.settleAll := by
  refine drainAll_none fun b hb => ?_
  rw [State.core_modCore_same, Core.settleAll_stores, h] at hb
  cases hb

theorem bit_eq_getLsbD (w : Word) (k : Nat) : bit w k = w.getLsbD k := nbit_eq_testBit w.toNat k

theorem setPred_bits (c : Core) (w : Word) : (List.range 8).foldl (fun c k => c.setPred k (bit w k)) c =
    (List.range 8).foldl (fun c k => c.setPred k (w.getLsbD k)) c := by
  simp only [bit_eq_getLsbD]

/-- MTS of a register other than WINBASE writes it once earlier loads have returned (R80). -/
theorem mts_ready (h : coreReady s i 4) (a : VReg) {n : Fin 128} (hn : n.val ≠ 10) {f : Core → Word → Core}
    (e : ∀ c w, c.writeSpr n w = f c w) : exec (.mts i a n) s = .next (s.modCore i.lane i.core fun c =>
      (f (c.settle [a.val]).settleAll ((c.settle [a.val]).settleAll.getV a)).advance 4) := by
  refine congrArg Host.Outcome.next (issue_does h ?_ (State.modCore_lanesUp ..) (State.modCore_pending ..))
  dsimp only
  rw [if_neg hn, State.modCore_modCore, State.modCore_modCore]
  refine State.modCore_congr ?_
  rw [e]
  rfl

/-- MTS to WINBASE completes a FENCE.E first (R112). -/
theorem mts_winbase (h : coreReady s i 4) (a : VReg) {u : State}
    (hu : fenceE (s.modCore i.lane i.core fun x => (x.settle [a.val]).settleAll) i.lane i.core = u) (hl : u.lanesUp = s.lanesUp) :
    exec (.mts i a 10) s = .next (u.modCore i.lane i.core fun c => ({ c with winbase := (c.getV a).toNat % 4 }).advance 4) := by
  have hp : u.pending = s.pending := by rw [← hu, fenceE_pending, State.modCore_pending]
  refine congrArg Host.Outcome.next (issue_does h ?_ ((State.modCore_lanesUp ..).trans hl) ((State.modCore_pending ..).trans hp))
  dsimp only
  rw [if_pos (show ((10 : Fin 128) : Nat) = 10 from rfl), State.modCore_modCore]
  rw [← hu]
  rfl

theorem mts_winbase_no_stores (h : coreReady s i 4) (a : VReg) (hs : (s.core i.lane i.core).stores = []) :
    exec (.mts i a 10) s = .next (s.modCore i.lane i.core fun c =>
      ({ (c.settle [a.val]).settleAll with winbase := ((c.settle [a.val]).settleAll.getV a).toNat % 4 }).advance 4) := by
  have hc : ((s.modCore i.lane i.core fun x => (x.settle [a.val]).settleAll).core i.lane i.core).stores = [] := by
    rw [State.core_modCore_same, Core.settleAll_stores, Core.settle_stores, hs]
  rw [mts_winbase h a (fenceE_no_stores hc) (by simp only [State.modCore_lanesUp]), State.modCore_modCore, State.modCore_modCore]
  simp only [Core.settleAll_settleAll]

theorem writeSpr_st (c : Core) (w : Word) :
    c.writeSpr 0 w = { c with algn := w.getLsbD 2, aov := w.getLsbD 1, sat := w.getLsbD 0 } := by
  simp only [Core.writeSpr, bit_eq_getLsbD]

theorem writeSpr_evqctl (c : Core) (w : Word) :
    c.writeSpr 33 w = if w.getLsbD 0 then { c with lost := 0, ovf := false } else c := by
  simp only [Core.writeSpr, bit_eq_getLsbD]

theorem writeSpr_ignored (c : Core) (w : Word) {n : Nat}
    (h : n = 1 ∨ n = 3 ∨ 5 ≤ n ∧ n ≤ 9 ∨ 12 ≤ n ∧ n ≤ 31 ∨ 34 ≤ n) : c.writeSpr n w = c := by
  unfold Core.writeSpr
  split
  all_goals first | rfl | omega

/-- Settles O23: each special register is one row of `readSpr` and of `writeSpr`. -/
theorem specialRegisters : Obligations.SpecialRegisters := by
  unfold Obligations.SpecialRegisters
  intro s i d a n h R W b cyc
  have reads (m : Fin 128) {f : Core → Word} (hm : m.val ≠ 8) (e : ∀ c, readSpr s i.lane i.core c m = f c) : R m f := mfs_ready h d hm e
  have writes (m : Fin 128) {f : Core → Word → Core} (hm : m.val ≠ 10) (e : ∀ c w, c.writeSpr m w = f c w) : W m f := mts_ready h a hm e
  have atOnce (hs : (s.core i.lane i.core).stores = []) : W 10 fun c w => { c with winbase := w.toNat % 4 } :=
    mts_winbase_no_stores h a hs
  clear_value R W
  exact ⟨reads 0 (by decide) st_eq, reads 1 (by decide) fun _ => rfl, reads 2 (by decide) fun _ => rfl,
    reads 3 (by decide) fun _ => rfl, reads 4 (by decide) fun _ => rfl, reads 5 (by decide) evqstat_eq,
    reads 6 (by decide) fun _ => u32_num i.lane, reads 7 (by decide) fun _ => rfl, mfs_cycle h d, reads 9 (by decide) fun _ => rfl,
    reads 10 (by decide) fun _ => rfl, reads 11 (by decide) preds_eq, reads 32 (by decide) fun _ => rfl,
    reads 33 (by decide) fun _ => rfl, reads 34 (by decide) fun _ => rfl, reads 35 (by decide) fun _ => rfl,
    reads 36 (by decide) fun _ => rfl, fun hn => reads n (by omega) fun c => readSpr_unallocated _ _ _ _ hn,
    writes 0 (by decide) writeSpr_st, writes 2 (by decide) fun _ _ => rfl, writes 4 (by decide) fun _ _ => rfl,
    atOnce, fun hu => mts_winbase h a rfl hu, writes 11 (by decide) setPred_bits, writes 32 (by decide) fun _ _ => rfl,
    writes 33 (by decide) writeSpr_evqctl, fun hn => writes n (by omega) fun c w => writeSpr_ignored c w hn⟩

/-! ### Reset -/

theorem rget_reset (l : LaneId) (a : Nat) : rget State.reset l a = resetAt a := by
  have hn : (if laneHeld a then (State.reset.lane l).regs else State.reset.sregs) = [] := by
    cases l <;> split <;> rfl
  rw [rget, hn]
  rfl

theorem core_reset (l : LaneId) (c : Nat) : State.reset.core l c = {} := by cases l <;> rfl

theorem seq_reset (n : Nat) : State.reset.seq n = {} := rfl

theorem lmem_reset (l : LaneId) (n a : Nat) : mread (tget (State.reset.lane l).lmem n) a = 0 := by cases l <;> rfl

/-- Settles O3: what nothing has written holds the default of its table, which is the reset value of its row. -/
theorem resetLeavesTheSpecsValues : Obligations.ResetLeavesTheSpecsValues := by
  unfold Obligations.ResetLeavesTheSpecsValues
  refine ⟨rfl, rfl, rfl, rfl, rfl, rget_reset, fun l c => ?_, fun n => ?_, fun l a => lmem_reset l a a, ?_, ?_, ?_, ?_, ?_⟩
  · rw [core_reset]
    refine ⟨rfl, fun _ => rfl, fun _ => rfl, fun n => ?_, rfl, rfl, rfl, rfl, rfl, rfl⟩
    cases n <;> rfl
  · rw [seq_reset]
    exact ⟨rfl, rfl⟩
  all_goals rfl

end Sys2Proof.Machine
end

section
/-! PROOFS. Loads (O24): what a load reads at its issue, and the load that it leaves outstanding (R72 to R77). -/

namespace Sys2Proof.Machine

variable {s : State} {i : Issue}

/-! ### What a load reads -/

theorem mreadLE_lt (m : Memory) (a n : Nat) : mreadLE m a n < 256 ^ n := by
  induction n generalizing a with
  | zero => exact Nat.zero_lt_one
  | succ n ih =>
    have hb := (mread m a).isLt
    have hn := ih (a + 1)
    rw [mreadLE, Nat.pow_succ]
    omega

theorem accessTrap_memory {a n : Nat} {c : Core} {st : Bool} (h : regionOf a = .own ∨ regionOf a = .sram ∨ regionOf a = .dram)
    (ha : a % n = 0 ∨ c.algn = false) : accessTrap c a n st = none := by
  have hn : ¬ (a % n ≠ 0 ∧ c.algn = true) := fun ⟨hx, hy⟩ => by
    rcases ha with ha | ha
    · exact hx ha
    · rw [ha] at hy
      cases hy
  unfold accessTrap
  rcases h with h | h | h <;> rw [h] <;> exact if_neg hn

theorem accessTrap_regs {a n : Nat} {st : Bool} (h : regionOf a = .regs) (ha : a % n = 0) (hs : st = true → n = 4) (c : Core) :
    accessTrap c a n st = none := by
  have hw : (st && n != 4) = false := by
    cases st
    · rfl
    · rw [hs rfl]
      rfl
  unfold accessTrap
  rw [h]
  dsimp only
  rw [hw, if_neg Bool.false_ne_true, if_neg (not_not.2 ha)]

theorem accessTrap_reserved {a n : Nat} (h : regionOf a = .reserved) (ha : a % n = 0) (c : Core) (st : Bool) :
    accessTrap c a n st = none := by
  unfold accessTrap
  rw [h]
  exact if_neg (not_not.2 ha)

/-- No buffered store reaches the bytes: they are read in memory (R77). -/
theorem loadData_free {l : LaneId} {c a n win : Nat} (h : ∀ b ∈ (s.core l c).stores, ∀ j < n, b.covers win (a + j) = false) :
    loadData s l c a n win = (memRead s l c a n win, dramLoad s l a n win) := by
  have hh : ((s.core l c).stores.filter fun b => (List.range n).any fun k => b.covers win (a + k)) = [] := by
    refine List.filter_eq_nil_iff.2 fun b hb => ?_
    rw [Bool.not_eq_true, List.any_eq_false]
    exact fun k hk => by rw [h b hb k (List.mem_range.1 hk)]; decide
  rw [loadData, hh]
  rfl

/-- The latest buffered store lies at the very place: its bytes are read (R77). -/
theorem loadData_forward {l : LaneId} {c n win : Nat} {q : List BufStore} {b : BufStore} (h : (s.core l c).stores = q ++ [b])
    (hs : b.size = n) (hn : 0 < n) (hr : regionOf b.addr ≠ .dram) : loadData s l c b.addr n win = (b.data % 256 ^ n, s) := by
  have hc : ∀ k ∈ List.range n, b.covers win (b.addr + k) = true := by
    intro k hk
    have hk := List.mem_range.1 hk
    rw [BufStore.covers, Bool.and_eq_true, Bool.or_eq_true]
    exact ⟨decide_eq_true (by omega), .inr (bne_iff_ne.2 hr)⟩
  have hany : ((List.range n).any fun k => b.covers win (b.addr + k)) = true :=
    List.any_eq_true.2 ⟨0, List.mem_range.2 hn, hc 0 (List.mem_range.2 hn)⟩
  have hl : (((s.core l c).stores.filter fun b' => (List.range n).any fun k => b'.covers win (b.addr + k))).getLast? = some b := by
    have hb : ([b].filter fun b' => (List.range n).any fun k => b'.covers win (b.addr + k)) = [b] := List.filter_eq_self.2 fun b' hb' => by
      rw [List.mem_singleton.1 hb', hany]
    rw [h, List.filter_append, hb, List.getLast?_concat]
  rw [loadData, hl]
  dsimp only
  rw [if_pos (List.all_eq_true.2 hc), Nat.sub_self, Nat.pow_zero, Nat.div_one]

/-- The access of a load, from the state in which its registers are settled. -/
def loadAccess (s : State) (l : LaneId) (c a n win : Nat) : Nat × State :=
  if a % n ≠ 0 then ((Config.freeWord s.freeCtr).toNat % 256 ^ n, { s with freeCtr := s.freeCtr + 1 })
  else match regionOf a with
    | .regs | .reserved => loadReg s l c a n
    | _ => loadData s l c a n win

theorem loadAccess_misaligned {a n : Nat} (h : a % n ≠ 0) (s : State) (l : LaneId) (c win : Nat) : loadAccess s l c a n win =
    ((Config.freeWord s.freeCtr).toNat % 256 ^ n, { s with freeCtr := s.freeCtr + 1 }) := if_pos h

theorem loadAccess_memory {a n : Nat} (h : regionOf a = .own ∨ regionOf a = .sram ∨ regionOf a = .dram) (ha : a % n = 0) (s : State)
    (l : LaneId) (c win : Nat) : loadAccess s l c a n win = loadData s l c a n win := by
  rw [loadAccess, if_neg (not_not.2 ha)]
  rcases h with h | h | h <;> rw [h]

theorem loadAccess_registers {a n : Nat} (h : regionOf a = .regs ∨ regionOf a = .reserved) (ha : a % n = 0) {l : LaneId} {c : Nat}
    (hs : ∀ b ∈ (s.core l c).stores, b.isReg = false) (win : Nat) : loadAccess s l c a n win =
      if regionOf a = .reserved then (0, s)
      else ((regRead s l c (a / 4 * 4)).1 / 256 ^ (a % 4) % 256 ^ n, keep s (regRead s l c (a / 4 * 4)).2) := by
  rw [loadAccess, if_neg (not_not.2 ha)]
  rcases h with h | h <;> rw [h] <;> dsimp only <;> rw [loadReg, drainAll_none hs, h]

/-! ### The outstanding load -/

/-- With four loads outstanding the oldest returns (R77). -/
def Core.room (x : Core) : Core :=
  match x.loads with
  | p :: _ :: _ :: _ :: _ => x.settle1 p.dst
  | _ => x

/-- The core with one more outstanding load, past the instruction. -/
def Core.owes (x : Core) (d : VReg) (w : Word) (dram : Bool) : Core :=
  ({ x.room with loads := x.room.loads ++ [PendLoad.mk d w dram] }).advance 4

/-- With four loads outstanding the oldest that `p` lets return does. -/
def Core.roomBy (x : Core) (p : PendLoad → Bool) : Core :=
  if 4 ≤ x.loads.length then match x.loads.find? p with
    | some q => x.settle1 q.dst
    | none => x.settleAll else x

/-- Where nothing holds the lane's requests, the oldest outstanding load can return. -/
theorem Core.roomBy_eq (x : Core) {p : PendLoad → Bool} (hp : ∀ q, p q = true) : x.roomBy p = x.room := by
  unfold Core.roomBy Core.room
  rcases x.loads with _ | ⟨q, _ | ⟨_, _ | ⟨_, _ | ⟨_, _⟩⟩⟩⟩
  case cons.cons.cons.cons => rw [if_pos (by simp only [List.length_cons]; omega), List.find?_cons_of_pos (hp q)]
  all_goals rfl

theorem laneBlocked_modCore (s : State) (l m : LaneId) (c : Nat) (f : Core → Core) :
    laneBlocked (s.modCore m c f) l = laneBlocked s l := by cases m <;> rfl

/-- What a load does once its registers are settled. -/
def loadWork (i : Issue) (d a : VReg) (k : BitVec 12) (n : Nat) (e : Nat → Word) (s : State) : State :=
  let x := s.core i.lane i.core
  let ea := (x.ea a k).toNat
  match accessTrap x ea n false with
  | some t => trap s i.lane i.core t 4 (u32 ea)
  | none =>
    let r := loadAccess s i.lane i.core ea n x.winbase
    r.2.modCore i.lane i.core fun y =>
      let y := y.roomBy fun p => !(p.dram && laneBlocked s i.lane)
      ({ y with loads := y.loads ++ [PendLoad.mk d (e r.1) (regionOf ea == Region.dram)] }).advance 4

theorem load_eq (i : Issue) (d a : VReg) (k : BitVec 12) (n : Nat) (e : Nat → Word) (s : State) :
    load i d a k n e s = issue i 4 [d, a] s (loadWork i d a k n e) := rfl

/-- A load that raises no trap: its value is read now and owed to vD. -/
theorem load_ready (h : coreReady s i 4) {d a : VReg} {k : BitVec 12} {n v : Nat} {e : Nat → Word} {t : State}
    (ht : accessTrap (s.at i [d, a]) (effAddr (s.at i [d, a]) a k) n false = none)
    (hr : loadAccess (s.settled i [d, a]) i.lane i.core (effAddr (s.at i [d, a]) a k) n (s.at i [d, a]).winbase = (v, t))
    (hu : t.lanesUp = s.lanesUp) (hp : t.pending = s.pending) :
    load i d a k n e s = t.modCore i.lane i.core fun x => x.owes d (e v) (regionOf (effAddr (s.at i [d, a]) a k) == Region.dram) := by
  rw [load_eq]
  refine issue_does h ?_ ((State.modCore_lanesUp ..).trans hu) ((State.modCore_pending ..).trans hp)
  change loadWork i d a k n e (s.settled i [d, a]) = _
  obtain ⟨-, -, -, -, -, hb⟩ := h
  have he : ((s.at i [d, a]).ea a k).toNat = effAddr (s.at i [d, a]) a k := rfl
  have hbl : laneBlocked (s.settled i [d, a]) i.lane = false := (laneBlocked_modCore ..).trans hb
  unfold loadWork
  dsimp only
  rw [settled_core, he, ht]
  dsimp only
  rw [hr, hbl]
  refine congrArg (t.modCore i.lane i.core) (funext fun x => ?_)
  rw [Core.roomBy_eq x fun q => by rw [Bool.and_false, Bool.not_false]]
  rfl

/-! ### Each place that a load reads -/

theorem memRead_own {a : Nat} (h : regionOf a = .own) (s : State) (l : LaneId) (c n w : Nat) :
    memRead s l c a n w = mreadLE (tget (s.lane l).lmem c) a n := by rw [memRead, h]

theorem memRead_sram {a : Nat} (h : regionOf a = .sram) (s : State) (l : LaneId) (c n w : Nat) :
    memRead s l c a n w = mreadLE (s.lane l).sram (a - 0x1000000) n := by rw [memRead, h]

theorem memRead_dram {a : Nat} (h : regionOf a = .dram) (s : State) (l : LaneId) (c n w : Nat) :
    memRead s l c a n w = mreadLE (s.gib (windowGib l w)) (a - 0x40000000) n := by rw [memRead, h]

/-- Memory that no buffered store reaches is read as it is. -/
theorem loadAccess_free {a n : Nat} (h : regionOf a = .own ∨ regionOf a = .sram ∨ regionOf a = .dram) (ha : a % n = 0)
    {us : List VReg} {win : Nat} (hf : ∀ b ∈ (s.at i us).stores, ∀ j < n, b.covers win (a + j) = false) :
    loadAccess (s.settled i us) i.lane i.core a n win =
      (memRead s i.lane i.core a n win, dramLoad (s.settled i us) i.lane a n win) := by
  rw [loadAccess_memory h ha, loadData_free (by rwa [settled_core])]
  exact congrArg (Prod.mk · _) (memRead_modCore ..)

section
variable {mk : Issue → VReg → VReg → BitVec 12 → Instr} {n v : Nat} {e : Nat → Word} {d a : VReg} {k : BitVec 12} {t : State}

theorem loadForm_pos (hm : (mk, n, e) ∈ loadForms) : 0 < n := by
  simp only [loadForms, List.mem_cons, Prod.mk.injEq, List.not_mem_nil, or_false] at hm
  omega

/-- A load instruction that raises no trap and reads `v`, which leaves the state `t`. -/
theorem exec_load (hm : (mk, n, e) ∈ loadForms) (h : coreReady s i 4)
    (ht : accessTrap (s.at i [d, a]) (effAddr (s.at i [d, a]) a k) n false = none)
    (hr : loadAccess (s.settled i [d, a]) i.lane i.core (effAddr (s.at i [d, a]) a k) n (s.at i [d, a]).winbase = (v, t))
    (hv : v < 256 ^ n) (hu : t.lanesUp = s.lanesUp) (hp : t.pending = s.pending) {m : Bool}
    (hd : (regionOf (effAddr (s.at i [d, a]) a k) == Region.dram) = m) :
    exec (mk i d a k) s = .next (t.modCore i.lane i.core fun x => x.owes d (e v) m) := by
  obtain ⟨e', he, hv'⟩ := exec_loadForm hm i d a k
  rw [he, load_ready h ht hr hu hp, hv' v hv, hd]
  rfl

/-- The same where reading changes nothing. -/
theorem exec_load_settled (hm : (mk, n, e) ∈ loadForms) (h : coreReady s i 4)
    (ht : accessTrap (s.at i [d, a]) (effAddr (s.at i [d, a]) a k) n false = none)
    (hr : loadAccess (s.settled i [d, a]) i.lane i.core (effAddr (s.at i [d, a]) a k) n (s.at i [d, a]).winbase =
      (v, s.settled i [d, a]))
    (hv : v < 256 ^ n) {m : Bool} (hd : (regionOf (effAddr (s.at i [d, a]) a k) == Region.dram) = m) :
    exec (mk i d a k) s = .next (s.modCore i.lane i.core fun x => (x.settle [d.val, a.val]).owes d (e v) m) := by
  have ho := onlyCores_settled s i [d, a]
  rw [exec_load hm h ht hr hv ho.lanesUp ho.pending hd]
  exact congrArg Host.Outcome.next (State.modCore_modCore ..)

end

theorem modCore_setDq (s : State) (l : LaneId) (c : Nat) (f : Core → Core) (q : DramQ) :
    { s.modCore l c f with dq := q } = ({ s with dq := q } : State).modCore l c f := by cases l <;> rfl

theorem modCore_setFree (s : State) (l : LaneId) (c : Nat) (f : Core → Core) (n : Nat) :
    { s.modCore l c f with freeCtr := n } = ({ s with freeCtr := n } : State).modCore l c f := by cases l <;> rfl

/-- Settles O24: a load reads at its place in program order, and its register is owed what it read. -/
theorem loadsRead : Obligations.LoadsRead := by
  unfold Obligations.LoadsRead
  intro s i d a k h f hm
  obtain ⟨mk, n, e⟩ := f
  intro n' c ea room out ends free
  have hn : 0 < n := loadForm_pos hm
  have ho := onlyCores_settled s i [d, a]
  have hst : ((s.settled i [d, a]).core i.lane i.core).stores = c.stores := by rw [settled_core]
  refine ⟨fun hl ha hf => ?_, fun hl hu ha hf => ?_, fun hl hu ha hf => ?_, fun hl ha q b hq hb hs => ?_, fun hl ha hc => ?_,
    fun hl ha hf => ?_, fun hl hu ha hf => ?_⟩
  · have hr := regionOf_own hl
    refine exec_load_settled hm h (accessTrap_memory (.inl hr) (.inl ha)) ?_ (mreadLE_lt ..) (by rw [hr]; rfl)
    rw [loadAccess_free (.inl hr) ha hf, memRead_own hr, dramLoad, hr]
    rfl
  · have hr := regionOf_sram hl hu
    refine exec_load_settled hm h (accessTrap_memory (.inr (.inl hr)) (.inl ha)) ?_ (mreadLE_lt ..) (by rw [hr]; rfl)
    rw [loadAccess_free (.inr (.inl hr)) ha hf, memRead_sram hr, dramLoad, hr]
    rfl
  · have hr := regionOf_dram hl hu
    intro g
    have hd : dramLoad (s.settled i [d, a]) i.lane ea n c.winbase =
        ({ s with dq := s.dq.meet (.lane i.lane) g (ea - 0x40000000) n } : State).settled i [d, a] := by
      rw [dramLoad, hr, if_pos rfl]
      refine (modCore_setDq ..).trans ?_
      rw [State.settled, State.modCore_dq]
      rfl
    have ht := onlyCores_settled ({ s with dq := s.dq.meet (.lane i.lane) g (ea - 0x40000000) n } : State) i [d, a]
    rw [exec_load hm h (accessTrap_memory (.inr (.inr hr)) (.inl ha)) ((loadAccess_free (.inr (.inr hr)) ha hf).trans
      (by rw [memRead_dram hr, hd])) (mreadLE_lt ..) ht.lanesUp ht.pending (m := true) (by rw [hr]; rfl)]
    exact congrArg Host.Outcome.next (State.modCore_modCore ..)
  · have hr : regionOf ea = .own ∨ regionOf ea = .sram := hl.imp regionOf_own fun ⟨k, l⟩ => regionOf_sram k l
    have hm3 : regionOf ea = .own ∨ regionOf ea = .sram ∨ regionOf ea = .dram := hr.imp_right .inl
    have hd : regionOf ea ≠ .dram := by rcases hr with hr | hr <;> rw [hr] <;> decide
    refine exec_load_settled hm h (accessTrap_memory hm3 (.inl ha)) ?_ (Nat.mod_lt _ (by positivity)) (beq_eq_false_iff_ne.2 hd)
    refine (loadAccess_memory hm3 ha ..).trans ?_
    have := loadData_forward (s := s.settled i [d, a]) (win := c.winbase) (hst.trans hq) hs hn (hb ▸ hd)
    rwa [hb] at this
  · have hr : (regionOf ea = .own ∨ regionOf ea = .sram ∨ regionOf ea = .dram) ∧
        (regionOf ea == Region.dram) = decide (0x40000000 ≤ ea) := by
      rcases hl with k | ⟨k, l⟩ | ⟨k, l⟩
      · rw [regionOf_own k, decide_eq_false (by omega)]
        exact ⟨.inl rfl, rfl⟩
      · rw [regionOf_sram k l, decide_eq_false (by omega)]
        exact ⟨.inr (.inl rfl), rfl⟩
      · rw [regionOf_dram k l, decide_eq_true k]
        exact ⟨.inr (.inr rfl), rfl⟩
    have ht := onlyCores_settled ({ s with freeCtr := s.freeCtr + 1 } : State) i [d, a]
    have hv : loadAccess (s.settled i [d, a]) i.lane i.core ea n c.winbase = ((Config.freeWord s.freeCtr).toNat % 256 ^ n,
        ({ s with freeCtr := s.freeCtr + 1 } : State).settled i [d, a]) := by
      rw [loadAccess_misaligned ha, State.settled, State.modCore_freeCtr, modCore_setFree]
      rfl
    rw [exec_load hm h (accessTrap_memory hr.1 (.inr hc)) hv (Nat.mod_lt _ (by positivity)) ht.lanesUp ht.pending hr.2]
    exact congrArg Host.Outcome.next (State.modCore_modCore ..)
  · have hr := regionOf_reserved hl
    refine exec_load_settled hm h (accessTrap_reserved hr ha ..) ?_ (by positivity) (by rw [hr]; rfl)
    exact (loadAccess_registers (.inr hr) ha (hst ▸ hf) _).trans (if_pos hr)
  · have hr := regionOf_regs hl hu
    have hv := (loadAccess_registers (s := s.settled i [d, a]) (.inl hr) ha (hst ▸ hf) c.winbase).trans
      (if_neg (by rw [hr]; decide))
    exact exec_load hm h (accessTrap_regs hr ha (fun x => by cases x) _) hv (Nat.mod_lt _ (by positivity))
      ((keep_lanesUp ..).trans ho.lanesUp) ((keep_pending ..).trans ho.pending) (by rw [hr]; rfl)

end Sys2Proof.Machine
end

section
/-! PROOFS. Stores (O25): a store enters the store buffer, whose oldest entry gives way when it is full (R77). -/

namespace Sys2Proof.Machine

variable {s : State} {i : Issue}

/-! ### A store of a ready core -/

/-- The core with one more buffered store, past the instruction. -/
def Core.buffers (x : Core) (a n d : Nat) : Core := ({ x with stores := x.stores ++ [BufStore.mk a n d x.winbase] }).advance 4

/-- With eight entries in the store buffer the oldest that can takes effect first. -/
def storeRoom (s : State) (l : LaneId) (c : Nat) : State :=
  if 8 ≤ (s.core l c).stores.length then drainFirst s l c fun b => !storeHeld s l b else s

/-- What a store does once its registers are settled. -/
def storeWork (i : Issue) (v a : VReg) (k : BitVec 12) (n : Nat) (s : State) : State :=
  let x := s.core i.lane i.core
  let ea := (x.ea a k).toNat
  match accessTrap x ea n true with
  | some t => trap s i.lane i.core t 4 (u32 ea)
  | none =>
    if 8 ≤ x.stores.length ∧ !x.stores.any fun b => !storeHeld s i.lane b then s else
    let s := storeRoom s i.lane i.core
    let d := if ea % n ≠ 0 then (Config.freeWord s.freeCtr).toNat % 256 ^ n else (x.getV v).toNat % 256 ^ n
    let s := if ea % n ≠ 0 then { s with freeCtr := s.freeCtr + 1 } else s
    s.modCore i.lane i.core fun y => y.buffers ea n d

theorem store_eq (i : Issue) (v a : VReg) (k : BitVec 12) (n : Nat) (s : State) :
    store i v a k n s = issue i 4 [v, a] s (storeWork i v a k n) := rfl

theorem storeHeld_free {l : LaneId} (h : laneBlocked s l = false) (b : BufStore) : storeHeld s l b = false := by
  rw [storeHeld, h, Bool.and_false, Bool.false_and]

section
variable {mk : Issue → VReg → VReg → BitVec 12 → Instr} {v a : VReg} {k : BitVec 12} {n w : Nat} {r t : State}

/-- A store instruction that raises no trap: it finds room in `r`, and buffers `w` in the state `t`. -/
theorem exec_store (hm : (mk, n) ∈ storeForms) (h : coreReady s i 4)
    (ht : accessTrap (s.at i [v, a]) (effAddr (s.at i [v, a]) a k) n true = none)
    (hr : storeRoom (s.settled i [v, a]) i.lane i.core = r)
    (hw : (if effAddr (s.at i [v, a]) a k % n ≠ 0 then (Config.freeWord r.freeCtr).toNat % 256 ^ n
      else ((s.at i [v, a]).getV v).toNat % 256 ^ n) = w)
    (hf : (if effAddr (s.at i [v, a]) a k % n ≠ 0 then { r with freeCtr := r.freeCtr + 1 } else r) = t)
    (hu : t.lanesUp = s.lanesUp) (hp : t.pending = s.pending) :
    exec (mk i v a k) s = .next (t.modCore i.lane i.core fun y => y.buffers (effAddr (s.at i [v, a]) a k) n w) := by
  rw [exec_storeForm hm, store_eq]
  refine congrArg Host.Outcome.next
    (issue_does h ?_ ((State.modCore_lanesUp ..).trans hu) ((State.modCore_pending ..).trans hp))
  change storeWork i v a k n (s.settled i [v, a]) = _
  obtain ⟨-, -, -, -, -, hb⟩ := h
  have he : ((s.at i [v, a]).ea a k).toNat = effAddr (s.at i [v, a]) a k := rfl
  have hbl : laneBlocked (s.settled i [v, a]) i.lane = false := (laneBlocked_modCore ..).trans hb
  have hfree : ¬ (8 ≤ (s.at i [v, a]).stores.length ∧
      (!(s.at i [v, a]).stores.any fun b => !storeHeld (s.settled i [v, a]) i.lane b) = true) := by
    rintro ⟨hl, hn⟩
    obtain ⟨b, q, hq⟩ := List.exists_cons_of_length_pos (Nat.lt_of_lt_of_le (by decide) hl)
    rw [hq, List.any_cons, storeHeld_free hbl b] at hn
    cases hn
  unfold storeWork
  dsimp only
  rw [settled_core, he, ht]
  dsimp only
  rw [if_neg hfree, hr, hw, hf]

/-- With fewer than eight entries nothing gives way. -/
theorem storeRoom_short {l : LaneId} {c : Nat} (h : (s.core l c).stores.length < 8) : storeRoom s l c = s := if_neg (by omega)

/-- With eight entries and nothing held, the oldest takes effect. -/
theorem storeRoom_full {l : LaneId} {c : Nat} {b : BufStore} {q : List BufStore} (h : (s.core l c).stores = b :: q)
    (hq : 7 ≤ q.length) (hb : laneBlocked s l = false) :
    storeRoom s l c = applyStore (s.modCore l c fun x => { x with stores := q }) l c b := by
  have hp (e : BufStore) : (!storeHeld s l e) = true := by rw [storeHeld_free hb, Bool.not_false]
  rw [storeRoom, if_pos (by rw [h, List.length_cons]; omega), drainFirst, h,
    List.find?_cons_of_pos (p := fun e => !storeHeld s l e) (hp b)]
  refine congrArg (applyStore · l c b) (State.modCore_congr ?_)
  rw [h, List.eraseP_cons_of_pos (p := fun e => !storeHeld s l e) (hp b)]

/-! ### Where a store takes effect -/

theorem applyStore_own {b : BufStore} (h : regionOf b.addr = .own) (s : State) (l : LaneId) (c : Nat) : applyStore s l c b =
    s.modLane l fun x => { x with lmem := tmod x.lmem c fun m => mwriteLE m b.addr b.size b.data } := by rw [applyStore, h]

theorem applyStore_sram {b : BufStore} (h : regionOf b.addr = .sram) (s : State) (l : LaneId) (c : Nat) : applyStore s l c b =
    s.modLane l fun x => { x with sram := mwriteLE x.sram (b.addr - 0x1000000) b.size b.data } := by rw [applyStore, h]

/-- A store into the lane's own memories leaves the supervisor. -/
theorem applyStore_memory_sup {b : BufStore} (h : regionOf b.addr = .own ∨ regionOf b.addr = .sram) (s : State) (l : LaneId)
    (c : Nat) : (applyStore s l c b).sup = s.sup := by
  rcases h with h | h
  · rw [applyStore_own h, State.modLane_sup]
  · rw [applyStore_sram h, State.modLane_sup]

end

/-- Where a store of `n` bytes to the address may go (R43, R73). -/
def storePlace (a n : Nat) : Prop :=
  a < 0x100000 ∨ 0x1000000 ≤ a ∧ a < 0x1800000 ∨ 0x40000000 ≤ a ∧ a < 0x80000000 ∨
    0xF0000000 ≤ a ∧ a < 0xF0C00000 ∧ n = 4 ∨ 0xF0C00000 ≤ a

theorem regionOf_memory {a : Nat} (h : a < 0x100000 ∨ 0x1000000 ≤ a ∧ a < 0x1800000 ∨ 0x40000000 ≤ a ∧ a < 0x80000000) :
    regionOf a = .own ∨ regionOf a = .sram ∨ regionOf a = .dram :=
  h.imp regionOf_own (Or.imp (fun ⟨k, l⟩ => regionOf_sram k l) fun ⟨k, l⟩ => regionOf_dram k l)

theorem accessTrap_storePlace {a n : Nat} (h : storePlace a n) (ha : a % n = 0) (c : Core) : accessTrap c a n true = none := by
  rcases h with h | h | h | ⟨hl, hu, hn⟩ | h
  · exact accessTrap_memory (regionOf_memory (.inl h)) (.inl ha)
  · exact accessTrap_memory (regionOf_memory (.inr (.inl h))) (.inl ha)
  · exact accessTrap_memory (regionOf_memory (.inr (.inr h))) (.inl ha)
  · exact accessTrap_regs (regionOf_regs hl hu) ha (fun _ => hn) c
  · exact accessTrap_reserved (regionOf_reserved h) ha c true

/-- Settles O25: a store is buffered with its address, size, bytes and window; a full buffer first lets its oldest entry go. -/
theorem storesBuffer : Obligations.StoresBuffer := by
  unfold Obligations.StoresBuffer
  intro s i v a k h f hm
  obtain ⟨mk, n⟩ := f
  intro n' c ea data put place
  have ho := onlyCores_settled s i [v, a]
  have hst : ((s.settled i [v, a]).core i.lane i.core).stores = c.stores := by rw [settled_core]
  refine ⟨fun hl ha hs => ?_, fun hl ha hc hs => ?_, fun hl ha b q hq h7 hr => ?_⟩
  · rw [exec_store hm h (accessTrap_storePlace hl ha c) (storeRoom_short (hst ▸ hs)) (if_neg (not_not.2 ha)) (if_neg (not_not.2 ha))
      ho.lanesUp ho.pending]
    exact congrArg Host.Outcome.next (State.modCore_modCore ..)
  · have ht := onlyCores_settled ({ s with freeCtr := s.freeCtr + 1 } : State) i [v, a]
    have hctr : (s.settled i [v, a]).freeCtr = s.freeCtr := State.modCore_freeCtr ..
    have hf : ({ s.settled i [v, a] with freeCtr := (s.settled i [v, a]).freeCtr + 1 } : State) =
        ({ s with freeCtr := s.freeCtr + 1 } : State).settled i [v, a] := by
      rw [hctr]
      exact modCore_setFree ..
    rw [exec_store hm h (accessTrap_memory (regionOf_memory hl) (.inr hc)) (storeRoom_short (hst ▸ hs)) (if_pos ha)
      ((if_pos ha).trans hf) ht.lanesUp ht.pending, hctr]
    exact congrArg Host.Outcome.next (State.modCore_modCore ..)
  · obtain ⟨-, -, -, -, -, hb⟩ := id h
    have hfull := storeRoom_full (hst.trans hq) h7 ((laneBlocked_modCore ..).trans hb)
    rw [State.settled, State.modCore_modCore] at hfull
    have hup (t : State) (ht : t.sup = s.sup) : t.lanesUp = s.lanesUp := by rw [State.lanesUp, ht, State.lanesUp]
    exact exec_store hm h (accessTrap_storePlace hl ha c) hfull (if_neg (not_not.2 ha)) (if_neg (not_not.2 ha))
      (hup _ ((applyStore_memory_sup hr ..).trans (State.modCore_sup ..)))
      ((applyStore_pending ..).trans (State.modCore_pending ..))

end Sys2Proof.Machine
end

section
/-! PROOFS. The return of loads and the drain of stores (O26): what a buffered store changes where it takes effect (R43, R45, R46). -/

namespace Sys2Proof.Machine

variable {s : State} {l : LaneId}

/-! ### Frames -/

theorem supFrame_trans {t u : State} (h : supFrame s t) (k : supFrame t u) : supFrame s u := by
  obtain ⟨h1, h2, h3, h4, h5, h6, h7, h8, h9, h10, h11, hl⟩ := h
  obtain ⟨k1, k2, k3, k4, k5, k6, k7, k8, k9, k10, k11, kl⟩ := k
  refine ⟨k1.trans h1, k2.trans h2, k3.trans h3, k4.trans h4, k5.trans h5, k6.trans h6, k7.trans h7, k8.trans h8, k9.trans h9,
    k10.trans h10, k11.trans h11, fun m => ?_⟩
  obtain ⟨hv, hr, hs, he⟩ := hl m
  obtain ⟨kv, kr, ks, ke⟩ := kl m
  exact ⟨kv.trans hv, kr.trans hr, ks.trans hs, ke.trans he⟩

/-- Work on a core that leaves its event queue. -/
theorem only_modCore {ps : List Part} (hp : Part.cores ∈ ps) {f : Core → Core}
    (hf : ∀ x, (f x).evq = x.evq ∧ (f x).lost = x.lost ∧ (f x).ovf = x.ovf) (s : State) (l : LaneId) (c : Nat) :
    only ps s (s.modCore l c f) := by
  intro p hn
  by_cases he : p = .events
  · subst he
    intro m d
    by_cases h : m = l ∧ d = c
    · obtain ⟨rfl, rfl⟩ := h
      rw [State.core_modCore_same]
      exact hf _
    · rw [State.core_modCore _ _ _ _ _ _ (not_and_or.1 h)]
      exact ⟨rfl, rfl, rfl⟩
  · refine (onlyCores_modCore s l c f).only p ?_
    simp only [List.mem_cons, List.not_mem_nil, or_false, not_or]
    exact ⟨fun e => hn (e ▸ hp), he⟩

/-! ### The store that leaves the buffer -/

/-- The state in which the store at place `k` of a core's buffer has left it. -/
def State.taken (s : State) (l : LaneId) (c k : Nat) : State := s.modCore l c fun x => { x with stores := x.stores.eraseIdx k }

theorem supFrame_taken (s : State) (l : LaneId) (c k : Nat) : supFrame s (s.taken l c k) := (onlyCores_modCore ..).supFrame

theorem only_taken {ps : List Part} (h : Part.cores ∈ ps) (s : State) (l : LaneId) (c k : Nat) : only ps s (s.taken l c k) :=
  only_modCore h (f := fun x => { x with stores := x.stores.eraseIdx k }) (fun _ => ⟨rfl, rfl, rfl⟩) s l c

/-- The buffered store that no earlier one of its region precedes takes effect. -/
theorem storeDrain_ready {c k : Fin 8} {b : BufStore} (hb : (s.core l c).stores[k.val]? = some b)
    (he : ∀ e ∈ (s.core l c).stores.take k, regionOf e.addr ≠ regionOf b.addr) (hl : laneBlocked s l = false) :
    exec (.storeDrain l c k) s = .next (applyStore (s.taken l c k) l c b) := by
  have hany : ((s.core l c).stores.take k).any (fun e => sameOrder e b) = false :=
    List.any_eq_false.2 fun e hm => by rw [sameOrder, beq_eq_false_iff_ne.2 (he e hm)]; decide
  change execStoreDrain l c k s = _
  unfold execStoreDrain
  dsimp only
  rw [hb]
  dsimp only
  rw [hany, storeHeld_free hl, Bool.or_false, if_neg Bool.false_ne_true]
  rfl

/-! ### Where it takes effect -/

/-- A number of `n` bytes stored in a GiB of DRAM. -/
def State.stored (s : State) (g a n v : Nat) : State :=
  { s with dram := tmod s.dram g fun m => mwriteLE m a n v, dq := s.dq.heal g a n }

theorem supFrame_stored (s : State) (g a n v : Nat) : supFrame s (s.stored g a n v) :=
  ⟨rfl, rfl, rfl, rfl, rfl, rfl, rfl, rfl, rfl, rfl, rfl, fun m => by cases m <;> exact ⟨rfl, rfl, rfl, rfl⟩⟩

theorem only_stored {ps : List Part} (h : Part.dram ∈ ps) (hq : Part.dq ∈ ps) (s : State) (g a n v : Nat) :
    only ps s (s.stored g a n v) :=
  only_trans (only_dram h s (tmod s.dram g fun m => mwriteLE m a n v)) (only_dq hq _ (s.dq.heal g a n))

theorem core_stored (s : State) (g a n v : Nat) (l : LaneId) (c : Nat) : (s.stored g a n v).core l c = s.core l c := by
  cases l <;> rfl

theorem gib_stored_same (s : State) (g a n v : Nat) : (s.stored g a n v).gib g = mwriteLE (s.gib g) a n v := by
  rw [State.gib, State.stored, tget_tmod_same, State.gib]

theorem gib_stored_ne (s : State) {g h : Nat} (hg : h ≠ g) (a n v : Nat) : (s.stored g a n v).gib h = s.gib h := by
  rw [State.gib, State.stored, tget_tmod_ne _ hg, State.gib]

theorem gib_taken (s : State) (l : LaneId) (c k g : Nat) : (s.taken l c k).gib g = s.gib g := by cases l <;> rfl

theorem applyStore_ownGib {b : BufStore} (h : regionOf b.addr = .dram) (hw : b.win % 4 = 2) (s : State) (l : LaneId) (c : Nat) :
    applyStore s l c b = s.stored (2 + l.num) (b.addr - 0x40000000) b.size b.data := by
  rw [applyStore, h]
  dsimp only
  rw [if_neg (by omega), if_pos hw]
  rfl

/-- The peer's GiB ignores stores (R45). -/
theorem applyStore_peer {b : BufStore} (h : regionOf b.addr = .dram) (hw : b.win % 4 = 3) (s : State) (l : LaneId) (c : Nat) :
    applyStore s l c b = s := by
  rw [applyStore, h]
  dsimp only
  rw [if_neg (by omega), if_neg (by omega)]

theorem applyStore_reserved {b : BufStore} (h : regionOf b.addr = .reserved) (s : State) (l : LaneId) (c : Nat) :
    applyStore s l c b = s := by rw [applyStore, h]

/-- A shadow lane's store into an engine area is counted (R46). -/
theorem applyStore_shadow {b : BufStore} (h : regionOf b.addr = .dram) (hw : b.win % 4 < 2) (ha : s.sup.active ≠ l) (c : Nat) :
    applyStore s l c b = s.modLane l fun x => { x with shdrop := min (x.shdrop + 1) 4294967295 } := by
  rw [applyStore, h]
  dsimp only
  rw [if_pos hw, if_neg ha]
  rfl

/-- What a store of a number writes: its bytes, and nothing else. -/
theorem mwriteLE_exact {m : Memory} (h : m.wf = true) (a n v : Nat) : mreadLE (mwriteLE m a n v) a n = v % 256 ^ n ∧
    (∀ x, x < a ∨ a + n ≤ x → mread (mwriteLE m a n v) x = mread m x) ∧ (mwriteLE m a n v).wf = true :=
  ⟨mreadLE_mwriteLE n m a v h, fun x hx => mread_mwriteLE_out n m a v x h hx, mwriteLE_wf n m a v h⟩

/-- Lane memory other than that of the core is not the core's to write. -/
theorem lmem_modLane_ne {m : LaneId} {c n : Nat} (h : m ≠ l ∨ n ≠ c) (s : State) (f : Memory → Memory) :
    tget ((s.modLane l fun x => { x with lmem := tmod x.lmem c f }).lane m).lmem n = tget (s.lane m).lmem n := by
  rw [State.modLane_lane]
  split
  next hm =>
    subst hm
    exact tget_tmod_ne _ (h.resolve_left fun e => e rfl) f
  next => rfl

/-- A change of a lane that leaves its cores and what the supervisor holds of it. -/
def LaneFrame (f : Lane → Lane) : Prop :=
  ∀ x, (f x).cores = x.cores ∧ (f x).live = x.live ∧ (f x).ready = x.ready ∧ (f x).struck = x.struck ∧ (f x).epoch = x.epoch

theorem laneFrame_lmem (g : Lane → Tab Memory) : LaneFrame fun x => { x with lmem := g x } := fun _ => ⟨rfl, rfl, rfl, rfl, rfl⟩

theorem laneFrame_sram (g : Lane → Memory) : LaneFrame fun x => { x with sram := g x } := fun _ => ⟨rfl, rfl, rfl, rfl, rfl⟩

theorem laneFrame_shdrop (g : Lane → Nat) : LaneFrame fun x => { x with shdrop := g x } := fun _ => ⟨rfl, rfl, rfl, rfl, rfl⟩

theorem LaneFrame.supFrame {f : Lane → Lane} (hf : LaneFrame f) (s : State) (l : LaneId) : supFrame s (s.modLane l f) := by
  cases l
  · exact ⟨rfl, rfl, rfl, rfl, rfl, rfl, rfl, rfl, rfl, rfl, rfl, fun | .a => (hf s.laneA).2 | .b => ⟨rfl, rfl, rfl, rfl⟩⟩
  · exact ⟨rfl, rfl, rfl, rfl, rfl, rfl, rfl, rfl, rfl, rfl, rfl, fun | .a => ⟨rfl, rfl, rfl, rfl⟩ | .b => (hf s.laneB).2⟩

theorem LaneFrame.core {f : Lane → Lane} (hf : LaneFrame f) (s : State) (l : LaneId) (c : Nat) :
    (s.modLane l f).core l c = s.core l c := by
  rw [State.core, State.modLane_lane_same, (hf _).1, State.core]

/-- What a store that takes effect in its lane's memories leaves of the rest. -/
theorem LaneFrame.taken {f : Lane → Lane} {ps : List Part} {c k : Nat} (hf : LaneFrame f) (hp : Part.cores ∈ ps)
    (ho : only ps (s.taken l c k) ((s.taken l c k).modLane l f)) :
    (((s.taken l c k).modLane l f).core l c = (s.taken l c k).core l c ∧ Machine.supFrame s ((s.taken l c k).modLane l f)) ∧
      only ps s ((s.taken l c k).modLane l f) :=
  ⟨⟨hf.core .., supFrame_trans (supFrame_taken ..) (hf.supFrame ..)⟩, only_trans (only_taken hp s l c k) ho⟩

/-- A load that returns writes its register (R77). -/
theorem loadReturn_ready {c : Fin 8} {d : VReg} {p : PendLoad} (h : (s.core l c).loads.find? (fun p => p.dst == d.val) = some p)
    (hb : laneBlocked s l = false) : exec (.loadReturn l c d) s =
      .next (s.modCore l c fun x => { x.setV d p.value with loads := x.loads.filter fun q => q.dst != d.val }) := by
  have hany : ((s.core l c).loads.any fun p => p.dst == d.val && p.dram && laneBlocked s l) = false :=
    List.any_eq_false.2 fun q _ => by rw [hb, Bool.and_false]; decide
  change execLoadReturn l c d s = _
  rw [execLoadReturn, hany, if_neg Bool.false_ne_true]
  exact congrArg Host.Outcome.next (State.modCore_congr (by rw [Core.settle1, h]))

/-- Settles O26: the store that leaves the buffer takes effect at its address and nowhere else. -/
theorem loadReturnsStoreDrains : Obligations.LoadReturnsStoreDrains := by
  unfold Obligations.LoadReturnsStoreDrains
  refine ⟨fun s l c d p h hb => loadReturn_ready h hb, fun s l c k b hb he hl => ?_⟩
  intro u wrote gone
  have drains : exec (.storeDrain l c k) s = .next (applyStore u l c b) := storeDrain_ready hb he hl
  have hu : supFrame s u := supFrame_taken s l c k
  have hlmem (m : LaneId) : (u.lane m).lmem = (s.lane m).lmem := by cases l <;> cases m <;> rfl
  have hsram (m : LaneId) : (u.lane m).sram = (s.lane m).sram := by cases l <;> cases m <;> rfl
  have hdrop (m : LaneId) : (u.lane m).shdrop = (s.lane m).shdrop := by cases l <;> cases m <;> rfl
  have hgib (g : Nat) : u.gib g = s.gib g := gib_taken ..
  refine ⟨fun ha hw => ?_, fun ha hb hw => ?_, fun ha hb hn hw => ?_, fun h => ?_, fun ha hb hn hs => ?_⟩
  · rw [applyStore_own (regionOf_own ha)] at drains
    obtain ⟨hg, ho⟩ := (laneFrame_lmem _).taken (by decide) (only_lane_lmem (ps := [.cores, .lmem]) (by decide) (s.taken l c k) l _)
    refine ⟨_, drains, hg, ho, ?_, fun m n hm => ?_⟩
    · rw [State.modLane_lane_same, hlmem, tget_tmod_same]
      exact mwriteLE_exact hw ..
    · rw [lmem_modLane_ne hm, hlmem]
  · rw [applyStore_sram (regionOf_sram ha hb)] at drains
    obtain ⟨hg, ho⟩ := (laneFrame_sram _).taken (by decide) (only_lane_sram (ps := [.cores, .sram]) (by decide) (s.taken l c k) l _)
    refine ⟨_, drains, hg, ho, ?_, ?_⟩
    · rw [State.modLane_lane_same, hsram]
      exact mwriteLE_exact hw ..
    · rw [State.modLane_lane_other, hsram]
  · rw [applyStore_ownGib (regionOf_dram ha hb) hn] at drains
    refine ⟨_, drains, ⟨core_stored .., supFrame_trans hu (supFrame_stored ..)⟩,
      only_trans (only_taken (by decide) s l c k) (only_stored (by decide) (by decide) u _ _ _ _), ?_, fun g hg => ?_⟩
    · rw [gib_stored_same, hgib]
      exact mwriteLE_exact hw ..
    · rw [gib_stored_ne _ hg, hgib]
  · refine drains.trans ?_
    rcases h with ⟨ha, hb, hn⟩ | ha
    · rw [applyStore_peer (regionOf_dram ha hb) hn]
    · rw [applyStore_reserved (regionOf_reserved ha)]
  · have hs : u.sup.active ≠ l := by rw [State.modCore_sup]; exact hs
    rw [applyStore_shadow (regionOf_dram ha hb) hn hs] at drains
    obtain ⟨hg, ho⟩ := (laneFrame_shdrop _).taken (by decide)
      (only_lane_shdrop (ps := [.cores, .shdrop]) (by decide) (s.taken l c k) l _)
    refine ⟨_, drains, hg, ho, ?_⟩
    rw [State.modLane_lane_same, hdrop]

end Sys2Proof.Machine
end

section
/-! PROOFS. Waits of a core (O27): the outcome of a wait by the rules of R97 to R99, at its issue and while the core waits. -/

namespace Sys2Proof.Machine

variable {s : State} {i : Issue}

/-! ### Work on cores leaves the halyards -/

theorem OnlyCores.rget {l : LaneId} {t : State} (h : OnlyCores l s t) (m : LaneId) (a : Nat) : rget t m a = rget s m a :=
  h.only .regs (by decide) m a

theorem OnlyCores.rfld {l : LaneId} {t : State} (h : OnlyCores l s t) (m : LaneId) (a hi lo : Nat) :
    rfld t m a hi lo = rfld s m a hi lo := by rw [Machine.rfld, h.rget, Machine.rfld]

theorem OnlyCores.hy {l : LaneId} {t : State} (h : OnlyCores l s t) (m : LaneId) (n : Nat) : t.hy m n = s.hy m n := by
  rw [State.hy, h.only .hy (by decide) m, State.hy]

theorem OnlyCores.now {l : LaneId} {t : State} (h : OnlyCores l s t) : t.now = s.now := h.supFrame.2.1

theorem OnlyCores.hyPosAux {l : LaneId} {t : State} (h : OnlyCores l s t) (m : LaneId) (k n : Nat) :
    hyPosAux t m k n = hyPosAux s m k n := by
  induction k generalizing n with
  | zero => rw [Machine.hyPosAux, h.hy, Machine.hyPosAux]
  | succ k ih => simp only [Machine.hyPosAux, hySrc, hyInput, h.rfld, h.rget, h.hy, h.now, ih]

theorem OnlyCores.hySyncAux {l : LaneId} {t : State} (h : OnlyCores l s t) (m : LaneId) (k n : Nat) :
    hySyncAux t m k n = hySyncAux s m k n := by
  induction k generalizing n with
  | zero => rw [Machine.hySyncAux, h.hy, Machine.hySyncAux]
  | succ k ih => simp only [Machine.hySyncAux, hySrc, hyInput, h.rfld, h.hy, ih]

theorem OnlyCores.hyP {l : LaneId} {t : State} (h : OnlyCores l s t) (m : LaneId) (n : Nat) : hyP t m n = hyP s m n :=
  congrArg (· % 2 ^ 56) (h.hyPosAux m 16 n)

theorem OnlyCores.inSync {l : LaneId} {t : State} (h : OnlyCores l s t) (m : LaneId) (n : Nat) : inSync t m n = inSync s m n :=
  congrArg (· == SyncState.sync) (h.hySyncAux m 16 n)

/-! ### The outcome of a wait -/

/-- The queue of a core shows an entry. -/
def Core.shows (c : Core) : Prop := ∃ e r, c.evq = e :: r ∧ e.hidden = false

theorem visible_isEmpty_iff (q : List EvEntry) : (visible q).isEmpty = true ↔ ¬ ∃ e r, q = e :: r ∧ e.hidden = false := by
  cases q with
  | nil => simp [visible]
  | cons e q => cases h : e.hidden <;> simp [visible, h]

theorem not_visible_isEmpty {c : Core} (h : c.shows) : (!(visible c.evq).isEmpty) = true := by
  rw [Bool.not_eq_true', ← Bool.not_eq_true, visible_isEmpty_iff]
  exact not_not.2 h

theorem visible_isEmpty {c : Core} (h : ¬ c.shows) : (!(visible c.evq).isEmpty) = false := by
  rw [Bool.not_eq_false', visible_isEmpty_iff]
  exact h

theorem reached_iff {p q : Nat} : reached p q = true ↔ (p + 2 ^ 56 - q % 2 ^ 56) % 2 ^ 56 < 2 ^ 55 := decide_eq_true_iff

/-- The event of a wait: it awaits one and the queue shows one. -/
def Core.eventOutcome (c : Core) (event : Bool) : Option Nat := if event && !(visible c.evq).isEmpty then some 2 else none

theorem Core.eventOutcome_shows {c : Core} (h : c.shows) : c.eventOutcome true = some 2 := by
  rw [Core.eventOutcome, not_visible_isEmpty h]
  rfl

theorem Core.eventOutcome_none {c : Core} {event : Bool} (h : event = false ∨ ¬ c.shows) : c.eventOutcome event = none := by
  rcases h with rfl | h
  · rfl
  · rw [Core.eventOutcome, visible_isEmpty h, Bool.and_false]
    rfl

section
variable {l : LaneId} {c : Core} {q : Nat × Nat} {event : Bool} {hit : Nat}

theorem waitOutcome_event : waitOutcome s l c none event hit = c.eventOutcome event := rfl

theorem waitOutcome_noSync (h : inSync s l q.1 = false) : waitOutcome s l c (some q) event hit = some 4 := by
  simp only [waitOutcome, h]
  rfl

theorem waitOutcome_reached (h : inSync s l q.1 = true) (k : reached (hyP s l q.1) q.2 = true) :
    waitOutcome s l c (some q) event hit = some hit := by
  simp only [waitOutcome, h, k]
  rfl

theorem waitOutcome_ahead (h : inSync s l q.1 = true) (k : ¬ reached (hyP s l q.1) q.2 = true) :
    waitOutcome s l c (some q) event hit = c.eventOutcome event := by
  simp only [waitOutcome, h, Bool.not_eq_true _ ▸ k]
  rfl

end

theorem waitOutcome_settled (us : List VReg) (l : LaneId) (c : Core) (rs : List Nat) (q : Option (Nat × Nat)) (event : Bool) (hit : Nat) :
    waitOutcome (s.settled i us) l (c.settle rs) q event hit = waitOutcome s l c q event hit := by
  have he : (c.settle rs).evq = c.evq := by obtain ⟨v, q, h, -⟩ := c.settle_eq rs; rw [h]
  simp only [waitOutcome, (onlyCores_settled s i us).inSync, (onlyCores_settled s i us).hyP, he]

/-! ### A wait at its issue -/

/-- The core suspended in a wait, its time limit counted from the instant `now` (R97, R100). -/
def Core.sleeps (c : Core) (d : VReg) (q : Option (Nat × Nat)) (event : Bool) (now : Nat) : Core :=
  { c with run := .waiting, wait := some ⟨d, q, event, if c.waittmo = 0 then none else some (now + (c.waittmo.toNat + 3) / 4)⟩ }

/-- The core once a wait with the outcome, if one applies, has issued. -/
def Core.waits (c : Core) (d : VReg) (q : Option (Nat × Nat)) (event : Bool) (now : Nat) : Option Nat → Core
  | some o => c.setV d (BitVec.ofNat 32 o)
  | none => c.sleeps d q event now

/-- The instruction is a wait for the target and, with `event`, for an event. -/
def IsWait (s : State) (i : Issue) (x : Instr) (us : List VReg) (d : VReg) (q : Option (Nat × Nat)) (event : Bool) : Prop :=
  exec x s = .next (s.ran i us 4 fun c => c.waits d q event s.now (waitOutcome s i.lane (s.core i.lane i.core) q event 1))

section
variable {x : Instr} {us : List VReg} {d : VReg} {q : Option (Nat × Nat)} {event : Bool}

/-- An instruction whose work, once its registers are settled, is `waitIssue`. -/
theorem isWait_of_issue (h : coreReady s i 4) {k : State → State} (hx : exec x s = nxt (issue i 4 us s k))
    (hk : k (s.settled i us) = waitIssue i d q event (s.settled i us)) : IsWait s i x us d q event := by
  have hw : waitIssue i d q event (s.settled i us) = s.ran i us 4 fun c =>
      c.waits d q event s.now (waitOutcome s i.lane (s.core i.lane i.core) q event 1) := by
    rw [waitIssue, (onlyCores_settled s i us).now, State.settled, State.modCore_modCore]
    refine State.modCore_congr ?_
    rw [← State.settled, waitOutcome_settled]
    cases waitOutcome s i.lane (s.core i.lane i.core) q event 1 <;> rfl
  exact hx.trans (congrArg Host.Outcome.next
    (issue_does h (hk.trans hw) (State.modCore_lanesUp ..) (State.modCore_pending ..)))

theorem IsWait.ends (h : IsWait s i x us d q event) {o : Nat} (ho : waitOutcome s i.lane (s.core i.lane i.core) q event 1 = some o) :
    exec x s = .next (s.ran i us 4 fun c => c.setV d (BitVec.ofNat 32 o)) := by
  rw [h, ho]
  rfl

theorem IsWait.sleeps (h : IsWait s i x us d q event) (ho : waitOutcome s i.lane (s.core i.lane i.core) q event 1 = none) :
    exec x s = .next (s.ran i us 4 fun c => c.sleeps d q event s.now) := by
  rw [h, ho]
  rfl

end

theorem fld_eq_toNat_extractLsb' (w : Word) (lo n : Nat) : fld w (lo + n) lo = (w.extractLsb' lo (n + 1)).toNat := by
  rw [BitVec.extractLsb'_toNat, Nat.shiftRight_eq_div_pow, fld, Nat.add_assoc, Nat.add_sub_cancel_left]

theorem waitTarget_eq (va vb : Word) :
    waitTarget va vb = ((vb.extractLsb' 28 4).toNat, va.toNat * 2 ^ 24 + (vb.extractLsb' 0 24).toNat) :=
  congrArg₂ (fun m n => (m, va.toNat * 2 ^ 24 + n)) (fld_eq_toNat_extractLsb' vb 28 3) (fld_eq_toNat_extractLsb' vb 0 23)

/-- A position wait with vB[27:24] = 0 (R97). -/
theorem isWait_of_waitPos (h : coreReady s i 4) {x : Instr} {d a b : VReg} {f : Nat} {event : Bool}
    (hx : exec x s = nxt (waitPos i d a b f event s)) (hb : ((s.at i [d, a, b]).getV b).extractLsb' 24 4 = 0) :
    IsWait s i x [d, a, b] d (some (waitTarget ((s.at i [d, a, b]).getV a) ((s.at i [d, a, b]).getV b))) event := by
  refine isWait_of_issue h hx ?_
  dsimp only
  rw [settled_core, fld_eq_extractLsb', hb, if_neg (by decide)]

/-! ### A waiting core -/

theorem endWait_eq {c : Core} {w : WaitInfo} (h : c.wait = some w) (o : Nat) :
    c.endWait o = { c.setV w.dst (BitVec.ofNat 32 o) with run := .running, wait := none } := by
  rw [Core.endWait, h]
  rfl

section
variable {l : LaneId} {c : Fin 8} {w : WaitInfo}

/-- WAIT_END resumes a waiting core with the outcome that applies (R99, R101). -/
theorem waitEnd_resumes (hr : (s.core l c).run = .waiting) (hw : (s.core l c).wait = some w) {o : Nat}
    (ho : waitOutcome s l (s.core l c) w.target w.event 0 = some o) : exec (.waitEnd l c) s =
      .next (s.modCore l c fun x => { x.setV w.dst (BitVec.ofNat 32 o) with run := .running, wait := none }) := by
  have he : exec (.waitEnd l c) s = .next (s.modCore l c fun y => y.endWait o) := by
    change execWaitEnd l c s = _
    simp only [execWaitEnd, if_pos hr, hw, ho]
    rfl
  rw [he]
  exact congrArg Host.Outcome.next (State.modCore_congr (endWait_eq hw o))

/-- WAIT_TIMEOUT resumes it with TIMEOUT at the deadline when no outcome applies (R99, R100). -/
theorem waitTimeout_resumes (hr : (s.core l c).run = .waiting) (hw : (s.core l c).wait = some w) {x : Nat}
    (hd : w.deadline = some x) (hx : x ≤ s.now) (ho : waitOutcome s l (s.core l c) w.target w.event 0 = none) :
    exec (.waitTimeout l c) s =
      .next (s.modCore l c fun x => { x.setV w.dst (BitVec.ofNat 32 3) with run := .running, wait := none }) := by
  have hdue : due w.deadline s.now = true := by rw [hd]; exact decide_eq_true hx
  have he : exec (.waitTimeout l c) s = .next (s.modCore l c fun y => y.endWait 3) := by
    change execWaitTimeout l c s = _
    simp only [execWaitTimeout, if_pos hr, hw, ho, hdue, if_pos]
    rfl
  rw [he]
  exact congrArg Host.Outcome.next (State.modCore_congr (endWait_eq hw 3))

end

/-- Settles O27: a wait ends, at its issue or later, with the first outcome of R99 that applies, and sleeps when none does. -/
theorem waitsOfCores : Obligations.WaitsOfCores := by
  unfold Obligations.WaitsOfCores
  intro passed entry
  refine ⟨fun s i d a b h => ?_, fun s l c w hr hw => ?_⟩
  · intro go sleep c q
    have waite : IsWait s i (.waite i d) [d] d none true := isWait_of_issue h rfl rfl
    refine ⟨fun he => waite.ends (Core.eventOutcome_shows he), fun he => waite.sleeps (Core.eventOutcome_none (.inr he)), fun hb => ?_⟩
    have hq : waitTarget (c.getV a) (c.getV b) = q := waitTarget_eq ..
    have waita : IsWait s i (.waita i d a b) [d, a, b] d (some q) false := hq ▸ isWait_of_waitPos h rfl hb
    have waitae : IsWait s i (.waitae i d a b) [d, a, b] d (some q) true := hq ▸ isWait_of_waitPos h rfl hb
    refine ⟨fun hs => ?_, fun hs hp => ?_, fun hs hp => ⟨?_, fun he => ?_, fun he => ?_⟩⟩
    · exact ⟨waita.ends (waitOutcome_noSync hs), waitae.ends (waitOutcome_noSync hs)⟩
    · exact ⟨waita.ends (waitOutcome_reached hs (reached_iff.2 hp)), waitae.ends (waitOutcome_reached hs (reached_iff.2 hp))⟩
    · exact waita.sleeps (waitOutcome_ahead hs fun k => hp (reached_iff.1 k))
    · exact waitae.ends ((waitOutcome_ahead hs fun k => hp (reached_iff.1 k)).trans (Core.eventOutcome_shows he))
    · exact waitae.sleeps ((waitOutcome_ahead hs fun k => hp (reached_iff.1 k)).trans (Core.eventOutcome_none (.inr he)))
  · intro up
    refine ⟨fun q hq hs => ?_, fun q hq hs hp => ?_, fun q hq hs hp hv he => ?_, fun hq hv he => ?_, fun x hd hx hv hq => ?_⟩
    · exact waitEnd_resumes hr hw (by rw [hq, waitOutcome_noSync hs])
    · exact waitEnd_resumes hr hw (by rw [hq, waitOutcome_reached hs (reached_iff.2 hp)])
    · exact waitEnd_resumes hr hw (by rw [hq, hv, waitOutcome_ahead hs fun k => hp (reached_iff.1 k), Core.eventOutcome_shows he])
    · exact waitEnd_resumes hr hw (by rw [hq, hv, waitOutcome_event, Core.eventOutcome_shows he])
    · refine waitTimeout_resumes hr hw hd hx ?_
      cases ht : w.target with
      | none => exact Core.eventOutcome_none hv
      | some q =>
        obtain ⟨hs, hp⟩ := hq q ht
        rw [waitOutcome_ahead hs fun k => hp (reached_iff.1 k), Core.eventOutcome_none hv]

end Sys2Proof.Machine
end

section
/-! PROOFS. The event queues (O28): TAKE and POST of a ready core, the posting that becomes visible, postings of the hardware. -/

namespace Sys2Proof.Machine

variable {s : State} {i : Issue}

/-! ### TAKE (R94) -/

theorem Core.settle_evq (c : Core) (rs : List Nat) : (c.settle rs).evq = c.evq := by
  obtain ⟨v, q, h, -⟩ := c.settle_eq rs
  rw [h]

theorem Core.oldest_eq_none_iff (c : Core) : c.oldest = none ↔ ∀ e q, c.evq = e :: q → e.hidden = true := by
  rw [Core.oldest]
  cases c.evq with
  | nil => simp [visible]
  | cons e q => cases h : e.hidden <;> simp [visible, h]

theorem Core.oldest_shows {c : Core} {e : EvEntry} {q : List EvEntry} (h : c.evq = e :: q) (hv : e.hidden = false) :
    c.oldest = some e := by
  simp [Core.oldest, visible, h, hv]

/-- The core once a TAKE has removed the entry, or found none. -/
def Core.takes (c : Core) (d : VReg) : Option EvEntry → Core
  | some e => { (c.setV d e.word0).setV (d + 1) (u32 e.data) with evq := c.evq.drop 1 }
  | none => (c.setV d 0).setV (d + 1) 0

/-- A TAKE with an even D, told by what it does to the core whose registers are settled. -/
theorem take_ready (h : coreReady s i 4) {d : VReg} (hd : d.val % 2 = 0) {g : Core → Core}
    (hg : (s.at i [d, d + 1]).takes d (s.at i [d, d + 1]).oldest = g (s.at i [d, d + 1])) :
    exec (.take i d) s = .next (s.ran i [d, d + 1] 4 g) := by
  refine congrArg Host.Outcome.next (issue_does h ?_ (State.modCore_lanesUp ..) (State.modCore_pending ..))
  dsimp only
  rw [if_neg (by omega), State.modCore_modCore]
  refine State.modCore_congr (congrArg (Core.advance · 4) (Eq.trans ?_ hg))
  rw [Core.takes.eq_def]
  rfl

/-! ### POST (R95) -/

/-- The status of a POST at the target core (R95). -/
def Core.postStatus (y : Core) : Nat := if !y.isRunning then 2 else if 63 ≤ y.evq.length then 1 else 0

theorem Core.postStatus_notRun {y : Core} (h : y.run = .stopped ∨ y.run = .halted) : y.postStatus = 2 := by
  rcases h with h | h <;> simp [Core.postStatus, Core.isRunning, h]

theorem Core.isRunning_iff (y : Core) : y.isRunning = true ↔ y.run = .running ∨ y.run = .waiting := by
  simp [Core.isRunning]

theorem Core.postStatus_full {y : Core} (h : y.run = .running ∨ y.run = .waiting) (k : 63 ≤ y.evq.length) : y.postStatus = 1 := by
  rw [Core.postStatus, y.isRunning_iff.2 h, Bool.not_true, if_neg Bool.false_ne_true, if_pos k]

theorem Core.postStatus_delivered {y : Core} (h : y.run = .running ∨ y.run = .waiting) (k : y.evq.length < 63) : y.postStatus = 0 := by
  rw [Core.postStatus, y.isRunning_iff.2 h, Bool.not_true, if_neg Bool.false_ne_true, if_neg (by omega)]

/-- What POST does once its FENCE.L has completed in `u`. -/
def postWork (i : Issue) (d a b : VReg) (u : State) : State :=
  let va := ((u.core i.lane i.core).getV a).toNat
  let e : EvEntry := ⟨0, va / 2 ^ 24, i.lane.num * 256 + i.core, ((u.core i.lane i.core).getV b).toNat, true⟩
  let n := (u.core i.lane (va % 8)).postStatus
  (if n = 0 then u.modCore i.lane (va % 8) fun y => { y with evq := y.evq ++ [e] } else u).modCore i.lane i.core fun c =>
    (c.setV d (u32 n)).advance 4

theorem onlyCores_postWork (i : Issue) (d a b : VReg) (u : State) : OnlyCores i.lane u (postWork i d a b u) := by
  unfold postWork
  dsimp only
  split
  · exact (onlyCores_modCore ..).trans (onlyCores_modCore ..)
  · exact onlyCores_modCore ..

theorem post_ready (h : coreReady s i 4) {d a b : VReg} {u : State} (hu : fenceL (s.settled i [d, a, b]) i.lane i.core = u)
    (hl : u.lanesUp = s.lanesUp) : exec (.post i d a b) s = .next (postWork i d a b u) := by
  have ho := onlyCores_postWork i d a b u
  subst hu
  exact congrArg Host.Outcome.next (issue_does h rfl (ho.lanesUp.trans hl) (ho.pending.trans (by simp [State.settled])))

/-! ### POST_VISIBLE (R95) -/

theorem reveal_append {p : List EvEntry} (hp : ∀ x ∈ p, x.hidden = false) {e : EvEntry} (he : e.hidden = true) (q : List EvEntry) :
    reveal (p ++ e :: q) = p ++ { e with hidden := false } :: q := by
  induction p with
  | nil => rw [List.nil_append, reveal, if_pos he, List.nil_append]
  | cons x p ih =>
    obtain ⟨hx, hp⟩ := List.forall_mem_cons.1 hp
    rw [List.cons_append, reveal, hx, if_neg Bool.false_ne_true, ih hp, List.cons_append]

/-! ### Postings of the hardware (R90, R93) -/

theorem Core.post_dropped {c : Core} {e : EvEntry}
    (h : c.run = .stopped ∨ c.run = .halted ∨ (if e.src = 2 then 64 else 63) ≤ c.evq.length) :
    c.post e = { c with lost := min (c.lost + 1) 255, ovf := true } := by
  by_cases hr : c.run = .stopped ∨ c.run = .halted
  · exact Core.post_still hr e
  · exact (Core.post_up hr e).trans (if_neg (Nat.not_lt.2 ((or_assoc.2 h).resolve_left hr)))

theorem Core.post_enters {c : Core} {e : EvEntry}
    (h : ¬ (c.run = .stopped ∨ c.run = .halted ∨ (if e.src = 2 then 64 else 63) ≤ c.evq.length)) :
    c.post e = { c with evq := c.evq ++ [e] } := by
  obtain ⟨hr, hf⟩ := not_or.1 fun k => h (or_assoc.1 k)
  exact (Core.post_up hr e).trans (if_pos (Nat.not_le.1 hf))

theorem supFrame_postCore (s : State) (l : LaneId) (c : Nat) (e : EvEntry) : supFrame s (postCore s l c e) :=
  (onlyCores_modCore ..).supFrame

theorem core_postCore_same (s : State) (l : LaneId) (c : Nat) (e : EvEntry) : (postCore s l c e).core l c = (s.core l c).post e :=
  State.core_modCore_same ..

theorem core_postCore (s : State) {l m : LaneId} {c n : Nat} (h : m ≠ l ∨ n ≠ c) (e : EvEntry) :
    (postCore s l c e).core m n = s.core m n := State.core_modCore _ _ _ _ _ _ h

/-- A mirrored posting reaches the same core of both lanes (R89). -/
theorem core_both_postCore (s : State) (l : LaneId) (c : Nat) (e : EvEntry) :
    (s.both fun l s => postCore s l c e).core l c = (s.core l c).post e := by
  cases l
  · exact (core_postCore _ (.inl (by decide)) e).trans (core_postCore_same ..)
  · exact (core_postCore_same ..).trans (congrArg (Core.post · e) (core_postCore _ (.inl (by decide)) e))

theorem core_both_postCore_ne (s : State) {c n : Nat} (h : n ≠ c) (l : LaneId) (e : EvEntry) :
    (s.both fun l s => postCore s l c e).core l n = s.core l n :=
  (core_postCore _ (.inr h) e).trans (core_postCore _ (.inr h) e)

/-- Settles O28: each command on a queue is one equation on the queue of the core; a FENCE.L goes before a POST. -/
theorem eventQueues : Obligations.EventQueues := by
  unfold Obligations.EventQueues
  refine ⟨fun s i d a b h => ?_, fun s l c p q e he hp hh => ?_, fun s l c k code arg data => ?_⟩
  · intro c
    have hq : (s.at i [d, d + 1]).evq = c.evq := Core.settle_evq ..
    refine ⟨fun hd => ⟨fun e q he hv => ?_, fun hn => ?_⟩, ?_⟩
    · refine take_ready h hd ?_
      rw [Core.oldest_shows (hq.trans he) hv, Core.takes, hq, he]
      rfl
    · refine take_ready h hd ?_
      rw [(Core.oldest_eq_none_iff _).2 (hq ▸ hn)]
      rfl
    · intro u va y done hl
      have hp : exec (.post i d a b) s = .next (postWork i d a b u) := post_ready h rfl hl
      have status {n : Nat} (hn : y.postStatus = n) : exec (.post i d a b) s = .next (done (if n = 0 then
          u.modCore i.lane (va % 8) fun x => { x with evq := x.evq ++
            [⟨0, va / 2 ^ 24, i.lane.num * 256 + i.core, ((u.core i.lane i.core).getV b).toNat, true⟩] } else u) (u32 n)) := by
        rw [hp, ← hn]
        rfl
      exact ⟨fun hr => status (Core.postStatus_notRun hr), fun hr hf => status (Core.postStatus_full hr hf),
        fun hr hf => status (Core.postStatus_delivered hr hf)⟩
  · exact congrArg Host.Outcome.next (State.modCore_congr (by rw [he, reveal_append hp hh]))
  · intro e got
    have hgot (x : Core) : got x (x.post e) := by
      by_cases hx : x.run = .stopped ∨ x.run = .halted ∨ (if k.val = 2 then 64 else 63) ≤ x.evq.length
      · exact (if_pos hx).mpr (Core.post_dropped hx)
      · exact (if_neg hx).mpr (Core.post_enters hx)
    refine ⟨fun hk => ?_, fun hr => ?_⟩
    · by_cases h2 : k.val = 2
      · refine ⟨postCore s l c e, ?_, supFrame_postCore .., only_postCore (by decide) s l c e, ?_, fun h => absurd h2 h, fun _ => ?_,
          fun m n hn => core_postCore s (.inr hn) e⟩
        · change execEventPosting l c k code arg data s = _
          rw [execEventPosting, if_neg hk, if_pos h2]
          rfl
        · rw [core_postCore_same]
          exact hgot _
        · exact core_postCore s (.inl (by cases l <;> decide)) e
      · refine ⟨s.both fun l s => postCore s l c e, ?_, supFrame_trans (supFrame_postCore ..) (supFrame_postCore ..),
          only_both _ (fun l s => only_postCore (by decide) s l c e) s, ?_, fun _ => ?_, fun h => absurd h h2,
          fun m n hn => core_both_postCore_ne s hn m e⟩
        · change execEventPosting l c k code arg data s = _
          rw [execEventPosting, if_neg hk, if_neg h2]
          rfl
        · rw [core_both_postCore]
          exact hgot _
        · rw [core_both_postCore]
          exact hgot _
    · change execEvqClear l c s = _
      rw [execEvqClear, if_pos hr]
      rfl

end Sys2Proof.Machine
end

section
/-! PROOFS. Store buffers that drain (R77, R78, R109, R110): one step of a fence, the whole of a fence over stores to memory. -/

namespace Sys2Proof.Machine

variable {s : State} {l : LaneId} {c : Nat}

/-! ### The store buffer -/

/-- The state in which the core's store buffer holds `q`. -/
def State.holding (s : State) (l : LaneId) (c : Nat) (q : List BufStore) : State := s.modCore l c fun x => { x with stores := q }

@[simp] theorem holding_holding (s : State) (l : LaneId) (c : Nat) (q r : List BufStore) :
    (s.holding l c q).holding l c r = s.holding l c r := State.modCore_modCore ..

theorem core_holding (s : State) (l : LaneId) (c : Nat) (q : List BufStore) :
    (s.holding l c q).core l c = { s.core l c with stores := q } := State.core_modCore_same ..

@[simp] theorem core_holding_stores (s : State) (l : LaneId) (c : Nat) (q : List BufStore) :
    ((s.holding l c q).core l c).stores = q := by rw [core_holding]

/-- Work on the core does not see whether the buffer is written again as it is. -/
theorem modCore_holding_same (s : State) (l : LaneId) (c : Nat) (g : Core → Core) :
    (s.holding l c (s.core l c).stores).modCore l c g = s.modCore l c g :=
  (State.modCore_modCore ..).trans (State.modCore_congr rfl)

/-- A fence begins with the return of the loads, which leaves the store buffer. -/
theorem settleAll_holding (s : State) (l : LaneId) (c : Nat) :
    s.modCore l c Core.settleAll = (s.modCore l c Core.settleAll).holding l c (s.core l c).stores := by
  rw [State.holding, State.modCore_modCore]
  refine State.modCore_congr ?_
  rw [← Core.settleAll_stores]

theorem Core.settleAll_of_no_loads {x : Core} (h : x.loads = []) : x.settleAll = x := Core.settle_nil x _ h

/-- With no load outstanding it leaves the core. -/
theorem settleAll_no_loads (h : (s.core l c).loads = []) : s.modCore l c Core.settleAll = s.holding l c (s.core l c).stores :=
  State.modCore_congr (by rw [Core.settleAll_of_no_loads h])

/-! ### One step of a fence -/

section
variable {p : BufStore → Bool} {as bs : List BufStore} {b : BufStore}

theorem drainFirst_of_none (h : ∀ e ∈ (s.core l c).stores, p e = false) : drainFirst s l c p = s := by
  have hn : (s.core l c).stores.find? p = none := List.find?_eq_none.2 fun e he => by rw [h e he]; decide
  rw [drainFirst, hn]

theorem find?_append_cons (ha : ∀ a ∈ as, p a = false) (hb : p b = true) : (as ++ b :: bs).find? p = some b := by
  rw [List.find?_append, List.find?_eq_none.2 fun a h => by rw [ha a h]; decide, List.find?_cons_of_pos hb]
  rfl

theorem drainFirst_of_split (hs : (s.core l c).stores = as ++ b :: bs) (ha : ∀ a ∈ as, p a = false) (hb : p b = true) :
    drainFirst s l c p = applyStore (s.holding l c (as ++ bs)) l c b := by
  have he : (as ++ b :: bs).eraseP p = as ++ bs := by
    rw [List.eraseP_append_right _ fun a h => by rw [ha a h]; decide, List.eraseP_cons_of_pos hb]
  rw [drainFirst, hs, find?_append_cons ha hb]
  exact congrArg (applyStore · l c b) (State.modCore_congr (by rw [hs, he]))

/-- The store `b` is the next that a FENCE.L lets take effect (R78, R110): the first one to the lane's own memories and blocks, or
the first one to a register block when that one follows. -/
def laneNext (as : List BufStore) (b : BufStore) (bs : List BufStore) : Prop :=
  ((∀ e ∈ as, e.isLane = false) ∧ b.isLane = true ∧ (b.isReg = true → ∀ e ∈ as, e.isReg = false)) ∨
  (b.isReg = true ∧ b.isLane = false ∧ (∀ e ∈ as, e.isLane = false ∧ e.isReg = false) ∧
    ∃ m r n, bs = m ++ r :: n ∧ r.isLane = true ∧ r.isReg = true ∧ ∀ e ∈ m, e.isLane = false)

theorem drainLane_of_none (h : ∀ e ∈ (s.core l c).stores, e.isLane = false) : drainLane s l c = s := by
  have hn : (s.core l c).stores.find? BufStore.isLane = none := List.find?_eq_none.2 fun e he => by rw [h e he]; decide
  rw [drainLane, hn]

theorem drainLane_of_find {r : BufStore} (h : (s.core l c).stores.find? BufStore.isLane = some r) :
    drainLane s l c = drainFirst s l c (if r.isReg then BufStore.isReg else BufStore.isLane) := by rw [drainLane, h]

theorem drainLane_of_next (hs : (s.core l c).stores = as ++ b :: bs) (h : laneNext as b bs) :
    drainLane s l c = applyStore (s.holding l c (as ++ bs)) l c b := by
  rcases h with ⟨ha, hb, hr⟩ | ⟨hr, hb, ha, m, r, n, rfl, hrl, hrr, hm⟩
  · rw [drainLane_of_find (hs ▸ find?_append_cons ha hb)]
    by_cases h : b.isReg = true
    · rw [if_pos h, drainFirst_of_split hs (hr h) h]
    · rw [if_neg h, drainFirst_of_split hs ha hb]
  · have hf : (as ++ b :: (m ++ r :: n)).find? BufStore.isLane = some r := by
      have hall : ∀ e ∈ as ++ b :: m, e.isLane = false :=
        List.forall_mem_append.2 ⟨fun e he => (ha e he).1, List.forall_mem_cons.2 ⟨hb, hm⟩⟩
      rw [← find?_append_cons hall hrl (bs := n), List.append_assoc, List.cons_append]
    rw [drainLane_of_find (hs ▸ hf), if_pos hrr, drainFirst_of_split hs (fun e he => (ha e he).2) hr]

end

/-! ### The steps of a fence -/

/-- One step of a fence: of FENCE.L or of FENCE.E. -/
def fenceStep (k : FenceKind) (l : LaneId) (c : Nat) (s : State) : State :=
  match k with
  | .lane => drainLane s l c
  | .engine => drainFirst s l c fun _ => true

theorem fenceL_eq (s : State) (l : LaneId) (c : Nat) :
    fenceL s l c = (fenceStep .lane l c)^[(s.core l c).stores.length] (s.modCore l c Core.settleAll) := by
  rw [fenceL, State.core_modCore_same, Core.settleAll_stores]
  exact (List.foldl_const (fun s => drainLane s l c) _ _).trans (by rw [List.length_range]; rfl)

theorem fenceE_eq (s : State) (l : LaneId) (c : Nat) :
    fenceE s l c = (fenceStep .engine l c)^[(s.core l c).stores.length] (s.modCore l c Core.settleAll) := by
  rw [fenceE, drainAll, State.core_modCore_same, Core.settleAll_stores]
  exact (List.foldl_const (fun s => drainFirst s l c fun _ => true) _ _).trans (by rw [List.length_range]; rfl)

/-- A fence that completes: its steps, one for each buffered store, then the core goes on. -/
theorem fenceDone_eq {k : FenceKind} (h : (s.core l c).fence = some k) : fenceDone s l c =
    ((fenceStep k l c)^[(s.core l c).stores.length] (s.modCore l c Core.settleAll)).modCore l c fun x => { x with fence := none } := by
  rw [fenceDone, h]
  cases k with
  | lane => exact congrArg (State.modCore · l c _) (fenceL_eq s l c)
  | engine => exact congrArg (State.modCore · l c _) (fenceE_eq s l c)

theorem fenceComplete_free {c : Fin 8} (h : laneBlocked s l = false) : exec (.fenceComplete l c) s = .next (fenceDone s l c) :=
  congrArg Host.Outcome.next (stallGuard_free h _ _)

/-- Which store a step of a fence lets take effect. -/
def fenceNext (k : FenceKind) (as : List BufStore) (b : BufStore) (bs : List BufStore) : Prop :=
  match k with
  | .lane => laneNext as b bs
  | .engine => as = []

/-- A store that a fence waits for. -/
def FenceKind.awaits (k : FenceKind) (b : BufStore) : Bool :=
  match k with
  | .lane => b.isLane
  | .engine => true

theorem fenceStep_of_next {k : FenceKind} {as bs : List BufStore} {b : BufStore} (hs : (s.core l c).stores = as ++ b :: bs)
    (h : fenceNext k as b bs) : fenceStep k l c s = applyStore (s.holding l c (as ++ bs)) l c b := by
  cases k with
  | lane => exact drainLane_of_next hs h
  | engine => exact drainFirst_of_split hs (by rw [show as = [] from h]; exact List.forall_mem_nil _) rfl

theorem fenceStep_of_none {k : FenceKind} (h : ∀ e ∈ (s.core l c).stores, k.awaits e = false) : fenceStep k l c s = s := by
  cases k with
  | lane => exact drainLane_of_none h
  | engine => exact drainFirst_of_none h

/-- With nothing outstanding that the fence waits for, the core just goes on. -/
theorem fenceDone_of_none {k : FenceKind} (hk : (s.core l c).fence = some k) (hl : (s.core l c).loads = [])
    (hs : ∀ e ∈ (s.core l c).stores, k.awaits e = false) :
    fenceDone s l c = s.modCore l c fun x => { x with fence := none } := by
  rw [fenceDone_eq hk, settleAll_no_loads hl,
    Function.iterate_fixed (fenceStep_of_none (by rwa [core_holding_stores])), modCore_holding_same]

/-- A store that a fence waits for is, with the ones before it, split so that the step finds it; or there is none. -/
theorem fenceNext_or_none (k : FenceKind) (q : List BufStore) :
    (∀ e ∈ q, k.awaits e = false) ∨ ∃ as b bs, q = as ++ b :: bs ∧ fenceNext k as b bs := by
  cases k with
  | engine =>
    cases q with
    | nil => exact .inl (List.forall_mem_nil _)
    | cons b q => exact .inr ⟨[], b, q, rfl, rfl⟩
  | lane =>
    rcases hq : q.find? BufStore.isLane with _ | r
    · exact .inl fun e he => Bool.not_eq_true _ ▸ List.find?_eq_none.1 hq e he
    · refine .inr ?_
      obtain ⟨hr, as, bs, rfl, ha⟩ := List.find?_eq_some_iff_append.1 hq
      have ha : ∀ e ∈ as, e.isLane = false := fun e he => by simpa using ha e he
      by_cases hreg : r.isReg = true ∧ ∃ e ∈ as, e.isReg = true
      · obtain ⟨hrr, e, he, her⟩ := hreg
        obtain ⟨b, hb⟩ := Option.isSome_iff_exists.1 (List.find?_isSome.2 ⟨e, he, her⟩)
        obtain ⟨hbr, cs, ds, rfl, hc⟩ := List.find?_eq_some_iff_append.1 hb
        obtain ⟨hcl, hbl, hdl⟩ := (List.forall_mem_append.1 ha).imp_right List.forall_mem_cons.1
        exact ⟨cs, b, ds ++ r :: bs, by rw [List.append_assoc, List.cons_append],
          .inr ⟨hbr, hbl, fun e he => ⟨hcl e he, by simpa using hc e he⟩, ds, r, bs, rfl, hr, hrr, hdl⟩⟩
      · exact ⟨as, r, bs, rfl, .inl ⟨ha, hr, fun hrr e he => by simpa using fun h => hreg ⟨hrr, e, he, h⟩⟩⟩

/-- To the steps of a fence it is all one whether the buffer is written again as it is. -/
theorem iterate_fenceStep_holding (k : FenceKind) (n : Nat) (s : State) (g : Core → Core) :
    ((fenceStep k l c)^[n] (s.holding l c (s.core l c).stores)).modCore l c g = ((fenceStep k l c)^[n] s).modCore l c g := by
  rcases fenceNext_or_none k (s.core l c).stores with h | ⟨as, b, bs, hs, hn⟩
  · rw [Function.iterate_fixed (fenceStep_of_none h), Function.iterate_fixed (fenceStep_of_none (by rwa [core_holding_stores])),
      modCore_holding_same]
  · cases n with
    | zero => exact modCore_holding_same ..
    | succ n =>
      rw [Function.iterate_succ_apply, Function.iterate_succ_apply, fenceStep_of_next hs hn,
        fenceStep_of_next ((core_holding_stores ..).trans hs) hn, holding_holding]

/-- The first step of a fence, then the fence over what is left (R78, R109). -/
theorem fenceDone_of_next {k : FenceKind} {as bs : List BufStore} {b : BufStore} {u : State} (hk : (s.core l c).fence = some k)
    (hl : (s.core l c).loads = []) (hs : (s.core l c).stores = as ++ b :: bs) (hn : fenceNext k as b bs)
    (hu : applyStore (s.holding l c (as ++ bs)) l c b = u) (hus : (u.core l c).stores = as ++ bs) (hul : (u.core l c).loads = [])
    (huk : (u.core l c).fence = some k) : fenceDone s l c = fenceDone u l c := by
  have hlen : (as ++ b :: bs).length = (as ++ bs).length + 1 := by simp only [List.length_append, List.length_cons]; omega
  rw [fenceDone_eq hk, fenceDone_eq huk, settleAll_no_loads hl, settleAll_no_loads hul, iterate_fenceStep_holding,
    iterate_fenceStep_holding, hus, hs, hlen, Function.iterate_succ_apply, fenceStep_of_next hs hn, hu]

end Sys2Proof.Machine
end

section
/-! PROOFS. Fences, the window and reserved encodings (O29): the bytes that a fence over stores to memory writes (R110, R112, R120). -/

namespace Sys2Proof.Machine

variable {s : State} {l : LaneId} {c : Nat}

/-! ### Stores to memory -/

/-- A store to a memory that the core writes alone or with its lane: core-local memory, lane SRAM, the private GiB. -/
def BufStore.inMemory (b : BufStore) : Prop :=
  b.addr < 0x100000 ∨ 0x1000000 ≤ b.addr ∧ b.addr < 0x1800000 ∨ 0x40000000 ≤ b.addr ∧ b.addr < 0x80000000 ∧ b.win % 4 = 2

theorem BufStore.inMemory.isReg {b : BufStore} (h : b.inMemory) : b.isReg = false := by
  rcases h with h | ⟨h, k⟩ | ⟨h, k, -⟩
  · rw [BufStore.isReg, regionOf_own h]
    rfl
  · rw [BufStore.isReg, regionOf_sram h k]
    rfl
  · rw [BufStore.isReg, regionOf_dram h k]
    rfl

/-- Of these a FENCE.L waits for all but those to DRAM (R110). -/
theorem BufStore.inMemory.isLane {b : BufStore} (h : b.inMemory) : b.isLane = !decide (0x40000000 ≤ b.addr) := by
  rcases h with h | ⟨h, k⟩ | ⟨h, k, -⟩
  · rw [BufStore.isLane, regionOf_own h, decide_eq_false (by omega)]
    rfl
  · rw [BufStore.isLane, regionOf_sram h k, decide_eq_false (by omega)]
    rfl
  · rw [BufStore.isLane, regionOf_dram h k, decide_eq_true h]
    rfl

/-- A store to memory takes effect whatever the store buffer holds. -/
theorem BufStore.inMemory.applyStore_holding {b : BufStore} (h : b.inMemory) (s : State) (l : LaneId) (c : Nat) (q : List BufStore) :
    applyStore (s.holding l c q) l c b = (applyStore s l c b).holding l c q := by
  rcases h with h | ⟨h, k⟩ | ⟨h, k, hw⟩
  · rw [applyStore_own (regionOf_own h), applyStore_own (regionOf_own h)]
    cases l <;> rfl
  · rw [applyStore_sram (regionOf_sram h k), applyStore_sram (regionOf_sram h k)]
    cases l <;> rfl
  · rw [applyStore_ownGib (regionOf_dram h k) hw, applyStore_ownGib (regionOf_dram h k) hw]
    cases l <;> rfl

/-- The stores take effect one after the other. -/
def applyStores (s : State) (l : LaneId) (c : Nat) (q : List BufStore) : State := q.foldl (fun s b => applyStore s l c b) s

/-- The steps of a fence over stores to memory: those that it waits for take effect in program order, the others stay. -/
theorem iterate_fenceStep_memory (k : FenceKind) (n : Nat) (s : State) (q : List BufStore) (hq : ∀ b ∈ q, b.inMemory)
    (hn : (q.filter k.awaits).length ≤ n) : (fenceStep k l c)^[n] (s.holding l c q) =
      (applyStores s l c (q.filter k.awaits)).holding l c (q.filter fun b => !k.awaits b) := by
  induction n generalizing s q with
  | zero =>
    have hf := List.length_eq_zero_iff.1 (Nat.le_zero.1 hn)
    have hk : (q.filter fun b => !k.awaits b) = q :=
      List.filter_eq_self.2 fun b hb => by simpa using List.filter_eq_nil_iff.1 hf b hb
    rw [hf, hk]
    rfl
  | succ n ih =>
    rcases hf : q.filter k.awaits with _ | ⟨b, r⟩
    · have hw : ∀ b ∈ q, k.awaits b = false := fun b hb => by simpa using List.filter_eq_nil_iff.1 hf b hb
      have hk : (q.filter fun b => !k.awaits b) = q := List.filter_eq_self.2 fun b hb => by rw [hw b hb]; rfl
      rw [Function.iterate_fixed (fenceStep_of_none (by rwa [core_holding_stores])), hk]
      rfl
    · obtain ⟨as, bs, rfl, ha, hb, rfl⟩ := List.filter_eq_cons_iff.1 hf
      have ha : ∀ e ∈ as, k.awaits e = false := fun e he => by simpa using ha e he
      obtain ⟨hqa, hqb⟩ := List.forall_mem_append.1 hq
      obtain ⟨hbm, hqb⟩ := List.forall_mem_cons.1 hqb
      have hnext : fenceNext k as b bs := by
        cases k with
        | engine => exact List.eq_nil_iff_forall_not_mem.2 fun e he => Bool.noConfusion (ha e he)
        | lane => exact .inl ⟨ha, hb, fun hr => Bool.noConfusion (hbm.isReg.symm.trans hr)⟩
      have hrest : (as ++ bs).filter k.awaits = bs.filter k.awaits := by
        rw [List.filter_append, List.filter_eq_nil_iff.2 fun e he => by rw [ha e he]; decide, List.nil_append]
      have hkeep : ((as ++ b :: bs).filter fun e => !k.awaits e) = (as ++ bs).filter fun e => !k.awaits e := by
        rw [List.filter_append, List.filter_append, List.filter_cons_of_neg (by rw [hb]; decide)]
      have hlen : ((as ++ bs).filter k.awaits).length ≤ n := by
        rw [hf, List.length_cons] at hn
        rw [hrest]
        omega
      rw [Function.iterate_succ_apply, fenceStep_of_next (core_holding_stores ..) hnext, holding_holding, hbm.applyStore_holding,
        ih _ _ (List.forall_mem_append.2 ⟨hqa, hqb⟩) hlen, hrest, hkeep]
      rfl

/-! ### The bytes of stores to memory -/

/-- The bytes of a store in a memory whose first byte has the address `k`. -/
def Memory.put (k : Nat) (m : Memory) (b : BufStore) : Memory := mwriteLE m (b.addr - k) b.size b.data

/-- From `s` to `t` the stores of a core have taken effect in the memories, each in its own, and nothing else has changed. -/
structure Stored (l : LaneId) (c : Nat) (q : List BufStore) (s t : State) : Prop where
  core : t.core l c = s.core l c
  sup : supFrame s t
  own : tget (t.lane l).lmem c = (q.filter fun b => decide (b.addr < 0x100000)).foldl (Memory.put 0) (tget (s.lane l).lmem c)
  sram : (t.lane l).sram =
    (q.filter fun b => decide (0x1000000 ≤ b.addr ∧ b.addr < 0x1800000)).foldl (Memory.put 0x1000000) (s.lane l).sram
  gib : t.gib (2 + l.num) = (q.filter fun b => decide (0x40000000 ≤ b.addr)).foldl (Memory.put 0x40000000) (s.gib (2 + l.num))
  lmem_ne : ∀ n, n ≠ c → tget (t.lane l).lmem n = tget (s.lane l).lmem n
  sram_other : (t.lane l.other).sram = (s.lane l.other).sram
  frame : only [.lmem, .sram, .dram, .dq] s t
  lane_frame : (∀ b ∈ q, b.isLane = true) → only [.lmem, .sram] s t

theorem Stored.nil (l : LaneId) (c : Nat) (s : State) : Stored l c [] s s :=
  ⟨rfl, supFrame_refl s, rfl, rfl, rfl, fun _ _ => rfl, rfl, only_refl _ _, fun _ => only_refl _ _⟩

theorem Stored.trans {q r : List BufStore} {t u : State} (h : Stored l c q s t) (k : Stored l c r t u) : Stored l c (q ++ r) s u where
  core := k.core.trans h.core
  sup := supFrame_trans h.sup k.sup
  own := by rw [k.own, h.own, List.filter_append, List.foldl_append]
  sram := by rw [k.sram, h.sram, List.filter_append, List.foldl_append]
  gib := by rw [k.gib, h.gib, List.filter_append, List.foldl_append]
  lmem_ne n hn := (k.lmem_ne n hn).trans (h.lmem_ne n hn)
  sram_other := k.sram_other.trans h.sram_other
  frame := only_trans h.frame k.frame
  lane_frame hq :=
    let ⟨hl, hr⟩ := List.forall_mem_append.1 hq
    only_trans (h.lane_frame hl) (k.lane_frame hr)

theorem stored_own {b : BufStore} (h : b.addr < 0x100000) (s : State) (l : LaneId) (c : Nat) :
    Stored l c [b] s (applyStore s l c b) := by
  have hs : ¬ (0x1000000 ≤ b.addr ∧ b.addr < 0x1800000) := by omega
  have hg : ¬ 0x40000000 ≤ b.addr := by omega
  have hf := laneFrame_lmem fun x => tmod x.lmem c fun m => mwriteLE m b.addr b.size b.data
  rw [applyStore_own (regionOf_own h)]
  refine ⟨hf.core .., hf.supFrame .., ?_, ?_, ?_, fun n hn => lmem_modLane_ne (.inr hn) s _, ?_,
    only_lane_lmem (by decide) s l _, fun _ => only_lane_lmem (by decide) s l _⟩
  · rw [State.modLane_lane_same, tget_tmod_same, List.filter_singleton, decide_eq_true h]
    rfl
  · rw [State.modLane_lane_same, List.filter_singleton, decide_eq_false hs]
    rfl
  · rw [State.gib, State.modLane_dram, List.filter_singleton, decide_eq_false hg]
    rfl
  · rw [State.modLane_lane_other]

theorem stored_sram {b : BufStore} (h : 0x1000000 ≤ b.addr) (k : b.addr < 0x1800000) (s : State) (l : LaneId) (c : Nat) :
    Stored l c [b] s (applyStore s l c b) := by
  have ho : ¬ b.addr < 0x100000 := by omega
  have hg : ¬ 0x40000000 ≤ b.addr := by omega
  have hf := laneFrame_sram fun x => mwriteLE x.sram (b.addr - 0x1000000) b.size b.data
  rw [applyStore_sram (regionOf_sram h k)]
  refine ⟨hf.core .., hf.supFrame .., ?_, ?_, ?_, fun n _ => ?_, ?_,
    only_lane_sram (by decide) s l _, fun _ => only_lane_sram (by decide) s l _⟩
  · rw [State.modLane_lane_same, List.filter_singleton, decide_eq_false ho]
    rfl
  · rw [State.modLane_lane_same, List.filter_singleton, decide_eq_true ⟨h, k⟩]
    rfl
  · rw [State.gib, State.modLane_dram, List.filter_singleton, decide_eq_false hg]
    rfl
  · rw [State.modLane_lane_same]
  · rw [State.modLane_lane_other]

theorem lane_stored (s : State) (g a n v : Nat) (m : LaneId) : (s.stored g a n v).lane m = s.lane m := by cases m <;> rfl

theorem stored_ownGib {b : BufStore} (h : 0x40000000 ≤ b.addr) (k : b.addr < 0x80000000) (hw : b.win % 4 = 2) (s : State)
    (l : LaneId) (c : Nat) : Stored l c [b] s (applyStore s l c b) := by
  have ho : ¬ b.addr < 0x100000 := by omega
  have hs : ¬ (0x1000000 ≤ b.addr ∧ b.addr < 0x1800000) := by omega
  have hd : b.isLane = false := by rw [BufStore.isLane, regionOf_dram h k]
  rw [applyStore_ownGib (regionOf_dram h k) hw]
  refine ⟨core_stored .., supFrame_stored .., ?_, ?_, ?_, fun n _ => by rw [lane_stored], by rw [lane_stored],
    only_stored (by decide) (by decide) s _ _ _ _, fun hq => ?_⟩
  · rw [lane_stored, List.filter_singleton, decide_eq_false ho]
    rfl
  · rw [lane_stored, List.filter_singleton, decide_eq_false hs]
    rfl
  · rw [gib_stored_same, List.filter_singleton, decide_eq_true h]
    rfl
  · exact Bool.noConfusion (hd.symm.trans (hq b (List.mem_singleton_self b)))

theorem stored_memory {b : BufStore} (h : b.inMemory) (s : State) (l : LaneId) (c : Nat) : Stored l c [b] s (applyStore s l c b) := by
  rcases h with h | ⟨h, k⟩ | ⟨h, k, hw⟩
  · exact stored_own h s l c
  · exact stored_sram h k s l c
  · exact stored_ownGib h k hw s l c

theorem stored_applyStores {q : List BufStore} (hq : ∀ b ∈ q, b.inMemory) (s : State) (l : LaneId) (c : Nat) :
    Stored l c q s (applyStores s l c q) := by
  induction q generalizing s with
  | nil => exact Stored.nil l c s
  | cons b q ih =>
    obtain ⟨hb, hq⟩ := List.forall_mem_cons.1 hq
    exact (stored_memory hb s l c).trans (ih hq _)

/-! ### A fence over stores to memory -/

/-- What a fence leaves of the stores that it does not wait for. -/
def FenceKind.leaves (k : FenceKind) (q : List BufStore) : List BufStore := q.filter fun b => !k.awaits b

theorem fenceDone_memory {k : FenceKind} (hk : (s.core l c).fence = some k) (hq : ∀ b ∈ (s.core l c).stores, b.inMemory) :
    ∃ t, Stored l c ((s.core l c).stores.filter k.awaits) (s.modCore l c Core.settleAll) t ∧
      fenceDone s l c = t.modCore l c fun x => { x with stores := k.leaves (s.core l c).stores, fence := none } := by
  refine ⟨_, stored_applyStores (fun b hb => hq b (List.mem_filter.1 hb).1) _ l c, ?_⟩
  have hsteps := iterate_fenceStep_memory (l := l) (c := c) k _ (s.modCore l c Core.settleAll) _ hq (List.length_filter_le ..)
  rw [← settleAll_holding] at hsteps
  rw [fenceDone_eq hk, hsteps]
  exact State.modCore_modCore ..

/-- Filtering what is filtered already by a weaker test. -/
theorem filter_filter_of_imp {α : Type} {p r : α → Bool} {q : List α} (h : ∀ b ∈ q, r b = true → p b = true) :
    (q.filter p).filter r = q.filter r := by
  rw [List.filter_filter]
  refine List.filter_congr fun b hb => ?_
  cases hr : r b with
  | false => rfl
  | true => rw [h b hb hr]; rfl

/-- A FENCE.L waits for every store below the DRAM window. -/
theorem filter_awaits_lane {q : List BufStore} (hq : ∀ b ∈ q, b.inMemory) {r : BufStore → Bool}
    (hr : ∀ b, r b = true → b.addr < 0x40000000) : (q.filter FenceKind.lane.awaits).filter r = q.filter r :=
  filter_filter_of_imp fun b hb hp => (hq b hb).isLane.trans (by rw [decide_eq_false (Nat.not_le.2 (hr b hp))]; rfl)

theorem leaves_lane {q : List BufStore} (hq : ∀ b ∈ q, b.inMemory) :
    FenceKind.lane.leaves q = q.filter fun b => decide (0x40000000 ≤ b.addr) :=
  List.filter_congr fun b hb => (congrArg not (hq b hb).isLane).trans (Bool.not_not _)

theorem filter_awaits_engine (q : List BufStore) : q.filter FenceKind.engine.awaits = q := List.filter_eq_self.2 fun _ _ => rfl

theorem leaves_engine (q : List BufStore) : FenceKind.engine.leaves q = [] :=
  List.filter_eq_nil_iff.2 fun _ _ => Bool.false_ne_true

theorem Core.settleAll_event (x : Core) : x.settleAll.evq = x.evq ∧ x.settleAll.lost = x.lost ∧ x.settleAll.ovf = x.ovf := by
  obtain ⟨v, q, h, -⟩ := x.settle_eq (x.loads.map PendLoad.dst)
  rw [Core.settleAll_eq, h]
  exact ⟨rfl, rfl, rfl⟩

section
variable {t : State} {f : Core → Core}

/-- What stores to memory do between two changes of the core of its own: `f` after them, the return of its loads before. -/
theorem Stored.between {q : List BufStore} (h : Stored l c q (s.modCore l c Core.settleAll) t) {r : State} (hr : r = t.modCore l c f)
    (hf : ∀ x, (f x).fence = none) (hfl : ∀ x, (f x).loads = x.loads) :
    ((r.core l c).fence = none ∧ (r.core l c).loads = [] ∧ supFrame s r ∧
      tget (r.lane l).lmem c = (q.filter fun b => decide (b.addr < 0x100000)).foldl (Memory.put 0) (tget (s.lane l).lmem c) ∧
      (r.lane l).sram =
        (q.filter fun b => decide (0x1000000 ≤ b.addr ∧ b.addr < 0x1800000)).foldl (Memory.put 0x1000000) (s.lane l).sram ∧
      (∀ n, n ≠ c → tget (r.lane l).lmem n = tget (s.lane l).lmem n) ∧ (r.lane l.other).sram = (s.lane l.other).sram) ∧
    r.gib (2 + l.num) = (q.filter fun b => decide (0x40000000 ≤ b.addr)).foldl (Memory.put 0x40000000) (s.gib (2 + l.num)) := by
  have ht := (onlyCores_modCore t l c f).only
  have hs := (onlyCores_modCore s l c Core.settleAll).only
  rw [← hr] at ht
  have hc : r.core l c = f (s.core l c).settleAll := by rw [hr, State.core_modCore_same, h.core, State.core_modCore_same]
  have htl (m : LaneId) : (r.lane m).lmem = (t.lane m).lmem := ht .lmem (by decide) m
  have hts (m : LaneId) : (r.lane m).sram = (t.lane m).sram := ht .sram (by decide) m
  have hsl (m : LaneId) : ((s.modCore l c Core.settleAll).lane m).lmem = (s.lane m).lmem := hs .lmem (by decide) m
  have hss (m : LaneId) : ((s.modCore l c Core.settleAll).lane m).sram = (s.lane m).sram := hs .sram (by decide) m
  have hg : r.gib (2 + l.num) = t.gib (2 + l.num) := by rw [State.gib, ht .dram (by decide), State.gib]
  have hgs : (s.modCore l c Core.settleAll).gib (2 + l.num) = s.gib (2 + l.num) := by rw [State.gib, State.modCore_dram, State.gib]
  refine ⟨⟨by rw [hc, hf], by rw [hc, hfl, Core.settleAll_loads], ?_, ?_, ?_, fun n hn => ?_, ?_⟩, ?_⟩
  · exact supFrame_trans (onlyCores_modCore ..).supFrame (supFrame_trans h.sup (hr ▸ (onlyCores_modCore ..).supFrame))
  · rw [htl, h.own, hsl]
  · rw [hts, h.sram, hss]
  · rw [htl, h.lmem_ne n hn, hsl]
  · rw [hts, h.sram_other, hss]
  · rw [hg, h.gib, hgs]

/-- The frame of the same. -/
theorem only_between {ps : List Part} (hp : Part.cores ∈ ps) (h : only ps (s.modCore l c Core.settleAll) t)
    (hf : ∀ x, (f x).evq = x.evq ∧ (f x).lost = x.lost ∧ (f x).ovf = x.ovf) : only ps s (t.modCore l c f) :=
  only_trans (only_modCore hp Core.settleAll_event s l c) (only_trans h (only_modCore hp hf t l c))

end

/-! ### Reserved encodings (R120 case 1) -/

/-- A fence does not see whether the core was written as it was just before. -/
theorem fenceE_settle_nil (s : State) (l : LaneId) (c : Nat) : fenceE (s.modCore l c fun x => x.settle []) l c = fenceE s l c := by
  rw [fenceE_eq, fenceE_eq, State.core_modCore_same, State.modCore_modCore]
  rfl

theorem reservedEncoding_ready {i : Issue} {x : Bool} (h : coreReady s i (if x then 8 else 4)) :
    let z := fenceE { s with freeCtr := s.freeCtr + 100 } i.lane i.core
    let r := reservedStores (z.modCore i.lane i.core (reservedCore s.freeCtr)) i.lane i.core s.freeCtr
    exec (.reservedEncoding (i, x)) s =
      .next { (if s.lanesUp && !r.lanesUp then r.modCore i.lane i.core Core.still else r) with pending := s.pending } := by
  intro z r
  have hz : fenceE { s.modCore i.lane i.core fun x => x.settle [] with freeCtr := s.freeCtr + 100 } i.lane i.core = z := by
    rw [modCore_setFree, fenceE_settle_nil]
  refine congrArg Host.Outcome.next ((issue_ready h ..).trans ?_)
  simp only [State.modCore_freeCtr, List.map_nil, hz, r]

/-! ### Fences at their issue -/

theorem fenceL_issue {i : Issue} (h : coreReady s i 4) {b : Bool}
    (hb : ((s.core i.lane i.core).loads.isEmpty && !(s.core i.lane i.core).stores.any BufStore.isLane) = b) :
    exec (.fenceL i) s = .next (s.ran i [] 4 fun c => if b then c else { c with fence := some .lane }) :=
  (congrArg Host.Outcome.next (issueCore_ready h [] _)).trans
    (congrArg Host.Outcome.next (State.modCore_congr (by rw [← hb]; rfl)))

theorem fenceE_issue {i : Issue} (h : coreReady s i 4) {b : Bool}
    (hb : ((s.core i.lane i.core).loads.isEmpty && (s.core i.lane i.core).stores.isEmpty) = b) :
    exec (.fenceE i) s = .next (s.ran i [] 4 fun c => if b then c else { c with fence := some .engine }) :=
  (congrArg Host.Outcome.next (issueCore_ready h [] _)).trans
    (congrArg Host.Outcome.next (State.modCore_congr (by rw [← hb]; rfl)))

theorem win_ready {i : Issue} (h : coreReady s i 4) {d a : VReg} {u : State} (hu : fenceE (s.settled i [d, a]) i.lane i.core = u)
    (hl : u.lanesUp = s.lanesUp) : exec (.win i d a) s = .next (u.modCore i.lane i.core fun c =>
      ({ c.setV d (BitVec.ofNat 32 c.winbase) with winbase := (c.getV a).toNat % 4 }).advance 4) := by
  subst hu
  exact congrArg Host.Outcome.next (issue_does h rfl ((State.modCore_lanesUp ..).trans hl)
    ((State.modCore_pending ..).trans (by simp [State.settled])))

/-- Settles O29: a fence is its steps, each of which lets the next store that it waits for take effect. -/
theorem fencesAndWindow : Obligations.FencesAndWindow := by
  unfold Obligations.FencesAndWindow
  refine ⟨fun s i d a x => ⟨fun h => ?_, reservedEncoding_ready⟩, fun s l c hb => ?_⟩
  · intro c
    refine ⟨fun hl hs => fenceL_issue h (b := true) ?_, fun hl hs => fenceE_issue h (b := true) ?_,
      fun hx => fenceL_issue h (b := false) ?_, fun hx => fenceE_issue h (b := false) ?_, fun hl => win_ready h rfl hl⟩
    · rw [hl, List.any_eq_false.2 fun b k => by rw [hs b k]; decide]
      rfl
    · rw [hl, hs]
      rfl
    · rcases hx with hx | ⟨b, hb, hx⟩
      · rw [List.isEmpty_eq_false_iff.2 hx, Bool.false_and]
      · rw [List.any_eq_true.2 ⟨b, hb, hx⟩, Bool.not_true, Bool.and_false]
    · rcases hx with hx | hx
      · rw [List.isEmpty_eq_false_iff.2 hx, Bool.false_and]
      · rw [List.isEmpty_eq_false_iff.2 hx, Bool.and_false]
  · intro x put putAt own sram far done
    refine ⟨fun hq => ⟨fun hk => ?_, fun hk => ?_⟩, fun hl hk => ?_, fun hl p b q hs => ?_⟩
    · have hq : ∀ b ∈ x.stores, b.inMemory := hq
      obtain ⟨t, ht, he⟩ := fenceDone_memory hk hq
      obtain ⟨hd, -⟩ := ht.between he (fun _ => rfl) fun _ => rfl
      rw [filter_awaits_lane hq fun b hb => by have := of_decide_eq_true hb; omega,
        filter_awaits_lane hq fun b hb => by have := of_decide_eq_true hb; omega] at hd
      refine ⟨_, fenceComplete_free hb, hd, ?_, ?_⟩
      · rw [he, State.core_modCore_same]
        exact leaves_lane hq
      · rw [he]
        exact only_between (by decide) (only_mono (ht.lane_frame fun b hb => (List.mem_filter.1 hb).2) (by decide))
          fun _ => ⟨rfl, rfl, rfl⟩
    · obtain ⟨t, ht, he⟩ := fenceDone_memory hk hq
      obtain ⟨hd, hg⟩ := ht.between he (fun _ => rfl) fun _ => rfl
      rw [filter_awaits_engine] at hd hg
      refine ⟨_, fenceComplete_free hb, hd, ?_, ?_, hg⟩
      · rw [he, State.core_modCore_same]
        exact leaves_engine x.stores
      · rw [he]
        exact only_between (by decide) (only_mono ht.frame (by decide)) fun _ => ⟨rfl, rfl, rfl⟩
    · refine (fenceComplete_free hb).trans (congrArg Host.Outcome.next ?_)
      rcases hk with ⟨hk, hs⟩ | ⟨hk, hs⟩
      · exact fenceDone_of_none hk hl hs
      · refine fenceDone_of_none hk hl ?_
        rw [show (s.core l c).stores = [] from hs]
        exact List.forall_mem_nil _
    · intro u hus hul huk hub hn
      have next {k : FenceKind} (hk : x.fence = some k) (hn : fenceNext k p b q) :
          exec (.fenceComplete l c) s = exec (.fenceComplete l c) u := by
        rw [fenceComplete_free hb, fenceComplete_free hub]
        exact congrArg Host.Outcome.next (fenceDone_of_next hk hl hs hn rfl hus hul (huk.trans hk))
      rcases hn with ⟨hk, hp⟩ | ⟨hk, hp, hbl, hbr⟩ | ⟨hk, hbr, hbl, hp, hr⟩
      · exact next hk hp
      · exact next hk (.inl ⟨hp, hbl, hbr⟩)
      · exact next hk (.inr ⟨hbr, hbl, hp, hr⟩)

end Sys2Proof.Machine
end

section
/-! PROOFS. Refutation of O30: no bound on the length of an accepted job stands in the state, and JTAKE writes all of it. A job longer
than the 1,440 bytes of R103 runs past the buffer that was checked, out of lane SRAM into the DRAM window, where the stores of the
shadow lane are counted in SHDROP; the statement's frame of JTAKE has no such part. -/

namespace Sys2Proof.Machine

variable {s : State} {l : LaneId} {c : Nat}

/-! ### The bytes that a system instruction writes -/

theorem writeBytes_concat (s : State) (l : LaneId) (c a : Nat) (bs : List Byte) (x : Byte) :
    writeBytes s l c a (bs ++ [x]) = applyStore (writeBytes s l c a bs) l c ⟨a + bs.length, 1, x.toNat, 0⟩ := by
  simp [writeBytes, List.zipIdx_append]

theorem areaStore_sup (s : State) (g a n v : Nat) : (areaStore s g a n v).sup = s.sup := by
  unfold areaStore
  split <;> rfl

/-- A store outside the register blocks leaves the supervisor. -/
theorem applyStore_sup {b : BufStore} (h : regionOf b.addr ≠ .regs) (s : State) (l : LaneId) (c : Nat) :
    (applyStore s l c b).sup = s.sup := by
  unfold applyStore
  split
  case h_1 | h_2 => exact State.modLane_sup ..
  case h_3 =>
    split
    · split
      · exact areaStore_sup ..
      · exact State.modLane_sup ..
    · split <;> rfl
  case h_4 hr => exact absurd hr h
  case h_5 => rfl

/-- Below the register blocks no byte written reaches one. -/
theorem regionOf_ne_regs {a : Nat} (h : a < 0xF0000000) : regionOf a ≠ .regs := by
  by_cases hu : unmappedAddr a
  · rw [regionOf_unmapped hu]
    decide
  · rcases regionOf_mapped hu with ⟨-, hr | hr | hr⟩ | ⟨hl, -⟩ | ⟨hl, -⟩
    · rw [hr]; decide
    · rw [hr]; decide
    · rw [hr]; decide
    · omega
    · omega

theorem writeBytes_sup {a : Nat} (bs : List Byte) (h : a + bs.length ≤ 0xF0000000) : (writeBytes s l c a bs).sup = s.sup := by
  induction bs using List.reverseRecOn with
  | nil => rfl
  | append_singleton bs x ih =>
    rw [List.length_append, List.length_singleton] at h
    rw [writeBytes_concat, applyStore_sup (regionOf_ne_regs (by dsimp only; omega)), ih (by omega)]

theorem writeBytes_pending (s : State) (l : LaneId) (c a : Nat) (bs : List Byte) : (writeBytes s l c a bs).pending = s.pending := by
  induction bs using List.reverseRecOn with
  | nil => rfl
  | append_singleton bs x ih => rw [writeBytes_concat, applyStore_pending, ih]

/-- When the last byte lies in an engine area, the shadow lane counts it (R46). -/
theorem shdrop_writeBytes {a : Nat} {bs : List Byte} (hb : bs ≠ []) (hs : s.sup.active ≠ l) (h : 0x40000000 < a + bs.length)
    (k : a + bs.length ≤ 0x80000000) : ((writeBytes s l c a bs).lane l).shdrop ≠ 0 := by
  obtain ⟨bs, x, rfl⟩ := (List.eq_nil_or_concat' bs).resolve_left hb
  rw [List.length_append, List.length_singleton] at h k
  have hr : regionOf (a + bs.length) = .dram := regionOf_dram (by omega) (by omega)
  have ha : (writeBytes s l c a bs).sup.active ≠ l := by rwa [writeBytes_sup bs (by omega)]
  rw [writeBytes_concat, applyStore_shadow hr (Nat.zero_mod 4 ▸ Nat.zero_lt_two) ha, State.modLane_lane_same]
  dsimp only
  omega

/-! ### JTAKE of an accepted job (R103) -/

/-- JTAKE of the oldest job, which no core has taken, at the core that takes the stream's jobs and executes its unit's. -/
theorem jtake_oldest {i : Issue} {d a b : VReg} {va vb : Nat} {j : Job} {q : List (Job × Bool)} (h : coreReady s i 4)
    (hs : (s.core i.lane i.core).stores = []) (ha : ((s.at i [d, a, b]).getV a).toNat = va)
    (hb : ((s.at i [d, a, b]).getV b).toNat = vb) (hva : va < 1024) (hg : goodBuffer vb 1440)
    (hc : nfld (strGet s va 0) 28 26 = i.core) (hu : unitCore (strGet s va 4) i.lane i.core = true)
    (hj : (s.str i.lane va).jobs = (j, false) :: q) (hlen : vb + (jobBytes j).length ≤ 0xF0000000) :
    exec (.jtake i d a b) s = .next
      ((writeBytes (((s.settled i [d, a, b]).modCore i.lane i.core Core.settleAll).modStr i.lane va fun x =>
        { x with jobs := takeFirst x.jobs }) i.lane i.core vb (jobBytes j)).modCore i.lane i.core fun c =>
          (c.setV d (u32 (jobBytes j).length)).advance 4) := by
  have ho : OnlyCores i.lane s ((s.settled i [d, a, b]).modCore i.lane i.core Core.settleAll) :=
    (onlyCores_settled s i _).trans (onlyCores_modCore ..)
  have hst : ((s.settled i [d, a, b]).core i.lane i.core).stores = [] := by rw [settled_core, State.at, Core.settle_stores, hs]
  have hget (off : Nat) : strGet ((s.settled i [d, a, b]).modCore i.lane i.core Core.settleAll) va off = strGet s va off :=
    ho.rget .a _
  have hstr : ((s.settled i [d, a, b]).modCore i.lane i.core Core.settleAll).str i.lane va = s.str i.lane va := by
    rw [State.str, ho.only .strs (by decide), State.str]
  have hfind : ((s.str i.lane va).jobs.find? fun j => !j.2) = some (j, false) := by rw [hj]; rfl
  have hsup : (writeBytes (((s.settled i [d, a, b]).modCore i.lane i.core Core.settleAll).modStr i.lane va fun x =>
      { x with jobs := takeFirst x.jobs }) i.lane i.core vb (jobBytes j)).sup = s.sup := by
    rw [writeBytes_sup _ hlen, State.modStr, State.modLane_sup, ho.sup]
  refine congrArg Host.Outcome.next (issue_does h ?_ ?_ ?_)
  · have hk : (s.modCore i.lane i.core fun c => c.settle ([d, a, b].map Fin.val)) = s.settled i [d, a, b] := rfl
    dsimp only
    rw [hk, settled_core, ha, hb, if_neg (by omega), sysBuffer_good hg, fenceL_no_stores hst, hstr, hget, hget, if_neg (not_not.2 hc),
      hu, if_pos rfl, hfind]
    rfl
  · rw [State.modCore_lanesUp, State.lanesUp, hsup, State.lanesUp]
  · rw [State.modCore_pending, writeBytes_pending, State.modStr, State.modLane_pending, ho.pending]

theorem length_leBytes (k n : Nat) : (leBytes k n).length = k := by
  induction k generalizing n with
  | zero => rfl
  | succ k ih => rw [leBytes, List.length_cons, ih]

/-- A message is a header of 32 bytes and its payload (R437). -/
theorem length_jobBytes (j : Job) : (jobBytes j).length = 32 + j.body.length := by
  simp only [jobBytes, msgBytes, List.length_append, length_leBytes]

/-! ### The state -/

/-- Lane A is the shadow lane; its stream 0 holds one accepted job with the payload `bs`, for core 0, whose v2 is the first address of
lane SRAM. -/
def longJobState (bs : List Byte) : State :=
  { sup := { active := .b }
    laneA := { cores := [(0, { run := .running, v := [(2, 0x01000000)] })], strs := [(0, { jobs := [({ body := bs }, false)] })] } }

/-- A JTAKE of Lane A's core 0: stream v1 = 0, buffer v2. -/
def longJobTake : Issue := ⟨.a, 0, 0, false⟩

/-- What the registers say does not depend on the job: the fabric holds nothing, and core 0 takes and executes stream 0's jobs. -/
theorem longJob_registers (bs : List Byte) : laneBlocked (longJobState bs) .a = false ∧
    nfld (strGet (longJobState bs) 0 0) 28 26 = 0 ∧ unitCore (strGet (longJobState bs) 0 4) .a 0 = true := by
  change laneBlocked (longJobState []) .a = false ∧
    nfld (strGet (longJobState []) 0 0) 28 26 = 0 ∧ unitCore (strGet (longJobState []) 0 4) .a 0 = true
  decide +kernel

theorem longJob_ready (bs : List Byte) : coreReady (longJobState bs) longJobTake 4 :=
  ⟨rfl, rfl, show 0 + 4 ≤ 0x100000 by decide, by decide, rfl, (longJob_registers bs).1⟩

/-- Refutes O30: of a payload of 2^30 bytes the last ones fall into an engine area, and the shadow lane's SHDROP counts them. -/
theorem not_streamInstructions : ¬ Obligations.StreamInstructions := by
  unfold Obligations.StreamInstructions
  intro h
  obtain ⟨bs, hbs⟩ : ∃ bs : List Byte, bs.length = 2 ^ 30 := ⟨List.replicate (2 ^ 30) 0, List.length_replicate⟩
  have hlen : (jobBytes { body := bs }).length = 32 + 2 ^ 30 := by rw [length_jobBytes, hbs]
  have hbuf : goodBuffer 0x01000000 1440 := ⟨by decide, .inr (by decide)⟩
  obtain ⟨-, htaker, hunit⟩ := longJob_registers bs
  obtain ⟨-, hjtake, -⟩ := h (longJobState bs) longJobTake 0 1 2 (longJob_ready bs) rfl
  obtain ⟨-, htake, -⟩ := hjtake (show 0 < 1024 by decide) hbuf
  obtain ⟨-, hpart⟩ := htake htaker hunit
  obtain ⟨t, ht, -, hframe, -⟩ := hpart [] { body := bs } [] rfl rfl
  have hexec := jtake_oldest (d := 0) (a := 1) (b := 2) (va := 0) (vb := 0x01000000) (j := { body := bs }) (q := [])
    (longJob_ready bs) rfl rfl rfl (by decide) hbuf htaker hunit rfl (by rw [hlen]; decide)
  rw [← Host.Outcome.next.inj (hexec.symm.trans ht)] at hframe
  have hdrop := hframe .shdrop (by decide) .a
  rw [(onlyCores_modCore ..).only .shdrop (by decide) .a] at hdrop
  exact shdrop_writeBytes (List.ne_nil_of_length_pos (by rw [hlen]; decide)) (show LaneId.b ≠ LaneId.a by decide) (by rw [hlen]; decide)
    (by rw [hlen]; decide) hdrop

end Sys2Proof.Machine
end

section
/-! PROOFS. Refutation of O43: a write to a halyard's configuration deals with the missed occurrences of the event table, a rejected
one too. -/

namespace Sys2Proof.Machine

/-- HY0 of Lane A is TIME and stands at 0, which entry 0, enabled and not armed, waits for: the scan has not visited it since. -/
def passedState : State where
  sup := { phase := .running }
  laneA := { live := true, regs := [(0xF0100100, 6), (0xF0140000, 1)], entries := [(0, { w2 := 0x4000 })] }

/-- The skipped occurrence (R150) is marked in its entry by a write to HY1.WHEEL. -/
theorem entries_of_rejectedWheel :
    (nextOf (.halyardConfig .a 1 .wheel 0) passedState).laneA.entries ≠ passedState.laneA.entries := by decide +kernel

/-- Refutes O43: a write of 0 to WHEEL of HY1 is rejected with RANGE, and the entry that HY0 has passed over is skipped with it; the
statement lets a rejected write change registers only. -/
theorem not_halyards : ¬ Obligations.Halyards := by
  unfold Obligations.Halyards
  intro h
  obtain ⟨-, configured, -⟩ := h passedState .a 1
  obtain ⟨-, -, -, config⟩ := configured (by decide)
  obtain ⟨-, -, outOfRange, -⟩ := config .wheel 0
  obtain ⟨t, ht, -, hframe, -⟩ := outOfRange (by decide) (.inl (by decide)) (by decide)
  have he : t.laneA.entries = passedState.laneA.entries := hframe .entries (by decide) .a
  exact entries_of_rejectedWheel (nextOf_eq ht ▸ he)

end Sys2Proof.Machine
end

section
/-! PROOFS. Work beside the lanes' own blocks: the parts that it may change, with the registers below an address left alone, and no
error of the DRAM met. Rings, records that wait for the DRAM, missing-frame records. -/

namespace Sys2Proof.Machine

/-- From `s` to `t` only the listed parts change, no register below the address `n`, and no reader meets an error of the DRAM. -/
structure Apart (n : Nat) (ps : List Part) (s t : State) : Prop where
  only : only ps s t
  met : t.dq.met = s.dq.met
  regs : ∀ l, ∀ a < n, rget t l a = rget s l a

variable {n : Nat} {ps qs : List Part} {s t u : State}

/-! ### The relation -/

theorem apart_refl (n : Nat) (ps : List Part) (s : State) : Apart n ps s s := ⟨only_refl ps s, rfl, fun _ _ _ => rfl⟩

theorem Apart.trans (h : Apart n ps s t) (k : Apart n ps t u) : Apart n ps s u :=
  ⟨only_trans h.only k.only, k.met.trans h.met, fun l a ha => (k.regs l a ha).trans (h.regs l a ha)⟩

theorem Apart.mono (h : Apart n ps s t) (hs : ∀ p ∈ ps, p ∈ qs) : Apart n qs s t := ⟨only_mono h.only hs, h.met, h.regs⟩

theorem apart_ite (c : Prop) [Decidable c] (h : Apart n ps s t) (k : Apart n ps s u) : Apart n ps s (if c then t else u) := by
  split
  · exact h
  · exact k

theorem apart_foldl {α : Type} {f : State → α → State} (hf : ∀ s x, Apart n ps s (f s x)) (xs : List α) (s : State) :
    Apart n ps s (xs.foldl f s) := by
  induction xs generalizing s with
  | nil => exact apart_refl n ps s
  | cons x xs ih => exact (hf s x).trans (ih _)

/-! ### The changes that it is made of -/

/-- Parts other than the registers and the queue of the DRAM. -/
theorem apart_of_only (h : only qs s t) (hr : Part.regs ∉ qs) (hq : Part.dq ∉ qs) (hs : ∀ p ∈ qs, p ∈ ps) : Apart n ps s t :=
  ⟨only_mono h hs, congrArg DramQ.met (h .dq hq), fun l a _ => h .regs hr l a⟩

/-- Every register may change when none is to stay. -/
theorem apart_zero_of_only (h : only ps s t) (hq : Part.dq ∉ ps) : Apart 0 ps s t :=
  ⟨h, congrArg DramQ.met (h .dq hq), fun _ _ ha => absurd ha (Nat.not_lt_zero _)⟩

theorem apart_rset (h : Part.regs ∈ ps) (s : State) (l : LaneId) {a : Nat} (ha : n ≤ a) (v : Nat) : Apart n ps s (rset s l a v) :=
  ⟨only_rset h s l a v, congrArg DramQ.met (rset_dq s l a v), fun m _ hb => rget_rset_ne s l m (Nat.ne_of_lt (hb.trans_le ha)) v⟩

/-- A write of a register of a block that stands at or above `n`. -/
theorem apart_sput (h : Part.regs ∈ ps) (s : State) {b : Block} (hb : n ≤ b.base) (off v : Nat) : Apart n ps s (sput s b off v) :=
  apart_rset h s .a (hb.trans (Nat.le_add_right _ _)) v

theorem apart_sputb (h : Part.regs ∈ ps) (s : State) {b : Block} (hb : n ≤ b.base) (off i : Nat) (v : Bool) :
    Apart n ps s (sputb s b off i v) := apart_rset h s .a (hb.trans (Nat.le_add_right _ _)) _

theorem apart_scount (h : Part.regs ∈ ps) (s : State) {b : Block} (hb : n ≤ b.base) (off k : Nat) :
    Apart n ps s (scount s b off k) := apart_rset h s .a (hb.trans (Nat.le_add_right _ _)) _

theorem apart_dq (h : Part.dq ∈ ps) (s : State) {q : DramQ} (hq : q.met = s.dq.met) : Apart n ps s { s with dq := q } :=
  ⟨only_dq h s q, hq, fun _ _ _ => rfl⟩

theorem apart_ringDrop (h : Part.ringDrop ∈ ps) (s : State) (x : Tab Bool) : Apart n ps s { s with ringDrop := x } :=
  ⟨only_ringDrop h s x, rfl, fun _ _ _ => rfl⟩

theorem apart_dramWrite (h : Part.dram ∈ ps) (k : Part.dq ∈ ps) (s : State) (g a : Nat) (bs : List Byte) :
    Apart n ps s (dramWrite s g a bs) := ⟨only_dramWrite h k s g a bs, rfl, fun _ _ _ => rfl⟩

theorem apart_postCore (h : Part.events ∈ ps) (s : State) (l : LaneId) (c : Nat) (e : EvEntry) : Apart n ps s (postCore s l c e) :=
  apart_of_only (qs := [.events]) (only_postCore (by decide) s l c e) (by decide) (by decide) (by simpa using h)

theorem apart_postEngine (h : Part.events ∈ ps) (s : State) (b : Block) (k d : Nat) : Apart n ps s (postEngine s b k d) :=
  apart_of_only (qs := [.events]) (only_postEngine (by decide) s b k d) (by decide) (by decide) (by simpa using h)

/-! ### Rings (R255) -/

/-- What a record changes on its way into a ring. -/
def ringParts : List Part := [.dq, .dram, .events, .regs, .ringDrop]

theorem apart_ringPut (s : State) {r : Nat} (hr : n ≤ r) (esz : Nat) (mk : Bool → List Byte) :
    Apart n ringParts s (ringPut s r esz mk).1 := by
  have hr' (k : Nat) : n ≤ r + k := hr.trans (Nat.le_add_right r k)
  unfold ringPut
  dsimp only
  split
  · exact apart_refl n _ s
  · split
    · exact (apart_rset (by decide) s .a (hr' 0x14) _).trans (apart_ringDrop (by decide) _ _)
    · exact ((apart_dramWrite (by decide) (by decide) s 0 _ _).trans (apart_rset (by decide) _ .a (hr' 8) _)).trans
        (apart_ringDrop (by decide) _ _)

theorem apart_ringThen (hn : n ≤ Block.lpe.base) (s : State) (w : RingRec) (p : State × Bool × Bool) :
    Apart n ringParts p.1 (ringThen s w p) := by
  unfold ringThen
  split
  · exact apart_ite _ (apart_postEngine (by decide) p.1 _ _ _) (apart_refl n _ _)
  · exact apart_ite _ (apart_postEngine (by decide) p.1 _ _ _) (apart_ite _ (apart_refl n _ _)
      ((apart_sputb (by decide) p.1 (hn.trans (by decide)) 4 _ true).trans (apart_postEngine (by decide) _ _ _ _)))
  · exact apart_ite _ (apart_postEngine (by decide) p.1 _ _ _) (apart_refl n _ _)
  · rename_i k _
    have hmark : Apart n ringParts p.1 (if !p.2.1 ∧ rfld s .a (w.ring + 4) 16 0 ≠ 0 then
        rsetb p.1 .a (Block.ser.base + 0x104 + 0x40 * k) 19 true else p.1) :=
      apart_ite _ (apart_rset (by decide) p.1 .a (hn.trans ((show Block.lpe.base ≤ Block.ser.base by decide).trans (by omega))) _)
        (apart_refl n _ _)
    exact apart_ite _ (hmark.trans (apart_postEngine (by decide) _ _ _ _)) hmark

/-- A record goes into its ring, or waits for the DRAM. -/
theorem apart_ringSend (hn : n ≤ Block.lpe.base) (s : State) {w : RingRec} (hw : n ≤ w.ring) : Apart n ringParts s (ringSend s w) :=
  apart_ite _ (apart_dq (by decide) s rfl) ((apart_ringPut s hw w.esz _).trans (apart_ringThen hn s w _))

/-! ### Missing-frame records (R327, R331) -/

/-- What a missing-frame record changes. -/
def frameParts : List Part := .cam :: ringParts

theorem apart_modVp (h : Part.cam ∈ ps) (s : State) (k : Nat) (f : Vp → Vp) : Apart n ps s (s.modVp k f) :=
  apart_of_only (qs := [.cam]) (only_cam (by decide) s _) (by decide) (by decide) (by simpa using h)

theorem apart_slotBytes (s : State) (k off : Nat) (drops : List (Nat × Nat)) (bs : List Byte) :
    Apart n frameParts s (slotBytes s k off drops bs) :=
  apart_ite _ (apart_dramWrite (by decide) (by decide) s 0 _ bs)
    (apart_foldl (fun s _ => apart_ite _ (apart_refl n _ s) (apart_dramWrite (by decide) (by decide) s 0 _ _)) _ s)

theorem apart_slotDone (hn : n ≤ Block.lpe.base) (s : State) (k : Nat) (missing : Bool) :
    Apart n frameParts s (slotDone s k missing) :=
  ((apart_modVp (by decide) s k _).trans (apart_sput (by decide) _ (hn.trans (by decide)) _ _)).trans
    (apart_postEngine (by decide) _ _ _ _)

theorem apart_flushMissing (hn : n ≤ Block.lpe.base) (k m : Nat) (s : State) : Apart n frameParts s (flushMissing s k m) := by
  induction m generalizing s with
  | zero => exact apart_refl n _ s
  | succ m ih =>
    unfold flushMissing
    split
    · exact apart_ite _ (apart_dq (by decide) s rfl)
        (((apart_slotBytes s k 0 [] _).trans (apart_slotDone hn _ k true)).trans (ih _))
    · exact apart_refl n _ s

/-! ### What waited for the DRAM (R476) -/

/-- What changes when the DRAM takes what waited for it. -/
def drainParts : List Part := .bus :: frameParts

theorem apart_drainRec (s : State) (w : RingRec) : Apart 0 drainParts s (drainRec s w) := by
  have hsend : Apart 0 drainParts s (ringSend s w) := (apart_ringSend (Nat.zero_le _) s (Nat.zero_le _)).mono (by decide)
  have hplaced (t : State) (ent : List Byte) (addr : Nat) : Apart 0 drainParts t (canPlaced t ent addr) :=
    apart_of_only (qs := [.bus]) (only_bus (by decide) t _) (by decide) (by decide) (by decide)
  exact apart_ite _ (apart_refl 0 _ s) (apart_ite _ (hsend.trans (hplaced _ _ _)) hsend)

theorem apart_dramDrain (s : State) : Apart 0 drainParts s (dramDrain s) :=
  ((apart_dq (q := { s.dq with wait := [], frames := [] }) (by decide) s rfl).trans (apart_foldl apart_drainRec _ _)).trans
    (apart_foldl (fun s k => (apart_flushMissing (Nat.zero_le _) k 64 s).mono (by decide)) _ _)

/-- Nothing goes on when nothing waited. -/
theorem dramDrain_idle (hw : s.dq.wait = []) (hf : s.dq.frames = []) : dramDrain s = s := by
  have hq : ({ s.dq with wait := [], frames := [] } : DramQ) = s.dq := by rw [← hw, ← hf]
  rw [dramDrain, hw, hf, hq]
  rfl

end Sys2Proof.Machine
end

section
/-! PROOFS. A tick of the HTB (O2): the halyards that extrapolate (R136), the local clock (R419), what waited for the DRAM (R476). -/

namespace Sys2Proof.Machine

variable {s t u : State}

/-! ### The halyards -/

/-- The state with other halyards. -/
def State.setHy (s : State) (x y : Tab Hy) : State :=
  { s with laneA := { s.laneA with hy := x }, laneB := { s.laneB with hy := y } }

/-- From `s` to `t` the halyards alone change. -/
def OnlyHy (s t : State) : Prop := t = s.setHy t.laneA.hy t.laneB.hy

theorem onlyHy_refl (s : State) : OnlyHy s s := rfl

theorem OnlyHy.trans (h : OnlyHy s t) (k : OnlyHy t u) : OnlyHy s u := by
  unfold OnlyHy at *
  rw [k, h]
  rfl

theorem onlyHy_modHy (s : State) (l : LaneId) (n : Nat) (f : Hy → Hy) : OnlyHy s (s.modHy l n f) := by cases l <;> rfl

theorem OnlyHy.now (h : OnlyHy s t) : t.now = s.now := by rw [h]; rfl

theorem OnlyHy.rget (h : OnlyHy s t) (l : LaneId) (a : Nat) : rget t l a = rget s l a := by rw [h]; cases l <;> rfl

theorem OnlyHy.rfld (h : OnlyHy s t) (l : LaneId) (a hi lo : Nat) : rfld t l a hi lo = rfld s l a hi lo := by
  rw [Machine.rfld, h.rget, Machine.rfld]

theorem OnlyHy.only (h : OnlyHy s t) : only [.hy] s t := by
  unfold OnlyHy at h
  rw [h]
  exact only_trans (only_lane_hy (by decide) s .a fun _ => t.laneA.hy) (only_lane_hy (by decide) _ .b fun _ => t.laneB.hy)

theorem hy_modHy (s : State) (l m : LaneId) (k n : Nat) (f : Hy → Hy) :
    (s.modHy l k f).hy m n = if m = l ∧ n = k then f (s.hy m n) else s.hy m n := by
  unfold State.modHy State.hy
  rw [State.modLane_lane]
  by_cases hm : m = l
  · subst hm
    by_cases hn : n = k
    · subst hn; simp
    · simp [hn, tget_tmod_ne]
  · simp [hm]

/-- The update of one halyard at a tick. -/
def hyTickOne (l : LaneId) (s : State) (n : Nat) : State :=
  if extrapolates (hySrc s l n) then s.modHy l n (hyUpdate (rfld s l (hyReg n 0x14) 3 0) s.now) else s

theorem hyTick_eq (s : State) (l : LaneId) : hyTick s l = (List.range 16).foldl (hyTickOne l) s := rfl

theorem onlyHy_hyTickOne (l : LaneId) (s : State) (n : Nat) : OnlyHy s (hyTickOne l s n) := by
  unfold hyTickOne
  split
  · exact onlyHy_modHy s l n _
  · exact onlyHy_refl s

theorem onlyHy_foldl_tick (l : LaneId) (ks : List Nat) (s : State) : OnlyHy s (ks.foldl (hyTickOne l) s) := by
  induction ks generalizing s with
  | nil => exact onlyHy_refl s
  | cons k ks ih => exact (onlyHy_hyTickOne l s k).trans (ih _)

/-- A halyard after a tick (R136). -/
def hyTicked (s : State) (l : LaneId) (n : Nat) : Hy :=
  if extrapolates (hySrc s l n) = true then hyUpdate (rfld s l (hyReg n 0x14) 3 0) s.now (s.hy l n) else s.hy l n

theorem hy_hyTickOne (s : State) (l m : LaneId) (k n : Nat) :
    (hyTickOne l s k).hy m n = if m = l ∧ n = k then hyTicked s m n else s.hy m n := by
  unfold hyTickOne hyTicked
  by_cases h : m = l ∧ n = k
  · obtain ⟨rfl, rfl⟩ := h
    split <;> simp [hy_modHy]
  · split <;> simp [hy_modHy, h]

theorem OnlyHy.hyTicked (h : OnlyHy s t) {l : LaneId} {n : Nat} (hn : t.hy l n = s.hy l n) : hyTicked t l n = hyTicked s l n := by
  rw [Machine.hyTicked, Machine.hyTicked, hySrc, hySrc, h.rfld, h.rfld, h.now, hn]

/-- The halyards of a lane take their updates one after the other; each depends on itself alone. -/
theorem hy_foldl_tick (l m : LaneId) (n : Nat) (ks : List Nat) (hk : ks.Nodup) (s : State) :
    (ks.foldl (hyTickOne l) s).hy m n = if m = l ∧ n ∈ ks then hyTicked s m n else s.hy m n := by
  induction ks generalizing s with
  | nil => simp
  | cons k ks ih =>
    obtain ⟨hnot, hk⟩ := List.nodup_cons.1 hk
    rw [List.foldl_cons, ih hk, hy_hyTickOne]
    by_cases h : m = l ∧ n = k
    · obtain ⟨rfl, rfl⟩ := h
      simp [hnot]
    · have hkeep : (hyTickOne l s k).hy m n = s.hy m n := by rw [hy_hyTickOne, if_neg h]
      rw [if_neg h, (onlyHy_hyTickOne l s k).hyTicked hkeep]
      by_cases hm : m = l
      · have hne : n ≠ k := fun e => h ⟨hm, e⟩
        simp [hm, hne]
      · simp [hm]

/-- The halyards of both lanes take their updates. -/
def hyTicks (s : State) : State := hyTick (hyTick s .a) .b

theorem onlyHy_hyTicks (s : State) : OnlyHy s (hyTicks s) := (onlyHy_foldl_tick .a _ s).trans (onlyHy_foldl_tick .b _ _)

theorem hy_hyTicks (s : State) (l : LaneId) {n : Nat} (hn : n < 16) : (hyTicks s).hy l n = hyTicked s l n := by
  have hr : n ∈ List.range 16 := List.mem_range.2 hn
  have ha := hy_foldl_tick .a l n _ (List.nodup_range (n := 16)) s
  rw [hyTicks, hyTick_eq, hy_foldl_tick .b l n _ List.nodup_range, hyTick_eq]
  cases l
  · rw [if_neg (by simp), ha, if_pos ⟨rfl, hr⟩]
  · rw [if_neg (by simp)] at ha
    rw [if_pos ⟨rfl, hr⟩, (onlyHy_foldl_tick .a _ s).hyTicked ha]

/-! ### The local clock -/

/-- From `s` to `t` the clock moves on in its state. -/
def ClockMoves (s t : State) : Prop := t = { s with tim := t.tim } ∧ t.tim.cstate = s.tim.cstate ∧ t.tim.forced = s.tim.forced

theorem ClockMoves.trans (h : ClockMoves s t) (k : ClockMoves t u) : ClockMoves s u := by
  obtain ⟨he, hc, hf⟩ := h
  obtain ⟨ke, kc, kf⟩ := k
  refine ⟨?_, kc.trans hc, kf.trans hf⟩
  rw [ke, he]

theorem clockMoves_modTim (s : State) {f : Tim → Tim} (h : ∀ x, (f x).cstate = x.cstate ∧ (f x).forced = x.forced) :
    ClockMoves s (s.modTim f) := ⟨rfl, (h s.tim).1, (h s.tim).2⟩

theorem clockMoves_ite (c : Prop) [Decidable c] (h : ClockMoves s t) : ClockMoves s (if c then t else s) := by
  split
  · exact h
  · exact ⟨rfl, rfl, rfl⟩

theorem clockMoves_timAdvance (s : State) : ClockMoves s (timAdvance s) := by
  have htrk (s : State) (i : Nat) (f : Tracker → Tracker) : ClockMoves s (s.modTrk i f) := clockMoves_modTim s fun _ => ⟨rfl, rfl⟩
  have hcount := clockMoves_modTim s (f := fun x => { x with count := ((x.count : Int) + timRate s).toNat, q := x.q - slewStep s })
    fun _ => ⟨rfl, rfl⟩
  unfold timAdvance
  exact (hcount.trans (clockMoves_ite _ (htrk _ 0 _))).trans (clockMoves_ite _ (htrk _ 1 _))

/-- The clock after a tick but for the switches that the end of a cycle brings. -/
def timMoved (s : State) : State :=
  if (timAdvance s).tim.ahead.isSome then (timAdvance s).modTim fun x => { x with ahead := none } else timAdvance s

theorem clockMoves_timMoved (s : State) : ClockMoves s (timMoved s) :=
  (clockMoves_timAdvance s).trans (clockMoves_ite _ (clockMoves_modTim _ fun _ => ⟨rfl, rfl⟩))

theorem timTick_eq (s : State) : timTick s =
    if s.tim.forced then timAutoNow ((timMoved s).modTim fun x => { x with forced := false }) else timMoved s := by
  rw [← (clockMoves_timMoved s).2.2]
  rfl

/-- What a switch of the clock changes (R424). -/
def switchParts : List Part := [.events, .regs, .tim]

theorem only_timSwitch (s : State) (j : Nat) (auto : Bool) : only switchParts s (timSwitch s j auto).1 := by
  have hdrop := only_dropActive (ps := switchParts) (by decide) s
  have htake (s : State) (f : Tim → Tim) : only switchParts s
      (timState (rwrap (rsetb (s.modTim f) .a (Block.tim.base + 4) 0 true) .a (Block.tim.base + 0x54) 1) (dtState j) auto) :=
    only_trans (only_trans (only_trans (only_modTim (by decide) s f) (only_rsetb (by decide) _ _ _ _ _))
      (only_rset (by decide) _ _ _ _)) (only_timState (by decide) (by decide) _ _ _)
  unfold timSwitch
  extract_lets _ _ _ s1 s2
  split
  · refine only_trans hdrop (only_trans ?_ (htake _ _))
    exact only_trans (only_trans (only_trans (only_modTim (by decide) _ _) (only_rsetb (by decide) _ _ _ _ _))
      (only_rset (by decide) _ _ _ _)) (only_postEngine (by decide) _ _ _ _)
  · split
    · exact only_trans hdrop (only_postEngine (by decide) _ _ _ _)
    · exact only_trans hdrop (only_trans (only_modTim (by decide) _ _) (htake _ _))

theorem only_timHold (s : State) (auto : Bool) : only switchParts s (timHold s auto) :=
  only_trans (only_dropActive (by decide) s) (only_timState (by decide) (by decide) _ _ _)

theorem only_timAutoNow (s : State) : only switchParts s (timAutoNow s) := by
  unfold timAutoNow
  extract_lets ok auto
  split
  · refine only_ite _ (only_refl _ s) (only_ite _ ?_ (only_timHold s true))
    exact only_ite _ (only_timSwitch s _ true) (only_trans (only_timSwitch s _ true) (only_timHold _ true))
  · exact only_ite _ (only_refl _ s) (only_ite _ (only_timSwitch s _ true) (only_ite _ (only_timSwitch s _ true) (only_refl _ s)))

theorem only_timTick (s : State) : only switchParts s (timTick s) := by
  have hmove : only switchParts s (timMoved s) := by
    rw [(clockMoves_timMoved s).1]
    exact only_tim (by decide) s _
  rw [timTick_eq]
  exact only_ite _ (only_trans hmove (only_trans (only_modTim (by decide) _ _) (only_timAutoNow _))) hmove

/-! ### The tick -/

theorem eccSettle_clean (h : s.dq.met = []) : eccSettle s = s := by
  have hq : ({ s.dq with met := [] } : DramQ) = s.dq := by rw [← h]
  rw [eccSettle, h, hq]
  rfl

/-- The work of a tick. -/
def tickWork (s : State) : State := dramDrain (timTick (hyTicks s))

theorem tick_lit (hoff : s.sup.phase ≠ .off) (hpark : s.sup.phase ≠ .parked) : tick s =
    modeStep { s with now := s.now + 1 } (eccSettle (keep { s with now := s.now + 1 } (tickWork { s with now := s.now + 1 }))) := by
  rw [tick, if_neg hoff]
  exact if_neg hpark

/-- What a tick changes. -/
def tickParts : List Part := [.bus, .cam, .dq, .dram, .events, .hy, .regs, .ringDrop, .tim]

theorem only_clock (s : State) : only (.hy :: switchParts) s (timTick (hyTicks s)) :=
  only_trans (only_mono (onlyHy_hyTicks s).only (by decide)) (only_mono (only_timTick _) (by decide))

theorem apart_tickWork (s : State) : Apart 0 tickParts s (tickWork s) :=
  ((apart_zero_of_only (only_clock s) (by decide)).mono (by decide)).trans ((apart_dramDrain _).mono (by decide))

theorem hy_tickWork (s : State) (l : LaneId) {n : Nat} (hn : n < 16) : (tickWork s).hy l n = hyTicked s l n := by
  have hd := (apart_dramDrain (timTick (hyTicks s))).only .hy (by decide) l
  have ht := only_timTick (hyTicks s) .hy (by decide) l
  rw [← hy_hyTicks s l hn, tickWork, State.hy, hd, ht, State.hy]

/-- Sealed work that leaves the mismatch registers leaves the supervisor's state but for MSEQ. -/
theorem sup_modeStep_keep (h : Part.mism.same s u) :
    (modeStep s (keep s u)).sup = { s.sup with mseq := (modeStep s (keep s u)).sup.mseq } := by
  obtain ⟨h1, h2, h3⟩ := h
  have hk : (keep s u).sup = s.sup := by rw [keep, h1, h2, h3]
  unfold modeStep
  split
  · rw [hk]
  · change { (keep s u).sup with mseq := if modeFields s = modeFields (keep s u) then s.sup.mseq else (s.sup.mseq + 1) % 256 } = _
    rw [hk]

/-- MSEQ stays where no field that it watches changes. -/
theorem modeStep_of_same (hf : modeFields s = modeFields u) (hm : u.sup.mseq = s.sup.mseq) : modeStep s u = u := by
  unfold modeStep
  split
  · rfl
  · rw [← hm]

/-- Work that changes halyards and the clock, within its state, ends a command as it stands. -/
theorem modeStep_keep_clock (x y : Tab Hy) {m : Tim} (h : m.cstate = s.tim.cstate) :
    modeStep s (keep s { s.setHy x y with tim := m }) = { s.setHy x y with tim := m } := by
  have hk : keep s { s.setHy x y with tim := m } = { s.setHy x y with tim := m } := by
    have hl (up : Bool) (z : Lane) (v : Tab Hy) : keepLane up z { z with hy := v } = { z with hy := v } := by simp [keepLane]
    exact congrArg₂ (fun a b => ({ s with tim := m, laneA := a, laneB := b } : State)) (hl _ _ _) (hl _ _ _)
  have hf : modeFields s = modeFields { s.setHy x y with tim := m } := by
    have hc (k : Nat) : someContext { s.setHy x y with tim := m } k = someContext s k := by
      unfold someContext
      cases hA : s.sup.active <;> simp only [State.setHy, State.lane, hA]
    simp only [modeFields, hc, h]
    rfl
  rw [hk]
  exact modeStep_of_same hf rfl

/-- Nothing waits and no switch is due: the halyards and the clock move, nothing else. -/
theorem tickWork_idle (hw : s.dq.wait = []) (hf : s.dq.frames = []) (hc : s.tim.forced = false) :
    ∃ x y m, m.cstate = s.tim.cstate ∧ tickWork s = { s.setHy x y with tim := m } := by
  have hhy : hyTicks s = s.setHy _ _ := onlyHy_hyTicks s
  generalize (hyTicks s).laneA.hy = x at hhy
  generalize (hyTicks s).laneB.hy = y at hhy
  obtain ⟨he, hstate, -⟩ := clockMoves_timMoved (s.setHy x y)
  have ht : timTick (s.setHy x y) = timMoved (s.setHy x y) := by
    rw [timTick_eq, show (s.setHy x y).tim.forced = false from hc]
    rfl
  refine ⟨x, y, (timMoved (s.setHy x y)).tim, hstate, ?_⟩
  rw [tickWork, hhy, ht, dramDrain_idle (by rw [he]; exact hw) (by rw [he]; exact hf)]
  exact he

/-- Settles O2: the tick's work changes the halyards, the clock and what waited for the DRAM, and the end of the tick seals it. -/
theorem idleTickMovesClocks : Obligations.IdleTickMovesClocks := by
  unfold Obligations.IdleTickMovesClocks
  intro s hp
  refine ⟨tick s, by rw [step, hp], fun hoff => if_pos hoff, fun hpark => ?_, fun hoff hpark hmet => ?_⟩
  · rw [tick, if_neg (by rw [hpark]; decide)]
    exact if_pos hpark
  · have htick := tick_lit hoff hpark
    have hnow : only [] s { s with now := s.now + 1 } := fun p _ => only_refl [] s p (by simp)
    have hidle (hw : s.dq.wait = []) (hf : s.dq.frames = []) (hc : s.tim.forced = false) :=
      tickWork_idle (s := { s with now := s.now + 1 }) hw hf hc
    generalize hr : ({ s with now := s.now + 1 } : State) = r at htick hnow hidle
    have hwork := apart_tickWork r
    have hrmet : r.dq.met = [] := by rw [← hr]; exact hmet
    rw [eccSettle_clean (s := keep r (tickWork r)) (hwork.met.trans hrmet)] at htick
    have hrsup : r.sup = s.sup := by rw [← hr]
    have hrlane (l : LaneId) : r.lane l = s.lane l := by rw [← hr]; cases l <;> rfl
    rw [htick]
    have honly : only tickParts r (modeStep r (keep r (tickWork r))) := only_trans (only_keep hwork.only) (only_modeStep _ _)
    have hsup := sup_modeStep_keep (hwork.only .mism (by decide))
    rw [hrsup] at hsup
    refine ⟨?_, ?_, fun l n hn => ?_, fun hw hf hc => ?_, fun hw hf => ⟨?_, hsup⟩, only_trans (only_mono hnow (by simp)) honly, hsup,
      fun l => ?_⟩
    · rw [modeStep_pending, keep_pending, ← hr]
      exact hp
    · rw [modeStep_now, keep_now, ← hr]
    · have hk : (modeStep r (keep r (tickWork r))).hy l n = (tickWork r).hy l n := by
        rw [State.hy, modeStep_lane, keep_lane, State.hy]
        rfl
      rw [hk, hy_tickWork r l hn, hyTicked, ← hr]
      cases l <;> rfl
    · obtain ⟨x, y, m, hm, he⟩ := hidle hw hf hc
      rw [he, modeStep_keep_clock x y hm, ← hr]
      rfl
    · have hclock : only [.events, .hy, .regs, .tim] r (tickWork r) := by
        have hc := only_clock r
        have hq := hc .dq (by decide)
        rw [tickWork, dramDrain_idle (by rw [hq, ← hr]; exact hw) (by rw [hq, ← hr]; exact hf)]
        exact only_mono hc (by decide)
      exact only_trans (only_mono hnow (by simp)) (only_trans (only_keep hclock) (only_modeStep _ _))
    · rw [modeStep_lane, keep_lane, hrlane]
      exact ⟨rfl, rfl, rfl, rfl, rfl⟩

end Sys2Proof.Machine
end

section
/-! PROOFS. The action of an occurrence (R140, R141) works beside the event table: it leaves the entries, and every register of
SYS, HAL and EVT. -/

namespace Sys2Proof.Machine

/-- What the action of an occurrence may change. -/
def actionParts : List Part := [.cam, .dq, .dram, .events, .hsi, .lpe, .pcl, .regs, .ringDrop, .sels, .seqs]

/-- From `s` to `t` only what the action of an occurrence may change, and no register below those of LPE. -/
abbrev ActionApart (s t : State) : Prop := Apart Block.lpe.base actionParts s t

variable {s t u : State}

theorem actionApart_refl (s : State) : ActionApart s s := apart_refl _ _ s

/-- A register of a block that stands at or above LPE. -/
theorem actionApart_rset (s : State) (l : LaneId) {a : Nat} (ha : Block.lpe.base ≤ a) (v : Nat) : ActionApart s (rset s l a v) :=
  apart_rset (by decide) s l ha v

/-! ### The samples of LPE -/

theorem actionApart_modLpe (s : State) (l : LaneId) (f : Lpe → Lpe) : ActionApart s (s.modLpe l f) :=
  apart_of_only (qs := [.lpe]) (only_lane_lpe (by decide) s l fun x => f x.lpe) (by decide) (by decide) (by decide)

theorem actionApart_lcOverrun (s : State) (l : LaneId) (c : Nat) : ActionApart s (lcOverrun s l c) := by
  have hreg : Block.lpe.base ≤ lcReg c := by unfold lcReg; omega
  have hflag : ActionApart s (lcFlag s l c 13) := actionApart_rset s l hreg _
  unfold lcOverrun
  exact apart_ite _ hflag (hflag.trans (apart_ite _ (apart_postCore (by decide) _ l _ _) (actionApart_refl _)))

/-- An overrun or a full queue is flagged, counted and told. -/
theorem actionApart_overrun (s : State) (l : LaneId) (i k c : Nat) :
    ActionApart s (lcOverrun (rcount (rsetb s l (Block.lpe.base + 4) i true) l (Block.lpe.base + k) 31 0 1) l c) :=
  ((actionApart_rset s l (Nat.le_add_right _ _) _).trans (actionApart_rset _ l (Nat.le_add_right _ _) _)).trans
    (actionApart_lcOverrun _ l c)

theorem actionApart_enqueue (s : State) (l : LaneId) (c : Nat) : ActionApart s (enqueue s l c) := by
  unfold enqueue
  refine apart_ite _ (actionApart_refl s) (apart_ite _ (actionApart_overrun s l _ _ _) ?_)
  dsimp only
  split
  · exact actionApart_modLpe s l _
  · exact (actionApart_modLpe s l _).trans (actionApart_overrun _ l _ _ _)

/-! ### The starts of valves -/

theorem ddmReg_above (m off : Nat) : Block.lpe.base ≤ ddmReg m off := by
  have h : Block.lpe.base ≤ Block.ddv.base := by decide
  unfold ddmReg
  omega

theorem actionApart_modSel (s : State) (l : LaneId) (m : Nat) (f : Sel → Sel) : ActionApart s (s.modSel l m f) :=
  apart_of_only (qs := [.sels]) (only_lane_sels (by decide) s l fun x => tmod x.sels m f) (by decide) (by decide) (by decide)

theorem actionApart_selOpportunity (s : State) (l : LaneId) (m : Nat) : ActionApart s (selOpportunity s l m).1 := by
  have hreg (s : State) (off v : Nat) : ActionApart s (rset s l (ddmReg m off) v) := actionApart_rset s l (ddmReg_above m off) v
  unfold selOpportunity
  extract_lets cfg r s1 s2 s3 s4
  split
  · exact actionApart_refl s
  · have h2 : ActionApart s s2 := (actionApart_modSel s l m _).trans (hreg _ _ _)
    have h3 : ActionApart s s3 := apart_ite _ (h2.trans (hreg _ _ _)) h2
    exact apart_ite _ (apart_ite _ (h3.trans (hreg _ _ _)) (h3.trans (hreg _ _ _))) h3

theorem actionApart_frontDecide (s : State) (l : LaneId) (c : Nat) (sel : Bool) : ActionApart s (frontDecide s l c sel).1 := by
  unfold frontDecide
  split
  · exact actionApart_selOpportunity s l _
  · exact actionApart_refl s

theorem actionApart_sendSeq (s : State) (l : LaneId) (n : Nat) (words extra : List Nat) (rej : Nat) (judged : Bool) :
    ActionApart s (sendSeq s l n words extra rej judged) :=
  apart_ite _ (actionApart_refl s)
    (apart_of_only (qs := [.seqs]) (only_modSeq (by decide) s n _) (by decide) (by decide) (by decide))

theorem actionApart_vstart (s : State) (l : LaneId) (arg pos : Nat) : ActionApart s (vstart s l arg pos) :=
  apart_ite _ (actionApart_refl s) ((actionApart_frontDecide s l _ _).trans (actionApart_sendSeq _ l _ _ _ _ _))

/-! ### Sensing -/

theorem actionApart_hsi (s : State) (x : _) : ActionApart s { s with hsi := x } :=
  apart_of_only (qs := [.hsi]) (only_hsi (by decide) s x) (by decide) (by decide) (by decide)

theorem actionApart_adcTrigger (s : State) (g : Nat) : ActionApart s (adcTrigger s g) :=
  apart_ite _ (actionApart_refl s) (actionApart_hsi s _)

theorem actionApart_lossOpen (s : State) (mask sector : Nat) : ActionApart s (lossOpen s mask sector) :=
  apart_ite _ (actionApart_refl s)
    (apart_foldl (fun s _ => (actionApart_hsi s _).trans (actionApart_hsi _ _)) _ s)

theorem actionApart_lossClose (s : State) (mask sector : Nat) : ActionApart s (lossClose s mask sector) := by
  have hmark (s : State) (n : Nat) : ActionApart s (sputb s .hsi (lsnOff n 8) 3 true) :=
    apart_sputb (by decide) s (by decide) _ _ _
  refine apart_ite _ (actionApart_refl s) (apart_foldl (fun s n => ?_) _ s)
  split
  · exact apart_ite _ (actionApart_hsi s _) (hmark s n)
  · exact hmark s n

/-! ### Cameras -/

theorem actionApart_cam (s : State) (x : _) : ActionApart s { s with cam := x } :=
  apart_of_only (qs := [.cam]) (only_cam (by decide) s x) (by decide) (by decide) (by decide)

theorem actionApart_slotDrop (s : State) (n : Nat) : ActionApart s (slotDrop s n) :=
  ((apart_scount (by decide) s (by decide) _ 1).trans (actionApart_cam _ _)).trans (apart_postEngine (by decide) _ _ _ _)

theorem actionApart_missingRecord (s : State) (n expect : Nat) : ActionApart s (missingRecord s n expect) :=
  apart_ite _ (actionApart_slotDrop s n)
    ((actionApart_cam s _).trans ((apart_flushMissing (Nat.le_refl _) n 64 _).mono (by decide)))

theorem actionApart_camTrigger (s : State) (n : Nat) : ActionApart s (camTrigger s n) := by
  have hpulse (s : State) : ActionApart s (rwrap s .a (Block.cam.base + clOff n 0x2C) 1) :=
    actionApart_rset s .a ((show Block.lpe.base ≤ Block.cam.base by decide).trans (Nat.le_add_right _ _)) _
  unfold camTrigger
  extract_lets cfg s1 s2
  refine apart_ite _ (actionApart_refl s) (Apart.trans (t := s2) ?_ (apart_foldl (fun s v => ?_) _ s2))
  · exact apart_ite _ (actionApart_refl s)
      (apart_ite _ ((hpulse s).trans (actionApart_cam _ _)) (hpulse s))
  · refine apart_ite _ (?_) (actionApart_refl s)
    refine Apart.trans ?_ (actionApart_cam _ _)
    split
    · exact apart_ite _ ((actionApart_cam s _).trans (actionApart_missingRecord _ v _)) (actionApart_refl s)
    · exact actionApart_refl s

/-! ### Parcels -/

theorem actionApart_pcl (s : State) (x : _) : ActionApart s { s with pcl := x } :=
  apart_of_only (qs := [.pcl]) (only_pcl (by decide) s x) (by decide) (by decide) (by decide)

theorem actionApart_pclCount (s : State) (off k : Nat) : ActionApart s (scount s .pcl off k) :=
  apart_scount (by decide) s (by decide) off k

theorem actionApart_pclPutb (s : State) (off i : Nat) (v : Bool) : ActionApart s (sputb s .pcl off i v) :=
  apart_sputb (by decide) s (by decide) off i v

theorem actionApart_parcelFinish (s : State) (c : Nat) : ActionApart s (parcelFinish s c) :=
  ((apart_ringSend (Nat.le_refl _) s (show Block.lpe.base ≤ prRing by decide)).mono (by decide)).trans (actionApart_pcl _ _)

theorem actionApart_pclEvict (s : State) : ActionApart s (pclEvict s) := by
  unfold pclEvict
  split
  · exact (((((actionApart_pcl s _).trans (actionApart_pcl _ _)).trans (actionApart_parcelFinish _ _)).trans
      (actionApart_pclCount _ _ _)).trans (actionApart_pclPutb _ _ _ _)).trans (apart_postEngine (by decide) _ _ _ _)
  · exact actionApart_refl s

theorem actionApart_pclCreate (s : State) (a : PAct) (e d : Nat) : ActionApart s (pclCreate s a e d) := by
  unfold pclCreate
  split
  · exact actionApart_pcl s _
  · refine apart_ite _ (actionApart_pclCount s _ _) ?_
    have hroom := (actionApart_pcl s { s.pcl with ref := some d }).trans (actionApart_pclEvict _)
    dsimp only [State.modPcl]
    split
    · exact hroom
    · exact hroom.trans ((apart_sput (by decide) _ (by decide) _ _).trans (actionApart_pcl _ _))

theorem actionApart_pclStep (s : State) (a : PAct) (x : Nat) : ActionApart s (pclStep s a x) := by
  unfold pclStep
  extract_lets k s1
  have h1 : ActionApart s s1 := apart_ite _ (actionApart_refl s) (actionApart_pclPutb s _ _ _)
  refine h1.trans (apart_foldl (fun s cp => ?_) _ s1)
  extract_lets c p holds s2 s3
  have h2 : ActionApart s s2 := apart_ite _ (actionApart_pcl s _) (actionApart_refl s)
  have h3 : ActionApart s s3 := h2.trans (actionApart_pcl _ _)
  exact apart_ite _ h2 (apart_ite _ (h3.trans (actionApart_pcl _ _)) h3)

theorem actionApart_pclAct (s : State) (a : PAct) : ActionApart s (pclAct s a) := by
  have hlost := actionApart_pclCount s 0x64 1
  unfold pclAct
  refine apart_ite _ (apart_ite _ (actionApart_refl s) (actionApart_pclCount s _ _)) ?_
  split
  · exact hlost
  · refine apart_ite _ (apart_ite _ (actionApart_pclStep s a _) hlost) ?_
    split
    · exact hlost
    · exact actionApart_pclCreate s a _ _

theorem actionApart_pclHandle (s : State) (n : Nat) : ActionApart s (pclHandle s n) := by
  induction n generalizing s with
  | zero => exact actionApart_refl s
  | succ n ih =>
    unfold pclHandle
    split
    · exact apart_ite _ (((actionApart_pcl s _).trans (actionApart_pclAct _ _)).trans (ih _)) (actionApart_refl s)
    · exact actionApart_refl s

theorem actionApart_pclAction (s : State) (l : LaneId) (arg tick : Nat) : ActionApart s (pclAction s l arg tick) :=
  apart_ite _ (actionApart_refl s)
    ((actionApart_pcl s _).trans (apart_ite _ (actionApart_refl _) (actionApart_pclHandle _ _)))

/-! ### The action -/

theorem actionApart_dispatch (s : State) (l : LaneId) (e : Nat) (x : Snap) : ActionApart s (dispatch s l e x) := by
  have howner (t : State) (h : ActionApart s t) : ActionApart s (if s.owns l then t else s) :=
    apart_ite _ h (actionApart_refl s)
  unfold dispatch
  dsimp only
  split
  · exact apart_postCore (by decide) s l _ _
  · exact actionApart_enqueue s l _
  · exact actionApart_vstart s l _ _
  · exact howner _ (actionApart_adcTrigger s _)
  · exact howner _ (actionApart_camTrigger s _)
  · exact howner _ (actionApart_lossOpen s _ _)
  · exact howner _ (actionApart_lossClose s _ _)
  · exact actionApart_pclAction s l _ _
  · exact actionApart_refl s

theorem ent_dispatch (s : State) (l m : LaneId) (e k : Nat) (x : Snap) : (dispatch s l e x).ent m k = s.ent m k :=
  congrArg (fun t => tget t k) ((actionApart_dispatch s l e x).only .entries (by decide) m)

/-- An action leaves the registers of SYS, HAL and EVT. -/
theorem rget_dispatch (s : State) (l m : LaneId) (e : Nat) (x : Snap) {a : Nat} (ha : a < Block.lpe.base) :
    rget (dispatch s l e x) m a = rget s m a := (actionApart_dispatch s l e x).regs m a ha

end Sys2Proof.Machine
end

section
/-! PROOFS. The rules of the event table's state: its entries, its counters and flags, the halyards that it watches, what fires. -/

namespace Sys2Proof.Machine

variable {s t : State} {l : LaneId}

/-! ### Entries -/

@[simp] theorem ent_modEnt_same (s : State) (l : LaneId) (e : Nat) (f : Entry → Entry) : (s.modEnt l e f).ent l e = f (s.ent l e) := by
  simp [State.ent, State.modEnt]

theorem ent_modEnt_ne (s : State) (l : LaneId) {e k : Nat} (h : k ≠ e) (f : Entry → Entry) :
    (s.modEnt l e f).ent l k = s.ent l k := by
  simp [State.ent, State.modEnt, tget_tmod_ne _ h]

@[simp] theorem entries_modEnt_other (s : State) (l : LaneId) (e : Nat) (f : Entry → Entry) :
    ((s.modEnt l e f).lane l.other).entries = (s.lane l.other).entries := by
  simp [State.modEnt]

theorem only_modEnt {ps : List Part} (h : Part.entries ∈ ps) (s : State) (l : LaneId) (e : Nat) (f : Entry → Entry) :
    only ps s (s.modEnt l e f) := only_lane_entries h s l fun x => tmod x.entries e f

@[simp] theorem rget_modEnt (s : State) (l m : LaneId) (e : Nat) (f : Entry → Entry) (a : Nat) :
    rget (s.modEnt l e f) m a = rget s m a := only_modEnt (ps := [.entries]) (by decide) s l e f .regs (by decide) m a

@[simp] theorem core_modEnt (s : State) (l m : LaneId) (e c : Nat) (f : Entry → Entry) :
    (s.modEnt l e f).core m c = s.core m c := by
  cases l <;> cases m <;> rfl

theorem ent_rset (s : State) (l m : LaneId) (a v e : Nat) : (rset s l a v).ent m e = s.ent m e :=
  congrArg (fun t => tget t e) (only_rset (ps := [.regs]) (by decide) s l a v .entries (by decide) m)

theorem ent_postCore (s : State) (l m : LaneId) (c : Nat) (v : EvEntry) (e : Nat) : (postCore s l c v).ent m e = s.ent m e :=
  congrArg (fun t => tget t e) (only_postCore (ps := [.events]) (by decide) s l c v .entries (by decide) m)

/-! ### The end of a command -/

@[simp] theorem ent_modeStep (s t : State) (l : LaneId) (e : Nat) : (modeStep s t).ent l e = t.ent l e := by
  rw [State.ent, modeStep_lane, State.ent]

@[simp] theorem ent_keep (s t : State) (l : LaneId) (e : Nat) : (keep s t).ent l e = t.ent l e := by
  rw [State.ent, keep_lane]
  rfl

/-- While the lanes run, a command's work on the cores stays. -/
theorem core_ended (h : s.lanesUp = true) (t : State) (l : LaneId) (c : Nat) : (modeStep s (keep s t)).core l c = t.core l c := by
  rw [core_modeStep, State.core, keep_lane, h, keepLane_up, State.core]

/-- How a command of the lanes' own hardware ends while the lanes run, where its frame is the supervisor's fields alone. -/
theorem ends_actL {i : Instr} (h : exec i s = actL s t) (hu : s.lanesUp = true) {P : State → Prop}
    (hP : P (modeStep s (keep s t))) : Ends i s fun t => supFrame s t ∧ P t :=
  ⟨_, h.trans (actL_up hu t), supFrame_act s t, hP⟩

/-! ### Counters and flags -/

theorem rget_lt {a : Nat} (h : resetAt a < 2 ^ 32) (s : State) (l : LaneId) : rget s l a < 2 ^ 32 := by
  unfold rget
  split
  · exact BitVec.isLt _
  · exact h

theorem rget_rcount_word {a : Nat} (h : resetAt a < 2 ^ 32) (s : State) (l : LaneId) :
    rget (rcount s l a 31 0 1) l a = min (rget s l a + 1) (2 ^ 32 - 1) := by
  have hlt := rget_lt h s l
  have hfld : rfld s l a 31 0 = rget s l a := by
    unfold rfld
    omega
  have hset (w v : Nat) (hw : w < 2 ^ 32) (hv : v < 2 ^ 32) : nset w 31 0 v = v := by
    unfold nset
    omega
  have hmin : min (rget s l a + 1) (2 ^ 32 - 1) < 2 ^ 32 := by omega
  rw [rcount, rsetf, rget_rset_same, hfld]
  rw [hset _ _ hlt hmin, Nat.mod_eq_of_lt hmin]

theorem rbit_eq (s : State) (l : LaneId) (a i : Nat) : rbit s l a i = nbit (rget s l a) i := rfl

theorem rbit_rsetb (s : State) (l : LaneId) (a : Nat) {i : Nat} (hi : i < 32) (v : Bool) : rbit (rsetb s l a i v) l a i = v := by
  rw [rbit_eq, rsetb, rsetf, rget_rset_same, nbit, nfld_mod_word hi, nfld_nset_same (Nat.le_refl i)]
  cases v <;> simp [b2n]

/-- One of the counters of the table advances and its flag is set. -/
def evtCount (s : State) (l : LaneId) (off i : Nat) : State := rsetb (rcount s l (evtReg off) 31 0 1) l (evtReg 4) i true

theorem rget_evtCount_ne (s : State) (l m : LaneId) {off a : Nat} (i : Nat) (h : a ≠ evtReg off) (h4 : a ≠ evtReg 4) :
    rget (evtCount s l off i) m a = rget s m a := (rget_rset_ne _ l m h4 _).trans (rget_rset_ne s l m h _)

theorem rget_evtCount (s : State) (l : LaneId) {off : Nat} (i : Nat) (ho : off ≠ 4) (hr : resetAt (evtReg off) < 2 ^ 32) :
    rget (evtCount s l off i) l (evtReg off) = min (rget s l (evtReg off) + 1) (2 ^ 32 - 1) := by
  have hne : evtReg off ≠ evtReg 4 := fun h => ho (Nat.add_left_cancel h)
  rw [evtCount, rget_rsetb_ne _ l l hne, rget_rcount_word hr]

theorem rbit_evtCount (s : State) (l : LaneId) (off : Nat) {i : Nat} (hi : i < 32) : rbit (evtCount s l off i) l (evtReg 4) i = true :=
  rbit_rsetb _ l _ hi true

@[simp] theorem ent_evtCount (s : State) (l m : LaneId) (off i e : Nat) : (evtCount s l off i).ent m e = s.ent m e :=
  (ent_rset _ l m _ _ e).trans (ent_rset s l m _ _ e)

theorem only_evtCount {ps : List Part} (h : Part.regs ∈ ps) (s : State) (l : LaneId) (off i : Nat) : only ps s (evtCount s l off i) :=
  only_trans (only_rset h s l _ _) (only_rset h _ l _ _)

/-! ### The halyards that the table watches -/

theorem hy_modEnt (s : State) (l m : LaneId) (e n : Nat) (f : Entry → Entry) : (s.modEnt l e f).hy m n = s.hy m n := by
  cases l <;> cases m <;> rfl

theorem rfld_modEnt (s : State) (l m : LaneId) (e : Nat) (f : Entry → Entry) (a hi lo : Nat) :
    rfld (s.modEnt l e f) m a hi lo = rfld s m a hi lo := by rw [rfld, rget_modEnt, rfld]

theorem now_modEnt (s : State) (l : LaneId) (e : Nat) (f : Entry → Entry) : (s.modEnt l e f).now = s.now := by cases l <;> rfl

theorem hyPosAux_modEnt (s : State) (l m : LaneId) (e : Nat) (f : Entry → Entry) (k n : Nat) :
    hyPosAux (s.modEnt l e f) m k n = hyPosAux s m k n := by
  induction k generalizing n with
  | zero => rw [hyPosAux, hy_modEnt, hyPosAux]
  | succ k ih => simp only [hyPosAux, hySrc, hyInput, rfld_modEnt, rget_modEnt, hy_modEnt, now_modEnt, ih]

theorem hySyncAux_modEnt (s : State) (l m : LaneId) (e : Nat) (f : Entry → Entry) (k n : Nat) :
    hySyncAux (s.modEnt l e f) m k n = hySyncAux s m k n := by
  induction k generalizing n with
  | zero => rw [hySyncAux, hy_modEnt, hySyncAux]
  | succ k ih => simp only [hySyncAux, hySrc, hyInput, rfld_modEnt, hy_modEnt, ih]

theorem hyReached_modEnt (s : State) (l m : LaneId) (e : Nat) (f : Entry → Entry) (n q : Nat) :
    hyReached (s.modEnt l e f) m n q = hyReached s m n q :=
  congrArg (fun p => reached (p % 2 ^ 56) q) (hyPosAux_modEnt s l m e f 16 n)

theorem isMissed_modEnt (s : State) (l m : LaneId) (e : Nat) (f : Entry → Entry) (x : Entry) :
    isMissed (s.modEnt l e f) m x = isMissed s m x := by
  have hsync : inSync (s.modEnt l e f) m x.hyOf = inSync s m x.hyOf :=
    congrArg (· == SyncState.sync) (hySyncAux_modEnt s l m e f 16 x.hyOf)
  rw [isMissed, isMissed, hsync, hyReached_modEnt]

theorem evtOn_modEnt (s : State) (l m : LaneId) (e : Nat) (f : Entry → Entry) : evtOn (s.modEnt l e f) m = evtOn s m := by
  have hlive : ((s.modEnt l e f).lane m).live = (s.lane m).live := by cases l <;> cases m <;> rfl
  rw [evtOn, evtOn, hlive, rbit_eq, rget_modEnt, rbit_eq]

/-- An entry that is stored and is not missed then is not dealt with. -/
theorem missedAt_modEnt (s : State) (l : LaneId) (e : Nat) (f : Entry → Entry)
    (h : (evtOn s l && isMissed s l (f (s.ent l e))) = false) : missedAt (s.modEnt l e f) l e = s.modEnt l e f := by
  rw [missedAt, evtOn_modEnt, isMissed_modEnt, ent_modEnt_same, h]
  rfl

/-! ### What fires -/

/-- An entry of the table while its occurrence `x` fires. -/
def Entry.firing (y : Entry) (x : Snap) (late : Bool) : Entry :=
  { y with missed := false, lastLate := late, snap := some { x with firing := true } }

/-- An occurrence that fires, before its action. -/
def fireMark (s : State) (l : LaneId) (e : Nat) (x : Snap) (late : Bool) : State :=
  rwrap (s.modEnt l e fun y => y.firing x late) l (evtReg 0x34) 1

theorem fire_eq {e : Nat} {x : Snap} (h : (s.ent l e).snap = some x) (late : Bool) :
    fire s l e late = dispatch (fireMark s l e x late) l e x := by
  rw [fire, h]
  rfl

theorem fire_none {e : Nat} (h : (s.ent l e).snap = none) (late : Bool) : fire s l e late = s := by rw [fire, h]

theorem ent_fireMark (s : State) (l : LaneId) (e : Nat) (x : Snap) (late : Bool) :
    (fireMark s l e x late).ent l e = (s.ent l e).firing x late := by
  rw [fireMark, rwrap, ent_rset, ent_modEnt_same]

theorem rget_fireMark (s : State) (l : LaneId) (e : Nat) (x : Snap) (late : Bool) :
    rget (fireMark s l e x late) l (evtReg 0x34) = (rget s l (evtReg 0x34) + 1) % 2 ^ 32 := by
  rw [fireMark, rwrap, rget_rset_same, rget_modEnt]

theorem rget_fireMark_ne (s : State) (l m : LaneId) (e : Nat) (x : Snap) (late : Bool) {a : Nat} (h : a ≠ evtReg 0x34) :
    rget (fireMark s l e x late) m a = rget s m a := by
  rw [fireMark, rget_rwrap_ne _ l m h, rget_modEnt]

theorem ent_fire {e : Nat} {x : Snap} (h : (s.ent l e).snap = some x) (late : Bool) :
    (fire s l e late).ent l e = (s.ent l e).firing x late := by
  rw [fire_eq h, ent_dispatch, ent_fireMark]

theorem rget_fire {e : Nat} {x : Snap} (h : (s.ent l e).snap = some x) (late : Bool) :
    rget (fire s l e late) l (evtReg 0x34) = (rget s l (evtReg 0x34) + 1) % 2 ^ 32 := by
  rw [fire_eq h, rget_dispatch _ l l e x (by decide), rget_fireMark]

theorem rget_fire_ne (s : State) (l m : LaneId) (e : Nat) (late : Bool) {a : Nat} (ha : a < Block.lpe.base) (h : a ≠ evtReg 0x34) :
    rget (fire s l e late) m a = rget s m a := by
  cases hx : (s.ent l e).snap with
  | none => rw [fire_none hx]
  | some x => rw [fire_eq hx, rget_dispatch _ l m e x ha, rget_fireMark_ne s l m e x late h]

/-! ### Missed occurrences (R150) -/

/-- The table after a missed occurrence is counted as late, before it fires. -/
def lateMark (s : State) (l : LaneId) (e : Nat) : State :=
  (evtCount s l 0x28 18).modEnt l e fun y => { y with held := false, snap := some y.snapshot }

/-- An entry whose missed occurrence is skipped. -/
def Entry.skipped (s : State) (l : LaneId) (y : Entry) : Entry :=
  let y := { y with missed := true, held := false }
  if y.repeats then advanceTo s l y else { y with w2 := setBit y.w2 14 false }

theorem missedOne_late {e : Nat} (h : bit (s.ent l e).w2 15 = true) : missedOne s l e = fire (lateMark s l e) l e true := if_pos h

theorem missedOne_skip {e : Nat} (h : bit (s.ent l e).w2 15 = false) :
    missedOne s l e = (evtCount s l 0x24 17).modEnt l e (Entry.skipped (evtCount s l 0x24 17) l) := if_neg (by simp [h])

theorem ent_lateMark (s : State) (l : LaneId) (e : Nat) :
    (lateMark s l e).ent l e = { s.ent l e with held := false, snap := some (s.ent l e).snapshot } := by
  rw [lateMark, ent_modEnt_same, ent_evtCount]

theorem missed_advanceTo (s : State) (l : LaneId) (y : Entry) : (advanceTo s l y).missed = y.missed := by
  unfold advanceTo
  extract_lets d st
  split <;> rfl

/-- The registers of EVT that missed and firing occurrences leave. -/
theorem rget_missedOne_ne (s : State) (l m : LaneId) (e : Nat) {a : Nat} (ha : a < Block.lpe.base)
    (h : a ∉ [evtReg 4, evtReg 0x24, evtReg 0x28, evtReg 0x34]) : rget (missedOne s l e) m a = rget s m a := by
  simp only [List.mem_cons, List.not_mem_nil, or_false, not_or] at h
  obtain ⟨h4, hskip, hlate, hfire⟩ := h
  cases hb : bit (s.ent l e).w2 15 with
  | true => rw [missedOne_late hb, rget_fire_ne _ l m e true ha hfire, lateMark, rget_modEnt, rget_evtCount_ne s l m 18 hlate h4]
  | false => rw [missedOne_skip hb, rget_modEnt, rget_evtCount_ne s l m 17 hskip h4]

theorem rget_missedPass_ne (s : State) (l m : LaneId) {a : Nat} (ha : a < Block.lpe.base)
    (h : a ∉ [evtReg 4, evtReg 0x24, evtReg 0x28, evtReg 0x34]) : rget (missedPass s l) m a = rget s m a := by
  have hfire : a ≠ evtReg 0x34 := by
    rintro rfl
    simp at h
  unfold missedPass
  split
  · rfl
  · next hon =>
    clear hon
    generalize (fireDue s l ++ missedDue s l).mergeSort fireBefore = ks
    induction ks generalizing s with
    | nil => rfl
    | cons k ks ih =>
      rw [List.foldl_cons, ih]
      split
      · exact rget_fire_ne s l m _ false ha hfire
      · exact rget_missedOne_ne s l m _ ha h

end Sys2Proof.Machine
end

section
/-! PROOFS. The event table (O44): arming, firing, completion, commits, cancels and FIRE_EN, one lemma for each thing that a command
of the table can do. -/

namespace Sys2Proof.Machine

variable {s : State} {l : LaneId} {e : Fin 4096}

/-! ### Fields of a word -/

theorem fld_setFld {hi lo : Nat} (h : lo ≤ hi) (hw : hi < 32) (w : Word) (v : Nat) :
    fld (setFld w hi lo v) hi lo = v % 2 ^ (hi + 1 - lo) := by
  have hset : (setFld w hi lo v).toNat = nset w.toNat hi lo v % 2 ^ 32 := BitVec.toNat_ofNat _ _
  have hfld := nfld_mod_word hw (nset w.toNat hi lo v) lo
  rw [← hset, nfld_nset_same h] at hfld
  exact hfld

theorem fld_setFld_ne {hi lo hi' lo' : Nat} (h : lo ≤ hi) (hw : hi' < 32) (hd : hi' < lo ∨ hi < lo') (w : Word) (v : Nat) :
    fld (setFld w hi lo v) hi' lo' = fld w hi' lo' := by
  have hset : (setFld w hi lo v).toNat = nset w.toNat hi lo v % 2 ^ 32 := BitVec.toNat_ofNat _ _
  have hfld := nfld_mod_word hw (nset w.toNat hi lo v) lo'
  rw [← hset, nfld_nset_disjoint h hd] at hfld
  exact hfld

/-! ### Arming (R142, R143, R150) -/

/-- The scan visits an entry that is to be armed or missed. -/
structure ArmVisit (s : State) (l : LaneId) (e : Fin 4096) : Prop where
  up : s.lanesUp = true
  on : evtOn s l = true
  turn : s.now % 4096 = e
  enabled : (s.ent l e).en = true
  unarmed : (s.ent l e).snap = none
  sync : inSync s l (s.ent l e).hyOf = true

/-- An entry lies within the arming distance of its halyard. -/
def nearTo (s : State) (l : LaneId) (x : Entry) : Prop :=
  (x.q + 2 ^ 56 - hyP s l x.hyOf) % 2 ^ 56 ≤ rfld s l (hyReg x.hyOf 0x18) 23 0

theorem ArmVisit.not_idle (h : ArmVisit s l e) :
    ¬(s.now % 4096 ≠ e.val ∨ (!evtOn s l) = true ∨ (!(s.ent l e).en) = true ∨ (s.ent l e).snap.isSome = true ∨
      (!inSync s l (s.ent l e).hyOf) = true) := by
  simp [h.on, h.turn, h.enabled, h.unarmed, h.sync]

theorem ArmVisit.missed (h : ArmVisit s l e) (hr : hyReached s l (s.ent l e).hyOf (s.ent l e).q = true) :
    exec (.entryArm l e) s = actL s (missedOne s l e) :=
  congrArg (actL s) ((if_neg h.not_idle).trans (if_pos hr))

theorem ArmVisit.near (h : ArmVisit s l e) (hr : hyReached s l (s.ent l e).hyOf (s.ent l e).q = false)
    (hn : nearTo s l (s.ent l e)) :
    exec (.entryArm l e) s = actL s (if armedCount s l < 1024 then s.modEnt l e fun y => { y with held := false, snap := some y.snapshot }
      else if (s.ent l e).held then s else (evtCount s l 0x30 16).modEnt l e fun y => { y with held := true }) :=
  congrArg (actL s) ((if_neg h.not_idle).trans ((if_neg (by simp [hr])).trans (if_pos hn)))

theorem ArmVisit.arms (h : ArmVisit s l e) (hr : hyReached s l (s.ent l e).hyOf (s.ent l e).q = false)
    (hn : nearTo s l (s.ent l e)) (hc : armedCount s l < 1024) : EndsIn [.entries] (.entryArm l e) s fun t =>
      t.ent l e = { s.ent l e with held := false, snap := some (s.ent l e).snapshot } ∧
      (∀ k : Fin 4096, k ≠ e → t.ent l k = s.ent l k) ∧ (t.lane l.other).entries = (s.lane l.other).entries := by
  have hexec := h.near hr hn
  rw [if_pos hc] at hexec
  refine endsIn_actL hexec h.up (only_modEnt (by decide) s l _ _) ⟨by simp, fun k hk => ?_, ?_⟩
  · rw [ent_modeStep, ent_keep, ent_modEnt_ne s l fun hv => hk (Fin.ext hv)]
  · rw [modeStep_lane, keep_lane]
    exact entries_modEnt_other s l _ _

theorem ArmVisit.waits (h : ArmVisit s l e) (hr : hyReached s l (s.ent l e).hyOf (s.ent l e).q = false)
    (hn : nearTo s l (s.ent l e)) (hc : 1024 ≤ armedCount s l) (hh : (s.ent l e).held = false) :
    EndsIn [.entries, .regs] (.entryArm l e) s fun t => t.ent l e = { s.ent l e with held := true } ∧
      rget t l 0xF0140030 = min (rget s l 0xF0140030 + 1) (2 ^ 32 - 1) ∧ rbit t l 0xF0140004 16 = true := by
  have hexec := h.near hr hn
  rw [if_neg (Nat.not_lt.2 hc), if_neg (by simp [hh])] at hexec
  refine endsIn_actL hexec h.up (only_trans (only_evtCount (by decide) s l _ _) (only_modEnt (by decide) _ l _ _)) ⟨?_, ?_, ?_⟩
  · simp
  · rw [rget_modeStep, rget_keep, rget_modEnt]
    exact rget_evtCount s l 16 (by decide) (by decide +kernel)
  · rw [rbit_eq, rget_modeStep, rget_keep, rget_modEnt]
    exact rbit_evtCount s l 0x30 (by decide)

theorem ArmVisit.firesLate (h : ArmVisit s l e) (hr : hyReached s l (s.ent l e).hyOf (s.ent l e).q = true)
    (hlate : bit (s.ent l e).w2 15 = true) : Ends (.entryArm l e) s fun t => supFrame s t ∧
      rget t l 0xF0140028 = min (rget s l 0xF0140028 + 1) (2 ^ 32 - 1) ∧ rbit t l 0xF0140004 18 = true ∧
      rget t l 0xF0140034 = (rget s l 0xF0140034 + 1) % 2 ^ 32 ∧
      t.ent l e = { s.ent l e with held := false, missed := false, lastLate := true,
                                   snap := some { (s.ent l e).snapshot with firing := true } } := by
  have hsnap : ((lateMark s l e).ent l e).snap = some (s.ent l e).snapshot := by rw [ent_lateMark]
  have hexec := h.missed hr
  rw [missedOne_late hlate] at hexec
  refine ends_actL hexec h.up ⟨?_, ?_, ?_, ?_⟩
  · rw [rget_modeStep, rget_keep, rget_fire_ne _ l l _ true (by decide) (by decide), lateMark, rget_modEnt]
    exact rget_evtCount s l 18 (by decide) (by decide +kernel)
  · rw [rbit_eq, rget_modeStep, rget_keep, rget_fire_ne _ l l _ true (by decide) (by decide), lateMark, rget_modEnt]
    exact rbit_evtCount s l 0x28 (by decide)
  · rw [rget_modeStep, rget_keep]
    refine (rget_fire hsnap true).trans ?_
    rw [lateMark, rget_modEnt, rget_evtCount_ne s l l 18 (by decide) (by decide)]
    rfl
  · rw [ent_modeStep, ent_keep, ent_fire hsnap, ent_lateMark]
    rfl

theorem ArmVisit.skips (h : ArmVisit s l e) (hr : hyReached s l (s.ent l e).hyOf (s.ent l e).q = true)
    (hlate : bit (s.ent l e).w2 15 = false) : EndsIn [.entries, .regs] (.entryArm l e) s fun t =>
      rget t l 0xF0140024 = min (rget s l 0xF0140024 + 1) (2 ^ 32 - 1) ∧ rbit t l 0xF0140004 17 = true ∧
      (t.ent l e).missed = true ∧ ((s.ent l e).repeats = false → (t.ent l e).en = false) := by
  have hexec := h.missed hr
  rw [missedOne_skip hlate] at hexec
  refine endsIn_actL hexec h.up (only_trans (only_evtCount (by decide) s l _ _) (only_modEnt (by decide) _ l _ _))
    ⟨?_, ?_, ?_, fun hrep => ?_⟩
  · rw [rget_modeStep, rget_keep, rget_modEnt]
    exact rget_evtCount s l 17 (by decide) (by decide +kernel)
  · rw [rbit_eq, rget_modeStep, rget_keep, rget_modEnt]
    exact rbit_evtCount s l 0x24 (by decide)
  · rw [ent_modeStep, ent_keep, ent_modEnt_same, Entry.skipped]
    split
    · exact missed_advanceTo _ l _
    · rfl
  · have hoff : fld (setFld (s.ent l e).w2 14 14 0) 14 14 = 0 := fld_setFld (Nat.le_refl _) (by decide) _ 0
    rw [ent_modeStep, ent_keep, ent_modEnt_same, ent_evtCount, Entry.skipped]
    exact (congrArg Entry.en (if_neg fun hy => Bool.false_ne_true (hrep.symm.trans hy))).trans (congrArg (· == 1) hoff)

/-! ### Firing (R142, R144) -/

/-- The place in the order of R144 of an armed entry that has reached its position. -/
def dueKey (s : State) (l : LaneId) (p : Nat × Entry) : Option (Nat × Nat × Nat) :=
  match p.2.snap with
  | some x => if !x.firing && hyReached s l x.hy x.q then some (x.hy, posKey s l x.hy x.q, p.1) else none
  | none => none

theorem fireDue_eq (s : State) (l : LaneId) : fireDue s l = (s.lane l).entries.filterMap (dueKey s l) := rfl

theorem dueKey_place {p : Nat × Entry} {k : Nat × Nat × Nat} (h : dueKey s l p = some k) : k.2.2 = p.1 := by
  unfold dueKey at h
  split at h
  · split at h
    · cases h
      rfl
    · cases h
  · cases h

/-- The entry that a table holds at a place is the one that is found as due there. -/
theorem find_due {x : Entry} {k : Nat × Nat × Nat} {n : Nat} (hk : dueKey s l (n, x) = some k) (t : Tab Entry)
    (h : tfind t n = some x) : (t.filterMap (dueKey s l)).find? (fun k => k.2.2 == n) = some k := by
  induction t with
  | nil => cases h
  | cons p t ih =>
    obtain ⟨m, v⟩ := p
    by_cases hm : m = n
    · subst hm
      obtain rfl : v = x := by simpa [tfind] using h
      rw [List.filterMap_cons_some hk, List.find?_cons_of_pos (by simp [dueKey_place hk])]
    · have hrest := ih (by simpa [tfind, hm] using h)
      cases hv : dueKey s l (m, v) with
      | none => rw [List.filterMap_cons_none hv, hrest]
      | some j => rw [List.filterMap_cons_some hv, List.find?_cons_of_neg (by simp [dueKey_place hv, hm]), hrest]

/-- An armed entry has a place in the table. -/
theorem tfind_armed {t : Tab Entry} {n : Nat} {y : Snap} (h : (tget t n).snap = some y) : tfind t n = some (tget t n) := by
  unfold tget at *
  cases hf : tfind t n with
  | none => rw [hf] at h; cases h
  | some x => rfl

/-- The entry is the first of those that have reached their position. -/
structure FirstDue (s : State) (l : LaneId) (e : Fin 4096) (y : Snap) : Prop where
  up : s.lanesUp = true
  live : (s.lane l).live = true
  armed : (s.ent l e).snap = some y
  waiting : y.firing = false
  due : hyReached s l y.hy y.q = true
  first : ∀ m ∈ fireDue s l, fireBefore (y.hy, posKey s l y.hy y.q, e.val) m = true

variable {y : Snap}

theorem FirstDue.exec_entryFire (h : FirstDue s l e y) : exec (.entryFire l e) s = actL s (fire s l e false) := by
  have hkey : dueKey s l (e.val, s.ent l e) = some (y.hy, posKey s l y.hy y.q, e.val) := by
    simp [dueKey, h.armed, h.waiting, h.due]
  have hfind := find_due hkey _ (tfind_armed h.armed)
  have hall : (fireDue s l).all (fun m => fireBefore (y.hy, posKey s l y.hy y.q, e.val) m) = true := List.all_eq_true.2 h.first
  rw [← fireDue_eq] at hfind
  change execEntryFire l e s = _
  unfold execEntryFire
  simp only [hfind, h.live, hall, Bool.true_and, if_true]

theorem FirstDue.fires (h : FirstDue s l e y) : Ends (.entryFire l e) s fun t => supFrame s t ∧
    t.ent l e = { s.ent l e with missed := false, lastLate := false, snap := some { y with firing := true } } ∧
    rget t l 0xF0140034 = (rget s l 0xF0140034 + 1) % 2 ^ 32 := by
  refine ends_actL h.exec_entryFire h.up ⟨?_, ?_⟩
  · rw [ent_modeStep, ent_keep, ent_fire h.armed]
    rfl
  · rw [rget_modeStep, rget_keep]
    exact rget_fire h.armed false

/-- An EVENT action posts to its core. -/
theorem FirstDue.posts (h : FirstDue s l e y) (hact : y.act = 1) : EndsIn [.entries, .regs, .events] (.entryFire l e) s fun t =>
    regsBut [0xF0140034] s t ∧
    t.core l y.core = (s.core l y.core).post ⟨1, y.arg % 256, e + y.gen % 16 * 4096, y.turn, false⟩ := by
  have hfire : fire s l e false =
      postCore (fireMark s l e y false) l y.core ⟨1, y.arg % 256, e + y.gen % 16 * 4096, y.turn, false⟩ := by
    rw [fire_eq h.armed, dispatch, hact]
    rw [Nat.mod_eq_of_lt e.isLt]
    rfl
  have hexec := h.exec_entryFire
  rw [hfire] at hexec
  have honly : only [.entries, .regs, .events] s (fireMark s l e y false) :=
    only_trans (only_modEnt (by decide) s l _ _) (only_rset (by decide) _ l _ _)
  refine endsIn_actL hexec h.up (only_trans honly (only_postCore (by decide) _ l _ _)) ⟨fun m a ha => ?_, ?_⟩
  · rw [rget_modeStep, rget_keep]
    exact (only_postCore (ps := [.events]) (by decide) _ l _ _ .regs (by decide) m a).trans
      (rget_fireMark_ne s l m e y false (List.ne_of_not_mem_cons ha))
  · have hcore : (fireMark s l e y false).core l y.core = s.core l y.core := by
      rw [fireMark, rwrap]
      refine Eq.trans ?_ (core_modEnt s l l e y.core fun z => z.firing y false)
      cases l <;> unfold rset <;> split <;> rfl
    rw [core_ended h.up, core_postCore_same, hcore]

/-! ### Completion (R145, R148) -/

theorem modEnt_congr {n : Nat} {f g : Entry → Entry} (h : f (s.ent l n) = g (s.ent l n)) : s.modEnt l n f = s.modEnt l n g := by
  have htab : tmod (s.lane l).entries n f = tmod (s.lane l).entries n g := congrArg (tset (s.lane l).entries n) h
  cases l
  · exact congrArg (fun t => ({ s with laneA := { s.laneA with entries := t } } : State)) htab
  · exact congrArg (fun t => ({ s with laneB := { s.laneB with entries := t } } : State)) htab

/-- An entry after its occurrence: it repeats, or is disabled. -/
def Entry.onward (x : Entry) : Entry := if x.repeats then { x with w1 := x.w1 + u32 x.step } else { x with w2 := setBit x.w2 14 false }

/-- An entry whose occurrence, with the generation `gen`, is over. -/
def Entry.over (x : Entry) (gen : Nat) (fired : Bool) : Entry :=
  if fired then { x with snap := none, occ := (x.occ + 1) % 65536, fgen := gen } else { x with snap := none }

/-- An occurrence without a commit of its own ends, and the entry is not missed at once. -/
theorem complete_plain {n : Nat} {fired : Bool} (hc : y.commit = none) (hl : ((s.ent l n).lastLate && fired) = false)
    (hm : (evtOn s l && isMissed s l ((s.ent l n).over y.gen fired).onward) = false) :
    complete s l n y fired = s.modEnt l n fun _ => ((s.ent l n).over y.gen fired).onward := by
  rw [← missedAt_modEnt s l n (fun _ => ((s.ent l n).over y.gen fired).onward) hm]
  refine congrArg (fun t => missedAt t l n) (modEnt_congr ?_)
  simp only [hc, hl, Bool.false_and]
  cases fired <;> rfl

theorem endsIn_occurrenceComplete (hu : s.lanesUp = true) (hs : (s.ent l e).snap = some y) (hf : y.firing = true)
    (hc : y.commit = none) (hl : (s.ent l e).lastLate = false)
    (hm : (evtOn s l && isMissed s l ((s.ent l e).over y.gen true).onward) = false) :
    EndsIn [.entries] (.occurrenceComplete l e) s fun t => t.ent l e = ((s.ent l e).over y.gen true).onward := by
  have hexec : exec (.occurrenceComplete l e) s = actL s (complete s l e y true) := by
    change execOccurrenceComplete l e s = _
    simp only [execOccurrenceComplete, hs, hf, if_true]
  rw [complete_plain hc (by simp [hl]) hm] at hexec
  exact endsIn_actL hexec hu (only_modEnt (by decide) s l _ _) (by simp)

/-! ### Commits and cancels (R146 to R149) -/

variable {c : Fin 8}

theorem exec_entryCommit (s : State) (l : LaneId) (c : Fin 8) (e : Fin 4096) :
    exec (.entryCommit l c e) s = actL s (commit s l c e) := by
  have hop : nfld e.val 13 12 = 0 := by unfold nfld; omega
  have harg : nfld e.val 11 0 = e := by unfold nfld; omega
  change actL s (wcmd s l c e) = _
  rw [wcmd, hop]
  exact congrArg (fun n => actL s (commit s l c n)) harg

theorem exec_entryCancel (s : State) (l : LaneId) (c : Fin 8) (e : Fin 4096) :
    exec (.entryCancel l c e) s = actL s (cancel s l c e) := by
  have hop : nfld (2 ^ 12 + e.val) 13 12 = 1 := by unfold nfld; omega
  have harg : nfld (2 ^ 12 + e.val) 11 0 = e := by unfold nfld; omega
  change actL s (wcmd s l c (2 ^ 12 + e.val)) = _
  rw [wcmd, hop]
  exact congrArg (fun n => actL s (cancel s l c n)) harg

theorem only_setWstat {ps : List Part} (h : Part.cores ∈ ps) (s : State) (l : LaneId) (c n r : Nat) : only ps s (setWstat s l c n r) :=
  only_modCore h (f := fun x => { x with wstat := u32 (fld (s.ent l n).w2 23 16 * 2 ^ 20 + n * 2 ^ 8 + r) })
    (fun _ => ⟨rfl, rfl, rfl⟩) s l c

@[simp] theorem ent_setWstat (s : State) (l m : LaneId) (c n r k : Nat) : (setWstat s l c n r).ent m k = s.ent m k :=
  congrArg (fun t => tget t k) (only_setWstat (ps := [.cores]) (by decide) s l c n r .entries (by decide) m)

theorem wstat_setWstat (s : State) (l : LaneId) (c n r : Nat) :
    ((setWstat s l c n r).core l c).wstat = u32 (fld (s.ent l n).w2 23 16 * 2 ^ 20 + n * 2 ^ 8 + r) := by
  rw [setWstat, State.core_modCore_same]

/-- A command of a core that tells its WSTAT, after a change of the entry. -/
theorem endsIn_told {i : Instr} {x : Entry} {g r : Nat} (hu : s.lanesUp = true)
    (hexec : exec i s = actL s (setWstat (s.modEnt l e fun _ => x) l c e r)) (hg : fld x.w2 23 16 = g) :
    EndsIn [.entries, .cores] i s fun t => t.ent l e = x ∧ (t.core l c).wstat = u32 (g * 2 ^ 20 + e * 2 ^ 8 + r) := by
  refine endsIn_actL hexec hu (only_trans (only_modEnt (by decide) s l _ _) (only_setWstat (by decide) _ l _ _ _)) ⟨?_, ?_⟩
  · simp
  · rw [core_ended hu, wstat_setWstat, ent_modEnt_same, hg]

/-- A command of a core that tells its WSTAT and leaves the entry. -/
theorem endsIn_toldOnly {i : Instr} {r : Nat} (hu : s.lanesUp = true) (hexec : exec i s = actL s (setWstat s l c e r)) :
    EndsIn [.cores] i s fun t => (t.core l c).wstat = u32 (fld (s.ent l e).w2 23 16 * 2 ^ 20 + e * 2 ^ 8 + r) := by
  refine endsIn_actL hexec hu (only_setWstat (by decide) s l _ _ _) ?_
  rw [core_ended hu, wstat_setWstat]

/-- A staging word of a core. -/
abbrev staged (s : State) (l : LaneId) (c : Fin 8) (k : Nat) : Word := tget (s.core l c).wbuf k

theorem endsIn_commitBad (hu : s.lanesUp = true) (hb : commitBad (staged s l c 0) (staged s l c 2) (staged s l c 3) = true) :
    EndsIn [.regs] (.entryCommit l c e) s fun t => regsBut [0xF014000C] s t ∧ nfld (rget t l 0xF014000C) 7 0 = 4 := by
  have hexec := exec_entryCommit s l c e
  have hrej : commit s l c e = reject s l .evt 0x20 rRANGE := if_pos hb
  rw [hrej] at hexec
  refine endsIn_actL hexec hu (only_reject (by decide) s l _ _ _) ⟨fun m a ha => ?_, ?_⟩
  · rw [rget_modeStep, rget_keep]
    exact regsBut_reject s l .evt 0x20 rRANGE m a ha
  · rw [rget_modeStep, rget_keep]
    exact (told_reject s l .evt 0x20 (by decide)).1

/-- An entry with the staging words of a core, of the next generation (R146). -/
def Entry.restaged (x : Entry) (b : Nat → Word) : Entry :=
  { x with w0 := b 0, w1 := b 1, w2 := setFld (b 2) 23 16 (fld x.w2 23 16 + 1), w3 := b 3, held := false }

/-- The entry that a commit stores: one that goes on repeating keeps its TURN (R147). -/
def Entry.committed (x : Entry) (b : Nat → Word) : Entry :=
  if (x.restaged b).repeats && x.en then { x.restaged b with w1 := x.w1 } else x.restaged b

theorem committed_gen (x : Entry) (b : Nat → Word) : fld (x.committed b).w2 23 16 = (fld x.w2 23 16 + 1) % 256 := by
  have hgen : fld (setFld (b 2) 23 16 (fld x.w2 23 16 + 1)) 23 16 = (fld x.w2 23 16 + 1) % 256 :=
    fld_setFld (by decide) (by decide) _ _
  unfold Entry.committed
  split <;> exact hgen

theorem committed_words (x : Entry) (b : Nat → Word) : (x.committed b).w0 = b 0 ∧ (x.committed b).w3 = b 3 := by
  unfold Entry.committed
  split <;> exact ⟨rfl, rfl⟩

/-- The entry of a commit that finds no occurrence armed: one that goes on repeating takes its next position if the halyard has
reached the stored one. -/
def Entry.committedIdle (x : Entry) (b : Nat → Word) (s : State) (l : LaneId) : Entry :=
  if (x.restaged b).repeats && x.en && hyReached s l (x.committed b).hyOf (x.committed b).q then
    { x.committed b with w1 := (x.committed b).w1 + u32 (x.committed b).step }
  else x.committed b

/-- An entry whose armed occurrence `y` goes on with what it held before the commit. -/
def Entry.awaiting (x : Entry) (y : Snap) (was : Bool) : Entry := { x with snap := some { y with commit := some was } }

theorem awaiting_words (x : Entry) (y : Snap) (was : Bool) : (x.awaiting y was).w0 = x.w0 ∧ (x.awaiting y was).w1 = x.w1 ∧
    (x.awaiting y was).w2 = x.w2 ∧ (x.awaiting y was).w3 = x.w3 ∧ (x.awaiting y was).snap = some { y with commit := some was } :=
  ⟨rfl, rfl, rfl, rfl, rfl⟩

theorem commit_armed (hb : commitBad (staged s l c 0) (staged s l c 2) (staged s l c 3) = false) (hs : (s.ent l e).snap = some y) :
    commit s l c e = setWstat (s.modEnt l e fun _ =>
      ((s.ent l e).committed (staged s l c)).awaiting y (s.ent l e).en) l c e 1 := by
  unfold commit
  rw [if_neg (by simp [hb])]
  dsimp only
  split
  · next z hz =>
    obtain rfl : z = y := Option.some.inj (hz.symm.trans hs)
    rfl
  · next hz => exact absurd (hz.symm.trans hs) nofun

theorem commit_unarmed (hb : commitBad (staged s l c 0) (staged s l c 2) (staged s l c 3) = false) (hs : (s.ent l e).snap = none) :
    commit s l c e =
      setWstat (missedAt (s.modEnt l e fun _ => (s.ent l e).committedIdle (staged s l c) s l) l e) l c e 0 := by
  unfold commit
  rw [if_neg (by simp [hb])]
  dsimp only
  split
  · next z hz => exact absurd (hs.symm.trans hz) nofun
  · rfl

theorem exec_commit_unarmed (hb : commitBad (staged s l c 0) (staged s l c 2) (staged s l c 3) = false)
    (hs : (s.ent l e).snap = none) (hk : (((s.ent l e).restaged (staged s l c)).repeats && (s.ent l e).en &&
      hyReached s l ((s.ent l e).committed (staged s l c)).hyOf ((s.ent l e).committed (staged s l c)).q) = false)
    (hm : (evtOn s l && isMissed s l ((s.ent l e).committed (staged s l c))) = false) :
    exec (.entryCommit l c e) s = actL s (setWstat (s.modEnt l e fun _ => (s.ent l e).committed (staged s l c)) l c e 0) := by
  have hidle : (s.ent l e).committedIdle (staged s l c) s l = (s.ent l e).committed (staged s l c) := by
    exact if_neg (by rw [hk]; exact Bool.false_ne_true)
  rw [exec_entryCommit, commit_unarmed hb hs, hidle, missedAt_modEnt s l e (fun _ => (s.ent l e).committed (staged s l c)) hm]

theorem exec_commit_armed (hb : commitBad (staged s l c 0) (staged s l c 2) (staged s l c 3) = false)
    (hs : (s.ent l e).snap = some y) : exec (.entryCommit l c e) s = actL s (setWstat (s.modEnt l e fun _ =>
      ((s.ent l e).committed (staged s l c)).awaiting y (s.ent l e).en) l c e 1) := by
  rw [exec_entryCommit, commit_armed hb hs]

theorem exec_cancel_unarmed (c : Fin 8) (hs : (s.ent l e).snap = none) :
    exec (.entryCancel l c e) s = actL s (setWstat s l c e 3) := by
  rw [exec_entryCancel, cancel, hs]

/-- A cancel is too late once the occurrence fires or the halyard has reached it (R149). -/
theorem exec_cancel_late (c : Fin 8) (hs : (s.ent l e).snap = some y) (hf : y.firing = true ∨ hyReached s l y.hy y.q = true) :
    exec (.entryCancel l c e) s = actL s (setWstat s l c e 4) := by
  have hfiring : snapFiring s l y = true := (Bool.or_eq_true _ _).mpr hf
  rw [exec_entryCancel, cancel, hs]
  exact congrArg (actL s) (if_pos hfiring)

theorem exec_cancel_armed (c : Fin 8) (hs : (s.ent l e).snap = some y) (hf : y.firing = false)
    (hr : hyReached s l y.hy y.q = false) (hc : y.commit = none)
    (hm : (evtOn s l && isMissed s l ((s.ent l e).over y.gen false).onward) = false) :
    exec (.entryCancel l c e) s = actL s (setWstat (s.modEnt l e fun _ => ((s.ent l e).over y.gen false).onward) l c e 2) := by
  have hfiring : ¬snapFiring s l y = true := by
    have : snapFiring s l y = (y.firing || hyReached s l y.hy y.q) := rfl
    simp [this, hf, hr]
  rw [← complete_plain hc (Bool.and_false _) hm, exec_entryCancel, cancel, hs]
  exact congrArg (actL s) (if_neg hfiring)

/-- The generation of an entry that goes on without a commit stays. -/
theorem onward_gen (x : Entry) : fld x.onward.w2 23 16 = fld x.w2 23 16 := by
  unfold Entry.onward
  split
  · rfl
  · exact fld_setFld_ne (Nat.le_refl _) (by decide) (by decide) _ _

/-! ### FIRE_EN (R154) -/

/-- EVT.CTRL after a write of FIRE_EN. -/
def ctrlWord (s : State) (l : LaneId) (on : Bool) : Nat :=
  rget s l (evtReg 0) / 2 ^ 31 % 2 * 2 ^ 31 ||| (nfld (b2n on) 31 31 * 2 ^ 31 + b2n on % 2)

/-- The state with EVT.CTRL written. -/
def ctrlWrite (s : State) (l : LaneId) (on : Bool) : State := rset s l (evtReg 0) (ctrlWord s l on)

theorem ctrlWord_bits (s : State) (l : LaneId) (on : Bool) :
    ctrlWord s l on % 16 = b2n on ∧ nbit (ctrlWord s l on % 2 ^ 32) 0 = on ∧
      nbit (ctrlWord s l on % 2 ^ 32) 31 = rbit s l (evtReg 0) 31 := by
  have hlock : rbit s l (evtReg 0) 31 = (rget s l (evtReg 0) / 2 ^ 31 % 2 == 1) := rfl
  rw [hlock]
  unfold ctrlWord
  rcases Nat.mod_two_eq_zero_or_one (rget s l (evtReg 0) / 2 ^ 31) with h | h <;> rw [h] <;> cases on <;> decide +kernel

theorem rget_ctrlWrite (s : State) (l : LaneId) (on : Bool) : rget (ctrlWrite s l on) l (evtReg 0) = ctrlWord s l on % 2 ^ 32 :=
  rget_rset_same s l _ _

theorem fireEn_on (s : State) (l : LaneId) (hu : s.lanesUp = true) : Ends (.fireEn l true) s fun t => supFrame s t ∧
    rbit t l 0xF0140000 0 = true ∧ rbit t l 0xF0140000 31 = rbit s l 0xF0140000 31 := by
  obtain ⟨-, hon, hlock⟩ := ctrlWord_bits s l true
  have hctrl : rget (evtCtrl s l 1) l (evtReg 0) = ctrlWord s l true % 2 ^ 32 := by
    rw [← rget_ctrlWrite]
    change rget (if _ then _ else if _ then missedPass (ctrlWrite s l true) l else ctrlWrite s l true) l _ = _
    rw [if_neg (by simp [nbit, nfld])]
    split
    · exact rget_missedPass_ne _ l l (by decide) (by decide)
    · rfl
  refine ends_actL (t := evtCtrl s l 1) rfl hu ⟨?_, ?_⟩
  · rw [rbit_eq, rget_modeStep, rget_keep]
    exact (congrArg (nbit · 0) hctrl).trans hon
  · rw [rbit_eq, rget_modeStep, rget_keep]
    exact (congrArg (nbit · 31) hctrl).trans hlock

/-- EVT.CTRL stands on the grid of the halyards' registers, as one's first. -/
theorem hyReg_ne_ctrl {n o : Nat} (h : hyReg n 0 ≠ evtReg 0) (ho : o < 0x40) : hyReg n o ≠ evtReg 0 := by
  change 0xF0100000 + 0x100 + 0x40 * n + 0 ≠ 0xF0140000 + 0 at h
  change 0xF0100000 + 0x100 + 0x40 * n + o ≠ 0xF0140000 + 0
  omega

/-- FIRE_EN moves no position. A snapshot may name any number as its halyard, and for one beyond the sixteen EVT.CTRL would be read as
the source; but neither of its values names a source whose position is computed. -/
theorem hyPosAux_ctrlWrite (hs : rbit s l (evtReg 0) 0 = true) (k n : Nat) :
    hyPosAux (ctrlWrite s l false) l k n = hyPosAux s l k n := by
  have hhy (n : Nat) : (ctrlWrite s l false).hy l n = s.hy l n :=
    congrArg (fun t => tget t n) (only_rset (ps := [.regs]) (by decide) s l _ _ .hy (by decide) l)
  have hne {a : Nat} (h : a ≠ evtReg 0) : rget (ctrlWrite s l false) l a = rget s l a := rget_rset_ne s l l h _
  induction k generalizing n with
  | zero => rw [hyPosAux, hhy, hyPosAux]
  | succ k ih =>
    by_cases hn : hyReg n 0 = evtReg 0
    · have hwas : hySrc s l n % 2 = 1 := by
        have hbit : rget s l (evtReg 0) / 2 ^ 0 % 2 ^ (0 + 1 - 0) = 1 := by simpa [rbit, rfld] using hs
        rw [hySrc, hn, rfld]
        omega
      have hnow : hySrc (ctrlWrite s l false) l n = 0 := by
        have hlow := (ctrlWord_bits s l false).1
        rw [hySrc, hn, rfld, rget_ctrlWrite]
        change ctrlWord s l false % 2 ^ 32 / 1 % 16 = 0
        change ctrlWord s l false % 16 = 0 at hlow
        omega
      have hplain : hyPosAux s l (k + 1) n = (s.hy l n).pub / 2 ^ 16 := by
        rw [hyPosAux]
        split
        · omega
        · omega
        · rfl
      rw [hplain, hyPosAux, hnow, ← hhy]
      rfl
    · have hoff {o : Nat} (ho : o < 0x40) : rget (ctrlWrite s l false) l (hyReg n o) = rget s l (hyReg n o) :=
        hne (hyReg_ne_ctrl hn ho)
      have hnow : (ctrlWrite s l false).now = s.now := rset_now s l _ _
      simp only [hyPosAux, hySrc, hyInput, rfld, hoff (o := 0) (by decide), hoff (o := 8) (by decide), hoff (o := 0xC) (by decide),
        hoff (o := 0x10) (by decide), hhy, hnow, ih]

theorem snapFiring_ctrlWrite (hs : rbit s l (evtReg 0) 0 = true) (x : Snap) :
    snapFiring (ctrlWrite s l false) l x = (x.firing || hyReached s l x.hy x.q) := by
  rw [snapFiring, hyP, hyPos, hyPosAux_ctrlWrite hs, hyReached, hyP, hyPos, Snap.q]

/-- An entry that a disarming spares or ends (R154). -/
def Entry.disarmed (s : State) (l : LaneId) (x : Entry) : Entry := if armedNot s l (fun _ => true) x then { x with snap := none } else x

/-- The count and the flag of a disarming. -/
def disarmTold (s : State) (l : LaneId) (k : Nat) : State :=
  if k = 0 then s else rsetb (rcount s l (evtReg 0x2C) 31 0 k) l (evtReg 4) 19 true

theorem disarm_eq (s : State) (l : LaneId) : disarm s l (fun _ => true) = disarmTold
    (s.modLane l fun x => { x with entries := tmap x.entries fun _ y => y.disarmed s l }) l
    ((s.lane l).entries.filter fun p => armedNot s l (fun _ => true) p.2).length := rfl

theorem only_disarmTold {ps : List Part} (h : Part.regs ∈ ps) (s : State) (l : LaneId) (k : Nat) : only ps s (disarmTold s l k) :=
  only_ite _ (only_refl ps s) (only_trans (only_rset h s l _ _) (only_rset h _ l _ _))

theorem only_disarm {ps : List Part} (he : Part.entries ∈ ps) (hr : Part.regs ∈ ps) (s : State) (l : LaneId) :
    only ps s (disarm s l fun _ => true) :=
  only_trans (only_lane_entries he s l _) (only_disarmTold hr _ l _)

theorem ent_disarm (s : State) (l : LaneId) (n : Nat) : (disarm s l fun _ => true).ent l n = (s.ent l n).disarmed s l := by
  rw [disarm_eq, State.ent, only_disarmTold (ps := [.regs]) (by decide) _ l _ .entries (by decide) l, State.modLane_lane_same]
  exact tget_tmap _ (fun _ (y : Entry) => y.disarmed s l) n fun _ => rfl

theorem rget_disarm_ne (s : State) (l : LaneId) {a : Nat} (h : a ∉ [evtReg 4, evtReg 0x2C]) :
    rget (disarm s l fun _ => true) l a = rget s l a := by
  simp only [List.mem_cons, List.not_mem_nil, or_false, not_or] at h
  have hlane : rget (s.modLane l fun x => { x with entries := tmap x.entries fun _ y => y.disarmed s l }) l a = rget s l a :=
    only_lane_entries (ps := [.entries]) (by decide) s l (fun x => tmap x.entries fun _ y => y.disarmed s l) .regs (by decide) l a
  rw [disarm_eq, disarmTold]
  split
  · exact hlane
  · rw [rget_rsetb_ne _ l l h.1, ← hlane]
    exact rget_rset_ne _ l l h.2 _

/-- No entry of a lane is held at the limit of armed entries. -/
def noneHeld (s : State) (l : LaneId) : State :=
  s.modLane l fun x => { x with entries := tmap x.entries fun _ y => { y with held := false } }

theorem only_noneHeld {ps : List Part} (h : Part.entries ∈ ps) (s : State) (l : LaneId) : only ps s (noneHeld s l) :=
  only_lane_entries h s l fun x => tmap x.entries fun _ y => { y with held := false }

theorem ent_noneHeld (s : State) (l : LaneId) (n : Nat) : (noneHeld s l).ent l n = { s.ent l n with held := false } := by
  rw [State.ent, noneHeld, State.modLane_lane_same]
  exact tget_tmap _ (fun _ (y : Entry) => { y with held := false }) n fun _ => rfl

theorem exec_fireEn_off (h : rbit s l (evtReg 0) 0 = true) :
    exec (.fireEn l false) s = actL s (noneHeld (disarm (ctrlWrite s l false) l fun _ => true) l) :=
  congrArg (actL s) (if_pos (by simp [h, nbit, nfld, b2n]))

/-- What stands in an entry that FIRE_EN = 0 has seen. -/
theorem ent_fireEn_off (h : rbit s l (evtReg 0) 0 = true) (n : Nat) :
    (noneHeld (disarm (ctrlWrite s l false) l fun _ => true) l).ent l n =
      { s.ent l n with held := false, snap := (s.ent l n).snap.filter fun x => x.firing || hyReached s l x.hy x.q } := by
  have hent : (ctrlWrite s l false).ent l n = s.ent l n := ent_rset s l l _ _ n
  rw [ent_noneHeld, ent_disarm, hent, Entry.disarmed, armedNot]
  cases hx : (s.ent l n).snap with
  | none => simp [hx]
  | some x => cases hf : (x.firing || hyReached s l x.hy x.q) <;> simp [snapFiring_ctrlWrite h, hf, hx, Option.filter]

theorem fireEn_off (hu : s.lanesUp = true) (h : rbit s l 0xF0140000 0 = true) : EndsIn [.entries, .regs] (.fireEn l false) s fun t =>
    rbit t l 0xF0140000 0 = false ∧ ((s.ent l e).snap.all (fun y => !y.firing && !hyReached s l y.hy y.q) → (t.ent l e).snap = none) ∧
    (∀ y, (s.ent l e).snap = some y → y.firing = true ∨ hyReached s l y.hy y.q = true → (t.ent l e).snap = (s.ent l e).snap) ∧
    (t.ent l e).en = (s.ent l e).en ∧ (t.ent l e).held = false := by
  have hent := ent_fireEn_off h e
  refine endsIn_actL (exec_fireEn_off h) hu (only_trans (only_rset (by decide) s l _ _)
    (only_trans (only_disarm (by decide) (by decide) _ l) (only_noneHeld (by decide) _ l))) ?_
  rw [ent_modeStep, ent_keep, hent]
  refine ⟨?_, fun hall => ?_, fun y hy hf => ?_, rfl, rfl⟩
  · have hctrl : rget (noneHeld (disarm (ctrlWrite s l false) l fun _ => true) l) l (evtReg 0) = ctrlWord s l false % 2 ^ 32 := by
      rw [only_noneHeld (ps := [.entries]) (by decide) _ l .regs (by decide) l, rget_disarm_ne _ l (by decide), rget_ctrlWrite]
    rw [rbit_eq, rget_modeStep, rget_keep]
    exact (congrArg (nbit · 0) hctrl).trans (ctrlWord_bits s l false).2.1
  · cases hx : (s.ent l e).snap with
    | none => rfl
    | some x =>
      rw [hx] at hall
      simpa using hall
  · simp [hy, hf]

/-! ### The obligation -/

theorem endsIn_commitUnarmed (hu : s.lanesUp = true)
    (hb : commitBad (staged s l c 0) (staged s l c 2) (staged s l c 3) = false) (hs : (s.ent l e).snap = none)
    (hk : (((s.ent l e).restaged (staged s l c)).repeats && (s.ent l e).en &&
      hyReached s l ((s.ent l e).committed (staged s l c)).hyOf ((s.ent l e).committed (staged s l c)).q) = false)
    (hm : (evtOn s l && isMissed s l ((s.ent l e).committed (staged s l c))) = false) :
    EndsIn [.entries, .cores] (.entryCommit l c e) s fun t => t.ent l e = (s.ent l e).committed (staged s l c) ∧
      (t.core l c).wstat = u32 ((fld (s.ent l e).w2 23 16 + 1) % 256 * 2 ^ 20 + e * 2 ^ 8) := by
  have hends := endsIn_told hu (exec_commit_unarmed hb hs hk hm) (committed_gen _ _)
  rwa [Nat.add_zero] at hends

theorem endsIn_commitArmed (hu : s.lanesUp = true)
    (hb : commitBad (staged s l c 0) (staged s l c 2) (staged s l c 3) = false) (hs : (s.ent l e).snap = some y) :
    EndsIn [.entries, .cores] (.entryCommit l c e) s fun t =>
      (t.ent l e).snap = some { y with commit := some (s.ent l e).en } ∧ (t.ent l e).w0 = staged s l c 0 ∧
      (t.ent l e).w3 = staged s l c 3 ∧ (t.ent l e).w1 = ((s.ent l e).committed (staged s l c)).w1 ∧
      (t.ent l e).w2 = ((s.ent l e).committed (staged s l c)).w2 ∧
      (t.core l c).wstat = u32 ((fld (s.ent l e).w2 23 16 + 1) % 256 * 2 ^ 20 + e * 2 ^ 8 + 1) := by
  obtain ⟨hw0, hw3⟩ := committed_words (s.ent l e) (staged s l c)
  obtain ⟨h0, h1, h2, h3, hsnap⟩ := awaiting_words ((s.ent l e).committed (staged s l c)) y (s.ent l e).en
  have hgen := (congrArg (fld · 23 16) h2).trans (committed_gen _ _)
  obtain ⟨t, ht, hframe, honly, hent, hw⟩ := endsIn_told hu (exec_commit_armed hb hs) hgen
  rw [← hent] at h0 h1 h2 h3 hsnap
  exact ⟨t, ht, hframe, honly, hsnap, h0.trans hw0, h3.trans hw3, h1, h2, hw⟩

theorem endsIn_cancelArmed (c : Fin 8) (hu : s.lanesUp = true) (hs : (s.ent l e).snap = some y) (hf : y.firing = false)
    (hr : hyReached s l y.hy y.q = false) (hc : y.commit = none)
    (hm : (evtOn s l && isMissed s l ((s.ent l e).over y.gen false).onward) = false) :
    EndsIn [.entries, .cores] (.entryCancel l c e) s fun t => t.ent l e = ((s.ent l e).over y.gen false).onward ∧
      (t.core l c).wstat = u32 (fld (s.ent l e).w2 23 16 * 2 ^ 20 + e * 2 ^ 8 + 2) :=
  endsIn_told hu (exec_cancel_armed c hs hf hr hc hm) (onward_gen _)

/-- Settles O44: the scan's visit by its four outcomes, the firing of the first in order, and each command of the table. -/
theorem eventTable : Obligations.EventTable := by
  unfold Obligations.EventTable
  intro s l e hu x
  refine ⟨fun hon ht hen hs hsync => ?_, fun y hl hs hf hr hfirst => ?_, fun y hs hf hc hl => ?_, fun c => ?_, fireEn_on s l hu,
    fun h => fireEn_off hu h⟩
  · have hvisit : ArmVisit s l e := ⟨hu, hon, ht, hen, hs, hsync⟩
    exact ⟨fun hr hn hc => hvisit.arms hr hn hc, fun hr hn hc hh => hvisit.waits hr hn hc hh, fun hr hlate => hvisit.firesLate hr hlate,
      fun hr hlate => hvisit.skips hr hlate⟩
  · have hdue : FirstDue s l e y := ⟨hu, hl, hs, hf, hr, hfirst⟩
    exact ⟨hdue.fires, hdue.posts⟩
  · exact fun hm => endsIn_occurrenceComplete hu hs hf hc hl hm
  · refine ⟨fun hb => endsIn_commitBad hu hb, fun hb => ⟨fun hs hk hm => endsIn_commitUnarmed hu hb hs hk hm,
      fun y hs => endsIn_commitArmed hu hb hs⟩, fun hs => endsIn_toldOnly hu (exec_cancel_unarmed c hs),
      fun y hs hf => endsIn_toldOnly hu (exec_cancel_late c hs hf), fun y hs hf hr hc hm => ?_⟩
    exact endsIn_cancelArmed c hu hs hf hr hc hm

end Sys2Proof.Machine
end

section
/-! PROOFS. Refutation of O45: nothing bounds the context that a busy injector names, and the place of CSTAT1026 is that of INJ0.STAT. -/

namespace Sys2Proof.Machine

/-- Injector 0 of Lane A works on context 1,026. There are 512 contexts, and no START stores a number beyond them (R178), but the
statement bounds it nowhere. -/
def strayState : State where
  sup := { phase := .running }
  laneA := { live := true, lpe := { injs := [(0, { busy := true, ctx := 1026 })] } }

/-- The abort sets bit 2 of INJ0.STAT (R179); the state RUN, put into the same register, takes it back. -/
theorem aborted_of_strayStop : rbit (nextOf (.injStop .a 0) strayState) .a (injReg 0 8) 2 = false := by decide +kernel

/-- Refutes O45: STOP of an injector on context 1,026 leaves RUN in CSTAT1026, which is INJ0.STAT, so that ABORTED reads 0 there. -/
theorem not_loopContexts : ¬ Obligations.LoopContexts := by
  unfold Obligations.LoopContexts
  intro h
  obtain ⟨-, injectors, -⟩ := h strayState .a (by decide)
  obtain ⟨-, -, stop, -⟩ := injectors 0
  obtain ⟨t, ht, -, -, -, -, haborted⟩ := stop (by decide) (by decide)
  have hkept : rbit t .a (injReg 0 8) 2 = false := nextOf_eq ht ▸ aborted_of_strayStop
  exact absurd (haborted.symm.trans hkept) (by decide)

end Sys2Proof.Machine
end

section
/-! PROOFS. Refutation of O41: nothing bounds the channel that a request in a bank's queue names, and the place of BDROP24 is that of
CH0.TTP. -/

namespace Sys2Proof.Machine

/-- Channel 0 is in P0. In the queue of its bank a request of channel 192 is past its deadline. There are 48 channels, and no start
brings a number beyond them to a bank (R217), but the statement bounds it nowhere. -/
def strayRequestState : State where
  now := 1
  sup := { phase := .running }
  out := { chans := [(0, { phase := .p0 })], banks := [(0, { queue := [{ ch := 192 }] })] }

set_option maxRecDepth 4000 in
/-- TTP is stored as 0; then the bank drops the request and counts it in BDROP of bank 192 / 8 = 24 (R201), in the same register. -/
theorem ttp_of_strayRequest : rget (nextOf (.peakEnd 0 true 0) strayRequestState) .a (dvReg 0 8) = 1 := by decide +kernel

/-- Refutes O41: after the end of its peak CH0.TTP does not read the time to peak, 0, but that time and a dropped request. -/
theorem not_strokePhases : ¬ Obligations.StrokePhases := by
  unfold Obligations.StrokePhases
  intro h
  obtain ⟨peaks, -⟩ := h strayRequestState 0 (by decide) (by decide)
  obtain ⟨t, ht, -, -, -, -, http, -⟩ := peaks true 0 (by decide) (.inl rfl)
  have hkept : rget t .a (dvReg 0 8) = 1 := nextOf_eq ht ▸ ttp_of_strayRequest
  exact absurd (http.symm.trans hkept) (by decide)

end Sys2Proof.Machine
end

section
/-! PROOFS. Fields of registers after a field is stored, and what the end of a command shows of the output stages. -/

namespace Sys2Proof.Machine

variable {s t u : State} {as : List Nat}

/-! ### Fields -/

theorem rfld_eq_nfld (s : State) (l : LaneId) (a hi lo : Nat) : rfld s l a hi lo = nfld (rget s l a) hi lo := rfl

theorem rfld_rsetf_same (s : State) (l : LaneId) (a : Nat) {hi lo : Nat} (h : lo ≤ hi) (hw : hi < 32) (v : Nat) :
    rfld (rsetf s l a hi lo v) l a hi lo = v % 2 ^ (hi + 1 - lo) := by
  rw [rfld_eq_nfld, rsetf, rget_rset_same, nfld_mod_word hw, nfld_nset_same h]

theorem rfld_rsetf_disjoint (s : State) (l : LaneId) (a : Nat) {hi lo hi' lo' : Nat} (h : lo ≤ hi) (hw : hi' < 32)
    (hd : hi' < lo ∨ hi < lo') (v : Nat) : rfld (rsetf s l a hi lo v) l a hi' lo' = rfld s l a hi' lo' := by
  rw [rfld_eq_nfld, rsetf, rget_rset_same, nfld_mod_word hw, nfld_nset_disjoint h hd, rfld_eq_nfld]

theorem rbit_rsetf_disjoint (s : State) (l : LaneId) (a : Nat) {hi lo i : Nat} (h : lo ≤ hi) (hw : i < 32)
    (hd : i < lo ∨ hi < i) (v : Nat) : rbit (rsetf s l a hi lo v) l a i = rbit s l a i := by
  rw [rbit, rfld_rsetf_disjoint s l a h hw hd, rbit]

/-- A store to an address that a lane does not hold for itself shows in both lanes; else the other lane's register stays. -/
theorem rget_rset_or (s : State) (l m : LaneId) (a v : Nat) :
    rget s m a = rget s l a ∧ rget (rset s l a v) m a = v % 2 ^ 32 ∨ rget (rset s l a v) m a = rget s m a := by
  by_cases hm : m = l
  · exact .inl ⟨by rw [hm], hm ▸ rget_rset_same s l a v⟩
  · by_cases ha : laneHeld a = true
    · exact .inr (rget_rset_other s ha hm v a)
    · have ha := Bool.eq_false_iff.2 ha
      exact .inl ⟨rget_shared ha s m l, (rget_shared ha _ m l).trans (rget_rset_same s l a v)⟩

theorem regsBut_trans (h : regsBut as s t) (k : regsBut as t u) : regsBut as s u :=
  fun l a ha => (k l a ha).trans (h l a ha)

/-- Where the registers are no part of what changes. -/
theorem regsBut_of_only {ps : List Part} (h : only ps s t) (hr : Part.regs ∉ ps) : regsBut as s t :=
  fun l a _ => h .regs hr l a

theorem rget_regStore_ne (s : State) (l m : LaneId) (b : Block) (off v rej : Nat) {a : Nat} (h : a ≠ b.base + off) :
    rget (regStore s l b off v rej) m a = rget s m a := by
  unfold regStore
  split
  · exact rget_rset_ne s l m h _
  · rfl

theorem regStore_regsBut (s : State) (l : LaneId) (b : Block) (off v rej : Nat) :
    regsBut [b.base + off] s (regStore s l b off v rej) :=
  fun m a ha => rget_regStore_ne s l m b off v rej (by simpa using ha)

theorem regStore_out (s : State) (l : LaneId) (b : Block) (off v rej : Nat) : (regStore s l b off v rej).out = s.out :=
  only_regStore (ps := [.regs]) (by decide) s l b off v rej .out (by decide)

/-! ### Frames of the output stages -/

section
variable {ps : List Part}

theorem only_modBank (h : Part.out ∈ ps) (s : State) (b : Nat) (f : Bank → Bank) : only ps s (s.modBank b f) := only_out h s _
theorem only_modChan (h : Part.out ∈ ps) (s : State) (c : Nat) (f : Chan → Chan) : only ps s (s.modChan c f) := only_out h s _
theorem only_modLs (h : Part.out ∈ ps) (s : State) (n : Nat) (f : LsCh → LsCh) : only ps s (s.modLs n f) := only_out h s _

theorem only_modSel (h : Part.sels ∈ ps) (s : State) (l : LaneId) (m : Nat) (f : Sel → Sel) : only ps s (s.modSel l m f) :=
  only_lane_sels h s l _

end

theorem bank_modBank (s : State) (b k : Nat) (f : Bank → Bank) :
    (s.modBank b f).bank k = if k = b then f (s.bank k) else s.bank k := by
  unfold State.bank State.modBank
  split
  next h => rw [h, tget_tmod_same]
  next h => rw [tget_tmod_ne _ h]

theorem rget_modBank (s : State) (b : Nat) (f : Bank → Bank) (l : LaneId) (a : Nat) : rget (s.modBank b f) l a = rget s l a := rfl

theorem chan_modChan (s : State) (c k : Nat) (f : Chan → Chan) :
    (s.modChan c f).chan k = if k = c then f (s.chan k) else s.chan k := by
  unfold State.chan State.modChan
  split
  next h => rw [h, tget_tmod_same]
  next h => rw [tget_tmod_ne _ h]

/-! ### The end of a command -/

theorem rfld_ended (s u : State) (l : LaneId) (a hi lo : Nat) : rfld (modeStep s (keep s u)) l a hi lo = rfld u l a hi lo := by
  rw [rfld_eq_nfld, rget_modeStep, rget_keep, rfld_eq_nfld]

theorem rbit_ended (s u : State) (l : LaneId) (a i : Nat) : rbit (modeStep s (keep s u)) l a i = rbit u l a i := by
  rw [rbit, rfld_ended, rbit]

theorem regsBut_ended (h : regsBut as s u) : regsBut as s (modeStep s (keep s u)) := by
  intro l a ha
  rw [rget_modeStep, rget_keep]
  exact h l a ha

theorem chan_ended (s u : State) (c : Nat) : (modeStep s (keep s u)).chan c = u.chan c := by
  rw [State.chan, modeStep_out, keep_out, State.chan]

theorem bank_ended (s u : State) (b : Nat) : (modeStep s (keep s u)).bank b = u.bank b := by
  rw [State.bank, modeStep_out, keep_out, State.bank]

end Sys2Proof.Machine
end

section
/-! PROOFS. What banks change when they take and drop requests (R198 to R201): queues only lose requests, a channel that is not idle
stays as it is, and so do the rails, the configuration registers and every flag of a channel but DROPPED and PROFERR. -/

namespace Sys2Proof.Machine

variable {s t u : State}

/-- The parts that the work of a bank changes. -/
def bankParts : List Part := [.out, .regs, .events, .sels]

/-- From `s` to `t` banks have at most taken requests and dropped them. In DDV the repetitions of a register are 0x20 apart, so
that its address mod 32 tells configuration registers (0) and status registers (4) from the others, whichever bank or channel a
request names. -/
structure BankWork (s t : State) : Prop where
  only : only bankParts s t
  rail : ∀ b, (t.bank b).rail = (s.bank b).rail
  queue : ∀ b, (t.bank b).queue ⊆ (s.bank b).queue
  busy : ∀ c, (s.chan c).phase ≠ .idle → t.chan c = s.chan c
  config : ∀ l a, a % 32 = 0 → rget t l a = rget s l a
  flag : ∀ l a i, a % 32 = 4 → i < 13 → nbit (rget t l a) i = nbit (rget s l a) i

theorem bankWork_refl (s : State) : BankWork s s :=
  ⟨only_refl _ s, fun _ => rfl, fun _ => List.Subset.refl _, fun _ _ => rfl, fun _ _ _ => rfl, fun _ _ _ _ _ => rfl⟩

theorem BankWork.trans (h : BankWork s t) (k : BankWork t u) : BankWork s u where
  only := only_trans h.only k.only
  rail b := (k.rail b).trans (h.rail b)
  queue b := List.Subset.trans (k.queue b) (h.queue b)
  busy c hc := (k.busy c (by rwa [h.busy c hc])).trans (h.busy c hc)
  config l a ha := (k.config l a ha).trans (h.config l a ha)
  flag l a i ha hi := (k.flag l a i ha hi).trans (h.flag l a i ha hi)

theorem bankWork_foldl {α : Type} {f : State → α → State} (hf : ∀ s x, BankWork s (f s x)) (xs : List α) (s : State) :
    BankWork s (xs.foldl f s) := by
  induction xs generalizing s with
  | nil => exact bankWork_refl s
  | cons x xs ih => exact (hf s x).trans (ih _)

/-- An emptied queue stays empty. -/
theorem BankWork.queue_nil (h : BankWork s t) {b : Nat} (hb : (s.bank b).queue = []) : (t.bank b).queue = [] :=
  List.eq_nil_of_subset_nil (hb ▸ h.queue b)

/-! ### The changes that it is made of -/

/-- Postings and selectors. -/
theorem bankWork_of_only (h : only [.events, .sels] s t) : BankWork s t := by
  have ho : t.out = s.out := h .out (by decide)
  have hr := h .regs (by decide)
  exact {
    only := only_mono h (by decide)
    rail := fun b => by rw [State.bank, ho, State.bank]
    queue := fun b => by rw [State.bank, ho, State.bank]; exact List.Subset.refl _
    busy := fun c _ => by rw [State.chan, ho, State.chan]
    config := fun l a _ => hr l a
    flag := fun l a i _ _ => by rw [hr l a] }

/-- A store of a register that keeps the lower bits of a status register. -/
theorem bankWork_rset_keeping {l : LaneId} {a v : Nat} (hc : a % 32 ≠ 0)
    (hf : a % 32 = 4 → ∀ i < 13, nbit (v % 2 ^ 32) i = nbit (rget s l a) i) : BankWork s (rset s l a v) where
  only := only_rset (by decide) s l a v
  rail b := by rw [State.bank, rset_out, State.bank]
  queue b := by rw [State.bank, rset_out, State.bank]; exact List.Subset.refl _
  busy c _ := by rw [State.chan, rset_out, State.chan]
  config m x hx := rget_rset_ne s l m (by rintro rfl; exact hc hx) v
  flag m x i hx hi := by
    by_cases hxa : x = a
    · subst hxa
      rcases rget_rset_or s l m x v with ⟨hsame, hnew⟩ | hold
      · rw [hnew, hf hx i hi, hsame]
      · rw [hold]
    · rw [rget_rset_ne s l m hxa]

/-- A store of a register that is neither a configuration nor a status register. -/
theorem bankWork_rset (s : State) (l : LaneId) {a : Nat} (hc : a % 32 ≠ 0) (hf : a % 32 ≠ 4) (v : Nat) :
    BankWork s (rset s l a v) :=
  bankWork_rset_keeping hc fun h => absurd h hf

theorem dvReg_mod (c : Nat) {off : Nat} (h : off < 32) : dvReg c off % 32 = off := by
  simp only [dvReg, Block.base]
  omega

theorem bankReg_mod (b : Nat) {off : Nat} (h : off < 32) : bankReg b off % 32 = off := by
  simp only [bankReg, Block.base]
  omega

theorem ddmReg_mod (m : Nat) {off : Nat} (h : off < 32) : ddmReg m off % 32 = off := by
  simp only [ddmReg, Block.base]
  omega

/-- A register of a channel other than CFG and STAT. -/
theorem bankWork_dvReg (s : State) (c : Nat) {off : Nat} (h : off < 32) (h0 : off ≠ 0) (h4 : off ≠ 4) (v : Nat) :
    BankWork s (rset s .a (dvReg c off) v) :=
  bankWork_rset s .a (by rwa [dvReg_mod c h]) (by rwa [dvReg_mod c h]) v

/-- A register of a bank other than CFG and STAT. -/
theorem bankWork_bankReg (s : State) (b : Nat) {off : Nat} (h : off < 32) (h0 : off ≠ 0) (h4 : off ≠ 4) (v : Nat) :
    BankWork s (rset s .a (bankReg b off) v) :=
  bankWork_rset s .a (by rwa [bankReg_mod b h]) (by rwa [bankReg_mod b h]) v

/-- DROPPED (13) and PROFERR (14) of a channel. -/
theorem bankWork_dvFlag (s : State) (c : Nat) {i : Nat} (h : 13 ≤ i) : BankWork s (dvFlag s c i) := by
  refine bankWork_rset_keeping (by rw [dvReg_mod c (by decide)]; decide) fun _ j hj => ?_
  rw [nbit, nfld_mod_word (by omega), nfld_nset_disjoint (Nat.le_refl i) (by omega), nbit]

theorem bankWork_postOut (s : State) (b : Block) (k c d : Nat) : BankWork s (postOut s b k c d) :=
  bankWork_of_only (only_postOut (by decide) s b k c d)

theorem bankWork_modBank {b : Nat} {f : Bank → Bank} (hr : (f (s.bank b)).rail = (s.bank b).rail)
    (hq : (f (s.bank b)).queue ⊆ (s.bank b).queue) : BankWork s (s.modBank b f) where
  only := only_modBank (by decide) s b f
  rail k := by
    rw [bank_modBank]
    split
    next h => rw [h, hr]
    next => rfl
  queue k := by
    rw [bank_modBank]
    split
    next h => rw [h]; exact hq
    next => exact List.Subset.refl _
  busy _ _ := rfl
  config _ _ _ := rfl
  flag _ _ _ _ _ := rfl

/-! ### Dropping and taking -/

theorem bankWork_dropRefund (s : State) (m : Nat) : BankWork s (dropRefund s m) := by
  have lane (l : LaneId) (s : State) : BankWork s (let s := rwrap s l (ddmReg m 0x18) 1
      if rbit s l (ddmReg m 0) 5 then s.modSel l m fun x => { x with acc := clampI (-32768) 65535 (x.acc + 32768) } else s) := by
    have counted : BankWork s (rwrap s l (ddmReg m 0x18) 1) :=
      bankWork_rset s l (by rw [ddmReg_mod m (by decide)]; decide) (by rw [ddmReg_mod m (by decide)]; decide) _
    dsimp only
    split
    · exact counted.trans (bankWork_of_only (only_modSel (by decide) _ l m _))
    · exact counted
  exact (lane .a s).trans (lane .b _)

theorem bankWork_dropReq (s : State) (c cause arrival at_ : Nat) : BankWork s (dropReq s c cause arrival at_) := by
  have counted : BankWork s (rcount (rcount (dvFlag s c 13) .a (bankReg (c / 8) 8) 31 0 1) .a (dvReg c 0x14) 31 0 1) :=
    ((bankWork_dvFlag s c (Nat.le_refl 13)).trans (bankWork_bankReg _ _ (by decide) (by decide) (by decide) _)).trans
      (bankWork_dvReg _ c (by decide) (by decide) (by decide) _)
  refine BankWork.trans ?_ (bankWork_postOut _ .ddv 1 (c / 8) _)
  split
  · exact counted.trans (bankWork_dropRefund _ _)
  · exact counted

/-- A request whose channel is not idle cannot be admitted (R201). -/
theorem idle_of_blockedBy {c w : Nat} (h : blockedBy s c w = none) : (s.chan c).phase = .idle := by
  unfold blockedBy at h
  dsimp only at h
  repeat' split at h
  all_goals simp_all

theorem bankWork_takeReq {r : BReq} (h : (s.chan r.ch).phase = .idle) : BankWork s (takeReq s r) := by
  have taken (f : Chan → Chan) : BankWork s (s.modChan r.ch f) := {
    only := only_modChan (by decide) s r.ch f
    rail := fun _ => rfl
    queue := fun _ => List.Subset.refl _
    busy := fun c hc => by rw [chan_modChan, if_neg (by rintro rfl; exact hc h)]
    config := fun _ _ _ => rfl
    flag := fun _ _ _ _ _ => rfl }
  have started (f : Chan → Chan) (v : Nat) : BankWork s (rset (s.modChan r.ch f) .a (dvReg r.ch 0x10) v) :=
    (taken f).trans (bankWork_dvReg _ r.ch (by decide) (by decide) (by decide) v)
  unfold takeReq
  dsimp only
  split
  · exact started _ _
  · exact ((started _ _).trans (bankWork_bankReg _ _ (by decide) (by decide) (by decide) _)).trans
      (bankWork_bankReg _ _ (by decide) (by decide) (by decide) _)

theorem bankWork_bankAdmit (s : State) (b n : Nat) : BankWork s (bankAdmit s b n) := by
  induction n generalizing s with
  | zero => exact bankWork_refl s
  | succ n ih =>
    unfold bankAdmit
    split
    · exact bankWork_refl s
    next r q hq =>
      have popped : BankWork s (s.modBank b fun x => { x with queue := q }) :=
        bankWork_modBank rfl (by rw [hq]; exact List.subset_cons_self r q)
      dsimp only
      split
      · exact (popped.trans (bankWork_dvFlag _ _ (by decide))).trans (ih _)
      · split
        · exact bankWork_refl s
        next hfree =>
          have hidle := idle_of_blockedBy (Option.not_isSome_iff_eq_none.1 hfree)
          exact (popped.trans (bankWork_takeReq hidle)).trans (ih _)

theorem bankWork_expireReq (b : Nat) (s : State) (r : BReq) : BankWork s (expireReq b s r) :=
  (bankWork_modBank rfl (List.filter_subset_self _)).trans (bankWork_dropReq _ _ _ _ _)

theorem bankWork_bankPump (s : State) (b : Nat) : BankWork s (bankPump s b) := by
  unfold bankPump
  split
  · exact bankWork_refl s
  · exact (bankWork_foldl (bankWork_expireReq b) _ s).trans (bankWork_bankAdmit _ b 8)

theorem bankWork_pumpAll (s : State) : BankWork s (pumpAll s) := bankWork_foldl bankWork_bankPump _ s

/-! ### Rails (R189) -/

theorem bankWork_dropAll (q : List BReq) (s : State) :
    BankWork s (q.foldl (fun s x => dropReq s x.ch 5 x.arrival s.now) s) := by
  refine bankWork_foldl ?_ q s
  intro s x
  exact bankWork_dropReq s x.ch 5 x.arrival s.now

/-- A rail takes its level, and OFF drops what waits. -/
theorem bankWork_setRail (s : State) (b r : Nat) :
    BankWork (s.modBank b fun x => { x with rail := r, railNext := none }) (setRail s b r) := by
  unfold setRail
  dsimp only
  split
  · exact (bankWork_modBank rfl (List.nil_subset _)).trans (bankWork_dropAll _ _)
  · exact bankWork_refl _

theorem queue_setRail_off (s : State) (b : Nat) : ((setRail s b 3).bank b).queue = [] := by
  refine (bankWork_dropAll (s.bank b).queue _).queue_nil (b := b) ?_
  rw [bank_modBank, if_pos rfl]

end Sys2Proof.Machine
end

section
/-! PROOFS. A command of the owner reaches its sequencer (R28, R32) and takes effect there (O40). -/

namespace Sys2Proof.Machine

variable {s : State} {l : LaneId} {n : Fin 62} {c : LinkCmd}

/-! ### Commands as words -/

theorem cmdBlock_offset (b : Block) {off : Nat} (h : off < 0x20000) : cmdBlock (b.base + off) = (b, off) := by
  simp [cmdBlock, blockOf_offset b h]

theorem blockAddr_ne_one (b : Block) (off : Nat) : b.base + off ≠ 1 := by
  have := b.base_bounds
  omega

section
variable {off v : Nat}

/-- A write to a DDV register, not a START, that the sequencers' rules let pass. -/
theorem seqExec_ddv (hw : c.words = [Block.ddv.base + off, v]) (ho : off < 0x20000) (hj : ddvJudge s l off v = 0)
    (hs : ¬ (off = 8 ∧ nfld v 31 28 = 1)) : seqExec s l c = ddvExec s l off v := by
  simp [seqExec, hw, cmdBlock_offset .ddv ho, blockAddr_ne_one, seqJudge, hj, hs]

theorem seqExec_pvc (hw : c.words = [Block.pvc.base + off, v]) (ho : off < 0x20000) (hj : pvcJudge s l off v = 0) :
    seqExec s l c = pvcExec s l off v := by
  simp [seqExec, hw, cmdBlock_offset .pvc ho, blockAddr_ne_one, seqJudge, hj]

theorem seqExec_lsw (hw : c.words = [Block.lsw.base + off, v]) (ho : off < 0x20000) (hj : lswJudge s l off v = 0) :
    seqExec s l c = lswExec s l off v := by
  simp [seqExec, hw, cmdBlock_offset .lsw ho, blockAddr_ne_one, seqJudge, hj]

end

/-- The operation and the channel of a word of CMD (R217, R228). -/
theorem nfld_cmd_op {op k : Nat} (ho : op < 16) (hk : k < 64) : nfld (op * 2 ^ 28 + k) 31 28 = op := by
  unfold nfld
  omega

theorem nfld_cmd_channel (op : Nat) {k w : Nat} (hw : w ≤ 5) (hk : k < 2 ^ (w + 1)) : nfld (op * 2 ^ 28 + k) w 0 = k := by
  have hd : 2 ^ (w + 1) ∣ op * 2 ^ 28 := (pow_dvd_pow 2 (by omega)).trans (Dvd.intro_left op rfl)
  obtain ⟨q, hq⟩ := hd
  rw [nfld, pow_zero, Nat.div_one, Nat.sub_zero, hq, Nat.mul_add_mod, Nat.mod_eq_of_lt hk]

/-! ### The way to the sequencer -/

/-- Lane `l` owns sequencer `n`, the sequencers do not compare, and the module takes commands. -/
structure Commands (s : State) (l : LaneId) (n : Fin 62) : Prop where
  lit : s.dark = false
  takes : outFrozen s = false
  alone : comparing s = false
  owner : (s.seq n).owner = l

/-- The oldest command of the owner's link, one of these words that is not rejected, takes effect, after which `P` holds. -/
def Runs (s : State) (l : LaneId) (n : Fin 62) (words : List Nat) (P : State → Prop) : Prop :=
  ∀ c rest, (s.seq n).link l = c :: rest → c.words = words → (s.seq n).epoch ≤ c.epoch → c.rej = 0 →
    EndsIn [.seqs, .out, .regs, .events, .sels] (.sequencerCommand l n) s fun t => (t.seq n).link l = rest ∧ P t

theorem Seq.link_setLink (q : Seq) (l : LaneId) (x : List LinkCmd) : (q.setLink l x).link l = x := by cases l <;> rfl

/-- The oldest command leaves the link and is executed. -/
theorem exec_sequencerCommand (h : Commands s l n) {rest : List LinkCmd} (hl : (s.seq n).link l = c :: rest)
    (he : (s.seq n).epoch ≤ c.epoch) (hr : c.rej = 0) :
    exec (.sequencerCommand l n) s = act s (seqExec (s.modSeq n fun q => q.setLink l rest) l c) := by
  obtain ⟨-, htakes, halone, howner⟩ := h
  have halone' : comparing (s.modSeq n fun q => q.setLink l rest) = false := halone
  have htakes' : outFrozen (s.modSeq n fun q => q.setLink l rest) = false := htakes
  refine congrArg (act s) ?_
  unfold deliver
  simp only [hl, if_neg (Nat.not_lt.2 he), halone', htakes', howner, hr, Bool.not_false, if_true, and_self]

/-- A command whose words do `E` to the state of the output stages and the registers. -/
theorem Commands.runs (h : Commands s l n) {words : List Nat} {E : State → State} {P : State → Prop}
    (hx : ∀ c x, c.words = words → seqExec { s with seqs := x } l c = E { s with seqs := x })
    (hf : ∀ x, only bankParts { s with seqs := x } (E { s with seqs := x }))
    (hP : ∀ x, P (modeStep s (keep s (E { s with seqs := x })))) : Runs s l n words P := by
  intro c rest hl hw he hr
  let x := tmod s.seqs n fun q => q.setLink l rest
  have hexec : exec (.sequencerCommand l n) s = act s (E { s with seqs := x }) :=
    (exec_sequencerCommand h hl he hr).trans (congrArg (act s) (hx c x hw))
  have hframe : only [.seqs, .out, .regs, .events, .sels] s (E { s with seqs := x }) :=
    only_trans (only_seqs (by decide) s x) (only_mono (hf x) (by decide))
  refine endsIn_act hexec h.lit hframe ⟨?_, hP x⟩
  have hseqs : (E { s with seqs := x }).seqs = x := hf x .seqs (by decide)
  rw [State.seq, modeStep_seqs, keep_seqs, hseqs, tget_tmod_same, Seq.link_setLink]

end Sys2Proof.Machine
end

section
/-! PROOFS. What the commands of the valve banks do at their sequencer (O40): STOP, CLR, ENABLE and DISABLE of a channel
(R202, R208). -/

namespace Sys2Proof.Machine

variable {s : State} {l : LaneId}

/-! ### CMD of DDV (R217) -/

section
variable {k : Nat} (hk : k < 48)
include hk

theorem ddvJudge_cmd {op : Nat} (h2 : 2 ≤ op) (h5 : op ≤ 5) : ddvJudge s l 8 (op * 2 ^ 28 + k) = 0 := by
  have hop := nfld_cmd_op (show op < 16 by omega) (show k < 64 by omega)
  have hch : nfld (op * 2 ^ 28 + k) 5 0 = k := nfld_cmd_channel op (Nat.le_refl 5) (by omega)
  have hin : ¬ (op = 0 ∨ 5 < op ∨ 48 ≤ k) := by omega
  unfold ddvJudge
  dsimp only
  rw [if_pos rfl, hop, hch, if_neg hin, if_neg (by omega)]

theorem ddvExec_stop : ddvExec s l 8 (2 * 2 ^ 28 + k) = bankStop s k := by
  simp only [ddvExec, if_true, nfld_cmd_op (op := 2) (by decide) (show k < 64 by omega),
    nfld_cmd_channel 2 (Nat.le_refl 5) (show k < 64 by omega)]

theorem ddvExec_clr : ddvExec s l 8 (3 * 2 ^ 28 + k) = rsetb s .a (dvReg k 4) 4 false := by
  simp only [ddvExec, if_true, nfld_cmd_op (op := 3) (by decide) (show k < 64 by omega),
    nfld_cmd_channel 3 (Nat.le_refl 5) (show k < 64 by omega)]

theorem ddvExec_enable : ddvExec s l 8 (4 * 2 ^ 28 + k) = rsetb s .a (dvReg k 4) 5 false := by
  simp only [ddvExec, if_true, nfld_cmd_op (op := 4) (by decide) (show k < 64 by omega),
    nfld_cmd_channel 4 (Nat.le_refl 5) (show k < 64 by omega)]

theorem ddvExec_disable : ddvExec s l 8 (5 * 2 ^ 28 + k) = pumpAll (dvStop (rsetb s .a (dvReg k 4) 5 true) k) := by
  simp only [ddvExec, if_true, nfld_cmd_op (op := 5) (by decide) (show k < 64 by omega),
    nfld_cmd_channel 5 (Nat.le_refl 5) (show k < 64 by omega)]

end

/-! ### STOP (R202) -/

theorem switchOff_frame (s : State) (code vbst : Nat) :
    only [.regs] s (switchOff s code vbst) ∧ (switchOff s code vbst).now = s.now := by
  unfold switchOff
  split
  · exact ⟨only_rset (by decide) s .a _ _, rcount_now ..⟩
  · exact ⟨only_refl _ s, rfl⟩

theorem only_startRelease (s : State) (c vbst : Nat) : only bankParts s (startRelease s c vbst) :=
  only_trans (only_trans (only_mono (switchOff_frame s _ _).1 (by decide)) (only_modChan (by decide) _ c _))
    (bankWork_pumpAll _).only

/-- P3 begins now; the requests that the hold held back leave the channel alone. -/
theorem chan_startRelease (s : State) (c vbst : Nat) :
    ((startRelease s c vbst).chan c).phase = .p3 ∧ ((startRelease s c vbst).chan c).since = s.now := by
  unfold startRelease
  dsimp only
  rw [(bankWork_pumpAll _).busy c (by rw [chan_modChan, if_pos rfl]; exact Phase6.noConfusion), chan_modChan, if_pos rfl]
  exact ⟨rfl, (switchOff_frame s _ _).2⟩

theorem bankStop_hold {c : Nat} (h : (s.chan c).phase = .p2) :
    ((bankStop s c).chan c).phase = .p3 ∧ ((bankStop s c).chan c).since = s.now := by
  unfold bankStop
  rw [h]
  exact chan_startRelease s c _

theorem bankStop_opening {c : Nat} (h : (s.chan c).phase = .p0 ∨ (s.chan c).phase = .p1) :
    bankStop s c = s.modChan c fun x => { x with ends := {} } := by
  unfold bankStop
  rcases h with h | h <;> rw [h]

theorem only_bankStop (s : State) (c : Nat) : only bankParts s (bankStop s c) := by
  unfold bankStop
  split
  · exact only_startRelease s c _
  · exact only_modChan (by decide) s c _
  · exact only_modChan (by decide) s c _
  · exact only_refl _ s
  · exact only_trans (only_modBank (by decide) s _ _) (bankWork_bankPump _ _).only

/-! ### The flags of a channel (R208) -/

theorem resetAt_dvStat : ∀ c : Fin 48, resetAt (dvReg c 4) = 0 := by decide +kernel

/-- A flag of a status register goes, and nothing else of its word. -/
theorem rget_dvReg_cleared (s : State) (c : Fin 48) {i : Nat} :
    rget (rsetb s .a (dvReg c 4) i false) .a (dvReg c 4) = nset (rget s .a (dvReg c 4)) i i 0 := by
  have hlt : rget s .a (dvReg c 4) < 2 ^ 32 := rget_lt (by rw [resetAt_dvStat]; decide) s .a
  have hle : nset (rget s .a (dvReg c 4)) i i 0 ≤ rget s .a (dvReg c 4) :=
    Nat.le_of_testBit fun j hj => by
      rw [testBit_nset (Nat.le_refl i)] at hj
      split at hj
      · simp at hj
      · exact hj
  rw [rsetb, rsetf, rget_rset_same]
  exact Nat.mod_eq_of_lt (hle.trans_lt hlt)

/-- A RAIL that waited takes its level when no channel of the bank is in P0 any more; no request comes into a queue. -/
theorem bankWork_railSettle (s : State) (b : Nat) : ∃ w, only [.out] s w ∧ (∀ k, (w.bank k).queue = (s.bank k).queue) ∧
    BankWork w (railSettle s b) := by
  have still : ∃ w, only [.out] s w ∧ (∀ k, (w.bank k).queue = (s.bank k).queue) ∧ BankWork w s :=
    ⟨s, only_refl _ s, fun _ => rfl, bankWork_refl s⟩
  unfold railSettle
  split
  next r _ =>
    split
    · exact still
    · refine ⟨_, only_modBank (by decide) s b _, fun k => ?_, bankWork_setRail s b r⟩
      rw [bank_modBank]
      split <;> rfl
  · exact still

/-- A channel stops at once, and its request is taken out of the queue. -/
theorem bankWork_dvStop (s : State) (c : Nat) : ∃ w, only [.out] s w ∧ (∀ r ∈ (w.bank (c / 8)).queue, r.ch ≠ c) ∧
    BankWork w (dvStop s c) := by
  obtain ⟨w, hout, hqueue, hwork⟩ := bankWork_railSettle ((s.modBank (c / 8) fun x => { x with
    queue := x.queue.filter fun y => y.ch != c }).modChan c fun x => { x with phase := .idle }) (c / 8)
  refine ⟨w, only_trans (only_trans (only_modBank (by decide) s _ _) (only_modChan (by decide) _ c _)) hout, ?_, hwork⟩
  intro r hr
  have hb : ((s.modBank (c / 8) fun x => { x with queue := x.queue.filter fun y => y.ch != c }).bank (c / 8)).queue =
      (s.bank (c / 8)).queue.filter fun y => y.ch != c := by rw [bank_modBank, if_pos rfl]
  rw [hqueue] at hr
  have hmem : r ∈ (s.bank (c / 8)).queue.filter fun y => y.ch != c := hb ▸ hr
  exact bne_iff_ne.1 (List.mem_filter.1 hmem).2

/-- DISABLE sets its flag, and no request of the channel is left, whatever the banks take and drop then. -/
theorem disabled_dvStop (s : State) (c : Nat) :
    let u := pumpAll (dvStop (rsetb s .a (dvReg c 4) 5 true) c)
    only bankParts s u ∧ rbit u .a (dvReg c 4) 5 = true ∧ ∀ r ∈ (u.bank (c / 8)).queue, r.ch ≠ c := by
  intro u
  obtain ⟨w, hout, hqueue, hstop⟩ := bankWork_dvStop (rsetb s .a (dvReg c 4) 5 true) c
  have hwork : BankWork w u := hstop.trans (bankWork_pumpAll _)
  refine ⟨only_trans (only_trans (only_rsetb (by decide) s .a _ _ _) (only_mono hout (by decide))) hwork.only, ?_,
    fun r hr => hqueue r (hwork.queue _ hr)⟩
  rw [rbit_eq, hwork.flag .a _ 5 (dvReg_mod c (by decide)) (by decide), hout .regs (by decide), ← rbit_eq,
    rbit_rsetb s .a _ (by decide)]

end Sys2Proof.Machine
end

section
/-! PROOFS. What the commands of a bank do at its sequencer (O40): profile words (R193), BHSFLT (R209) and RAIL (R189). -/

namespace Sys2Proof.Machine

variable {s : State} {l : LaneId}

/-! ### Profiles -/

theorem profMask_lt (w v : Nat) : profMask w v < 2 ^ 32 := by
  unfold profMask nfld
  split <;> omega

theorem ddvExec_profile (p w b v : Nat) (hp : p < 16) (hw : w < 8) :
    ddvExec s l (0x2000 + 0x200 * b + 0x20 * p + 4 * w) v = rset s .a (profReg b p w) (profMask w v) := by
  have hreg : Block.ddv.base + (0x2000 + 0x200 * b + 0x20 * p + 4 * w) = profReg b p w := by unfold profReg; omega
  have hword : (0x2000 + 0x200 * b + 0x20 * p + 4 * w - 0x2000) % 0x20 / 4 = w := by omega
  unfold ddvExec
  rw [if_neg (by omega), if_pos (by omega), hreg, hword]

/-! ### BHSFLT -/

/-- STAT of DDV. -/
theorem ddvStat_desc : ∃ d, Block.ddv.descAt 4 = some d ∧ F "BHSFLT" 21 16 .w1c ∈ d.fields := ⟨_, rfl, List.mem_cons_self⟩

/-- A 1 written to a bit of BHSFLT clears it (R9). -/
theorem bhsFlt_cleared (s : State) (l : LaneId) (b : Fin 6) : bhsFlt (regStore s l .ddv 4 (2 ^ (16 + b.val)) 0) b = false := by
  obtain ⟨d, hd, hf⟩ := ddvStat_desc
  have hfield := ((takes_regStore (s := s) (l := l) hd (2 ^ (16 + b.val)) 0).1 _ hf).trans (if_pos rfl)
  have hmask : ∀ b : Fin 6, (2 ^ (21 + 1 - 16) - 1 - nfld (2 ^ (16 + b.val)) 21 16).testBit b.val = false := by decide
  have hbit := testBit_nfld (rget (regStore s l .ddv 4 (2 ^ (16 + b.val)) 0) l ddvStat) 21 16 b.val
  have hb : b.val < 21 + 1 - 16 := b.isLt
  rw [bhsFlt, rbit_eq, nbit_eq_testBit, rget_shared (show laneHeld ddvStat = false by decide +kernel) _ .a l]
  rw [decide_eq_true hb, Bool.true_and] at hbit
  rw [← hbit]
  refine (congrArg (Nat.testBit · b.val) hfield).trans ?_
  rw [Nat.testBit_and]
  exact Bool.and_eq_false_imp.2 fun _ => hmask b

/-! ### RAIL -/

theorem inP0_congr {t : State} (h : t.out = s.out) (b : Nat) : inP0 t b = inP0 s b := by
  simp only [inP0, State.chan, h]

/-- RAIL applies at once while the overcurrent latch is clear and no channel of the bank is in P0 (R189). -/
theorem railCmd_free {b r : Nat} (hf : bhsFlt s b = false) (hp : inP0 s b = false) : railCmd s b r false =
    pumpAll (setRail ((rsetf s .a (bankReg b 0) 1 0 r).modBank b fun x => { x with heldOff := false }) b r) := by
  have hne : ddvStat ≠ bankReg b 0 := by
    simp only [ddvStat, bankReg]
    omega
  have hf' : bhsFlt (rsetf s .a (bankReg b 0) 1 0 r) b = false := by
    rw [bhsFlt, rbit_eq, rsetf, rget_rset_ne s .a .a hne, ← rbit_eq]
    exact hf
  have hp' : inP0 ((rsetf s .a (bankReg b 0) 1 0 r).modBank b fun x => { x with heldOff := false }) b = false := by
    rw [← hp]
    simp only [inP0, State.chan, State.modBank, rsetf_out]
  simp only [railCmd, hf', hp', Bool.false_and, Bool.or_self, Bool.false_eq_true, if_false]

/-- What a write of a bank's CFG does then. -/
theorem ddvExec_rail {b : Nat} (hb : b < 6) (hf : bhsFlt s b = false) (hp : inP0 s b = false) (v : Nat) :
    let u := ddvExec s l (0x100 + 0x20 * b) v
    only bankParts s u ∧ (u.bank b).rail = v % 4 ∧ rfld u .a (bankReg b 0) 1 0 = v % 4 ∧ (v % 4 = 3 → (u.bank b).queue = []) := by
  have hr : nfld v 1 0 = v % 4 := by simp [nfld]
  have hbank : (0x100 + 0x20 * b - 0x100) / 0x20 = b := by omega
  have hstored : only [.regs] s (regStore s l .ddv (0x100 + 0x20 * b) v 0) := only_regStore (by decide) s l _ _ v 0
  have hf' : bhsFlt (regStore s l .ddv (0x100 + 0x20 * b) v 0) b = false := by
    rw [bhsFlt, rbit_eq, rget_regStore_ne s l .a _ _ v 0 (by simp only [ddvStat]; omega), ← rbit_eq]
    exact hf
  have hp' : inP0 (regStore s l .ddv (0x100 + 0x20 * b) v 0) b = false := (inP0_congr (regStore_out ..) b).trans hp
  unfold ddvExec
  dsimp only
  rw [if_neg (by omega), if_neg (by omega), if_pos (by omega), hr, hbank, railCmd_free hf' hp']
  generalize regStore s l .ddv (0x100 + 0x20 * b) v 0 = w at hstored
  have hset := bankWork_setRail ((rsetf w .a (bankReg b 0) 1 0 (v % 4)).modBank b fun x => { x with heldOff := false }) b (v % 4)
  have hpump := (bankWork_pumpAll (setRail ((rsetf w .a (bankReg b 0) 1 0 (v % 4)).modBank b fun x => { x with heldOff := false }) b
    (v % 4))).trans (bankWork_pumpAll _)
  refine ⟨?_, ?_, ?_, fun h => hpump.queue_nil ?_⟩
  · refine only_trans (only_mono hstored (by decide)) (only_trans ?_ (only_trans hset.only hpump.only))
    exact only_trans (only_rsetf (by decide) w .a _ _ _ _)
      (only_trans (only_modBank (by decide) _ b _) (only_modBank (by decide) _ b _))
  · rw [(hset.trans hpump).rail, bank_modBank, if_pos rfl]
  · rw [rfld_eq_nfld, (hset.trans hpump).config .a _ (bankReg_mod b (by decide)), rget_modBank, rget_modBank, ← rfld_eq_nfld,
      rfld_rsetf_same w .a (bankReg b 0) (Nat.zero_le 1) (by decide)]
    omega
  · rw [h]
    exact queue_setRail_off _ b

end Sys2Proof.Machine
end

section
/-! PROOFS. What the commands of proportional channels, load switches and sense groups do at their sequencer (O40): DISABLE and CLR
(R227), CLR (R239), a directed conversion (R232). -/

namespace Sys2Proof.Machine

variable {s : State} {l : LaneId}

/-! ### PVC (R227) -/

section
variable {k : Nat} (hk : k < 24)
include hk

theorem pvcJudge_cmd {op : Nat} (h2 : 2 ≤ op) (h3 : op ≤ 3) : pvcJudge s l 8 (op * 2 ^ 28 + k) = 0 := by
  have hop := nfld_cmd_op (show op < 16 by omega) (show k < 64 by omega)
  have hch : nfld (op * 2 ^ 28 + k) 4 0 = k := nfld_cmd_channel op (by decide) (by omega)
  unfold pvcJudge
  dsimp only
  rw [if_pos rfl, hop, hch, if_neg (by omega), if_pos (by omega)]

theorem pvcExec_disable : pvcExec s l 8 (2 * 2 ^ 28 + k) =
    rsetf (rsetb s .a (pvReg k 0x14) 1 false) .a (pvReg k 0x14) 4 3 0 := by
  simp only [pvcExec, if_true, nfld_cmd_op (op := 2) (by decide) (show k < 64 by omega),
    nfld_cmd_channel 2 (w := 4) (by decide) (show k < 32 by omega)]

theorem pvcExec_clr : pvcExec s l 8 (3 * 2 ^ 28 + k) =
    rsetf (rsetb s .a (pvReg k 0x14) 2 false) .a (pvReg k 0x14) 11 8 0 := by
  simp only [pvcExec, if_true, nfld_cmd_op (op := 3) (by decide) (show k < 64 by omega),
    nfld_cmd_channel 3 (w := 4) (by decide) (show k < 32 by omega)]

end

/-- A bit and a field beside it, both cleared in one register. -/
theorem cleared_bit_field (s : State) (a : Nat) {i hi lo : Nat} (hlo : i < lo) (h : lo ≤ hi) (hw : hi < 32) :
    let u := rsetf (rsetb s .a a i false) .a a hi lo 0
    only [.regs] s u ∧ rbit u .a a i = false ∧ rfld u .a a hi lo = 0 ∧ regsBut [a] s u := by
  refine ⟨only_trans (only_rsetb (by decide) s .a a i false) (only_rsetf (by decide) _ .a a hi lo 0), ?_, ?_,
    regsBut_trans (regsBut_rset s .a a _) (regsBut_rset _ .a a _)⟩
  · rw [rbit_rsetf_disjoint _ .a a h (by omega) (.inl hlo), rbit_rsetb s .a a (by omega)]
  · rw [rfld_rsetf_same _ .a a h hw, Nat.zero_mod]

/-! ### CLR of a load switch (R239) -/

/-- A load switch before CLR clears its flags: one that is latched or shed goes off. -/
def lsReleased (s : State) (k : Nat) : State :=
  if lsBit s k 4 || lsBit s k 5 then lsSet (lsDark s k) k 2 false else lsKeep s k

section
variable {k : Nat} (hk : k < 32)
include hk

theorem lswJudge_clr : lswJudge s l 8 (3 * 2 ^ 28 + k) = 0 := by
  unfold lswJudge
  dsimp only
  rw [if_pos rfl, nfld_cmd_op (op := 3) (by decide) (show k < 64 by omega), if_neg (by decide),
    if_neg fun h => h.2 rfl, if_neg fun h => absurd h.1 (by decide)]

theorem lswExec_clr : lswExec s l 8 (3 * 2 ^ 28 + k) =
    rsetf (rsetf (lsReleased s k) .a (lsReg k 4) 5 4 0) .a (lsReg k 4) 10 7 0 := by
  simp only [lswExec, lsReleased, if_true, nfld_cmd_op (op := 3) (by decide) (show k < 64 by omega),
    nfld_cmd_channel 3 (w := 4) (by decide) (show k < 32 by omega)]

end

theorem lsBit_lsSet_same (s : State) (k : Nat) {i : Nat} (h : i < 32) (b : Bool) : lsBit (lsSet s k i b) k i = b :=
  rbit_rsetb s .a _ h b

theorem lsBit_lsSet_ne (s : State) (k : Nat) {i j : Nat} (h : j < 32) (hij : j ≠ i) (b : Bool) :
    lsBit (lsSet s k i b) k j = lsBit s k j :=
  rbit_rsetf_disjoint s .a _ (Nat.le_refl i) h (by omega) _

/-- From `s` to `t` at most the output stages and STAT of load switch `k` change. -/
def OnSwitch (k : Nat) (s t : State) : Prop := only [.out, .regs] s t ∧ regsBut [lsReg k 4] s t

theorem OnSwitch.trans {k : Nat} {t u : State} (h : OnSwitch k s t) (g : OnSwitch k t u) : OnSwitch k s u :=
  ⟨only_trans h.1 g.1, regsBut_trans h.2 g.2⟩

theorem onSwitch_modLs (s : State) (k : Nat) (f : LsCh → LsCh) : OnSwitch k s (s.modLs k f) :=
  ⟨only_modLs (by decide) s k f, fun _ _ _ => rfl⟩

theorem onSwitch_rsetf (s : State) (k hi lo v : Nat) : OnSwitch k s (rsetf s .a (lsReg k 4) hi lo v) :=
  ⟨only_rsetf (by decide) s .a _ hi lo v, regsBut_rset s .a _ _⟩

theorem onSwitch_lsDark (s : State) (k : Nat) : OnSwitch k s (lsDark s k) :=
  (((onSwitch_modLs s k _).trans (onSwitch_rsetf _ k 0 0 _)).trans (onSwitch_rsetf _ k 6 6 _)).trans (onSwitch_modLs _ k _)

theorem lsBit_modLs (s : State) (k n i : Nat) (f : LsCh → LsCh) : lsBit (s.modLs k f) n i = lsBit s n i := rfl

theorem lsBit_lsDark (s : State) (k : Nat) : lsBit (lsDark s k) k 0 = false := by
  unfold lsDark
  dsimp only
  rw [lsBit_modLs, lsBit_lsSet_ne _ k (by decide) (by decide), lsBit_lsSet_same _ k (by decide)]

theorem onSwitch_lsReleased (s : State) (k : Nat) : OnSwitch k s (lsReleased s k) := by
  unfold lsReleased
  split
  · exact (onSwitch_lsDark s k).trans (onSwitch_rsetf _ k 2 2 _)
  · exact onSwitch_modLs s k _

theorem lsBit_lsReleased {k : Nat} (h : lsBit s k 4 || lsBit s k 5) :
    lsBit (lsReleased s k) k 0 = false ∧ lsBit (lsReleased s k) k 2 = false := by
  rw [lsReleased, if_pos h]
  exact ⟨(lsBit_lsSet_ne _ k (by decide) (by decide) false).trans (lsBit_lsDark s k), lsBit_lsSet_same _ k (by decide) false⟩

/-- CLR clears the latches and the sticky flags; a channel that was latched or shed is off then. -/
theorem cleared_switch {k : Nat} (hk : k < 32) :
    let u := lswExec s l 8 (3 * 2 ^ 28 + k)
    OnSwitch k s u ∧ rfld u .a (lsReg k 4) 5 4 = 0 ∧ rfld u .a (lsReg k 4) 10 7 = 0 ∧
      (lsBit s k 4 || lsBit s k 5 → lsBit u k 0 = false ∧ lsBit u k 2 = false) := by
  dsimp only
  rw [lswExec_clr hk]
  have hoff (h : lsBit s k 4 || lsBit s k 5) := lsBit_lsReleased h
  have hstate := onSwitch_lsReleased s k
  generalize lsReleased s k = w at hstate hoff
  have beside (i : Nat) (h : i < 4) : lsBit (rsetf (rsetf w .a (lsReg k 4) 5 4 0) .a (lsReg k 4) 10 7 0) k i = lsBit w k i :=
    (rbit_rsetf_disjoint _ .a _ (by decide) (by omega) (by omega) _).trans
      (rbit_rsetf_disjoint w .a _ (by decide) (by omega) (by omega) _)
  refine ⟨(hstate.trans (onSwitch_rsetf w k 5 4 0)).trans (onSwitch_rsetf _ k 10 7 0), ?_, ?_, fun h => ?_⟩
  · rw [rfld_rsetf_disjoint _ .a _ (by decide) (by decide) (by decide), rfld_rsetf_same w .a _ (by decide) (by decide),
      Nat.zero_mod]
  · rw [rfld_rsetf_same _ .a _ (by decide) (by decide), Nat.zero_mod]
  · rw [beside 0 (by decide), beside 2 (by decide)]
    exact hoff h

/-! ### Directed conversions (R232) -/

/-- Whether a register's description rejects no value and locks none. -/
def RegDesc.unchecked (d : RegDesc) : Bool := d.fields.all fun f => f.acc != .rwl && (f.acc != .rw || f.ranges.isEmpty)

theorem RegDesc.judge_unchecked {d : RegDesc} (h : d.unchecked = true) (lock : Bool) (old v : Nat) : d.judge lock old v = 0 := by
  have hf : ∀ f ∈ d.fields, f.acc ≠ .rwl ∧ (f.acc = .rw → f.ok v = true) := by
    intro f hf
    have := List.all_eq_true.1 h f hf
    rw [Bool.and_eq_true, Bool.or_eq_true, bne_iff_ne, bne_iff_ne] at this
    exact ⟨this.1, fun ha => by rw [FieldDesc.ok, this.2.resolve_left (not_not.2 ha), Bool.true_or]⟩
  rw [RegDesc.judge_unlocked (by rintro ⟨-, f, hm, ha, -⟩; exact (hf f hm).1 ha), if_neg]
  rw [any_beyond_iff]
  rintro ⟨f, hm, ha, hok⟩
  rcases ha with ha | ⟨ha, -⟩
  · exact absurd hok (by rw [(hf f hm).2 ha]; decide)
  · exact (hf f hm).1 ha

theorem regVerdict_unchecked {b : Block} {off : Nat} (h : (b.descAt off).all RegDesc.unchecked = true) (v : Nat) :
    regVerdict s l b off v = 0 := by
  unfold regVerdict
  split
  next d hd =>
    rw [hd] at h
    exact RegDesc.judge_unchecked h _ _ _
  · rfl

theorem lswJudge_sense (g : Fin 4) (h : (tget s.out.dirs g.val).isSome = false) (v : Nat) :
    lswJudge s l (0x80 + 0x10 * g.val) v = 0 := by
  have hdesc : ∀ g : Fin 4, (Block.lsw.descAt (0x80 + 0x10 * g.val)).all RegDesc.unchecked = true := by decide
  have hgroup : (0x80 + 0x10 * g.val - 0x80) / 0x10 = g.val := by omega
  unfold lswJudge
  dsimp only
  rw [regVerdict_unchecked (hdesc g), hgroup, h, if_neg (by omega), if_neg (by decide), if_neg (by omega), if_neg (by simp)]

/-- What the scan of a group's channels has found is kept until the conversion is over. -/
def scanHeld (s : State) (g at_ : Nat) : State :=
  (List.range 8).foldl (fun s i => (lsKeep s (8 * g + i)).modLs (8 * g + i) fun x => { x with codeAt := at_ }) s

theorem only_scanHeld (s : State) (g at_ : Nat) : only [.out] s (scanHeld s g at_) :=
  only_foldl _ (fun s _ => only_trans (only_modLs (by decide) s _ _) (only_modLs (by decide) _ _ _)) _ s

theorem scan_scanHeld (s : State) (g at_ : Nat) : (scanHeld s g at_).out.scan = s.out.scan :=
  List.foldlRecOn (motive := fun t : State => t.out.scan = s.out.scan) _ _ rfl fun _ h _ _ => h

theorem dirRequest_eq (s : State) (g ch : Nat) : dirRequest s g ch =
    let w := scanHeld s g (slotNext s g + us 1)
    { w with out := { w.out with
      dirs := tset w.out.dirs g (some ⟨ch, slotNext s g + us 1⟩), scan := tset w.out.scan g (tget w.out.scan g + us 1) } } := rfl

theorem only_dirRequest (s : State) (g ch : Nat) : only [.out] s (dirRequest s g ch) := by
  rw [dirRequest_eq]
  exact only_trans (only_scanHeld s g _) (only_out (by decide) _ _)

/-- The conversion is pending, and the scan is put off by its length. -/
theorem pending_dirRequest (s : State) (g ch : Nat) :
    tget (dirRequest s g ch).out.dirs g = some ⟨ch, slotNext s g + us 1⟩ ∧
      tget (dirRequest s g ch).out.scan g = tget s.out.scan g + us 1 := by
  rw [dirRequest_eq]
  dsimp only
  rw [tget_tset_same, tget_tset_same, scan_scanHeld]
  exact ⟨rfl, rfl⟩

theorem regStore_now (s : State) (l : LaneId) (b : Block) (off v rej : Nat) : (regStore s l b off v rej).now = s.now := by
  unfold regStore
  split
  · exact rset_now ..
  · rfl

/-- What a write of SEL of a sense group does. -/
theorem requested_conversion (g : Fin 4) (v : Nat) :
    let u := lswExec s l (0x80 + 0x10 * g.val) v
    only [.out, .regs] s u ∧ tget u.out.dirs g.val = some ⟨v % 8, slotNext s g + 250⟩ ∧
      tget u.out.scan g.val = tget s.out.scan g.val + 250 ∧ regsBut [sgReg g 0] s u := by
  have hgroup : (0x80 + 0x10 * g.val - 0x80) / 0x10 = g.val := by omega
  have hreg : Block.lsw.base + (0x80 + 0x10 * g.val) = sgReg g 0 := by unfold sgReg; omega
  have hstored : only [.regs] s (regStore s l .lsw (0x80 + 0x10 * g.val) v 0) := only_regStore (by decide) s l _ _ v 0
  have hregs := regStore_regsBut s l .lsw (0x80 + 0x10 * g.val) v 0
  have hout := regStore_out s l .lsw (0x80 + 0x10 * g.val) v 0
  have hnow := regStore_now s l .lsw (0x80 + 0x10 * g.val) v 0
  unfold lswExec
  dsimp only
  rw [hreg] at hregs
  rw [if_neg (by omega), if_pos (by omega), hgroup]
  generalize regStore s l .lsw (0x80 + 0x10 * g.val) v 0 = w at hstored hregs hout hnow
  have hslot : slotNext w g = slotNext s g := by rw [slotNext, slotNext, hout, hnow]
  have hrequest := only_dirRequest w g (v % 8)
  obtain ⟨hdirs, hscan⟩ := pending_dirRequest w g (v % 8)
  refine ⟨only_trans (only_mono hstored (by decide)) (only_mono hrequest (by decide)), ?_, ?_,
    regsBut_trans hregs (regsBut_of_only hrequest (by decide))⟩
  · rw [hdirs, hslot, us]
  · rw [hscan, hout, us]

end Sys2Proof.Machine
end

section
/-! PROOFS. The output commands take effect (O40): the effects put together with the way to the sequencer. -/

namespace Sys2Proof.Machine

variable {s : State} {l : LaneId} {n : Fin 62}

/-- The sequencers' rules do not look at the links. -/
theorem ddvJudge_seqs (s : State) (x : Tab Seq) (l : LaneId) (off v : Nat) :
    ddvJudge { s with seqs := x } l off v = ddvJudge s l off v := rfl

/-! ### Channels -/

section
variable (h : Commands s l n)
include h

/-- A word of CMD of DDV that is not a START. -/
theorem Commands.runs_ddvCmd {op k : Nat} (h2 : 2 ≤ op) (h5 : op ≤ 5) (hk : k < 48) {E : State → State} {P : State → Prop}
    (hE : ∀ s : State, ddvExec s l 8 (op * 2 ^ 28 + k) = E s) (hf : ∀ s, only bankParts s (E s))
    (hP : ∀ x, P (modeStep s (keep s (E { s with seqs := x })))) : Runs s l n [0xF0300008, op * 2 ^ 28 + k] P := by
  have hop := nfld_cmd_op (show op < 16 by omega) (show k < 64 by omega)
  refine h.runs (fun c x hw => ?_) (fun x => hf _) hP
  rw [seqExec_ddv (off := 8) hw (by decide) (ddvJudge_cmd hk h2 h5) (fun hs => by omega), hE]

theorem Commands.runs_stop (c : Fin 48) : Runs s l n [0xF0300008, 2 * 2 ^ 28 + c] fun t =>
    ((s.chan c).phase = .p2 → (t.chan c).phase = .p3 ∧ (t.chan c).since = s.now) ∧
    ((s.chan c).phase = .p0 ∨ (s.chan c).phase = .p1 → t.chan c = { s.chan c with ends := {} } ∧ regsBut [] s t) := by
  refine h.runs_ddvCmd (by decide) (by decide) c.isLt (fun s => ddvExec_stop c.isLt) (fun s => only_bankStop s c)
    fun x => ⟨fun hp => ?_, fun hp => ?_⟩
  · rw [chan_ended]
    exact bankStop_hold (s := { s with seqs := x }) hp
  · have hstop : bankStop { s with seqs := x } c = ({ s with seqs := x } : State).modChan c fun y => { y with ends := {} } :=
      bankStop_opening (s := { s with seqs := x }) hp
    rw [hstop]
    refine ⟨?_, regsBut_ended fun _ _ _ => rfl⟩
    rw [chan_ended, chan_modChan, if_pos rfl]
    rfl

/-- CLR and ENABLE: one flag of the channel's STAT is cleared. -/
theorem Commands.runs_clearing {op : Nat} (c : Fin 48) (i : Nat) (h2 : 2 ≤ op) (h5 : op ≤ 5)
    (hE : ∀ s : State, ddvExec s l 8 (op * 2 ^ 28 + c) = rsetb s .a (dvReg c 4) i false) :
    Runs s l n [0xF0300008, op * 2 ^ 28 + c] fun t =>
      regsBut [dvReg c 4] s t ∧ rget t .a (dvReg c 4) = nset (rget s .a (dvReg c 4)) i i 0 := by
  refine h.runs_ddvCmd h2 h5 c.isLt hE (fun s => only_rsetb (by decide) s .a _ i false) fun x => ⟨?_, ?_⟩
  · exact regsBut_ended (regsBut_rset { s with seqs := x } .a _ _)
  · rw [rget_modeStep, rget_keep]
    exact rget_dvReg_cleared { s with seqs := x } c

theorem Commands.runs_disable (c : Fin 48) : Runs s l n [0xF0300008, 5 * 2 ^ 28 + c] fun t =>
    rbit t .a (dvReg c 4) 5 = true ∧ ∀ r ∈ (t.bank (c.val / 8)).queue, r.ch ≠ c.val := by
  refine h.runs_ddvCmd (by decide) (by decide) c.isLt (fun s => ddvExec_disable c.isLt)
    (fun s => (disabled_dvStop s c).1) fun x => ?_
  rw [rbit_ended, bank_ended]
  exact (disabled_dvStop { s with seqs := x } c).2

/-! ### Banks -/

theorem Commands.runs_profile (b : Fin 6) (p : Fin 16) (w : Fin 8) (v : Word)
    (hj : seqJudge s l .ddv (0x2000 + 0x200 * b + 0x20 * p + 4 * w) v.toNat = 0) :
    Runs s l n [profReg b p w, v.toNat] fun t =>
      regsBut [profReg b p w] s t ∧ rget t .a (profReg b p w) = profMask w v.toNat ∧ t.out = s.out := by
  have hreg : profReg b p w = Block.ddv.base + (0x2000 + 0x200 * b + 0x20 * p + 4 * w) := by unfold profReg; omega
  refine h.runs (E := fun s => rset s .a (profReg b p w) (profMask w v.toNat)) (fun c x hw => ?_)
    (fun x => only_rset (by decide) _ .a _ _) fun x => ⟨?_, ?_, ?_⟩
  · rw [hreg] at hw
    exact (seqExec_ddv hw (by omega) ((ddvJudge_seqs s x l _ _).trans hj) fun hs => by omega).trans
      (ddvExec_profile p w b v.toNat p.isLt w.isLt)
  · exact regsBut_ended (regsBut_rset { s with seqs := x } .a _ _)
  · rw [rget_modeStep, rget_keep, rget_rset_same, Nat.mod_eq_of_lt (profMask_lt _ _)]
  · rw [modeStep_out, keep_out, rset_out]

theorem Commands.runs_bhsflt (b : Fin 6) : Runs s l n [0xF0300004, 2 ^ (16 + b.val)] fun t =>
    bhsFlt t b = false ∧ regsBut [0xF0300004] s t ∧ t.out = s.out := by
  have hdesc : (Block.ddv.descAt 4).all RegDesc.unchecked = true := by decide
  refine h.runs (E := fun s => regStore s l .ddv 4 (2 ^ (16 + b.val)) 0) (fun c x hw => ?_)
    (fun x => only_regStore (by decide) _ l _ _ _ _) fun x => ⟨?_, ?_, ?_⟩
  · rw [seqExec_ddv (off := 4) hw (by decide) ?_ (fun hs => by omega)]
    · rfl
    · unfold ddvJudge
      dsimp only
      rw [regVerdict_unchecked hdesc]
      rfl
  · rw [bhsFlt, rbit_ended, ← bhsFlt]
    exact bhsFlt_cleared _ l b
  · exact regsBut_ended (regStore_regsBut { s with seqs := x } l .ddv 4 _ 0)
  · rw [modeStep_out, keep_out, regStore_out]

theorem Commands.runs_rail (b : Fin 6) (v : Word) (hj : seqJudge s l .ddv (0x100 + 0x20 * b) v.toNat = 0)
    (hf : bhsFlt s b = false) (hp : inP0 s b = false) : Runs s l n [bankReg b 0, v.toNat] fun t =>
      (t.bank b).rail = v.toNat % 4 ∧ rfld t .a (bankReg b 0) 1 0 = v.toNat % 4 ∧ (v.toNat % 4 = 3 → (t.bank b).queue = []) := by
  have hreg : bankReg b 0 = Block.ddv.base + (0x100 + 0x20 * b) := by unfold bankReg; omega
  have hrail (x : Tab Seq) := ddvExec_rail (s := { s with seqs := x }) (l := l) b.isLt hf hp v.toNat
  refine h.runs (E := fun s => ddvExec s l (0x100 + 0x20 * b) v.toNat)
    (fun c x hw => seqExec_ddv (hreg ▸ hw) (by omega) ((ddvJudge_seqs s x l _ _).trans hj) fun hs => by omega)
    (fun x => (hrail x).1) fun x => ?_
  rw [bank_ended, rfld_ended]
  exact (hrail x).2

/-! ### Proportional channels, load switches, sense groups -/

/-- DISABLE and CLR of PVC: a bit and a field beside it are cleared in the channel's STAT. -/
theorem Commands.runs_pvClearing {op : Nat} (k : Fin 24) {i hi lo : Nat} (h2 : 2 ≤ op) (h3 : op ≤ 3) (hlo : i < lo) (hhi : lo ≤ hi)
    (hw : hi < 32) (hE : ∀ s : State, pvcExec s l 8 (op * 2 ^ 28 + k) =
      rsetf (rsetb s .a (pvReg k 0x14) i false) .a (pvReg k 0x14) hi lo 0) :
    Runs s l n [0xF0340008, op * 2 ^ 28 + k] fun t =>
      rbit t .a (pvReg k 0x14) i = false ∧ rfld t .a (pvReg k 0x14) hi lo = 0 ∧ regsBut [pvReg k 0x14] s t := by
  have hcleared (s : State) := cleared_bit_field s (pvReg k 0x14) hlo hhi hw
  refine h.runs (E := fun s => rsetf (rsetb s .a (pvReg k 0x14) i false) .a (pvReg k 0x14) hi lo 0) (fun c x hw => ?_)
    (fun x => only_mono (hcleared { s with seqs := x }).1 (by decide)) fun x => ?_
  · rw [seqExec_pvc (off := 8) hw (by decide) (pvcJudge_cmd k.isLt h2 h3), hE]
  · obtain ⟨-, hbit, hfld, hregs⟩ := hcleared { s with seqs := x }
    rw [rbit_ended, rfld_ended]
    exact ⟨hbit, hfld, regsBut_ended hregs⟩

theorem Commands.runs_lsClr (k : Fin 32) : Runs s l n [0xF0380008, 3 * 2 ^ 28 + k] fun t =>
    rfld t .a (lsReg k 4) 5 4 = 0 ∧ rfld t .a (lsReg k 4) 10 7 = 0 ∧ regsBut [lsReg k 4] s t ∧
      (lsBit s k 4 || lsBit s k 5 → lsBit t k 0 = false ∧ lsBit t k 2 = false) := by
  have hcleared (s : State) := cleared_switch (s := s) (l := l) k.isLt
  refine h.runs (E := fun s => lswExec s l 8 (3 * 2 ^ 28 + k)) (fun c x hw => ?_)
    (fun x => only_mono (hcleared { s with seqs := x }).1.1 (by decide)) fun x => ?_
  · exact seqExec_lsw (off := 8) hw (by decide) (lswJudge_clr k.isLt)
  · obtain ⟨⟨-, hregs⟩, hlatch, hflags, hoff⟩ := hcleared { s with seqs := x }
    rw [rfld_ended, rfld_ended, lsBit, lsBit, lsBit, lsBit, rbit_ended, rbit_ended]
    exact ⟨hlatch, hflags, regsBut_ended hregs, hoff⟩

theorem Commands.runs_conversion (g : Fin 4) (v : Word) (hfree : (tget s.out.dirs g.val).isSome = false) :
    Runs s l n [sgReg g 0, v.toNat] fun t => tget t.out.dirs g.val = some ⟨v.toNat % 8, slotNext s g + 250⟩ ∧
      tget t.out.scan g = tget s.out.scan g + 250 ∧ regsBut [sgReg g 0] s t := by
  have hreg : sgReg g 0 = Block.lsw.base + (0x80 + 0x10 * g) := by unfold sgReg; omega
  have hpending (s : State) := requested_conversion (s := s) (l := l) g v.toNat
  refine h.runs (E := fun s => lswExec s l (0x80 + 0x10 * g) v.toNat) (fun c x hw => ?_)
    (fun x => only_mono (hpending { s with seqs := x }).1 (by decide)) fun x => ?_
  · exact seqExec_lsw (hreg ▸ hw) (by omega) (lswJudge_sense g hfree _)
  · obtain ⟨-, hdirs, hscan, hregs⟩ := hpending { s with seqs := x }
    rw [modeStep_out, keep_out]
    exact ⟨hdirs, hscan, regsBut_ended hregs⟩

end

/-- Settles O40: each command reaches its sequencer and does there what its rule says. -/
theorem outputCommandsTakeEffect : Obligations.OutputCommandsTakeEffect := by
  unfold Obligations.OutputCommandsTakeEffect
  intro s l n hlit htakes halone howner
  have h : Commands s l n := ⟨hlit, htakes, halone, howner⟩
  refine ⟨fun c _ => ⟨h.runs_stop c, ?_, ?_, h.runs_disable c⟩,
    fun b _ => ⟨h.runs_profile b, h.runs_bhsflt b, h.runs_rail b⟩, fun k _ => ⟨?_, ?_⟩, fun k _ => h.runs_lsClr k,
    fun g v _ hfree => h.runs_conversion g v hfree⟩
  · exact h.runs_clearing c 4 (by decide) (by decide) fun s => ddvExec_clr c.isLt
  · exact h.runs_clearing c 5 (by decide) (by decide) fun s => ddvExec_enable c.isLt
  · exact h.runs_pvClearing k (by decide) (by decide) (by decide) (by decide) (by decide) fun s => pvcExec_disable k.isLt
  · exact h.runs_pvClearing k (by decide) (by decide) (by decide) (by decide) (by decide) fun s => pvcExec_clr k.isLt

end Sys2Proof.Machine
end
